-- ==== Sys2Proof/Word.lean ====
section
/-! DEFINITION. Words and the plainest arithmetic on them: bits of a number, 64-bit values held in two 32-bit words,
signed readings and saturation. -/

namespace Sys2Proof

/-- A byte of storage. -/
abbrev Byte := BitVec 8

/-- A register word as it travels on the bus. -/
abbrev Word := BitVec 32

/-- The `w` bits of `v` from bit `lo` up. -/
def bitsOf (v lo w : Nat) : Nat := v / 2 ^ lo % 2 ^ w

/-- Bit `i` of `v`. -/
def bitAt (v i : Nat) : Bool := v / 2 ^ i % 2 == 1

/-- `v` with bit `i` made `b`. -/
def putBit (v i : Nat) (b : Bool) : Nat :=
  if bitAt v i = b then v else if b then v + 2 ^ i else v - 2 ^ i

/-- One bit as a number. -/
def bit1 (b : Bool) : Nat := if b then 1 else 0

/-- A number reduced to `w` bits, two's complement for a negative one. -/
def un (w : Nat) (x : Int) : Nat := (x % (2 ^ w : Nat)).toNat

/-- The signed reading of the low `w` bits of `v`. -/
def sx (w v : Nat) : Int :=
  if v % 2 ^ w < 2 ^ (w - 1) then ((v % 2 ^ w : Nat) : Int) else ((v % 2 ^ w : Nat) : Int) - (2 ^ w : Nat)

/-- The value `v` stopped at the largest number of `w` bits (R80). -/
def sat (w v : Nat) : Nat := min v (2 ^ w - 1)

/-- A whole number stopped at both ends of the signed range of `w` bits. -/
def satS (w : Nat) (x : Int) : Int :=
  max (-(2 ^ (w - 1) : Nat) : Int) (min x ((2 ^ (w - 1) : Nat) - 1 : Int))

/-- `x` moved to the nearest number from `lo` to `hi` (R86). -/
def clampN (lo hi x : Nat) : Nat := if x < lo then lo else if hi < x then hi else x

/-- `x` moved to the nearest whole number from `lo` to `hi` (R86). -/
def clampI (lo hi x : Int) : Int := if x < lo then lo else if hi < x then hi else x

/-- The number of bits of `v` below `n` that are 1. -/
def popcount (v : Nat) : Nat → Nat
  | 0 => 0
  | n + 1 => popcount v n + bit1 (bitAt v n)

/-- The lowest `n` numbers at which `f` holds, as a mask. -/
def maskOf (f : Nat → Bool) : Nat → Nat
  | 0 => 0
  | n + 1 => maskOf f n + if f n then 2 ^ n else 0

/-- The integer part of the square root of `n`, by `k` bits of search from the top. -/
def isqrtBits (n : Nat) : Nat → Nat → Nat
  | 0, r => r
  | k + 1, r =>
    let r' := r + 2 ^ k
    isqrtBits n k (if r' * r' ≤ n then r' else r)

/-- The integer part of the square root. -/
def isqrt (n : Nat) : Nat := isqrtBits n 64 0

end Sys2Proof
end

