-- ==== Sys2Proof/Syntax.lean ====
section
/-! DEFINITION. The commands of the block: one constructor of Instr for each row of spec/opcode_table.json, with the
operands the rules give it. A command is a write or read of a register, a line on the service link, or a happening at a
pin, on a network or inside an engine. Where the spec lets a happening carry a measured quantity (a voltage, a current,
an encoder count, a received frame), the quantity is an operand. -/

namespace Sys2Proof

/-- Who sends a register access (R90): the host or the service tool. -/
inductive Src where
  | host | tool
  deriving DecidableEq, Repr

/-- Width of a bus access in bytes (R88). -/
inductive Width where
  | w1 | w2 | w4 | w8
  deriving DecidableEq, Repr

/-- The three copies of a triplicate field as the scrubber finds them (R84): byte address of the register in the page
window, lowest bit of the field, the copies. -/
structure Copies where
  addr : Nat
  lo   : Nat
  a    : Nat
  b    : Nat
  c    : Nat
  deriving DecidableEq, Repr

/-- The registers by which the host claims shared resources (R92). -/
inductive ResReg where
  | dir | cstep | mon
  deriving DecidableEq, Repr

/-- The four supply inputs (R39). -/
inductive Supply where
  | battL | battD | battGA | battGB
  deriving DecidableEq, Repr

/-- The two Gallery banks (R252). -/
inductive Bank where
  | a | b
  deriving DecidableEq, Repr

/-- A condition that keeps a bank off and has ended (R266): its overvoltage, its reversal, the loss of its reference. -/
inductive BankEnd where
  | ov (b : Bank)
  | rev (b : Bank)
  | gnd (b : Bank)
  deriving DecidableEq, Repr

/-- The two safety channels (R210). -/
inductive Channel where
  | saf | col
  deriving DecidableEq, Repr

/-- The safety inputs (R20, R23, R24, R25). -/
inductive Input where
  | estop1 | estop2 | zsA | zsB | relL | relR | edmA | edmB | thANo | thANc | thBNo | thBNc | reset | depot
  | dclL (n : Fin 8) | dclR (n : Fin 8) | lockfb (n : Fin 8) | stowed (n : Fin 8) | closedSw (n : Fin 8)
  | egrA (n : Fin 8) | egrB (n : Fin 8) | isol (n : Fin 8) | edgeL (n : Fin 8) | edgeR (n : Fin 8)
  | lcA (n : Fin 8) | lcB (n : Fin 8) | openSw (n : Fin 8) | deployed (n : Fin 8)
  deriving DecidableEq, Repr

/-- What a filter accepts: open, OFF, inactive or at rest; made, ON, active or actuated; the fault band of an edge loop. -/
inductive Level where
  | off | on | fault
  deriving DecidableEq, Repr

/-- What one axis is sampled as at an update (R93 step 1, R119, R125, R131, R132): change of the A/B count, whether both A
and B changed, a rising Z edge, the phase currents in mA, the applied phase voltages in mV, and the two switch levels. -/
structure AxSample where
  count   : Int
  illegal : Bool
  z       : Bool
  iU      : Int
  iV      : Int
  iW      : Int
  uU      : Int
  uV      : Int
  uW      : Int
  closed  : Bool
  opened  : Bool
  deriving DecidableEq, Repr

/-- An axis at rest with nothing measured. -/
def AxSample.quiet : AxSample := ⟨0, false, false, 0, 0, 0, 0, 0, 0, false, false⟩

/-- How the calibration of a head was obtained in CALIB (R156): a read failed its CRC or its rays, the stored copy was
verified, or the table was read (its non-zero words, by word offset from its start). -/
inductive CalRead where
  | failed | cached
  | read (words : List (Nat × Nat))
  deriving DecidableEq, Repr

/-- The two-channel pairs of the safety inputs (R217, R218, R225). -/
inductive Pairing where
  | estop | zs | edm | lc (n : Fin 8) | egr (n : Fin 8)
  deriving DecidableEq, Repr

/-- A frame on a CAN bus (R286): XL, FD, extended identifier, identifier in 29 bits, bit-rate switch, error state, remote,
simple extended content, SDT, VCID, DLC as received, acceptance field, data bytes. -/
structure CanFrame where
  xl   : Bool
  fd   : Bool
  ide  : Bool
  id   : Nat
  brs  : Bool
  esi  : Bool
  rtr  : Bool
  sec  : Bool
  sdt  : Nat
  vcid : Nat
  dlc  : Nat
  af   : Nat
  data : List Nat
  deriving DecidableEq, Repr

/-- How an arbitration goes (R292): it begins, it is won, it is lost. -/
inductive ArbStep where
  | begin | won | lost
  deriving DecidableEq, Repr

/-- Kinds of CAN error (R294). -/
inductive CanError where
  | stuff | form | ack | bit1 | bit0 | crc
  deriving DecidableEq, Repr

/-- On which side of a frame a controller meets an error (R294): it receives the frame, or it transmits it, with the delay it has
measured in CAN clock periods if the frame has passed the edge for that (R283). -/
inductive CanSide where
  | rx
  | tx (tdc : Option Nat)
  deriving DecidableEq, Repr

/-- What the transceiver of a controller sees on its bus in standby (R298): a dominant level of 5 µs or longer, or a frame with the
code of its rate in the layout of WUF_RATE. -/
inductive CanWake where
  | dominant
  | frame (rate : Fin 4) (f : CanFrame)
  deriving DecidableEq, Repr

/-- An Ethernet frame at a port of the switch (R302): whether its FCS holds, its bytes from the destination address on, ComId
and dataset where it is TRDP process data, the time of its end in µs. -/
structure EcnFrame where
  fcsOk : Bool
  bytes : List Nat
  pd    : Option (Nat × List Nat)
  us    : Nat
  deriving DecidableEq, Repr

/-- A frame the host hands over in a TX ring (R305): the priority its descriptor gives, its bytes from the destination address on, the
time of its end in µs. -/
structure HostFrame where
  prio  : Fin 8
  bytes : List Nat
  us    : Nat
  deriving DecidableEq, Repr

/-- What one MVB line carries of a frame (R307). -/
inductive MvbLine where
  | good | bad | none
  deriving DecidableEq, Repr

/-- What a master frame asks for: the data of a port address, or the status of a device address (R307). -/
inductive MvbAsk where
  | port (addr : BitVec 12) | status (addr : BitVec 12)
  deriving DecidableEq, Repr

/-- TRDP process data (R306): its ComId and its dataset. -/
structure ProcessData where
  comId   : Nat
  payload : List Nat
  deriving DecidableEq, Repr

/-- A frame that carries a Dvorud message (R313), by its carrier. -/
inductive DvrFrame where
  | ecn (port : Fin 2) (buf : Word) (f : EcnFrame) | can (n : Fin 4) (f : CanFrame) (us : Nat) | lgl (bytes : List Nat)
  deriving DecidableEq, Repr

/-- The NAND areas of the recorder (R335). -/
inductive NandArea where
  | archive | trace | clip | system
  deriving DecidableEq, Repr

/-- How a NAND program or erase verifies (R335, R344): good; a block failed and is set aside; the area can no longer hold
its guaranteed capacity. -/
inductive NandResult where
  | good | blockBad | areaBad
  deriving DecidableEq, Repr

/-- A wake source (R53): a CAN controller and how it woke, a release line, a field input and the voltage in 0.1 V that it has held
for 10 ms (R277), a Drip alarm. -/
inductive WakeSrc where
  | can (n : Fin 4) (how : CanWake)
  | relL | relR
  | fi (i : Fin 64) (dv : Int)
  | drip
  deriving DecidableEq, Repr

/-- What the boot ROM finds in an image slot (R63): whether its signature verifies, its security version. -/
structure Image where
  signed  : Bool
  version : Word
  deriving DecidableEq, Repr

/-- The configuration words of the Drip alarms (R359), the delay apart. -/
inductive AlarmWord where
  | hi | lo | mask | en
  deriving DecidableEq, Repr

/-- The functional tests in the order of R374, each with its doorway, axis or channel; `unknown` is any other name or argument. -/
inductive TestName where
  | supply | clocks | inputs | adcl
  | sto (a : Fin 16) | align (a : Fin 16) | move (n : Fin 8) | force (n : Fin 8) | home (a : Fin 16) | lock (n : Fin 8)
  | gal (c : Fin 48) | fo (n : Fin 32) | can (n : Fin 4)
  | net | heads | recorder | unknown
  deriving DecidableEq, Repr

/-- The commands of the block, in the order of spec/opcode_table.json. -/
inductive Instr where
  /-- REGISTER_WRITE (R88): A host write to a register or field with no behaviour of its own is stored, clamped,
  discarded or counted under the access rules, and the first write to a W1 field fixes it. The operands are the
  sender, the bus address, the width and the data. -/
  | registerWrite (src : Src) (addr : Word) (wd : Width) (val : BitVec 64)
  /-- BIT_ALIAS_WRITE (R85): A write to an alias word sets or clears one bit in an indivisible read-modify-write
  under the access rules of the addressed field. The address lies in the alias window. -/
  | bitAliasWrite (src : Src) (addr : Word) (wd : Width) (val : Word)
  /-- WIDE_HIGH_WRITE (R83): A write of the high word of a 64-bit value stages that word and changes nothing else.
  -/
  | wideHighWrite (src : Src) (addr : Word) (val : Word)
  /-- WIDE_LOW_WRITE (R83): A write of the low word of a 64-bit value applies it together with the staged or
  in-force high word in one step and ends the stage. -/
  | wideLowWrite (src : Src) (addr : Word) (val : Word)
  /-- IND_ADDR_WRITE (R89): A write of IND_ADDR sets the indirect address, clamped at the end of the space, and
  starts a prefetch of the new word. -/
  | indAddrWrite (src : Src) (pg : Fin 256) (val : Word)
  /-- IND_CTRL_WRITE (R89): A write of IND_CTRL selects the indirect space or sets INC_DIS, and a change of SPACE
  starts a prefetch. -/
  | indCtrlWrite (src : Src) (pg : Fin 256) (val : Word)
  /-- IND_DATA_READ (R89): A read of IND_DATA returns the prefetched word and then advances IND_ADDR unless INC_DIS
  is 1, which starts the next prefetch. -/
  | indDataRead (src : Src) (pg : Fin 256)
  /-- IND_DATA_WRITE (R89): A write of IND_DATA posts the word to the present indirect address and advances
  IND_ADDR, or is discarded at the end of the space or while its domain is off. -/
  | indDataWrite (src : Src) (pg : Fin 256) (val : Word)
  /-- IND_PREFETCH_DONE (R89): An indirect prefetch completes, and IND_BUSY clears. -/
  | indPrefetchDone (src : Src) (pg : Fin 256)
  /-- IND_POSTED_WRITE_DONE (R89): A posted indirect write completes in storage at its address, and IND_BUSY
  clears. -/
  | indPostedWriteDone (src : Src) (pg : Fin 256)
  /-- VOTE_SCRUB (R84): The scrubber compares the three copies of every triplicate field at least once per
  millisecond and rewrites each copy that differs from the majority. The operand lists the triplicate fields whose
  copies the scrubber finds different. -/
  | voteScrub (found : List Copies)
  /-- DOMAIN_ON (R77): A power domain comes on, applies the stored host writes in order, and re-evaluates status
  fields within 1 ms. -/
  | domainOn (d : Fin 12)
  /-- DOMAIN_OFF (R77): A power domain goes off, and its pages freeze their status and counters with DOM_OFF set.
  -/
  | domainOff (d : Fin 12)
  /-- HOST_RES_CLAIM (R92): A host write of HOST_DIR, HOST_CSTEP or HOST_MON claims or releases shared resources
  under the ownership ranking. -/
  | hostResClaim (src : Src) (reg : ResReg) (val : Word)
  /-- LAMP_TEST_END (R35): The 200 ms lamp test ends, and the LEDs show their normal meanings. -/
  | lampTestEnd
  /-- BATTL_INTERRUPT (R41): BATT_L falls below 14.0 V, and the hold-up capacitors keep every domain running.
  BATT_L in mV. -/
  | battlInterrupt (mv : Int)
  /-- BATTL_RETURN (R41): BATT_L returns within the hold-up, and nothing changes. BATT_L in mV. -/
  | battlReturn (mv : Int)
  /-- PF_WARN (R41): The hold-up rail falls below its threshold: PF_WARN sets, the host is interrupted, torque is
  removed, Gallery channels go off and the ADCL coils are released. -/
  | pfWarn
  /-- POWER_DOWN_COMPLETE (R41): The power-down ends with P2–P11 off, and PF_CNT counts it. -/
  | powerDownComplete
  /-- POWER_ON_START (R58): BATT_L reaches 15.5 V, and the five-step start-up sequence begins. BATT_L in mV. -/
  | powerOnStart (mv : Int)
  /-- SUPPLY_LEVEL_CHANGE (R39): A supply crosses one of its thresholds, which changes BATTL_LOW, BATTL_OK,
  BATTD_OK, GA_OK or GB_OK. The supply and its voltage in mV. -/
  | supplyLevelChange (sup : Supply) (mv : Int)
  /-- BATTD_OV_OPEN (R39): BATT_D above 200 V for more than 1 ms opens the input switch and sets BATTD_OV. -/
  | battdOvOpen (mv : Int)
  /-- BATTD_OV_CLOSE (R39): BATT_D below 170 V for 10 ms closes the input switch again. -/
  | battdOvClose (mv : Int)
  /-- CHOPPER_ON (R43): The bus exceeds the chopper turn-on level, and the brake chopper conducts within its energy
  budget. The bus reference voltage in mV. -/
  | chopperOn (bus : Nat)
  /-- CHOPPER_OFF (R43): The bus falls 4 V below the chopper turn-on level, and the chopper stops. The energy it
  has taken, in J. -/
  | chopperOff (joule : Nat)
  /-- CHOP_BUDGET_RESTORED (R43): The rolling chopper energy falls below 11 kJ, and CHOP_SPENT clears. -/
  | chopBudgetRestored
  /-- BUS_OVERVOLTAGE (R44): The bus stays above 190 V for more than 100 µs, Column removes torque from all axes,
  and BUS_OV_CNT counts it. The bus voltage in mV, also when it has fallen back. -/
  | busOvervoltage (mv : Nat)
  /-- MODE_REQ_WRITE (R56): A write of MODE_REQ requests Parked, Idle or Active: ACTIVE is a release request, and
  another value cancels a waiting park request. The word written to register 0x040 of page PWR. -/
  | modeReqWrite (src : Src) (val : Word)
  /-- ACTIVE_GATE_READBACK_DONE (R51): The gate-drive readback after P9 switches on passes, and the bridges are
  ready with torque off. The axis whose readback failed, if one did. -/
  | activeGateReadbackDone (bad : Option (Fin 16))
  /-- ACT_RDY_SET (R51): ACT_RDY sets when every in-service head delivers frames, or at latest 1.4 s after the
  release request. Whether 1.4 s have run since the release request. -/
  | actRdySet (late : Bool)
  /-- IDLE_DELAY_EXPIRY (R52): The idle conditions hold for IDLE_DELAY_S with MODE_REQ IDLE or PARKED, and the
  module enters Idle with P4, P6 and P9 off. -/
  | idleDelayExpiry
  /-- WAKE_EVENT (R53): An enabled wake source (CAN, REL edge, field input or Drip alarm) starts a Parked module,
  and PWR_WAKE_CAUSE records it. -/
  | wakeEvent (src : WakeSrc)
  /-- PARK_START (R54): With MODE_REQ PARKED, the module in Idle, the idle conditions holding and every step
  stowed, the module arms its wake sources and begins to park. -/
  | parkStart
  /-- PARK_LATE_WAKE (R54): A wake event after the wake sources are armed is latched with PARK_LATE, and the
  power-down continues. -/
  | parkLateWake (src : WakeSrc)
  /-- PARK_COMPLETE (R54): P2–P11 are off except the CAN wake path, the module is Parked, and a latched late wake
  starts it again at once. -/
  | parkComplete
  /-- CRAWL_P10_OFF (R47): In Parked, P10 goes off 10 s after CRAWL_EN is released. -/
  | crawlP10Off
  /-- CLOCK_FAILURE (R50): A clock absent or more than ±2 % off for 1 ms sets its CLK_FAIL bit and stops its block
  or brings the safety reaction. The clock, whether it fails or is good again, its measured error in 0.01 %. -/
  | clockFailure (d : Fin 14) (bad : Bool) (err : Fin 65536)
  /-- CELL_MEASURE (R55): The J35 cell voltage is measured at each start and hourly, which updates BK_CELL and
  CELL_LOW. Both in mV. -/
  | cellMeasure (vcell vcap : Nat)
  /-- CLOCK_MEASURE_DONE (R57): The 1 s gate of the selected clock domain ends, and MEAS_HZ is updated. -/
  | clockMeasureDone (hz : Nat)
  /-- SELF_TEST_STEP_PASS (R58): A start-up step passes, its ST_DONE bit sets and the next step begins. Steps 1 to
  5 in order. -/
  | selfTestStepPass (k : Fin 5)
  /-- SELF_TEST_STEP_FAIL (R61): A start-up step fails, REFUGE_CAUSE records step, code and detail, and the module
  enters Refuge. Steps 1 to 5 in order; code and detail of R61. -/
  | selfTestStepFail (k : Fin 5) (code : Fin 256) (detail : Fin 65536)
  /-- LPDDR5_WIPE_DONE (R58): The LPDDR5 wipe completes and verifies, P4 and P6 come on, and head training starts.
  The channel whose verification failed, if one did; doorways whose stored background fails its CRC. -/
  | lpddr5WipeDone (bad : Option (Fin 65536)) (bgBad : Fin 256)
  /-- HOST_START (R63): The boot ROM verifies an image, falling back to the other slot if needed, and starts the
  host. What each slot holds. -/
  | hostStart (a b : Image)
  /-- HOST_RDY_WRITE (R73): The host writes HOST_RDY, which passes step 4 of start-up. The word written to register
  0x054 of page SYS. -/
  | hostRdyWrite (src : Src) (val : Word)
  /-- HOST_RDY_TIMEOUT (R61): HOST_RDY is not written by 3.5 s, and the module enters Refuge with cause 0x43. -/
  | hostRdyTimeout
  /-- REFUGE_MONITOR_POWER_ON (R62): One second after a start whose step 1 failed, the sequencer switches on P3,
  P5, P7 and P8 for the Refuge monitor. -/
  | refugeMonitorPowerOn
  /-- GALLERY_DEFERRED_TEST (R59): A deferred Gallery off-state test runs within 50 ms of its bank's OK bit
  setting, and a failure sends the module to Refuge. The bank; the channel that failed, if one did. -/
  | galleryDeferredTest (b : Bank) (bad : Option (Fin 48))
  /-- BOOT_CONFIRM_WRITE (R63): The host confirms a trial image, which raises ROLLBACK_MIN to the image's security
  version. The word written to register 0x048 of page BOOT. -/
  | bootConfirmWrite (src : Src) (val : Word)
  /-- REFUGE_ANNOUNCE (R64): Every 500 ms the Refuge monitor announces Refuge and its cause on ECN, CAN and MVB.
  Whether the MRAM configuration can be read. -/
  | refugeAnnounce (cfgOk : Bool)
  /-- LC_WIPES_DONE (R68): The wipes of an accepted life-cycle change complete, the wipe-pending mark clears and
  the module restarts. Whether the MRAM wipe failed its verification; the NAND area that did. -/
  | lcWipesDone (mramBad : Bool) (nandBad : Option (Fin 7))
  /-- RST_REQ_WRITE (R72): A host write of RST_REQ requests a restart, accepted only when no axis moves and every
  doorway is locked, and otherwise refused and counted. The word written to RST_REQ. -/
  | rstReqWrite (src : Src) (val : Word)
  /-- HOST_WD_KICK_WRITE (R72): The host writes the kick value and restarts the watchdog period. The word written
  to HOST_WD_KICK. -/
  | hostWdKickWrite (src : Src) (val : Word)
  /-- HOST_WD_EXPIRY (R72): The host watchdog expires: Crawl engages, the motion permits are withdrawn, moving axes
  stop and the field outputs open. -/
  | hostWdExpiry
  /-- WD_RESTART_DUE (R72): With WD_RESTART 1, the module restarts 2 s after watchdog expiry. -/
  | wdRestartDue
  /-- TRAVERSE_UPDATE (R93): The 50 µs update samples every axis, applies host commands, starts, joins and ends
  moves, interpolates and drives the bridges. One sample per axis, AX0 first; the summed current demand of the
  motoring axes at BATT_D in 0.1 A. -/
  | traverseUpdate (samples : List AxSample) (demand : Nat)
  /-- TORQUE_RAMP_END (R113): The 20 ms torque-on amplitude ramp ends, and moves may start. -/
  | torqueRampEnd (n : Fin 16)
  /-- HOLD_REDUCTION_START (R116): After AX_HOLD_DELAY of rest the amplitude falls to the hold amplitude over 20
  ms, and HOLD sets. -/
  | holdReductionStart (n : Fin 16)
  /-- AX_PUSH (R103): The PUSH command clamps the staged target and queues the entry; a REPLACE entry flushes the
  queue and may join at once. -/
  | axPush (src : Src) (n : Fin 16)
  /-- AX_STOP (R109): The STOP command stops the axis at the next update. -/
  | axStop (src : Src) (n : Fin 16)
  /-- AX_FLUSH (R107): The FLUSH command discards every queued entry and leaves the running move untouched. -/
  | axFlush (src : Src) (n : Fin 16)
  /-- AX_REVERSE (R111): The REVERSE command flushes the queue, decelerates along REV_PRF if needed and moves to
  the staged target. -/
  | axReverse (src : Src) (n : Fin 16)
  /-- PRF_COMMIT (R99): A commit validates a profile, sets its PRF_VALID bit, or records the reason in PRF_ERR. The
  word written to PRF_COMMIT. -/
  | prfCommit (src : Src) (n : Fin 16) (val : Word)
  /-- TRV_GO_WRITE (R106): A TRV_GO write releases the GO_WAIT head entries of the named axes to start together.
  The word written to TRV_GO. -/
  | trvGoWrite (src : Src) (val : Word)
  /-- TORQUE_REQ_WRITE (R113): A write of TORQUE_REQ requests torque, clamped to 0 without valid stop and reversal
  profiles; clearing it while moving stops the axis. The word written to register 0x044 of the AX page. -/
  | torqueReqWrite (src : Src) (n : Fin 16) (val : Word)
  /-- AX_MODE_WRITE (R115): A write of MODE to COARSE at rest claims the CSTEP/CDIR pair, or clamps to PROFILE when
  the claim fails. The word written to register 0x044 of the AX page. -/
  | axModeWrite (src : Src) (n : Fin 16) (val : Word)
  /-- AX_EN_WRITE (R118): Writing 0 to EN of page TRV or an AX page withdraws the torque request of every axis
  concerned and stops it. PG_CTRL of page AXn, or of page TRV for none. -/
  | axEnWrite (src : Src) (pg : Option (Fin 16)) (val : Word)
  /-- TORQUE_REMOVAL (R112): The gate-driver supply of a bridge fails, STO sets at once, and at the next update the
  move ends and the queue is flushed. -/
  | torqueRemoval (n : Fin 16)
  /-- TBL_CRC_UPDATE (R96): Within 1 ms of the last write to a microstep table, its TBL_CRCn is updated. -/
  | tblCrcUpdate (t : Fin 4)
  /-- CSTEP_EDGE (R115): A rising CSTEP edge moves the coarse target by AX_INTERP in the CDIR direction, or is
  discarded or dropped. The doorway, the level of CDIR at the edge, the time since the previous edge in µs. -/
  | cstepEdge (n : Fin 8) (cdir : Bool) (tc : Nat)
  /-- ENCODER_LOST (R120): The encoder is lost, which is a deviation fault with cause 0x02; HOMED clears and the
  safety processor withholds the permits. -/
  | encoderLost (n : Fin 16)
  /-- DEVIATION_DECISION (R121): The deviation counter reaches AX_DEV_N, and the deviation is judged as a slip or a
  fault. -/
  | deviationDecision (n : Fin 16)
  /-- SWITCH_ACCEPTED (R125): A limit switch change is accepted at the 41st equal sample, and its position is
  captured. The OPEN or DEPLOYED switch where opened, else CLOSED or STOWED. -/
  | switchAccepted (n : Fin 16) (opened : Bool)
  /-- HOME (R127): The HOME command starts homing through back-off, search and settle, or is discarded. -/
  | home (src : Src) (n : Fin 16)
  /-- HARD_STOP_FOUND (R129): In hard-stop mode, force above HOME_FORCE with the axis stalled for 40 updates gives
  the reference and ends Search. -/
  | hardStopFound (n : Fin 16)
  /-- LEARN (R133): The LEARN command starts collecting learning runs for the force envelope. -/
  | learn (src : Src) (n : Fin 16)
  /-- LEARN_ABORT (R133): LEARN_ABORT discards the collected runs and clears LEARN. -/
  | learnAbort (src : Src) (n : Fin 16)
  /-- FORCE_TRIP (R135): FORCE_EST exceeds the threshold for 4 consecutive updates while moving, which trips a
  reversal or a stop. -/
  | forceTrip (n : Fin 16)
  /-- REVERSAL_REQUEST (R136): A reversal request from the safety processor reaches Traverse and starts an obstacle
  reversal at the next update. -/
  | reversalRequest (n : Fin 16)
  /-- SQZ_CHANGE (R137): The safety processor marks or unmarks a doorway for Squeeze, which sets or clears SQZ and
  its limits on the door axis. -/
  | sqzChange (n : Fin 8)
  /-- STEP_OUT (R140): The STEP_OUT command extends the step towards the initial target and follows the gap
  measurements. -/
  | stepOut (src : Src) (n : Fin 16)
  /-- GAP_MM_RECEIVED (R140): A GAP_MM result reaches the step axis, a gap target is formed, and it replaces the
  running target if it differs by 1 mm or more. Step axis AX(8+n), the gap in mm and its mark, the instant in µs. -/
  | gapMmReceived (n : Fin 8) (gap : Nat) (valid : Bool) (us : Nat)
  /-- GAP_STALE (R140): No valid GAP_MM for 150 ms after one has arrived stops the extension with STEP_INFO 0x04.
  -/
  | gapStale (n : Fin 8)
  /-- HEAD_PRESENT (R145): A port draws 20 mA or more, and PRESENT sets. The port's measured power in 0.1 W and
  voltage in 10 mV. -/
  | headPresent (h : Fin 16) (mw v : Nat)
  /-- HEAD_LINK_READY (R146): The head link is ready, and the port starts training. -/
  | headLinkReady (h : Fin 16)
  /-- LINK_READY_TIMEOUT (R146): 250 ms after PRESENT without link ready, the port goes to FAULT. -/
  | linkReadyTimeout (h : Fin 16)
  /-- LINK_TRAIN_DONE (R146): Training at G2 or G1 ends, and the port goes to IDENT, or to FAULT if neither gear
  trained. The gear trained, 0 for neither. -/
  | linkTrainDone (h : Fin 16) (gear : Fin 3)
  /-- IDENT_DONE (R147): The identity block is read and the version negotiated, and the head is accepted or
  rejected. The 256 bytes of the identity block; whether the pixel format is the one of R147. -/
  | identDone (h : Fin 16) (id : List Nat) (fmtOk : Bool)
  /-- CALIB_READ_DONE (R156): The calibration table is read and checked, and the port enters RUN or retries. -/
  | calibReadDone (h : Fin 16) (rd : CalRead)
  /-- HEAD_LINK_LOSS (R146): Loss of lock, 16 line CRC errors in 100 ms or loss of PRESENT puts the port into
  FAULT. Whether PRESENT is lost too. -/
  | headLinkLoss (h : Fin 16) (gone : Bool)
  /-- PORT_FAULT_WAIT_END (R146): The FAULT wait ends, and the port returns to POWER. -/
  | portFaultWaitEnd (h : Fin 16)
  /-- RETRAIN (R161): The RETRAIN command is treated as a link loss and retrains the port. -/
  | retrain (src : Src) (h : Fin 16)
  /-- RECAL (R156): The RECAL command forces a full calibration read. -/
  | recal (src : Src) (h : Fin 16)
  /-- HEAD_POWER_TRIP (R144): A port overload or short trips the port's power, and PWR_TRIP sets. -/
  | headPowerTrip (h : Fin 16)
  /-- HEAD_POWER_RETRY (R144): 5 s after a power trip, the port tries power again. -/
  | headPowerRetry (h : Fin 16)
  /-- HEAD_BUDGET_SHED (R144): Port power above 96 W for 100 ms sheds the highest-drawing port. The measured power
  of every port in 0.1 W, H0 first. -/
  | headBudgetShed (mw : List Nat)
  /-- HEAD_SHED_RESTORE (R144): 10 s after a shed, the port is powered again if the budget allows. The measured
  power of every port in 0.1 W, H0 first. -/
  | headShedRestore (h : Fin 16) (mw : List Nat)
  /-- FRAME_TRIGGER (R152): At the head's grid instant the module triggers a frame over the uplink. The trigger
  instant in µs since the grid began. -/
  | frameTrigger (h : Fin 16) (us : Nat)
  /-- FRAME_LINE_RX (R153): A frame line arrives from a head and is written into its ring slot. Frame number, line
  number, the instant in µs, the pixels of the line, 24 bits each. -/
  | frameLineRx (h : Fin 16) (num line us : Nat) (crcOk : Bool) (pixels : List Nat)
  /-- FRAME_STALE (R158): A port in RUN delivers no complete frame for 100 ms, and FRAME_STALE sets. -/
  | frameStale (h : Fin 16)
  /-- FRAME_PROCESSED (R166): Lantern finishes processing a frame and produces its result record or Glowworm
  report. The instant in µs; the pixels, by index, on which each Glowworm target is found by its amplitude pattern. -/
  | frameProcessed (h : Fin 16) (us : Nat) (targets : List (List Nat))
  /-- GLOWWORM_DECISION (R160): Column decides a check as good, mismatch or unresolved, and draws and stamps the
  next code. The instant in µs. -/
  | glowwormDecision (h : Fin 16) (us : Nat)
  /-- GLOWWORM_SILENCE (R160): 600 ms without a good check makes the doorway's vision untrusted. -/
  | glowwormSilence (h : Fin 16)
  /-- POSE_WRITE (R165): A write of a head pose under the DEPOT key with the door at rest is stored and resets the
  doorway's background. Word k of the head's pose, as it reaches storage. -/
  | poseWrite (src : Src) (h : Fin 16) (k : Fin 16) (val : Word)
  /-- BG_LEARN (R167): The BG_LEARN command starts learning the background of a doorway, or ends with a pose
  failure or is discarded. -/
  | bgLearn (src : Src) (n : Fin 8)
  /-- BG_ABORT (R167): The BG_ABORT command aborts background learning. -/
  | bgAbort (src : Src) (n : Fin 8)
  /-- BG_LEARN_DONE (R168): Learning ends: the STATIC bitmaps are stored with their CRC, or the learning fails as
  unsteady. -/
  | bgLearnDone (n : Fin 8)
  /-- LQ_ACK (R177): LQ_ACK releases the oldest record of a result queue. -/
  | lqAck (src : Src) (h : Fin 16)
  /-- RECORD_AT_SAFETY (R181): The safety processor evaluates a result record for PINCH, THIN and trust, and
  requests a reversal where needed. -/
  | recordAtSafety (h : Fin 16)
  /-- VISION_STALE (R181): No record from a head for 150 ms makes the vision untrusted, and STALE_CNT counts it. -/
  | visionStale (h : Fin 16)
  /-- BURST_REQ_HOLD_END (R180): 250 ms after the burst conditions last held, the burst request is withdrawn. -/
  | burstReqHoldEnd (n : Fin 8)
  /-- THIN_ADCL_HOLD_END (R198): 2000 ms after the last record with THIN, the safety processor again lets the
  doorway count towards ADCL_A. -/
  | thinAdclHoldEnd (n : Fin 8)
  /-- CYC_REQ_WRITE (R188): The host requests a doorway transition, which the supervisor checks at the next tick.
  The word written to CYC_REQ. -/
  | cycReqWrite (src : Src) (n : Fin 8) (val : Word)
  /-- CYCLE_TICK (R188): The 1 ms supervisor tick applies forced transitions and then accepts or refuses pending
  requests. -/
  | cycleTick
  /-- SUPERVISION_TIMEOUT (R196): A state timer expires before completion, TMO sets and an EVENT is recorded. -/
  | supervisionTimeout (n : Fin 8)
  /-- DWELL_DONE_SET (R196): OPEN has lasted DWELL_MS, and DWELL_DONE sets. -/
  | dwellDoneSet (n : Fin 8)
  /-- PAUSE_DONE_SET (R197): AXn has been at rest for CYC_REPAUSE_MS in REVERSING, PAUSE_DONE sets and OBSTRUCTED
  is forced at the retry limit. -/
  | pauseDoneSet (n : Fin 8)
  /-- RECOVER_SETTLE (R194): CL_OK for 100 ms with AXn at rest forces RECOVER to LOCKED. -/
  | recoverSettle (n : Fin 8)
  /-- SEAL_SAMPLE (R214): Every 10 ms each channel samples its pole of all 32 seal switches, and the readings are
  compared. The poles of both banks as each channel samples them. -/
  | sealSample (aSaf aCol bSaf bCol : Fin 65536)
  /-- SEAL_POLE_DISAGREE (R214): Poles of a switch disagree for 50 ms, and the module enters Refuge with cause
  0x24. Switches in order, SW-A1 first. -/
  | sealPoleDisagree (k : Fin 32)
  /-- SEAL_CHANGE (R214): A switch agrees on a changed value for 50 ms, and the module enters Refuge with cause
  0x26. Switches in order, SW-A1 first. -/
  | sealChange (k : Fin 32)
  /-- INPUT_ACCEPTED (R216): A safety input's filter accepts a new level, and the channel re-evaluates permits,
  gates, ADCL, torque and reversal requests. The channel, the input, the level its filter accepts. -/
  | inputAccepted (ch : Channel) (i : Input) (lv : Level)
  /-- CHANNEL_EXCHANGE (R216): Every 1 ms the two channels exchange their accepted readings and latches. -/
  | channelExchange
  /-- INPUT_DISC_LATCH (R216): The two channels' readings of one input disagree for 10 ms, and INPUT_DISC latches.
  -/
  | inputDiscLatch (i : Input)
  /-- PAIR_DISCREPANCY_LATCH (R217): A two-channel pair disagrees beyond the discrepancy time, and its latch sets.
  The channel and the pair. -/
  | pairDiscrepancyLatch (ch : Channel) (p : Pairing)
  /-- TWO_HAND_BUTTON_FAULT (R219): A two-hand button shows an invalid pattern for 50 ms and counts as faulty. The
  channel; button A or, true, button B. -/
  | twoHandButtonFault (ch : Channel) (b : Bool)
  /-- TWO_HAND_WINDOW_EXPIRY (R219): The second button is not actuated within 500 ms of the first, so both must be
  released before a new start. -/
  | twoHandWindowExpiry (ch : Channel)
  /-- HEARTBEAT_LOST (R212): No heartbeat edge from the other channel for its timeout removes torque, opens ADCL
  and sends the module to Refuge. The channel whose heartbeat is lost. -/
  | heartbeatLost (lost : Channel)
  /-- REVERSAL_WATCH_FAIL (R223): DIR_OPEN does not rise within 8 ms of arming, Column removes the axis's torque
  and REV_WATCH latches. -/
  | reversalWatchFail (n : Fin 8)
  /-- GUIDED_CONTACT_FAULT (R224): A guided contact disagrees with its coil drive for 20 ms, which is Refuge cause
  0x33. The contact: ADCL_A or, true, ADCL_B. -/
  | guidedContactFault (b : Bool)
  /-- EDM_CHECK_FAIL (R226): An EDM input fails its phase check within its time, EDM latches in both channels and
  the contacts open. The channel that finds it; EDM_A or, true, EDM_B. -/
  | edmCheckFail (ch : Channel) (b : Bool)
  /-- RESET_RELEASE (R227): RESET returns to inactive after a press, and a valid press clears every latch bit whose
  cause has ended. The channel, how long RESET had read inactive before the press, how long it read active. -/
  | resetRelease (ch : Channel) (inactiveMs pressMs : Nat)
  /-- RESET_STUCK (R227): RESET is active beyond 3 s, and RESET_STUCK sets. -/
  | resetStuck (ch : Channel)
  /-- SP_PERIODIC_TEST_FAIL (R229): A periodic logic or SRAM test of the safety processor fails, and the module
  enters Refuge. Whether the SRAM test failed, else the logic test; the detail of R61. -/
  | spPeriodicTestFail (sram : Bool) (detail : Fin 65536)
  /-- MIRROR_CHECK (R230): Every 10 ms the safety processor compares its voted mirrors with FRAM and rewrites those
  that differ. -/
  | mirrorCheck
  /-- TEST_DUE_SET (R230): An axis has had no gate-drive readback for 24 h, and TEST_DUE sets. -/
  | testDueSet
  /-- SAFE_COPY_RX (R242): A safe telegram copy arrives and is checked; restrictive values act at once and matched
  pairs grant permissive ones. On CAN, or on ECN. -/
  | safeCopyRx (can : Bool) (bytes : List Nat)
  /-- PAIR_TIMEOUT (R247): A pair not completed within 24 ms is closed and counted in SINGLE_CNT. -/
  | pairTimeout (t : Fin 3)
  /-- PERMISSIVE_LAPSE (R248): A permissive value not renewed within PERM_HOLD_MS lapses to its restrictive value.
  -/
  | permissiveLapse (t : Fin 3)
  /-- STREAM_UNSYNC (R242): A stream becomes unsynchronised after 1000 ms without an accepted copy. -/
  | streamUnsync (t : Fin 3)
  /-- NETWORK_LOST (R249): No valid copy on a network for NET_TMO_MS marks it lost, and both lost brings NET_RESTR.
  -/
  | networkLost (can : Bool)
  /-- NET_RESTR_END (R249): NET_RESTR ends once both networks have delivered matched pairs on every configured
  stream for 1 s. -/
  | netRestrEnd
  /-- DOOR_STATUS_SEND (R238): Every 16 ms the safety processor sends its DOOR_STATUS telegram on both networks. -/
  | doorStatusSend
  /-- GC_ON_WRITE (R255): A write of GC_ON_LO or GC_ON_HI sets the host command of channels, with lock-gate and
  Crawl clamps. GC_ON_HI where hi, else GC_ON_LO. -/
  | gcOnWrite (src : Src) (hi : Bool) (val : Word)
  /-- FOLLOW_WRITE (R256): Setting FOLLOW claims the DIRECT pin for Gallery following, or clamps to 0 when the
  claim fails. The word written to register 0x00 of the channel's sub-block. -/
  | followWrite (src : Src) (c : Fin 48) (val : Word)
  /-- DIRECT_EDGE (R256): A DIRECT pin edge switches the channels that follow or Crawl-map it. -/
  | directEdge (p : Fin 16) (active : Bool)
  /-- OC_TRIP (R257): Current above the limit in force for 20 µs turns the channel off and starts a backoff, or
  locks it. The channel and its current in mA. -/
  | ocTrip (c : Fin 48) (ma : Nat)
  /-- RETRY_BACKOFF_END (R257): The backoff ends and the channel retries as a fresh turn-on, if nothing blocks it.
  -/
  | retryBackoffEnd (c : Fin 48)
  /-- RETRY_N_RESET (R257): After 10 s of conduction without a trip, RETRY_N returns to 0. -/
  | retryNReset (c : Fin 48)
  /-- COMMAND_OFF_SETTLED (R257): The effective command has been off for 10 ms, which clears RETRY_N and OC_LOCK.
  -/
  | commandOffSettled (c : Fin 48)
  /-- INRUSH_WINDOW_END (R253): INRUSH_MS after a turn-on, the steady limit comes into force. -/
  | inrushWindowEnd (c : Fin 48)
  /-- THERMAL_LATCH (R259): Tj − Tc reaching 50 K or Tj reaching 175 °C turns the channel off and sets TH_LATCH. Tj
  − Tc in 0.1 K, Tj in °C. -/
  | thermalLatch (c : Fin 48) (dt tj : Int)
  /-- THERMAL_LATCH_CLEAR (R259): Once cooled, the thermal latch clears and the channel turns on again if
  commanded. Tj − Tc in 0.1 K, Tj in °C. -/
  | thermalLatchClear (c : Fin 48) (dt tj : Int)
  /-- CLAMP_UNLOCK (R261): The GAL_CMD unlock ends CLAMP_LOCK if CLAMP_SUM is at most 25 % of the budget and
  TH_LATCH is 0. The word written to GAL_CMD. -/
  | clampUnlock (src : Src) (val : Word)
  /-- CRAWL_CLAMP_UNLOCK (R261): Under Crawl, a mapped channel unlocks by itself once CLAMP_SUM has fallen to 0. -/
  | crawlClampUnlock (c : Fin 48)
  /-- SHED_STEP (R262): Every 100 ms while a bank's mean exceeds its budget, one conducting channel is shed. The
  bank's current and its mean over 1 s, in 10 mA. -/
  | shedStep (b : Bank) (now mean : Nat)
  /-- SHED_RESTORE_STEP (R262): Every 1 s after the mean has been below 90 % for 1 s, one shed channel is restored.
  The bank's current and its mean over 1 s, in 10 mA. -/
  | shedRestoreStep (b : Bank) (now mean : Nat)
  /-- GATE_CUT_BIT_CLEAR (R256): Within 1 ms of a lock gate cut, the Gallery clears the channel's command bit and
  counts GATE_CUT_CNT. -/
  | gateCutBitClear (n : Fin 8)
  /-- CRAWL_EN_FILTER_ACCEPT (R28): The 10 ms CRAWL_EN filter accepts a new level, which engages or disengages
  Crawl. -/
  | crawlEnFilterAccept (active : Bool)
  /-- CRAWL_MAP_WRITE (R265): A write of the Crawl map stores all three Drip copies while Crawl is off. -/
  | crawlMapWrite (src : Src) (k : Fin 12) (val : Word)
  /-- BANK_OVERVOLTAGE (R266): A bank above 180 V for more than 1 ms turns its channels off. -/
  | bankOvervoltage (b : Bank)
  /-- BANK_REVERSE (R266): A reversed bank opens its reverse-blocking switch. -/
  | bankReverse (b : Bank)
  /-- BANK_GROUND_LOSS (R266): Loss of a bank reference turns its channels off within 50 µs. -/
  | bankGroundLoss (b : Bank)
  /-- BANK_RETURN (R266): A bank becomes available again after its return condition holds. -/
  | bankReturn (b : BankEnd)
  /-- BANK_CHANNEL_RESTORE (R266): After a bank returns, its commanded channels turn on one per 1 ms in channel
  order. -/
  | bankChannelRestore (b : Bank)
  /-- BANK_SWITCH_FAULT (R267): A channel commanded off conducting more than 50 mA for 10 ms opens its bank's
  series switch until the next start. -/
  | bankSwitchFault (c : Fin 48)
  /-- BARRIER_LOSS (R272): Loss of the barrier supply opens every field output, makes inputs inactive and sets
  FIO_FAULT. -/
  | barrierLoss
  /-- BARRIER_RETURN (R272): The barrier returns after 10 ms of conditions, outputs follow their commands and input
  filters restart. -/
  | barrierReturn
  /-- FI_ACCEPTED (R274): A field input level held for its filter time is accepted into FI_LO or FI_HI. The voltage
  of the input against its common, in 0.1 V. -/
  | fiAccepted (i : Fin 64) (dv : Int)
  /-- FO_OUT_WRITE (R275): A write of FO_OUT opens or closes field outputs within 1 ms, or is discarded after
  watchdog expiry. -/
  | foOutWrite (src : Src) (val : Word)
  /-- THR_WRITE (R273): A change of THR takes effect within 1 ms and restarts that group's filters. The word
  written to THR. -/
  | thrWrite (src : Src) (val : Word)
  /-- FO_CURRENT_LIMIT (R276): An output in current limit for 2 ms sets FIO_FAULT. -/
  | foCurrentLimit (n : Fin 32)
  /-- FO_THERMAL_SHUTDOWN (R275): An output switch reaching 150 °C shuts down. -/
  | foThermalShutdown (n : Fin 32)
  /-- FO_THERMAL_RESTART (R275): An output cooled by 20 K restarts by itself while its bit is 1. -/
  | foThermalRestart (n : Fin 32)
  /-- FIO_FAULT_CLEAR (R276): FIO_FAULT clears 100 ms after its last cause ends. -/
  | fioFaultClear
  /-- CAN_FRAME_RX (R288): A received CAN frame is filtered to the RX FIFO, an HPB or rejection, or is dropped, and
  safe identifiers go to the safe path. -/
  | canFrameRx (n : Fin 4) (f : CanFrame) (us : Nat)
  /-- CAN_TX_PUSH (R291): PUSH hands a FREE TX entry to the controller as PENDING, or is discarded. -/
  | canTxPush (src : Src) (n : Fin 4) (i : Fin 32)
  /-- CAN_TX_CANCEL (R293): CANCEL removes a pending entry, is held through arbitration, or is too late. -/
  | canTxCancel (src : Src) (n : Fin 4) (i : Fin 32)
  /-- CAN_TX_RELEASE (R291): RELEASE returns a DONE entry to FREE. -/
  | canTxRelease (src : Src) (n : Fin 4) (i : Fin 32)
  /-- CAN_RX_ACK (R290): RX_ACK releases the k oldest FIFO entries and their data. -/
  | canRxAck (src : Src) (n : Fin 4) (k : Fin 256)
  /-- CAN_HPB_RELEASE (R289): RX_ACK releases an HPB and clears HPB_FULLh. -/
  | canHpbRelease (src : Src) (n : Fin 4) (h : Fin 8)
  /-- CAN_TX_START (R292): At arbitration the controller offers its winning pending entry, which wins and becomes
  SENDING or loses and stays PENDING. -/
  | canTxStart (n : Fin 4) (a : ArbStep)
  /-- CAN_TX_COMPLETE (R292): A transmitted frame completes, and its entry becomes DONE with its result. The time,
  and the delay TDC measured in CAN clock periods. -/
  | canTxComplete (n : Fin 4) (us tdc : Nat)
  /-- CAN_BUS_ERROR (R294): A detected bus error updates the error counters, the error state and LEC. Met while
  transmitting; a receiver error of eight counts. -/
  | canBusError (n : Fin 4) (kind : CanError) (tx : CanSide) (big : Bool)
  /-- CAN_RECOVER (R295): The RECOVER command starts bus-off recovery when AUTO_REC is 0. -/
  | canRecover (src : Src) (n : Fin 4)
  /-- CAN_RECOVERY_DONE (R295): After 128 recessive sequences the controller is ERROR_ACTIVE and sends the head
  entry first. -/
  | canRecoveryDone (n : Fin 4)
  /-- LP_REQ_WRITE (R297): Setting LP_REQ asks the controller to sleep, and clearing it resumes after integration.
  Through the alias word of LP_REQ. -/
  | lpReqWrite (src : Src) (n : Fin 4) (b : Bool)
  /-- CAN_SLEEP_ENTER (R297): Once the sending frame is done, the controller leaves the bus and the transceiver
  enters standby. -/
  | canSleepEnter (n : Fin 4)
  /-- CAN_LOCAL_WAKE (R297): A wake event in local sleep sets WAKE_EV. -/
  | canLocalWake (n : Fin 4) (src : CanWake)
  /-- CAN_EN_WRITE (R299): EN 0 stops the controller after the present frame, and EN 1 integrates it to the bus.
  Through the alias word of EN. -/
  | canEnWrite (src : Src) (n : Fin 4) (b : Bool)
  /-- SAFE_CAN_CONFIGURE (R296): After step 2 with P8 on, the safety processor configures and locks the
  safe-telegram controller. -/
  | safeCanConfigure
  /-- ECN_FRAME_RX (R302): An ECN frame is received, forwarded or dropped, and frames for the module go to the host
  rings or the safe path. The buffer offset its descriptor holds; the other port's egress queue is full. -/
  | ecnFrameRx (port : Fin 2) (f : EcnFrame) (buf : Word) (full : Bool)
  /-- ECN_TAIL_WRITE (R305): A TAIL write hands ring entries to hardware, clamped at HEAD − 1. The word written to
  the TAIL register of a ring: TXQ0, TXQ1, RXQ0, RXQ1. -/
  | ecnTailWrite (src : Src) (k : Fin 4) (val : Word)
  /-- ECN_FRAME_TX (R305): Hardware transmits a host frame from a TX ring and advances HEAD. The frame its
  descriptor names; the egress queue is full. -/
  | ecnFrameTx (frame : HostFrame) (full : Bool)
  /-- BYPASS_RELAY_CHANGE (R303): The bypass relay closes with P7 off and opens 20 ms after P7 comes on. -/
  | bypassRelayChange
  /-- ECN_LINK_CHANGE (R303): A port link goes up or down after negotiation. -/
  | ecnLinkChange (port : Fin 2) (up gig : Bool)
  /-- MVB_MASTER_FRAME (R307): A master frame for a port or the device status is answered. -/
  | mvbMasterFrame (ask : MvbAsk) (a b : MvbLine)
  /-- MVB_SLAVE_FRAME (R308): A valid slave frame replaces the data of a sink port. -/
  | mvbSlaveFrame (addr : BitVec 12) (data : List Nat) (a b : MvbLine)
  /-- MVB_LINE_FAULT (R307): A line without valid frames for 32 ms while the other has them clears its OK bit. -/
  | mvbLineFault (line : Fin 2)
  /-- MVB_PORT_STALE (R308): A sink older than its freshness limit sets its STALE_MASK bit. -/
  | mvbPortStale (k : Fin 32)
  /-- MVB_SINK_WORD0_READ (R308): A read of word 0 of a sink port latches the whole port for the following words.
  -/
  | mvbSinkWord0Read (k : Fin 32)
  /-- LGL_POLL (R310): In master role the module polls the next address in POLL_MASK. -/
  | lglPoll
  /-- LGL_REPLY_RX (R310): A legacy reply is stored and sets LGL_PRESENT, or is dropped for a bad frame. -/
  | lglReplyRx (bytes : List Nat) (parityOk : Bool)
  /-- LGL_REPLY_TIMEOUT (R310): No reply within REPLY_TMO_MS counts as unanswered, and three in a row clear
  LGL_PRESENT. -/
  | lglReplyTimeout
  /-- LGL_SEND_BUFFER (R310): LGL_CMD queues a host buffer for the next gap of the poll round. The word written to
  LGL_CMD. -/
  | lglSendBuffer (src : Src) (val : Word)
  /-- LGL_SLAVE_REPLY (R310): In slave role a poll to OWN_ADDR is answered with DOOR_INFO within 2 ms. The poll as
  received. -/
  | lglSlaveReply (bytes : List Nat) (parityOk : Bool)
  /-- DVR_MESSAGE_RX (R313): A received Dvorud message is passed to the host queues, and malformed ANNOUNCE or
  CONSIST is counted. Whether it is malformed in a way that its header, length and counts do not show. -/
  | dvrMessageRx (f : DvrFrame) (malformed : Bool)
  /-- ANNOUNCE_SEND (R316): Every 500 ms Echo sends ANNOUNCE on ECN and the selected CAN controllers. -/
  | announceSend
  /-- ANNOUNCE_RX (R317): A valid ANNOUNCE makes a partner PRESENT or FOREIGN and updates its slot and version.
  Carrier 0 ECN, 1 to 4 CAN0 to CAN3. -/
  | announceRx (c : Fin 5) (unit : Nat) (payload : List Nat)
  /-- CONSIST_RX (R320): A CONSIST with a new topology counter marks unlisted units LOST and enters listed ones as
  EXPECTED. -/
  | consistRx (pd : ProcessData)
  /-- PARTNER_LOST (R317): A partner's evidence times out, and its slot becomes LOST. -/
  | partnerLost (k : Fin 256)
  /-- CARRIER_TIMEOUT (R317): 1600 ms without an announcement on a carrier clears its bit, and the version is
  chosen again. -/
  | carrierTimeout (k : Fin 256) (c : Fin 5)
  /-- TCMS_LOST (R317): No CONSIST for 3 × TCMS_PERIOD_MS + 100 ms clears CONSIST_VALID and frees EXPECTED slots.
  -/
  | tcmsLost
  /-- SLOT_HOLD_EXPIRY (R318): A LOST slot becomes FREE after 10 s. -/
  | slotHoldExpiry (k : Fin 256)
  /-- EXPECTED_MISSING (R320): An EXPECTED unit silent for 1600 ms counts once in MISSING_CNT. -/
  | expectedMissing (k : Fin 256)
  /-- DOOR_INFO_SEND (R314): Every INFO_MS the module sends DOOR_INFO on each enabled carrier. -/
  | doorInfoSend
  /-- RECORD_SEAL (R329): Flowstone takes an entry from an ingest queue, assigns SEQ and writes the record with
  VALID last. From FQ1 or FQ0; the MRAM address whose write failed its read-back. -/
  | recordSeal (cycle : Bool) (bad : Option Nat)
  /-- ARCHIVE_PAGE_COPY (R335): A whole archive page, or a sealed TRACE or CLIP, is programmed into NAND. -/
  | archivePageCopy (a : NandArea) (res : NandResult)
  /-- TRACE_SAMPLE (R332): At each sample period a trace sample is stored, and at 505 samples the trace is
  decimated and the period doubled. -/
  | traceSample (n : Fin 8)
  /-- CLIP_COMPLETE (R333): CLIP_POST_MS after the trigger the clip is encoded and sealed. -/
  | clipComplete (n : Fin 8)
  /-- SNAPSHOT_TIMER (R334): After every 24 h of P3 on, Flowstone writes a SNAPSHOT. -/
  | snapshotTimer
  /-- SNAP (R334): The SNAP command writes a SNAPSHOT unless one was written within 60 s. -/
  | snap (src : Src)
  /-- HEV (R336): The HEV command enqueues a host EVENT with HEV_CODE and its details. -/
  | hev (src : Src)
  /-- FIND (R343): The FIND command starts locating a SEQ in the latched class. -/
  | find (src : Src)
  /-- FIND_DONE (R343): FIND completes within 2 ms with its result, and sets NWIN for a NAND class. -/
  | findDone
  /-- RD_CLASS_WRITE (R342): A write of RD_CLASS latches the first and last SEQ and position of the class. The word
  written to the register of RD_CLASS. -/
  | rdClassWrite (src : Src) (val : Word)
  /-- EXP_START (R347): EXP_START fixes the export content and presents chunk 0. -/
  | expStart (src : Src)
  /-- EXP_ABORT (R347): EXP_ABORT ends the export without completion. -/
  | expAbort (src : Src)
  /-- EXP_ACK_WRITE (R347): A write of EXP_ACK advances the export when chunk number and CRC match, or counts a
  retry. The chunk number; the CRC is the one written to EXP_ACK_CRC before. -/
  | expAckWrite (src : Src) (val : Word)
  /-- FLOW_RECOVERY (R341): At each start Flowstone votes its control area, scans and repairs its rings, closes
  partial traces, and sets FLOW_RDY. Two control copies agree; the areas torn at their write point; the records with a failing CRC,
  by area and SEQ. -/
  | flowRecovery (agree : Bool) (torn : List (Fin 7)) (crcBad : List (Nat × Nat))
  /-- NAND_POWER_OFF (R343): 1 s after Flowstone's last need, P11 goes off unless NAND_HOLD is 1. -/
  | nandPowerOff
  /-- NAND_ONLY_FLUSH (R344): With the MRAM failed, a buffered archive page is programmed 1 s after its first
  record. -/
  | nandOnlyFlush (res : NandResult)
  /-- RECORDER_SEND (R346): Flowstone sends RECORDER at each change of its failure flags and every 10 s while one
  is set. -/
  | recorderSend
  /-- TC_UPDATE (R351): The Drip domain reads the crystal temperature and updates the correction, or freezes it and
  sets TC_FAULT. The temperature in 0.1 °C, none where the sensor has failed. -/
  | tcUpdate (temp : Option Int)
  /-- TICK_CHECKPOINT (R353): When tick bits 19:0 reach zero, the tick is checkpointed into the alternate
  ferroelectric copy. -/
  | tickCheckpoint
  /-- BACKUP_LOSS (R354): P0 falls below 1.8 V with no supply, and the tick, calendar and alarms stop. -/
  | backupLoss
  /-- SET_CMD_WRITE (R357): A write of SET_CMD posts a calendar set, or is discarded for another value. -/
  | setCmdWrite (val : Word)
  /-- CALENDAR_SET_APPLY (R357): At the next 1/1024 s boundary the calendar takes the staged value, TIME_EPOCH
  increments and EVENT 0x0040 is recorded. -/
  | calendarSetApply
  /-- ALM_DLY_S_WRITE (R358): A write of ALM_DLY_S arms the delay alarm and acknowledges its hit. -/
  | almDlySWrite (val : Word)
  /-- ALARM_CONFIG_WRITE (R358): A write of the calendar alarm configuration or ALM_EN takes effect and
  acknowledges the hit and missed bits. -/
  | alarmConfigWrite (w : AlarmWord) (val : Word)
  /-- CAL_ALARM_FIRE (R358): The calendar matches the enabled alarm fields, and the alarm fires, interrupts or
  wakes. -/
  | calAlarmFire
  /-- DLY_ALARM_FIRE (R358): The tick advances by the delay, and the delay alarm fires and disarms. -/
  | dlyAlarmFire
  /-- SLATI_LINE_ERROR (R362): A line that is too long, has a framing error or pauses over 10 s is answered with
  ERR 01. -/
  | slatiLineError
  /-- SLATI_HELLO (R368): HELLO returns SLATI, the versions, the part number and the serial. -/
  | slatiHello
  /-- SLATI_VER (R364): VER selects the command language version. -/
  | slatiVer (v : Fin 256)
  /-- SLATI_BAUD (R363): BAUD answers OK and switches rate 10 ms after the reply. The rate in bit/s. -/
  | slatiBaud (rate : Word)
  /-- BAUD_REVERT (R363): No valid line at the new rate within 2 s, or a framing error on its first character,
  returns the link to 115200. -/
  | baudRevert
  /-- SLATI_BREAK (R363): A break of 250 ms returns the link to 115200 and ends the session. Whether the break on
  SVC_RXD has reached 250 ms or has ended. -/
  | slatiBreak (active : Bool)
  /-- SLATI_LOGIN (R366): LOGIN answers a challenge nonce for the role. The role code of R365. -/
  | slatiLogin (role : Fin 256)
  /-- SLATI_RESP (R366): RESP grants the role for a correct response, or counts towards lockout. -/
  | slatiResp (resp : Word)
  /-- NONCE_EXPIRY (R366): A login nonce becomes invalid after 30 s. -/
  | nonceExpiry
  /-- LOCKOUT_END (R366): The login lockout time runs out. -/
  | lockoutEnd
  /-- SLATI_LOGOUT (R367): LOGOUT ends the session. -/
  | slatiLogout
  /-- SESSION_TIMEOUT (R367): 600 s without a command ends the session. -/
  | sessionTimeout
  /-- SLATI_ID (R368): ID returns the serial, life-cycle state, image versions and head serials. -/
  | slatiId
  /-- SLATI_STATUS (R368): STATUS returns the mode, the Refuge cause, the latches, the doorway states and
  HOST_NOTE. -/
  | slatiStatus
  /-- SLATI_CAIRN (R368): CAIRN returns the Cairn registers. -/
  | slatiCairn
  /-- SLATI_RD (R368): RD reads register words through the service tool's pair. -/
  | slatiRd (pg : Fin 256) (off : Fin 4096) (n : Fin 1025)
  /-- SLATI_RDI (R368): RDI reads indirect words through the service tool's pair. -/
  | slatiRdi (pg : Fin 256) (sp : Fin 16) (addr : Word) (n : Fin 1025)
  /-- SLATI_WR (R368): WR writes a register under the access rules. -/
  | slatiWr (pg : Fin 256) (off : Fin 4096) (val : Word)
  /-- SLATI_WRI (R368): WRI writes an indirect word under the access rules. -/
  | slatiWri (pg : Fin 256) (sp : Fin 16) (addr : Word) (val : Word)
  /-- SLATI_CLOCK (R368): CLOCK sets the calendar at the next whole second. -/
  | slatiClock (y : Fin 10000) (m d h mi sec : Fin 100)
  /-- SLATI_RESTART (R368): RESTART requests a restart under R72, and is always accepted in Refuge. -/
  | slatiRestart
  /-- SLATI_HOLD (R71): HOLD sets the evidence hold. -/
  | slatiHold
  /-- SLATI_EXPORT (R347): EXPORT starts a service-tool export. -/
  | slatiExport
  /-- SLATI_ACK (R347): ACK applies a chunk acknowledgement to the export. -/
  | slatiAck (k crc : Word)
  /-- SLATI_EXPABORT (R347): EXPABORT ends the export. -/
  | slatiExpabort
  /-- SLATI_MON (R372): MON claims or releases a monitor output for TEST. The point by its number TP9 to TP24. -/
  | slatiMon (tp : Fin 32) (cls : Fin 16) (idx : Fin 64)
  /-- SLATI_TEST (R374): TEST starts a named functional test if its conditions hold. -/
  | slatiTest (t : TestName)
  /-- TEST_COMPLETE (R373): A test ends and sets TEST_PASS or TEST_FAIL. The verdict, the two readings, the offset
  that ALIGN found. -/
  | testComplete (pass : Bool) (v1 v2 : Int) (elOfs : Option (Fin 4096))
  /-- SLATI_STOP (R373): STOP ends any running test, and moving axes stop. -/
  | slatiStop
  /-- SLATI_PARAM_RD (R368): PARAM RD returns the safety parameter block. -/
  | slatiParamRd
  /-- SLATI_PARAM_WR (R215): PARAM WR writes a field of the safety parameter block within its range. The byte
  offset of a field. -/
  | slatiParamWr (off : Fin 128) (val : Word)
  /-- SLATI_PARAM_COMMIT (R368): PARAM COMMIT stores the block and answers SIG with the CRC. -/
  | slatiParamCommit
  /-- SLATI_TCFG_RD (R368): TCFG RD returns the telegram configuration. -/
  | slatiTcfgRd
  /-- SLATI_TCFG_WR (R239): TCFG WR writes a field of the telegram configuration. The byte offset of a field. -/
  | slatiTcfgWr (off : Fin 128) (val : Word)
  /-- SLATI_TCFG_COMMIT (R368): TCFG COMMIT stores the telegram configuration with its CRC. -/
  | slatiTcfgCommit
  /-- SLATI_LC (R67): LC requests a life-cycle change, which is accepted and run under R68 or refused. The
  life-cycle state asked for, by its code in LC_STATE. -/
  | slatiLc (new : Fin 6)
  /-- TP_SEL_WRITE (R377): A write of a TP_SEL halfword selects a monitor source, or is discarded when the writer
  does not own the point. The point TP(9 + tp) and the halfword. -/
  | tpSelWrite (src : Src) (tp : Fin 16) (val : Fin 65536)
  /-- COLUMN_CHECK_FAIL (R229): At run time Column finds its supply monitor out of tolerance or its gate self-check
  failed, removes torque, opens ADCL_B and sends the module to Refuge with code 0x11 or 0x13. Whether the gate
  self-check failed, else the supply monitor; the detail of R61. -/
  | columnCheckFail (gates : Bool) (detail : Fin 65536)
  /-- ENCODER_RESTORED (R230): A lost encoder becomes good again, so DEV_FAULT can clear once torque is off and the
  safety processor can lift ENC_HOLD once the axis is homed. -/
  | encoderRestored (n : Fin 16)
  deriving DecidableEq, Repr

end Sys2Proof
end

