-- ==== Sys2Proof/Machine/Crc.lean ====
section
/-! DEFINITION. The two checksums of the block, over lists of bytes: CRC-32C (R96, R237, R328) and CRC-16/CCITT-FALSE
(R215). -/

namespace Sys2Proof.Machine

/-- One bit of a CRC-32C, reflected, polynomial 0x82F63B78. -/
def crc32Bit (c : Nat) : Nat := if c % 2 = 1 then Nat.xor (c / 2) 0x82F63B78 else c / 2

/-- One byte of a CRC-32C. -/
def crc32Byte (c b : Nat) : Nat :=
  crc32Bit (crc32Bit (crc32Bit (crc32Bit (crc32Bit (crc32Bit (crc32Bit (crc32Bit (Nat.xor c (b % 256)))))))))

/-- CRC-32C of a list of bytes: start value and final inversion 0xFFFFFFFF. -/
def crc32 (l : List Nat) : Nat := Nat.xor (l.foldl crc32Byte 0xFFFFFFFF) 0xFFFFFFFF

/-- A linear map of 32 bits applied to a number; the map is given by what it makes of each bit, lowest first. -/
def crcApply (m : List Nat) (v : Nat) : Nat :=
  match m with
  | [] => 0
  | c :: m => Nat.xor (if v % 2 = 1 then c else 0) (crcApply m (v / 2))

/-- What a byte of zeros makes of each bit of a CRC-32C. -/
def crcZeroMap : List Nat := (List.range 32).map (fun i => crc32Byte (2 ^ i) 0)

/-- A CRC-32C after `n` more steps of a linear map, by squaring the map `k` times at most. -/
def crcSteps : (k : Nat) → (m : List Nat) → (n c : Nat) → Nat
  | 0, _, _, c => c
  | k + 1, m, n, c =>
    if n = 0 then c else crcSteps k (m.map (crcApply m)) (n / 2) (if n % 2 = 1 then crcApply m c else c)

/-- A CRC-32C after `n` bytes of zeros. -/
def crcZeros (n c : Nat) : Nat := crcSteps 32 crcZeroMap n c

/-- One bit of a CRC-16/CCITT-FALSE, polynomial 0x1021, most significant bit first. -/
def crc16Bit (c : Nat) : Nat := if 0x8000 ≤ c % 0x10000 then Nat.xor (c * 2 % 0x10000) 0x1021 else c * 2 % 0x10000

/-- One byte of a CRC-16/CCITT-FALSE. -/
def crc16Byte (c b : Nat) : Nat :=
  crc16Bit (crc16Bit (crc16Bit (crc16Bit (crc16Bit (crc16Bit (crc16Bit (crc16Bit (Nat.xor c (b % 256 * 256)))))))))

/-- CRC-16/CCITT-FALSE of a list of bytes: start value 0xFFFF. -/
def crc16 (l : List Nat) : Nat := l.foldl crc16Byte 0xFFFF

/-- A number as `n` bytes, least significant first. -/
def leBytes (v n : Nat) : List Nat :=
  match n with
  | 0 => []
  | n + 1 => v % 256 :: leBytes (v / 256) n

/-- Bytes, least significant first, as a number. -/
def leNum : List Nat → Nat
  | [] => 0
  | b :: l => b % 256 + 256 * leNum l

end Sys2Proof.Machine
end

