-- ==== Sys2Proof/Config.lean ====
section
/-! DEFINITION. What the spec leaves open: free values. Each is an opaque constant, so nothing can be proved about the
value it gives; where a fresh value is needed it is applied to the counter State holds for that purpose. -/

namespace Sys2Proof.Config

/-- The second-order low-pass of 400 Hz over the raw edge force (R131): the spec gives its order and corner, not its
damping or its arithmetic. Two earlier outputs and the raw value, in mN. -/
opaque forceFilter : (f1 f2 raw : Int) → Int

/-- The torque constant in use after one update above a tenth of AX_VMAX (R132): the filter of 2 s over back-EMF divided
by speed. The estimate before, the back-EMF in mV, the speed in µrad/s; the model bounds the answer. -/
opaque ktFilter : (kt : Nat) → (emf speed : Int) → Nat

/-- Envelope and friction, in 0.1 N, of a bin and direction into which no sample of the learning runs fell, and the mass in g
where no sample exceeds 0.2 m/s² (R133): the spec states no value. -/
opaque bareEnvelope : (ax dir bin : Nat) → BitVec 16
opaque bareFriction : (ax dir bin : Nat) → BitVec 16
opaque bareMass : (ax : Nat) → Nat

/-- The measured currents of BATT_L in mA and of BATT_D in 10 mA, two's complement (R56): what the loads draw is outside the
block's own state. -/
opaque battlCurrent : (tick : Nat) → BitVec 16
opaque battdCurrent : (tick : Nat) → BitVec 16

/-- The current in mA of a Gallery channel that conducts (R254, R270): what its load draws is outside the block's own state. -/
opaque chanCurrent : (tick channel : Nat) → BitVec 16

/-- The energy a Gallery channel measures at one turn-off, in mJ (R260): the spec bounds it and does not state it. -/
opaque clampEnergy : (draw channel : Nat) → Nat

/-- Where between the two levels of its threshold code an input switches, in 0.1 V (R273): undefined, but the same at every
reading. The model holds it between the levels. -/
opaque fieldSwitch : (input code : Nat) → Nat

/-- A Glowworm code (R160): Column draws it uniformly from its own noise source, which nothing else can read. -/
opaque glowCode : (draw : Nat) → BitVec 4

/-- The median over watched pixels of the standard deviation of their depths, in 0.01 mm (R184): the spec does not say
which estimate of the deviation, nor how an even number of pixels is split. The depths of each pixel, newest first; the model
holds the answer between those that the two estimates and the two middle pixels give. -/
opaque noiseMedian : List (List Nat) → Nat

/-- The payload of the manifest chunk of an export (R347): the spec names its content, not its layout. Counts and SEQ
ranges by class, the Cairn registers, the held counters. -/
opaque manifest : List (Nat × Nat × Nat) → List Nat → List (List Nat) → List Nat

/-- The payload of the last chunk of an export, the list of lost records (R347): the spec does not state its layout. -/
opaque lostList : List Nat → List Nat

/-- The energy the axes of a doorway drew from BATT_D in a cycle, in mJ (R330): the spec does not say how it is measured. -/
opaque axEnergy : (draw doorway : Nat) → Nat

/-- REC after a good frame while it stood above 127 (R294 by ISO 11898-1, which leaves it open from 119 to 127). -/
opaque recAfter : (draw : Nat) → Nat

/-- The sequences of 11 recessive bits that the bus of a controller carried in one Drip count (R295): what the bus carries is outside
the block's own state. -/
opaque recessive : (tick controller : Nat) → Nat

/-- A byte read of a recorder memory where no record lies that the spec describes: an erased NAND page, the tables of the system area,
a memory that has failed, a record whose CRC fails (R335, R341, R343, R344). `area` 0 is a record, named by its SEQ, `area` 7 an
export chunk behind its payload. -/
opaque unread : (area place i : Nat) → BitVec 8

/-- The device status an MVB device answers with (R307): the spec does not state its bits. -/
opaque mvbStatus : (draw : Nat) → BitVec 16

/-- The destination address of a DOOR_INFO or RECORDER on the legacy link (R313, R314): the spec names no address for it. -/
opaque lglDest : (draw : Nat) → BitVec 8

/-- The MVB port and bytes by which the Refuge monitor announces Refuge and its cause (R64): the spec states neither. -/
opaque mvbRefuge : (draw : Nat) → (cause : Nat) → Nat × List Nat

/-- The correction of the Drip crystal at a temperature in 0.1 °C, in 0.01 ppm (R351): the factory curve of the crystal. -/
opaque tempCorr : Int → Int

/-- The nonce of a login (R366): drawn from the hardware noise source. -/
opaque nonce : (draw : Nat) → BitVec 32

/-- The key of a role (R366): Vangusk derives it per module, and no command reads it. -/
opaque roleKey : (role : Nat) → List (BitVec 8)

/-- The bytes over which a login response is computed (R366): the spec names what they hold, not how it is laid out. -/
opaque loginText : (nonce : BitVec 32) → (serialHi serialLo role : Nat) → List (BitVec 8)

end Sys2Proof.Config
end

