-- ==== Sys2Proof/Machine/Ratio.lean ====
section
/-! DEFINITION. Exact fractions. R102 asks that knots enter the interpolation as exact values and that only the final
position and velocity are rounded, so Traverse computes with fractions of whole numbers, always in lowest terms. -/

namespace Sys2Proof.Machine

/-- A fraction `num / den` in lowest terms, `den` at least 1. -/
structure Ratio where
  num : Int
  den : Nat
  deriving DecidableEq, Repr

/-- `n / d` in lowest terms; a denominator 0 gives 0. -/
def mkRatio (n : Int) (d : Nat) : Ratio :=
  if d = 0 then ⟨0, 1⟩
  else ⟨n / (Nat.gcd n.natAbs d : Int), d / Nat.gcd n.natAbs d⟩

/-- A whole number as a fraction. -/
def Ratio.int (n : Int) : Ratio := ⟨n, 1⟩

def Ratio.add (x y : Ratio) : Ratio := mkRatio (x.num * y.den + y.num * x.den) (x.den * y.den)
def Ratio.neg (x : Ratio) : Ratio := ⟨-x.num, x.den⟩
def Ratio.sub (x y : Ratio) : Ratio := x.add y.neg
def Ratio.mul (x y : Ratio) : Ratio := mkRatio (x.num * y.num) (x.den * y.den)
/-- Division; division by 0 gives 0 and is reached only where the rule asks for a non-zero divisor first. -/
def Ratio.div (x y : Ratio) : Ratio :=
  if y.num < 0 then mkRatio (-(x.num * y.den)) (x.den * y.num.natAbs)
  else mkRatio (x.num * y.den) (x.den * y.num.natAbs)
def Ratio.abs (x : Ratio) : Ratio := ⟨x.num.natAbs, x.den⟩
def Ratio.lt (x y : Ratio) : Bool := x.num * y.den < y.num * x.den
def Ratio.le (x y : Ratio) : Bool := x.num * y.den ≤ y.num * x.den
def Ratio.isZero (x : Ratio) : Bool := x.num == 0
def Ratio.neg? (x : Ratio) : Bool := x.num < 0
def Ratio.pos? (x : Ratio) : Bool := 0 < x.num
def Ratio.max (x y : Ratio) : Ratio := if x.lt y then y else x
def Ratio.min (x y : Ratio) : Ratio := if y.lt x then y else x

/-- The value times 2^16, rounded half away from zero (R102). -/
def Ratio.fix16 (x : Ratio) : Int :=
  if x.num < 0 then -(((2 * x.num.natAbs * 65536 + x.den) / (2 * x.den) : Nat) : Int)
  else (((2 * x.num.natAbs * 65536 + x.den) / (2 * x.den) : Nat) : Int)

/-- A number of 1/65536 as a fraction. -/
def fromFix16 (n : Int) : Ratio := mkRatio n 65536

/-- The whole number towards zero. -/
def Ratio.trunc (x : Ratio) : Int :=
  if x.num < 0 then -((x.num.natAbs / x.den : Nat) : Int) else ((x.num.natAbs / x.den : Nat) : Int)

/-- The whole number at or below. -/
def Ratio.floor (x : Ratio) : Int := x.num / (x.den : Int)

/-- The nearest whole number, a half away from zero. -/
def Ratio.round (x : Ratio) : Int :=
  if x.num < 0 then -(((2 * x.num.natAbs + x.den) / (2 * x.den) : Nat) : Int)
  else (((2 * x.num.natAbs + x.den) / (2 * x.den) : Nat) : Int)

end Sys2Proof.Machine
end

