-- ==== Sys2Proof/Machine/RegNames.lean ====
section
/-! DEFINITION. The names of the register fields. Every field of every register table of spec/ (R7, R56, R57, R73, R74,
R78, R92, R117, R118, R142, R162, R163, R186, R187, R208, R209, R233, R234, R235, R251, R269, R270, R271, R280, R301,
R323 to R327, R350, R361, R376, R377) is one constant here: the byte address of its register in the page window
(page number times 0x1000 plus offset), its lowest bit, its width and its reset value. Where the spec's Reset column is
a dash the value here is the one notes/assumptions/1.md names. The constants are written from those tables. An index wraps
at the number of places its table has; no meaning uses a larger one. -/

namespace Sys2Proof.Machine

/-- One field of a register (R11, R75): address in the page window, lowest bit, width in bits, reset value. -/
structure Reg where
  addr : Nat
  lo   : Nat
  w    : Nat
  rst  : Nat
  deriving DecidableEq, Repr

/-- The key a field is stored under: its place in the page window, counted in bits. -/
def Reg.key (r : Reg) : Nat := r.addr * 32 + r.lo

/-- Every field fits in its 32-bit register. -/
def Reg.size (r : Reg) : Nat := 2 ^ r.w

namespace HDR
abbrev BLK_CODE (pg : Nat) : Reg := ⟨0x000 + pg % 128 * 0x1000, 16, 16, 0⟩
abbrev INST (pg : Nat) : Reg := ⟨0x000 + pg % 128 * 0x1000, 8, 8, 0⟩
abbrev PAGE (pg : Nat) : Reg := ⟨0x000 + pg % 128 * 0x1000, 0, 8, 0⟩
abbrev VER_MAJ (pg : Nat) : Reg := ⟨0x004 + pg % 128 * 0x1000, 16, 16, 1⟩
abbrev VER_MIN (pg : Nat) : Reg := ⟨0x004 + pg % 128 * 0x1000, 0, 16, 0⟩
abbrev PG_CAP (pg : Nat) : Reg := ⟨0x008 + pg % 128 * 0x1000, 0, 32, 0⟩
abbrev LP_REQ (pg : Nat) : Reg := ⟨0x00C + pg % 128 * 0x1000, 1, 1, 0⟩
abbrev EN (pg : Nat) : Reg := ⟨0x00C + pg % 128 * 0x1000, 0, 1, if (0x10 ≤ pg ∧ pg < 0x20) ∨ (0x50 ≤ pg ∧ pg < 0x54) ∨ pg = 0x59 ∨ pg = 0x5A then 0 else 1⟩
abbrev LOCKED (pg : Nat) : Reg := ⟨0x010 + pg % 128 * 0x1000, 4, 1, 0⟩
abbrev FAULT (pg : Nat) : Reg := ⟨0x010 + pg % 128 * 0x1000, 3, 1, 0⟩
abbrev DOM_OFF (pg : Nat) : Reg := ⟨0x010 + pg % 128 * 0x1000, 2, 1, 0⟩
abbrev LP (pg : Nat) : Reg := ⟨0x010 + pg % 128 * 0x1000, 1, 1, 0⟩
abbrev RUN (pg : Nat) : Reg := ⟨0x010 + pg % 128 * 0x1000, 0, 1, 0⟩
abbrev PG_IRQ_EN (pg : Nat) : Reg := ⟨0x014 + pg % 128 * 0x1000, 0, 32, 0⟩
abbrev PG_IRQ_PEND (pg : Nat) : Reg := ⟨0x018 + pg % 128 * 0x1000, 0, 32, 0⟩
abbrev PG_FAULT_CNT (pg : Nat) : Reg := ⟨0x01C + pg % 128 * 0x1000, 0, 32, 0⟩
abbrev PG_DROP_CNT (pg : Nat) : Reg := ⟨0x020 + pg % 128 * 0x1000, 0, 32, 0⟩
abbrev PG_ADJ_CNT (pg : Nat) : Reg := ⟨0x024 + pg % 128 * 0x1000, 0, 32, 0⟩
abbrev HW_LOCK (pg : Nat) : Reg := ⟨0x028 + pg % 128 * 0x1000, 31, 1, 0⟩
abbrev SAFE_LOCK (pg : Nat) : Reg := ⟨0x028 + pg % 128 * 0x1000, 1, 1, 0⟩
abbrev HOST_LOCK (pg : Nat) : Reg := ⟨0x028 + pg % 128 * 0x1000, 0, 1, 0⟩
abbrev PG_VOTE_CNT (pg : Nat) : Reg := ⟨0x02C + pg % 128 * 0x1000, 0, 32, 0⟩
abbrev IND_ADDR (pg : Nat) : Reg := ⟨0x030 + pg % 128 * 0x1000, 2, 30, 0⟩
abbrev IND_DATA (pg : Nat) : Reg := ⟨0x034 + pg % 128 * 0x1000, 0, 32, 0⟩
abbrev IND_BUSY (pg : Nat) : Reg := ⟨0x038 + pg % 128 * 0x1000, 31, 1, 0⟩
abbrev IND_END (pg : Nat) : Reg := ⟨0x038 + pg % 128 * 0x1000, 30, 1, 0⟩
abbrev IND_OFF (pg : Nat) : Reg := ⟨0x038 + pg % 128 * 0x1000, 29, 1, 0⟩
abbrev INC_DIS (pg : Nat) : Reg := ⟨0x038 + pg % 128 * 0x1000, 8, 1, 0⟩
abbrev SPACE (pg : Nat) : Reg := ⟨0x038 + pg % 128 * 0x1000, 0, 4, 0⟩
end HDR

namespace SYS
abbrev CAP_D : Reg := ⟨0x00008, 28, 4, 8⟩
abbrev CAP_S : Reg := ⟨0x00008, 24, 4, 8⟩
abbrev CAP_H : Reg := ⟨0x00008, 16, 8, 0x10⟩
abbrev CAP_G : Reg := ⟨0x00008, 8, 8, 0x30⟩
abbrev CAP_C : Reg := ⟨0x00008, 4, 4, 4⟩
abbrev LC_STATE : Reg := ⟨0x00040, 28, 4, 1⟩
abbrev LC_WIPE_PEND : Reg := ⟨0x00040, 21, 1, 0⟩
abbrev EVID_HOLD : Reg := ⟨0x00040, 20, 1, 0⟩
abbrev VISION_FULL : Reg := ⟨0x00040, 19, 1, 0⟩
abbrev OPERABLE : Reg := ⟨0x00040, 18, 1, 0⟩
abbrev REFUGE : Reg := ⟨0x00040, 17, 1, 0⟩
abbrev REFUGE_STEP : Reg := ⟨0x00040, 5, 3, 0⟩
abbrev ST_DONE : Reg := ⟨0x00040, 0, 5, 0⟩
abbrev RF_STEP : Reg := ⟨0x00044, 24, 8, 0⟩
abbrev RF_CODE : Reg := ⟨0x00044, 16, 8, 0⟩
abbrev RF_DETAIL : Reg := ⟨0x00044, 0, 16, 0⟩
abbrev LC_CHANGE : Reg := ⟨0x00048, 6, 1, 0⟩
abbrev WD_EXP : Reg := ⟨0x00048, 5, 1, 0⟩
abbrev SVC_RST : Reg := ⟨0x00048, 4, 1, 0⟩
abbrev HOST_RST : Reg := ⟨0x00048, 3, 1, 0⟩
abbrev WAKE : Reg := ⟨0x00048, 2, 1, 0⟩
abbrev BROWN : Reg := ⟨0x00048, 1, 1, 0⟩
abbrev PWR_ON : Reg := ⟨0x00048, 0, 1, 1⟩
abbrev RST_REQ : Reg := ⟨0x0004C, 0, 32, 0⟩
abbrev HOST_HB : Reg := ⟨0x00050, 0, 1, 0⟩
abbrev HOST_RDY : Reg := ⟨0x00054, 0, 1, 0⟩
abbrev WD_RESTART : Reg := ⟨0x00058, 16, 1, 0⟩
abbrev HOST_WD_MS : Reg := ⟨0x00058, 0, 16, 0⟩
abbrev HOST_WD_KICK : Reg := ⟨0x0005C, 0, 32, 0⟩
abbrev ST_TIME_MS : Reg := ⟨0x00060, 0, 16, 0⟩
abbrev REFUGE_CNT : Reg := ⟨0x00064, 0, 32, 0⟩
abbrev RST_REFUSE_CNT : Reg := ⟨0x00068, 0, 32, 0⟩
abbrev LC_REFUSE_CNT : Reg := ⟨0x0006C, 0, 32, 0⟩
abbrev SERIAL_HI : Reg := ⟨0x00070, 0, 32, 0⟩
abbrev SERIAL_LO : Reg := ⟨0x00074, 0, 32, 0⟩
end SYS

namespace PWR
abbrev CAP_PDOM : Reg := ⟨0x01008, 8, 8, 0xc⟩
abbrev CAP_SUP : Reg := ⟨0x01008, 0, 8, 4⟩
abbrev MODE : Reg := ⟨0x01040, 16, 4, 0⟩
abbrev MODE_REQ : Reg := ⟨0x01040, 8, 4, 1⟩
abbrev ACT_RDY : Reg := ⟨0x01040, 0, 1, 0⟩
abbrev CELL_LOW : Reg := ⟨0x01044, 12, 1, 0⟩
abbrev BK_CELL : Reg := ⟨0x01044, 11, 1, 0⟩
abbrev DRV_LIMITING : Reg := ⟨0x01044, 10, 1, 0⟩
abbrev CHOP_SPENT : Reg := ⟨0x01044, 9, 1, 0⟩
abbrev CHOP_ON : Reg := ⟨0x01044, 8, 1, 0⟩
abbrev GB_OK : Reg := ⟨0x01044, 7, 1, 0⟩
abbrev GA_OK : Reg := ⟨0x01044, 6, 1, 0⟩
abbrev BUS_OV : Reg := ⟨0x01044, 5, 1, 0⟩
abbrev BATTD_OV : Reg := ⟨0x01044, 4, 1, 0⟩
abbrev BATTD_OK : Reg := ⟨0x01044, 3, 1, 0⟩
abbrev PF_WARN : Reg := ⟨0x01044, 2, 1, 0⟩
abbrev BATTL_LOW : Reg := ⟨0x01044, 1, 1, 1⟩
abbrev BATTL_OK : Reg := ⟨0x01044, 0, 1, 1⟩
abbrev VL : Reg := ⟨0x01048, 16, 16, 0x60e⟩
abbrev VD : Reg := ⟨0x01048, 0, 16, 0⟩
abbrev VGA : Reg := ⟨0x0104C, 16, 16, 0⟩
abbrev VGB : Reg := ⟨0x0104C, 0, 16, 0⟩
abbrev IL : Reg := ⟨0x01050, 16, 16, 0⟩
abbrev ID : Reg := ⟨0x01050, 0, 16, 0⟩
abbrev DOM_ON : Reg := ⟨0x01054, 0, 12, 3⟩
abbrev WK_DRIP : Reg := ⟨0x01058, 7, 1, 1⟩
abbrev WK_FI : Reg := ⟨0x01058, 6, 1, 1⟩
abbrev WK_REL_R : Reg := ⟨0x01058, 5, 1, 1⟩
abbrev WK_REL_L : Reg := ⟨0x01058, 4, 1, 1⟩
abbrev WK_CAN : Reg := ⟨0x01058, 0, 4, 1⟩
abbrev PARK_LATE : Reg := ⟨0x0105C, 9, 1, 0⟩
abbrev POWER_ON : Reg := ⟨0x0105C, 8, 1, 1⟩
abbrev CAUSE : Reg := ⟨0x0105C, 0, 8, 0⟩
abbrev IDLE_DELAY_S : Reg := ⟨0x01060, 0, 16, 0x1e⟩
abbrev DRV_P_LIM : Reg := ⟨0x01064, 16, 16, 0xf0⟩
abbrev DRV_I_LIM : Reg := ⟨0x01064, 0, 16, 0x12c⟩
abbrev CHOP_E : Reg := ⟨0x01068, 16, 16, 0⟩
abbrev CHOP_ON_V : Reg := ⟨0x01068, 0, 16, 0x1f4⟩
abbrev VCAP : Reg := ⟨0x0106C, 16, 16, 0⟩
abbrev VCELL : Reg := ⟨0x0106C, 0, 16, 0⟩
abbrev PF_CNT : Reg := ⟨0x01070, 0, 32, 0⟩
abbrev PARK_ABORT_CNT : Reg := ⟨0x01074, 0, 32, 0⟩
abbrev DRV_LIM_CNT : Reg := ⟨0x01078, 0, 32, 0⟩
abbrev BUS_OV_CNT : Reg := ⟨0x0107C, 0, 32, 0⟩
abbrev WAKE_CNT : Reg := ⟨0x01080, 0, 32, 0⟩
end PWR

namespace CLK
abbrev CAP_CDOM : Reg := ⟨0x02008, 0, 8, 0xe⟩
abbrev CLK_ON : Reg := ⟨0x02040, 0, 14, 3⟩
abbrev APP_NOW : Reg := ⟨0x02044, 4, 4, 4⟩
abbrev APP_SEL : Reg := ⟨0x02044, 0, 4, 4⟩
abbrev CLK_FAIL : Reg := ⟨0x02048, 0, 14, 0⟩
abbrev CLK_FAIL_CNT : Reg := ⟨0x0204C, 0, 32, 0⟩
abbrev MEAS_SEL : Reg := ⟨0x02050, 0, 4, 1⟩
abbrev MEAS_HZ : Reg := ⟨0x02054, 0, 32, 0⟩
end CLK

namespace BOOT
abbrev TRIAL : Reg := ⟨0x03040, 4, 1, 0⟩
abbrev FALLBACK : Reg := ⟨0x03040, 3, 1, 0⟩
abbrev B_OK : Reg := ⟨0x03040, 2, 1, 0⟩
abbrev A_OK : Reg := ⟨0x03040, 1, 1, 0⟩
abbrev RUN_SLOT : Reg := ⟨0x03040, 0, 1, 0⟩
abbrev BOOT_NEXT : Reg := ⟨0x03044, 0, 1, 0⟩
abbrev BOOT_CONFIRM : Reg := ⟨0x03048, 0, 1, 0⟩
abbrev IMG_A_VER : Reg := ⟨0x0304C, 0, 32, 0⟩
abbrev IMG_B_VER : Reg := ⟨0x03050, 0, 32, 0⟩
abbrev ROLLBACK_MIN : Reg := ⟨0x03054, 0, 32, 0⟩
abbrev BOOT_FAIL_CNT : Reg := ⟨0x03058, 0, 32, 0⟩
abbrev BOOT_TIME_MS : Reg := ⟨0x0305C, 0, 16, 0⟩
abbrev SLOT_SIZE : Reg := ⟨0x03060, 0, 32, 0x6000000⟩
end BOOT

namespace DRIP
abbrev CAP_ALM : Reg := ⟨0x04008, 24, 8, 2⟩
abbrev CAP_TICK : Reg := ⟨0x04008, 16, 8, 0x30⟩
abbrev ALM_MISSED : Reg := ⟨0x04040, 5, 1, 0⟩
abbrev TC_FAULT : Reg := ⟨0x04040, 4, 1, 0⟩
abbrev ALM_DLY_HIT : Reg := ⟨0x04040, 3, 1, 0⟩
abbrev ALM_CAL_HIT : Reg := ⟨0x04040, 2, 1, 0⟩
abbrev BK_LOST : Reg := ⟨0x04040, 1, 1, 0⟩
abbrev CAL_VALID : Reg := ⟨0x04040, 0, 1, 0⟩
abbrev CAL_HI : Reg := ⟨0x04044, 0, 32, 0⟩
abbrev CAL_LO : Reg := ⟨0x04048, 0, 32, 0⟩
abbrev WALL_S : Reg := ⟨0x0404C, 0, 32, 0⟩
abbrev WALL_SUB : Reg := ⟨0x04050, 0, 10, 0⟩
abbrev TICK_HI : Reg := ⟨0x04054, 0, 16, 0⟩
abbrev TICK_LO : Reg := ⟨0x04058, 0, 32, 0⟩
abbrev EPOCH : Reg := ⟨0x0405C, 0, 16, 0⟩
abbrev TC_CORR : Reg := ⟨0x04060, 16, 16, 0⟩
abbrev XTAL_T : Reg := ⟨0x04060, 0, 16, 0⟩
abbrev SET_CNT : Reg := ⟨0x04064, 0, 32, 0⟩
abbrev ALM_CNT : Reg := ⟨0x04068, 0, 32, 0⟩
abbrev BK_LOSS_CNT : Reg := ⟨0x0406C, 0, 32, 0⟩
end DRIP

namespace SEAL
abbrev CAP_SW_A : Reg := ⟨0x05008, 24, 8, 0x10⟩
abbrev CAP_SW_B : Reg := ⟨0x05008, 16, 8, 0x10⟩
abbrev SRC_CONFLICT : Reg := ⟨0x05040, 4, 1, 0⟩
abbrev SIG_OK : Reg := ⟨0x05040, 3, 1, 0⟩
abbrev CHANGED : Reg := ⟨0x05040, 2, 1, 0⟩
abbrev POLE_DIS : Reg := ⟨0x05040, 1, 1, 0⟩
abbrev CFG_ERR : Reg := ⟨0x05040, 0, 1, 0⟩
abbrev A_SAF : Reg := ⟨0x05044, 16, 16, 0⟩
abbrev A_COL : Reg := ⟨0x05044, 0, 16, 0⟩
abbrev B_SAF : Reg := ⟨0x05048, 16, 16, 0⟩
abbrev B_COL : Reg := ⟨0x05048, 0, 16, 0⟩
abbrev DEPOT_PERMIT : Reg := ⟨0x0504C, 16, 1, 0⟩
abbrev SRC_SW : Reg := ⟨0x0504C, 15, 1, 0⟩
abbrev PST_CLASS : Reg := ⟨0x0504C, 12, 2, 0⟩
abbrev LC_EN : Reg := ⟨0x0504C, 11, 1, 0⟩
abbrev TH_EN : Reg := ⟨0x0504C, 10, 1, 0⟩
abbrev LOOP_VAR : Reg := ⟨0x0504C, 8, 2, 0⟩
abbrev INSVC : Reg := ⟨0x0504C, 0, 8, 0⟩
abbrev SIG_CRC : Reg := ⟨0x05050, 16, 16, 0⟩
abbrev SIG_SW : Reg := ⟨0x05050, 0, 16, 0⟩
abbrev DISC_MS : Reg := ⟨0x05054, 0, 16, 0⟩
abbrev POLE_DIS_CNT : Reg := ⟨0x05058, 0, 32, 0⟩
end SEAL

namespace SAFM
abbrev CAP_AX : Reg := ⟨0x06008, 24, 8, 0x10⟩
abbrev CAP_DW : Reg := ⟨0x06008, 16, 8, 8⟩
abbrev CAP_LC : Reg := ⟨0x06008, 8, 8, 8⟩
abbrev NET_RESTR : Reg := ⟨0x06040, 8, 1, 0⟩
abbrev HOST_WD : Reg := ⟨0x06040, 7, 1, 0⟩
abbrev TH_ACT : Reg := ⟨0x06040, 6, 1, 0⟩
abbrev ZS : Reg := ⟨0x06040, 5, 1, 0⟩
abbrev ESTOP : Reg := ⟨0x06040, 4, 1, 0⟩
abbrev LATCH : Reg := ⟨0x06040, 3, 1, 0⟩
abbrev ADCL_A_RB : Reg := ⟨0x06040, 2, 1, 0⟩
abbrev ADCL_A_ON : Reg := ⟨0x06040, 1, 1, 0⟩
abbrev SP_RUN : Reg := ⟨0x06040, 0, 1, 0⟩
abbrev CL_OK_SAF : Reg := ⟨0x06044, 24, 8, 0⟩
abbrev EGR_OP_SAF : Reg := ⟨0x06044, 16, 8, 0⟩
abbrev LOCK_EN_SAF : Reg := ⟨0x06044, 8, 8, 0⟩
abbrev OP_SAF_M : Reg := ⟨0x06044, 0, 8, 0⟩
abbrev TQ_PERMIT : Reg := ⟨0x06048, 16, 16, 0⟩
abbrev MOT_PERMIT : Reg := ⟨0x06048, 0, 16, 0⟩
abbrev EDGE_FLT : Reg := ⟨0x0604C, 24, 8, 0⟩
abbrev EDGE_R_ACT : Reg := ⟨0x0604C, 16, 8, 0⟩
abbrev EDGE_L_ACT : Reg := ⟨0x0604C, 8, 8, 0⟩
abbrev LC_INT : Reg := ⟨0x0604C, 0, 8, 0⟩
abbrev LATCH_SAF : Reg := ⟨0x06050, 0, 16, 0⟩
abbrev EGR_DISC_M : Reg := ⟨0x06054, 24, 8, 0⟩
abbrev LC_DISC_M : Reg := ⟨0x06054, 16, 8, 0⟩
abbrev ENC_HOLD : Reg := ⟨0x06054, 0, 16, 0⟩
abbrev SAF_STATE : Reg := ⟨0x06058, 24, 8, 0⟩
abbrev SRC : Reg := ⟨0x06058, 0, 2, 0⟩
abbrev REV_REQ_CNT : Reg := ⟨0x0605C, 0, 32, 0⟩
abbrev ESTOP_CNT : Reg := ⟨0x06060, 0, 32, 0⟩
abbrev DISC_SAF_CNT : Reg := ⟨0x06064, 0, 32, 0⟩
abbrev MIRROR_FIX_CNT : Reg := ⟨0x06068, 0, 32, 0⟩
end SAFM

namespace COLM
abbrev CAP_AX : Reg := ⟨0x07008, 24, 8, 0x10⟩
abbrev CAP_DW : Reg := ⟨0x07008, 16, 8, 8⟩
abbrev TEST_DUE : Reg := ⟨0x07040, 8, 1, 0⟩
abbrev RESET_STUCK : Reg := ⟨0x07040, 7, 1, 0⟩
abbrev SP_HB_OK : Reg := ⟨0x07040, 6, 1, 0⟩
abbrev ADCL_ALLOW : Reg := ⟨0x07040, 5, 1, 0⟩
abbrev ESTOP : Reg := ⟨0x07040, 4, 1, 0⟩
abbrev LATCH : Reg := ⟨0x07040, 3, 1, 0⟩
abbrev ADCL_B_RB : Reg := ⟨0x07040, 2, 1, 0⟩
abbrev ADCL_B_ON : Reg := ⟨0x07040, 1, 1, 0⟩
abbrev COL_OK : Reg := ⟨0x07040, 0, 1, 0⟩
abbrev RW_MASK : Reg := ⟨0x07044, 16, 16, 0⟩
abbrev TEN_MASK : Reg := ⟨0x07044, 0, 16, 0⟩
abbrev CL_OK_COL : Reg := ⟨0x07048, 24, 8, 0⟩
abbrev EGR_OP_COL : Reg := ⟨0x07048, 16, 8, 0⟩
abbrev LOCK_EN_COL : Reg := ⟨0x07048, 8, 8, 0⟩
abbrev OP_COL_M : Reg := ⟨0x07048, 0, 8, 0⟩
abbrev ESTOP_1 : Reg := ⟨0x0704C, 15, 1, 0⟩
abbrev ESTOP_2 : Reg := ⟨0x0704C, 14, 1, 0⟩
abbrev ZS_A : Reg := ⟨0x0704C, 13, 1, 0⟩
abbrev ZS_B : Reg := ⟨0x0704C, 12, 1, 0⟩
abbrev REL_LEFT : Reg := ⟨0x0704C, 11, 1, 0⟩
abbrev REL_RIGHT : Reg := ⟨0x0704C, 10, 1, 0⟩
abbrev EDM_A : Reg := ⟨0x0704C, 9, 1, 0⟩
abbrev EDM_B : Reg := ⟨0x0704C, 8, 1, 0⟩
abbrev TH_A_NO : Reg := ⟨0x0704C, 7, 1, 0⟩
abbrev TH_A_NC : Reg := ⟨0x0704C, 6, 1, 0⟩
abbrev TH_B_NO : Reg := ⟨0x0704C, 5, 1, 0⟩
abbrev TH_B_NC : Reg := ⟨0x0704C, 4, 1, 0⟩
abbrev RESET : Reg := ⟨0x0704C, 3, 1, 0⟩
abbrev DEPOT : Reg := ⟨0x0704C, 2, 1, 0⟩
abbrev LC_B : Reg := ⟨0x07050, 24, 8, 0⟩
abbrev LC_A : Reg := ⟨0x07050, 16, 8, 0⟩
abbrev LATCH_COL : Reg := ⟨0x07050, 0, 16, 0⟩
abbrev EDM_A_MS : Reg := ⟨0x07054, 16, 16, 0⟩
abbrev EDM_B_MS : Reg := ⟨0x07054, 0, 16, 0⟩
abbrev RESET_OK_CNT : Reg := ⟨0x07058, 0, 32, 0⟩
abbrev RESET_REJ_CNT : Reg := ⟨0x0705C, 0, 32, 0⟩
abbrev RESET_STUCK_CNT : Reg := ⟨0x07060, 0, 32, 0⟩
abbrev RW_TRIP_CNT : Reg := ⟨0x07064, 0, 32, 0⟩
abbrev EDM_FAULT_CNT : Reg := ⟨0x07068, 0, 32, 0⟩
abbrev DISC_COL_CNT : Reg := ⟨0x0706C, 0, 32, 0⟩
end COLM

namespace CYC
abbrev CAP_DW : Reg := ⟨0x08008, 24, 8, 8⟩
abbrev CAP_STATES : Reg := ⟨0x08008, 16, 8, 0x10⟩
abbrev TMO : Reg := ⟨0x08040, 24, 8, 0⟩
abbrev OBS : Reg := ⟨0x08040, 16, 8, 0⟩
abbrev EMG : Reg := ⟨0x08040, 8, 8, 0⟩
abbrev DRAG : Reg := ⟨0x08040, 0, 8, 0⟩
abbrev CLOK_MASK : Reg := ⟨0x08044, 24, 8, 0⟩
abbrev INSVC_MASK : Reg := ⟨0x08044, 16, 8, 0⟩
abbrev ISOL_MASK : Reg := ⟨0x08044, 8, 8, 0⟩
abbrev ADCL_SAF : Reg := ⟨0x08044, 7, 1, 0⟩
abbrev ADCL_COL : Reg := ⟨0x08044, 6, 1, 0⟩
abbrev REL_L_HW : Reg := ⟨0x08048, 31, 1, 0⟩
abbrev REL_R_HW : Reg := ⟨0x08048, 30, 1, 0⟩
abbrev REL_L_TG : Reg := ⟨0x08048, 29, 1, 0⟩
abbrev REL_R_TG : Reg := ⟨0x08048, 28, 1, 0⟩
abbrev ZS_HW : Reg := ⟨0x08048, 27, 1, 0⟩
abbrev ZS_TG : Reg := ⟨0x08048, 26, 1, 0⟩
abbrev OP_SAF_MASK : Reg := ⟨0x08048, 16, 8, 0⟩
abbrev OP_COL_MASK : Reg := ⟨0x08048, 8, 8, 0⟩
abbrev SIDE_MASK : Reg := ⟨0x08048, 0, 8, 0⟩
abbrev REFUSE_TOTAL_CNT : Reg := ⟨0x0804C, 0, 32, 0⟩
abbrev FORCED_TOTAL_CNT : Reg := ⟨0x08050, 0, 32, 0⟩
end CYC

namespace CYCD
abbrev STATE (n : Nat) : Reg := ⟨0x08200 + n % 8 * 0x80, 28, 4, 0xf⟩
abbrev PREV_STATE (n : Nat) : Reg := ⟨0x08200 + n % 8 * 0x80, 24, 4, 0xf⟩
abbrev LAST_REFUSE (n : Nat) : Reg := ⟨0x08200 + n % 8 * 0x80, 16, 8, 0⟩
abbrev RETRY (n : Nat) : Reg := ⟨0x08200 + n % 8 * 0x80, 8, 4, 0⟩
abbrev CYC_REQ (n : Nat) : Reg := ⟨0x08204 + n % 8 * 0x80, 0, 32, 0⟩
abbrev IN_SVC (n : Nat) : Reg := ⟨0x08208 + n % 8 * 0x80, 31, 1, 0⟩
abbrev STEP_FIT (n : Nat) : Reg := ⟨0x08208 + n % 8 * 0x80, 30, 1, 0⟩
abbrev SIDE (n : Nat) : Reg := ⟨0x08208 + n % 8 * 0x80, 29, 1, 0⟩
abbrev OP_SAF (n : Nat) : Reg := ⟨0x08208 + n % 8 * 0x80, 28, 1, 0⟩
abbrev OP_COL (n : Nat) : Reg := ⟨0x08208 + n % 8 * 0x80, 27, 1, 0⟩
abbrev LOCK_GATE (n : Nat) : Reg := ⟨0x08208 + n % 8 * 0x80, 26, 1, 0⟩
abbrev CL_OK (n : Nat) : Reg := ⟨0x08208 + n % 8 * 0x80, 25, 1, 0⟩
abbrev DCL_L (n : Nat) : Reg := ⟨0x08208 + n % 8 * 0x80, 24, 1, 0⟩
abbrev DCL_R (n : Nat) : Reg := ⟨0x08208 + n % 8 * 0x80, 23, 1, 0⟩
abbrev LOCKFB (n : Nat) : Reg := ⟨0x08208 + n % 8 * 0x80, 22, 1, 0⟩
abbrev STOWED (n : Nat) : Reg := ⟨0x08208 + n % 8 * 0x80, 21, 1, 0⟩
abbrev EGR_OP (n : Nat) : Reg := ⟨0x08208 + n % 8 * 0x80, 20, 1, 0⟩
abbrev ISOL (n : Nat) : Reg := ⟨0x08208 + n % 8 * 0x80, 19, 1, 0⟩
abbrev ISOL_PEND (n : Nat) : Reg := ⟨0x08208 + n % 8 * 0x80, 18, 1, 0⟩
abbrev DRAG (n : Nat) : Reg := ⟨0x08208 + n % 8 * 0x80, 17, 1, 0⟩
abbrev TMO (n : Nat) : Reg := ⟨0x08208 + n % 8 * 0x80, 16, 1, 0⟩
abbrev PAUSE_DONE (n : Nat) : Reg := ⟨0x08208 + n % 8 * 0x80, 15, 1, 0⟩
abbrev TH_ACTIVE (n : Nat) : Reg := ⟨0x08208 + n % 8 * 0x80, 14, 1, 0⟩
abbrev DWELL_DONE (n : Nat) : Reg := ⟨0x08208 + n % 8 * 0x80, 13, 1, 0⟩
abbrev T_IN_STATE_MS (n : Nat) : Reg := ⟨0x0820C + n % 8 * 0x80, 0, 32, 0⟩
abbrev CYC_REV_MM (n : Nat) : Reg := ⟨0x08210 + n % 8 * 0x80, 16, 16, 0xc8⟩
abbrev CYC_RETRY_MAX (n : Nat) : Reg := ⟨0x08210 + n % 8 * 0x80, 8, 4, 3⟩
abbrev TH_CLOSE (n : Nat) : Reg := ⟨0x08210 + n % 8 * 0x80, 0, 1, 0⟩
abbrev CYC_REPAUSE_MS (n : Nat) : Reg := ⟨0x08214 + n % 8 * 0x80, 16, 16, 0x3e8⟩
abbrev DWELL_MS (n : Nat) : Reg := ⟨0x08214 + n % 8 * 0x80, 0, 16, 0x1388⟩
abbrev T_STEP_MS (n : Nat) : Reg := ⟨0x08218 + n % 8 * 0x80, 16, 16, 0xbb8⟩
abbrev T_UNLOCK_MS (n : Nat) : Reg := ⟨0x08218 + n % 8 * 0x80, 0, 16, 0x3e8⟩
abbrev T_OPEN_MS (n : Nat) : Reg := ⟨0x0821C + n % 8 * 0x80, 16, 16, 0x1388⟩
abbrev T_CLOSE_MS (n : Nat) : Reg := ⟨0x0821C + n % 8 * 0x80, 0, 16, 0x1770⟩
abbrev T_LOCK_MS (n : Nat) : Reg := ⟨0x08220 + n % 8 * 0x80, 16, 16, 0x3e8⟩
abbrev CYC_CNT (n : Nat) : Reg := ⟨0x08224 + n % 8 * 0x80, 0, 32, 0⟩
abbrev LIFE_CYC (n : Nat) : Reg := ⟨0x08228 + n % 8 * 0x80, 0, 32, 0⟩
abbrev CYC_T_LAST_MS (n : Nat) : Reg := ⟨0x0822C + n % 8 * 0x80, 0, 32, 0⟩
abbrev CYC_FLAGS (n : Nat) : Reg := ⟨0x08230 + n % 8 * 0x80, 0, 10, 0⟩
abbrev REVERSE_CNT (n : Nat) : Reg := ⟨0x08234 + n % 8 * 0x80, 0, 32, 0⟩
abbrev OBSTR_CNT (n : Nat) : Reg := ⟨0x08238 + n % 8 * 0x80, 0, 32, 0⟩
abbrev EMERG_CNT (n : Nat) : Reg := ⟨0x0823C + n % 8 * 0x80, 0, 32, 0⟩
abbrev REFUSE_CNT (n : Nat) : Reg := ⟨0x08240 + n % 8 * 0x80, 0, 32, 0⟩
abbrev TMO_CNT (n : Nat) : Reg := ⟨0x08244 + n % 8 * 0x80, 0, 32, 0⟩
abbrev DRAG_CNT (n : Nat) : Reg := ⟨0x08248 + n % 8 * 0x80, 0, 32, 0⟩
abbrev ISOL_CNT (n : Nat) : Reg := ⟨0x0824C + n % 8 * 0x80, 0, 32, 0⟩
abbrev DEPOT_CNT (n : Nat) : Reg := ⟨0x08250 + n % 8 * 0x80, 0, 32, 0⟩
abbrev FORCED_CNT (n : Nat) : Reg := ⟨0x08254 + n % 8 * 0x80, 0, 32, 0⟩
end CYCD

namespace AX
abbrev CAP_MQ (n : Nat) : Reg := ⟨0x10008 + n % 16 * 0x1000, 24, 8, 8⟩
abbrev CAP_PRF (n : Nat) : Reg := ⟨0x10008 + n % 16 * 0x1000, 16, 8, 0x20⟩
abbrev CAP_SEG (n : Nat) : Reg := ⟨0x10008 + n % 16 * 0x1000, 8, 8, 0x40⟩
abbrev AX_KIND (n : Nat) : Reg := ⟨0x10008 + n % 16 * 0x1000, 0, 8, if n < 8 then 1 else 2⟩
abbrev LEARN (n : Nat) : Reg := ⟨0x10040 + n % 16 * 0x1000, 23, 1, 0⟩
abbrev FORCE_TRIP (n : Nat) : Reg := ⟨0x10040 + n % 16 * 0x1000, 22, 1, 0⟩
abbrev SW_CLOSED (n : Nat) : Reg := ⟨0x10040 + n % 16 * 0x1000, 21, 1, 0⟩
abbrev SW_OPEN (n : Nat) : Reg := ⟨0x10040 + n % 16 * 0x1000, 20, 1, 0⟩
abbrev DEV_FAULT (n : Nat) : Reg := ⟨0x10040 + n % 16 * 0x1000, 19, 1, 0⟩
abbrev SLIP (n : Nat) : Reg := ⟨0x10040 + n % 16 * 0x1000, 18, 1, 0⟩
abbrev HOMING (n : Nat) : Reg := ⟨0x10040 + n % 16 * 0x1000, 17, 1, 0⟩
abbrev HOMED (n : Nat) : Reg := ⟨0x10040 + n % 16 * 0x1000, 16, 1, 0⟩
abbrev GO_WAIT (n : Nat) : Reg := ⟨0x10040 + n % 16 * 0x1000, 9, 1, 0⟩
abbrev COARSE (n : Nat) : Reg := ⟨0x10040 + n % 16 * 0x1000, 8, 1, 0⟩
abbrev STO (n : Nat) : Reg := ⟨0x10040 + n % 16 * 0x1000, 7, 1, 1⟩
abbrev AT_TARGET (n : Nat) : Reg := ⟨0x10040 + n % 16 * 0x1000, 6, 1, 0⟩
abbrev Q_FULL (n : Nat) : Reg := ⟨0x10040 + n % 16 * 0x1000, 5, 1, 0⟩
abbrev Q_EMPTY (n : Nat) : Reg := ⟨0x10040 + n % 16 * 0x1000, 4, 1, 1⟩
abbrev STOPPING (n : Nat) : Reg := ⟨0x10040 + n % 16 * 0x1000, 3, 1, 0⟩
abbrev HOLD (n : Nat) : Reg := ⟨0x10040 + n % 16 * 0x1000, 2, 1, 0⟩
abbrev MOVING (n : Nat) : Reg := ⟨0x10040 + n % 16 * 0x1000, 1, 1, 0⟩
abbrev TORQUE (n : Nat) : Reg := ⟨0x10040 + n % 16 * 0x1000, 0, 1, 0⟩
abbrev EL_OFS (n : Nat) : Reg := ⟨0x10044 + n % 16 * 0x1000, 16, 12, 0⟩
abbrev TBL_SEL (n : Nat) : Reg := ⟨0x10044 + n % 16 * 0x1000, 12, 2, 0⟩
abbrev STEPPER (n : Nat) : Reg := ⟨0x10044 + n % 16 * 0x1000, 8, 1, 0⟩
abbrev MODE (n : Nat) : Reg := ⟨0x10044 + n % 16 * 0x1000, 4, 2, 0⟩
abbrev TORQUE_REQ (n : Nat) : Reg := ⟨0x10044 + n % 16 * 0x1000, 0, 1, 0⟩
abbrev AX_CMD (n : Nat) : Reg := ⟨0x10048 + n % 16 * 0x1000, 0, 32, 0⟩
abbrev SPEED (n : Nat) : Reg := ⟨0x1004C + n % 16 * 0x1000, 16, 16, 0x100⟩
abbrev MQ_GO_WAIT (n : Nat) : Reg := ⟨0x1004C + n % 16 * 0x1000, 12, 1, 0⟩
abbrev BLEND (n : Nat) : Reg := ⟨0x1004C + n % 16 * 0x1000, 8, 2, 0⟩
abbrev PROFILE (n : Nat) : Reg := ⟨0x1004C + n % 16 * 0x1000, 0, 5, 0⟩
abbrev MQ_TGT_HI (n : Nat) : Reg := ⟨0x10050 + n % 16 * 0x1000, 0, 32, 0⟩
abbrev MQ_TGT_LO (n : Nat) : Reg := ⟨0x10054 + n % 16 * 0x1000, 0, 32, 0⟩
abbrev RUN_SEG (n : Nat) : Reg := ⟨0x10058 + n % 16 * 0x1000, 24, 6, 0⟩
abbrev RUN_PRF (n : Nat) : Reg := ⟨0x10058 + n % 16 * 0x1000, 16, 5, 0⟩
abbrev RUN_KIND (n : Nat) : Reg := ⟨0x10058 + n % 16 * 0x1000, 8, 4, 0⟩
abbrev MQ_COUNT (n : Nat) : Reg := ⟨0x10058 + n % 16 * 0x1000, 0, 4, 0⟩
abbrev STOP_RAMP (n : Nat) : Reg := ⟨0x1005C + n % 16 * 0x1000, 4, 4, 0⟩
abbrev STOP_CAUSE (n : Nat) : Reg := ⟨0x1005C + n % 16 * 0x1000, 0, 4, 0⟩
abbrev POS_HI (n : Nat) : Reg := ⟨0x10060 + n % 16 * 0x1000, 0, 32, 0⟩
abbrev POS_LO (n : Nat) : Reg := ⟨0x10064 + n % 16 * 0x1000, 0, 32, 0⟩
abbrev VEL (n : Nat) : Reg := ⟨0x10068 + n % 16 * 0x1000, 0, 32, 0⟩
abbrev TGT_HI (n : Nat) : Reg := ⟨0x1006C + n % 16 * 0x1000, 0, 32, 0⟩
abbrev TGT_LO (n : Nat) : Reg := ⟨0x10070 + n % 16 * 0x1000, 0, 32, 0⟩
abbrev POS_UM (n : Nat) : Reg := ⟨0x10074 + n % 16 * 0x1000, 0, 32, 0⟩
abbrev AX_SCALE (n : Nat) : Reg := ⟨0x10078 + n % 16 * 0x1000, 0, 32, 0x10000⟩
abbrev AX_VMAX (n : Nat) : Reg := ⟨0x1007C + n % 16 * 0x1000, 0, 32, 0x40000⟩
abbrev AX_VLIM_LO_HI (n : Nat) : Reg := ⟨0x10080 + n % 16 * 0x1000, 0, 32, 0⟩
abbrev AX_VLIM_LO_LO (n : Nat) : Reg := ⟨0x10084 + n % 16 * 0x1000, 0, 32, 0⟩
abbrev AX_VLIM_HI_HI (n : Nat) : Reg := ⟨0x10088 + n % 16 * 0x1000, 0, 32, 0⟩
abbrev AX_VLIM_HI_LO (n : Nat) : Reg := ⟨0x1008C + n % 16 * 0x1000, 0, 32, 0⟩
abbrev I_RUN (n : Nat) : Reg := ⟨0x10090 + n % 16 * 0x1000, 0, 16, 0x7d0⟩
abbrev AX_HOLD_DELAY (n : Nat) : Reg := ⟨0x10094 + n % 16 * 0x1000, 16, 16, 0x1f4⟩
abbrev AX_HOLD_PCT (n : Nat) : Reg := ⟨0x10094 + n % 16 * 0x1000, 0, 7, 0x32⟩
abbrev REV_PRF (n : Nat) : Reg := ⟨0x10098 + n % 16 * 0x1000, 8, 5, 0⟩
abbrev STOP_PRF (n : Nat) : Reg := ⟨0x10098 + n % 16 * 0x1000, 0, 5, 0⟩
abbrev PRF_VALID (n : Nat) : Reg := ⟨0x1009C + n % 16 * 0x1000, 0, 32, 0⟩
abbrev PRF_COMMIT (n : Nat) : Reg := ⟨0x100A0 + n % 16 * 0x1000, 0, 32, 0⟩
abbrev ERR_SEG (n : Nat) : Reg := ⟨0x100A4 + n % 16 * 0x1000, 16, 6, 0⟩
abbrev ERR_REASON (n : Nat) : Reg := ⟨0x100A4 + n % 16 * 0x1000, 8, 8, 0⟩
abbrev ERR_PRF (n : Nat) : Reg := ⟨0x100A4 + n % 16 * 0x1000, 0, 5, 0⟩
abbrev AX_INTERP (n : Nat) : Reg := ⟨0x100A8 + n % 16 * 0x1000, 0, 13, 0x10⟩
abbrev MQ_DROP_CNT (n : Nat) : Reg := ⟨0x100AC + n % 16 * 0x1000, 0, 32, 0⟩
abbrev MQ_FLUSH_CNT (n : Nat) : Reg := ⟨0x100B0 + n % 16 * 0x1000, 0, 32, 0⟩
abbrev CLAMP_CNT (n : Nat) : Reg := ⟨0x100B4 + n % 16 * 0x1000, 0, 32, 0⟩
abbrev BLEND_MISS_CNT (n : Nat) : Reg := ⟨0x100B8 + n % 16 * 0x1000, 0, 32, 0⟩
abbrev CS_DROP_CNT (n : Nat) : Reg := ⟨0x100BC + n % 16 * 0x1000, 0, 32, 0⟩
abbrev ENC_RATIO (n : Nat) : Reg := ⟨0x100C0 + n % 16 * 0x1000, 0, 32, 0x10000⟩
abbrev MOT_PP (n : Nat) : Reg := ⟨0x100C4 + n % 16 * 0x1000, 8, 8, 4⟩
abbrev ENC_INV (n : Nat) : Reg := ⟨0x100C4 + n % 16 * 0x1000, 0, 1, 0⟩
abbrev MEAS_HI (n : Nat) : Reg := ⟨0x100C8 + n % 16 * 0x1000, 0, 32, 0⟩
abbrev MEAS_LO (n : Nat) : Reg := ⟨0x100CC + n % 16 * 0x1000, 0, 32, 0⟩
abbrev MEAS_VEL (n : Nat) : Reg := ⟨0x100D0 + n % 16 * 0x1000, 0, 32, 0⟩
abbrev ZCAP_HI (n : Nat) : Reg := ⟨0x100D4 + n % 16 * 0x1000, 0, 32, 0⟩
abbrev ZCAP_LO (n : Nat) : Reg := ⟨0x100D8 + n % 16 * 0x1000, 0, 32, 0⟩
abbrev AX_DEV_WIN (n : Nat) : Reg := ⟨0x100DC + n % 16 * 0x1000, 16, 16, 0x40⟩
abbrev AX_DEV_N (n : Nat) : Reg := ⟨0x100DC + n % 16 * 0x1000, 0, 8, 8⟩
abbrev AX_RECAP_WIN (n : Nat) : Reg := ⟨0x100E0 + n % 16 * 0x1000, 0, 32, 0x1000⟩
abbrev AX_SLIP_VMAX (n : Nat) : Reg := ⟨0x100E4 + n % 16 * 0x1000, 0, 32, 0x4000⟩
abbrev DEV_STATE (n : Nat) : Reg := ⟨0x100E8 + n % 16 * 0x1000, 24, 8, 0⟩
abbrev DEV_CAUSE (n : Nat) : Reg := ⟨0x100E8 + n % 16 * 0x1000, 16, 8, 0⟩
abbrev DEV_LAST (n : Nat) : Reg := ⟨0x100E8 + n % 16 * 0x1000, 0, 16, 0⟩
abbrev DEV_E (n : Nat) : Reg := ⟨0x100EC + n % 16 * 0x1000, 0, 32, 0⟩
abbrev HOME_SPEED (n : Nat) : Reg := ⟨0x100F0 + n % 16 * 0x1000, 16, 16, 0x40⟩
abbrev HOME_PRF (n : Nat) : Reg := ⟨0x100F0 + n % 16 * 0x1000, 8, 5, 0⟩
abbrev HOME_MODE (n : Nat) : Reg := ⟨0x100F0 + n % 16 * 0x1000, 0, 1, 0⟩
abbrev HOME_FORCE (n : Nat) : Reg := ⟨0x100F4 + n % 16 * 0x1000, 16, 16, 0x190⟩
abbrev HOME_I (n : Nat) : Reg := ⟨0x100F4 + n % 16 * 0x1000, 0, 16, 0x5dc⟩
abbrev HOME_POS_HI (n : Nat) : Reg := ⟨0x100F8 + n % 16 * 0x1000, 0, 32, 0⟩
abbrev HOME_POS_LO (n : Nat) : Reg := ⟨0x100FC + n % 16 * 0x1000, 0, 32, 0⟩
abbrev HOME_BACKOFF (n : Nat) : Reg := ⟨0x10100 + n % 16 * 0x1000, 0, 32, 0x1f4⟩
abbrev HOME_RESULT (n : Nat) : Reg := ⟨0x10104 + n % 16 * 0x1000, 16, 8, 0⟩
abbrev CAP_HI (n : Nat) : Reg := ⟨0x10108 + n % 16 * 0x1000, 0, 32, 0⟩
abbrev CAP_LO (n : Nat) : Reg := ⟨0x1010C + n % 16 * 0x1000, 0, 32, 0⟩
abbrev SW_BOTH (n : Nat) : Reg := ⟨0x10110 + n % 16 * 0x1000, 8, 1, 0⟩
abbrev CAP_SW (n : Nat) : Reg := ⟨0x10110 + n % 16 * 0x1000, 4, 4, 0⟩
abbrev RAW_OPEN (n : Nat) : Reg := ⟨0x10110 + n % 16 * 0x1000, 1, 1, 0⟩
abbrev RAW_CLOSED (n : Nat) : Reg := ⟨0x10110 + n % 16 * 0x1000, 0, 1, 0⟩
abbrev SW_MARGIN (n : Nat) : Reg := ⟨0x10114 + n % 16 * 0x1000, 0, 32, 0x3e8⟩
abbrev CHATTER_CNT (n : Nat) : Reg := ⟨0x10118 + n % 16 * 0x1000, 0, 32, 0⟩
abbrev LIMIT_CNT (n : Nat) : Reg := ⟨0x1011C + n % 16 * 0x1000, 0, 32, 0⟩
abbrev MOT_KT (n : Nat) : Reg := ⟨0x10120 + n % 16 * 0x1000, 16, 16, 0x3e8⟩
abbrev MOT_R (n : Nat) : Reg := ⟨0x10120 + n % 16 * 0x1000, 0, 16, 0x3e8⟩
abbrev MOT_L (n : Nat) : Reg := ⟨0x10124 + n % 16 * 0x1000, 16, 16, 0x3e8⟩
abbrev MECH_EFF (n : Nat) : Reg := ⟨0x10124 + n % 16 * 0x1000, 0, 16, 0x352⟩
abbrev KT_EST (n : Nat) : Reg := ⟨0x10128 + n % 16 * 0x1000, 16, 16, 0x3e8⟩
abbrev FORCE_EST (n : Nat) : Reg := ⟨0x1012C + n % 16 * 0x1000, 16, 16, 0⟩
abbrev FORCE_THR (n : Nat) : Reg := ⟨0x1012C + n % 16 * 0x1000, 0, 16, 0x5dc⟩
abbrev ENV_LEARN_N (n : Nat) : Reg := ⟨0x10130 + n % 16 * 0x1000, 24, 8, 8⟩
abbrev LEARN_RUNS (n : Nat) : Reg := ⟨0x10130 + n % 16 * 0x1000, 16, 8, 0⟩
abbrev ENV_MARGIN (n : Nat) : Reg := ⟨0x10130 + n % 16 * 0x1000, 0, 16, 0x12c⟩
abbrev FLIM_ABS (n : Nat) : Reg := ⟨0x10134 + n % 16 * 0x1000, 16, 16, 0x5dc⟩
abbrev SQZ_FABS (n : Nat) : Reg := ⟨0x10134 + n % 16 * 0x1000, 0, 16, 0x320⟩
abbrev E_LIM (n : Nat) : Reg := ⟨0x10138 + n % 16 * 0x1000, 16, 16, 0x2710⟩
abbrev SQZ_VMAX (n : Nat) : Reg := ⟨0x10138 + n % 16 * 0x1000, 0, 16, 0x64⟩
abbrev REV_MM (n : Nat) : Reg := ⟨0x1013C + n % 16 * 0x1000, 16, 16, 0xc8⟩
abbrev V_LIM (n : Nat) : Reg := ⟨0x1013C + n % 16 * 0x1000, 0, 16, 0x198⟩
abbrev MASS_G (n : Nat) : Reg := ⟨0x10140 + n % 16 * 0x1000, 0, 32, 0⟩
abbrev DIR_OPEN (n : Nat) : Reg := ⟨0x10144 + n % 16 * 0x1000, 4, 1, 0⟩
abbrev SQZ (n : Nat) : Reg := ⟨0x10144 + n % 16 * 0x1000, 3, 1, 0⟩
abbrev MASS_VALID (n : Nat) : Reg := ⟨0x10144 + n % 16 * 0x1000, 2, 1, 0⟩
abbrev ENV_VALID (n : Nat) : Reg := ⟨0x10144 + n % 16 * 0x1000, 1, 1, 0⟩
abbrev TRIP_CAUSE (n : Nat) : Reg := ⟨0x10148 + n % 16 * 0x1000, 24, 8, 0⟩
abbrev TRIP_BIN (n : Nat) : Reg := ⟨0x10148 + n % 16 * 0x1000, 16, 8, 0⟩
abbrev TRIP_F (n : Nat) : Reg := ⟨0x10148 + n % 16 * 0x1000, 0, 16, 0⟩
abbrev REV_AMAX (n : Nat) : Reg := ⟨0x1014C + n % 16 * 0x1000, 0, 32, 0xcbb⟩
abbrev FORCE_TRIP_CNT (n : Nat) : Reg := ⟨0x10150 + n % 16 * 0x1000, 0, 32, 0⟩
abbrev REV_CNT (n : Nat) : Reg := ⟨0x10154 + n % 16 * 0x1000, 0, 32, 0⟩
abbrev GAP_MM (n : Nat) : Reg := ⟨0x10158 + n % 16 * 0x1000, 16, 16, 0xffff⟩
abbrev GAP_AGE_MS (n : Nat) : Reg := ⟨0x10158 + n % 16 * 0x1000, 0, 16, 0xffff⟩
abbrev STEP_MAX_MM (n : Nat) : Reg := ⟨0x1015C + n % 16 * 0x1000, 16, 16, 0x12c⟩
abbrev STEP_GAP_MM (n : Nat) : Reg := ⟨0x1015C + n % 16 * 0x1000, 0, 16, 0x14⟩
abbrev STEP_INFO (n : Nat) : Reg := ⟨0x10160 + n % 16 * 0x1000, 0, 8, 0⟩
abbrev GAP_STALE_CNT (n : Nat) : Reg := ⟨0x10164 + n % 16 * 0x1000, 0, 32, 0⟩
abbrev SLIP_CNT (n : Nat) : Reg := ⟨0x10168 + n % 16 * 0x1000, 0, 32, 0⟩
abbrev DEV_FAULT_CNT (n : Nat) : Reg := ⟨0x1016C + n % 16 * 0x1000, 0, 32, 0⟩
abbrev ENC_ERR_CNT (n : Nat) : Reg := ⟨0x10170 + n % 16 * 0x1000, 0, 32, 0⟩
end AX

namespace TRV
abbrev CAP_AX : Reg := ⟨0x20008, 24, 8, 0x10⟩
abbrev CAP_TBL : Reg := ⟨0x20008, 16, 8, 4⟩
abbrev CAP_TBL_LEN : Reg := ⟨0x20008, 0, 16, 0x1000⟩
abbrev GO_PENDING : Reg := ⟨0x20040, 3, 1, 0⟩
abbrev ANY_FAULT : Reg := ⟨0x20040, 2, 1, 0⟩
abbrev ANY_STO : Reg := ⟨0x20040, 1, 1, 1⟩
abbrev ANY_MOVING : Reg := ⟨0x20040, 0, 1, 0⟩
abbrev MOVING_MASK : Reg := ⟨0x20044, 0, 16, 0⟩
abbrev STO_MASK : Reg := ⟨0x20048, 0, 16, 0xffff⟩
abbrev TRV_GO : Reg := ⟨0x2004C, 0, 32, 0⟩
abbrev TBL_INUSE : Reg := ⟨0x20050, 0, 4, 0⟩
abbrev TBL_CRC0 : Reg := ⟨0x20054, 0, 32, 0x4551bb3b⟩
abbrev TBL_CRC1 : Reg := ⟨0x20058, 0, 32, 0x4551bb3b⟩
abbrev TBL_CRC2 : Reg := ⟨0x2005C, 0, 32, 0x4551bb3b⟩
abbrev TBL_CRC3 : Reg := ⟨0x20060, 0, 32, 0x38cf604f⟩
end TRV

namespace LH
abbrev CAP_RING (n : Nat) : Reg := ⟨0x28008 + n % 16 * 0x1000, 24, 8, 8⟩
abbrev CAP_VER (n : Nat) : Reg := ⟨0x28008 + n % 16 * 0x1000, 16, 8, 3⟩
abbrev CAP_GEAR (n : Nat) : Reg := ⟨0x28008 + n % 16 * 0x1000, 8, 8, 2⟩
abbrev HEAD_ROLE (n : Nat) : Reg := ⟨0x28008 + n % 16 * 0x1000, 0, 8, n % 2 + 1⟩
abbrev LINK_STATE (n : Nat) : Reg := ⟨0x28040 + n % 16 * 0x1000, 28, 4, 0⟩
abbrev REJ_CODE (n : Nat) : Reg := ⟨0x28040 + n % 16 * 0x1000, 24, 4, 0⟩
abbrev GW_GOOD (n : Nat) : Reg := ⟨0x28040 + n % 16 * 0x1000, 11, 1, 0⟩
abbrev HP_SHED (n : Nat) : Reg := ⟨0x28040 + n % 16 * 0x1000, 10, 1, 0⟩
abbrev PWR_TRIP (n : Nat) : Reg := ⟨0x28040 + n % 16 * 0x1000, 9, 1, 0⟩
abbrev PRESENT (n : Nat) : Reg := ⟨0x28040 + n % 16 * 0x1000, 8, 1, 0⟩
abbrev GEAR_LOW (n : Nat) : Reg := ⟨0x28040 + n % 16 * 0x1000, 7, 1, 0⟩
abbrev BURST (n : Nat) : Reg := ⟨0x28040 + n % 16 * 0x1000, 6, 1, 0⟩
abbrev CAL_OK (n : Nat) : Reg := ⟨0x28040 + n % 16 * 0x1000, 5, 1, 0⟩
abbrev ID_OK (n : Nat) : Reg := ⟨0x28040 + n % 16 * 0x1000, 4, 1, 0⟩
abbrev LINK_UP (n : Nat) : Reg := ⟨0x28040 + n % 16 * 0x1000, 3, 1, 0⟩
abbrev RUN (n : Nat) : Reg := ⟨0x28040 + n % 16 * 0x1000, 2, 1, 0⟩
abbrev FRAME_STALE (n : Nat) : Reg := ⟨0x28040 + n % 16 * 0x1000, 1, 1, 0⟩
abbrev LH_CMD (n : Nat) : Reg := ⟨0x28044 + n % 16 * 0x1000, 0, 32, 0⟩
abbrev SLOT (n : Nat) : Reg := ⟨0x28048 + n % 16 * 0x1000, 24, 8, n % 2 * 8 + n / 2⟩
abbrev HVER (n : Nat) : Reg := ⟨0x28048 + n % 16 * 0x1000, 16, 8, 0⟩
abbrev GEAR (n : Nat) : Reg := ⟨0x28048 + n % 16 * 0x1000, 8, 8, 0⟩
abbrev MODE (n : Nat) : Reg := ⟨0x28048 + n % 16 * 0x1000, 0, 8, 0⟩
abbrev HP_MW (n : Nat) : Reg := ⟨0x2804C + n % 16 * 0x1000, 16, 16, 0⟩
abbrev HP_V (n : Nat) : Reg := ⟨0x2804C + n % 16 * 0x1000, 0, 16, 0⟩
abbrev HEAD_VENDOR (n : Nat) : Reg := ⟨0x28050 + n % 16 * 0x1000, 16, 16, 0⟩
abbrev HEAD_MODEL (n : Nat) : Reg := ⟨0x28050 + n % 16 * 0x1000, 0, 16, 0⟩
abbrev HEAD_SER_HI (n : Nat) : Reg := ⟨0x28054 + n % 16 * 0x1000, 0, 32, 0⟩
abbrev HEAD_SER_LO (n : Nat) : Reg := ⟨0x28058 + n % 16 * 0x1000, 0, 32, 0⟩
abbrev CAL_CRC (n : Nat) : Reg := ⟨0x2805C + n % 16 * 0x1000, 0, 32, 0⟩
abbrev FRAME_NO (n : Nat) : Reg := ⟨0x28060 + n % 16 * 0x1000, 0, 32, 0⟩
abbrev FRAME_TIME (n : Nat) : Reg := ⟨0x28064 + n % 16 * 0x1000, 0, 32, 0⟩
abbrev FRAME_AGE_MS (n : Nat) : Reg := ⟨0x28068 + n % 16 * 0x1000, 16, 16, 0xffff⟩
abbrev FRAME_LAT (n : Nat) : Reg := ⟨0x28068 + n % 16 * 0x1000, 0, 16, 0⟩
abbrev GW_SENT (n : Nat) : Reg := ⟨0x2806C + n % 16 * 0x1000, 28, 4, 0⟩
abbrev GW_REP (n : Nat) : Reg := ⟨0x2806C + n % 16 * 0x1000, 24, 4, 0⟩
abbrev GW_RESULT (n : Nat) : Reg := ⟨0x2806C + n % 16 * 0x1000, 16, 8, 0⟩
abbrev GW_RUN (n : Nat) : Reg := ⟨0x2806C + n % 16 * 0x1000, 0, 16, 0⟩
abbrev GW_MS (n : Nat) : Reg := ⟨0x28070 + n % 16 * 0x1000, 16, 16, 0xffff⟩
abbrev FRM_OK_CNT (n : Nat) : Reg := ⟨0x28074 + n % 16 * 0x1000, 0, 32, 0⟩
abbrev FRM_CRC_CNT (n : Nat) : Reg := ⟨0x28078 + n % 16 * 0x1000, 0, 32, 0⟩
abbrev FRM_INC_CNT (n : Nat) : Reg := ⟨0x2807C + n % 16 * 0x1000, 0, 32, 0⟩
abbrev FRM_FULL_CNT (n : Nat) : Reg := ⟨0x28080 + n % 16 * 0x1000, 0, 32, 0⟩
abbrev FRM_SKIP_CNT (n : Nat) : Reg := ⟨0x28084 + n % 16 * 0x1000, 0, 32, 0⟩
abbrev LINK_LOSS_CNT (n : Nat) : Reg := ⟨0x28088 + n % 16 * 0x1000, 0, 32, 0⟩
abbrev TRAIN_CNT (n : Nat) : Reg := ⟨0x2808C + n % 16 * 0x1000, 0, 32, 0⟩
abbrev PWR_TRIP_CNT (n : Nat) : Reg := ⟨0x28090 + n % 16 * 0x1000, 0, 32, 0⟩
abbrev GW_FAIL_CNT (n : Nat) : Reg := ⟨0x28094 + n % 16 * 0x1000, 0, 32, 0⟩
abbrev GW_SIL_CNT (n : Nat) : Reg := ⟨0x28098 + n % 16 * 0x1000, 0, 32, 0⟩
abbrev BURST_CNT (n : Nat) : Reg := ⟨0x2809C + n % 16 * 0x1000, 0, 32, 0⟩
end LH

namespace LANT
abbrev CAP_HEADS : Reg := ⟨0x38008, 24, 8, 0x10⟩
abbrev CAP_LQ : Reg := ⟨0x38008, 16, 8, 0x10⟩
abbrev CAP_PART_MB : Reg := ⟨0x38008, 0, 16, 0x600⟩
abbrev ANY_SHED : Reg := ⟨0x38040, 4, 1, 0⟩
abbrev ANY_DOWN : Reg := ⟨0x38040, 3, 1, 0⟩
abbrev ANY_BURST : Reg := ⟨0x38040, 2, 1, 0⟩
abbrev HP_OK : Reg := ⟨0x38040, 1, 1, 0⟩
abbrev ENG_OK : Reg := ⟨0x38040, 0, 1, 0⟩
abbrev RUN_MASK : Reg := ⟨0x38044, 16, 16, 0⟩
abbrev UP_MASK : Reg := ⟨0x38044, 0, 16, 0⟩
abbrev GOOD_MASK : Reg := ⟨0x38048, 16, 16, 0⟩
abbrev BURST_MASK : Reg := ⟨0x38048, 0, 16, 0⟩
abbrev HP_TOTAL : Reg := ⟨0x3804C, 16, 16, 0⟩
abbrev ING_MBPS : Reg := ⟨0x3804C, 0, 16, 0⟩
abbrev ENG_FAULT_STAGE : Reg := ⟨0x38050, 0, 8, 0⟩
abbrev HP_SHED_CNT : Reg := ⟨0x38054, 0, 32, 0⟩
end LANT

namespace LVOL
abbrev CAP_DW : Reg := ⟨0x39008, 24, 8, 8⟩
abbrev CAP_VOX_MM : Reg := ⟨0x39008, 16, 8, 0xa⟩
abbrev CAP_LQ_DEPTH : Reg := ⟨0x39008, 8, 8, 0x10⟩
abbrev UNTRUST : Reg := ⟨0x39040, 24, 8, 0⟩
abbrev THIN : Reg := ⟨0x39040, 16, 8, 0⟩
abbrev LQ_NE : Reg := ⟨0x39040, 0, 16, 0⟩
abbrev PINCH_MASK : Reg := ⟨0x39044, 24, 8, 0⟩
abbrev BURST_REQ_MASK : Reg := ⟨0x39044, 16, 8, 0⟩
abbrev BG_VALID_MASK : Reg := ⟨0x39044, 8, 8, 0⟩
abbrev SQZ_MASK : Reg := ⟨0x39044, 0, 8, 0⟩
abbrev LQ_ACK : Reg := ⟨0x39048, 0, 32, 0⟩
abbrev BG_CMD : Reg := ⟨0x3904C, 0, 32, 0⟩
abbrev BG_STATE : Reg := ⟨0x39050, 0, 32, 0⟩
abbrev BG_LEARN_N : Reg := ⟨0x39054, 24, 8, 0x40⟩
abbrev BG_STATIC_THR : Reg := ⟨0x39054, 16, 8, 2⟩
abbrev OCC_MIN : Reg := ⟨0x39054, 8, 8, 4⟩
abbrev LQ_FILL0 : Reg := ⟨0x39058, 0, 32, 0⟩
abbrev LQ_FILL1 : Reg := ⟨0x3905C, 0, 32, 0⟩
abbrev LQ_FILL2 : Reg := ⟨0x39060, 0, 32, 0⟩
abbrev LQ_FILL3 : Reg := ⟨0x39064, 0, 32, 0⟩
abbrev LQ_DROP_CNT : Reg := ⟨0x39068, 0, 32, 0⟩
abbrev PROC_SKIP_CNT : Reg := ⟨0x3906C, 0, 32, 0⟩
abbrev STALE_CNT : Reg := ⟨0x39070, 0, 32, 0⟩
abbrev SQZ_CNT : Reg := ⟨0x39074, 0, 32, 0⟩
abbrev PINCH_CNT : Reg := ⟨0x39078, 0, 32, 0⟩
abbrev THIN_CNT : Reg := ⟨0x3907C, 0, 32, 0⟩
abbrev BG_FAIL_CNT : Reg := ⟨0x39080, 0, 32, 0⟩
end LVOL

namespace LVOLD
abbrev LEAF_Y_MM (n : Nat) : Reg := ⟨0x39100 + n % 8 * 0x40, 16, 16, 0x28⟩
abbrev LEAF_MARGIN_MM (n : Nat) : Reg := ⟨0x39100 + n % 8 * 0x40, 8, 8, 0xa⟩
abbrev LEAF_CFG (n : Nat) : Reg := ⟨0x39100 + n % 8 * 0x40, 0, 2, 0⟩
abbrev LEAF_ZERO_HI (n : Nat) : Reg := ⟨0x39104 + n % 8 * 0x40, 0, 32, 0⟩
abbrev LEAF_ZERO_LO (n : Nat) : Reg := ⟨0x39108 + n % 8 * 0x40, 0, 32, 0⟩
abbrev STEP_ZERO_HI (n : Nat) : Reg := ⟨0x3910C + n % 8 * 0x40, 0, 32, 0⟩
abbrev STEP_ZERO_LO (n : Nat) : Reg := ⟨0x39110 + n % 8 * 0x40, 0, 32, 0⟩
abbrev SLAB_AHEAD_MM (n : Nat) : Reg := ⟨0x39114 + n % 8 * 0x40, 16, 16, 0x64⟩
abbrev SLAB_BEHIND_MM (n : Nat) : Reg := ⟨0x39114 + n % 8 * 0x40, 0, 16, 0x14⟩
abbrev SLAB_Y_MM (n : Nat) : Reg := ⟨0x39118 + n % 8 * 0x40, 16, 16, 0x64⟩
abbrev PINCH_VOX (n : Nat) : Reg := ⟨0x39118 + n % 8 * 0x40, 0, 16, 3⟩
abbrev SLAB_Z_LO (n : Nat) : Reg := ⟨0x3911C + n % 8 * 0x40, 16, 16, 0x32⟩
abbrev SLAB_Z_HI (n : Nat) : Reg := ⟨0x3911C + n % 8 * 0x40, 0, 16, 0x7d0⟩
abbrev THIN_ARM_MM (n : Nat) : Reg := ⟨0x39120 + n % 8 * 0x40, 16, 16, 0x14⟩
abbrev THIN_Y_MM (n : Nat) : Reg := ⟨0x39120 + n % 8 * 0x40, 8, 8, 0x1e⟩
abbrev THIN_N (n : Nat) : Reg := ⟨0x39120 + n % 8 * 0x40, 0, 8, 2⟩
abbrev THIN_X_MM (n : Nat) : Reg := ⟨0x39124 + n % 8 * 0x40, 16, 16, 0x3c⟩
abbrev THIN_MIN_PTS (n : Nat) : Reg := ⟨0x39124 + n % 8 * 0x40, 0, 16, 0x10⟩
abbrev GAP_X_MM (n : Nat) : Reg := ⟨0x39128 + n % 8 * 0x40, 16, 16, 0x190⟩
abbrev NOSE_Y0_MM (n : Nat) : Reg := ⟨0x39128 + n % 8 * 0x40, 0, 16, 0x14⟩
abbrev GAP_Z_LO (n : Nat) : Reg := ⟨0x3912C + n % 8 * 0x40, 16, 16, 0xfda8⟩
abbrev GAP_Z_HI (n : Nat) : Reg := ⟨0x3912C + n % 8 * 0x40, 0, 16, 0x12c⟩
abbrev UNT_WHY (n : Nat) : Reg := ⟨0x39130 + n % 8 * 0x40, 24, 8, 0⟩
abbrev TRUSTED (n : Nat) : Reg := ⟨0x39130 + n % 8 * 0x40, 15, 1, 0⟩
abbrev SQZ (n : Nat) : Reg := ⟨0x39130 + n % 8 * 0x40, 14, 1, 0⟩
abbrev BURST_REQ (n : Nat) : Reg := ⟨0x39130 + n % 8 * 0x40, 13, 1, 0⟩
abbrev THIN (n : Nat) : Reg := ⟨0x39130 + n % 8 * 0x40, 12, 1, 0⟩
abbrev PINCH_R (n : Nat) : Reg := ⟨0x39130 + n % 8 * 0x40, 11, 1, 0⟩
abbrev PINCH_L (n : Nat) : Reg := ⟨0x39130 + n % 8 * 0x40, 10, 1, 0⟩
abbrev GAP_VALID (n : Nat) : Reg := ⟨0x39130 + n % 8 * 0x40, 9, 1, 0⟩
abbrev THIN_ARMED (n : Nat) : Reg := ⟨0x39130 + n % 8 * 0x40, 8, 1, 0⟩
abbrev CLEAR_L (n : Nat) : Reg := ⟨0x39134 + n % 8 * 0x40, 16, 16, 0xffff⟩
abbrev CLEAR_R (n : Nat) : Reg := ⟨0x39134 + n % 8 * 0x40, 0, 16, 0xffff⟩
abbrev GAP_MM (n : Nat) : Reg := ⟨0x39138 + n % 8 * 0x40, 16, 16, 0xffff⟩
abbrev GAP_COLS (n : Nat) : Reg := ⟨0x39138 + n % 8 * 0x40, 0, 16, 0⟩
abbrev NOISE_J (n : Nat) : Reg := ⟨0x3913C + n % 8 * 0x40, 16, 16, 0⟩
abbrev NOISE_S (n : Nat) : Reg := ⟨0x3913C + n % 8 * 0x40, 0, 16, 0⟩
end LVOLD

namespace GAL
abbrev CAP_LIGHT : Reg := ⟨0x40008, 24, 8, 0x20⟩
abbrev CAP_HEAVY : Reg := ⟨0x40008, 16, 8, 0x10⟩
abbrev CAP_LOCK : Reg := ⟨0x40008, 8, 8, 8⟩
abbrev CAP_DIRECT : Reg := ⟨0x40008, 0, 8, 0x10⟩
abbrev ANY_CLAMP_LOCK : Reg := ⟨0x40040, 14, 1, 0⟩
abbrev ANY_TH : Reg := ⟨0x40040, 13, 1, 0⟩
abbrev ANY_OC : Reg := ⟨0x40040, 12, 1, 0⟩
abbrev B_SHED : Reg := ⟨0x40040, 11, 1, 0⟩
abbrev A_SHED : Reg := ⟨0x40040, 10, 1, 0⟩
abbrev B_FAULT : Reg := ⟨0x40040, 9, 1, 0⟩
abbrev A_FAULT : Reg := ⟨0x40040, 8, 1, 0⟩
abbrev B_GND : Reg := ⟨0x40040, 7, 1, 0⟩
abbrev A_GND : Reg := ⟨0x40040, 6, 1, 0⟩
abbrev B_OV : Reg := ⟨0x40040, 5, 1, 0⟩
abbrev A_OV : Reg := ⟨0x40040, 4, 1, 0⟩
abbrev B_REV : Reg := ⟨0x40040, 3, 1, 0⟩
abbrev A_REV : Reg := ⟨0x40040, 2, 1, 0⟩
abbrev B_OK : Reg := ⟨0x40040, 1, 1, 0⟩
abbrev A_OK : Reg := ⟨0x40040, 0, 1, 0⟩
abbrev GC_ON_LO : Reg := ⟨0x40044, 0, 32, 0⟩
abbrev GC_ON_HI : Reg := ⟨0x40048, 0, 16, 0⟩
abbrev OUT_LO : Reg := ⟨0x4004C, 0, 32, 0⟩
abbrev OUT_HI : Reg := ⟨0x40050, 0, 16, 0⟩
abbrev BLK_LO : Reg := ⟨0x40054, 0, 32, 0⟩
abbrev BLK_HI : Reg := ⟨0x40058, 0, 16, 0⟩
abbrev IA : Reg := ⟨0x4005C, 16, 16, 0⟩
abbrev IB : Reg := ⟨0x4005C, 0, 16, 0⟩
abbrev IA_MEAN : Reg := ⟨0x40060, 16, 16, 0⟩
abbrev IB_MEAN : Reg := ⟨0x40060, 0, 16, 0⟩
abbrev GAL_CMD : Reg := ⟨0x40064, 0, 32, 0⟩
abbrev OC_TRIP_CNT : Reg := ⟨0x40068, 0, 32, 0⟩
abbrev RETRY_CNT : Reg := ⟨0x4006C, 0, 32, 0⟩
abbrev OC_LOCK_CNT : Reg := ⟨0x40070, 0, 32, 0⟩
abbrev TH_CNT : Reg := ⟨0x40074, 0, 32, 0⟩
abbrev CLAMP_LOCK_CNT : Reg := ⟨0x40078, 0, 32, 0⟩
abbrev CLAMP_OVER_CNT : Reg := ⟨0x4007C, 0, 32, 0⟩
abbrev SHED_CNT : Reg := ⟨0x40080, 0, 32, 0⟩
abbrev GATE_CUT_CNT : Reg := ⟨0x40084, 0, 32, 0⟩
abbrev SURGE_CNT : Reg := ⟨0x40088, 0, 32, 0⟩
abbrev BANK_FLT_CNT : Reg := ⟨0x4008C, 0, 32, 0⟩
end GAL

namespace GALC
abbrev INRUSH_MS (n : Nat) : Reg := ⟨0x40100 + n % 48 * 0x20, 16, 16, 0x64⟩
abbrev SHED_PRI (n : Nat) : Reg := ⟨0x40100 + n % 48 * 0x20, 12, 2, if 32 ≤ n ∧ n < 40 then 3 else 1⟩
abbrev RETRY_MAX (n : Nat) : Reg := ⟨0x40100 + n % 48 * 0x20, 8, 4, 3⟩
abbrev FOLLOW (n : Nat) : Reg := ⟨0x40100 + n % 48 * 0x20, 4, 1, 0⟩
abbrev FOLLOW_PIN (n : Nat) : Reg := ⟨0x40100 + n % 48 * 0x20, 0, 4, 0⟩
abbrev ILIM (n : Nat) : Reg := ⟨0x40104 + n % 48 * 0x20, 0, 16, if n < 32 then 2000 else 6000⟩
abbrev RETRY_N (n : Nat) : Reg := ⟨0x40108 + n % 48 * 0x20, 27, 5, 0⟩
abbrev IN_CRAWL (n : Nat) : Reg := ⟨0x40108 + n % 48 * 0x20, 9, 1, 0⟩
abbrev GATE_SHUT (n : Nat) : Reg := ⟨0x40108 + n % 48 * 0x20, 8, 1, 0⟩
abbrev SHED (n : Nat) : Reg := ⟨0x40108 + n % 48 * 0x20, 7, 1, 0⟩
abbrev CLAMP_LOCK (n : Nat) : Reg := ⟨0x40108 + n % 48 * 0x20, 6, 1, 0⟩
abbrev TH_LATCH (n : Nat) : Reg := ⟨0x40108 + n % 48 * 0x20, 5, 1, 0⟩
abbrev OC_LOCK (n : Nat) : Reg := ⟨0x40108 + n % 48 * 0x20, 4, 1, 0⟩
abbrev OC_TRIP (n : Nat) : Reg := ⟨0x40108 + n % 48 * 0x20, 3, 1, 0⟩
abbrev INRUSH (n : Nat) : Reg := ⟨0x40108 + n % 48 * 0x20, 2, 1, 0⟩
abbrev OUT (n : Nat) : Reg := ⟨0x40108 + n % 48 * 0x20, 1, 1, 0⟩
abbrev CMD (n : Nat) : Reg := ⟨0x40108 + n % 48 * 0x20, 0, 1, 0⟩
abbrev I_MA (n : Nat) : Reg := ⟨0x4010C + n % 48 * 0x20, 16, 16, 0⟩
abbrev DT (n : Nat) : Reg := ⟨0x4010C + n % 48 * 0x20, 0, 16, 0⟩
abbrev TJ (n : Nat) : Reg := ⟨0x40110 + n % 48 * 0x20, 16, 16, 0⟩
abbrev CLAMP_SUM (n : Nat) : Reg := ⟨0x40110 + n % 48 * 0x20, 0, 16, 0⟩
abbrev CLAMP_LAST (n : Nat) : Reg := ⟨0x40114 + n % 48 * 0x20, 16, 16, 0⟩
abbrev CH_TRIP_CNT (n : Nat) : Reg := ⟨0x40118 + n % 48 * 0x20, 0, 32, 0⟩
abbrev CH_CLAMP_CNT (n : Nat) : Reg := ⟨0x4011C + n % 48 * 0x20, 0, 32, 0⟩
end GALC

namespace CRAWL
abbrev CAP_MAP : Reg := ⟨0x41008, 24, 8, 0x30⟩
abbrev CAP_DIRECT : Reg := ⟨0x41008, 16, 8, 0x10⟩
abbrev MAP_LOADED : Reg := ⟨0x41040, 3, 1, 0⟩
abbrev CR_WD : Reg := ⟨0x41040, 2, 1, 0⟩
abbrev CR_PIN : Reg := ⟨0x41040, 1, 1, 0⟩
abbrev CRAWL_ON : Reg := ⟨0x41040, 0, 1, 0⟩
abbrev CRAWL_MAP (k : Nat) : Reg := ⟨0x41044 + k % 12 * 4, 0, 32, 0⟩
abbrev CR_PINS : Reg := ⟨0x41074, 0, 16, 0⟩
abbrev CRAWL_CNT : Reg := ⟨0x41078, 0, 32, 0⟩
end CRAWL

namespace FIO
abbrev CAP_FI : Reg := ⟨0x48008, 24, 8, 0x40⟩
abbrev CAP_FO : Reg := ⟨0x48008, 16, 8, 0x20⟩
abbrev CAP_GRP : Reg := ⟨0x48008, 8, 8, 8⟩
abbrev WD_OPEN : Reg := ⟨0x48040, 2, 1, 0⟩
abbrev BARRIER_OK : Reg := ⟨0x48040, 1, 1, 0⟩
abbrev FIO_FAULT : Reg := ⟨0x48040, 0, 1, 1⟩
abbrev FI_LO : Reg := ⟨0x48044, 0, 32, 0⟩
abbrev FI_HI : Reg := ⟨0x48048, 0, 32, 0⟩
abbrev FO_OUT : Reg := ⟨0x4804C, 0, 32, 0⟩
abbrev THR : Reg := ⟨0x48050, 0, 16, 0xffff⟩
abbrev FILT : Reg := ⟨0x48054, 0, 32, 0x22222222⟩
abbrev WAKE_LO : Reg := ⟨0x48058, 0, 32, 0⟩
abbrev WAKE_HI : Reg := ⟨0x4805C, 0, 32, 0⟩
abbrev WAKE_FI_V : Reg := ⟨0x48060, 7, 1, 0⟩
abbrev WAKE_FI : Reg := ⟨0x48060, 0, 6, 0⟩
abbrev FAULT_ON_CNT : Reg := ⟨0x48064, 0, 32, 0⟩
abbrev SAG_CNT : Reg := ⟨0x48068, 0, 32, 0⟩
end FIO

namespace CAN
abbrev CAP_TXQ (n : Nat) : Reg := ⟨0x50008 + n % 4 * 0x1000, 24, 8, 0x20⟩
abbrev CAP_RXF (n : Nat) : Reg := ⟨0x50008 + n % 4 * 0x1000, 16, 8, 0x40⟩
abbrev CAP_HPB (n : Nat) : Reg := ⟨0x50008 + n % 4 * 0x1000, 8, 8, 8⟩
abbrev CAP_RAM_KB (n : Nat) : Reg := ⟨0x50008 + n % 4 * 0x1000, 0, 8, 0x20⟩
abbrev HPB_FULL (n : Nat) : Reg := ⟨0x50040 + n % 4 * 0x1000, 16, 8, 0⟩
abbrev SAFE_CH (n : Nat) : Reg := ⟨0x50040 + n % 4 * 0x1000, 11, 1, 0⟩
abbrev WAKE_EV (n : Nat) : Reg := ⟨0x50040 + n % 4 * 0x1000, 10, 1, 0⟩
abbrev SLEEP (n : Nat) : Reg := ⟨0x50040 + n % 4 * 0x1000, 9, 1, 0⟩
abbrev RECOVERING (n : Nat) : Reg := ⟨0x50040 + n % 4 * 0x1000, 8, 1, 0⟩
abbrev BUS_OFF (n : Nat) : Reg := ⟨0x50040 + n % 4 * 0x1000, 7, 1, 0⟩
abbrev ERR_PASSIVE (n : Nat) : Reg := ⟨0x50040 + n % 4 * 0x1000, 6, 1, 0⟩
abbrev WARN (n : Nat) : Reg := ⟨0x50040 + n % 4 * 0x1000, 5, 1, 0⟩
abbrev TX_FULL (n : Nat) : Reg := ⟨0x50040 + n % 4 * 0x1000, 4, 1, 0⟩
abbrev TX_DONE_NE (n : Nat) : Reg := ⟨0x50040 + n % 4 * 0x1000, 3, 1, 0⟩
abbrev RX_FULL (n : Nat) : Reg := ⟨0x50040 + n % 4 * 0x1000, 1, 1, 0⟩
abbrev RX_NE (n : Nat) : Reg := ⟨0x50040 + n % 4 * 0x1000, 0, 1, 0⟩
abbrev CAP_FSTD (n : Nat) : Reg := ⟨0x50044 + n % 4 * 0x1000, 24, 8, 0x80⟩
abbrev CAP_FEXT (n : Nat) : Reg := ⟨0x50044 + n % 4 * 0x1000, 16, 8, 0x40⟩
abbrev CAP_FXL (n : Nat) : Reg := ⟨0x50044 + n % 4 * 0x1000, 8, 8, 0x10⟩
abbrev TX_AREA_BLK (n : Nat) : Reg := ⟨0x50048 + n % 4 * 0x1000, 16, 9, 0x80⟩
abbrev TERM (n : Nat) : Reg := ⟨0x50048 + n % 4 * 0x1000, 12, 1, 0⟩
abbrev TDC_EN (n : Nat) : Reg := ⟨0x50048 + n % 4 * 0x1000, 10, 1, 0⟩
abbrev NOMATCH (n : Nat) : Reg := ⟨0x50048 + n % 4 * 0x1000, 9, 1, 0⟩
abbrev AUTO_REC (n : Nat) : Reg := ⟨0x50048 + n % 4 * 0x1000, 8, 1, 1⟩
abbrev PEX (n : Nat) : Reg := ⟨0x50048 + n % 4 * 0x1000, 6, 1, 1⟩
abbrev XL_EN (n : Nat) : Reg := ⟨0x50048 + n % 4 * 0x1000, 5, 1, 0⟩
abbrev FD_EN (n : Nat) : Reg := ⟨0x50048 + n % 4 * 0x1000, 4, 1, 1⟩
abbrev MODE (n : Nat) : Reg := ⟨0x50048 + n % 4 * 0x1000, 0, 2, 0⟩
abbrev N_BRP (n : Nat) : Reg := ⟨0x5004C + n % 4 * 0x1000, 24, 8, 1⟩
abbrev N_TSEG1 (n : Nat) : Reg := ⟨0x5004C + n % 4 * 0x1000, 16, 8, 0x3e⟩
abbrev N_TSEG2 (n : Nat) : Reg := ⟨0x5004C + n % 4 * 0x1000, 8, 7, 0xf⟩
abbrev N_SJW (n : Nat) : Reg := ⟨0x5004C + n % 4 * 0x1000, 0, 7, 0xf⟩
abbrev D_BRP (n : Nat) : Reg := ⟨0x50050 + n % 4 * 0x1000, 24, 5, 0⟩
abbrev D_TSEG1 (n : Nat) : Reg := ⟨0x50050 + n % 4 * 0x1000, 16, 5, 0x1c⟩
abbrev D_TSEG2 (n : Nat) : Reg := ⟨0x50050 + n % 4 * 0x1000, 8, 4, 9⟩
abbrev D_SJW (n : Nat) : Reg := ⟨0x50050 + n % 4 * 0x1000, 0, 4, 9⟩
abbrev X_TIMING (n : Nat) : Reg := ⟨0x50054 + n % 4 * 0x1000, 0, 32, 0x40101⟩
abbrev TDC_OFS_X (n : Nat) : Reg := ⟨0x50058 + n % 4 * 0x1000, 24, 7, 6⟩
abbrev TDC_OFS_D (n : Nat) : Reg := ⟨0x50058 + n % 4 * 0x1000, 16, 7, 0x1e⟩
abbrev TDC_MEAS (n : Nat) : Reg := ⟨0x50058 + n % 4 * 0x1000, 8, 8, 0⟩
abbrev TEC (n : Nat) : Reg := ⟨0x5005C + n % 4 * 0x1000, 16, 9, 0⟩
abbrev REC (n : Nat) : Reg := ⟨0x5005C + n % 4 * 0x1000, 8, 8, 0⟩
abbrev LEC (n : Nat) : Reg := ⟨0x5005C + n % 4 * 0x1000, 4, 4, 0⟩
abbrev ESTATE (n : Nat) : Reg := ⟨0x5005C + n % 4 * 0x1000, 0, 2, 0⟩
abbrev CAN_CMD (n : Nat) : Reg := ⟨0x50060 + n % 4 * 0x1000, 0, 32, 0⟩
abbrev TX_CMD (n : Nat) : Reg := ⟨0x50064 + n % 4 * 0x1000, 0, 32, 0⟩
abbrev RX_ACK (n : Nat) : Reg := ⟨0x50068 + n % 4 * 0x1000, 0, 32, 0⟩
abbrev TX_PEND (n : Nat) : Reg := ⟨0x5006C + n % 4 * 0x1000, 0, 32, 0⟩
abbrev TX_DONE (n : Nat) : Reg := ⟨0x50070 + n % 4 * 0x1000, 0, 32, 0⟩
abbrev TX_ACT_V (n : Nat) : Reg := ⟨0x50074 + n % 4 * 0x1000, 31, 1, 0⟩
abbrev TX_ACT (n : Nat) : Reg := ⟨0x50074 + n % 4 * 0x1000, 24, 5, 0⟩
abbrev HEAD_V (n : Nat) : Reg := ⟨0x50074 + n % 4 * 0x1000, 23, 1, 0⟩
abbrev HEAD_IDX (n : Nat) : Reg := ⟨0x50074 + n % 4 * 0x1000, 16, 5, 0⟩
abbrev RX_LEVEL (n : Nat) : Reg := ⟨0x50074 + n % 4 * 0x1000, 8, 7, 0⟩
abbrev RX_GET (n : Nat) : Reg := ⟨0x50074 + n % 4 * 0x1000, 0, 6, 0⟩
abbrev REC_SEQ (n : Nat) : Reg := ⟨0x50078 + n % 4 * 0x1000, 24, 8, 0⟩
abbrev RX_FREE_BLK (n : Nat) : Reg := ⟨0x50078 + n % 4 * 0x1000, 0, 9, 0x120⟩
abbrev WAKE_SRC (n : Nat) : Reg := ⟨0x5007C + n % 4 * 0x1000, 28, 4, 0⟩
abbrev WUF_RATE (n : Nat) : Reg := ⟨0x5007C + n % 4 * 0x1000, 12, 2, 2⟩
abbrev WUF_DLC (n : Nat) : Reg := ⟨0x5007C + n % 4 * 0x1000, 8, 4, 0⟩
abbrev WUF_IDE (n : Nat) : Reg := ⟨0x5007C + n % 4 * 0x1000, 4, 1, 0⟩
abbrev WAKE_MODE (n : Nat) : Reg := ⟨0x5007C + n % 4 * 0x1000, 0, 2, 0⟩
abbrev WUF_ID (n : Nat) : Reg := ⟨0x50080 + n % 4 * 0x1000, 0, 29, 0⟩
abbrev WUF_MASK (n : Nat) : Reg := ⟨0x50084 + n % 4 * 0x1000, 0, 29, 0x1fffffff⟩
abbrev WUF_DATA_HI (n : Nat) : Reg := ⟨0x50088 + n % 4 * 0x1000, 0, 32, 0⟩
abbrev WUF_DATA_LO (n : Nat) : Reg := ⟨0x5008C + n % 4 * 0x1000, 0, 32, 0⟩
abbrev TX_OK_CNT (n : Nat) : Reg := ⟨0x50090 + n % 4 * 0x1000, 0, 32, 0⟩
abbrev RX_OK_CNT (n : Nat) : Reg := ⟨0x50094 + n % 4 * 0x1000, 0, 32, 0⟩
abbrev RX_OVF_CNT (n : Nat) : Reg := ⟨0x50098 + n % 4 * 0x1000, 0, 32, 0⟩
abbrev RX_SPACE_CNT (n : Nat) : Reg := ⟨0x5009C + n % 4 * 0x1000, 0, 32, 0⟩
abbrev HPB_SPILL_CNT (n : Nat) : Reg := ⟨0x500A0 + n % 4 * 0x1000, 0, 32, 0⟩
abbrev REJECT_CNT (n : Nat) : Reg := ⟨0x500A4 + n % 4 * 0x1000, 0, 32, 0⟩
abbrev CANCEL_CNT (n : Nat) : Reg := ⟨0x500A8 + n % 4 * 0x1000, 0, 32, 0⟩
abbrev LATE_CNT (n : Nat) : Reg := ⟨0x500AC + n % 4 * 0x1000, 0, 32, 0⟩
abbrev ARB_LOST_CNT (n : Nat) : Reg := ⟨0x500B0 + n % 4 * 0x1000, 0, 32, 0⟩
abbrev BUSOFF_CNT (n : Nat) : Reg := ⟨0x500B4 + n % 4 * 0x1000, 0, 32, 0⟩
abbrev PASSIVE_CNT (n : Nat) : Reg := ⟨0x500B8 + n % 4 * 0x1000, 0, 32, 0⟩
abbrev BIT_ERR_CNT (n : Nat) : Reg := ⟨0x500BC + n % 4 * 0x1000, 0, 32, 0⟩
abbrev STUFF_ERR_CNT (n : Nat) : Reg := ⟨0x500C0 + n % 4 * 0x1000, 0, 32, 0⟩
abbrev FORM_ERR_CNT (n : Nat) : Reg := ⟨0x500C4 + n % 4 * 0x1000, 0, 32, 0⟩
abbrev ACK_ERR_CNT (n : Nat) : Reg := ⟨0x500C8 + n % 4 * 0x1000, 0, 32, 0⟩
abbrev CRC_ERR_CNT (n : Nat) : Reg := ⟨0x500CC + n % 4 * 0x1000, 0, 32, 0⟩
abbrev PEX_CNT (n : Nat) : Reg := ⟨0x500D0 + n % 4 * 0x1000, 0, 32, 0⟩
abbrev LWAKE_CNT (n : Nat) : Reg := ⟨0x500D4 + n % 4 * 0x1000, 0, 32, 0⟩
end CAN

namespace ECN
abbrev CAP_PORTS : Reg := ⟨0x58008, 24, 8, 3⟩
abbrev CAP_TXQ : Reg := ⟨0x58008, 16, 8, 2⟩
abbrev CAP_RXQ : Reg := ⟨0x58008, 8, 8, 2⟩
abbrev B_1G : Reg := ⟨0x58040, 5, 1, 0⟩
abbrev A_1G : Reg := ⟨0x58040, 4, 1, 0⟩
abbrev B_LINK : Reg := ⟨0x58040, 3, 1, 0⟩
abbrev A_LINK : Reg := ⟨0x58040, 2, 1, 0⟩
abbrev RX_NE : Reg := ⟨0x58040, 1, 1, 0⟩
abbrev BYPASS : Reg := ⟨0x58040, 0, 1, 1⟩
abbrev IP_ADDR : Reg := ⟨0x58044, 0, 32, 0⟩
abbrev MAC_HI : Reg := ⟨0x58048, 0, 32, 0⟩
abbrev MAC_LO : Reg := ⟨0x5804C, 0, 32, 0⟩
abbrev Q_BASE (k : Nat) : Reg := ⟨0x58060 + k % 4 * 8, 0, 32, 0⟩
abbrev Q_HEAD (k : Nat) : Reg := ⟨0x58064 + k % 4 * 8, 16, 8, 0⟩
abbrev Q_TAIL (k : Nat) : Reg := ⟨0x58064 + k % 4 * 8, 0, 8, 0⟩
abbrev TX_CNT : Reg := ⟨0x58080, 0, 32, 0⟩
abbrev RX_CNT : Reg := ⟨0x58084, 0, 32, 0⟩
abbrev RX_DROP_CNT : Reg := ⟨0x58088, 0, 32, 0⟩
abbrev EGR_DROP_CNT : Reg := ⟨0x5808C, 0, 32, 0⟩
abbrev CRC_ERR_CNT : Reg := ⟨0x58090, 0, 32, 0⟩
abbrev FWD_CNT : Reg := ⟨0x58094, 0, 32, 0⟩
abbrev LINK_DOWN_CNT : Reg := ⟨0x58098, 0, 32, 0⟩
abbrev BYPASS_CNT : Reg := ⟨0x5809C, 0, 32, 0⟩
end ECN

namespace MVB
abbrev CAP_PORTS : Reg := ⟨0x59008, 24, 8, 0x20⟩
abbrev ANY_STALE : Reg := ⟨0x59040, 2, 1, 0⟩
abbrev LINE_B_OK : Reg := ⟨0x59040, 1, 1, 0⟩
abbrev LINE_A_OK : Reg := ⟨0x59040, 0, 1, 0⟩
abbrev MVB_ADDR : Reg := ⟨0x59044, 0, 12, 0⟩
abbrev STALE_MASK : Reg := ⟨0x59048, 0, 32, 0⟩
abbrev MF_CNT : Reg := ⟨0x5904C, 0, 32, 0⟩
abbrev LINE_A_ERR_CNT : Reg := ⟨0x59050, 0, 32, 0⟩
abbrev LINE_B_ERR_CNT : Reg := ⟨0x59054, 0, 32, 0⟩
abbrev STALE_CNT : Reg := ⟨0x59058, 0, 32, 0⟩
end MVB

namespace LGL
abbrev CAP_ADDR : Reg := ⟨0x5A008, 24, 8, 0x1f⟩
abbrev ANY_LOST : Reg := ⟨0x5A040, 1, 1, 0⟩
abbrev BUSY : Reg := ⟨0x5A040, 0, 1, 0⟩
abbrev OWN_ADDR : Reg := ⟨0x5A044, 8, 5, 1⟩
abbrev TERM : Reg := ⟨0x5A044, 7, 1, 0⟩
abbrev BAUD : Reg := ⟨0x5A044, 4, 3, 1⟩
abbrev ROLE : Reg := ⟨0x5A044, 0, 1, 0⟩
abbrev POLL_MASK : Reg := ⟨0x5A048, 0, 32, 0⟩
abbrev LGL_PRESENT : Reg := ⟨0x5A04C, 0, 32, 0⟩
abbrev REPLY_TMO_MS : Reg := ⟨0x5A050, 0, 8, 0x14⟩
abbrev LGL_CMD : Reg := ⟨0x5A054, 0, 32, 0⟩
abbrev POLL_CNT : Reg := ⟨0x5A058, 0, 32, 0⟩
abbrev NOREPLY_CNT : Reg := ⟨0x5A05C, 0, 32, 0⟩
abbrev LGL_ERR_CNT : Reg := ⟨0x5A060, 0, 32, 0⟩
end LGL

namespace ECHO
abbrev CAP_SLOTS : Reg := ⟨0x5B008, 16, 16, 0x100⟩
abbrev CAP_PALOFT : Reg := ⟨0x5B008, 8, 8, 0x40⟩
abbrev CAP_LOG : Reg := ⟨0x5B008, 0, 8, 0x40⟩
abbrev REG_FULL : Reg := ⟨0x5B040, 4, 1, 0⟩
abbrev OWN_CONFLICT : Reg := ⟨0x5B040, 3, 1, 0⟩
abbrev ANY_CONFLICT : Reg := ⟨0x5B040, 2, 1, 0⟩
abbrev CONSIST_VALID : Reg := ⟨0x5B040, 1, 1, 0⟩
abbrev CHG_PENDING : Reg := ⟨0x5B040, 0, 1, 0⟩
abbrev N_PRESENT : Reg := ⟨0x5B044, 24, 8, 0⟩
abbrev N_PALOFT : Reg := ⟨0x5B044, 16, 8, 0⟩
abbrev N_LEGACY : Reg := ⟨0x5B044, 8, 8, 0⟩
abbrev N_EXPECTED : Reg := ⟨0x5B044, 0, 8, 0⟩
abbrev OWN_UNIT : Reg := ⟨0x5B048, 16, 16, 0⟩
abbrev ANN_CAN : Reg := ⟨0x5B048, 0, 4, 0⟩
abbrev TOPO_CNT : Reg := ⟨0x5B04C, 0, 32, 0⟩
abbrev ECHO_COMID : Reg := ⟨0x5B050, 0, 32, 0x30d41⟩
abbrev ECHO_GROUP : Reg := ⟨0x5B054, 0, 32, 0xef000a01⟩
abbrev CONSIST_COMID : Reg := ⟨0x5B058, 0, 32, 0x30d42⟩
abbrev TCMS_PERIOD_MS : Reg := ⟨0x5B05C, 0, 16, 0x1f4⟩
abbrev CHG_WR : Reg := ⟨0x5B060, 8, 6, 0⟩
abbrev CHG_RD : Reg := ⟨0x5B060, 0, 6, 0⟩
abbrev ANN_TX_CNT : Reg := ⟨0x5B064, 0, 32, 0⟩
abbrev ANN_RX_CNT : Reg := ⟨0x5B068, 0, 32, 0⟩
abbrev NEW_CNT : Reg := ⟨0x5B06C, 0, 32, 0⟩
abbrev LOST_CNT : Reg := ⟨0x5B070, 0, 32, 0⟩
abbrev FULL_CNT : Reg := ⟨0x5B074, 0, 32, 0⟩
abbrev CONFLICT_CNT : Reg := ⟨0x5B078, 0, 32, 0⟩
abbrev CONSIST_CNT : Reg := ⟨0x5B07C, 0, 32, 0⟩
abbrev MISSING_CNT : Reg := ⟨0x5B080, 0, 32, 0⟩
abbrev FOREIGN_CNT : Reg := ⟨0x5B084, 0, 32, 0⟩
abbrev CHG_DROP_CNT : Reg := ⟨0x5B088, 0, 32, 0⟩
end ECHO

namespace DVR
abbrev CAP_VER : Reg := ⟨0x5C008, 24, 8, 0xf⟩
abbrev ANY_NOVER : Reg := ⟨0x5C040, 0, 1, 0⟩
abbrev VER_EN : Reg := ⟨0x5C044, 0, 4, 0xf⟩
abbrev MAX_LGL : Reg := ⟨0x5C048, 20, 4, 1⟩
abbrev MAX_CAN : Reg := ⟨0x5C048, 4, 16, 0⟩
abbrev MAX_ECN : Reg := ⟨0x5C048, 0, 4, 4⟩
abbrev INFO_MS : Reg := ⟨0x5C04C, 16, 16, 0x64⟩
abbrev INFO_EN : Reg := ⟨0x5C04C, 0, 6, 0⟩
abbrev MD_COMID_BASE : Reg := ⟨0x5C050, 0, 32, 0x30e00⟩
abbrev DVR_SDT : Reg := ⟨0x5C054, 24, 8, 0x20⟩
abbrev XL_PRIO : Reg := ⟨0x5C054, 0, 11, 0x400⟩
abbrev INFO_TX_CNT : Reg := ⟨0x5C058, 0, 32, 0⟩
abbrev DVR_BAD_CNT : Reg := ⟨0x5C05C, 0, 32, 0⟩
abbrev NOVER_CNT : Reg := ⟨0x5C060, 0, 32, 0⟩
end DVR

namespace DST
abbrev CAP_RX : Reg := ⟨0x5D008, 24, 8, 3⟩
abbrev CAP_TX : Reg := ⟨0x5D008, 16, 8, 1⟩
abbrev CAP_NET : Reg := ⟨0x5D008, 8, 8, 2⟩
abbrev ANY_UNSYNC : Reg := ⟨0x5D040, 7, 1, 0⟩
abbrev ONE_NET : Reg := ⟨0x5D040, 6, 1, 0⟩
abbrev NET_RESTR : Reg := ⟨0x5D040, 5, 1, 0⟩
abbrev CAN_LOST : Reg := ⟨0x5D040, 4, 1, 0⟩
abbrev ECN_LOST : Reg := ⟨0x5D040, 3, 1, 0⟩
abbrev CAN_OK : Reg := ⟨0x5D040, 2, 1, 0⟩
abbrev ECN_OK : Reg := ⟨0x5D040, 1, 1, 0⟩
abbrev CFG_OK : Reg := ⟨0x5D040, 0, 1, 0⟩
abbrev REL_L_TG : Reg := ⟨0x5D044, 31, 1, 0⟩
abbrev REL_R_TG : Reg := ⟨0x5D044, 30, 1, 0⟩
abbrev ZS_TG : Reg := ⟨0x5D044, 29, 1, 0⟩
abbrev OPEN_EN_TG : Reg := ⟨0x5D044, 16, 8, 0⟩
abbrev INHIBIT_TG : Reg := ⟨0x5D044, 8, 8, 0⟩
abbrev CLOSE_TG : Reg := ⟨0x5D044, 0, 8, 0⟩
abbrev OWN_UNIT : Reg := ⟨0x5D048, 16, 16, 0⟩
abbrev CAN_SEL : Reg := ⟨0x5D048, 0, 2, 0⟩
abbrev SEQ_WIN : Reg := ⟨0x5D04C, 24, 8, 4⟩
abbrev AGE_MAX_MS : Reg := ⟨0x5D04C, 16, 8, 0x28⟩
abbrev PERM_HOLD_MS : Reg := ⟨0x5D04C, 8, 8, 0x30⟩
abbrev NET_TMO_MS : Reg := ⟨0x5D04C, 0, 8, 0xc8⟩
abbrev TCFG_CRC : Reg := ⟨0x5D050, 0, 32, 0⟩
abbrev LAST_DROP_TYPE : Reg := ⟨0x5D054, 4, 4, 0⟩
abbrev LAST_DROP : Reg := ⟨0x5D054, 0, 4, 0⟩
abbrev RX_OK_CNT : Reg := ⟨0x5D058, 0, 32, 0⟩
abbrev PAIR_CNT : Reg := ⟨0x5D05C, 0, 32, 0⟩
abbrev CRC_ERR_CNT : Reg := ⟨0x5D060, 0, 32, 0⟩
abbrev FOREIGN_CNT : Reg := ⟨0x5D064, 0, 32, 0⟩
abbrev STALE_CNT : Reg := ⟨0x5D068, 0, 32, 0⟩
abbrev JUMP_CNT : Reg := ⟨0x5D06C, 0, 32, 0⟩
abbrev LATE_CNT : Reg := ⟨0x5D070, 0, 32, 0⟩
abbrev SINGLE_CNT : Reg := ⟨0x5D074, 0, 32, 0⟩
abbrev MISMATCH_CNT : Reg := ⟨0x5D078, 0, 32, 0⟩
abbrev LAPSE_CNT : Reg := ⟨0x5D07C, 0, 32, 0⟩
abbrev NET_LOSS_CNT : Reg := ⟨0x5D080, 0, 32, 0⟩
abbrev TX_CNT : Reg := ⟨0x5D084, 0, 32, 0⟩
abbrev TX_LOST_CNT : Reg := ⟨0x5D088, 0, 32, 0⟩
end DST

namespace FLOW
abbrev CAP_FQ : Reg := ⟨0x60008, 24, 8, 4⟩
abbrev CAP_CAIRN : Reg := ⟨0x60008, 16, 8, 0x10⟩
abbrev CAP_NAND_GIB : Reg := ⟨0x60008, 8, 8, 0x40⟩
abbrev CAP_MRAM : Reg := ⟨0x60008, 0, 8, 0x10⟩
abbrev EXP_RUN : Reg := ⟨0x60040, 10, 1, 0⟩
abbrev EXP_DONE : Reg := ⟨0x60040, 9, 1, 0⟩
abbrev EVID_HOLD : Reg := ⟨0x60040, 8, 1, 0⟩
abbrev WIPE_RUN : Reg := ⟨0x60040, 7, 1, 0⟩
abbrev CTR_ONLY : Reg := ⟨0x60040, 6, 1, 0⟩
abbrev NAND_FAIL : Reg := ⟨0x60040, 5, 1, 0⟩
abbrev MRAM_FAIL : Reg := ⟨0x60040, 4, 1, 0⟩
abbrev NAND_ON : Reg := ⟨0x60040, 3, 1, 0⟩
abbrev FQ_FULL : Reg := ⟨0x60040, 2, 1, 0⟩
abbrev FIND_BUSY : Reg := ⟨0x60040, 1, 1, 0⟩
abbrev FLOW_RDY : Reg := ⟨0x60040, 0, 1, 0⟩
abbrev NAND_HOLD : Reg := ⟨0x60044, 8, 1, 0⟩
abbrev CLIP_EN : Reg := ⟨0x60044, 1, 1, 1⟩
abbrev TRACE_EN : Reg := ⟨0x60044, 0, 1, 1⟩
abbrev CLIP_PRE_MS : Reg := ⟨0x60048, 16, 16, 0x3e8⟩
abbrev CLIP_POST_MS : Reg := ⟨0x60048, 0, 16, 0x3e8⟩
abbrev RD_CLASS : Reg := ⟨0x6004C, 0, 4, 1⟩
abbrev CL_FIRST_SEQ_HI : Reg := ⟨0x60050, 0, 32, 0⟩
abbrev CL_FIRST_SEQ_LO : Reg := ⟨0x60054, 0, 32, 0⟩
abbrev CL_LAST_SEQ_HI : Reg := ⟨0x60058, 0, 32, 0⟩
abbrev CL_LAST_SEQ_LO : Reg := ⟨0x6005C, 0, 32, 0⟩
abbrev CL_FIRST_POS : Reg := ⟨0x60060, 0, 32, 0⟩
abbrev CL_LAST_POS : Reg := ⟨0x60064, 0, 32, 0⟩
abbrev CL_CAP : Reg := ⟨0x60068, 0, 32, 0x400000⟩
abbrev NAREA : Reg := ⟨0x6006C, 28, 4, 3⟩
abbrev NPAGE : Reg := ⟨0x6006C, 0, 24, 0⟩
abbrev FIND_SEQ_HI : Reg := ⟨0x60070, 0, 32, 0⟩
abbrev FIND_SEQ_LO : Reg := ⟨0x60074, 0, 32, 0⟩
abbrev FLOW_CMD : Reg := ⟨0x60078, 0, 32, 0⟩
abbrev FIND_CODE : Reg := ⟨0x6007C, 28, 4, 0⟩
abbrev FIND_POS : Reg := ⟨0x6007C, 0, 24, 0⟩
abbrev HEV_CODE : Reg := ⟨0x60080, 0, 16, 0x8000⟩
abbrev HEV_A : Reg := ⟨0x60084, 0, 32, 0⟩
abbrev HEV_B : Reg := ⟨0x60088, 0, 32, 0⟩
abbrev HEV_C_HI : Reg := ⟨0x6008C, 0, 32, 0⟩
abbrev HEV_C_LO : Reg := ⟨0x60090, 0, 32, 0⟩
abbrev EXP_ACK_CRC : Reg := ⟨0x60094, 0, 32, 0⟩
abbrev EXP_ACK : Reg := ⟨0x60098, 0, 32, 0⟩
abbrev EXP_CHUNK : Reg := ⟨0x6009C, 0, 32, 0⟩
abbrev EXP_TOTAL : Reg := ⟨0x600A0, 0, 32, 0⟩
abbrev SEQ_NOW_HI : Reg := ⟨0x600A4, 0, 32, 0⟩
abbrev SEQ_NOW_LO : Reg := ⟨0x600A8, 0, 32, 0⟩
abbrev EPOCH_NOW : Reg := ⟨0x600AC, 16, 16, 0⟩
abbrev BAD_BLK : Reg := ⟨0x600AC, 0, 16, 0⟩
abbrev FQ0_LEVEL : Reg := ⟨0x600B0, 22, 10, 0⟩
abbrev FQ1_LEVEL : Reg := ⟨0x600B0, 17, 5, 0⟩
abbrev FQ2_LEVEL : Reg := ⟨0x600B0, 6, 11, 0⟩
abbrev FQ3_LEVEL : Reg := ⟨0x600B0, 0, 6, 0⟩
abbrev HOLD_SEQ_HI : Reg := ⟨0x600B4, 0, 32, 0⟩
abbrev HOLD_SEQ_LO : Reg := ⟨0x600B8, 0, 32, 0⟩
abbrev CAIRN (k : Nat) : Reg := ⟨0x600C0 + k % 16 * 4, 0, 32, 0⟩
abbrev REC_CNT : Reg := ⟨0x60100, 0, 32, 0⟩
abbrev DISCARD_CNT : Reg := ⟨0x60104, 0, 32, 0⟩
abbrev CRC_BAD_CNT : Reg := ⟨0x60108, 0, 32, 0⟩
abbrev FQ0_DROP_CNT : Reg := ⟨0x6010C, 0, 32, 0⟩
abbrev FQ1_DROP_CNT : Reg := ⟨0x60110, 0, 32, 0⟩
abbrev FQ2_DROP_CNT : Reg := ⟨0x60114, 0, 32, 0⟩
abbrev FQ3_DROP_CNT : Reg := ⟨0x60118, 0, 32, 0⟩
abbrev MEM_ERR_CNT : Reg := ⟨0x6011C, 0, 32, 0⟩
abbrev NAND_ERR_CNT : Reg := ⟨0x60120, 0, 32, 0⟩
abbrev EXP_RETRY_CNT : Reg := ⟨0x60124, 0, 32, 0⟩
abbrev EXP_LOST_CNT : Reg := ⟨0x60128, 0, 32, 0⟩
abbrev PARTIAL_CNT : Reg := ⟨0x6012C, 0, 32, 0⟩
end FLOW

namespace SVC
abbrev CAP_ROLES : Reg := ⟨0x68008, 24, 8, 4⟩
abbrev CAP_VER : Reg := ⟨0x68008, 16, 8, 3⟩
abbrev CAP_BAUD : Reg := ⟨0x68008, 8, 8, 4⟩
abbrev BREAK : Reg := ⟨0x68040, 3, 1, 0⟩
abbrev TOOL_EXP : Reg := ⟨0x68040, 2, 1, 0⟩
abbrev LOCKOUT : Reg := ⟨0x68040, 1, 1, 0⟩
abbrev SESSION : Reg := ⟨0x68040, 0, 1, 0⟩
abbrev BAUD_NOW : Reg := ⟨0x68044, 24, 8, 0⟩
abbrev PROTO : Reg := ⟨0x68044, 16, 8, 1⟩
abbrev ROLE : Reg := ⟨0x68044, 0, 4, 0⟩
abbrev SESS_S : Reg := ⟨0x68048, 0, 32, 0⟩
abbrev HOST_NOTE : Reg := ⟨0x6804C, 0, 32, 0⟩
abbrev LOCK_S : Reg := ⟨0x68050, 0, 32, 0⟩
abbrev LOGIN_OK_CNT : Reg := ⟨0x68054, 0, 32, 0⟩
abbrev LOGIN_FAIL_CNT : Reg := ⟨0x68058, 0, 32, 0⟩
abbrev CMD_CNT : Reg := ⟨0x6805C, 0, 32, 0⟩
abbrev CMD_ERR_CNT : Reg := ⟨0x68060, 0, 32, 0⟩
abbrev FRAME_ERR_CNT : Reg := ⟨0x68064, 0, 32, 0⟩
abbrev SESSION_CNT : Reg := ⟨0x68068, 0, 32, 0⟩
end SVC

namespace TEST
abbrev CAP_MON : Reg := ⟨0x69008, 24, 8, 0x10⟩
abbrev CAP_TESTS : Reg := ⟨0x69008, 16, 8, 0x10⟩
abbrev M_TEST : Reg := ⟨0x69040, 3, 1, 0⟩
abbrev TEST_FAIL : Reg := ⟨0x69040, 2, 1, 0⟩
abbrev TEST_PASS : Reg := ⟨0x69040, 1, 1, 0⟩
abbrev TEST_RUN : Reg := ⟨0x69040, 0, 1, 0⟩
abbrev TEST_CODE : Reg := ⟨0x69044, 24, 8, 0⟩
abbrev TEST_ARG : Reg := ⟨0x69044, 16, 8, 0⟩
abbrev TEST_STEP : Reg := ⟨0x69044, 8, 8, 0⟩
abbrev TEST_RESULT : Reg := ⟨0x69044, 0, 8, 0⟩
abbrev TEST_VAL1 : Reg := ⟨0x69048, 0, 32, 0⟩
abbrev TEST_VAL2 : Reg := ⟨0x6904C, 0, 32, 0⟩
abbrev TP_SEL (k : Nat) : Reg := ⟨0x69050 + k % 8 * 4, 0, 32, 0⟩
abbrev TEST_OWN_DW : Reg := ⟨0x69070, 0, 8, 0⟩
abbrev TEST_RUN_CNT : Reg := ⟨0x69074, 0, 32, 0⟩
abbrev TEST_FAIL_CNT : Reg := ⟨0x69078, 0, 32, 0⟩
abbrev TEST_ABORT_CNT : Reg := ⟨0x6907C, 0, 32, 0⟩
abbrev HOST_DISC_CNT : Reg := ⟨0x69080, 0, 32, 0⟩
end TEST

namespace RES
abbrev CAP_DIRECT : Reg := ⟨0x70008, 24, 8, 0x10⟩
abbrev CAP_CSTEP : Reg := ⟨0x70008, 16, 8, 8⟩
abbrev CAP_MON : Reg := ⟨0x70008, 8, 8, 0x10⟩
abbrev OWN_DIR_LO : Reg := ⟨0x70040, 0, 32, 0⟩
abbrev OWN_DIR_HI : Reg := ⟨0x70044, 0, 32, 0⟩
abbrev OWN_CSTEP : Reg := ⟨0x70048, 0, 32, 0⟩
abbrev OWN_MON_LO : Reg := ⟨0x7004C, 0, 32, 0⟩
abbrev OWN_MON_HI : Reg := ⟨0x70050, 0, 32, 0⟩
abbrev HOST_DIR : Reg := ⟨0x70054, 0, 16, 0⟩
abbrev HOST_CSTEP : Reg := ⟨0x70058, 0, 8, 0⟩
abbrev HOST_MON : Reg := ⟨0x7005C, 0, 16, 0⟩
abbrev LAST_RES : Reg := ⟨0x70060, 24, 8, 0⟩
abbrev LAST_WIN : Reg := ⟨0x70060, 20, 4, 0⟩
abbrev LAST_LOSE : Reg := ⟨0x70060, 16, 4, 0⟩
abbrev RES_CONFLICT_CNT : Reg := ⟨0x70064, 0, 32, 0⟩
end RES

end Sys2Proof.Machine
end

