-- ==== Sys2Proof/Machine/Store.lean ====
section
/-! DEFINITION. Sparse storage: a list of (key, value) pairs in one canonical form, keys strictly rising and no entry
equal to what an unlisted key reads as. Register fields, memory bytes and every other keyed collection use it. -/

namespace Sys2Proof.Machine

/-- What key `k` holds; `d` where nothing is listed. -/
def mapFind {V : Type} (d : V) (k : Nat) : List (Nat × V) → V
  | [] => d
  | (j, v) :: m => if j = k then v else mapFind d k m

/-- The list without key `k`. -/
def mapDel {V : Type} (k : Nat) : List (Nat × V) → List (Nat × V)
  | [] => []
  | (j, v) :: m => if j = k then mapDel k m else (j, v) :: mapDel k m

/-- The list with `v` under key `k`, at its place in the rising order. -/
def mapIns {V : Type} (k : Nat) (v : V) : List (Nat × V) → List (Nat × V)
  | [] => [(k, v)]
  | (j, w) :: m =>
    if k < j then (k, v) :: (j, w) :: m
    else if k = j then (k, v) :: m
    else (j, w) :: mapIns k v m

/-- A write: the value an unlisted key reads as removes the entry, so equal contents are equal lists. -/
def mapPut {V : Type} [DecidableEq V] (d : V) (k : Nat) (v : V) (m : List (Nat × V)) : List (Nat × V) :=
  if v = d then mapDel k m else mapIns k v m

/-- Every key of the list lies above `k`. -/
def keysAbove {V : Type} (k : Nat) : List (Nat × V) → Bool
  | [] => true
  | (j, _) :: m => k < j && keysAbove k m

/-- Keys strictly rising. -/
def mapSorted {V : Type} : List (Nat × V) → Bool
  | [] => true
  | (j, _) :: m => keysAbove j m && mapSorted m

end Sys2Proof.Machine
end

