-- ==== Sys2Proof/Machine/State.lean ====
section
/-! DEFINITION. What the block holds, as plain data: every register field (in one sparse file, read and written through
Ops.lean), the storage behind the indirect pairs, everything the rules name that no register shows (queues, running
moves, latched readings, records, sessions), and the queue of waiting commands. State.reset is the block at the moment
BATT_L reaches 15.5 V (R58, t = 0). -/

namespace Sys2Proof.Machine

/-- Why the block could stop with a fault. No command raises it: the spec gives every command of the table an effect or
discards it, so no run of the block ends here. Safe: it is never reached. -/
inductive Fault where
  | halted
  deriving DecidableEq, Repr

/-- Why a command could have no meaning. -/
inductive Refusal where
  /-- The command is not modelled yet, by its name in the table. Raised by Dispatch.lean only. Safe: the block stops. -/
  | notModelled (mnemonic : String)
  deriving DecidableEq, Repr

/-- What one command answers. -/
abbrev Out (σ : Type) := Host.Outcome σ Fault Refusal

/-- The indirect pair of one page for one reader (R89, R90): address in words, selected space, `INC_DIS`, the
prefetched word, whether a prefetch or a posted write is under way, and the posted write waiting for storage. -/
structure IndPair where
  addr   : Nat
  space  : Nat
  incDis : Bool
  word   : Nat
  fetch  : Bool
  post   : Option (Nat × Nat × Nat)
  deriving DecidableEq, Repr

/-- An indirect pair at reset. -/
def IndPair.init : IndPair := ⟨0, 0, false, 0, false, none⟩

/-- One write as it reaches the register interface (R85, R88): who sends it, the byte address of the aligned word in the
page window, the bits it carries, the word, whether it came through the alias window, and whether it was unaligned. -/
structure Wr where
  src      : Src
  addr     : Nat
  mask     : Nat
  val      : Nat
  viaAlias : Bool
  odd      : Bool
  deriving DecidableEq, Repr

/-- A host write that waits for the domain of its block (R77): the address of its register, and what the register held before
and after it. -/
structure Stored where
  addr   : Nat
  before : Nat
  after  : Nat
  deriving DecidableEq, Repr

/-- A request for an EVENT record (R331, R336). -/
structure EventReq where
  page : Nat
  inst : Nat
  code : Nat
  a    : Nat
  b    : Nat
  c    : Nat
  deriving DecidableEq, Repr

/-- What the power sequencer is doing (R46, R54, R58). -/
inductive Phase where
  | off | starting | idle | active | parking | parked | powerDown | refuge
  deriving DecidableEq, Repr

/-- Where P0 and P1 draw from (R40). -/
inductive Feed where
  | battL | battD | battGA | battGB | backup
  deriving DecidableEq, Repr

/-- What the supplies, the power sequencer and the start-up sequence hold beside their registers. -/
structure Power where
  phase     : Phase
  feed      : Feed
  mvL       : Int            -- BATT_L at the connector, mV
  mvD       : Int
  mvGA      : Int
  mvGB      : Int
  vref      : Nat            -- bus reference voltage at `vrefAt`, µV (R43)
  vrefAt    : Nat            -- tick at which it was that
  regen     : Bool           -- an axis regenerates, which freezes it
  chopLog   : List (Nat × Nat) -- chopper energy: tick, J
  holdUp    : Bool           -- BATT_L below 14.0 V, domains on the hold-up capacitors (R41)
  brown     : Bool           -- mark held in the Drip domain from PF_WARN to the next start (R73)
  fresh     : Nat            -- domains just switched on, stored writes not yet applied
  lamp      : Bool           -- lamp test running (R35)
  startTick : Nat
  hostTick  : Nat
  hostUp    : Bool           -- host image started (R63)
  wiped     : Bool           -- LPDDR5 wipe of this start complete
  readback  : Bool           -- gate-drive readback passed since P9 came on (R113)
  untested  : Nat            -- banks whose off-state test is deferred: bit 0 A, bit 1 B (R59)
  armed     : Bool           -- wake sources armed (R54)
  parkTry   : Bool           -- an attempt to park is under way
  lateWake  : List WakeSrc   -- wakes latched while parking, oldest first
  wakeMask  : Nat            -- PWR_WAKE_EN as copied when the wake sources were armed
  wdRun     : Bool           -- host watchdog running (R72)
  wdDue     : Bool           -- expired, restart 2 s later not yet made
  lcOld     : Nat            -- life-cycle change under way: state before it
  confirmed : Nat            -- slots whose image is confirmed (held in NOR): bit 0 A, bit 1 B (R63)
  unproved  : Option Nat     -- slot whose trial image ended a start unconfirmed (held in NOR)
  deriving DecidableEq, Repr

/-- One knot of a motion: time in µs from its origin, position in addresses from its origin, velocity in addresses per
update (R101). -/
structure Knot where
  t : Ratio
  p : Ratio
  v : Ratio
  deriving DecidableEq, Repr

/-- One entry of the move queue (R103). `age` counts updates since its push. `vcap` is the extra ceiling of its speed
(R122, R137): the largest scaled velocity allowed, in 1/65536 addresses per update, or none. `born` orders its push and the
entry of its doorway into a state (R196). -/
structure Entry where
  target : Int
  prf    : Nat
  speed  : Nat
  blend  : Nat
  goWait : Bool
  age    : Nat
  vcap   : Option Nat
  born   : Nat
  deriving DecidableEq, Repr

/-- A motion under way: a move (R101) or a deceleration (R108). `dec` is the knot at which its deceleration part begins,
`seg0` the profile segment of its first one, `t` the time since its origin in 1/65536 µs (R102), `entry` what it carries
out, `bound` the address it never passes (R108). -/
structure Traj where
  kind   : Nat              -- RUN_KIND: 1 move, 2 deceleration
  prf    : Nat
  seg0   : Nat
  dec    : Nat
  org    : Ratio            -- commanded position at the origin, addresses
  t      : Nat
  knots  : List Knot
  target : Int
  bound  : Ratio
  entry  : Entry
  deriving DecidableEq, Repr

/-- What Traverse applies to an axis at its next update, in the order received (R93 step 2). `host` is a command of AX_CMD
written while another waits, with the entry staged at that write; `go` is a bit of TRV_GO written then; `rest` says a reversal holds for an axis at rest too (R207). -/
inductive Req where
  | host (cmd : Nat) (staged : Entry)
  | go
  | stop (cause : Nat)
  | reverse (target : Int) (speed : Nat)
  | reversal (target : Int) (rest : Bool)
  | gap (target : Int)
  | squeeze
  deriving DecidableEq, Repr

/-- Where a homing stands (R127). -/
inductive HomePhase where
  | none | backOff | search | settle | settleBack | apply
  | failing (code : Nat)
  deriving DecidableEq, Repr

/-- The amplitude of an axis (R113, R116): steady, rising after torque-on, falling to hold. -/
inductive Ramp where
  | none
  | up (n : Nat)
  | down (n : Nat)
  deriving DecidableEq, Repr

/-- The debouncer of one limit switch (R125): the level of the present run of equal samples, its length, the measured
position of its first sample. -/
structure Debounce where
  level : Bool
  run   : Nat
  pos   : Int
  deriving DecidableEq, Repr

/-- One sample kept for the force envelope (R133, R134): direction (0 opening, 1 closing), bin, force in the direction of
motion and acceleration, in mN and mm/s². -/
structure ForceSample where
  dir   : Nat
  bin   : Nat
  force : Int
  acc   : Int
  deriving DecidableEq, Repr

/-- What one axis holds beside its registers. Positions are in 1/65536 addresses. -/
structure Axis where
  count    : Int              -- encoder count since the start (R119)
  shift    : Int              -- added to the measured position by homing (R130)
  pos      : Int              -- commanded position
  vel      : Int              -- commanded velocity, 1/65536 addresses per update
  meas     : List Int         -- measured positions of the last 17 updates, newest first
  track    : List Int         -- measured positions of the last 256 ms, one a millisecond, newest first (R140)
  upd      : Nat              -- updates since the start
  velPrev  : Int              -- commanded velocity of the update before
  run      : Option Traj
  queue    : List Entry
  after    : Option Entry     -- what runs from rest once the present deceleration ends
  reqs     : List Req
  devN     : Nat              -- consecutive updates beyond the window (R121)
  devAt    : Option Int       -- deviation of the update in which they reached AX_DEV_N, until its decision
  slipping : Bool             -- a motion resynchronised by a slip runs (R121)
  closed   : Debounce
  opened   : Debounce
  illegal  : List Nat         -- updates of the last 10 ms with an illegal transition (R120)
  limits   : Nat              -- limits in force (R126): bit 0 CLOSED or STOWED, bit 1 OPEN or DEPLOYED
  limitLo  : Int              -- CAP of each, addresses
  limitHi  : Int
  encLost  : Bool
  overN    : Nat              -- consecutive updates with the force above the threshold (R135)
  stallN   : Nat              -- consecutive stalled updates (R129)
  stallPos : Int              -- measured position at the first of them
  f1       : Int              -- the last two values of the force filter
  f2       : Int
  iq       : Int              -- torque current of the last update, mA
  ramp     : Ramp
  phase    : HomePhase
  homeRef  : Option (Int × Nat) -- reference and result code found (R128, R129)
  learnO   : Nat              -- learning runs collected opening
  learnC   : Nat
  kept     : List ForceSample -- samples of the collected runs
  cur      : List ForceSample -- samples of the move under way
  curFrom  : Int              -- where the move under way began
  curClean : Bool             -- it has seen no stop, trip or slip
  stepOut  : Bool             -- STEP_OUT running (R140)
  gapSeen  : Bool             -- a valid gap has arrived during it
  gapStop  : Bool             -- the extension is ending at a gap target
  gapLate  : Bool             -- it is counted in GAP_STALE_CNT
  reversing : Bool            -- obstacle reversal running (R136)
  cut      : Bool             -- torque has been removed since the last update (R112)
  moved    : Bool             -- a move has begun in this start (AT_TARGET, R117)
  coarse   : Int              -- coarse target (R115)
  coarseGap : Nat             -- time since the previous coarse edge, µs
  coarseDir : Int             -- direction of the last coarse motion: -1, 0, 1
  refs     : Int × Int × Int  -- phase references handed to the bridge (R94)
  wHalf    : Bool             -- MOT_W at half the bus voltage, its reference unused (R95)
  amp      : Nat              -- amplitude in force, mA
  restN    : Nat              -- updates at rest
  ktSet    : Bool             -- torque has been on in this start (R132)
  endCause : Nat              -- cause of the stop under way, for STEP_INFO
  curBorn  : Nat              -- `born` of the move under way
  lastBorn : Nat              -- the same of the move that ended latest
  deriving DecidableEq, Repr

/-- An axis at the start of a start: count 0, positions 0, no move, switches read open (R119, R125). -/
def Axis.init : Axis where
  count := 0
  shift := 0
  pos := 0
  vel := 0
  meas := []
  track := []
  upd := 0
  velPrev := 0
  run := none
  queue := []
  after := none
  reqs := []
  devN := 0
  devAt := none
  slipping := false
  closed := ⟨false, 0, 0⟩
  opened := ⟨false, 0, 0⟩
  illegal := []
  limits := 0
  limitLo := 0
  limitHi := 0
  encLost := false
  overN := 0
  stallN := 0
  stallPos := 0
  f1 := 0
  f2 := 0
  iq := 0
  ramp := .none
  phase := .none
  homeRef := none
  learnO := 0
  learnC := 0
  kept := []
  cur := []
  curFrom := 0
  curClean := false
  stepOut := false
  gapSeen := false
  gapStop := false
  gapLate := false
  reversing := false
  cut := false
  moved := false
  coarse := 0
  coarseGap := 0
  coarseDir := 0
  refs := (0, 0, 0)
  wHalf := false
  amp := 0
  restN := 0
  ktSet := false
  endCause := 0
  curBorn := 0
  lastBorn := 0
/-- One slot of a frame ring (R157, R158): 0 free, 1 filling, 2 complete, 3 in use. `lines` has one bit per line received
with a good CRC; `bad` says a line came with a wrong one; `vel` and `still` are the motion seen of it (R169, R173). -/
structure Slot where
  state : Nat
  num   : Nat
  time  : Nat
  burst : Bool
  lines : Nat
  bad   : Bool
  vel   : Int
  still : Bool
  deriving DecidableEq, Repr

/-- A slot never used. -/
def Slot.free : Slot := ⟨0, 0, 0, false, 0, false, 0, false⟩

/-- A frame triggered and not yet taken into a slot: number, frame time in µs, mode, the update of the door axis nearest its frame
time, and the commanded velocity of that axis and whether it stood open at rest up to then. -/
structure Shot where
  num   : Nat
  time  : Nat
  burst : Bool
  upd   : Nat
  vel   : Int
  still : Bool
  deriving DecidableEq, Repr

/-- One result record as its eight words (R176), oldest word first. -/
abbrev Record := List Nat

/-- What Lantern, the port hardware, Column and the safety processor hold for one head beside its page. -/
structure Head where
  slots    : List Slot
  latest   : Nat            -- slot of the latest complete frame
  next     : Nat            -- number of the next frame to trigger
  trig     : Nat            -- µs of the latest trigger
  shots    : List Shot      -- triggered frames whose lines have not begun
  lastDone : Option Nat     -- number of the latest complete frame in this RUN
  ran      : Bool           -- no fault since the port was last in RUN (R146)
  trips    : List Nat       -- ticks of the latest power trips (R144)
  dead     : Bool           -- left off after a third trip
  recal    : Bool           -- RECAL carried to the next entry to CALIB (R156)
  full     : Bool           -- this CALIB reads the table in full (R156)
  calTries : Nat            -- failed reads of the calibration in this CALIB
  calHave  : Bool           -- a calibration is stored in LPDDR5
  calFor   : Nat × Nat      -- serial number and CRC it belongs to
  known    : Option Nat     -- serial number of the head last identified
  code     : Option Nat     -- Glowworm code drawn and not yet decided (R160)
  codeUs   : Option Nat     -- instant in µs at which it was drawn, none at the entry to RUN
  codeAt   : Nat            -- tick at which it was drawn
  stamp    : Option Nat     -- check frame it is stamped to
  report   : Option (Nat × List Int) -- Lantern's report: frame, shifts in 0.25 mm
  seen     : List (Nat × Nat × List (Option Int)) -- targets found in the latest frames: number, time, depths in 0.25 mm
  need     : Nat            -- good checks good standing asks for: 4 or 64 (R182)
  silent   : Bool           -- a silence has been counted since the latest good check
  lq       : List Record    -- LQh, oldest first (R177)
  toSafety : List (Record × Bool) -- records on their way to the safety processor, oldest first, and whether AXn was closing at their frame time
  toTraverse : List Record  -- records of a sill head on their way to Traverse, oldest first (R174)
  atTraverse : Record       -- the latest record at Traverse (R176)
  flags    : Option Nat     -- word 2 of the latest record at the safety processor
  stale    : Bool           -- no record for 150 ms (R181)
  pinch    : Nat            -- PINCH of the latest record: bit 0 L, bit 1 R
  thin     : Bool           -- THIN of the latest record
  clearL   : Nat
  clearR   : Nat
  thinRun  : Nat            -- latest armed frames in a row with enough THIN points (R173)
  learn    : Option (Nat × List (Nat × Nat)) -- learning: frames taken, frames per voxel (R167)
  bestPix  : List (Nat × Nat) -- the pixels watched for noise and their learned depths (R184)
  pixLog   : List (List Nat) -- their depths in the latest normal frames, newest first
  hits     : List (List Nat) -- STATIC voxels hit in the latest frames with the door at rest and open (R169)
  drift    : Bool
  noisy    : Bool
  lastRcd  : Record         -- the latest record at the safety processor
  thumbs   : List (Nat × List (Nat × Nat)) -- frame time and thumbnail of the latest 1000 ms, newest first (R333)
  deriving DecidableEq, Repr

/-- A head at the start of a start. -/
def Head.init : Head where
  slots := List.replicate 8 Slot.free
  latest := 0
  next := 0
  trig := 0
  shots := []
  lastDone := none
  trips := []
  ran := false
  dead := false
  recal := false
  full := false
  calTries := 0
  calHave := false
  calFor := (0, 0)
  known := none
  code := none
  codeUs := none
  codeAt := 0
  stamp := none
  report := none
  seen := []
  need := 4
  silent := false
  lq := []
  toSafety := []
  toTraverse := []
  atTraverse := []
  flags := none
  stale := true
  pinch := 0
  thin := false
  clearL := 0xFFFF
  clearR := 0xFFFF
  thinRun := 0
  learn := none
  bestPix := []
  pixLog := []
  hits := []
  drift := false
  noisy := false
  lastRcd := []
  thumbs := []


/-- What the Gallery holds beside its registers. Masks have one bit per channel. -/
structure Gallery where
  clampLog  : List (Nat × Nat × Nat) -- clamp events: channel, tick, mJ (R260)
  retryPend : Nat                    -- retries whose backoff has ended, waiting for a blocking condition (R258)
  waiting   : Nat                    -- channels of a returned bank not yet allowed on (R266)
  shedOrder : List Nat               -- shed channels, latest first (R262)
  direct    : Nat                    -- levels of DIRECT0–DIRECT15 at J25
  pinOff    : List (Nat × Nat)       -- tick at which each pin last went inactive
  crawlPin  : Bool                   -- CRAWL_EN accepted active (R28)
  revA      : Bool                   -- bank A reversed at the connector
  revB      : Bool
  cut       : Nat                    -- lock channels cut by their gate, bit not yet cleared (R256)
  onAt      : List (Nat × Nat)       -- tick of the latest turn-on, by channel (R253, R257)
  offAt     : List (Nat × Nat)       -- tick at which the effective command went off
  tripAt    : List (Nat × Nat)       -- tick of the latest trip
  mapCopies : List (Nat × Nat)       -- Crawl map in the Drip domain: register k, word (R265)
  deriving DecidableEq, Repr

/-- What one safety channel holds (R210): accepted levels of its inputs (bit = Input.idx), doorways it holds isolated
(R200), and its two-hand evaluation (R219). -/
structure Chan where
  lv       : Nat
  iso      : Nat
  faulty   : Nat   -- two-hand buttons counted as faulty: bit 0 A, bit 1 B
  report   : Bool  -- actuation reported
  ready    : Bool  -- both buttons have read released since the last report ended
  first    : Bool  -- one button actuated, the 500 ms running
  pressed  : Bool  -- RESET read active
  egrBad   : Nat   -- egress pairs in latched fault, treated as operated (R218)
  heard    : Nat   -- inputs whose filter has accepted a level in this start (R216)
  edmA     : Nat   -- tick of the latest change of EDM_A as this channel reads it (R226)
  edmB     : Nat
  folA     : Bool  -- EDM_A has followed the latest change of what drives its contactor
  folB     : Bool
  deriving DecidableEq, Repr

/-- What the safety architecture holds beside its mirrors. -/
structure Safety where
  saf      : Chan
  col      : Chan
  disc     : Nat   -- inputs under INPUT_DISC, read restrictive by both channels (R216)
  revReq   : Nat   -- reversal requests sent and not yet arrived, bit per axis
  revRest  : Nat   -- of these, those that hold for an axis at rest as well (R207)
  watch    : Nat   -- armed reversal watches, bit per axis (R223)
  trust    : Nat   -- doorways whose vision is trusted (R181)
  sqz      : Nat   -- doorways marked for Squeeze (R183)
  thin     : Nat   -- doorways treated as not closed and locked for ADCL_A (R198)
  sealA    : Nat   -- bank A as captured in step 1 of this start
  sealB    : Nat
  poleA    : Nat   -- Column's poles of bank A at the switches
  poleB    : Nat
  spoleA   : Nat   -- the safety processor's poles of bank A
  spoleB   : Nat
  colLost  : Bool  -- Column declared lost (R212)
  spLost   : Bool
  coilA    : Nat   -- tick of the latest change of what drives the contactor of EDM_A (R225)
  coilB    : Nat
  stuck    : Nat   -- guided contacts found not to follow their coils: bit 0 ADCL_A, bit 1 ADCL_B (R224)
  stuckLv  : Nat   -- the level each of them reads
  relSeen  : Nat   -- release edges already taken as a request: bit 0 left, bit 1 right
  adclTest : Nat   -- contacts a running test holds open: bit 0 ADCL_A, bit 1 ADCL_B (R374)
  stoTest  : Nat   -- axes whose enable Column removes for a proof test (R374)
  edmDisc  : Bool  -- the present disagreement of the EDM inputs has been counted as a fault of page COLM (R391)
  wrong    : List (Reg × Nat × Nat) -- mirrors of page SAFM whose vote is wrong (R230): the field, the value the safety processor
                   -- holds, the value the vote gives
  deriving DecidableEq, Repr

/-- What the cycle supervisor holds for one doorway beside its sub-block. -/
structure Doorway where
  req       : Option Nat -- target code requested, not yet judged (R188)
  done      : Bool       -- the completion condition of the present state has held (R196)
  entryUpd  : Nat        -- update of AXn at the entry into the present state
  stepEnd   : Bool       -- a STEP_OUT has ended since the entry
  revPend   : Bool       -- an obstacle reversal has begun
  running   : Bool       -- a cycle is running (R206)
  cycMs     : Nat        -- its duration so far, ms
  startTick : Nat
  tOpen     : Nat        -- ms of the last OPENING, CLOSING, in LOCKING, STEP_OUT, STEP_IN (R330)
  tClose    : Nat
  tLock     : Nat
  tOut      : Nat
  tIn       : Nat
  revs      : Nat
  retryEnd  : Nat
  peakClose : Nat        -- 0.1 N
  peakOpen  : Nat
  minClear  : Nat
  gapEnd    : Nat
  infoEnd   : Nat
  sources   : Nat        -- obstacle sources seen
  vPeak     : Nat        -- mm/s
  vLim      : Nat
  lockPeak  : Nat        -- mA
  energy    : Nat        -- mJ
  egrRest   : Nat        -- ms the egress handle has read at rest
  clokMs    : Nat        -- ms CL_OK has held with the axis at rest
  restMs    : Nat        -- ms AXn has been at rest
  thinHead  : Nat        -- heads whose latest record carries THIN: bit 0 jamb, bit 1 sill
  burstAt   : Nat        -- tick of the latest change of BURST_REQ (R154)
  depotTest : Bool       -- a Slati test put the doorway into DEPOT (R373)
  depotOut  : Bool       -- its session has ended
  hadClip   : Bool       -- the first reversal of the cycle has its CLIP
  deriving DecidableEq, Repr

/-- A doorway at the start of a start. -/
def Doorway.init : Doorway where
  req := none
  done := false
  entryUpd := 0
  stepEnd := false
  revPend := false
  running := false
  cycMs := 0
  startTick := 0
  tOpen := 0
  tClose := 0
  tLock := 0
  tOut := 0
  tIn := 0
  revs := 0
  retryEnd := 0
  peakClose := 0
  peakOpen := 0
  minClear := 0xFFFF
  gapEnd := 0xFFFF
  infoEnd := 0
  sources := 0
  vPeak := 0
  vLim := 0
  lockPeak := 0
  energy := 0
  egrRest := 0
  clokMs := 0
  restMs := 0
  thinHead := 0
  burstAt := 0
  depotTest := false
  depotOut := false
  hadClip := false

/-- The power sequencer at the moment BATT_L reaches 15.5 V with no other supply present. -/
def Power.init : Power where
  phase := .starting
  feed := .battL
  mvL := 15500
  mvD := 0
  mvGA := 0
  mvGB := 0
  vref := 0
  vrefAt := 0
  regen := false
  chopLog := []
  holdUp := false
  brown := false
  fresh := 0
  lamp := false
  startTick := 0
  hostTick := 0
  hostUp := false
  wiped := false
  readback := false
  untested := 3
  armed := false
  parkTry := false
  lateWake := []
  wakeMask := 0
  wdRun := false
  wdDue := false
  lcOld := 1
  confirmed := 0
  unproved := none

/-- The Gallery with every pin inactive and no channel on. -/
def Gallery.init : Gallery where
  clampLog := []
  retryPend := 0
  waiting := 0
  shedOrder := []
  direct := 0
  pinOff := []
  crawlPin := false
  revA := false
  revB := false
  cut := 0
  onAt := []
  offAt := []
  tripAt := []
  mapCopies := []

/-- A safety channel with nothing accepted: every level restrictive (R216). -/
def Chan.init : Chan where
  lv := 2 ^ 9 + 2 ^ 11 + (2 ^ 56 - 2 ^ 48) + (2 ^ 96 - 2 ^ 64)
  iso := 0
  faulty := 0
  report := false
  ready := true
  first := false
  pressed := false
  egrBad := 0
  heard := 0
  edmA := 0
  edmB := 0
  folA := true
  folB := true

/-- The safety architecture at the start of a start, every switch pole off. -/
def Safety.init : Safety where
  saf := Chan.init
  col := Chan.init
  disc := 0
  revReq := 0
  revRest := 0
  watch := 0
  trust := 0
  sqz := 0
  thin := 0
  sealA := 0
  sealB := 0
  poleA := 0
  poleB := 0
  spoleA := 0
  spoleB := 0
  colLost := false
  spLost := false
  coilA := 0
  coilB := 0
  stuck := 0
  stuckLv := 0
  relSeen := 0
  adclTest := 0
  stoTest := 0
  edmDisc := false
  wrong := []

/-- The held lifetime counters of a doorway (R334, R353). -/
structure Held where
  cyc : Nat
  rev : Nat
  obs : Nat
  emg : Nat
  deriving DecidableEq, Repr

/-- What the Drip domain holds beside its page (R351 to R359). -/
structure Drip where
  cal      : Nat              -- 1/1024 s since 2000-01-01 00:00:00
  ckA      : Option Nat       -- the two checkpoint copies of the tick, none where the CRC of a copy fails (R353)
  ckB      : Option Nat
  ckToB    : Bool             -- the next checkpoint goes to the second copy
  sets     : List (Nat × Nat × Bool) -- sets whose SET_CMD write has completed, waiting for the 1/1024 s boundary (R357), or for the
                              -- next whole second (CLOCK of R368): CAL_HI, CAL_LO, whether they wait for a second
  stopped  : Bool             -- backup lost, nothing counts (R354)
  dlyArmed : Bool
  dlyDue   : Nat              -- tick at which the delay alarm fires
  held     : List (Nat × Held)
  deriving DecidableEq, Repr

/-- The Drip domain as manufactured. -/
def Drip.init : Drip := ⟨0, some 0, some 0, false, [], false, false, 0, []⟩

/-- A sealed record (R328): the area it lies in (1 EVENT ring, 2 CYCLE journal, 3 archive, 4 TRACE, 5 CLIP, 6 system), its
SEQ, its position there (slot or page), its bytes. -/
structure Rec where
  area  : Nat
  seq   : Nat
  pos   : Nat
  bytes : List Nat
  deriving DecidableEq, Repr

/-- An open trace (R332): period in ms, samples newest first, whether it will be marked PARTIAL. -/
structure Trace where
  period  : Nat
  samples : List (List Nat)
  partly  : Bool
  deriving DecidableEq, Repr

/-- The end of a cycle on its way to Flowstone (R206, R330): doorway, bytes 0x20 to 0x57 of its record, its trace while that is
open, the SEQ of the trace once sealed, the SEQ of its CLIP; `lost` where FQ1 dropped it and only its trace remains (R336). -/
structure CycleEnd where
  door  : Nat
  body  : List Nat
  trace : Option Trace
  tseq  : Nat
  clip  : Nat
  lost  : Bool
  deriving DecidableEq, Repr

/-- A clip being built (R333): doorway, trigger code, frame time of the trigger, its result record, its thumbnails as head,
frame time and non-zero cells, in frame-time order. -/
structure Clip where
  door   : Nat
  trig   : Nat
  time   : Nat
  rcd    : Record
  frames : List (Nat × Nat × List (Nat × Nat))
  deriving DecidableEq, Repr

/-- An export under way (R347): who runs it, the records of its content class by class, the manifest, the present chunk, the
records found lost, the latest CRC written for an acknowledgement. -/
structure Export where
  src      : Src
  items    : List (List Rec)
  manifest : List Nat
  chunk    : Nat
  lost     : List Nat
  lastSeq  : Nat
  deriving DecidableEq, Repr

/-- What Flowstone holds beside its page. -/
structure Flow where
  seq     : Nat                 -- latest SEQ assigned
  mark    : Nat                 -- high-water mark: numbers below it may be used (R338)
  recs    : List Rec            -- every record in a memory, in the order written
  wp      : List (Nat × Nat)    -- write position of each area
  ckpt    : List (Nat × Nat)    -- checkpointed write position of each MRAM ring (R337)
  rot     : List (Nat × Nat)    -- records whose CRC was found to fail, by area and SEQ (R341)
  badBlk  : List (Nat × Nat)    -- NAND blocks set aside as bad, by area and number (R335)
  staged  : List (Nat × Nat × List Nat) -- sealed records waiting for NAND: area, SEQ, bytes
  copied  : Nat                 -- SEQ of the latest CYCLE record copied to the archive
  traces  : List (Nat × Option Trace) -- open traces by doorway
  clips   : List Clip
  clipSeq : List (Nat × Nat)    -- SEQ of the CLIP of the running cycle, by doorway
  fq1     : List CycleEnd
  fq2     : List (Nat × List Nat) -- trace samples waiting: doorway, sample (R336)
  fq3     : List (Nat × Nat × List (Nat × Nat)) -- thumbnails waiting: head, frame time, cells (R336)
  buf     : List (Nat × List Nat) -- records gathered while the MRAM has failed: SEQ, bytes (R344)
  badAt   : List (Nat × Nat)    -- failed read-backs of the last hour: address, tick
  nandBad : Nat                 -- failed NAND areas, one bit per area
  lastSnap : Option Nat         -- tick of the latest snapshot
  findSeq : Nat                 -- SEQ sought by the FIND in progress
  exp     : Option Export
  ackCrc  : Nat                 -- EXP_ACK_CRC
  sent    : Nat                 -- failure flags as last sent (R346)
  sentAt  : Nat                 -- tick at which they were sent
  need    : Nat                 -- tick of the latest need of P11 (R343)
  deriving DecidableEq, Repr

/-- The recorder after a wipe (R348): nothing recorded, SEQ starts at 1. -/
def Flow.init : Flow := ⟨0, 1, [], [], [], [], [], [], 0, [], [], [], [], [], [], [], [], 0, none, 0, none, 0, 0, 0, 0⟩

/-- What the field I/O holds beside its page (R275, R277). -/
structure Fio where
  shut  : Nat   -- outputs in thermal shutdown
  marks : Nat   -- wake marks as copied when the wake sources were armed
  thr   : Nat   -- threshold codes as they stood then: a change of THR applies at the next arming (R279)
  level : Nat   -- levels the wake comparators hold, one bit per input
  since : List (Nat × Nat) -- tick at which the filters of a group last restarted (R272, R273)
  deriving DecidableEq, Repr

/-- A received frame in the RX FIFO (R287, R290): its entry, the first block of its data in the ring and the blocks taken. -/
structure RxEntry where
  idx   : Nat
  start : Nat
  blks  : Nat
  deriving DecidableEq, Repr

/-- The wake configuration of a transceiver (R298), in the layout of page offsets 0x07C to 0x08C. -/
structure WakeCfg where
  mode : Nat
  rate : Nat
  ide  : Bool
  id   : Nat
  mask : Nat
  dlc  : Nat
  data : Nat
  deriving DecidableEq, Repr

/-- What a CAN controller holds beside its page and message RAM. -/
structure CanCtl where
  pushes  : Nat               -- pushes so far
  ages    : List (Nat × Nat)  -- push number of each entry
  sending : Bool              -- the entry TX_ACT names has won arbitration
  fast    : Bool              -- the transceiver is in its fast mode (R281)
  held    : Nat               -- cancels held or too late, one bit per entry (R293)
  rx      : List RxEntry      -- RX FIFO, oldest first
  rxNext  : Nat               -- entry the next frame takes
  rxWp    : Nat               -- write point of the RX ring, blocks
  wake    : Option WakeCfg    -- the configuration copied into the transceiver when the wake sources were armed (R298)
  undec   : Nat               -- frames the transceiver in standby could not decode, less those it could
  woke    : Nat               -- code of the wake event it has seen while armed
  deriving DecidableEq, Repr

/-- A controller at the start of a start. -/
def CanCtl.init : CanCtl := ⟨0, [], false, false, 0, [], 0, 0, none, 0, 0⟩

/-- What the carriers of the train networks hold beside their pages. Carriers by number: 0 ECN as the module's own and host frames
leave on it, 1 to 4 CAN0 to CAN3, 5 legacy link, 6 MVB, 7 Slati, 8 and 9 the ports A and B of the switch as frames are forwarded
out of them. -/
structure Nets where
  sent    : List (Nat × List Nat) -- the latest frame sent on each carrier: its identifier or ComId, then its bytes
  rxHeld  : List (Nat × Nat)      -- frames in an RX ring the host has not passed with TAIL, by ring (R305)
  mvbRead : List (Nat × List Nat) -- ports latched by a read of word 0 (R308), those of the service tool from 32 on
  lglAt   : Nat                   -- address polled latest
  lglWait : Option (Nat × Bool × Nat) -- address whose reply is awaited, whether it was polled, and the tick of the request
  lglMiss : List (Nat × Nat)      -- consecutive unanswered polls by address
  lglPoll : List (Nat × Nat)      -- tick of the latest poll by address
  lglQ    : List Nat              -- queued host buffers, oldest first (R310)
  prio    : Nat                   -- 802.1Q priority of the latest frame sent on ECN (R304)
  ip      : Nat                   -- source address of the latest frame of the module's own senders, 0 of a host frame (R306)
  brs     : List (Nat × Bool)     -- whether the latest Dvorud message sent on a CAN controller was a CAN FD frame with BRS (R313)
  udp     : Nat                   -- UDP port of the latest TRDP frame of the module's own senders, 0 of a host frame (R306)
  group   : Option Nat            -- IPv4 group it went to, none where the spec names none (R306)
  p7At    : Nat                   -- tick at which P7 came on (R303)
  lineAt  : List (Nat × Nat)      -- tick of the latest valid frame on an MVB line (R307)
  sinkAt  : List (Nat × Nat)      -- tick at which the data of a sink port was replaced (R308)
  lglFree : Nat                   -- tick at which the latest poll ended (R310)
  monRate : Nat                   -- rate in kbit/s at which the Refuge monitor drives CAN0, 0 while it does not (R64)
  deriving DecidableEq, Repr

/-- The networks at the start of a start. -/
def Nets.init : Nets := ⟨[], [], [], 0, none, [], [], [], 0, 0, [], 0, none, 0, [], [], 0, 0⟩

/-- A slot of the Echo registry (R318). Version words are as announced; `tick` is the tick of the latest evidence, `heard` that of the
latest announcement by carrier, `since` that of its entry into its state; `topo16` says that only the low half of the topology
counter is known, `nover` has a bit per carrier with no common version, `missed` says an EXPECTED unit has been counted missing. -/
structure EchoSlot where
  st       : Nat
  typ      : Nat
  gen      : Nat
  unit     : Nat
  serial   : Nat
  carriers : Nat
  mask     : Nat
  ver      : Nat
  car      : Nat
  pos      : Nat
  tick     : Nat
  flags    : Nat
  topo     : Nat
  topo16   : Bool
  nover    : Nat
  missed   : Bool
  heard    : List (Nat × Nat)
  since    : Nat
  deriving DecidableEq, Repr

/-- A free slot. -/
def EchoSlot.free : EchoSlot := ⟨0, 0, 0, 0, 0, 0, 0, 0, 0, 0, 0, 0, 0, false, 0, false, [], 0⟩

/-- What Echo holds beside its page: the registry, the change log by position, the units of the latest CONSIST, and
the module's own place in it. -/
structure Echo where
  slots  : List (Nat × EchoSlot)
  log    : List (Nat × (Nat × Nat))
  listed : List Nat
  pos    : Nat
  deriving DecidableEq, Repr

/-- Echo at the start of a start. -/
def Echo.init : Echo := ⟨[], [], [], 0⟩

/-- The latest pair of a stream (R247): the first copy, whether it came on CAN, the tick of its arrival, still open. -/
structure Pair where
  bytes  : List Nat
  can    : Bool
  tick   : Nat
  isOpen : Bool
  deriving DecidableEq, Repr

/-- A received stream of safe telegrams (R242 to R248): synchronised, highest accepted sequence, baseline, tick at which it
last moved, latest pair. -/
structure Stream where
  sync  : Bool
  sHi   : Nat
  tb    : Nat
  ab    : Nat
  moved : Nat
  pair  : Option Pair
  deriving DecidableEq, Repr

/-- A stream at a start: unsynchronised. -/
def Stream.init : Stream := ⟨false, 0, 0, 0, 0, none⟩

/-- What the safety processor holds of safe telegrams: the three received streams, the latest DOOR_STATUS sequence, streams
with a matched pair since NET_RESTR was last interrupted. -/
structure Telegrams where
  streams : List (Nat × Stream)
  outSeq  : Nat
  paired  : Nat
  deriving DecidableEq, Repr

/-- Telegrams at a start. -/
def Telegrams.init : Telegrams := ⟨[], 0, 0⟩

/-- What the service link and field tests hold beside their pages (R362 to R374). -/
structure Service where
  newRate  : Bool                 -- the rate has been changed and no valid line has come at it yet (R363)
  nonce    : Option (Nat × Nat × Nat) -- open challenge: role, nonce, the tick at which it was given (R366)
  wrong    : Nat                  -- wrong responses in a row
  lockouts : Nat                  -- lockouts since the latest correct login, held in FRAM
  lockAt   : Nat                  -- tick at which the present lockout ends
  loginAt  : Nat                  -- tick at which the session began
  params   : List (Nat × Nat)     -- bytes of the safety parameter block written and not yet committed (R368)
  tcfg     : List (Nat × Nat)     -- bytes of the telegram configuration likewise
  reply    : Nat                  -- code of the latest reply: 0 OK, 0x100 OK ADJ, 0x200 none given, 0x300 a report of the running
                                  -- test, 0x400 the line BIN 4096 and raw bytes (R364), else the refusal code of R369
  words    : List Nat             -- what it carried
  moveAt   : Nat                  -- milliseconds in the present step of a moving test
  from0    : Int                  -- measured position at which a moving test began
  lastCmd  : Nat                  -- tick of the latest command (R367)
  align    : Option (Nat × Nat)   -- axis whose table address the test ALIGN steps, and that address (R374)
  canMode  : Nat                  -- MODE of the controller under the test CAN before it (R374)
  notes    : List Int             -- readings the running test has gathered (R374)
  testOk   : Bool                 -- every reading of the running test so far is as R374 asks
  deriving DecidableEq, Repr

/-- The service link at the start of a start. -/
def Service.init : Service := ⟨false, none, 0, 0, 0, 0, [], [], 0, [], 0, 0, 0, none, 0, [], true⟩

/-- The members of the family (R4). -/
inductive Member where
  | plf1000 | plf2204 | plf4408 | plf8816
  deriving DecidableEq, Repr

/-- The whole state of the block. -/
structure State where
  member   : Member                   -- which part this is (R4)
  tick     : Nat                      -- Drip counts (R352)
  regs     : List (Nat × Nat)         -- register fields by Reg.key, canonical; an unlisted field holds its reset value
  fixed    : List Nat                 -- W1 fields already written in this start, by key (R87)
  stage    : List (Nat × Option Nat)  -- staged high words by register address (R83)
  inds     : List (Nat × IndPair)     -- indirect pairs by page and reader (R89, R90)
  deferred : List Stored              -- host writes waiting for their domain, oldest first (R77)
  mem      : List Host.Cell           -- storage behind the indirect spaces, canonical
  rdata    : Word                     -- what the latest IND_DATA read returned
  scrubLog : List (Nat × Nat)         -- repairs of the last second: field key and tick (R84)
  freeCtr  : Nat                      -- the model's own: counts the free values drawn so far
  pwr      : Power
  axes     : List (Nat × Axis)
  gal      : Gallery
  saf      : Safety
  doors    : List (Nat × Doorway)
  voteBad  : Nat                      -- pages with the repeated-repair fault of R84, one bit each
  fq0      : List EventReq            -- EVENT requests waiting for Flowstone (R336)
  heads    : List (Nat × Head)
  ingest   : List (Nat × Nat)         -- bits received over the links in the latest second, with their ticks (R163)
  drip     : Drip
  flow     : Flow
  fio      : Fio
  cans     : List (Nat × CanCtl)
  nets     : Nets
  echo     : Echo
  dst      : Telegrams
  svc      : Service
  pending  : List Instr               -- commands waiting, first in first out
  deriving DecidableEq, Repr

/-- The block at the moment BATT_L reaches 15.5 V with every supply previously absent (R58, t = 0). -/
def State.reset : State where
  member := .plf8816
  tick := 0
  regs := []
  fixed := []
  stage := []
  inds := []
  deferred := []
  mem := []
  rdata := 0
  scrubLog := []
  freeCtr := 0
  pwr := Power.init
  axes := []
  gal := Gallery.init
  saf := Safety.init
  doors := []
  voteBad := 0
  fq0 := []
  heads := []
  ingest := []
  drip := Drip.init
  flow := Flow.init
  fio := ⟨0, 0, 0, 0, []⟩
  cans := []
  nets := Nets.init
  echo := Echo.init
  dst := Telegrams.init
  svc := Service.init
  pending := []

end Sys2Proof.Machine
end

