-- ==== Sys2Proof/Machine/Ops.lean ====
section
/-! DEFINITION. The named operations every meaning uses: reading and writing register fields, counting, the pages and
their domains, instances, 64-bit values, records handed to Flowstone, drawing a free value. -/

namespace Sys2Proof.Machine

/-- What a field holds. -/
def State.get (s : State) (r : Reg) : Nat := mapFind r.rst r.key s.regs % 2 ^ r.w

/-- Write a field; the value is reduced to the width of the field. -/
def State.set (s : State) (r : Reg) (v : Nat) : State :=
  { s with regs := mapPut r.rst r.key (v % 2 ^ r.w) s.regs }

/-- Whether a field is non-zero. -/
def State.on (s : State) (r : Reg) : Bool := s.get r != 0

/-- Write a single-bit field. -/
def State.setB (s : State) (r : Reg) (b : Bool) : State := s.set r (bit1 b)

/-- Write a signed number into a field, stopped at the ends of its range. -/
def State.setS (s : State) (r : Reg) (x : Int) : State := s.set r (un r.w (satS r.w x))

/-- The signed reading of a field. -/
def State.getS (s : State) (r : Reg) : Int := sx r.w (s.get r)

/-- Write a number into a field, stopped at its largest value. -/
def State.setSat (s : State) (r : Reg) (v : Nat) : State := s.set r (sat r.w v)

/-- Read or write one bit of a mask field. -/
def State.bit (s : State) (r : Reg) (n : Nat) : Bool := bitAt (s.get r) n
def State.setBit (s : State) (r : Reg) (n : Nat) (b : Bool) : State := s.set r (putBit (s.get r) n b)

/-- Count `k` events: counters stop at their largest value (R80). -/
def State.countBy (s : State) (r : Reg) (k : Nat) : State := s.setSat r (s.get r + k)

/-- Count one event (R80). -/
def State.count (s : State) (r : Reg) : State := s.countBy r 1

/-- Count a clamped or discarded access once (R88). -/
def State.adj (s : State) (pg : Nat) : State := s.count (HDR.PG_ADJ_CNT pg)

/-- Count in a block counter and in the header counter of faults (R80, R391). -/
def State.countFault (s : State) (pg : Nat) (r : Reg) : State := (s.count r).count (HDR.PG_FAULT_CNT pg)

/-- Count in a block counter and in the header counter of dropped data (R80, R391). -/
def State.countDrop (s : State) (pg : Nat) (r : Reg) : State := (s.count r).count (HDR.PG_DROP_CNT pg)

/-- A 64-bit value, high word first (R83). -/
def State.get64 (s : State) (hi lo : Reg) : Nat := s.get hi * 2 ^ 32 + s.get lo

/-- Its signed reading. -/
def State.getS64 (s : State) (hi lo : Reg) : Int := sx 64 (s.get64 hi lo)

/-- Write a 64-bit value, two's complement. -/
def State.set64 (s : State) (hi lo : Reg) (x : Int) : State :=
  (s.set hi (un 64 x / 2 ^ 32)).set lo (un 64 x)

/-- Pages by number (R76). -/
abbrev pgSYS := 0x00
abbrev pgPWR := 0x01
abbrev pgCLK := 0x02
abbrev pgBOOT := 0x03
abbrev pgDRIP := 0x04
abbrev pgSEAL := 0x05
abbrev pgSAFM := 0x06
abbrev pgCOLM := 0x07
abbrev pgCYC := 0x08
abbrev pgAX (n : Nat) := 0x10 + n
abbrev pgTRV := 0x20
abbrev pgLH (n : Nat) := 0x28 + n
abbrev pgLANT := 0x38
abbrev pgLVOL := 0x39
abbrev pgGAL := 0x40
abbrev pgCRAWL := 0x41
abbrev pgFIO := 0x48
abbrev pgCAN (n : Nat) := 0x50 + n
abbrev pgECN := 0x58
abbrev pgMVB := 0x59
abbrev pgLGL := 0x5A
abbrev pgECHO := 0x5B
abbrev pgDVR := 0x5C
abbrev pgDST := 0x5D
abbrev pgFLOW := 0x60
abbrev pgSVC := 0x68
abbrev pgTEST := 0x69
abbrev pgRES := 0x70

/-- Doorways, steps, heads and CAN controllers of the member (R4). -/
def State.nD (s : State) : Nat := match s.member with | .plf1000 => 1 | .plf2204 => 2 | .plf4408 => 4 | .plf8816 => 8
def State.nS (s : State) : Nat := match s.member with | .plf1000 => 0 | .plf2204 => 2 | .plf4408 => 4 | .plf8816 => 8
def State.nH (s : State) : Nat := match s.member with | .plf1000 => 0 | .plf2204 => 4 | .plf4408 => 8 | .plf8816 => 16
def State.nC (s : State) : Nat := match s.member with | .plf1000 => 1 | .plf2204 => 2 | .plf4408 => 3 | .plf8816 => 4
/-- Light and heavy Gallery channels (R4). -/
def State.nLight (s : State) : Nat := match s.member with | .plf1000 => 6 | .plf2204 => 12 | .plf4408 => 16 | .plf8816 => 32
def State.nHeavy (s : State) : Nat := match s.member with | .plf1000 => 2 | .plf2204 => 4 | .plf4408 => 8 | .plf8816 => 16

/-- Whether an instance exists in the member (R5). -/
def State.hasAx (s : State) (n : Nat) : Bool := n < s.nD || (8 ≤ n && n < 8 + s.nS)
def State.hasDw (s : State) (n : Nat) : Bool := n < s.nD
def State.hasHead (s : State) (h : Nat) : Bool := h < s.nH
def State.hasCh (s : State) (c : Nat) : Bool := c < s.nLight || (32 ≤ c && c < 32 + s.nHeavy)
def State.hasCan (s : State) (n : Nat) : Bool := n < s.nC

/-- Whether an input is one a channel reads (R390): the light curtain of an absent doorway is ignored. -/
def State.inputHere (s : State) (i : Input) : Bool := match i with | .lcA n => s.hasDw n | .lcB n => s.hasDw n | _ => true

/-- Whether a page is assigned (R76) and its instance present in the member (R6, R390). -/
def State.hasPage (s : State) (pg : Nat) : Bool :=
  if pg ≤ 0x08 then true
  else if 0x10 ≤ pg && pg < 0x20 then s.hasAx (pg - 0x10)
  else if pg = pgTRV then true
  else if 0x28 ≤ pg && pg < 0x38 then s.hasHead (pg - 0x28)
  else if pg = pgLANT || pg = pgLVOL then 0 < s.nH
  else if pg = pgGAL || pg = pgCRAWL || pg = pgFIO then true
  else if 0x50 ≤ pg && pg < 0x54 then s.hasCan (pg - 0x50)
  else if 0x58 ≤ pg && pg ≤ 0x5D then true
  else pg = pgFLOW || pg = pgSVC || pg = pgTEST || pg = pgRES

/-- The holding domain of a page (R76). -/
def domOf (pg : Nat) : Nat :=
  if pg = pgPWR || pg = pgCLK || pg = pgSEAL || pg = pgCOLM then 1
  else if pg = pgDRIP then 0
  else if pg = pgSAFM || pg = pgDST then 2
  else if 0x28 ≤ pg && pg < 0x38 then 6
  else if pg = pgLANT || pg = pgLVOL then 4
  else if pg = pgGAL || pg = pgCRAWL then 10
  else if pg = pgFIO || (0x50 ≤ pg && pg < 0x54) then 8
  else if pg = pgECN || pg = pgMVB || pg = pgLGL then 7
  else 3

/-- Whether domain Pn is on. -/
def State.domOn (s : State) (d : Nat) : Bool := s.bit PWR.DOM_ON d

/-- Whether the block of a page is powered. -/
def State.pageOn (s : State) (pg : Nat) : Bool := s.domOn (domOf pg)

/-- The clock that a domain's block runs from (R49). -/
def clkOf (d : Nat) : Nat := match d with
  | 0 => 0 | 1 => 1 | 2 => 2 | 3 => 3 | 4 => 4 | 5 => 5 | 6 => 6 | 7 => 7 | 8 => 8 | 9 => 9 | 10 => 12 | _ => 10

/-- The clock a page's block runs from (R49). -/
def clkOfPage (pg : Nat) : Nat :=
  if pg = pgFIO then 11 else if pg = pgFLOW then 10 else if pg = pgSVC then 13 else clkOf (domOf pg)

/-- The register interface takes accesses: it stands in P3 and runs from the clock domain APP (R50, R75). -/
def busUp (s : State) : Bool := s.domOn 3 && !s.bit CLK.CLK_FAIL (clkOf 3)

/-- The running clocks (R49). -/
def State.clkOn (s : State) : Nat :=
  maskOf (fun k => s.domOn (if k = 10 then (if s.domOn 11 then 11 else 3) else if k = 11 then 8 else if k = 12 then 10
    else if k = 13 then 3 else k)) 14

/-- A clock that no longer runs is not failed (R57). -/
def clkSync (s : State) : State := s.set CLK.CLK_FAIL (Nat.land (s.get CLK.CLK_FAIL) s.clkOn)

/-- Whether the block of a page works: enabled, powered, its clock good (R50, R78). -/
def State.works (s : State) (pg : Nat) : Bool :=
  s.on (HDR.EN pg) && s.pageOn pg && !s.bit CLK.CLK_FAIL (clkOfPage pg)

/-- The life-cycle states (R66). -/
abbrev lcFACTORY := 0
abbrev lcCOMMISSION := 1
abbrev lcSERVICE := 2
abbrev lcDEPOT := 3
abbrev lcRETURN := 4
abbrev lcSCRAP := 5
abbrev lcUNKNOWN := 7

/-- The life-cycle state in force. -/
def State.lc (s : State) : Nat := s.get SYS.LC_STATE

/-- Whether the module is in Refuge. -/
def State.inRefuge (s : State) : Bool := s.on SYS.REFUGE

/-- HW_LOCK of a page (R87). -/
def State.hwLock (s : State) (pg : Nat) : Bool :=
  s.inRefuge || (pg != pgSVC && (s.lc = lcRETURN || s.lc = lcSCRAP))

/-- Whether a doorway is in service (SW-A(n+1) as captured in step 1). -/
def State.inSvc (s : State) (n : Nat) : Bool := s.hasDw n && bitAt s.saf.sealA n

/-- The axis, doorway and indirect pair by number. -/
def State.ax (s : State) (n : Nat) : Axis := mapFind Axis.init n s.axes
def State.setAx (s : State) (n : Nat) (a : Axis) : State := { s with axes := mapPut Axis.init n a s.axes }
def State.dw (s : State) (n : Nat) : Doorway := mapFind Doorway.init n s.doors
def State.setDw (s : State) (n : Nat) (d : Doorway) : State := { s with doors := mapPut Doorway.init n d s.doors }

/-- Apply `f` to the numbers 0 to n − 1 in rising order. -/
def eachUpTo (n : Nat) (f : State → Nat → State) (s : State) : State :=
  match n with
  | 0 => s
  | n + 1 => f (eachUpTo n f s) n

/-- Apply `f` to each axis the member has, in rising order. -/
def eachAx (f : State → Nat → State) (s : State) : State := eachUpTo 16 (fun t n => if t.hasAx n then f t n else t) s

/-- Apply `f` to each doorway the member has. -/
def eachDw (f : State → Nat → State) (s : State) : State := eachUpTo 8 (fun t n => if t.hasDw n then f t n else t) s

/-- Whether `p` holds of every number below `n`. -/
def allBelow (n : Nat) (p : Nat → Bool) : Bool :=
  match n with
  | 0 => true
  | n + 1 => allBelow n p && p n

/-- Whether `p` holds of some number below `n`. -/
def anyBelow (n : Nat) (p : Nat → Bool) : Bool := !allBelow n (fun k => !p k)

/-- The depth of FQ0 (R336). -/
abbrev fq0Depth := 512

/-- Hand an EVENT request to FQ0; a full queue or a disabled recorder drops it (R331, R336, R349). -/
def State.event (s : State) (page inst code : Nat) (a b c : Nat := 0) : State :=
  if s.on (HDR.EN pgFLOW) && s.fq0.length < fq0Depth then
    { s with fq0 := s.fq0 ++ [⟨page, inst, code, a, b, c⟩] }
  else s.countDrop pgFLOW FLOW.FQ0_DROP_CNT

/-- Cycle ends that FQ1 holds (R336). -/
def fq1Held (f : Flow) : Nat := (f.fq1.filter (fun c => !c.lost)).length

/-- An obstacle source seen on a doorway (R330): bit 0 PINCH, 1 force, 2 sensitive edge, 3 light curtain, 4 THIN. -/
def State.source (s : State) (n b : Nat) : State :=
  let d := s.dw n
  if d.running then s.setDw n { d with sources := putBit d.sources b true } else s

/-- The chopper's turn-on level in mV (R43): min(1.10 V_ref + 5 V, 172 V). -/
def chopLevel (vref : Nat) : Nat := min (vref * 110 / 100 + 5000) 172000

/-- The chopper energy of the last 10 min in J; entries older than that are forgotten (R43). -/
def chopFresh (s : State) : List (Nat × Nat) := s.pwr.chopLog.filter (fun e => s.tick < e.1 + 600 * 32768)
def chopSum (s : State) : Nat := (chopFresh s).foldl (fun (t : Nat) e => t + e.2) 0

/-- What a filter with a time constant of 1 s keeps of an old value over 2^k Drip counts, k = 0 to 19, in 2^-40: e to the power
-2^k/32768. -/
def vrefKeep : List Nat := [1099478073856, 1099444520960, 1099377418240, 1099243225085, 1098974887915, 1098438410069, 1097366239915,
  1095225038176, 1090955160405, 1082465279991, 1065683211334, 1032895585848, 970315605868, 856300516708, 666887512957,
  404487723188, 148802717567, 20138257928, 368845060, 123734]

/-- The same over any number of counts; nothing is left of it after 32 s. -/
def vrefLeft (n : Nat) : Nat :=
  if 2 ^ 20 ≤ n then 0
  else (List.range 20).foldl (fun f k => if bitAt n k then f * vrefKeep.getD k 0 / 2 ^ 40 else f) (2 ^ 40)

/-- The bus reference voltage now, in µV (R43): BATT_D filtered with a time constant of 1 s, frozen while an axis regenerates. -/
def vrefNow (s : State) : Nat :=
  let x : Int := 1000 * max 0 s.pwr.mvD
  if s.pwr.regen then s.pwr.vref else (x + (s.pwr.vref - x) * vrefLeft (s.tick - s.pwr.vrefAt) / 2 ^ 40).toNat

/-- The present turn-on level of the chopper in mV. -/
def chopNow (s : State) : Nat := chopLevel (vrefNow s / 1000)

/-- The reference voltage taken over up to now, before what it follows changes. -/
def vrefFold (s : State) (regen : Bool) : State :=
  { s with pwr := { s.pwr with
    vref := vrefNow s
    vrefAt := s.tick
    regen := regen } }

/-- Draw a free value: the counter moves on, so no two draws are the same. -/
def State.draw (s : State) : State := { s with freeCtr := s.freeCtr + 1 }

/-- A time in milliseconds as Drip counts, rounded up. -/
def msTicks (ms : Nat) : Nat := (ms * 32768 + 999) / 1000

end Sys2Proof.Machine
end

