-- ==== Sys2Proof/Machine/Mem.lean ====
section
/-! DEFINITION. The storage behind the indirect pairs, byte by byte: which byte a place holds before anything is written
(the factory microstep tables of R96, the default parameter block of R215, 0 elsewhere), and reads and writes of bytes
and words. A place is named by its page, its space and its byte address. -/

namespace Sys2Proof.Machine

/-- One term after another of the sine series, scaled by 10^15: `t` is the term, `x2` the square of the angle. -/
def sinSeries (x2 : Int) : Nat → Nat → Int → Int
  | 0, _, _ => 0
  | n + 1, k, t => t + sinSeries x2 n (k + 2) (-(t * x2 / 1000000000000000) / ((k + 1) * (k + 2) : Nat))

/-- round(32767 × sin(2πk/12288)) for k from 0 to 3072, a half rounded away from zero as in R102; the added millionth of a
millionth covers what the series is short of. -/
def sinQuarter (k : Nat) : Int :=
  let x : Int := (6283185307179586 * k / 12288 : Nat)
  (32767 * 2 * sinSeries (x * x / 1000000000000000) 14 1 x + 1000001000000000) / 2000000000000000

/-- round(32767 × sin(2πk/12288)) for every k. -/
def sinTable (k : Nat) : Int :=
  let r := k % 12288
  if r ≤ 3072 then sinQuarter r
  else if r ≤ 6144 then sinQuarter (6144 - r)
  else if r ≤ 9216 then -sinQuarter (r - 6144)
  else -sinQuarter (12288 - r)

/-- Factory content of entry e of microstep table n: U, V and W (R96). -/
def factoryEntry (n e : Nat) : Int × Int × Int :=
  if n < 3 then (sinTable (3 * e), sinTable (3 * e + 8192), sinTable (3 * e + 4096))
  else (sinTable (3 * e + 3072), sinTable (3 * e), 0)

/-- Byte `i` of the eight bytes of a factory entry. -/
def factoryByte (n e i : Nat) : Nat :=
  let (u, v, w) := factoryEntry n e
  bitsOf (un 16 u + un 16 v * 2 ^ 16 + un 16 w * 2 ^ 32) (8 * i) 8

/-- A byte of the Vangusk default safety parameter block (R215). -/
def paramDefault (a : Nat) : Nat :=
  if a = 0x00 then 1 else if a = 0x02 then 0x80 else if a = 0x05 then 0xFF else if a = 0x07 then 20
  else if 0x10 ≤ a && a < 0x70 then
    let i := (a - 0x10) % 0x0C
    if i = 0 then 1500 % 256 else if i = 1 then 1500 / 256 else if i = 2 then 10000 % 256 else if i = 3 then 10000 / 256
    else if i = 4 then 200 else if i = 6 then 800 % 256 else if i = 7 then 800 / 256 else if i = 8 then 100 else 0
  else 0

/-- The key of a byte: page, space, address. -/
def memKey (pg sp a : Nat) : Nat := (pg * 16 + sp) * 2 ^ 32 + a % 2 ^ 32

/-- What a byte holds before anything is written. -/
def memReset (k : Nat) : Byte :=
  let a := k % 2 ^ 32
  if k / 2 ^ 32 = pgTRV * 16 + 1 then (factoryByte (a / 0x8000) (a % 0x8000 / 8) (a % 8) : Nat)
  else if k / 2 ^ 32 = pgSAFM * 16 + 1 then (paramDefault a : Nat)
  else 0

/-- One byte of storage. -/
def State.rd8 (s : State) (pg sp a : Nat) : Nat :=
  (mapFind (memReset (memKey pg sp a)) (memKey pg sp a) s.mem).toNat

/-- Store one byte. -/
def State.wr8 (s : State) (pg sp a v : Nat) : State :=
  { s with mem := mapPut (memReset (memKey pg sp a)) (memKey pg sp a) (BitVec.ofNat 8 v) s.mem }

/-- `n` bytes from an address up. -/
def State.rdBytes (s : State) (pg sp a n : Nat) : List Nat :=
  match n with
  | 0 => []
  | n + 1 => s.rd8 pg sp a :: s.rdBytes pg sp (a + 1) n

/-- Store bytes from an address up. -/
def State.wrBytes (s : State) (pg sp a : Nat) (l : List Nat) : State :=
  match l with
  | [] => s
  | b :: l => (s.wr8 pg sp a b).wrBytes pg sp (a + 1) l

/-- Numbers of 16 and 32 bits, least significant byte first. -/
def State.rd16 (s : State) (pg sp a : Nat) : Nat := s.rd8 pg sp a + s.rd8 pg sp (a + 1) * 256
def State.rd32 (s : State) (pg sp a : Nat) : Nat := s.rd16 pg sp a + s.rd16 pg sp (a + 2) * 65536
def State.wr16 (s : State) (pg sp a v : Nat) : State := (s.wr8 pg sp a v).wr8 pg sp (a + 1) (v / 256)
def State.wr32 (s : State) (pg sp a v : Nat) : State := (s.wr16 pg sp a v).wr16 pg sp (a + 2) (v / 65536)

/-- The listed bytes of a place: offset from its address, value. -/
def State.listed (s : State) (pg sp a n : Nat) : List (Nat × Nat) :=
  let base := memKey pg sp a
  (s.mem.filter (fun c => base ≤ c.1 && c.1 < base + n)).map (fun c => (c.1 - base, c.2.toNat))

/-- CRC-32C of the `n` bytes from an address up, in a space whose bytes are 0 before anything is written. -/
def State.crcOf (s : State) (pg sp a n : Nat) : Nat :=
  let (c, at0) := (s.listed pg sp a n).foldl (fun (t : Nat × Nat) e =>
    (crc32Byte (crcZeros (e.1 - t.2) t.1) e.2, e.1 + 1)) (0xFFFFFFFF, 0)
  Nat.xor (crcZeros (n - at0) c) 0xFFFFFFFF

/-- Every byte of one space back to what it held before anything was written. -/
def State.wipeSpace (s : State) (pg sp : Nat) : State :=
  { s with mem := s.mem.filter (fun c => c.1 / 2 ^ 32 != pg * 16 + sp) }

/-- The `n` bytes from an address up back to what they held before anything was written. -/
def State.wipeBytes (s : State) (pg sp a n : Nat) : State :=
  { s with mem := s.mem.filter (fun c => !(c.1 / 2 ^ 32 = pg * 16 + sp && a ≤ c.1 % 2 ^ 32 && c.1 % 2 ^ 32 < a + n)) }

/-- `n` bytes copied from one place to another, both in spaces whose bytes are 0 before anything is written. -/
def State.copyBytes (s : State) (pg sp a pg' sp' a' n : Nat) : State :=
  (s.listed pg sp a n).foldl (fun (t : State) e => t.wr8 pg' sp' (a' + e.1) e.2) (s.wipeBytes pg' sp' a' n)

/-- Lantern's partition of LPDDR5 (R157), a space of the model: 1.5 GiB from address 0. -/
abbrev spPart := 15
/-- Slot k of the ring of a head, its calibration table and binned table, its STATIC bitmap (R157, R168). -/
def partRing (h k : Nat) : Nat := h * 0x3000000 + k * 0x600000
def partCal (h : Nat) : Nat := 0x30000000 + h * 0x1500000
def partBin (h : Nat) : Nat := partCal h + 0x1100000
def partStatic (h : Nat) : Nat := 0x45000000 + h * 0x40000

end Sys2Proof.Machine
end

