-- ==== Sys2Proof/Machine/Profile.lean ====
section
/-! DEFINITION. Profiles and the arithmetic of motion (R98, R99, R101, R102, R105, R108): a profile as knots, its
validation, scaling to a move, the commanded position and velocity at a time, and decelerations. -/

namespace Sys2Proof.Machine

/-- Header of profile k of axis n: N_SEG and DEC_FIRST (R98). -/
def prfHdr (s : State) (n k : Nat) : Nat × Nat :=
  let w := s.rd32 (pgAX n) 1 (k * 0x10)
  (bitsOf w 0 7, bitsOf w 8 7)

/-- Segment i of profile k: duration in µs, end position, end velocity (R98). -/
def prfSeg (s : State) (n k i : Nat) : Nat × Int × Int :=
  let a := 0x200 + k * 0x400 + i * 0x10
  (bitsOf (s.rd32 (pgAX n) 1 a) 0 24, sx 32 (s.rd32 (pgAX n) 1 (a + 4)), sx 32 (s.rd32 (pgAX n) 1 (a + 8)))

/-- The segments of a profile in order. -/
def prfSegs (s : State) (n k : Nat) : Nat → List (Nat × Int × Int)
  | 0 => []
  | i + 1 => prfSegs s n k i ++ [prfSeg s n k i]

/-- The knots that follow one at time `t`. -/
def knotsFrom (t : Nat) : List (Nat × Int × Int) → List Knot
  | [] => []
  | (d, p, v) :: l => ⟨.int (t + d : Nat), .int p, fromFix16 v⟩ :: knotsFrom (t + d) l

/-- The knots of a profile, knot 0 first. -/
def prfKnots (s : State) (n k : Nat) : List Knot :=
  ⟨.int 0, .int 0, .int 0⟩ :: knotsFrom 0 (prfSegs s n k (min 64 (prfHdr s n k).1))

/-- Knot i of a list; the last one beyond the end. -/
def knotAt : List Knot → Nat → Knot
  | [], _ => ⟨.int 0, .int 0, .int 0⟩
  | [k], _ => k
  | k :: _, 0 => k
  | _ :: l, i + 1 => knotAt l i

/-- The last knot. -/
def knotLast (l : List Knot) : Knot := knotAt l l.length

/-- The first segment, counted from `i`, that breaks a condition on the segments before and at it. -/
def firstBad (bad : Nat × Int × Int → Nat × Int × Int → Bool) (prev : Nat × Int × Int) (i : Nat) :
    List (Nat × Int × Int) → Option Nat
  | [] => none
  | g :: l => if bad prev g then some i else firstBad bad g (i + 1) l

/-- The velocity of knot i given the segments: 0 for knot 0. -/
def knotVel (segs : List (Nat × Int × Int)) (i : Nat) : Int :=
  if i = 0 then 0 else (segs.getD (i - 1) (0, 0, 0)).2.2

/-- Segment at whose end condition 0x09 fails: a knot before DEC_FIRST faster than V0, or a rise after it. -/
def shapeBad (segs : List (Nat × Int × Int)) (dec : Nat) : Option Nat :=
  (List.range segs.length).find? (fun i =>
    if i + 1 < dec then knotVel segs dec < knotVel segs (i + 1)
    else dec < i + 1 && knotVel segs i < knotVel segs (i + 1))

/-- The first reason of R99 that a profile violates, with the segment concerned; none for a valid profile. DESIGN CHOICE (log 102): for
the reasons that concern no one segment, ERR_SEG shows 0 for 0x01, DEC_FIRST mod 64 for 0x02 and the last segment for 0x07 and 0x08. -/
def prfCheck (s : State) (n k : Nat) : Option (Nat × Nat) :=
  let (ns, dec) := prfHdr s n k
  let segs := prfSegs s n k (min 64 ns)
  let z : Nat × Int × Int := (0, 0, 0)
  if ns = 0 || 64 < ns then some (0x01, 0)
  else if ns ≤ dec then some (0x02, dec % 64)
  else match firstBad (fun _ g => g.1 = 0) z 0 segs with
  | some i => some (0x03, i)
  | none => match firstBad (fun p g => g.2.1 < p.2.1) z 0 segs with
  | some i => some (0x04, i)
  | none => match firstBad (fun _ g => g.2.2 < 0) z 0 segs with
  | some i => some (0x05, i)
  | none => match firstBad (fun p g => 3 * (g.2.1 - p.2.1) * 50 * 65536 < max p.2.2 g.2.2 * (g.1 : Nat)) z 0 segs with
  | some i => some (0x06, i)
  | none =>
    if knotVel segs ns != 0 then some (0x07, ns - 1)
    else if (segs.getD (ns - 1) z).2.1 < 1 then some (0x08, ns - 1)
    else (shapeBad segs dec).map (fun i => (0x09, i))

/-- Whether a profile is valid and its deceleration part can be entered while moving (R98, R113). -/
def prfEnterable (s : State) (n k : Nat) : Bool :=
  s.bit (AX.PRF_VALID n) k && knotVel (prfSegs s n k (min 64 (prfHdr s n k).1)) (prfHdr s n k).2 != 0

/-- The largest knot velocity of a list of knots. -/
def topVel : List Knot → Ratio
  | [] => .int 0
  | k :: l => (topVel l).max k.v.abs

/-- A speed in mm/s as addresses per update on axis n (R97). -/
def mmsToVel (s : State) (n : Nat) (um : Nat) : Ratio :=
  mkRatio (um * 65536 : Nat) (s.get (AX.AX_SCALE n) * 20000)

/-- The closing speed ceiling of R138 in µm/s: √(2 × E_LIM / m), m = 120 kg while no mass is learned. -/
def vLimUm (s : State) (n : Nat) : Nat :=
  let m := if s.on (AX.MASS_VALID n) then max 1 (s.get (AX.MASS_G n)) else 120000
  isqrt (2 * s.get (AX.E_LIM n) * 10 ^ 12 / m)

/-- The closing speed ceiling in force in µm/s: that of R138, and of Squeeze while SQZ is 1 (R137). -/
def closeCapUm (s : State) (n : Nat) : Nat :=
  if s.on (AX.SQZ n) then min (vLimUm s n) (s.get (AX.SQZ_VMAX n) * 1000) else vLimUm s n

/-- The velocity ceiling of a move of distance d (R101, R137, R138), in addresses per update. -/
def moveCap (s : State) (n : Nat) (d : Ratio) (vcap : Option Nat) : Ratio :=
  let c0 := fromFix16 (s.get (AX.AX_VMAX n))
  let c1 := if n < 8 && d.neg? then c0.min (mmsToVel s n (closeCapUm s n)) else c0
  match vcap with
  | some v => c1.min (fromFix16 v)
  | none => c1

/-- An entry as a motion from an origin with a start velocity (R101, R105), and whether its speed scale was reduced. -/
def mkMove (s : State) (n : Nat) (e : Entry) (org v0 : Ratio) : Traj × Bool :=
  let ks := prfKnots s n e.prf
  let d := (Ratio.int e.target).sub org
  let a := d.div (knotLast ks).p
  let k0 := mkRatio e.speed 256
  let top := a.abs.mul (topVel ks)
  let cap := moveCap s n d e.vcap
  let cut := cap.lt (top.mul k0)
  let k := if cut then cap.div top else k0
  let scaled := ks.map (fun q => (⟨q.t.div k, q.p.mul a, (q.v.mul a).mul k⟩ : Knot))
  (⟨1, e.prf, 0, (prfHdr s n e.prf).2, org, 0,
    match scaled with | q :: l => { q with v := v0 } :: l | [] => [], e.target, .int e.target, e⟩, cut)

/-- The first-segment check of R105 condition 5, for a motion started at its first knot's velocity. -/
def firstSegOk (tr : Traj) : Bool :=
  let q0 := knotAt tr.knots 0
  let q1 := knotAt tr.knots 1
  (q0.v.abs.mul q1.t).le ((q1.p.abs.mul (.int 150)))

/-- The time of a motion in µs. -/
def Traj.time (tr : Traj) : Ratio := mkRatio tr.t 65536

/-- The knots around a time: the last one not after it, the next, and the number of the segment between. -/
def segmentAt (t : Ratio) (i : Nat) : List Knot → Knot × Knot × Nat
  | [] => (⟨.int 0, .int 0, .int 0⟩, ⟨.int 0, .int 0, .int 0⟩, i)
  | [k] => (k, k, i)
  | k :: q :: l => if l.isEmpty || t.lt q.t then (k, q, i) else segmentAt t (i + 1) (q :: l)

/-- Position and velocity of a motion at its time, relative to its origin (R102). -/
def Traj.at (tr : Traj) : Ratio × Ratio :=
  let (k0, k1, _) := segmentAt tr.time 0 tr.knots
  let dt := k1.t.sub k0.t
  if dt.isZero then (k1.p, k1.v)
  else
    let dd := dt.div (.int 50)
    let x := (tr.time.sub k0.t).div dt
    let x2 := x.mul x
    let x3 := x2.mul x
    let c (a3 a2 a1 a0 : Int) : Ratio :=
      (((Ratio.int a3).mul x3).add ((Ratio.int a2).mul x2)).add (((Ratio.int a1).mul x).add (.int a0))
    ((((c 2 (-3) 0 1).mul k0.p).add ((c 1 (-2) 1 0).mul (dd.mul k0.v))).add
        (((c (-2) 3 0 0).mul k1.p).add ((c 1 (-1) 0 0).mul (dd.mul k1.v))),
     ((((c 0 6 (-6) 0).mul (k0.p.sub k1.p)).add ((c 0 3 (-4) 1).mul (dd.mul k0.v))).add
        ((c 0 3 (-2) 0).mul (dd.mul k1.v))).div dd)

/-- Commanded position and velocity at the time of a motion, in 1/65536 addresses (R102). -/
def Traj.pos (tr : Traj) : Int := (tr.org.add tr.at.1).fix16
def Traj.vel (tr : Traj) : Int := tr.at.2.fix16

/-- Whether a motion has reached its last knot. -/
def Traj.done (tr : Traj) : Bool := (knotLast tr.knots).t.le tr.time

/-- Where a motion ends, in addresses. -/
def Traj.end (tr : Traj) : Ratio :=
  if tr.kind = 1 then .int tr.target else tr.org.add (knotLast tr.knots).p

/-- Whether a move has entered its deceleration part (R105). -/
def Traj.inDec (tr : Traj) : Bool := tr.kind = 2 || (knotAt tr.knots tr.dec).t.le tr.time

/-- The profile segment being interpolated. -/
def Traj.seg (tr : Traj) : Nat := tr.seg0 + (segmentAt tr.time 0 tr.knots).2.2

/-- The knots from knot `i` on, relative to it. -/
def partFrom (ks : List Knot) (i : Nat) : List Knot :=
  let q := knotAt ks i
  (ks.drop i).map (fun k => ⟨k.t.sub q.t, k.p.sub q.p, k.v⟩)

/-- The sign of a number as a fraction. -/
def signR (v : Int) : Ratio := if v < 0 then .int (-1) else if v = 0 then .int 0 else .int 1

/-- The deceleration part of a profile, unscaled, in the direction of `v` (R108). -/
def prfPart (s : State) (n k : Nat) (v : Int) : List Knot :=
  (partFrom (prfKnots s n k) (prfHdr s n k).2).map (fun q => ⟨q.t, q.p.mul (signR v), q.v.mul (signR v)⟩)

/-- The largest deceleration of one segment at its two ends, in addresses per update². -/
def segDecel (a b : Knot) : Ratio :=
  let d := (b.t.sub a.t).div (.int 50)
  if d.isZero then .int 0
  else
    let dp := b.p.sub a.p
    let d2 := d.mul d
    let x := (((Ratio.int 6).mul dp).sub (d.mul (((Ratio.int 4).mul a.v).add ((Ratio.int 2).mul b.v)))).div d2
    let y := ((d.mul (((Ratio.int 2).mul a.v).add ((Ratio.int 4).mul b.v))).sub ((Ratio.int 6).mul dp)).div d2
    let back := fun (r : Ratio) => if (a.v.add b.v).neg? then r else r.neg
    (back x).max (back y)

/-- The largest speed on a segment from the place `s0` (0 to 1) of its duration on: the velocity of R102 is a quadratic in
that place, so it is at an end or where its slope is 0. -/
def segTop (s0 : Ratio) (a b : Knot) : Ratio :=
  let d := (b.t.sub a.t).div (.int 50)
  if d.isZero then b.v.abs
  else
    let dp := (a.p.sub b.p).div d
    let c2 := ((Ratio.int 6).mul dp).add ((Ratio.int 3).mul (a.v.add b.v))
    let c1 := (((Ratio.int 6).mul dp).add ((Ratio.int 4).mul a.v)).add ((Ratio.int 2).mul b.v)
    let at' := fun (x : Ratio) => ((((c2.mul x).sub c1).mul x).add a.v).abs
    let ends := (at' s0).max b.v.abs
    if c2.isZero then ends
    else
      let x := c1.div ((Ratio.int 2).mul c2)
      if s0.lt x && x.lt (.int 1) then ends.max (at' x) else ends

/-- The largest speed over a list of knots, segment by segment. -/
def pathTop : List Knot → Ratio
  | a :: b :: l => (segTop (.int 0) a b).max (pathTop (b :: l))
  | _ => .int 0

/-- The largest speed of a motion from now on. -/
def Traj.topLeft (tr : Traj) : Ratio :=
  let (a, b, i) := segmentAt tr.time 0 tr.knots
  let d := b.t.sub a.t
  (segTop (if d.isZero then .int 0 else (tr.time.sub a.t).div d) a b).max (pathTop (tr.knots.drop (i + 1)))

/-- The largest deceleration anywhere in a part: within a segment the acceleration is linear in time. -/
def topDecel : List Knot → Ratio
  | a :: b :: l => (segDecel a b).max (topDecel (b :: l))
  | _ => .int 0

/-- A deceleration along a part from a position and velocity (R108), ending no further than `bound`; `amax`, where given,
is the deceleration it must not exceed (R136). -/
def mkDecel (prf seg0 : Nat) (part : List Knot) (pos v : Int) (bound : Ratio) (amax : Option Ratio) (e : Entry) : Traj :=
  let p0 := fromFix16 pos
  let v0 := (knotAt part 0).v
  let len := (knotLast part).p.abs
  let r := if v0.isZero then .int 0 else (fromFix16 v).abs.div v0.abs
  let r2 := r.mul r
  let al := match amax with
    | some a => if a.pos? && a.lt (topDecel part) then (r2.mul (topDecel part)).div a else r2
    | none => r2
  let room := if v < 0 then p0.sub bound else bound.sub p0
  let room := if room.neg? then .int 0 else room
  let al := if room.lt (al.mul len) then room.div len else al
  let ks := if r.isZero then [⟨.int 0, .int 0, .int 0⟩]
    else part.map (fun q => (⟨(q.t.mul al).div r, q.p.mul al, q.v.mul r⟩ : Knot))
  ⟨2, prf, seg0, 0, p0, 0, ks, ((p0.add (knotLast ks).p)).round, bound, e⟩

/-- The rest of a motion as a deceleration whose present position is `pos`, with its remaining duration and its bound
(R122, R123). DESIGN CHOICE (log 125): one that would pass its bound is shortened by one factor on its distances and velocities. -/
def Traj.shift (tr : Traj) (pos : Int) : Traj :=
  let (p, v) := tr.at
  let p0 := fromFix16 pos
  let left := (knotLast tr.knots).p.sub p
  let room := if left.neg? then p0.sub tr.bound else tr.bound.sub p0
  let room := if room.neg? then .int 0 else room
  if left.abs.le room || left.isZero then
    { tr with kind := 2, org := p0.sub p, target := (p0.add left).round }
  else
    let f := room.div left.abs
    let (_, q, i) := segmentAt tr.time 0 tr.knots
    let rest := tr.knots.drop (i + 1)
    let ks := (⟨.int 0, .int 0, v.mul f⟩ : Knot) ::
      ((if rest.isEmpty then [q] else rest).map
        (fun k => ⟨k.t.sub tr.time, (k.p.sub p).mul f, k.v.mul f⟩))
    { tr with kind := 2, seg0 := tr.seg, dec := 0, org := p0, t := 0, knots := ks, target := (p0.add (left.mul f)).round }

end Sys2Proof.Machine
end

