-- ==== Sys2Proof/Machine/Calendar.lean ====
section
/-! DEFINITION. The Drip calendar: Gregorian dates from 2000-01-01 to 2135-12-31 in 1/1024 s, the layout of CAL_HI and
CAL_LO, the clamping of a set, one Drip count, the alarms' matching (R351 to R361). -/

namespace Sys2Proof.Machine

/-- Leap years among those of the calendar, the length of a month and of a year. -/
def leapYear (y : Nat) : Bool := y % 4 = 0 && (y % 100 != 0 || y % 400 = 0)
def monthDays (y m : Nat) : Nat :=
  if m = 2 then (if leapYear y then 29 else 28) else if m = 4 || m = 6 || m = 9 || m = 11 then 30 else 31
def yearDays (y : Nat) : Nat := if leapYear y then 366 else 365

/-- The year that holds day `d` counted from 1 January of year `y`, and the day in it; at most `k` years on. -/
def findYear : Nat → Nat → Nat → Nat × Nat
  | 0, y, d => (y, d)
  | k + 1, y, d => if d < yearDays y then (y, d) else findYear k (y + 1) (d - yearDays y)

/-- The month of day `d` of year `y`, from month `m` on. -/
def findMonth (y : Nat) : Nat → Nat → Nat → Nat × Nat
  | 0, m, d => (m, d)
  | k + 1, m, d => if d < monthDays y m then (m, d) else findMonth y k (m + 1) (d - monthDays y m)

/-- Days from 2000-01-01 to 1 January of year 2000 + `y`, and to the first of a month. -/
def daysToYear : Nat → Nat
  | 0 => 0
  | y + 1 => daysToYear y + yearDays (2000 + y)
def daysToMonth (y : Nat) : Nat → Nat
  | 0 => 0
  | 1 => 0
  | m + 2 => daysToMonth y (m + 1) + monthDays y (m + 1)

/-- The fields of a calendar value: year since 2000, month, day, hour, minute, second, 1/1024 s (R356). -/
structure Date where
  year   : Nat
  month  : Nat
  day    : Nat
  hour   : Nat
  minute : Nat
  second : Nat
  sub    : Nat
  deriving DecidableEq, Repr

/-- The largest calendar value, 2135-12-31 23:59:59 and 1023/1024 s (R355). -/
def calMax : Nat := daysToYear 136 * 86400 * 1024 - 1

/-- A calendar value taken apart. -/
def dateOf (cal : Nat) : Date :=
  let sec := cal / 1024
  let (y, d) := findYear 135 2000 (sec / 86400)
  let (m, d) := findMonth y 11 1 d
  ⟨y - 2000, m, d + 1, sec / 3600 % 24, sec / 60 % 60, sec % 60, cal % 1024⟩

/-- A calendar value put together. -/
def calOf (t : Date) : Nat :=
  ((((daysToYear t.year + daysToMonth (2000 + t.year) t.month + (t.day - 1)) * 24 + t.hour) * 60 + t.minute) * 60 +
    t.second) * 1024 + t.sub

/-- CAL_HI and CAL_LO (R356); 2000-01-01 was a Saturday. -/
def calHi (cal : Nat) : Nat :=
  let t := dateOf cal
  t.year * 2 ^ 24 + t.month * 2 ^ 20 + t.day * 2 ^ 15 + t.hour * 2 ^ 10 + t.minute * 2 ^ 4
def calLo (cal : Nat) : Nat :=
  let t := dateOf cal
  t.second * 2 ^ 26 + t.sub * 2 ^ 16 + ((cal / (86400 * 1024) + 5) % 7 + 1)

/-- A staged pair of words as a date, its fields clamped to their ranges (R357, R86). -/
def dateStaged (hi lo : Nat) : Date :=
  let y := min 135 (bitsOf hi 24 8)
  let m := clampN 1 12 (bitsOf hi 20 4)
  ⟨y, m, clampN 1 (monthDays (2000 + y) m) (bitsOf hi 15 5), min 23 (bitsOf hi 10 5), min 59 (bitsOf hi 4 6),
    min 59 (bitsOf lo 26 6), bitsOf lo 16 10⟩

/-- The same without clamping. -/
def dateRaw (hi lo : Nat) : Date :=
  ⟨bitsOf hi 24 8, bitsOf hi 20 4, bitsOf hi 15 5, bitsOf hi 10 5, bitsOf hi 4 6, bitsOf lo 26 6, bitsOf lo 16 10⟩

/-- WALL_S and WALL_SUB as they read (R355). -/
def State.wallS (s : State) : Nat := if s.on DRIP.CAL_VALID then s.drip.cal / 1024 else 0xFFFFFFFF
def State.wallSub (s : State) : Nat := s.drip.cal % 1024

/-- The tick as it reads (R352). -/
def State.tick48 (s : State) : Nat := s.tick % 2 ^ 48

/-- The alarm words of indirect space 0x1 (R359). -/
def almcHi (s : State) : Nat := s.rd32 pgDRIP 1 0x10
def almcLo (s : State) : Nat := s.rd32 pgDRIP 1 0x14
def almcMask (s : State) : Nat := s.rd32 pgDRIP 1 0x18
def almDly (s : State) : Nat := s.rd32 pgDRIP 1 0x1C
def almEn (s : State) : Nat := s.rd32 pgDRIP 1 0x20

/-- Whether the calendar matches the alarm at this second (R358): every field of the mask, never for an empty one. -/
def almMatch (s : State) : Bool :=
  let t := dateOf s.drip.cal
  let a := dateRaw (almcHi s) (almcLo s)
  let m := almcMask s
  s.on DRIP.CAL_VALID && m % 64 != 0 && (!bitAt m 5 || t.year = a.year) && (!bitAt m 4 || t.month = a.month) &&
  (!bitAt m 3 || t.day = a.day) && (!bitAt m 2 || t.hour = a.hour) && (!bitAt m 1 || t.minute = a.minute) &&
  (!bitAt m 0 || t.second = a.second)

/-- The held counters of a doorway (R334). -/
def State.held (s : State) (n : Nat) : Held := mapFind ⟨0, 0, 0, 0⟩ n s.drip.held
def State.setHeld (s : State) (n : Nat) (h : Held) : State :=
  { s with drip := { s.drip with held := mapPut ⟨0, 0, 0, 0⟩ n h s.drip.held } }

/-- Whether a count ends a whole millisecond since the start. -/
def msBoundary (tick : Nat) : Bool := tick * 1000 / 32768 != (tick + 1) * 1000 / 32768

end Sys2Proof.Machine
end

