-- ==== Sys2Proof/Machine/RegTable.lean ====
section
/-! DEFINITION. The access table of the register pages (R75 to R92): for every field its access code, what a written
value is clamped to (R86), whether HOST_LOCK freezes it (R87) and whether its register is whole-word (R88). Rules that
need the state of the block (a limit held in another field, a write accepted only at rest) stand in Regs.lean. -/

namespace Sys2Proof.Machine

/-- Access codes of the register tables (spec/00_scope.md). -/
inductive Acc where
  | ro | rw | rwv | w1 | wo
  deriving DecidableEq, Repr

/-- What a written value becomes (R86): any value is legal; the nearest value of a range; of a signed range; a code that
is not legal becomes the clamp code. -/
inductive Clamp where
  | any
  | range (lo hi : Nat)
  | signed (lo hi : Int)
  | enum (legal : List Nat) (code : Nat)
  deriving DecidableEq, Repr

/-- One row of the access table. -/
structure Desc where
  reg   : Reg
  acc   : Acc
  clamp : Clamp
  lock  : Bool
  whole : Bool
  deriving DecidableEq, Repr

/-- A read-only field. -/
def roD (r : Reg) : Desc := ⟨r, .ro, .any, false, false⟩
/-- A read-only field of a whole-word register. -/
def roW (r : Reg) : Desc := ⟨r, .ro, .any, false, true⟩
/-- A writable field without a limit, not lockable. -/
def rwD (r : Reg) : Desc := ⟨r, .rw, .any, false, false⟩

/-- Access rows of page SYS, part 0. -/
def tableSYS0 : List Desc := [
  roD SYS.CAP_D,
  roD SYS.CAP_S,
  roD SYS.CAP_H,
  roD SYS.CAP_G,
  roD SYS.CAP_C,
  roD SYS.LC_STATE,
  roD SYS.LC_WIPE_PEND,
  roD SYS.EVID_HOLD,
  roD SYS.VISION_FULL,
  roD SYS.OPERABLE,
  roD SYS.REFUGE,
  roD SYS.REFUGE_STEP,
  roD SYS.ST_DONE,
  roD SYS.RF_STEP,
  roD SYS.RF_CODE,
  roD SYS.RF_DETAIL,
  roD SYS.LC_CHANGE,
  roD SYS.WD_EXP,
  roD SYS.SVC_RST,
  roD SYS.HOST_RST,
  roD SYS.WAKE,
  roD SYS.BROWN,
  roD SYS.PWR_ON,
  ⟨SYS.RST_REQ, .wo, .any, false, true⟩,
  rwD SYS.HOST_HB,
  ⟨SYS.HOST_RDY, .w1, .any, false, false⟩,
  ⟨SYS.WD_RESTART, .w1, .any, false, false⟩,
  ⟨SYS.HOST_WD_MS, .w1, .range 0 10000, false, false⟩,
  ⟨SYS.HOST_WD_KICK, .wo, .any, false, true⟩,
  roD SYS.ST_TIME_MS]

/-- Access rows of page SYS, part 1. -/
def tableSYS1 : List Desc := [
  roD SYS.REFUGE_CNT,
  roD SYS.RST_REFUSE_CNT,
  roD SYS.LC_REFUSE_CNT,
  roW SYS.SERIAL_HI,
  roW SYS.SERIAL_LO]

/-- Access rows of page SYS. -/
def tableSYS : List Desc := tableSYS0 ++ tableSYS1

/-- Access rows of page PWR, part 0. -/
def tablePWR0 : List Desc := [
  roD PWR.CAP_PDOM,
  roD PWR.CAP_SUP,
  roD PWR.MODE,
  ⟨PWR.MODE_REQ, .rw, .enum [0, 1, 2] 1, false, false⟩,
  roD PWR.ACT_RDY,
  roD PWR.CELL_LOW,
  roD PWR.BK_CELL,
  roD PWR.DRV_LIMITING,
  roD PWR.CHOP_SPENT,
  roD PWR.CHOP_ON,
  roD PWR.GB_OK,
  roD PWR.GA_OK,
  roD PWR.BUS_OV,
  roD PWR.BATTD_OV,
  roD PWR.BATTD_OK,
  roD PWR.PF_WARN,
  roD PWR.BATTL_LOW,
  roD PWR.BATTL_OK,
  roD PWR.VL,
  roD PWR.VD,
  roD PWR.VGA,
  roD PWR.VGB,
  roD PWR.IL,
  roD PWR.ID,
  roD PWR.DOM_ON,
  rwD PWR.WK_DRIP,
  rwD PWR.WK_FI,
  roD PWR.WK_REL_R,
  roD PWR.WK_REL_L,
  rwD PWR.WK_CAN]

/-- Access rows of page PWR, part 1. -/
def tablePWR1 : List Desc := [
  roD PWR.PARK_LATE,
  roD PWR.POWER_ON,
  roD PWR.CAUSE,
  ⟨PWR.IDLE_DELAY_S, .rw, .range 5 3600, false, false⟩,
  ⟨PWR.DRV_P_LIM, .rwv, .range 20 240, false, false⟩,
  ⟨PWR.DRV_I_LIM, .rwv, .range 20 300, false, false⟩,
  roD PWR.CHOP_E,
  roD PWR.CHOP_ON_V,
  roD PWR.VCAP,
  roD PWR.VCELL,
  roD PWR.PF_CNT,
  roD PWR.PARK_ABORT_CNT,
  roD PWR.DRV_LIM_CNT,
  roD PWR.BUS_OV_CNT,
  roD PWR.WAKE_CNT]

/-- Access rows of page PWR. -/
def tablePWR : List Desc := tablePWR0 ++ tablePWR1

/-- Access rows of page CLK, part 0. -/
def tableCLK0 : List Desc := [
  roD CLK.CAP_CDOM,
  roD CLK.CLK_ON,
  roD CLK.APP_NOW,
  ⟨CLK.APP_SEL, .rw, .enum [0, 1, 2, 3, 4] 4, false, false⟩,
  roD CLK.CLK_FAIL,
  roD CLK.CLK_FAIL_CNT,
  ⟨CLK.MEAS_SEL, .rw, .enum [0, 1, 2, 3, 4, 5, 6, 7, 8, 9, 10, 11, 12, 13] 1, false, false⟩,
  roD CLK.MEAS_HZ]

/-- Access rows of page CLK. -/
def tableCLK : List Desc := tableCLK0

/-- Access rows of page BOOT, part 0. -/
def tableBOOT0 : List Desc := [
  roD BOOT.TRIAL,
  roD BOOT.FALLBACK,
  roD BOOT.B_OK,
  roD BOOT.A_OK,
  roD BOOT.RUN_SLOT,
  rwD BOOT.BOOT_NEXT,
  ⟨BOOT.BOOT_CONFIRM, .w1, .any, false, false⟩,
  roD BOOT.IMG_A_VER,
  roD BOOT.IMG_B_VER,
  roD BOOT.ROLLBACK_MIN,
  roD BOOT.BOOT_FAIL_CNT,
  roD BOOT.BOOT_TIME_MS,
  roD BOOT.SLOT_SIZE]

/-- Access rows of page BOOT. -/
def tableBOOT : List Desc := tableBOOT0

/-- Access rows of page DRIP, part 0. -/
def tableDRIP0 : List Desc := [
  roD DRIP.CAP_ALM,
  roD DRIP.CAP_TICK,
  roD DRIP.ALM_MISSED,
  roD DRIP.TC_FAULT,
  roD DRIP.ALM_DLY_HIT,
  roD DRIP.ALM_CAL_HIT,
  roD DRIP.BK_LOST,
  roD DRIP.CAL_VALID,
  roW DRIP.CAL_HI,
  roW DRIP.CAL_LO,
  roW DRIP.WALL_S,
  roD DRIP.WALL_SUB,
  roW DRIP.TICK_HI,
  roW DRIP.TICK_LO,
  roD DRIP.EPOCH,
  roD DRIP.TC_CORR,
  roD DRIP.XTAL_T,
  roD DRIP.SET_CNT,
  roD DRIP.ALM_CNT,
  roD DRIP.BK_LOSS_CNT]

/-- Access rows of page DRIP. -/
def tableDRIP : List Desc := tableDRIP0

/-- Access rows of page SEAL, part 0. -/
def tableSEAL0 : List Desc := [
  roD SEAL.CAP_SW_A,
  roD SEAL.CAP_SW_B,
  roD SEAL.SRC_CONFLICT,
  roD SEAL.SIG_OK,
  roD SEAL.CHANGED,
  roD SEAL.POLE_DIS,
  roD SEAL.CFG_ERR,
  roD SEAL.A_SAF,
  roD SEAL.A_COL,
  roD SEAL.B_SAF,
  roD SEAL.B_COL,
  roD SEAL.DEPOT_PERMIT,
  roD SEAL.SRC_SW,
  roD SEAL.PST_CLASS,
  roD SEAL.LC_EN,
  roD SEAL.TH_EN,
  roD SEAL.LOOP_VAR,
  roD SEAL.INSVC,
  roD SEAL.SIG_CRC,
  roD SEAL.SIG_SW,
  roD SEAL.DISC_MS,
  roD SEAL.POLE_DIS_CNT]

/-- Access rows of page SEAL. -/
def tableSEAL : List Desc := tableSEAL0

/-- Access rows of page SAFM, part 0. -/
def tableSAFM0 : List Desc := [
  roD SAFM.CAP_AX,
  roD SAFM.CAP_DW,
  roD SAFM.CAP_LC,
  roD SAFM.NET_RESTR,
  roD SAFM.HOST_WD,
  roD SAFM.TH_ACT,
  roD SAFM.ZS,
  roD SAFM.ESTOP,
  roD SAFM.LATCH,
  roD SAFM.ADCL_A_RB,
  roD SAFM.ADCL_A_ON,
  roD SAFM.SP_RUN,
  roD SAFM.CL_OK_SAF,
  roD SAFM.EGR_OP_SAF,
  roD SAFM.LOCK_EN_SAF,
  roD SAFM.OP_SAF_M,
  roD SAFM.TQ_PERMIT,
  roD SAFM.MOT_PERMIT,
  roD SAFM.EDGE_FLT,
  roD SAFM.EDGE_R_ACT,
  roD SAFM.EDGE_L_ACT,
  roD SAFM.LC_INT,
  roD SAFM.LATCH_SAF,
  roD SAFM.EGR_DISC_M,
  roD SAFM.LC_DISC_M,
  roD SAFM.ENC_HOLD,
  roD SAFM.SAF_STATE,
  roD SAFM.SRC,
  roD SAFM.REV_REQ_CNT,
  roD SAFM.ESTOP_CNT]

/-- Access rows of page SAFM, part 1. -/
def tableSAFM1 : List Desc := [
  roD SAFM.DISC_SAF_CNT,
  roD SAFM.MIRROR_FIX_CNT]

/-- Access rows of page SAFM. -/
def tableSAFM : List Desc := tableSAFM0 ++ tableSAFM1

/-- Access rows of page COLM, part 0. -/
def tableCOLM0 : List Desc := [
  roD COLM.CAP_AX,
  roD COLM.CAP_DW,
  roD COLM.TEST_DUE,
  roD COLM.RESET_STUCK,
  roD COLM.SP_HB_OK,
  roD COLM.ADCL_ALLOW,
  roD COLM.ESTOP,
  roD COLM.LATCH,
  roD COLM.ADCL_B_RB,
  roD COLM.ADCL_B_ON,
  roD COLM.COL_OK,
  roD COLM.RW_MASK,
  roD COLM.TEN_MASK,
  roD COLM.CL_OK_COL,
  roD COLM.EGR_OP_COL,
  roD COLM.LOCK_EN_COL,
  roD COLM.OP_COL_M,
  roD COLM.ESTOP_1,
  roD COLM.ESTOP_2,
  roD COLM.ZS_A,
  roD COLM.ZS_B,
  roD COLM.REL_LEFT,
  roD COLM.REL_RIGHT,
  roD COLM.EDM_A,
  roD COLM.EDM_B,
  roD COLM.TH_A_NO,
  roD COLM.TH_A_NC,
  roD COLM.TH_B_NO,
  roD COLM.TH_B_NC,
  roD COLM.RESET]

/-- Access rows of page COLM, part 1. -/
def tableCOLM1 : List Desc := [
  roD COLM.DEPOT,
  roD COLM.LC_B,
  roD COLM.LC_A,
  roD COLM.LATCH_COL,
  roD COLM.EDM_A_MS,
  roD COLM.EDM_B_MS,
  roD COLM.RESET_OK_CNT,
  roD COLM.RESET_REJ_CNT,
  roD COLM.RESET_STUCK_CNT,
  roD COLM.RW_TRIP_CNT,
  roD COLM.EDM_FAULT_CNT,
  roD COLM.DISC_COL_CNT]

/-- Access rows of page COLM. -/
def tableCOLM : List Desc := tableCOLM0 ++ tableCOLM1

/-- Access rows of page CYC, part 0. -/
def tableCYC0 : List Desc := [
  roD CYC.CAP_DW,
  roD CYC.CAP_STATES,
  roD CYC.TMO,
  roD CYC.OBS,
  roD CYC.EMG,
  roD CYC.DRAG,
  roD CYC.CLOK_MASK,
  roD CYC.INSVC_MASK,
  roD CYC.ISOL_MASK,
  roD CYC.ADCL_SAF,
  roD CYC.ADCL_COL,
  roD CYC.REL_L_HW,
  roD CYC.REL_R_HW,
  roD CYC.REL_L_TG,
  roD CYC.REL_R_TG,
  roD CYC.ZS_HW,
  roD CYC.ZS_TG,
  roD CYC.OP_SAF_MASK,
  roD CYC.OP_COL_MASK,
  roD CYC.SIDE_MASK,
  roD CYC.REFUSE_TOTAL_CNT,
  roD CYC.FORCED_TOTAL_CNT]

/-- Access rows of page CYC. -/
def tableCYC : List Desc := tableCYC0

/-- Access rows of page CYCD, part 0. -/
def tableCYCD0 (n : Nat) : List Desc := [
  roD (CYCD.STATE n),
  roD (CYCD.PREV_STATE n),
  roD (CYCD.LAST_REFUSE n),
  roD (CYCD.RETRY n),
  ⟨(CYCD.CYC_REQ n), .wo, .any, false, true⟩,
  roD (CYCD.IN_SVC n),
  roD (CYCD.STEP_FIT n),
  roD (CYCD.SIDE n),
  roD (CYCD.OP_SAF n),
  roD (CYCD.OP_COL n),
  roD (CYCD.LOCK_GATE n),
  roD (CYCD.CL_OK n),
  roD (CYCD.DCL_L n),
  roD (CYCD.DCL_R n),
  roD (CYCD.LOCKFB n),
  roD (CYCD.STOWED n),
  roD (CYCD.EGR_OP n),
  roD (CYCD.ISOL n),
  roD (CYCD.ISOL_PEND n),
  roD (CYCD.DRAG n),
  roD (CYCD.TMO n),
  roD (CYCD.PAUSE_DONE n),
  roD (CYCD.TH_ACTIVE n),
  roD (CYCD.DWELL_DONE n),
  roD (CYCD.T_IN_STATE_MS n),
  roD (CYCD.CYC_REV_MM n),
  ⟨(CYCD.CYC_RETRY_MAX n), .rw, .any, true, false⟩,
  rwD (CYCD.TH_CLOSE n),
  ⟨(CYCD.CYC_REPAUSE_MS n), .rw, .range 0 10000, true, false⟩,
  ⟨(CYCD.DWELL_MS n), .rw, .range 0 60000, false, false⟩]

/-- Access rows of page CYCD, part 1. -/
def tableCYCD1 (n : Nat) : List Desc := [
  ⟨(CYCD.T_STEP_MS n), .rw, .range 500 20000, true, false⟩,
  ⟨(CYCD.T_UNLOCK_MS n), .rw, .range 100 5000, true, false⟩,
  ⟨(CYCD.T_OPEN_MS n), .rw, .range 1000 20000, true, false⟩,
  ⟨(CYCD.T_CLOSE_MS n), .rw, .range 1000 30000, true, false⟩,
  ⟨(CYCD.T_LOCK_MS n), .rw, .range 100 5000, true, false⟩,
  roD (CYCD.CYC_CNT n),
  roD (CYCD.LIFE_CYC n),
  roD (CYCD.CYC_T_LAST_MS n),
  roD (CYCD.CYC_FLAGS n),
  roD (CYCD.REVERSE_CNT n),
  roD (CYCD.OBSTR_CNT n),
  roD (CYCD.EMERG_CNT n),
  roD (CYCD.REFUSE_CNT n),
  roD (CYCD.TMO_CNT n),
  roD (CYCD.DRAG_CNT n),
  roD (CYCD.ISOL_CNT n),
  roD (CYCD.DEPOT_CNT n),
  roD (CYCD.FORCED_CNT n)]

/-- Access rows of page CYCD. -/
def tableCYCD (n : Nat) : List Desc := tableCYCD0 n ++ tableCYCD1 n

/-- Access rows of page AX, part 0. -/
def tableAX0 (n : Nat) : List Desc := [
  roD (AX.CAP_MQ n),
  roD (AX.CAP_PRF n),
  roD (AX.CAP_SEG n),
  roD (AX.AX_KIND n),
  roD (AX.LEARN n),
  roD (AX.FORCE_TRIP n),
  roD (AX.SW_CLOSED n),
  roD (AX.SW_OPEN n),
  roD (AX.DEV_FAULT n),
  roD (AX.SLIP n),
  roD (AX.HOMING n),
  roD (AX.HOMED n),
  roD (AX.GO_WAIT n),
  roD (AX.COARSE n),
  roD (AX.STO n),
  roD (AX.AT_TARGET n),
  roD (AX.Q_FULL n),
  roD (AX.Q_EMPTY n),
  roD (AX.STOPPING n),
  roD (AX.HOLD n),
  roD (AX.MOVING n),
  roD (AX.TORQUE n),
  ⟨(AX.EL_OFS n), .rw, .any, true, false⟩,
  rwD (AX.TBL_SEL n),
  rwD (AX.STEPPER n),
  ⟨(AX.MODE n), .rw, .enum [0, 1] 0, false, false⟩,
  rwD (AX.TORQUE_REQ n),
  ⟨(AX.AX_CMD n), .wo, .any, false, true⟩,
  ⟨(AX.SPEED n), .rw, .range 16 512, false, false⟩,
  rwD (AX.MQ_GO_WAIT n)]

/-- Access rows of page AX, part 1. -/
def tableAX1 (n : Nat) : List Desc := [
  ⟨(AX.BLEND n), .rw, .enum [0, 1, 2] 0, false, false⟩,
  rwD (AX.PROFILE n),
  ⟨(AX.MQ_TGT_HI n), .rw, .any, false, true⟩,
  ⟨(AX.MQ_TGT_LO n), .rw, .any, false, true⟩,
  roD (AX.RUN_SEG n),
  roD (AX.RUN_PRF n),
  roD (AX.RUN_KIND n),
  roD (AX.MQ_COUNT n),
  roD (AX.STOP_RAMP n),
  roD (AX.STOP_CAUSE n),
  roW (AX.POS_HI n),
  roW (AX.POS_LO n),
  roD (AX.VEL n),
  roW (AX.TGT_HI n),
  roW (AX.TGT_LO n),
  roD (AX.POS_UM n),
  ⟨(AX.AX_SCALE n), .rw, .range 256 4294967295, true, false⟩,
  ⟨(AX.AX_VMAX n), .rw, .range 256 2147418112, true, false⟩,
  ⟨(AX.AX_VLIM_LO_HI n), .rwv, .any, false, true⟩,
  ⟨(AX.AX_VLIM_LO_LO n), .rwv, .any, false, true⟩,
  ⟨(AX.AX_VLIM_HI_HI n), .rwv, .any, false, true⟩,
  ⟨(AX.AX_VLIM_HI_LO n), .rwv, .any, false, true⟩,
  ⟨(AX.I_RUN n), .rwv, .range 0 12000, false, false⟩,
  rwD (AX.AX_HOLD_DELAY n),
  ⟨(AX.AX_HOLD_PCT n), .rw, .range 0 100, false, false⟩,
  ⟨(AX.REV_PRF n), .rw, .any, true, false⟩,
  ⟨(AX.STOP_PRF n), .rw, .any, true, false⟩,
  roD (AX.PRF_VALID n),
  ⟨(AX.PRF_COMMIT n), .wo, .any, false, true⟩,
  roD (AX.ERR_SEG n)]

/-- Access rows of page AX, part 2. -/
def tableAX2 (n : Nat) : List Desc := [
  roD (AX.ERR_REASON n),
  roD (AX.ERR_PRF n),
  ⟨(AX.AX_INTERP n), .rw, .range 1 4096, true, false⟩,
  roD (AX.MQ_DROP_CNT n),
  roD (AX.MQ_FLUSH_CNT n),
  roD (AX.CLAMP_CNT n),
  roD (AX.BLEND_MISS_CNT n),
  roD (AX.CS_DROP_CNT n),
  ⟨(AX.ENC_RATIO n), .rw, .range 4096 16777216, true, false⟩,
  ⟨(AX.MOT_PP n), .rw, .range 1 128, true, false⟩,
  ⟨(AX.ENC_INV n), .rw, .any, true, false⟩,
  roW (AX.MEAS_HI n),
  roW (AX.MEAS_LO n),
  roD (AX.MEAS_VEL n),
  roW (AX.ZCAP_HI n),
  roW (AX.ZCAP_LO n),
  ⟨(AX.AX_DEV_WIN n), .rw, .range 1 65535, false, false⟩,
  ⟨(AX.AX_DEV_N n), .rw, .range 1 255, false, false⟩,
  ⟨(AX.AX_RECAP_WIN n), .rw, .range 1 16777215, false, false⟩,
  ⟨(AX.AX_SLIP_VMAX n), .rw, .range 256 2147418112, false, false⟩,
  roD (AX.DEV_STATE n),
  roD (AX.DEV_CAUSE n),
  roD (AX.DEV_LAST n),
  roD (AX.DEV_E n),
  ⟨(AX.HOME_SPEED n), .rw, .range 16 512, false, false⟩,
  rwD (AX.HOME_PRF n),
  rwD (AX.HOME_MODE n),
  ⟨(AX.HOME_FORCE n), .rw, .range 50 65535, false, false⟩,
  ⟨(AX.HOME_I n), .rw, .range 0 12000, false, false⟩,
  ⟨(AX.HOME_POS_HI n), .rw, .any, false, true⟩]

/-- Access rows of page AX, part 3. -/
def tableAX3 (n : Nat) : List Desc := [
  ⟨(AX.HOME_POS_LO n), .rw, .any, false, true⟩,
  ⟨(AX.HOME_BACKOFF n), .rw, .range 0 1048576, false, false⟩,
  roD (AX.HOME_RESULT n),
  roW (AX.CAP_HI n),
  roW (AX.CAP_LO n),
  roD (AX.SW_BOTH n),
  roD (AX.CAP_SW n),
  roD (AX.RAW_OPEN n),
  roD (AX.RAW_CLOSED n),
  ⟨(AX.SW_MARGIN n), .rw, .range 0 16777215, false, false⟩,
  roD (AX.CHATTER_CNT n),
  roD (AX.LIMIT_CNT n),
  ⟨(AX.MOT_KT n), .rw, .range 1 65535, true, false⟩,
  ⟨(AX.MOT_R n), .rw, .range 1 65535, true, false⟩,
  ⟨(AX.MOT_L n), .rw, .range 1 65535, true, false⟩,
  ⟨(AX.MECH_EFF n), .rw, .range 300 1000, true, false⟩,
  roD (AX.KT_EST n),
  roD (AX.FORCE_EST n),
  roD (AX.FORCE_THR n),
  ⟨(AX.ENV_LEARN_N n), .rw, .range 2 64, false, false⟩,
  roD (AX.LEARN_RUNS n),
  ⟨(AX.ENV_MARGIN n), .rw, .range 50 1000, false, false⟩,
  roD (AX.FLIM_ABS n),
  roD (AX.SQZ_FABS n),
  roD (AX.E_LIM n),
  roD (AX.SQZ_VMAX n),
  roD (AX.REV_MM n),
  roD (AX.V_LIM n),
  roD (AX.MASS_G n),
  roD (AX.DIR_OPEN n)]

/-- Access rows of page AX, part 4. -/
def tableAX4 (n : Nat) : List Desc := [
  roD (AX.SQZ n),
  roD (AX.MASS_VALID n),
  roD (AX.ENV_VALID n),
  roD (AX.TRIP_CAUSE n),
  roD (AX.TRIP_BIN n),
  roD (AX.TRIP_F n),
  roD (AX.REV_AMAX n),
  roD (AX.FORCE_TRIP_CNT n),
  roD (AX.REV_CNT n),
  roD (AX.GAP_MM n),
  roD (AX.GAP_AGE_MS n),
  ⟨(AX.STEP_MAX_MM n), .rw, .range 50 300, false, false⟩,
  ⟨(AX.STEP_GAP_MM n), .rw, .range 10 100, false, false⟩,
  roD (AX.STEP_INFO n),
  roD (AX.GAP_STALE_CNT n),
  roD (AX.SLIP_CNT n),
  roD (AX.DEV_FAULT_CNT n),
  roD (AX.ENC_ERR_CNT n)]

/-- Access rows of page AX. -/
def tableAX (n : Nat) : List Desc := tableAX0 n ++ tableAX1 n ++ tableAX2 n ++ tableAX3 n ++ tableAX4 n

/-- Access rows of page TRV, part 0. -/
def tableTRV0 : List Desc := [
  roD TRV.CAP_AX,
  roD TRV.CAP_TBL,
  roD TRV.CAP_TBL_LEN,
  roD TRV.GO_PENDING,
  roD TRV.ANY_FAULT,
  roD TRV.ANY_STO,
  roD TRV.ANY_MOVING,
  roD TRV.MOVING_MASK,
  roD TRV.STO_MASK,
  ⟨TRV.TRV_GO, .wo, .any, false, true⟩,
  roD TRV.TBL_INUSE,
  roD TRV.TBL_CRC0,
  roD TRV.TBL_CRC1,
  roD TRV.TBL_CRC2,
  roD TRV.TBL_CRC3]

/-- Access rows of page TRV. -/
def tableTRV : List Desc := tableTRV0

/-- Access rows of page LH, part 0. -/
def tableLH0 (n : Nat) : List Desc := [
  roD (LH.CAP_RING n),
  roD (LH.CAP_VER n),
  roD (LH.CAP_GEAR n),
  roD (LH.HEAD_ROLE n),
  roD (LH.LINK_STATE n),
  roD (LH.REJ_CODE n),
  roD (LH.GW_GOOD n),
  roD (LH.HP_SHED n),
  roD (LH.PWR_TRIP n),
  roD (LH.PRESENT n),
  roD (LH.GEAR_LOW n),
  roD (LH.BURST n),
  roD (LH.CAL_OK n),
  roD (LH.ID_OK n),
  roD (LH.LINK_UP n),
  roD (LH.RUN n),
  roD (LH.FRAME_STALE n),
  ⟨(LH.LH_CMD n), .wo, .any, false, true⟩,
  roD (LH.SLOT n),
  roD (LH.HVER n),
  roD (LH.GEAR n),
  roD (LH.MODE n),
  roD (LH.HP_MW n),
  roD (LH.HP_V n),
  roD (LH.HEAD_VENDOR n),
  roD (LH.HEAD_MODEL n),
  roW (LH.HEAD_SER_HI n),
  roW (LH.HEAD_SER_LO n),
  roD (LH.CAL_CRC n),
  roD (LH.FRAME_NO n)]

/-- Access rows of page LH, part 1. -/
def tableLH1 (n : Nat) : List Desc := [
  roD (LH.FRAME_TIME n),
  roD (LH.FRAME_AGE_MS n),
  roD (LH.FRAME_LAT n),
  roD (LH.GW_SENT n),
  roD (LH.GW_REP n),
  roD (LH.GW_RESULT n),
  roD (LH.GW_RUN n),
  roD (LH.GW_MS n),
  roD (LH.FRM_OK_CNT n),
  roD (LH.FRM_CRC_CNT n),
  roD (LH.FRM_INC_CNT n),
  roD (LH.FRM_FULL_CNT n),
  roD (LH.FRM_SKIP_CNT n),
  roD (LH.LINK_LOSS_CNT n),
  roD (LH.TRAIN_CNT n),
  roD (LH.PWR_TRIP_CNT n),
  roD (LH.GW_FAIL_CNT n),
  roD (LH.GW_SIL_CNT n),
  roD (LH.BURST_CNT n)]

/-- Access rows of page LH. -/
def tableLH (n : Nat) : List Desc := tableLH0 n ++ tableLH1 n

/-- Access rows of page LANT, part 0. -/
def tableLANT0 : List Desc := [
  roD LANT.CAP_HEADS,
  roD LANT.CAP_LQ,
  roD LANT.CAP_PART_MB,
  roD LANT.ANY_SHED,
  roD LANT.ANY_DOWN,
  roD LANT.ANY_BURST,
  roD LANT.HP_OK,
  roD LANT.ENG_OK,
  roD LANT.RUN_MASK,
  roD LANT.UP_MASK,
  roD LANT.GOOD_MASK,
  roD LANT.BURST_MASK,
  roD LANT.HP_TOTAL,
  roD LANT.ING_MBPS,
  roD LANT.ENG_FAULT_STAGE,
  roD LANT.HP_SHED_CNT]

/-- Access rows of page LANT. -/
def tableLANT : List Desc := tableLANT0

/-- Access rows of page LVOL, part 0. -/
def tableLVOL0 : List Desc := [
  roD LVOL.CAP_DW,
  roD LVOL.CAP_VOX_MM,
  roD LVOL.CAP_LQ_DEPTH,
  roD LVOL.UNTRUST,
  roD LVOL.THIN,
  roD LVOL.LQ_NE,
  roD LVOL.PINCH_MASK,
  roD LVOL.BURST_REQ_MASK,
  roD LVOL.BG_VALID_MASK,
  roD LVOL.SQZ_MASK,
  ⟨LVOL.LQ_ACK, .wo, .any, false, true⟩,
  ⟨LVOL.BG_CMD, .wo, .any, false, true⟩,
  roD LVOL.BG_STATE,
  ⟨LVOL.BG_LEARN_N, .rw, .range 16 255, true, false⟩,
  ⟨LVOL.BG_STATIC_THR, .rw, .range 1 16, true, false⟩,
  ⟨LVOL.OCC_MIN, .rw, .range 1 64, true, false⟩,
  roD LVOL.LQ_FILL0,
  roD LVOL.LQ_FILL1,
  roD LVOL.LQ_FILL2,
  roD LVOL.LQ_FILL3,
  roD LVOL.LQ_DROP_CNT,
  roD LVOL.PROC_SKIP_CNT,
  roD LVOL.STALE_CNT,
  roD LVOL.SQZ_CNT,
  roD LVOL.PINCH_CNT,
  roD LVOL.THIN_CNT,
  roD LVOL.BG_FAIL_CNT]

/-- Access rows of page LVOL. -/
def tableLVOL : List Desc := tableLVOL0

/-- Access rows of page LVOLD, part 0. -/
def tableLVOLD0 (n : Nat) : List Desc := [
  ⟨(LVOLD.LEAF_Y_MM n), .rw, .range 10 150, true, false⟩,
  ⟨(LVOLD.LEAF_MARGIN_MM n), .rw, .range 0 50, true, false⟩,
  ⟨(LVOLD.LEAF_CFG n), .rw, .enum [0, 1, 2] 0, true, false⟩,
  ⟨(LVOLD.LEAF_ZERO_HI n), .rw, .any, true, true⟩,
  ⟨(LVOLD.LEAF_ZERO_LO n), .rw, .any, true, true⟩,
  ⟨(LVOLD.STEP_ZERO_HI n), .rw, .any, true, true⟩,
  ⟨(LVOLD.STEP_ZERO_LO n), .rw, .any, true, true⟩,
  ⟨(LVOLD.SLAB_AHEAD_MM n), .rw, .range 20 300, true, false⟩,
  ⟨(LVOLD.SLAB_BEHIND_MM n), .rw, .range 0 100, true, false⟩,
  ⟨(LVOLD.SLAB_Y_MM n), .rw, .range 20 300, true, false⟩,
  ⟨(LVOLD.PINCH_VOX n), .rw, .range 1 64, true, false⟩,
  ⟨(LVOLD.SLAB_Z_LO n), .rw, .range 0 2190, true, false⟩,
  ⟨(LVOLD.SLAB_Z_HI n), .rw, .range 10 2200, true, false⟩,
  ⟨(LVOLD.THIN_ARM_MM n), .rw, .range 0 100, true, false⟩,
  ⟨(LVOLD.THIN_Y_MM n), .rw, .range 5 100, true, false⟩,
  ⟨(LVOLD.THIN_N n), .rw, .range 1 8, true, false⟩,
  ⟨(LVOLD.THIN_X_MM n), .rw, .range 10 200, true, false⟩,
  ⟨(LVOLD.THIN_MIN_PTS n), .rw, .range 4 1000, true, false⟩,
  ⟨(LVOLD.GAP_X_MM n), .rw, .range 100 500, true, false⟩,
  ⟨(LVOLD.NOSE_Y0_MM n), .rw, .range 0 300, true, false⟩,
  ⟨(LVOLD.GAP_Z_LO n), .rw, .signed (-1500) (0), true, false⟩,
  ⟨(LVOLD.GAP_Z_HI n), .rw, .signed (0) (1000), true, false⟩,
  roD (LVOLD.UNT_WHY n),
  roD (LVOLD.TRUSTED n),
  roD (LVOLD.SQZ n),
  roD (LVOLD.BURST_REQ n),
  roD (LVOLD.THIN n),
  roD (LVOLD.PINCH_R n),
  roD (LVOLD.PINCH_L n),
  roD (LVOLD.GAP_VALID n)]

/-- Access rows of page LVOLD, part 1. -/
def tableLVOLD1 (n : Nat) : List Desc := [
  roD (LVOLD.THIN_ARMED n),
  roD (LVOLD.CLEAR_L n),
  roD (LVOLD.CLEAR_R n),
  roD (LVOLD.GAP_MM n),
  roD (LVOLD.GAP_COLS n),
  roD (LVOLD.NOISE_J n),
  roD (LVOLD.NOISE_S n)]

/-- Access rows of page LVOLD. -/
def tableLVOLD (n : Nat) : List Desc := tableLVOLD0 n ++ tableLVOLD1 n

/-- Access rows of page GAL, part 0. -/
def tableGAL0 : List Desc := [
  roD GAL.CAP_LIGHT,
  roD GAL.CAP_HEAVY,
  roD GAL.CAP_LOCK,
  roD GAL.CAP_DIRECT,
  roD GAL.ANY_CLAMP_LOCK,
  roD GAL.ANY_TH,
  roD GAL.ANY_OC,
  roD GAL.B_SHED,
  roD GAL.A_SHED,
  roD GAL.B_FAULT,
  roD GAL.A_FAULT,
  roD GAL.B_GND,
  roD GAL.A_GND,
  roD GAL.B_OV,
  roD GAL.A_OV,
  roD GAL.B_REV,
  roD GAL.A_REV,
  roD GAL.B_OK,
  roD GAL.A_OK,
  rwD GAL.GC_ON_LO,
  rwD GAL.GC_ON_HI,
  roD GAL.OUT_LO,
  roD GAL.OUT_HI,
  roD GAL.BLK_LO,
  roD GAL.BLK_HI,
  roD GAL.IA,
  roD GAL.IB,
  roD GAL.IA_MEAN,
  roD GAL.IB_MEAN,
  ⟨GAL.GAL_CMD, .wo, .any, false, true⟩]

/-- Access rows of page GAL, part 1. -/
def tableGAL1 : List Desc := [
  roD GAL.OC_TRIP_CNT,
  roD GAL.RETRY_CNT,
  roD GAL.OC_LOCK_CNT,
  roD GAL.TH_CNT,
  roD GAL.CLAMP_LOCK_CNT,
  roD GAL.CLAMP_OVER_CNT,
  roD GAL.SHED_CNT,
  roD GAL.GATE_CUT_CNT,
  roD GAL.SURGE_CNT,
  roD GAL.BANK_FLT_CNT]

/-- Access rows of page GAL. -/
def tableGAL : List Desc := tableGAL0 ++ tableGAL1

/-- Access rows of page GALC, part 0. -/
def tableGALC0 (n : Nat) : List Desc := [
  ⟨(GALC.INRUSH_MS n), .rw, .range 10 2000, true, false⟩,
  ⟨(GALC.SHED_PRI n), .rw, .any, true, false⟩,
  ⟨(GALC.RETRY_MAX n), .rw, .any, true, false⟩,
  rwD (GALC.FOLLOW n),
  rwD (GALC.FOLLOW_PIN n),
  ⟨(GALC.ILIM n), .rwv, .any, false, false⟩,
  roD (GALC.RETRY_N n),
  roD (GALC.IN_CRAWL n),
  roD (GALC.GATE_SHUT n),
  roD (GALC.SHED n),
  roD (GALC.CLAMP_LOCK n),
  roD (GALC.TH_LATCH n),
  roD (GALC.OC_LOCK n),
  roD (GALC.OC_TRIP n),
  roD (GALC.INRUSH n),
  roD (GALC.OUT n),
  roD (GALC.CMD n),
  roD (GALC.I_MA n),
  roD (GALC.DT n),
  roD (GALC.TJ n),
  roD (GALC.CLAMP_SUM n),
  roD (GALC.CLAMP_LAST n),
  roD (GALC.CH_TRIP_CNT n),
  roD (GALC.CH_CLAMP_CNT n)]

/-- Access rows of page GALC. -/
def tableGALC (n : Nat) : List Desc := tableGALC0 n

/-- Access rows of page CRAWL, part 0. -/
def tableCRAWL0 : List Desc := [
  roD CRAWL.CAP_MAP,
  roD CRAWL.CAP_DIRECT,
  roD CRAWL.MAP_LOADED,
  roD CRAWL.CR_WD,
  roD CRAWL.CR_PIN,
  roD CRAWL.CRAWL_ON,
  ⟨(CRAWL.CRAWL_MAP 0), .rwv, .any, true, false⟩,
  ⟨(CRAWL.CRAWL_MAP 1), .rwv, .any, true, false⟩,
  ⟨(CRAWL.CRAWL_MAP 2), .rwv, .any, true, false⟩,
  ⟨(CRAWL.CRAWL_MAP 3), .rwv, .any, true, false⟩,
  ⟨(CRAWL.CRAWL_MAP 4), .rwv, .any, true, false⟩,
  ⟨(CRAWL.CRAWL_MAP 5), .rwv, .any, true, false⟩,
  ⟨(CRAWL.CRAWL_MAP 6), .rwv, .any, true, false⟩,
  ⟨(CRAWL.CRAWL_MAP 7), .rwv, .any, true, false⟩,
  ⟨(CRAWL.CRAWL_MAP 8), .rwv, .any, true, false⟩,
  ⟨(CRAWL.CRAWL_MAP 9), .rwv, .any, true, false⟩,
  ⟨(CRAWL.CRAWL_MAP 10), .rwv, .any, true, false⟩,
  ⟨(CRAWL.CRAWL_MAP 11), .rwv, .any, true, false⟩,
  roD CRAWL.CR_PINS,
  roD CRAWL.CRAWL_CNT]

/-- Access rows of page CRAWL. -/
def tableCRAWL : List Desc := tableCRAWL0

/-- Access rows of page FIO, part 0. -/
def tableFIO0 : List Desc := [
  roD FIO.CAP_FI,
  roD FIO.CAP_FO,
  roD FIO.CAP_GRP,
  roD FIO.WD_OPEN,
  roD FIO.BARRIER_OK,
  roD FIO.FIO_FAULT,
  roD FIO.FI_LO,
  roD FIO.FI_HI,
  rwD FIO.FO_OUT,
  ⟨FIO.THR, .rw, .any, true, false⟩,
  ⟨FIO.FILT, .rw, .any, true, false⟩,
  ⟨FIO.WAKE_LO, .rw, .any, true, false⟩,
  ⟨FIO.WAKE_HI, .rw, .any, true, false⟩,
  roD FIO.WAKE_FI_V,
  roD FIO.WAKE_FI,
  roD FIO.FAULT_ON_CNT,
  roD FIO.SAG_CNT]

/-- Access rows of page FIO. -/
def tableFIO : List Desc := tableFIO0

/-- Access rows of page CAN, part 0. -/
def tableCAN0 (n : Nat) : List Desc := [
  roD (CAN.CAP_TXQ n),
  roD (CAN.CAP_RXF n),
  roD (CAN.CAP_HPB n),
  roD (CAN.CAP_RAM_KB n),
  roD (CAN.HPB_FULL n),
  roD (CAN.SAFE_CH n),
  roD (CAN.WAKE_EV n),
  roD (CAN.SLEEP n),
  roD (CAN.RECOVERING n),
  roD (CAN.BUS_OFF n),
  roD (CAN.ERR_PASSIVE n),
  roD (CAN.WARN n),
  roD (CAN.TX_FULL n),
  roD (CAN.TX_DONE_NE n),
  roD (CAN.RX_FULL n),
  roD (CAN.RX_NE n),
  roD (CAN.CAP_FSTD n),
  roD (CAN.CAP_FEXT n),
  roD (CAN.CAP_FXL n),
  ⟨(CAN.TX_AREA_BLK n), .rw, .range 32 384, true, false⟩,
  rwD (CAN.TERM n),
  ⟨(CAN.TDC_EN n), .rw, .any, true, false⟩,
  ⟨(CAN.NOMATCH n), .rw, .any, true, false⟩,
  ⟨(CAN.AUTO_REC n), .rw, .any, true, false⟩,
  ⟨(CAN.PEX n), .rw, .any, true, false⟩,
  ⟨(CAN.XL_EN n), .rw, .any, true, false⟩,
  ⟨(CAN.FD_EN n), .rw, .any, true, false⟩,
  ⟨(CAN.MODE n), .rw, .any, true, false⟩,
  ⟨(CAN.N_BRP n), .rw, .any, true, false⟩,
  ⟨(CAN.N_TSEG1 n), .rw, .any, true, false⟩]

/-- Access rows of page CAN, part 1. -/
def tableCAN1 (n : Nat) : List Desc := [
  ⟨(CAN.N_TSEG2 n), .rw, .any, true, false⟩,
  ⟨(CAN.N_SJW n), .rw, .any, true, false⟩,
  ⟨(CAN.D_BRP n), .rw, .any, true, false⟩,
  ⟨(CAN.D_TSEG1 n), .rw, .any, true, false⟩,
  ⟨(CAN.D_TSEG2 n), .rw, .any, true, false⟩,
  ⟨(CAN.D_SJW n), .rw, .any, true, false⟩,
  ⟨(CAN.X_TIMING n), .rw, .any, true, false⟩,
  ⟨(CAN.TDC_OFS_X n), .rw, .any, true, false⟩,
  ⟨(CAN.TDC_OFS_D n), .rw, .any, true, false⟩,
  roD (CAN.TDC_MEAS n),
  roD (CAN.TEC n),
  roD (CAN.REC n),
  roD (CAN.LEC n),
  roD (CAN.ESTATE n),
  ⟨(CAN.CAN_CMD n), .wo, .any, false, true⟩,
  ⟨(CAN.TX_CMD n), .wo, .any, false, true⟩,
  ⟨(CAN.RX_ACK n), .wo, .any, false, true⟩,
  roD (CAN.TX_PEND n),
  roD (CAN.TX_DONE n),
  roD (CAN.TX_ACT_V n),
  roD (CAN.TX_ACT n),
  roD (CAN.HEAD_V n),
  roD (CAN.HEAD_IDX n),
  roD (CAN.RX_LEVEL n),
  roD (CAN.RX_GET n),
  roD (CAN.REC_SEQ n),
  roD (CAN.RX_FREE_BLK n),
  roD (CAN.WAKE_SRC n),
  ⟨(CAN.WUF_RATE n), .rw, .any, true, false⟩,
  ⟨(CAN.WUF_DLC n), .rw, .any, true, false⟩]

/-- Access rows of page CAN, part 2. -/
def tableCAN2 (n : Nat) : List Desc := [
  ⟨(CAN.WUF_IDE n), .rw, .any, true, false⟩,
  ⟨(CAN.WAKE_MODE n), .rw, .enum [0, 1] 0, true, false⟩,
  ⟨(CAN.WUF_ID n), .rw, .any, true, false⟩,
  ⟨(CAN.WUF_MASK n), .rw, .any, true, false⟩,
  ⟨(CAN.WUF_DATA_HI n), .rw, .any, true, true⟩,
  ⟨(CAN.WUF_DATA_LO n), .rw, .any, true, true⟩,
  roD (CAN.TX_OK_CNT n),
  roD (CAN.RX_OK_CNT n),
  roD (CAN.RX_OVF_CNT n),
  roD (CAN.RX_SPACE_CNT n),
  roD (CAN.HPB_SPILL_CNT n),
  roD (CAN.REJECT_CNT n),
  roD (CAN.CANCEL_CNT n),
  roD (CAN.LATE_CNT n),
  roD (CAN.ARB_LOST_CNT n),
  roD (CAN.BUSOFF_CNT n),
  roD (CAN.PASSIVE_CNT n),
  roD (CAN.BIT_ERR_CNT n),
  roD (CAN.STUFF_ERR_CNT n),
  roD (CAN.FORM_ERR_CNT n),
  roD (CAN.ACK_ERR_CNT n),
  roD (CAN.CRC_ERR_CNT n),
  roD (CAN.PEX_CNT n),
  roD (CAN.LWAKE_CNT n)]

/-- Access rows of page CAN. -/
def tableCAN (n : Nat) : List Desc := tableCAN0 n ++ tableCAN1 n ++ tableCAN2 n

/-- Access rows of page ECN, part 0. -/
def tableECN0 : List Desc := [
  roD ECN.CAP_PORTS,
  roD ECN.CAP_TXQ,
  roD ECN.CAP_RXQ,
  roD ECN.B_1G,
  roD ECN.A_1G,
  roD ECN.B_LINK,
  roD ECN.A_LINK,
  roD ECN.RX_NE,
  roD ECN.BYPASS,
  rwD ECN.IP_ADDR,
  roW ECN.MAC_HI,
  roW ECN.MAC_LO,
  rwD (ECN.Q_BASE 0),
  rwD (ECN.Q_BASE 1),
  rwD (ECN.Q_BASE 2),
  rwD (ECN.Q_BASE 3),
  roD (ECN.Q_HEAD 0),
  roD (ECN.Q_HEAD 1),
  roD (ECN.Q_HEAD 2),
  roD (ECN.Q_HEAD 3),
  rwD (ECN.Q_TAIL 0),
  rwD (ECN.Q_TAIL 1),
  rwD (ECN.Q_TAIL 2),
  rwD (ECN.Q_TAIL 3),
  roD ECN.TX_CNT,
  roD ECN.RX_CNT,
  roD ECN.RX_DROP_CNT,
  roD ECN.EGR_DROP_CNT,
  roD ECN.CRC_ERR_CNT,
  roD ECN.FWD_CNT]

/-- Access rows of page ECN, part 1. -/
def tableECN1 : List Desc := [
  roD ECN.LINK_DOWN_CNT,
  roD ECN.BYPASS_CNT]

/-- Access rows of page ECN. -/
def tableECN : List Desc := tableECN0 ++ tableECN1

/-- Access rows of page MVB, part 0. -/
def tableMVB0 : List Desc := [
  roD MVB.CAP_PORTS,
  roD MVB.ANY_STALE,
  roD MVB.LINE_B_OK,
  roD MVB.LINE_A_OK,
  ⟨MVB.MVB_ADDR, .rw, .any, true, false⟩,
  roD MVB.STALE_MASK,
  roD MVB.MF_CNT,
  roD MVB.LINE_A_ERR_CNT,
  roD MVB.LINE_B_ERR_CNT,
  roD MVB.STALE_CNT]

/-- Access rows of page MVB. -/
def tableMVB : List Desc := tableMVB0

/-- Access rows of page LGL, part 0. -/
def tableLGL0 : List Desc := [
  roD LGL.CAP_ADDR,
  roD LGL.ANY_LOST,
  roD LGL.BUSY,
  ⟨LGL.OWN_ADDR, .rw, .range 1 31, true, false⟩,
  rwD LGL.TERM,
  ⟨LGL.BAUD, .rw, .enum [0, 1, 2, 3, 4] 1, true, false⟩,
  ⟨LGL.ROLE, .rw, .any, true, false⟩,
  rwD LGL.POLL_MASK,
  roD LGL.LGL_PRESENT,
  ⟨LGL.REPLY_TMO_MS, .rw, .range 5 100, false, false⟩,
  ⟨LGL.LGL_CMD, .wo, .any, false, true⟩,
  roD LGL.POLL_CNT,
  roD LGL.NOREPLY_CNT,
  roD LGL.LGL_ERR_CNT]

/-- Access rows of page LGL. -/
def tableLGL : List Desc := tableLGL0

/-- Access rows of page ECHO, part 0. -/
def tableECHO0 : List Desc := [
  roD ECHO.CAP_SLOTS,
  roD ECHO.CAP_PALOFT,
  roD ECHO.CAP_LOG,
  roD ECHO.REG_FULL,
  roD ECHO.OWN_CONFLICT,
  roD ECHO.ANY_CONFLICT,
  roD ECHO.CONSIST_VALID,
  roD ECHO.CHG_PENDING,
  roD ECHO.N_PRESENT,
  roD ECHO.N_PALOFT,
  roD ECHO.N_LEGACY,
  roD ECHO.N_EXPECTED,
  roD ECHO.OWN_UNIT,
  ⟨ECHO.ANN_CAN, .rw, .any, true, false⟩,
  roD ECHO.TOPO_CNT,
  ⟨ECHO.ECHO_COMID, .rw, .any, true, false⟩,
  ⟨ECHO.ECHO_GROUP, .rw, .any, true, false⟩,
  ⟨ECHO.CONSIST_COMID, .rw, .any, true, false⟩,
  ⟨ECHO.TCMS_PERIOD_MS, .rw, .range 100 5000, true, false⟩,
  roD ECHO.CHG_WR,
  rwD ECHO.CHG_RD,
  roD ECHO.ANN_TX_CNT,
  roD ECHO.ANN_RX_CNT,
  roD ECHO.NEW_CNT,
  roD ECHO.LOST_CNT,
  roD ECHO.FULL_CNT,
  roD ECHO.CONFLICT_CNT,
  roD ECHO.CONSIST_CNT,
  roD ECHO.MISSING_CNT,
  roD ECHO.FOREIGN_CNT]

/-- Access rows of page ECHO, part 1. -/
def tableECHO1 : List Desc := [
  roD ECHO.CHG_DROP_CNT]

/-- Access rows of page ECHO. -/
def tableECHO : List Desc := tableECHO0 ++ tableECHO1

/-- Access rows of page DVR, part 0. -/
def tableDVR0 : List Desc := [
  roD DVR.CAP_VER,
  roD DVR.ANY_NOVER,
  ⟨DVR.VER_EN, .rw, .range 1 15, true, false⟩,
  roD DVR.MAX_LGL,
  roD DVR.MAX_CAN,
  roD DVR.MAX_ECN,
  ⟨DVR.INFO_MS, .rw, .range 50 1000, false, false⟩,
  rwD DVR.INFO_EN,
  ⟨DVR.MD_COMID_BASE, .rw, .any, true, false⟩,
  ⟨DVR.DVR_SDT, .rw, .any, true, false⟩,
  ⟨DVR.XL_PRIO, .rw, .any, true, false⟩,
  roD DVR.INFO_TX_CNT,
  roD DVR.DVR_BAD_CNT,
  roD DVR.NOVER_CNT]

/-- Access rows of page DVR. -/
def tableDVR : List Desc := tableDVR0

/-- Access rows of page DST, part 0. -/
def tableDST0 : List Desc := [
  roD DST.CAP_RX,
  roD DST.CAP_TX,
  roD DST.CAP_NET,
  roD DST.ANY_UNSYNC,
  roD DST.ONE_NET,
  roD DST.NET_RESTR,
  roD DST.CAN_LOST,
  roD DST.ECN_LOST,
  roD DST.CAN_OK,
  roD DST.ECN_OK,
  roD DST.CFG_OK,
  roD DST.REL_L_TG,
  roD DST.REL_R_TG,
  roD DST.ZS_TG,
  roD DST.OPEN_EN_TG,
  roD DST.INHIBIT_TG,
  roD DST.CLOSE_TG,
  roD DST.OWN_UNIT,
  roD DST.CAN_SEL,
  roD DST.SEQ_WIN,
  roD DST.AGE_MAX_MS,
  roD DST.PERM_HOLD_MS,
  roD DST.NET_TMO_MS,
  roD DST.TCFG_CRC,
  roD DST.LAST_DROP_TYPE,
  roD DST.LAST_DROP,
  roD DST.RX_OK_CNT,
  roD DST.PAIR_CNT,
  roD DST.CRC_ERR_CNT,
  roD DST.FOREIGN_CNT]

/-- Access rows of page DST, part 1. -/
def tableDST1 : List Desc := [
  roD DST.STALE_CNT,
  roD DST.JUMP_CNT,
  roD DST.LATE_CNT,
  roD DST.SINGLE_CNT,
  roD DST.MISMATCH_CNT,
  roD DST.LAPSE_CNT,
  roD DST.NET_LOSS_CNT,
  roD DST.TX_CNT,
  roD DST.TX_LOST_CNT]

/-- Access rows of page DST. -/
def tableDST : List Desc := tableDST0 ++ tableDST1

/-- Access rows of page FLOW, part 0. -/
def tableFLOW0 : List Desc := [
  roD FLOW.CAP_FQ,
  roD FLOW.CAP_CAIRN,
  roD FLOW.CAP_NAND_GIB,
  roD FLOW.CAP_MRAM,
  roD FLOW.EXP_RUN,
  roD FLOW.EXP_DONE,
  roD FLOW.EVID_HOLD,
  roD FLOW.WIPE_RUN,
  roD FLOW.CTR_ONLY,
  roD FLOW.NAND_FAIL,
  roD FLOW.MRAM_FAIL,
  roD FLOW.NAND_ON,
  roD FLOW.FQ_FULL,
  roD FLOW.FIND_BUSY,
  roD FLOW.FLOW_RDY,
  rwD FLOW.NAND_HOLD,
  ⟨FLOW.CLIP_EN, .rw, .any, true, false⟩,
  ⟨FLOW.TRACE_EN, .rw, .any, true, false⟩,
  ⟨FLOW.CLIP_PRE_MS, .rw, .range 0 1000, true, false⟩,
  ⟨FLOW.CLIP_POST_MS, .rw, .range 0 2000, true, false⟩,
  ⟨FLOW.RD_CLASS, .rw, .enum [1, 2, 3, 4, 5, 6] 1, false, false⟩,
  roW FLOW.CL_FIRST_SEQ_HI,
  roW FLOW.CL_FIRST_SEQ_LO,
  roW FLOW.CL_LAST_SEQ_HI,
  roW FLOW.CL_LAST_SEQ_LO,
  roD FLOW.CL_FIRST_POS,
  roD FLOW.CL_LAST_POS,
  roD FLOW.CL_CAP,
  ⟨FLOW.NAREA, .rw, .enum [3, 4, 5, 6] 3, false, false⟩,
  rwD FLOW.NPAGE]

/-- Access rows of page FLOW, part 1. -/
def tableFLOW1 : List Desc := [
  ⟨FLOW.FIND_SEQ_HI, .rw, .any, false, true⟩,
  ⟨FLOW.FIND_SEQ_LO, .rw, .any, false, true⟩,
  ⟨FLOW.FLOW_CMD, .wo, .any, false, true⟩,
  roD FLOW.FIND_CODE,
  roD FLOW.FIND_POS,
  ⟨FLOW.HEV_CODE, .rw, .range 32768 65535, false, false⟩,
  rwD FLOW.HEV_A,
  rwD FLOW.HEV_B,
  ⟨FLOW.HEV_C_HI, .rw, .any, false, true⟩,
  ⟨FLOW.HEV_C_LO, .rw, .any, false, true⟩,
  ⟨FLOW.EXP_ACK_CRC, .wo, .any, false, true⟩,
  ⟨FLOW.EXP_ACK, .wo, .any, false, true⟩,
  roD FLOW.EXP_CHUNK,
  roD FLOW.EXP_TOTAL,
  roW FLOW.SEQ_NOW_HI,
  roW FLOW.SEQ_NOW_LO,
  roD FLOW.EPOCH_NOW,
  roD FLOW.BAD_BLK,
  roD FLOW.FQ0_LEVEL,
  roD FLOW.FQ1_LEVEL,
  roD FLOW.FQ2_LEVEL,
  roD FLOW.FQ3_LEVEL,
  roW FLOW.HOLD_SEQ_HI,
  roW FLOW.HOLD_SEQ_LO,
  roD (FLOW.CAIRN 0),
  roD (FLOW.CAIRN 1),
  roD (FLOW.CAIRN 2),
  roD (FLOW.CAIRN 3),
  roD (FLOW.CAIRN 4),
  roD (FLOW.CAIRN 5)]

/-- Access rows of page FLOW, part 2. -/
def tableFLOW2 : List Desc := [
  roD (FLOW.CAIRN 6),
  roD (FLOW.CAIRN 7),
  roD (FLOW.CAIRN 8),
  roD (FLOW.CAIRN 9),
  roD (FLOW.CAIRN 10),
  roD (FLOW.CAIRN 11),
  roD (FLOW.CAIRN 12),
  roD (FLOW.CAIRN 13),
  roD (FLOW.CAIRN 14),
  roD (FLOW.CAIRN 15),
  roD FLOW.REC_CNT,
  roD FLOW.DISCARD_CNT,
  roD FLOW.CRC_BAD_CNT,
  roD FLOW.FQ0_DROP_CNT,
  roD FLOW.FQ1_DROP_CNT,
  roD FLOW.FQ2_DROP_CNT,
  roD FLOW.FQ3_DROP_CNT,
  roD FLOW.MEM_ERR_CNT,
  roD FLOW.NAND_ERR_CNT,
  roD FLOW.EXP_RETRY_CNT,
  roD FLOW.EXP_LOST_CNT,
  roD FLOW.PARTIAL_CNT]

/-- Access rows of page FLOW. -/
def tableFLOW : List Desc := tableFLOW0 ++ tableFLOW1 ++ tableFLOW2

/-- Access rows of page SVC, part 0. -/
def tableSVC0 : List Desc := [
  roD SVC.CAP_ROLES,
  roD SVC.CAP_VER,
  roD SVC.CAP_BAUD,
  roD SVC.BREAK,
  roD SVC.TOOL_EXP,
  roD SVC.LOCKOUT,
  roD SVC.SESSION,
  roD SVC.BAUD_NOW,
  roD SVC.PROTO,
  roD SVC.ROLE,
  roD SVC.SESS_S,
  rwD SVC.HOST_NOTE,
  roD SVC.LOCK_S,
  roD SVC.LOGIN_OK_CNT,
  roD SVC.LOGIN_FAIL_CNT,
  roD SVC.CMD_CNT,
  roD SVC.CMD_ERR_CNT,
  roD SVC.FRAME_ERR_CNT,
  roD SVC.SESSION_CNT]

/-- Access rows of page SVC. -/
def tableSVC : List Desc := tableSVC0

/-- Access rows of page TEST, part 0. -/
def tableTEST0 : List Desc := [
  roD TEST.CAP_MON,
  roD TEST.CAP_TESTS,
  roD TEST.M_TEST,
  roD TEST.TEST_FAIL,
  roD TEST.TEST_PASS,
  roD TEST.TEST_RUN,
  roD TEST.TEST_CODE,
  roD TEST.TEST_ARG,
  roD TEST.TEST_STEP,
  roD TEST.TEST_RESULT,
  roD TEST.TEST_VAL1,
  roD TEST.TEST_VAL2,
  rwD (TEST.TP_SEL 0),
  rwD (TEST.TP_SEL 1),
  rwD (TEST.TP_SEL 2),
  rwD (TEST.TP_SEL 3),
  rwD (TEST.TP_SEL 4),
  rwD (TEST.TP_SEL 5),
  rwD (TEST.TP_SEL 6),
  rwD (TEST.TP_SEL 7),
  roD TEST.TEST_OWN_DW,
  roD TEST.TEST_RUN_CNT,
  roD TEST.TEST_FAIL_CNT,
  roD TEST.TEST_ABORT_CNT,
  roD TEST.HOST_DISC_CNT]

/-- Access rows of page TEST. -/
def tableTEST : List Desc := tableTEST0

/-- Access rows of page RES, part 0. -/
def tableRES0 : List Desc := [
  roD RES.CAP_DIRECT,
  roD RES.CAP_CSTEP,
  roD RES.CAP_MON,
  roD RES.OWN_DIR_LO,
  roD RES.OWN_DIR_HI,
  roD RES.OWN_CSTEP,
  roD RES.OWN_MON_LO,
  roD RES.OWN_MON_HI,
  rwD RES.HOST_DIR,
  rwD RES.HOST_CSTEP,
  rwD RES.HOST_MON,
  roD RES.LAST_RES,
  roD RES.LAST_WIN,
  roD RES.LAST_LOSE,
  roD RES.RES_CONFLICT_CNT]

/-- Access rows of page RES. -/
def tableRES : List Desc := tableRES0

end Sys2Proof.Machine
end

