-- ==== Sys2Proof/Machine/Registry.lean ====
section
/-! DEFINITION. The Echo registry and its change log, and the Dvorud version in use with each partner (R311, R312, R315 to
R319). -/

namespace Sys2Proof.Machine

/-- Slot states (R318). -/
abbrev esFREE := 0
abbrev esPRESENT := 1
abbrev esLOST := 2
abbrev esEXPECTED := 3
abbrev esFOREIGN := 4

/-- The module's own slot 0x00 (R315): always PRESENT, its evidence always of now (DEDUCED, log 104); it carries CONFLICT with the
identity that claims its address (R318). -/
def ownSlot (s : State) : EchoSlot :=
  { EchoSlot.free with
    st := esPRESENT
    typ := 1
    gen := 1
    unit := s.get DST.OWN_UNIT
    serial := s.get64 SYS.SERIAL_HI SYS.SERIAL_LO
    mask := s.get DVR.VER_EN
    tick := s.tick
    topo := s.get ECHO.TOPO_CNT
    pos := s.echo.pos
    flags := s.get ECHO.OWN_CONFLICT }

/-- A slot of the registry. -/
def State.slot (s : State) (k : Nat) : EchoSlot :=
  if k = 0 then ownSlot s else mapFind EchoSlot.free k s.echo.slots
def State.setSlot (s : State) (k : Nat) (x : EchoSlot) : State :=
  { s with echo := { s.echo with slots := mapPut EchoSlot.free k x s.echo.slots } }

/-- Whether Echo keeps its registry (R316, R326). -/
def echoOn (s : State) : Bool := s.works pgECHO && !s.inRefuge

/-- How many slots below 256 satisfy a condition. -/
def slotCount (s : State) (p : EchoSlot → Bool) : Nat :=
  (s.echo.slots.filter (fun e => p e.2)).length + (if p (ownSlot s) then 1 else 0)

/-- An entry of the change log (R319): a full ring drops it. -/
def logChange (s : State) (k st old gen cause : Nat) : State :=
  let w := s.get ECHO.CHG_WR
  if (w + 1) % 64 = s.get ECHO.CHG_RD then s.countDrop pgECHO ECHO.CHG_DROP_CNT
  else
    let e := (k * 2 ^ 24 + st * 2 ^ 20 + old * 2 ^ 16 + gen % 256 * 2 ^ 8 + cause, s.tick % 2 ^ 32)
    { (s.set ECHO.CHG_WR ((w + 1) % 64)) with echo := { s.echo with log := mapPut (0, 0) w e s.echo.log } }

/-- A slot state entered (R318, R319): logged and counted; generation up at every entry into PRESENT. -/
def slotState (s : State) (k st cause : Nat) : State :=
  let x := s.slot k
  if x.st = st then s
  else
    let gen := if st = esPRESENT then (x.gen + 1) % 256 else x.gen
    let s := s.setSlot k (if st = esFREE then { EchoSlot.free with gen := gen } else { x with
      st := st
      gen := gen
      since := s.tick })
    let s := if st = esPRESENT then s.count ECHO.NEW_CNT
      else if st = esLOST then s.count ECHO.LOST_CNT
      else if st = esFOREIGN then s.count ECHO.FOREIGN_CNT else s
    logChange s k st x.st gen cause

/-- The highest Dvorud version of a carrier (R311). -/
def carrierMax (s : State) (c : Nat) : Nat :=
  if c = 0 then 4
  else if c = 5 then 1
  else if !s.hasCan (c - 1) || !s.on (HDR.EN (pgCAN (c - 1))) then 0
  else if !s.on (CAN.FD_EN (c - 1)) then 2
  else if s.on (CAN.XL_EN (c - 1)) then 4 else 3

/-- The highest version of both masks that a carrier takes, 0 for none (R312). -/
def versionOn (s : State) (mask c : Nat) : Nat :=
  (List.range 4).foldl (fun (v : Nat) i =>
    if s.bit DVR.VER_EN i && bitAt mask i && i + 1 ≤ carrierMax s c then i + 1 else v) 0

/-- The version in use with a partner, and the carrier it is addressed on: the highest, ECN first, then CAN0 to CAN3 (R312). -/
def chooseVersion (s : State) (k : Nat) : State :=
  let x := s.slot k
  let heard := (List.range 6).filter (bitAt x.carriers)
  let (v, c) := heard.foldl (fun (b : Nat × Nat) c => if b.1 < versionOn s x.mask c then (versionOn s x.mask c, c) else b) (0, 0)
  let none1 := maskOf (fun c => bitAt x.carriers c && carrierMax s c != 0 && versionOn s x.mask c = 0) 6
  let fresh := popcount (Nat.land none1 (Nat.xor x.nover 0x3F)) 6
  let s := s.countBy DVR.NOVER_CNT fresh
  s.setSlot k { x with
    ver := v
    car := c
    nover := none1
    flags := putBit x.flags 5 (none1 != 0) }

/-- Whether a slot holds a partner that Dvorud addresses: a unit that is heard. TCMS, heads and the tool are none (R312). -/
def addressed (x : EchoSlot) : Bool := (x.typ = 1 || x.typ = 5) && (x.st = esPRESENT || x.st = esFOREIGN) && x.carriers % 64 != 0

/-- Every partner's version chosen again, while Echo keeps its registry. -/
def versionsAgain (s : State) : State :=
  if echoOn s then eachUpTo 256 (fun s k => if k != 0 && addressed (s.slot k) then chooseVersion s k else s) s else s

/-- A Paloft unit that is heard: PRESENT or FOREIGN. -/
def claims (x : EchoSlot) : Bool := x.typ = 1 && (x.st = esPRESENT || x.st = esFOREIGN)

/-- CONFLICT on every slot whose unit address another identity claims too, our own among them (R318). A new conflict counts. -/
def conflictEval (s : State) (k : Nat) : State :=
  let twin := fun (s : State) (j : Nat) => claims (s.slot j) &&
    anyBelow 256 (fun i => i != j && claims (s.slot i) && (s.slot i).unit = (s.slot j).unit)
  let was := bitAt (s.slot k).flags 0
  let s0 := s
  let s := eachUpTo 256 (fun s j =>
    if j = 0 || bitAt (s.slot j).flags 0 = twin s0 j then s
    else s.setSlot j { s.slot j with flags := putBit (s.slot j).flags 0 (twin s0 j) }) s
  let s := if k != 0 && twin s0 k && !was then s.count ECHO.CONFLICT_CNT else s
  s.setB ECHO.OWN_CONFLICT (anyBelow 256 (fun j => j != 0 && claims (s.slot j) && (s.slot j).unit = s.get DST.OWN_UNIT))

/-- A slot lost (R317). -/
def slotLost (s : State) (k cause : Nat) : State :=
  let x := s.slot k
  if x.st = esPRESENT || x.st = esFOREIGN then conflictEval (slotState s k esLOST cause) k else s

/-- A slot whose holder is known by a link: the heads, the tool, TCMS (R317). -/
def slotLink (s : State) (k typ unit serial carriers : Nat) (here : Bool) (cause : Nat) : State :=
  if !echoOn s then s
  else if here then
    let x := s.slot k
    let s := if x.st = esPRESENT && x.serial != serial then slotState s k esLOST cause else s
    let s := s.setSlot k { s.slot k with
      typ := typ
      unit := unit
      serial := serial
      carriers := carriers
      tick := s.tick }
    slotState s k esPRESENT cause
  else slotLost s k cause

/-- The lowest free dynamic slot (R315). -/
def freeSlot (s : State) : Option Nat := ((List.range 237).map (· + 0x13)).find? (fun k => (s.slot k).st = esFREE)

/-- A partner that cannot be entered (R315). -/
def notEntered (s : State) : State := s.countDrop pgECHO ECHO.FULL_CNT

/-- Whether a Paloft unit or a legacy unit can still be entered: at most 64 Paloft units, this one included (R315). -/
def roomFor (s : State) (typ : Nat) : Option Nat :=
  if typ = 1 && 64 ≤ slotCount s (fun x => x.typ = 1 && x.st != esFREE) then none else freeSlot s

/-- The slot of a Paloft identity: the full serial, or its low 32 bits where one side knows no more (R315). -/
def findUnit (s : State) (serial : Nat) (short : Bool) : Option Nat :=
  (s.echo.slots.find? (fun e => 0x13 ≤ e.1 && e.2.typ = 1 && e.2.st != esFREE && e.2.st != esEXPECTED &&
    (e.2.serial = serial || ((short || bitAt e.2.flags 4) && e.2.serial % 2 ^ 32 = serial % 2 ^ 32)))).map (·.1)

/-- The slot in which a unit address is expected (R320). -/
def findExpected (s : State) (unit : Nat) : Option Nat :=
  (s.echo.slots.find? (fun e => 0x13 ≤ e.1 && e.2.st = esEXPECTED && e.2.unit = unit)).map (·.1)

/-- The slot of a legacy unit: its serial, or its address where the serial is 0 (R315). -/
def findLegacy (s : State) (addr serial : Nat) : Option Nat :=
  (s.echo.slots.find? (fun e => 0x13 ≤ e.1 && e.2.typ = 5 && e.2.st != esFREE &&
    (if serial = 0 then e.2.serial = 0 && e.2.unit = addr else e.2.serial = serial))).map (·.1)

/-- A head enters or leaves RUN (R317). -/
def echoHead (s : State) (h : Nat) : State :=
  slotLink s (1 + h) 2 h (s.get64 (LH.HEAD_SER_HI h) (LH.HEAD_SER_LO h)) (2 ^ 6) (s.on (LH.RUN h) && s.on (LH.ID_OK h)) 4

/-- The service tool logs in or out (R317). -/
def echoTool (s : State) (here : Bool) : State := slotLink s 0x11 4 0 0 (2 ^ 7) here (if here then 1 else 4)

end Sys2Proof.Machine
end

