-- ==== Sys2Proof/Machine/Regs.lean ====
section
/-! DEFINITION. The register interface: which fields a register holds, how a field is read, and how a write is accepted,
clamped, discarded and counted (R75 to R88). A write answers the state and whether it counts in PG_ADJ_CNT. -/

namespace Sys2Proof.Machine

/-- What a write leaves, and whether it was clamped or discarded in any part (R88). -/
abbrev Wrote := State × Bool

/-- Pages on which EN is writable (R78). -/
def enWritable (pg : Nat) : Bool :=
  (0x10 ≤ pg && pg < 0x20) || pg = pgTRV || (0x28 ≤ pg && pg < 0x38) || pg = pgLANT || pg = pgLVOL || pg = pgCYC ||
  pg = pgGAL || pg = pgFIO || (0x50 ≤ pg && pg < 0x54) || pg = pgECN || pg = pgMVB || pg = pgLGL || pg = pgECHO ||
  pg = pgDVR || pg = pgFLOW

/-- Access rows of the common header (R78). DESIGN CHOICE (log 118): PG_CAP has the fields its page's own table gives it; on page
BOOT, whose table (R74) gives none, it is an offset at which no field is defined (R12). -/
def tableHDR (pg : Nat) : List Desc := [
  roD (HDR.BLK_CODE pg), roD (HDR.INST pg), roD (HDR.PAGE pg), roD (HDR.VER_MAJ pg), roD (HDR.VER_MIN pg),
  rwD (HDR.LP_REQ pg), if enWritable pg then rwD (HDR.EN pg) else roD (HDR.EN pg),
  roD (HDR.LOCKED pg), roD (HDR.FAULT pg), roD (HDR.DOM_OFF pg), roD (HDR.LP pg), roD (HDR.RUN pg),
  rwD (HDR.PG_IRQ_EN pg), roD (HDR.PG_IRQ_PEND pg), roD (HDR.PG_FAULT_CNT pg), roD (HDR.PG_DROP_CNT pg),
  roD (HDR.PG_ADJ_CNT pg), roD (HDR.HW_LOCK pg), roD (HDR.SAFE_LOCK pg),
  ⟨HDR.HOST_LOCK pg, .w1, .any, false, false⟩, roD (HDR.PG_VOTE_CNT pg)]

/-- Access rows of the block registers a byte offset of a page can reach. -/
def tableAt (pg off : Nat) : List Desc :=
  if pg = pgSYS then tableSYS
  else if pg = pgPWR then tablePWR
  else if pg = pgCLK then tableCLK
  else if pg = pgBOOT then tableBOOT
  else if pg = pgDRIP then tableDRIP
  else if pg = pgSEAL then tableSEAL
  else if pg = pgSAFM then tableSAFM
  else if pg = pgCOLM then tableCOLM
  else if pg = pgCYC then
    if off < 0x200 then tableCYC else if off < 0x600 then tableCYCD ((off - 0x200) / 0x80) else []
  else if 0x10 ≤ pg && pg < 0x20 then tableAX (pg - 0x10)
  else if pg = pgTRV then tableTRV
  else if 0x28 ≤ pg && pg < 0x38 then tableLH (pg - 0x28)
  else if pg = pgLANT then tableLANT
  else if pg = pgLVOL then
    if off < 0x100 then tableLVOL else if off < 0x300 then tableLVOLD ((off - 0x100) / 0x40) else []
  else if pg = pgGAL then
    if off < 0x100 then tableGAL else if off < 0x700 then tableGALC ((off - 0x100) / 0x20) else []
  else if pg = pgCRAWL then tableCRAWL
  else if pg = pgFIO then tableFIO
  else if 0x50 ≤ pg && pg < 0x54 then tableCAN (pg - 0x50)
  else if pg = pgECN then tableECN
  else if pg = pgMVB then tableMVB
  else if pg = pgLGL then tableLGL
  else if pg = pgECHO then tableECHO
  else if pg = pgDVR then tableDVR
  else if pg = pgDST then tableDST
  else if pg = pgFLOW then tableFLOW
  else if pg = pgSVC then tableSVC
  else if pg = pgTEST then tableTEST
  else if pg = pgRES then tableRES
  else []

/-- The page of an address in the page window, and the offset in it. -/
def pgOf (addr : Nat) : Nat := addr / 0x1000
def offOf (addr : Nat) : Nat := addr % 0x1000

/-- The fields of the register at an aligned address of the page window. -/
def rowsAt (addr : Nat) : List Desc :=
  (if offOf addr < 0x040 then tableHDR (pgOf addr) ++
      (if offOf addr = 0x008 then tableAt (pgOf addr) (offOf addr) else [])
   else tableAt (pgOf addr) (offOf addr)).filter (fun d => d.reg.addr == addr)

/-- Whether the fields at an address belong to an instance the member has (R6, R390). -/
def State.hasInst (s : State) (addr : Nat) : Bool :=
  let pg := pgOf addr
  let off := offOf addr
  if pg = pgCYC && 0x200 ≤ off && off < 0x600 then s.hasDw ((off - 0x200) / 0x80)
  else if pg = pgLVOL && 0x100 ≤ off && off < 0x300 then s.hasDw ((off - 0x100) / 0x40)
  else if pg = pgGAL && 0x100 ≤ off && off < 0x700 then s.hasCh ((off - 0x100) / 0x20)
  else true

/-- The interrupt source register of a page (R82). -/
def irqSrc (pg : Nat) : Nat := pg * 0x1000 + (if pg = pgPWR then 0x044 else 0x040)

/-- The positions of PG_IRQ_EN that hold a single-bit status field of the source register (R82). -/
def irqMask (pg : Nat) : Nat :=
  (rowsAt (irqSrc pg)).foldl (fun m d => if d.acc = .ro && d.reg.w = 1 then m + 2 ^ d.reg.lo else m) 0

/-- The positions that arrays of single-bit fields add to a source register: these fields are kept as one mask here. -/
def irqArrays (pg : Nat) : Nat :=
  (rowsAt (irqSrc pg)).foldl (fun m d =>
    if d.reg = LVOL.UNTRUST || d.reg = LVOL.THIN || d.reg = LVOL.LQ_NE || d.reg = CYC.TMO || d.reg = CYC.OBS ||
       d.reg = CYC.EMG || d.reg = CYC.DRAG || (0x50 ≤ pg && pg < 0x54 && d.reg = CAN.HPB_FULL (pg - 0x50))
    then m + (2 ^ d.reg.w - 1) * 2 ^ d.reg.lo else m) 0

/-- The block code of a page (R76). -/
def blkCode (pg : Nat) : Nat :=
  if pg = pgSYS then 0x5359 else if pg = pgPWR then 0x5057 else if pg = pgCLK then 0x434C
  else if pg = pgBOOT then 0x424F else if pg = pgDRIP then 0x4452 else if pg = pgSEAL then 0x5345
  else if pg = pgSAFM then 0x5341 else if pg = pgCOLM then 0x434F else if pg = pgCYC then 0x4359
  else if pg < 0x20 then 0x4158 else if pg = pgTRV then 0x5452 else if pg < 0x38 then 0x4C48
  else if pg = pgLANT then 0x4C41 else if pg = pgLVOL then 0x4C56 else if pg = pgGAL then 0x4741
  else if pg = pgCRAWL then 0x4352 else if pg = pgFIO then 0x4649 else if pg < 0x54 then 0x4341
  else if pg = pgECN then 0x4543 else if pg = pgMVB then 0x4D56 else if pg = pgLGL then 0x4C47
  else if pg = pgECHO then 0x4548 else if pg = pgDVR then 0x4456 else if pg = pgDST then 0x4453
  else if pg = pgFLOW then 0x464C else if pg = pgSVC then 0x5356 else if pg = pgTEST then 0x5445 else 0x5245

/-- The instance number PG_ID shows (R76). -/
def instOf (pg : Nat) : Nat :=
  if 0x10 ≤ pg && pg < 0x20 then pg - 0x10
  else if 0x28 ≤ pg && pg < 0x38 then pg - 0x28
  else if 0x50 ≤ pg && pg < 0x54 then pg - 0x50
  else 0

/-- The instance counts that follow the member (R7, R390). -/
def State.capVal (s : State) (r : Reg) : Nat :=
  if r = SYS.CAP_D then s.nD else if r = SYS.CAP_S then s.nS else if r = SYS.CAP_H then s.nH
  else if r = SYS.CAP_G then s.nLight + s.nHeavy else if r = SYS.CAP_C then s.nC
  else if r = TRV.CAP_AX || r = SAFM.CAP_AX || r = COLM.CAP_AX then s.nD + s.nS
  else if r = CYC.CAP_DW || r = LVOL.CAP_DW || r = SAFM.CAP_DW || r = COLM.CAP_DW || r = SAFM.CAP_LC then s.nD
  else if r = LANT.CAP_HEADS || r = LANT.CAP_LQ then s.nH
  else if r = GAL.CAP_LIGHT then s.nLight else if r = GAL.CAP_HEAVY then s.nHeavy
  else if r = GAL.CAP_LOCK || r = RES.CAP_CSTEP then s.nD
  else if r = CRAWL.CAP_MAP then s.nLight + s.nHeavy
  else s.get r

/-- A data timing faster than 2 Mbit/s makes TDC_EN read 1 (R283): fewer than 40 CAN clock periods a bit. -/
def tdcForced (s : State) (n : Nat) : Bool :=
  let x := s.get (CAN.X_TIMING n)
  (s.get (CAN.D_BRP n) + 1) * (s.get (CAN.D_TSEG1 n) + s.get (CAN.D_TSEG2 n) + 3) < 40 ||
  (bitsOf x 24 5 + 1) * (bitsOf x 16 5 + bitsOf x 8 4 + 3) < 40

/-- Whether a fault condition of a block is present (R78): the conditions whose onsets count in PG_FAULT_CNT (R391) and that
last in a status bit. An AX page holds its bit itself. -/
def blockFault (s : State) (pg : Nat) : Bool :=
  if pg = pgPWR then s.on PWR.BUS_OV
  else if pg = pgCLK then s.on CLK.CLK_FAIL
  else if pg = pgDRIP then s.on DRIP.TC_FAULT
  else if pg = pgSAFM then s.on SAFM.LATCH
  else if pg = pgCOLM then s.on COLM.LATCH
  else if pg = pgCYC then s.on CYC.TMO
  else if 0x28 ≤ pg && pg < 0x38 then s.on (LH.PWR_TRIP (pg - 0x28))
  else if pg = pgGAL then s.on GAL.A_FAULT || s.on GAL.B_FAULT || s.on GAL.ANY_OC || s.on GAL.ANY_TH
  else if pg = pgFIO then s.on FIO.FIO_FAULT
  else if pg = pgFLOW then s.on FLOW.MRAM_FAIL || s.on FLOW.NAND_FAIL
  else false

/-- Whether an export of the service tool runs (R347). -/
def toolExport (s : State) : Bool := match s.flow.exp with | some e => s.on FLOW.EXP_RUN && e.src = .tool | none => false

/-- The current of a channel (R254, R270): what its load draws is a free value, none flows while it is off. -/
def State.chanMa (s : State) (c : Nat) : Nat := if s.on (GALC.OUT c) then (Config.chanCurrent s.tick c).toNat else 0

/-- Whether the vote over a mirror of page SAFM is still wrong (R84, R230): the safety processor has not written the mirror since. -/
def wrongNow (s : State) (x : Reg × Nat × Nat) : Bool := s.get x.1 = x.2.1 && x.2.2 != x.2.1

/-- What a mirror of page SAFM reads as while its vote is wrong. -/
def wrongShown (s : State) (r : Reg) : Option Nat :=
  (s.saf.wrong.find? (fun x => x.1 = r && wrongNow s x)).map (fun x => x.2.2)

/-- What a field reads as, interrupt pending and the indirect registers apart (R78). -/
def State.fieldVal (s : State) (r : Reg) : Nat :=
  let pg := pgOf r.addr
  if offOf r.addr = 0x008 then s.capVal r
  else if offOf r.addr < 0x040 then
    if r = HDR.BLK_CODE pg then blkCode pg
    else if r = HDR.INST pg then instOf pg
    else if r = HDR.PAGE pg then pg
    else if r = HDR.LOCKED pg then bit1 (s.hwLock pg || s.on (HDR.SAFE_LOCK pg) || s.on (HDR.HOST_LOCK pg))
    else if r = HDR.DOM_OFF pg then bit1 (!s.pageOn pg)
    else if r = HDR.RUN pg then
      bit1 (s.works pg || (0x50 ≤ pg && pg < 0x54 && s.pageOn pg && s.on (CAN.TX_ACT_V (pg - 0x50))))
    else if r = HDR.HW_LOCK pg then bit1 (s.hwLock pg)
    else if r = HDR.FAULT pg then bit1 (s.on r || bitAt s.voteBad pg || blockFault s pg)
    else s.get r
  else if r = SYS.EVID_HOLD then s.get FLOW.EVID_HOLD
  else if r = CLK.CLK_ON then s.clkOn
  else if r = CLK.MEAS_HZ then (if bitAt s.clkOn (s.get CLK.MEAS_SEL) then s.get r else 0)
  else if pg = pgPWR then
    if r = PWR.IL then (Config.battlCurrent s.tick).toNat
    else if r = PWR.ID then (Config.battdCurrent s.tick).toNat
    else if r = PWR.CHOP_E then min (chopSum s) 12000
    else if r = PWR.CHOP_ON_V then chopNow s / 10
    else s.get r
  else if pg = pgSAFM then (wrongShown s r).getD (s.get r)
  else if pg = pgGAL && offOf r.addr < 0x700 && r = GALC.I_MA ((offOf r.addr - 0x100) / 0x20) then s.chanMa ((offOf r.addr - 0x100) / 0x20)
  else if r = TRV.STO_MASK then Nat.land (s.get r) (maskOf s.hasAx 16)
  else if 0x10 ≤ pg && pg < 0x18 && (r = AX.STEP_MAX_MM (pg - 0x10) || r = AX.STEP_GAP_MM (pg - 0x10)) then 0
  else if pg = pgLGL then
    if r = LGL.ANY_LOST then bit1 (Nat.land (s.get LGL.POLL_MASK) (Nat.xor (s.get LGL.LGL_PRESENT) 0xFFFFFFFF) != 0)
    else if r = LGL.BUSY then bit1 (!s.nets.lglQ.isEmpty)
    else s.get r
  else if pg = pgMVB then
    if r = MVB.ANY_STALE then bit1 (s.on MVB.STALE_MASK) else s.get r
  else if pg = pgECN then
    if r = ECN.RX_NE then bit1 (s.nets.rxHeld.any (fun e => e.2 != 0)) else s.get r
  else if pg = pgDRIP then
    if r = DRIP.CAL_HI then calHi s.drip.cal
    else if r = DRIP.CAL_LO then calLo s.drip.cal
    else if r = DRIP.WALL_S then s.wallS
    else if r = DRIP.WALL_SUB then s.wallSub
    else if r = DRIP.TICK_HI then s.tick48 / 2 ^ 32
    else if r = DRIP.TICK_LO then s.tick48 % 2 ^ 32
    else s.get r
  else if 0x50 ≤ pg && pg < 0x54 && r = CAN.TDC_EN (pg - 0x50) then bit1 (s.on r || tdcForced s (pg - 0x50))
  else if pg = pgECHO then
    if r = ECHO.N_PRESENT then min 255 (slotCount s (fun x => x.st = esPRESENT))
    else if r = ECHO.N_PALOFT then slotCount s (fun x => x.typ = 1 && x.st = esPRESENT)
    else if r = ECHO.N_LEGACY then slotCount s (fun x => x.typ = 5 && x.st = esPRESENT)
    else if r = ECHO.N_EXPECTED then slotCount s (fun x => x.st = esEXPECTED)
    else if r = ECHO.REG_FULL then bit1 (freeSlot s).isNone
    else if r = ECHO.ANY_CONFLICT then bit1 (0 < slotCount s (fun x => bitAt x.flags 0))
    else if r = ECHO.CHG_PENDING then bit1 (s.get ECHO.CHG_WR != s.get ECHO.CHG_RD)
    else if r = ECHO.OWN_UNIT then s.get DST.OWN_UNIT
    else s.get r
  else if pg = pgDVR then
    if r = DVR.ANY_NOVER then bit1 (0 < slotCount s (fun x => bitAt x.flags 5))
    else if r = DVR.MAX_CAN then
      carrierMax s 1 + carrierMax s 2 * 16 + carrierMax s 3 * 256 + carrierMax s 4 * 4096
    else s.get r
  else if pg = pgFLOW then
    if r = FLOW.SEQ_NOW_HI then s.flow.seq / 2 ^ 32 % 2 ^ 32
    else if r = FLOW.SEQ_NOW_LO then s.flow.seq % 2 ^ 32
    else if r = FLOW.EPOCH_NOW then s.get DRIP.EPOCH
    else if r = FLOW.FQ0_LEVEL then s.fq0.length
    else if r = FLOW.FQ1_LEVEL then fq1Held s.flow
    else if r = FLOW.FQ2_LEVEL then s.flow.fq2.length
    else if r = FLOW.FQ3_LEVEL then s.flow.fq3.length
    else if r = FLOW.FQ_FULL then bit1 (s.fq0.length = fq0Depth || fq1Held s.flow = 16 || s.flow.fq2.length = 1024 ||
      s.flow.fq3.length = 32)
    else if r = FLOW.WIPE_RUN then bit1 (s.on SYS.LC_WIPE_PEND && (s.lc = lcRETURN || s.lc = lcSCRAP) && !s.on FLOW.EVID_HOLD)
    else s.get r
  else if pg = pgSVC then
    if r = SVC.SESS_S then (if s.on SVC.SESSION then (s.tick + 2 ^ 48 - s.svc.loginAt) % 2 ^ 48 / 32768 % 2 ^ 32 else 0)
    else if r = SVC.TOOL_EXP then bit1 (toolExport s)
    else if r = SVC.LOCK_S then (if s.on SVC.LOCKOUT then (s.svc.lockAt - s.tick + 32767) / 32768 else 0)
    else s.get r
  else s.get r

/-- A register put together from its fields; a write-only field reads 0. -/
def State.regVal (s : State) (addr : Nat) : Nat :=
  (rowsAt addr).foldl (fun v d => if d.acc = .wo then v else v + s.fieldVal d.reg * 2 ^ d.reg.lo) 0

/-- A word read from the page window, indirect registers apart (R6, R12, R82). -/
def State.readWord (s : State) (addr : Nat) : Nat :=
  let pg := pgOf addr
  if !s.hasPage pg || !s.hasInst addr then 0
  else if offOf addr = 0x018 then Nat.land (s.regVal (irqSrc pg)) (s.get (HDR.PG_IRQ_EN pg))
  else s.regVal addr

/-- Whether a host interrupt line is asserted (R82). -/
def State.irqLine (s : State) (pg : Nat) : Bool := s.hasPage pg && s.readWord (pg * 0x1000 + 0x018) != 0

/-- The value a written one becomes by the limits of its field (R86). -/
def clampTo (c : Clamp) (w v : Nat) : Nat :=
  match c with
  | .any => v
  | .range lo hi => clampN lo hi v
  | .signed lo hi => un w (clampI lo hi (sx w v))
  | .enum legal code => if legal.contains v then v else code

/-- The positions of a field that are not reserved (R12): of PG_IRQ_EN those of R82, of X_TIMING those that hold a field in the
layout of 0x050 (R300). -/
def liveBits (r : Reg) (v : Nat) : Nat :=
  if offOf r.addr = 0x014 then Nat.land v (Nat.lor (irqMask (pgOf r.addr)) (irqArrays (pgOf r.addr)))
  else if r = CAN.X_TIMING (instOf (pgOf r.addr)) then Nat.land v 0x1F1F0F0F
  else v

/-- Further limits: HOST_WD_MS takes 0 or 10 to 10000 (R73), and 1 to 4 lie nearer to 0. DESIGN CHOICE (log 121): 5, which is as
near to 0 as to 10, becomes 10. The flag says whether the value changes. -/
def clampMore (r : Reg) (v : Nat) : Nat × Bool :=
  if r = SYS.HOST_WD_MS && 0 < v && v < 5 then (0, true)
  else if r = SYS.HOST_WD_MS && 0 < v && v < 10 then (10, true)
  else (v, false)

/-- Whether a lock, the life-cycle state or an earlier write of a W1 field keeps a field as it is (R87). SAFE_LOCK freezes
the fields R296 names: the configuration of a CAN controller and its enables. -/
def State.frozen (s : State) (src : Src) (d : Desc) : Bool :=
  let pg := pgOf d.reg.addr
  (s.hwLock pg && !(d.reg = SYS.HOST_RDY && src = .host && !s.inRefuge)) ||
  (d.lock && s.on (HDR.HOST_LOCK pg)) ||
  (d.acc = .w1 && s.fixed.contains d.reg.key) ||
  d.acc = .ro

/-- How a family narrows what its fields accept: whether a field takes a write now, and what a value becomes. -/
abbrev Rules := (State → Desc → Bool) × (State → Desc → Nat → Nat)

/-- Fields with no rule of their own. -/
def plainRules : Rules := (fun _ _ => true, fun _ _ v => v)

/-- One field of a write (R84, R86, R87): a field that cannot take it keeps its value, which counts only if the write
would change it; a W1 field is fixed by the first write that reaches it. What a field accepts is judged by the state before
the write, `s0`. -/
def storeField (ru : Rules) (src : Src) (s0 : State) (d : Desc) (x : Nat) (s : State) : Wrote :=
  let v := liveBits d.reg x
  if s0.frozen src d || !ru.1 s0 d then (s, v != s.fieldVal d.reg)
  else
    let v1 := clampTo d.clamp d.reg.w v
    let (v2, adj2) := clampMore d.reg v1
    let v3 := ru.2 s0 d v2
    let s1 := s.set d.reg v3
    (if d.acc = .w1 then { s1 with fixed := d.reg.key :: s1.fixed } else s1, v1 != v || adj2 || v3 != v2)

/-- The word of a write merged into the register (R88): bits the access does not carry keep what the register reads as. -/
def State.merged (s : State) (w : Wr) : Nat :=
  Nat.lor (Nat.land w.val w.mask) (Nat.land (s.regVal w.addr) (Nat.xor w.mask 0xFFFFFFFF))

/-- The fields of a register in turn. -/
def storeFields (ru : Rules) (w : Wr) (full : Nat) (s0 : State) : List Desc → Wrote → Wrote
  | [], r => r
  | d :: ds, (s, adj) =>
    let v := bitsOf full d.reg.lo d.reg.w
    let (s1, a1) := if d.acc = .ro || d.acc = .wo then (s, false) else storeField ru w.src s0 d v s
    storeFields ru w full s0 ds (s1, adj || a1)

/-- A write into a register of the page window that has no behaviour beyond storing (R12, R88): bits that no field holds are
ignored; a register that holds fields and no writable one takes nothing and counts any write, nor does a read-only bit through
the alias window take one (R85). -/
def storeWord (ru : Rules) (s : State) (w : Wr) : Wrote :=
  let rows := (rowsAt w.addr).filter (fun d => bitsOf w.mask d.reg.lo d.reg.w != 0)
  if rows.isEmpty then (s, w.odd || (!w.viaAlias && !(rowsAt w.addr).isEmpty && (rowsAt w.addr).all (·.acc = .ro)))
  else if (w.mask != 0xFFFFFFFF || w.odd) && (rowsAt w.addr).any (·.whole) then (s, true)
  else if (if w.viaAlias then rows else rowsAt w.addr).all (·.acc = .ro) then (s, true)
  else
    let (s1, adj) := storeFields ru w (s.merged w) s rows (s, false)
    (s1, adj || w.odd)

/-- Count a write that was clamped or discarded in any part, once, on its page (R88). -/
def counted (pg : Nat) (r : Wrote) : State := if r.2 then r.1.adj pg else r.1

/-- What is staged for a 64-bit value (R83), by the address of its high word. -/
def State.staged (s : State) (addr : Nat) : Option Nat := mapFind none addr s.stage

/-- A stage ended (R83). -/
def State.unstage (s : State) (addr : Nat) : State := { s with stage := mapDel addr s.stage }

/-- What a write stored earlier to an address asked for falls to a later write there that acts at once (R77). -/
def State.undefer (s : State) (addr : Nat) : State := { s with deferred := s.deferred.filter (fun x => x.addr != addr) }

/-- A write of the high word: staged, or discarded where the field cannot take it (R83). -/
def wideHigh (ru : Rules) (s : State) (src : Src) (hi : Desc) (v : Nat) : Wrote :=
  if s.frozen src hi || !ru.1 s hi then (s, v != s.get hi.reg)
  else ({ s with stage := mapPut none hi.reg.addr (some v) s.stage }, false)

/-- A write of the low word: applies both halves and ends the stage, or discards both (R83). -/
def wideLow (ru : Rules) (s : State) (src : Src) (hi lo : Desc) (v : Nat) : Wrote :=
  let h := (s.staged hi.reg.addr).getD (s.get hi.reg)
  let s0 := s.unstage hi.reg.addr
  if s.frozen src lo || !ru.1 s lo then (s0, h != s.get hi.reg || v != s.get lo.reg)
  else ((s0.set hi.reg h).set lo.reg v, false)

/-- The service tool and the host have pairs of their own (R90). -/
def pairKey (pg : Nat) (src : Src) : Nat := pg * 2 + (match src with | .host => 0 | .tool => 1)
def State.pair (s : State) (pg : Nat) (src : Src) : IndPair := mapFind IndPair.init (pairKey pg src) s.inds
def State.setPair (s : State) (pg : Nat) (src : Src) (p : IndPair) : State :=
  { s with inds := mapPut IndPair.init (pairKey pg src) p s.inds }

/-! Shared resources (R91, R92). Owner codes: 0 free, 1 safety, 2 Traverse, 3 Crawl, 4 Gallery following, 5 host,
6 TEST. -/

/-- The rank of an owner code: a smaller number goes first. TEST ranks before the host's general use (R372). -/
def ownRank (o : Nat) : Nat := match o with | 1 => 0 | 2 => 1 | 3 => 2 | 4 => 3 | 6 => 4 | 5 => 5 | _ => 9

/-- The field that holds the owner of resource `i` of a class: 0 DIRECT, 1 CSTEP, 2 monitor. -/
def ownReg (cls i : Nat) : Reg :=
  if cls = 0 then (if i < 8 then RES.OWN_DIR_LO else RES.OWN_DIR_HI)
  else if cls = 1 then RES.OWN_CSTEP
  else (if i < 8 then RES.OWN_MON_LO else RES.OWN_MON_HI)

/-- The owner of a resource. -/
def State.owner (s : State) (cls i : Nat) : Nat := bitsOf (s.get (ownReg cls i)) (4 * (i % 8)) 4

/-- Record the owner of a resource. -/
def State.setOwner (s : State) (cls i o : Nat) : State :=
  let v := s.get (ownReg cls i)
  s.set (ownReg cls i) (v - bitsOf v (4 * (i % 8)) 4 * 2 ^ (4 * (i % 8)) + o * 2 ^ (4 * (i % 8)))

/-- A conflict: the loser is counted once in its function's page and in RES_CONFLICT_CNT (R91). -/
def State.conflict (s : State) (cls i win lose pg : Nat) : State :=
  ((((s.set RES.LAST_RES (cls * 64 + i)).set RES.LAST_WIN win).set RES.LAST_LOSE lose).count RES.RES_CONFLICT_CNT).adj pg

/-- The page on which an owner's losses count. -/
def ownerPage (cls i o : Nat) : Nat := match o with
  | 1 => pgSAFM | 2 => pgAX i | 3 => pgCRAWL | 4 => pgGAL | 5 => pgRES | 6 => pgTEST | _ => if cls = 1 then pgAX i else pgRES

/-- A claim (R91): granted on a free resource or over a lower rank, whose holder loses it; refused otherwise. The flag
says whether it was granted; the number is the code of the owner that lost the resource, 0 for none. -/
def State.claim (s : State) (cls i o : Nat) : State × Bool × Nat :=
  let h := s.owner cls i
  if h = 0 then (s.setOwner cls i o, true, 0)
  else if h = o then (s, true, 0)
  else if ownRank o < ownRank h then ((s.setOwner cls i o).conflict cls i o h (ownerPage cls i h), true, h)
  else (s.conflict cls i h o (ownerPage cls i o), false, 0)

/-- A release: the resource becomes free if `o` owns it (R91). -/
def State.release (s : State) (cls i o : Nat) : State := if s.owner cls i = o then s.setOwner cls i 0 else s

end Sys2Proof.Machine
end

