-- ==== Sys2Proof/Machine/Axis.lean ====
section
/-! DEFINITION. One axis: its limits, queue and status registers, stops and decelerations, deviation faults, torque
removal, homing, the models of force and mass, the envelope (R97, R103 to R116, R119 to R141). Traverse.lean runs the
update over these. -/

namespace Sys2Proof.Machine

/-- The virtual limits (R114). -/
def vlimLo (s : State) (n : Nat) : Int := s.getS64 (AX.AX_VLIM_LO_HI n) (AX.AX_VLIM_LO_LO n)
def vlimHi (s : State) (n : Nat) : Int := s.getS64 (AX.AX_VLIM_HI_HI n) (AX.AX_VLIM_HI_LO n)

/-- The target of the running or last move. -/
def axTgt (s : State) (n : Nat) : Int := s.getS64 (AX.TGT_HI n) (AX.TGT_LO n)

/-- The virtual limit in the direction of `v`, and the nearer of two bounds in that direction (R108). -/
def dirBound (s : State) (n : Nat) (v : Int) : Ratio := if v < 0 then .int (vlimLo s n) else .int (vlimHi s n)
def nearer (v : Int) (a b : Ratio) : Ratio := if v < 0 then a.max b else a.min b

/-- The measured position of the latest sample, in 1/65536 addresses. -/
def Axis.measured (a : Axis) : Int := a.meas.headD 0

/-- The measured velocity: the change over 16 updates, divided by 16 (R119). DESIGN CHOICE: while fewer than 17 samples
exist, the oldest one stands for the sample 16 updates ago (log 99). DESIGN CHOICE (log 130): the quotient is taken towards zero. -/
def Axis.measVel (a : Axis) : Int := Int.tdiv (a.measured - a.meas.getD 16 (a.meas.getLastD 0)) 16

/-- Commanded position and velocity into POS, VEL and POS_UM (R97); `MOVING` and what shows the queue and the running
motion; the masks of page TRV (R117, R118). DESIGN CHOICE (log 122): the integer part of a negative position is taken downward. -/
def axShow (s : State) (n : Nat) : State :=
  let a := s.ax n
  let moving := a.run.isSome || a.vel != 0
  let um := Int.tdiv (a.pos * (s.get (AX.AX_SCALE n) : Nat)) 4294967296
  let kind := match a.run with | some tr => tr.kind | none => if s.on (AX.COARSE n) && s.on (AX.TORQUE n) && a.vel != 0 then 3 else 0
  let s := s.set64 (AX.POS_HI n) (AX.POS_LO n) (a.pos / 65536)
  let s := s.setS (AX.VEL n) a.vel
  let s := s.set (AX.POS_UM n) (un 32 (clampI (-2147483647) 2147483647 um))
  let s := s.setB (AX.MOVING n) moving
  let s := s.setB (AX.AT_TARGET n) (a.moved && !moving && a.pos = axTgt s n * 65536)
  let s := s.set (AX.MQ_COUNT n) a.queue.length
  let s := s.setB (AX.Q_EMPTY n) a.queue.isEmpty
  let s := s.setB (AX.Q_FULL n) (8 ≤ a.queue.length)
  let s := s.setB (AX.GO_WAIT n) (match a.queue with | e :: _ => e.goWait | [] => false)
  let s := s.set (AX.RUN_KIND n) kind
  let s := s.set (AX.RUN_PRF n) (match a.run with | some tr => tr.prf | none => 0)
  let s := s.set (AX.RUN_SEG n) (match a.run with | some tr => tr.seg | none => 0)
  let s := s.setB (AX.DIR_OPEN n) (a.reversing || 0 < a.vel)
  let s := s.setB (HDR.FAULT (pgAX n)) (s.on (AX.DEV_FAULT n) || s.on (AX.SW_BOTH n) || bitAt s.voteBad (pgAX n))
  let s := s.setBit TRV.MOVING_MASK n moving
  let s := s.setBit TRV.STO_MASK n (s.on (AX.STO n))
  let s := s.setB TRV.ANY_MOVING (s.on TRV.MOVING_MASK)
  let s := s.setB TRV.ANY_STO (Nat.land (s.get TRV.STO_MASK) (maskOf s.hasAx 16) != 0)
  let s := s.setB TRV.ANY_FAULT (anyBelow 16 (fun k => s.on (HDR.FAULT (pgAX k))))
  let s := s.setB TRV.GO_PENDING (anyBelow 16 (fun k => s.on (AX.GO_WAIT k)))
  s.set TRV.TBL_INUSE (maskOf (fun t => anyBelow 16 (fun k => s.on (AX.TORQUE k) && s.get (AX.TBL_SEL k) = t)) 4)

/-- Put an axis back and show it. -/
def putAx (s : State) (n : Nat) (a : Axis) : State := axShow (s.setAx n a) n

/-- Ask Traverse for something at the next update (R93). -/
def axAsk (s : State) (n : Nat) (r : Req) : State :=
  let a := s.ax n
  s.setAx n { a with reqs := a.reqs ++ [r] }

/-- Discard every queued entry, each counted (R107). -/
def axFlush (s : State) (n : Nat) : State :=
  let a := s.ax n
  let s := (s.countBy (AX.MQ_FLUSH_CNT n) a.queue.length).countBy (HDR.PG_DROP_CNT (pgAX n)) a.queue.length
  putAx s n { a with queue := [] }

/-- Whether the axis is at rest: no motion, velocity 0. -/
def Axis.atRest (a : Axis) : Bool := a.run.isNone && a.vel = 0

/-- A target inside the virtual limits; a clamp counts in CLAMP_CNT and as an adjusted access (R103). While a limit of
R126 holds, a target beyond its CAP becomes CAP, counted in CLAMP_CNT. -/
def axTarget (s : State) (n : Nat) (t : Int) : State × Int × Bool :=
  let t1 := max (vlimLo s n) (min t (vlimHi s n))
  let s := if t1 = t then s else s.count (AX.CLAMP_CNT n)
  let a := s.ax n
  let t2 := if bitAt a.limits 0 && t1 < a.limitLo then a.limitLo
    else if bitAt a.limits 1 && a.limitHi < t1 then a.limitHi else t1
  (if t2 = t1 then s else s.count (AX.CLAMP_CNT n), t2, t1 != t)

/-- Whether pushes, HOME, LEARN and STEP_OUT are refused: a deviation fault (R123). -/
def axFaulted (s : State) (n : Nat) : Bool := s.on (AX.DEV_FAULT n)

/-- Where a push at this update stands beside the entry of the doorway into its state: after an entry made in the same
update (R196). -/
def bornNow (s : State) (n : Nat) : Nat :=
  if n < 8 && (s.dw n).entryUpd = (s.ax n).upd then (s.ax n).upd + 1 else (s.ax n).upd

/-- The entry in the staging registers (R103). -/
def axStaged (s : State) (n : Nat) : Entry :=
  ⟨s.getS64 (AX.MQ_TGT_HI n) (AX.MQ_TGT_LO n), s.get (AX.PROFILE n), s.get (AX.SPEED n), s.get (AX.BLEND n),
    s.on (AX.MQ_GO_WAIT n), 0, none, bornNow s n⟩

/-- PUSH (R103, R110): the staged entry joins the queue; a REPLACE entry flushes the queue first. DESIGN CHOICE (log 123): the target
is clamped, and the clamp counted, only of a push that is neither discarded nor dropped. -/
def axPush (s : State) (n : Nat) (e : Entry) : Wrote :=
  if s.get (AX.MODE n) = 1 || axFaulted s n || s.on (AX.SW_BOTH n) || !s.bit (AX.PRF_VALID n) e.prf then (s, true)
  else
    let s := if e.blend = 2 then axFlush s n else s
    let a := s.ax n
    if 8 ≤ a.queue.length then (s.countDrop (pgAX n) (AX.MQ_DROP_CNT n), false)
    else
      let (s, t, adj) := axTarget s n e.target
      let a := s.ax n
      (putAx s n { a with queue := a.queue ++ [{ e with target := t }] }, adj)

/-- REVERSE (R111): the clamped target and the speed go to Traverse, which runs REV_PRF. DEDUCED: it is discarded while the
axis follows coarse input or REV_PRF is not valid, as a push would be (log 13). -/
def axReverse (s : State) (n : Nat) : Wrote :=
  if s.get (AX.MODE n) = 1 || !s.bit (AX.PRF_VALID n) (s.get (AX.REV_PRF n)) then (s, true)
  else
    let (s, t, adj) := axTarget s n (s.getS64 (AX.MQ_TGT_HI n) (AX.MQ_TGT_LO n))
    (axAsk s n (.reverse t (s.get (AX.SPEED n))), adj)

/-- A deceleration along the part of the running profile (R108), or of STOP_PRF where that part is not enterable (R110).
The number is the code of STOP_RAMP. -/
def decelPart (s : State) (n : Nat) (a : Axis) (tr : Traj) : Traj × Nat :=
  if (knotAt tr.knots tr.dec).v.isZero then
    (mkDecel (s.get (AX.STOP_PRF n)) (prfHdr s n (s.get (AX.STOP_PRF n))).2 (prfPart s n (s.get (AX.STOP_PRF n)) a.vel)
      a.pos a.vel (dirBound s n a.vel) none tr.entry, 0)
  else (mkDecel tr.prf (tr.seg0 + tr.dec) (partFrom tr.knots tr.dec) a.pos a.vel
    (nearer a.vel (dirBound s n a.vel) (.int tr.target)) none tr.entry, 1)

/-- A deceleration along the running profile: its remaining segments once it decelerates, else its part (R110). -/
def decelRunning (s : State) (n : Nat) (a : Axis) (tr : Traj) : Traj × Nat :=
  if tr.inDec then ({ tr with kind := 2 }, 3) else decelPart s n a tr

/-- A deceleration along the part of profile `q` (R108). -/
def decelProfile (s : State) (n : Nat) (a : Axis) (q : Nat) (amax : Option Ratio) (e : Entry) : Traj :=
  mkDecel q (prfHdr s n q).2 (prfPart s n q a.vel) a.pos a.vel (dirBound s n a.vel) amax e

/-- An entry that carries nothing out, and names no profile. -/
def Entry.nothing : Entry := ⟨0, 32, 0x100, 0, false, 0, none, 0⟩

/-- The stop of R109, or the deceleration of a reversal, along profile `q` with code `code`: the remaining segments of a
motion that already decelerates go first where they are no longer. -/
def chooseDecel (s : State) (n : Nat) (a : Axis) (q code : Nat) (amax : Option Ratio) : Traj × Nat :=
  match a.run with
  | none => (decelProfile s n a q amax Entry.nothing, code)
  | some tr =>
    let d := decelProfile s n a q amax tr.entry
    let p := fromFix16 a.pos
    if tr.inDec && (tr.end.sub p).abs.le (d.end.sub p).abs then ({ tr with kind := 2 }, 3) else (d, code)

/-- Record a stop. -/
def stopInfo (s : State) (n cause ramp : Nat) : State :=
  ((s.set (AX.STOP_CAUSE n) cause).set (AX.STOP_RAMP n) ramp).setB (AX.STOPPING n) true

/-- STO of an axis; a removal is kept for the next update, however soon the enables return (R112). -/
def stoPut (s : State) (n : Nat) (sto : Bool) : State :=
  let s := if sto && !s.on (AX.STO n) then s.setAx n { s.ax n with cut := true } else s
  axShow (s.setB (AX.STO n) sto) n

/-- A torque removal, or the end of one, on every axis: STO shows whether every enable is present (R112). -/
def stoSync (s : State) : State :=
  eachAx (fun s n => stoPut s n (!(s.bit COLM.TEN_MASK n && s.bit SAFM.TQ_PERMIT n && s.domOn 9 && !s.bit CLK.CLK_FAIL 9))) s

/-- End a homing: HOMING clears, the result is recorded (R130). -/
def homeEnd (s : State) (n code : Nat) : State :=
  let a := s.ax n
  ((s.setB (AX.HOMING n) false).set (AX.HOME_RESULT n) code).setAx n { a with phase := .none, homeRef := none }

/-- End a STEP_OUT: STEP_INFO records the cause, codes 2 to 5 as an EVENT (R140). -/
def stepEnd (s : State) (n code : Nat) : State :=
  let a := s.ax n
  let s := if code = 4 && !a.gapLate then s.count (AX.GAP_STALE_CNT n) else s
  let s := (s.set (AX.STEP_INFO n) code).setAx n { a with stepOut := false, gapStop := false }
  let s := s.setDw (n - 8) { s.dw (n - 8) with stepEnd := true, gapEnd := s.get (AX.GAP_MM n), infoEnd := code }
  if 2 ≤ code then s.event (pgAX n) n 0x0012 code (s.get (AX.GAP_MM n)) (un 64 (a.measured / 65536)) else s

/-- A deviation fault at the deviation `e`: recorded, counted, stopped with cause 0x2 (R123). -/
def devFault (s : State) (n cause : Nat) (e : Int) : State :=
  let a := s.ax n
  let s := ((s.setB (AX.DEV_FAULT n) true).set (AX.DEV_CAUSE n) cause).set (AX.DEV_STATE n) 3
  let s := s.setSat (AX.DEV_LAST n) (e.natAbs / 65536)
  let s := s.countFault (pgAX n) (AX.DEV_FAULT_CNT n)
  let s := s.event (pgAX n) n 0x0010 cause (s.get (AX.DEV_LAST n)) (un 64 (a.measured / 65536))
  let s := s.setAx n { s.ax n with devN := 0, devAt := none }
  axShow (axAsk s n (.stop 2)) n

/-- The encoder is lost (R120): a deviation fault with cause 0x02, HOMED clears, the safety processor withholds the permits
of the axis (R230). -/
def encoderLost (s : State) (n : Nat) : State :=
  let a := s.ax n
  if a.encLost then s
  else
    let s := s.setAx n { a with encLost := true, overN := 0, f1 := 0, f2 := 0 }
    let s := (s.setB (AX.HOMED n) false).set (AX.FORCE_EST n) 0
    devFault (s.setBit SAFM.ENC_HOLD n true) n 2 (a.pos - a.measured)

/-- π, as close as the fractions here need it. -/
def piR : Ratio := mkRatio 3141592653589793 1000000000000000

/-- The travel per motor revolution in µm: λ = MOT_PP × 4096 × AX_SCALE (R131). -/
def lambdaUm (s : State) (n : Nat) : Ratio := mkRatio (s.get (AX.MOT_PP n) * 4096 * s.get (AX.AX_SCALE n) : Nat) 65536

/-- Motor force per mA of torque current, in mN: KT × 2π / λ (R131). -/
def forcePerMa (s : State) (n : Nat) : Ratio :=
  (((Ratio.int 200).mul piR).mul (.int (s.get (AX.KT_EST n) : Nat))).div (lambdaUm s n)

/-- The bin of a measured position in 1/65536 addresses (R133). -/
def envBin (s : State) (n : Nat) (pos : Int) : Nat :=
  let lo := vlimLo s n
  let w := max 1 ((vlimHi s n - lo + 1) / 256)
  (clampI 0 255 ((pos / 65536 - lo) / w)).toNat

/-- Envelope and friction of a bin, 0.1 N: direction 0 opening, 1 closing (R142). -/
def envE (s : State) (n d b : Nat) : Int := sx 16 (s.rd16 (pgAX n) 2 (d * 0x400 + b * 4))
def envF (s : State) (n d b : Nat) : Int := sx 16 (s.rd16 (pgAX n) 2 (d * 0x400 + b * 4 + 2))
/-- The envelope as it stood at the end of learning (R134), and whether a learning sample fell into the bin. -/
def envE0 (s : State) (n d b : Nat) : Int := sx 16 (s.rd16 (pgAX n) 15 (d * 0x400 + b * 4))
def envSeen (s : State) (n d b : Nat) : Bool := s.rd16 (pgAX n) 15 (d * 0x400 + b * 4 + 2) = 1

/-- Write a bin. -/
def envPut (s : State) (n d b : Nat) (e f : Int) : State :=
  (s.wr16 (pgAX (n % 16)) 2 (d * 0x400 + b * 4) (un 16 (satS 16 e))).wr16 (pgAX (n % 16)) 2 (d * 0x400 + b * 4 + 2) (un 16 (satS 16 f))

/-- The smallest friction learned in the closing direction over bins below `k`; none where none of them is learned. -/
def minFriction (s : State) (n : Nat) : Nat → Option Int
  | 0 => none
  | k + 1 =>
    if envSeen s n 1 k then
      some (match minFriction s n k with | some f => min f (envF s n 1 k) | none => envF s n 1 k)
    else minFriction s n k

/-- The torque-limited deceleration in mm/s² (R139): 12 A through the mechanism, plus the least closing friction, over the
mass. -/
def revAmax (s : State) (n : Nat) : Ratio :=
  let m : Nat := if s.on (AX.MASS_VALID n) then max 1 (s.get (AX.MASS_G n)) else 120000
  let f := (((Ratio.int 12000).mul (forcePerMa s n)).mul (mkRatio (s.get (AX.MECH_EFF n)) 1000))
  let f := if s.on (AX.ENV_VALID n) then f.add (.int (100 * (minFriction s n 256).getD 0)) else f
  (f.mul (.int 1000)).div (.int m)

/-- The same in addresses per update². -/
def revAmaxAddr (s : State) (n : Nat) : Ratio :=
  ((revAmax s n).mul (.int 1000)).mul (mkRatio 65536 (s.get (AX.AX_SCALE n) * 400000000))

/-- The absolute limit in force, 0.1 N (R135, R137). -/
def forceCap (s : State) (n : Nat) : Int :=
  if s.on (AX.SQZ n) then min (s.get (AX.FLIM_ABS n)) (s.get (AX.SQZ_FABS n)) else s.get (AX.FLIM_ABS n)

/-- The trip threshold in force, 0.1 N (R135); homing suspends the envelope (R127). -/
def forceThr (s : State) (n : Nat) (dir : Nat) : Int :=
  if s.on (AX.ENV_VALID n) && !s.on (AX.LEARN n) && !s.on (AX.HOMING n) then
    min (envE s n dir (envBin s n (s.ax n).measured) + s.get (AX.ENV_MARGIN n)) (forceCap s n)
  else forceCap s n

/-- The derived readings of an axis: threshold, speed ceiling, torque-limited deceleration (R135, R138, R139). DEDUCED: V_LIM
is 'the ceiling in force' and so shows that of Squeeze while SQZ is 1 (R142); the deceleration is rounded to the nearest
unit, as the example of R139 reads 3434 for 3433.75 (log 114). DESIGN CHOICE (log 126): at rest FORCE_THR shows the threshold of
the opening direction. -/
def axModels (s : State) (n : Nat) : State :=
  let s := s.set (AX.FORCE_THR n) (un 16 (forceThr s n (if (s.ax n).vel < 0 then 1 else 0)))
  let s := s.setSat (AX.V_LIM n) (closeCapUm s n / 1000)
  s.setSat (AX.REV_AMAX n) (revAmax s n).round.toNat

/-- A change that makes the learned models void (R133). -/
def envClear (s : State) (n : Nat) : State :=
  axModels (((s.setB (AX.ENV_VALID n) false).setB (AX.MASS_VALID n) false).set (AX.MASS_G n) 0) n

/-- Whether a profile is in use (R100). -/
def prfInUse (s : State) (n k : Nat) : Bool :=
  let a := s.ax n
  (match a.run with | some tr => tr.entry.prf = k || tr.prf = k | none => false) ||
  a.queue.any (fun e => e.prf = k) || (match a.after with | some e => e.prf = k | none => false) ||
  (s.on (AX.TORQUE n) && (s.get (AX.STOP_PRF n) = k || s.get (AX.REV_PRF n) = k))

/-- The reversal target (R136): REV_MM from the measured position, at most the upper limit; 0 means fully open. -/
def reversalTarget (s : State) (n : Nat) : Int :=
  if s.get (AX.REV_MM n) = 0 then vlimHi s n
  else
    let d := mkRatio (s.get (AX.REV_MM n) * 1000 * 65536 : Nat) (s.get (AX.AX_SCALE n))
    min ((fromFix16 (s.ax n).measured).add d).round (vlimHi s n)

/-- A reversal request reaches Traverse with its trip cause (R136): a closing door axis that is not already reversing
takes it at the next update; the target is fixed now. -/
def askReversal (s : State) (n cause : Nat) (rest : Bool := false) : State :=
  let a := s.ax n
  if 8 ≤ n || a.reversing || 0 < a.vel || (a.vel = 0 && !rest) then s
  else
    let s := (s.set (AX.TRIP_CAUSE n) cause).set (AX.TRIP_BIN n) (envBin s n a.measured)
    axAsk (s.set (AX.TRIP_F n) (s.get (AX.FORCE_EST n))) n (.reversal (reversalTarget s n) rest)

end Sys2Proof.Machine
end

