-- ==== Sys2Proof/Machine/Gallery.lean ====
section
/-! DEFINITION. The Gallery (R252 to R271): which source drives a channel, when it conducts, what a turn-on and a turn-off
do, overcurrent, heat, clamp energy, shedding, banks, following and Crawl. -/

namespace Sys2Proof.Machine

/-- Whether a channel lies in bank B, and whether it is a lock channel (R252). -/
def isBankB (c : Nat) : Bool := 32 ≤ c
def isLock (c : Nat) : Bool := 32 ≤ c && c < 40

/-- The host command bit of a channel (R255). -/
def gcReg (c : Nat) : Reg := if c < 32 then GAL.GC_ON_LO else GAL.GC_ON_HI
def gcBit (s : State) (c : Nat) : Bool := s.bit (gcReg c) (c % 32)
def setGcBit (s : State) (c : Nat) (b : Bool) : State := s.setBit (gcReg c) (c % 32) b

/-- The Crawl map entry of a channel as the Gallery holds it (R265): whether it is mapped, and to which pin. -/
def mapEntry (s : State) (c : Nat) : Nat := bitsOf (s.get (CRAWL.CRAWL_MAP (c / 4))) (8 * (c % 4)) 8
def mapped (s : State) (c : Nat) : Bool := s.hasCh c && bitAt (mapEntry s c) 7
def mapPin (s : State) (c : Nat) : Nat := mapEntry s c % 16

/-- Whether DIRECT pin `p` is active at J25. -/
def pinOn (s : State) (p : Nat) : Bool := bitAt s.gal.direct p

/-- Whether the lock gate of doorway n is open: both channels enable it (R192). -/
def gateOpen (s : State) (n : Nat) : Bool := s.bit SAFM.LOCK_EN_SAF n && s.bit COLM.LOCK_EN_COL n

/-- Whether Crawl drives a channel (R255 order 2, R263, R264): SCRAP leaves Crawl off (R67). -/
def byCrawl (s : State) (c : Nat) : Bool :=
  s.on CRAWL.CRAWL_ON && mapped s c && s.lc != lcSCRAP && !((s.inRefuge || s.hwLock pgGAL) && isLock c)

/-- The effective command of a channel (R255). What the host and following have set lasts only while P3 is on (R77). -/
def effCmd (s : State) (c : Nat) : Bool :=
  if byCrawl s c then pinOn s (mapPin s c)
  else if s.inRefuge || s.hwLock pgGAL || !s.domOn 3 then false
  else if s.on CRAWL.CRAWL_ON && (mapped s c || s.on CRAWL.CR_WD) then false
  else if s.on (GALC.FOLLOW c) then pinOn s (s.get (GALC.FOLLOW_PIN c))
  else gcBit s c

/-- Whether the supply side of a bank is sound: in range, not reversed, reference present, no failed switch (R266). -/
def bankSound (s : State) (b : Bool) : Bool :=
  if b then s.on PWR.GB_OK && !s.on GAL.B_OV && !s.on GAL.B_REV && !s.on GAL.B_GND && !s.on GAL.B_FAULT
  else s.on PWR.GA_OK && !s.on GAL.A_OV && !s.on GAL.A_REV && !s.on GAL.A_GND && !s.on GAL.A_FAULT

/-- Whether the off-state test of a bank has passed in this start (R59). -/
def bankTested (s : State) (b : Bool) : Bool := !bitAt s.pwr.untested (bit1 b)

/-- Whether a channel's bank is available to it (R266): Crawl needs no off-state test. -/
def bankFor (s : State) (c : Nat) : Bool :=
  s.domOn 10 && !s.on PWR.PF_WARN && !s.bit CLK.CLK_FAIL 12 && bankSound s (isBankB c) &&
  (byCrawl s c || bankTested s (isBankB c))

/-- Whether something of its own keeps a channel off (R255): a trip whose retry is not pending yet (R258), a lock, heat, shedding, the
lock gate, or its turn in the return of a bank. -/
def chBlocked (s : State) (c : Nat) : Bool :=
  (s.on (GALC.OC_TRIP c) && !bitAt s.gal.retryPend c) || s.on (GALC.OC_LOCK c) || s.on (GALC.TH_LATCH c) || s.on (GALC.CLAMP_LOCK c) ||
  s.on (GALC.SHED c) || (isLock c && !gateOpen s (c - 32)) || bitAt s.gal.waiting c

/-- Clamp energy of a channel over the latest 10 s (R260). -/
def clampSum (s : State) (c : Nat) : Nat :=
  s.gal.clampLog.foldl (fun t x => if x.1 = c && s.tick < x.2.1 + 327680 then t + x.2.2 else t) 0

/-- The ratings of R260 in mJ: per event and over 10 s. -/
def clampRating (c : Nat) : Nat := if isBankB c then 1500 else 300
def clampBudget (c : Nat) : Nat := if isBankB c then 8000 else 2000

/-- One clamp event (R260, R261): the channel measures its energy, a free value; an event above its rating, and a sum that
reaches the budget, lock the channel. -/
def clampEvent (s : State) (c : Nat) : State :=
  let e := Config.clampEnergy s.freeCtr c
  let s := s.draw
  let log := s.gal.clampLog.filter (fun x => x.1 != c || s.tick < x.2.1 + 327680)
  let s := { s with gal := { s.gal with clampLog := (c, s.tick, e) :: log } }
  let s := (s.setSat (GALC.CLAMP_LAST c) e).count (GALC.CH_CLAMP_CNT c)
  let sum := clampSum s c
  let s := s.setSat (GALC.CLAMP_SUM c) sum
  let spent := clampBudget c ≤ sum
  let s := if spent && !s.on (GALC.CLAMP_LOCK c) then s.count GAL.CLAMP_LOCK_CNT else s
  let above := clampRating c < e
  let s := if above then s.countFault pgGAL GAL.CLAMP_OVER_CNT else s
  if spent || above then s.setB (GALC.CLAMP_LOCK c) true else s

/-- The summary bits and masks of page GAL (R269), and A_OK, B_OK, GATE_SHUT. -/
def galShow (s : State) : State :=
  let m := fun (r : Nat → Reg) (lo n : Nat) => maskOf (fun i => s.on (r (lo + i))) n
  let s := eachUpTo 8 (fun s n => s.setB (GALC.GATE_SHUT (32 + n)) (s.hasDw n && !gateOpen s n)) s
  let s := (s.set GAL.OUT_LO (m GALC.OUT 0 32)).set GAL.OUT_HI (m GALC.OUT 32 16)
  let blk := fun c => s.on (GALC.OC_TRIP c) || s.on (GALC.OC_LOCK c) || s.on (GALC.TH_LATCH c) ||
    s.on (GALC.CLAMP_LOCK c) || s.on (GALC.SHED c) || s.on (GALC.GATE_SHUT c)
  let s := (s.set GAL.BLK_LO (maskOf blk 32)).set GAL.BLK_HI (maskOf (fun i => blk (32 + i)) 16)
  let s := s.setB GAL.ANY_CLAMP_LOCK (anyBelow 48 (fun c => s.on (GALC.CLAMP_LOCK c)))
  let s := s.setB GAL.ANY_TH (anyBelow 48 (fun c => s.on (GALC.TH_LATCH c)))
  let s := s.setB GAL.ANY_OC (anyBelow 48 (fun c => s.on (GALC.OC_TRIP c) || s.on (GALC.OC_LOCK c)))
  let s := s.setB GAL.A_SHED (anyBelow 32 (fun c => s.on (GALC.SHED c)))
  let s := s.setB GAL.B_SHED (anyBelow 16 (fun c => s.on (GALC.SHED (32 + c))))
  let s := s.setB GAL.A_OK (s.domOn 10 && bankSound s false && bankTested s false)
  s.setB GAL.B_OK (s.domOn 10 && bankSound s true && bankTested s true)

/-- A pin edge opens a fresh inrush window only after the pin has been inactive for INRUSH_MS (R253). -/
def pinFresh (s : State) (c p : Nat) : Bool :=
  mapFind 0 p s.gal.pinOff + msTicks (s.get (GALC.INRUSH_MS c)) ≤ s.tick

/-- CMD and IN_CRAWL of a channel follow its source; the instant its command goes off is kept (R257), and a channel whose command
has gone is no longer shed (R255, R262). -/
def chanMark (s : State) (c : Nat) : State :=
  let cmd := effCmd s c
  let s := if !cmd && s.on (GALC.CMD c) then { s with gal := { s.gal with offAt := mapPut 0 c s.tick s.gal.offAt } } else s
  let s := (s.setB (GALC.CMD c) cmd).setB (GALC.IN_CRAWL c) (byCrawl s c)
  if !cmd && s.on (GALC.SHED c) then
    { s.setB (GALC.SHED c) false with gal := { s.gal with shedOrder := s.gal.shedOrder.filter (· != c) } }
  else s

/-- OUT of a channel becomes `out` (R253, R257, R260): a turn-on opens the inrush window where it is a fresh one or a pending
retry, a turn-off clamps. -/
def chanSwitch (fresh out : Bool) (s : State) (c : Nat) : State :=
  if out && !s.on (GALC.OUT c) then
    let retry := bitAt s.gal.retryPend c
    let s := if retry then
        { (s.count GAL.RETRY_CNT).setB (GALC.OC_TRIP c) false with gal := { s.gal with retryPend := putBit s.gal.retryPend c false } }
      else s
    let s := { s with gal := { s.gal with onAt := mapPut 0 c s.tick s.gal.onAt } }
    (s.setB (GALC.OUT c) true).setB (GALC.INRUSH c) (fresh || retry)
  else if !out && s.on (GALC.OUT c) then
    clampEvent ((s.setB (GALC.OUT c) false).setB (GALC.INRUSH c) false) c
  else s

/-- One channel by its source, bank and blocks (R255): CMD, OUT and IN_CRAWL follow. -/
def chanEval (fresh : Bool) (s : State) (c : Nat) : State :=
  if !s.hasCh c then s
  else chanSwitch fresh (effCmd s c && bankFor (chanMark s c) c && !chBlocked (chanMark s c) c) (chanMark s c) c

/-- Every channel, turn-ons fresh. -/
def galEval (s : State) : State := galShow (eachUpTo 48 (chanEval true) s)

/-- One channel, and the summary. -/
def galEval1 (s : State) (c : Nat) : State := galShow (chanEval true s c)

/-- Off-state, at a turn-off of the whole Gallery: every channel off (R41, R64). -/
def galOff (s : State) : State := galEval s

/-- The channels that follow pin `p` lose it (R256): FOLLOW and the command bit clear. -/
def followLost (s : State) (p : Nat) : State :=
  eachUpTo 48 (fun s c =>
    if s.on (GALC.FOLLOW c) && s.get (GALC.FOLLOW_PIN c) = p then setGcBit (s.setB (GALC.FOLLOW c) false) c false else s) s

/-- Crawl takes a mapped pin (R263): a following channel or the host loses it. -/
def crawlClaim (s : State) (p : Nat) : State :=
  let (s, _, lost) := s.claim 0 p 3
  if lost = 4 then followLost s p else if lost = 5 then s.setBit RES.HOST_DIR p false else s

/-- Crawl engages and disengages as its causes and the load of its map say (R263, R265). DEDUCED (log 133): a mapped channel that
follows another pin turns off at disengagement as every mapped channel does, so its FOLLOW clears. -/
def crawlSync (s : State) : State :=
  let want := (s.on CRAWL.CR_PIN || s.on CRAWL.CR_WD) && s.on CRAWL.MAP_LOADED && s.domOn 10 && s.lc != lcSCRAP
  let s := if want && !s.on CRAWL.CRAWL_ON then
      let s := (s.setB CRAWL.CRAWL_ON true).count CRAWL.CRAWL_CNT
      eachUpTo 48 (fun s c => if mapped s c then setGcBit (crawlClaim s (mapPin s c)) c false else s) s
    else if !want && s.on CRAWL.CRAWL_ON then
      let s := eachUpTo 16 (fun s p => s.release 0 p 3) (s.setB CRAWL.CRAWL_ON false)
      let s := eachUpTo 48 (fun s c => if mapped s c then s.setB (GALC.FOLLOW c) false else s) s
      eachUpTo 16 (fun s p =>
        if anyBelow 48 (fun c => s.on (GALC.FOLLOW c) && s.get (GALC.FOLLOW_PIN c) = p) then s else s.release 0 p 4) s
    else s
  let s := if s.on CRAWL.CR_WD && s.on CRAWL.CRAWL_ON then
      let s := eachUpTo 48 (fun s c =>
        let s := s.setB (GALC.FOLLOW c) false
        if mapped s c then s else setGcBit s c false) s
      eachUpTo 16 (fun s p => s.release 0 p 4) s
    else s
  galEval s

/-- The map is loaded from its Drip copies (R265). -/
def crawlLoad (s : State) : State :=
  let s := eachUpTo 12 (fun s k => s.set (CRAWL.CRAWL_MAP k) (mapFind 0 k s.gal.mapCopies)) s
  crawlSync (s.setB CRAWL.MAP_LOADED true)

/-- The bits of GC_ON that a write may set now (R256, R263, R268). -/
def gcAllowed (s : State) (c : Nat) : Bool :=
  s.hasCh c && s.on (HDR.EN pgGAL) && !(isLock c && !gateOpen s (c - 32)) && !(s.on CRAWL.CRAWL_ON && mapped s c) &&
  !s.on CRAWL.CR_WD

/-- What a written GC_ON word becomes: bits it may not set are clamped to 0. -/
def gcLimit (s : State) (hi : Bool) (v : Nat) : Nat :=
  maskOf (fun i => bitAt v i && gcAllowed s (if hi then 32 + i else i)) (if hi then 16 else 32)

/-- What fields of a channel sub-block take and become (R252, R256, R268). -/
def chTakes (s : State) (c : Nat) (r : Reg) : Bool := !(r = GALC.FOLLOW_PIN c && s.on (GALC.FOLLOW c))
def chLimit (s : State) (c : Nat) (r : Reg) (v : Nat) : Nat :=
  if r = GALC.ILIM c then (if isBankB c then clampN 500 6000 v else clampN 100 2000 v)
  else if r = GALC.FOLLOW c && v = 1 && (!s.on (HDR.EN pgGAL) || s.on CRAWL.CR_WD) then 0
  else v

/-- FOLLOW was written (R256): setting it claims the pin, a refused claim clamps FOLLOW and clears the command bit;
clearing it releases the pin once no channel follows it. `was` is FOLLOW before the write. -/
def followWritten (s : State) (c : Nat) (was : Bool) : State :=
  let p := s.get (GALC.FOLLOW_PIN c)
  if s.on (GALC.FOLLOW c) && !was then
    let (s, ok, lost) := s.claim 0 p 4
    let s := if lost = 5 then s.setBit RES.HOST_DIR p false else s
    galEval1 (if ok then s else setGcBit (s.setB (GALC.FOLLOW c) false) c false) c
  else if !s.on (GALC.FOLLOW c) && was then
    let others := anyBelow 48 (fun k => s.on (GALC.FOLLOW k) && s.get (GALC.FOLLOW_PIN k) = p)
    galEval1 (if others then s else s.release 0 p 4) c
  else galEval1 s c

/-- EN of page GAL written 0 (R268): host-sourced and following channels off, their bits cleared; Crawl goes on. -/
def galEnWritten (s : State) : State :=
  if s.on (HDR.EN pgGAL) then s
  else
    let s := eachUpTo 48 (fun s c => s.setB (GALC.FOLLOW c) false) ((s.set GAL.GC_ON_LO 0).set GAL.GC_ON_HI 0)
    galEval (eachUpTo 16 (fun s p => s.release 0 p 4) s)

/-- A write of GAL_CMD (R261): 0x6C00 + c unlocks a channel whose sum is at most a quarter of its budget. -/
def galCommand (s : State) (val : Nat) : Wrote :=
  let c := val % 0x100
  if val / 0x100 != 0x6C || !s.hasCh c || clampBudget c < 4 * clampSum s c || s.on (GALC.TH_LATCH c) then (s, true)
  else (galEval1 (s.setB (GALC.CLAMP_LOCK c) false) c, false)

/-- A map register was written (R265): its Drip copies take it. -/
def mapWritten (s : State) (k : Nat) : State :=
  { s with gal := { s.gal with mapCopies := mapPut 0 k (s.get (CRAWL.CRAWL_MAP k)) s.gal.mapCopies } }

/-- What a written map word becomes: reserved bits and entries of absent channels stay 0. -/
def mapLimit (s : State) (k v : Nat) : Nat :=
  (if s.hasCh (4 * k) then Nat.land v 0x8F else 0) + (if s.hasCh (4 * k + 1) then Nat.land v 0x8F00 else 0) +
  (if s.hasCh (4 * k + 2) then Nat.land v 0x8F0000 else 0) + (if s.hasCh (4 * k + 3) then Nat.land v 0x8F000000 else 0)

/-- A write of a map word is clamped only where it would set an entry of an absent channel (R390). -/
def mapClamps (s : State) (k v : Nat) : Bool := anyBelow 4 (fun i => !s.hasCh (4 * k + i) && bitsOf v (8 * i) 8 != 0)

/-- The events of a bank, by bank. -/
def ovReg (b : Bank) : Reg := match b with | .a => GAL.A_OV | .b => GAL.B_OV
def revReg (b : Bank) : Reg := match b with | .a => GAL.A_REV | .b => GAL.B_REV
def gndReg (b : Bank) : Reg := match b with | .a => GAL.A_GND | .b => GAL.B_GND
def fltReg (b : Bank) : Reg := match b with | .a => GAL.A_FAULT | .b => GAL.B_FAULT
def meanReg (b : Bank) : Reg := match b with | .a => GAL.IA_MEAN | .b => GAL.IB_MEAN
def instReg (b : Bank) : Reg := match b with | .a => GAL.IA | .b => GAL.IB
/-- The mean current a bank may carry, in 10 mA (R252): a smaller member has less in proportion to its channels (R9). -/
def bankBudget (s : State) (b : Bank) : Nat := match b with | .a => 2400 * s.nLight / 32 | .b => 4800 * s.nHeavy / 16
def inBank (b : Bank) (c : Nat) : Bool := isBankB c = (b = Bank.b)

/-- The channels of a bank whose effective command is on wait for their turn when the bank returns (R266). -/
def bankQueue (s : State) (b : Bank) : State :=
  let m := maskOf (fun c => bitAt s.gal.waiting c || (inBank b c && s.hasCh c && effCmd s c)) 48
  { s with gal := { s.gal with waiting := m } }

/-- The channel to shed next (R262): conducting, outside its inrush window, lowest SHED_PRI, highest number among equals. -/
def shedPick (s : State) (b : Bank) : Option Nat :=
  (List.range 48).foldl (fun best c =>
    if s.hasCh c && inBank b c && s.on (GALC.OUT c) && !s.on (GALC.INRUSH c) then
      match best with
      | none => some c
      | some k => if s.get (GALC.SHED_PRI c) ≤ s.get (GALC.SHED_PRI k) then some c else best
    else best) none

/-- GATE_CUT and the other effects of shut gates (R256): a lock channel whose gate is shut goes off at once; the Gallery
clears its bit later. -/
def gateSync (s : State) : State :=
  let cut := maskOf (fun n => bitAt s.gal.cut n || (!gateOpen s n && gcBit s (32 + n))) 8
  galEval { s with gal := { s.gal with cut := cut } }

/-- DIRECT_EDGE (R255, R256, R263): the channels that follow the pin or are mapped to it switch. -/
def execDirectEdge (p : Fin 16) (active : Bool) (s : State) : Out State :=
  if pinOn s p = active then .next s
  else
    let s := { s with gal := { s.gal with
      direct := putBit s.gal.direct p active
      pinOff := if active then s.gal.pinOff else mapPut 0 p.val s.tick s.gal.pinOff } }
    let s := s.set CRAWL.CR_PINS s.gal.direct
    .next (galShow (eachUpTo 48 (fun s c =>
      if (byCrawl s c && mapPin s c = p) || (s.on (GALC.FOLLOW c) && s.get (GALC.FOLLOW_PIN c) = p) then
        chanEval (pinFresh s c p) s c
      else s) s))

/-- The limit in force of a channel, mA (R252, R253): its inrush limit in the inrush window, its steady limit after that. -/
def limitNow (s : State) (c : Nat) : Nat :=
  if s.on (GALC.INRUSH c) then (if isBankB c then 24000 else 8000) else s.get (GALC.ILIM c)

/-- The backoff after trip k, ms (R257). -/
def backoffMs (k : Nat) : Nat := min (10 * 2 ^ (k - 1)) 1280

/-- Whether `ms` have passed since the instant a list keeps for a channel. -/
def chSince (s : State) (at_ : List (Nat × Nat)) (c ms : Nat) : Bool := mapFind 0 c at_ + msTicks ms ≤ s.tick

/-- OC_TRIP (R257): a current above the limit in force turns the channel off; up to RETRY_MAX trips it waits a backoff, beyond
that it locks. -/
def execOcTrip (c : Fin 48) (ma : Nat) (s : State) : Out State :=
  if !s.on (GALC.OUT c) || ma ≤ limitNow s c then .next s
  else
    let k := min 31 (s.get (GALC.RETRY_N c) + 1)
    let s := ((s.set (GALC.RETRY_N c) k).countFault pgGAL GAL.OC_TRIP_CNT).count (GALC.CH_TRIP_CNT c)
    let s := { s with gal := { s.gal with tripAt := mapPut 0 c.val s.tick s.gal.tripAt } }
    let s := if k ≤ s.get (GALC.RETRY_MAX c) then s.setB (GALC.OC_TRIP c) true
      else (s.setB (GALC.OC_LOCK c) true).count GAL.OC_LOCK_CNT
    .next (galEval1 s c)

/-- RETRY_BACKOFF_END (R257, R258): the retry happens now, waits for its pin, or waits for what blocks it, OC_TRIP standing as in the
example of R258; with a command that is off it is dropped. -/
def execRetryBackoffEnd (c : Fin 48) (s : State) : Out State :=
  if !s.on (GALC.OC_TRIP c) || !chSince s s.gal.tripAt c (backoffMs (s.get (GALC.RETRY_N c))) then .next s
  else
    let waits := effCmd s c || byCrawl s c || s.on (GALC.FOLLOW c)
    let blocked := s.on (GALC.TH_LATCH c) || s.on (GALC.CLAMP_LOCK c) || s.on (GALC.SHED c) || !bankFor s c
    let s := s.setB (GALC.OC_TRIP c) (waits && blocked)
    .next (galEval1 { s with gal := { s.gal with retryPend := putBit s.gal.retryPend c waits } } c)

/-- RETRY_N_RESET (R257): after 10 s of conduction. -/
def execRetryNReset (c : Fin 48) (s : State) : Out State :=
  .next (if s.on (GALC.OUT c) && chSince s s.gal.onAt c 10000 then s.set (GALC.RETRY_N c) 0 else s)

/-- COMMAND_OFF_SETTLED (R257, R268): the command has been off for 10 ms; trips, their lock and a pending retry end. -/
def execCommandOffSettled (c : Fin 48) (s : State) : Out State :=
  if effCmd s c || !chSince s s.gal.offAt c 10 then .next s
  else
    let s := ((s.set (GALC.RETRY_N c) 0).setB (GALC.OC_LOCK c) false).setB (GALC.OC_TRIP c) false
    .next (galEval1 { s with gal := { s.gal with retryPend := putBit s.gal.retryPend c false } } c)

/-- INRUSH_WINDOW_END (R253). -/
def execInrushWindowEnd (c : Fin 48) (s : State) : Out State :=
  .next (if chSince s s.gal.onAt c (s.get (GALC.INRUSH_MS c)) then s.setB (GALC.INRUSH c) false else s)

/-- THERMAL_LATCH (R259): Tj − Tc in 0.1 K and Tj in °C as measured; DT and TJ show the latest values measured so. -/
def execThermalLatch (c : Fin 48) (dt tj : Int) (s : State) : Out State :=
  let s := (s.setS (GALC.DT c) dt).setS (GALC.TJ c) tj
  if !s.hasCh c || (dt < 500 && tj < 175) || s.on (GALC.TH_LATCH c) then .next s
  else .next (galEval1 ((s.setB (GALC.TH_LATCH c) true).countFault pgGAL GAL.TH_CNT) c)

/-- THERMAL_LATCH_CLEAR (R259). -/
def execThermalLatchClear (c : Fin 48) (dt tj : Int) (s : State) : Out State :=
  let s := (s.setS (GALC.DT c) dt).setS (GALC.TJ c) tj
  if 250 < dt || 150 ≤ tj then .next s
  else .next (galEval1 (s.setB (GALC.TH_LATCH c) false) c)

/-- CRAWL_CLAMP_UNLOCK (R261). -/
def execCrawlClampUnlock (c : Fin 48) (s : State) : Out State :=
  if s.on CRAWL.CRAWL_ON && mapped s c && clampSum s c = 0 then
    .next (galEval1 ((s.setB (GALC.CLAMP_LOCK c) false).set (GALC.CLAMP_SUM c) 0) c)
  else .next s

/-- SHED_STEP (R262): the bank's present and mean current in 10 mA. -/
def execShedStep (b : Bank) (now mean : Nat) (s : State) : Out State :=
  let s := (s.setSat (instReg b) now).setSat (meanReg b) mean
  if mean ≤ bankBudget s b then .next s
  else match shedPick s b with
    | none => .next s
    | some c =>
      let s := (s.setB (GALC.SHED c) true).count GAL.SHED_CNT
      .next (galEval1 { s with gal := { s.gal with shedOrder := c :: s.gal.shedOrder } } c)

/-- SHED_RESTORE_STEP (R262): the latest shed channel of the bank returns. -/
def execShedRestoreStep (b : Bank) (now mean : Nat) (s : State) : Out State :=
  let s := (s.setSat (instReg b) now).setSat (meanReg b) mean
  if bankBudget s b * 9 ≤ mean * 10 then .next s
  else match s.gal.shedOrder.find? (inBank b) with
    | none => .next s
    | some c =>
      let s := { s with gal := { s.gal with shedOrder := s.gal.shedOrder.filter (· != c) } }
      .next (galEval1 (s.setB (GALC.SHED c) false) c)

/-- GATE_CUT_BIT_CLEAR (R256). -/
def execGateCutBitClear (n : Fin 8) (s : State) : Out State :=
  if !bitAt s.gal.cut n then .next s
  else
    let s := (setGcBit s (32 + n) false).count GAL.GATE_CUT_CNT
    .next (galEval { s with gal := { s.gal with cut := putBit s.gal.cut n false } })

/-- BANK_OVERVOLTAGE (R266). -/
def execBankOvervoltage (b : Bank) (s : State) : Out State :=
  if s.on (ovReg b) then .next s else .next (galEval ((s.setB (ovReg b) true).count GAL.SURGE_CNT))

/-- BANK_REVERSE (R266). -/
def execBankReverse (b : Bank) (s : State) : Out State := .next (galEval (s.setB (revReg b) true))

/-- BANK_GROUND_LOSS (R266). -/
def execBankGroundLoss (b : Bank) (s : State) : Out State := .next (galEval (s.setB (gndReg b) true))

/-- The condition that has ended at a bank, and the bank. -/
def endReg (e : BankEnd) : Reg := match e with | .ov b => ovReg b | .rev b => revReg b | .gnd b => gndReg b
def endBank (e : BankEnd) : Bank := match e with | .ov b => b | .rev b => b | .gnd b => b

/-- BANK_RETURN (R266): one condition that kept the bank off has ended for its 10 ms; once none is left, its commanded channels take
their turns. -/
def execBankReturn (e : BankEnd) (s : State) : Out State :=
  let b := decide (endBank e = Bank.b)
  let was := bankSound s b
  let s := s.setB (endReg e) false
  .next (galEval (if was || !bankSound s b then s else bankQueue s (endBank e)))

/-- BANK_CHANNEL_RESTORE (R266): the lowest waiting channel of the bank turns on. -/
def execBankChannelRestore (b : Bank) (s : State) : Out State :=
  match (List.range 48).find? (fun c => bitAt s.gal.waiting c && inBank b c) with
  | none => .next s
  | some c => .next (galEval1 { s with gal := { s.gal with waiting := putBit s.gal.waiting c false } } c)

/-- BANK_SWITCH_FAULT (R267): a channel commanded off for 10 ms conducts for 10 ms more; the bank is off until the next start. -/
def execBankSwitchFault (c : Fin 48) (s : State) : Out State :=
  if effCmd s c || !s.hasCh c || !chSince s s.gal.offAt c 20 then .next s
  else
    let b := if isBankB c then Bank.b else Bank.a
    if s.on (fltReg b) then .next s
    else .next (galEval ((s.setB (fltReg b) true).countFault pgGAL GAL.BANK_FLT_CNT))

end Sys2Proof.Machine
end

