-- ==== Sys2Proof/Machine/SafetyEval.lean ====
section
/-! DEFINITION. What the two safety channels form from their accepted readings: the doorway conditions, permits, lock gates,
torque enables, ADCL contacts, the reversal requests and the reversal watch, and the mirrors on pages SAFM, COLM and CYC
(R190 to R192, R199, R200, R205, R210 to R226, R230). -/

namespace Sys2Proof.Machine

/-- The place of an input in the level mask of a channel. -/
def inputIdx (i : Input) : Nat :=
  match i with
  | .estop1 => 0 | .estop2 => 1 | .zsA => 2 | .zsB => 3 | .relL => 4 | .relR => 5 | .edmA => 6 | .edmB => 7
  | .thANo => 8 | .thANc => 9 | .thBNo => 10 | .thBNc => 11 | .reset => 12 | .depot => 13
  | .dclL n => 16 + n | .dclR n => 24 + n | .lockfb n => 32 + n | .stowed n => 40 + n | .closedSw n => 48 + n
  | .egrA n => 56 + n | .egrB n => 64 + n | .isol n => 72 + n | .edgeL n => 80 + n | .edgeR n => 88 + n
  | .lcA n => 96 + n | .lcB n => 104 + n | .openSw n => 128 + n | .deployed n => 136 + n

/-- Where the fault band of an edge loop is kept: EDGE_L from 112, EDGE_R from 120. -/
def edgeFaultIdx (i : Input) : Option Nat := match i with | .edgeL n => some (112 + n) | .edgeR n => some (120 + n) | _ => none

/-- The restrictive level of an input (R216, R218): EGR_B and ISOL made, an edge actuated, the normally closed two-hand contacts
made; every other one open, OFF or inactive. CLOSED is no row of R218: DEDUCED (log 117) made, the level that withholds the lock
gate (R192) and opening torque (R222). -/
def restrictive (k : Nat) : Bool := k = 9 || k = 11 || (48 ≤ k && k < 56) || (64 ≤ k && k < 96)

/-- The channel that evaluates. -/
def State.chan (s : State) (c : Channel) : Chan := match c with | .saf => s.saf.saf | .col => s.saf.col
def State.setChan (s : State) (c : Channel) (x : Chan) : State :=
  match c with
  | .saf => { s with saf := { s.saf with saf := x } }
  | .col => { s with saf := { s.saf with col := x } }

/-- The latch of a channel (R228), and setting one of its bits. -/
def latchReg (c : Channel) : Reg := match c with | .saf => SAFM.LATCH_SAF | .col => COLM.LATCH_COL
def latched (s : State) (c : Channel) (b : Nat) : Bool := s.bit (latchReg c) b
def setLatch (s : State) (c : Channel) (b : Nat) : State := s.setBit (latchReg c) b true

/-- What a channel reads of an input: its accepted level, or the restrictive one while INPUT_DISC holds it (R216). -/
def lvl (s : State) (c : Channel) (k : Nat) : Bool :=
  if bitAt s.saf.disc k && latched s c 6 then restrictive k else bitAt (s.chan c).lv k

/-- Readings of one doorway. -/
def egrOp (s : State) (c : Channel) (n : Nat) : Bool := !lvl s c (56 + n) || lvl s c (64 + n) || bitAt (s.chan c).egrBad n
def egrFull (s : State) (c : Channel) (n : Nat) : Bool := !lvl s c (56 + n) && lvl s c (64 + n)
def edgeAct (s : State) (c : Channel) (n : Nat) : Bool :=
  lvl s c (80 + n) || lvl s c (88 + n) || lvl s c (112 + n) || lvl s c (120 + n)
/-- Whether light curtain n is fitted (SW-A12) and interrupted. -/
def lcBroken (s : State) (c : Channel) (n : Nat) : Bool := bitAt s.saf.sealA 11 && !(lvl s c (96 + n) && lvl s c (104 + n))

/-- A byte of the safety parameter block (R215). -/
def param (s : State) (a : Nat) : Nat := s.rd8 pgSAFM 1 a

/-- Whether a step is fitted to doorway n, and its side (R190, R205). -/
def stepFit (s : State) (n : Nat) : Bool := bitAt (param s 5) n && s.hasAx (8 + n)
def sideRight (s : State) (n : Nat) : Bool := bitAt (param s 4) n

/-- CL_OK of a doorway in a channel's reading (R205). -/
def clOk (s : State) (c : Channel) (n : Nat) : Bool :=
  s.hasDw n && lvl s c (16 + n) && lvl s c (24 + n) && lvl s c (32 + n) && (lvl s c (40 + n) || !stepFit s n) && !egrOp s c n

/-- Whether a channel works: started, not declared lost, not in Refuge. -/
def chanUp (s : State) (c : Channel) : Bool :=
  !s.inRefuge && !s.saf.colLost && !s.saf.spLost &&
  (match c with | .saf => s.on SAFM.SP_RUN && s.domOn 2 | .col => s.on COLM.COL_OK && s.domOn 1)

/-- Both e-stop inputs made. -/
def estopMade (s : State) (c : Channel) : Bool := lvl s c 0 && lvl s c 1

/-- The source of release and zero speed (R220). -/
def srcOf (s : State) : Nat := if bitAt s.saf.sealA 14 then (if param s 6 = 1 then 2 else 1) else 0

/-- Zero speed on the wires, and in a channel's selected source. -/
def zsWire (s : State) (c : Channel) : Bool := lvl s c 2 && lvl s c 3
def zeroSpeed (s : State) (c : Channel) : Bool :=
  match srcOf s, c with
  | 0, _ => zsWire s c
  | 1, .saf => zsWire s c && s.on DST.ZS_TG
  | 1, .col => zsWire s c
  | _, _ => s.on DST.ZS_TG

/-- Release of the side of doorway n on the wires and from telegrams. -/
def relWire (s : State) (c : Channel) (n : Nat) : Bool := if sideRight s n then lvl s c 5 else lvl s c 4
def relTg (s : State) (n : Nat) : Bool := if sideRight s n then s.on DST.REL_R_TG else s.on DST.REL_L_TG

/-- The telegram contribution to OPEN_PERMIT (R246). -/
def tgOpen (s : State) (n : Nat) : Bool :=
  relTg s n && s.on DST.ZS_TG && s.bit DST.OPEN_EN_TG n && !s.bit DST.INHIBIT_TG n && !s.bit DST.CLOSE_TG n

/-- The DEPOT substitution (R203, R221): SW-A16, the key and zero speed; the safety processor adds the life-cycle state. -/
def depotSub (s : State) (c : Channel) : Bool :=
  bitAt s.saf.sealA 15 && lvl s c 13 && zeroSpeed s c &&
  (match c with | .saf => s.lc = lcDEPOT || s.lc = lcFACTORY | .col => true)

/-- The substitution for one doorway (R192 item 4, R203): it must be in DEPOT, which Column does not know (R221). -/
def depotDoor (s : State) (c : Channel) (n : Nat) : Bool :=
  depotSub s c && (match c with | .saf => n < 8 && s.get (CYCD.STATE n) = 0xD | .col => true)

/-- Release and zero speed as a channel combines its sources (R220). -/
def released (s : State) (c : Channel) (n : Nat) : Bool :=
  match srcOf s, c with
  | 0, _ => relWire s c n && zsWire s c
  | 1, .saf => relWire s c n && zsWire s c && tgOpen s n
  | 1, .col => relWire s c n && zsWire s c
  | _, .saf => tgOpen s n
  | _, .col => relTg s n && s.on DST.ZS_TG

/-- OPEN_PERMIT of a doorway in a channel (R190, R221, R249). -/
def openPermit (s : State) (c : Channel) (n : Nat) : Bool :=
  s.hasDw n && chanUp s c && s.get (latchReg c) = 0 && estopMade s c &&
  !(c = Channel.saf && s.on SAFM.NET_RESTR) && (released s c n || depotDoor s c n)

/-- The lock gate enable of a channel (R192). -/
def gateOf (s : State) (c : Channel) (n : Nat) : Bool :=
  let byEgress := egrFull s c n && zeroSpeed s c
  s.hasDw n && chanUp s c &&
  (if bitAt (s.chan c).iso n then byEgress
   else openPermit s c n || !lvl s c (48 + n) || byEgress || depotDoor s c n)

/-- Whether the life-cycle state allows motion (R66): FACTORY under the DEPOT key only. -/
def lcMotion (s : State) : Bool :=
  !s.on SYS.LC_WIPE_PEND && (s.lc = lcSERVICE || s.lc = lcDEPOT || (s.lc = lcFACTORY && depotSub s .saf))

/-- Whether ADCL is evaluated in the life-cycle state (R66). -/
def lcAdcl (s : State) : Bool := !s.on SYS.LC_WIPE_PEND && (s.lc = lcSERVICE || s.lc = lcDEPOT)

/-- Crew-supervised closing runs on a doorway (R199). -/
def thClosing (s : State) (n : Nat) : Bool := n < 8 && s.get (CYCD.STATE n) = 5 && s.on (CYCD.TH_CLOSE n)

/-- The motion permit of an axis, whatever the kind of motion (R191, R230, R72). -/
def motBase (s : State) (a : Nat) : Bool :=
  s.hasAx a && chanUp s .saf && bitAt s.saf.sealA (a % 8) && !bitAt s.saf.saf.iso (a % 8) && lcMotion s &&
  !s.on SAFM.HOST_WD && !s.bit SAFM.ENC_HOLD a && !bitAt s.voteBad (pgAX a)

/-- The motion permit as shown: in crew-supervised closing it needs the two-hand actuation (R199). -/
def motPermit (s : State) (a : Nat) : Bool := motBase s a && (!thClosing s a || s.saf.saf.report)

/-- Both OPEN_PERMITs of the doorway of an axis. -/
def bothOpen (s : State) (a : Nat) : Bool := s.bit SAFM.OP_SAF_M (a % 8) && s.bit COLM.OP_COL_M (a % 8)

/-- Whether a motion of an axis has the permits it needs (R191, R199): an obstacle reversal and a homing need the motion permit
alone, another opening or extending motion both OPEN_PERMITs, a closing motion, homing included, in crew-supervised closing
the actuation. -/
def permitFor (s : State) (a : Nat) (opening : Bool) : Bool :=
  if (s.ax a).reversing then motBase s a
  else if opening then motBase s a && (s.on (AX.HOMING a) || bothOpen s a)
  else motPermit s a

/-- Whether a motion of an axis may start from rest: its permits, and no closing of a door axis with its light curtain
interrupted (R218). -/
def permitStart (s : State) (a : Nat) (opening : Bool) : Bool :=
  permitFor s a opening && !(!opening && a < 8 && !s.on (AX.HOMING a) && lcBroken s .saf a)

/-- The torque permit of the safety processor (R210, R218). -/
def tqPermit (s : State) (a : Nat) : Bool := s.hasAx a && chanUp s .saf && estopMade s .saf && !latched s .saf 0

/-- What Column keeps torque off an axis for, its rotation apart (R68, R222). -/
def tenBase (s : State) (a : Nat) : Bool :=
  s.hasAx a && chanUp s .col && estopMade s .col && !latched s .col 0 && bitAt s.saf.sealA (a % 8) &&
  !bitAt s.saf.col.iso (a % 8) && !bitAt s.saf.stoTest a && !s.bit COLM.RW_MASK a && !s.on PWR.BUS_OV && !s.on PWR.PF_WARN &&
  !s.on SYS.LC_WIPE_PEND

/-- The rotation lines of a bridge (R222): opening and closing. -/
def rotOpening (s : State) (a : Nat) : Bool := s.on (AX.TORQUE a) && s.on (AX.DIR_OPEN a)
def rotClosing (s : State) (a : Nat) : Bool := s.on (AX.TORQUE a) && (s.ax a).vel < 0 && !s.on (AX.DIR_OPEN a)

/-- Column's torque enable (R222): no opening rotation off the CLOSED switch, no extension off STOWED, without OP_COL. -/
def tenOf (s : State) (a : Nat) : Bool :=
  tenBase s a && !(rotOpening s a && lvl s .col (if a < 8 then 48 + a else 40 + (a - 8)) && !s.bit COLM.OP_COL_M (a % 8))

/-- ADCL as a channel evaluates it (R205, R198). -/
def adclVerdict (s : State) (c : Channel) : Bool :=
  allBelow 8 (fun n => !s.inSvc n ||
    (clOk s c n && (!s.on (AX.TORQUE n) || s.on (AX.HOLD n)) && !(c = Channel.saf && bitAt s.saf.thin n)))

/-- The loop variant (R225). -/
def loopVar (s : State) : Nat := s.saf.sealA / 0x100 % 4

/-- A channel's reading of EDM input A or B, and the tick since which it has stood (R226). -/
def edmLvl (s : State) (c : Channel) (b : Bool) : Bool := lvl s c (if b then 7 else 6)
def edmAt (s : State) (c : Channel) (b : Bool) : Nat := if b then (s.chan c).edmB else (s.chan c).edmA

/-- Whether EDM input A or B has read made for at least 100 ms in a channel's own reading (R226). -/
def edmReady (s : State) (c : Channel) (b : Bool) : Bool := edmLvl s c b && edmAt s c b + msTicks 100 ≤ s.tick

/-- The feedback precondition of R226 before a channel closes contact A or B. -/
def edmPre (s : State) (c : Channel) (b : Bool) : Bool :=
  match loopVar s with | 0 => edmReady s c b | 1 => edmReady s c false && edmReady s c true | _ => true

/-- Whether the contactor of an EDM input is driven (R225): in variant 1 by both coils. -/
def edmDriven (s : State) (b : Bool) : Bool :=
  if loopVar s = 1 then s.on SAFM.ADCL_A_ON && s.on COLM.ADCL_B_ON
  else if b then s.on COLM.ADCL_B_ON else s.on SAFM.ADCL_A_ON

/-- Whether the module is Parked or parking beyond the opening of its contacts (R54, R212). -/
def parkedNow (s : State) : Bool := s.pwr.phase = .parking || s.pwr.phase = .parked

/-- The safety processor's allow line for ADCL_B (R212). -/
def allowB (s : State) : Bool := chanUp s .saf && lcAdcl s && !parkedNow s

/-- Whether a channel drives its ADCL coil now. -/
def coilNow (s : State) (c : Channel) : Bool := match c with | .saf => s.on SAFM.ADCL_A_ON | .col => s.on COLM.ADCL_B_ON

/-- What a channel needs to drive its ADCL coil, its feedback precondition apart (R212, R224): after step 3 of the start, which
tests the coils. -/
def coilAsked (s : State) (c : Channel) : Bool :=
  chanUp s c && s.bit SYS.ST_DONE 2 && adclVerdict s c && !bitAt s.saf.adclTest (bit1 (c = Channel.col)) &&
  s.get (latchReg c) = 0 && allowB s && chanUp s .col && !s.on PWR.PF_WARN

/-- Whether a channel drives its ADCL coil (R224, R226). -/
def coilOf (s : State) (c : Channel) : Bool := coilAsked s c && (coilNow s c || edmPre s c (c = Channel.col))

/-- Isolation as a channel holds it (R200): from ISOL made together with CL_OK until ISOL reads open. -/
def isoNext (s : State) (c : Channel) : Nat :=
  maskOf (fun n => lvl s c (72 + n) && (bitAt (s.chan c).iso n || clOk s c n)) 8

/-- Readings as masks on the pages. -/
def doorMask (f : Nat → Bool) : Nat := maskOf f 8

/-- The same of the doorways the member has (R6). -/
def hereMask (s : State) (f : Nat → Bool) : Nat := doorMask (fun n => s.hasDw n && f n)

/-- The readings of both channels on pages SAFM, COLM and CYC. -/
def safetyShow (s : State) : State :=
  let s := s.set SAFM.CL_OK_SAF (doorMask (clOk s .saf))
  let s := s.set COLM.CL_OK_COL (doorMask (clOk s .col))
  let s := s.set SAFM.EGR_OP_SAF (doorMask (fun n => s.hasDw n && egrOp s .saf n))
  let s := s.set COLM.EGR_OP_COL (doorMask (fun n => s.hasDw n && egrOp s .col n))
  let s := s.setB SAFM.ZS (zeroSpeed s .saf)
  let s := s.setB SAFM.TH_ACT s.saf.saf.report
  let s := s.setB SAFM.ESTOP (!estopMade s .saf || latched s .saf 0)
  let s := s.setB SAFM.LATCH (s.on SAFM.LATCH_SAF)
  let s := s.set SAFM.SRC (srcOf s)
  let s := s.set SAFM.EGR_DISC_M s.saf.saf.egrBad
  let s := s.set SAFM.EDGE_FLT (hereMask s (fun n => lvl s .saf (112 + n) || lvl s .saf (120 + n)))
  let s := s.set SAFM.EDGE_L_ACT (hereMask s (fun n => lvl s .saf (80 + n)))
  let s := s.set SAFM.EDGE_R_ACT (hereMask s (fun n => lvl s .saf (88 + n)))
  let s := s.set SAFM.LC_INT (doorMask (fun n => s.hasDw n && lcBroken s .saf n))
  let s := s.setB COLM.ESTOP (!estopMade s .col || latched s .col 0)
  let s := s.setB COLM.LATCH (s.on COLM.LATCH_COL)
  let s := s.setB COLM.ESTOP_1 (lvl s .col 0)
  let s := s.setB COLM.ESTOP_2 (lvl s .col 1)
  let s := s.setB COLM.ZS_A (lvl s .col 2)
  let s := s.setB COLM.ZS_B (lvl s .col 3)
  let s := s.setB COLM.REL_LEFT (lvl s .col 4)
  let s := s.setB COLM.REL_RIGHT (lvl s .col 5)
  let s := s.setB COLM.EDM_A (lvl s .col 6)
  let s := s.setB COLM.EDM_B (lvl s .col 7)
  let s := s.setB COLM.TH_A_NO (lvl s .col 8)
  let s := s.setB COLM.TH_A_NC (lvl s .col 9)
  let s := s.setB COLM.TH_B_NO (lvl s .col 10)
  let s := s.setB COLM.TH_B_NC (lvl s .col 11)
  let s := s.setB COLM.RESET (lvl s .col 12)
  let s := s.setB COLM.DEPOT (lvl s .col 13)
  let s := s.set COLM.LC_A (hereMask s (fun n => lvl s .col (96 + n)))
  let s := s.set COLM.LC_B (hereMask s (fun n => lvl s .col (104 + n)))
  let s := s.setB CYC.REL_L_HW (lvl s .saf 4)
  let s := s.setB CYC.REL_R_HW (lvl s .saf 5)
  let s := s.setB CYC.ZS_HW (zsWire s .saf)
  let s := s.setB CYC.REL_L_TG (s.on DST.REL_L_TG)
  let s := s.setB CYC.REL_R_TG (s.on DST.REL_R_TG)
  let s := s.setB CYC.ZS_TG (s.on DST.ZS_TG)
  let s := s.set CYC.CLOK_MASK (doorMask (clOk s .saf))
  let s := s.set CYC.INSVC_MASK (doorMask s.inSvc)
  s.set CYC.SIDE_MASK (doorMask (fun n => s.hasDw n && sideRight s n))

/-- The readings of one doorway on page CYC (R209). -/
def doorShow (s : State) (n : Nat) : State :=
  let s := s.setB (CYCD.IN_SVC n) (s.inSvc n)
  let s := s.setB (CYCD.STEP_FIT n) (stepFit s n)
  let s := s.setB (CYCD.SIDE n) (sideRight s n)
  let s := s.setB (CYCD.OP_SAF n) (s.bit SAFM.OP_SAF_M n)
  let s := s.setB (CYCD.OP_COL n) (s.bit COLM.OP_COL_M n)
  let s := s.setB (CYCD.LOCK_GATE n) (gateOpen s n)
  let s := s.setB (CYCD.CL_OK n) (clOk s .saf n)
  let s := s.setB (CYCD.DCL_L n) (lvl s .saf (16 + n))
  let s := s.setB (CYCD.DCL_R n) (lvl s .saf (24 + n))
  let s := s.setB (CYCD.LOCKFB n) (lvl s .saf (32 + n))
  let s := s.setB (CYCD.STOWED n) (lvl s .saf (40 + n))
  let s := s.setB (CYCD.EGR_OP n) (egrOp s .saf n)
  let s := s.setB (CYCD.ISOL n) (lvl s .saf (72 + n))
  let st := s.get (CYCD.STATE n)
  let s := s.setB (CYCD.ISOL_PEND n) (lvl s .saf (72 + n) && st != 0 && st != 0xB && st != 0xF)
  s.setB (CYCD.TH_ACTIVE n) s.saf.saf.report

/-- The guided contact of an ADCL relay (R224): it follows its coil, unless it has been found not to. -/
def guided (s : State) (b coil : Bool) : Bool := if bitAt s.saf.stuck (bit1 b) then bitAt s.saf.stuckLv (bit1 b) else coil

/-- What a channel holds of its EDM inputs after the contactors they belong to may have changed their drive: `a` and `b` say
which have. An input that reads as the new drive asks has followed it. -/
def chanFollow (s : State) (c : Channel) (a b : Bool) : State :=
  let x := s.chan c
  s.setChan c { x with
    folA := if a then edmLvl s c false != edmDriven s false else x.folA
    folB := if b then edmLvl s c true != edmDriven s true else x.folB }

/-- A change of what drives the contactor of EDM_A or EDM_B is timed (R226). -/
def edmFollow (s0 s : State) : State :=
  let a := edmDriven s false != edmDriven s0 false
  let b := edmDriven s true != edmDriven s0 true
  let s := if a then { s with saf := { s.saf with coilA := s.tick } } else s
  let s := if b then { s with saf := { s.saf with coilB := s.tick } } else s
  chanFollow (chanFollow s .saf a b) .col a b

/-- ADCL coils and contacts (R224). -/
def adclDrive (s : State) : State :=
  let s := (s.setB CYC.ADCL_SAF (adclVerdict s .saf)).setB CYC.ADCL_COL (adclVerdict s .col)
  let s0 := s
  let a := coilOf s .saf
  let b := coilOf s .col
  let s := (s.setB SAFM.ADCL_A_ON a).setB SAFM.ADCL_A_RB (guided s false a)
  let s := ((s.setB COLM.ADCL_B_ON b).setB COLM.ADCL_B_RB (guided s true b)).setB COLM.ADCL_ALLOW (allowB s)
  edmFollow s0 s

/-- A moving axis whose permit has gone stops with cause 0x4 (R109, R191); where it is at rest or stopping already, the
withdrawal of its motion permit only flushes. `before` is MOT_PERMIT as it stood. -/
def permitStop (before : Nat) (s : State) (n : Nat) : State :=
  let a := s.ax n
  let still := a.atRest || !s.on (AX.TORQUE n) || (s.on (AX.STOPPING n) && a.after.isNone)
  let gone := if still then bitAt before n && !s.bit SAFM.MOT_PERMIT n else !permitFor s n (0 < a.vel)
  if gone && !a.reqs.contains (.stop 4) then axAsk s n (.stop 4) else s

/-- A reversal request of the safety processor (R136, R218): sent once, counted, on its way to Traverse. -/
def sendReversal (s : State) (n : Nat) : State :=
  if bitAt s.saf.revReq n then s
  else
    let s := s.count SAFM.REV_REQ_CNT
    { s with saf := { s.saf with revReq := putBit s.saf.revReq n true } }

/-- A closing door axis with a restrictive edge or light curtain is reversed (R197, R199, R218): in crew-supervised closing
only the edges do so. The safety processor's own force estimate, from the same measurements and models, has it reversed
where Traverse has not begun to at the update after its trip (R136). -/
def obstacles (s : State) (n : Nat) : State :=
  let a := s.ax n
  let edge := edgeAct s .saf n
  let curtain := lcBroken s .saf n && !thClosing s n
  let force := 4 < a.overN && !s.on (AX.HOMING n) && !thClosing s n
  if 8 ≤ n || 0 ≤ a.vel || a.reversing || !s.on (AX.TORQUE n) || !chanUp s .saf then s
  else
    let s1 := if edge then s.source n 2 else s
    let s1 := if curtain then s1.source n 3 else s1
    let s1 := if force then s1.source n 1 else s1
    if edge || curtain || force then sendReversal s1 n else s1

/-- The reversal watch of an axis (R223, R232): it ends with success when DIR_OPEN sets, and without a latch when torque
goes. -/
def watchSync (s : State) (n : Nat) : State :=
  if bitAt s.saf.watch n && (s.on (AX.DIR_OPEN n) || !s.bit COLM.TEN_MASK n) then
    { s with saf := { s.saf with watch := putBit s.saf.watch n false } }
  else s

/-- The permits and enables. -/
def safetyPermits (s : State) : State :=
  let s := s.setChan .saf { s.saf.saf with iso := isoNext s .saf }
  let s := s.setChan .col { s.saf.col with iso := isoNext s .col }
  let s := s.set SAFM.OP_SAF_M (doorMask (openPermit s .saf))
  let s := s.set COLM.OP_COL_M (doorMask (openPermit s .col))
  let s := (s.set CYC.OP_SAF_MASK (s.get SAFM.OP_SAF_M)).set CYC.OP_COL_MASK (s.get COLM.OP_COL_M)
  let s := s.set SAFM.LOCK_EN_SAF (doorMask (gateOf s .saf))
  let s := s.set COLM.LOCK_EN_COL (doorMask (gateOf s .col))
  let s := eachAx (fun s n => if s.on (AX.HOMED n) && !(s.ax n).encLost then s.setBit SAFM.ENC_HOLD n false else s) s
  let s := s.set SAFM.MOT_PERMIT (maskOf (motPermit s) 16)
  let s := s.set SAFM.TQ_PERMIT (maskOf (tqPermit s) 16)
  s.set COLM.TEN_MASK (maskOf (tenOf s) 16)

/-- The state of the safety kernel (R234): permits withheld for one of the causes of R230. -/
def safState (s : State) : Nat :=
  if s.inRefuge then 3
  else if !s.on SAFM.SP_RUN then 0
  else if s.on SAFM.ENC_HOLD || s.on SAFM.HOST_WD || s.on SAFM.NET_RESTR || anyBelow 16 (fun a => bitAt s.voteBad (pgAX a)) then 2
  else 1

/-- Both channels re-evaluate everything they form. -/
def safetyEval (s : State) : State :=
  let gates := fun (s : State) => (s.get SAFM.LOCK_EN_SAF, s.get COLM.LOCK_EN_COL)
  let before := gates s
  let permits := s.get SAFM.MOT_PERMIT
  let s := safetyPermits s
  let s := safetyShow s
  let s := eachDw doorShow s
  let s := s.set SAFM.SAF_STATE (safState s)
  let s := stoSync s
  let s := eachAx (permitStop permits) s
  let s := eachAx obstacles s
  let s := eachAx watchSync s
  let s := adclDrive s
  if gates s = before then s else gateSync s

end Sys2Proof.Machine
end

