-- ==== Sys2Proof/Machine/Links.lean ====
section
/-! DEFINITION. The head ports and their links, frames in the rings, calibration and the Glowworm check (R143 to R163). -/

namespace Sys2Proof.Machine

/-- What is held for a head. -/
def State.head (s : State) (h : Nat) : Head := mapFind Head.init h s.heads
def State.setHead (s : State) (h : Nat) (x : Head) : State := { s with heads := mapPut Head.init h x s.heads }

/-- Apply `f` to each head of the member. -/
def eachHead (f : State → Nat → State) (s : State) : State := eachUpTo 16 (fun t h => if t.hasHead h then f t h else t) s

/-- The states of a port (R146). -/
abbrev lsOFF := 0
abbrev lsPOWER := 1
abbrev lsTRAIN := 2
abbrev lsIDENT := 3
abbrev lsCALIB := 4
abbrev lsRUN := 5
abbrev lsFAULT := 6
abbrev lsREJECT := 7
abbrev lsTRIP := 8

/-- The state of a port. -/
def link (s : State) (h : Nat) : Nat := s.get (LH.LINK_STATE h)

/-- Whether the port hardware runs: powered, its clock LINK there (R50). -/
def linksRun (s : State) : Bool := s.domOn 6 && !s.bit CLK.CLK_FAIL 6

/-- The masks of page LANT (R163). -/
def lantShow (s : State) : State :=
  let m := fun (r : Nat → Reg) => maskOf (fun h => s.hasHead h && s.on (r h)) 16
  let s := (s.set LANT.RUN_MASK (m LH.RUN)).set LANT.UP_MASK (m LH.LINK_UP)
  let s := (s.set LANT.GOOD_MASK (m LH.GW_GOOD)).set LANT.BURST_MASK (m LH.BURST)
  let s := s.setB LANT.ANY_SHED (m LH.HP_SHED != 0)
  let s := s.setB LANT.ANY_BURST (m LH.BURST != 0)
  let s := s.setB LANT.ANY_DOWN (anyBelow 16 (fun h => s.hasHead h && s.on (HDR.EN (pgLH h)) && link s h != lsRUN))
  s.setSat LANT.HP_TOTAL ((List.range 16).foldl (fun t h => t + (if s.hasHead h then s.get (LH.HP_MW h) else 0)) 0)

/-- A slot given up: free, its header standing until it is taken again (R159). -/
def Slot.release (q : Slot) : Slot := { q with state := 0 }

/-- A frame that is only partly there is discarded (R158). -/
def dropFilling (s : State) (h : Nat) : State :=
  let x := s.head h
  if x.slots.any (·.state = 1) then
    (s.countDrop (pgLH h) (LH.FRM_INC_CNT h)).setHead h
      { x with slots := x.slots.map (fun q => if q.state = 1 then q.release else q) }
  else s

/-- The port leaves RUN, whatever follows. -/
def leaveRun (s : State) (h : Nat) : State :=
  let s := dropFilling s h
  let s := (s.setB (LH.RUN h) false).setB (LH.GEAR_LOW h) false
  let s := (s.setB (LH.BURST h) false).setB (LH.FRAME_STALE h) false
  echoHead ((s.set (LH.MODE h) 0).setHead h { s.head h with shots := [] }) h

/-- A port in a new state. -/
def toState (s : State) (h st : Nat) : State := lantShow (s.set (LH.LINK_STATE h) st)

/-- Powering the coax: POWER, waiting for PRESENT and link ready (R146). -/
def toPower (s : State) (h : Nat) : State :=
  let s := ((s.setB (LH.PWR_TRIP h) false).setB (LH.HP_SHED h) false).set (LH.REJ_CODE h) 0
  toState s h lsPOWER

/-- The link of a port is gone (R146): LINK_UP, gear, version and the calibration in force with it. -/
def linkDown (s : State) (h : Nat) : State :=
  let s := ((s.setB (LH.LINK_UP h) false).setB (LH.CAL_OK h) false).set (LH.GEAR h) 0
  leaveRun ((s.setB (LH.ID_OK h) false).set (LH.HVER h) 0) h

/-- The port without power (R144, R146). -/
def unpower (s : State) (h st : Nat) : State :=
  let s := ((linkDown s h).setB (LH.PRESENT h) false).set (LH.HP_MW h) 0
  toState (s.set (LH.HP_V h) 0) h st

/-- A port that EN and P6 switch on (R144, R146): one that tripped or was shed waits for its retry or restore. -/
def portUp (s : State) (h : Nat) : State :=
  if link s h != lsOFF then s
  else if s.on (LH.PWR_TRIP h) || s.on (LH.HP_SHED h) then toState s h lsTRIP else toPower s h

/-- EN or P6 decides whether a port is powered (R146, R161); without the clock LINK none starts (R50). Trips and sheds are forgotten
with P6 only (R144). -/
def portSync (s : State) (h : Nat) : State :=
  if !s.hasHead h then s
  else if s.on (HDR.EN (pgLH h)) && s.domOn 6 then (if linksRun s then portUp s h else s)
  else
    let s := if s.domOn 6 then s else (s.setB (LH.PWR_TRIP h) false).setB (LH.HP_SHED h) false
    if link s h = lsOFF then s else unpower s h lsOFF

/-- P6 has come on (R60, R144, R182): trips are forgotten, good standing asks for four good checks. -/
def portsOn (s : State) : State :=
  let s := s.setB LANT.HP_OK true
  lantShow (eachHead (fun s h =>
    let s := (s.set (LH.GW_RUN h) 0).setB (LH.GW_GOOD h) false
    portSync (s.setHead h { s.head h with
      trips := []
      dead := false
      need := 4
      silent := false
      code := none }) h) s)

/-- A fault of a port (R146): the first one after RUN goes back to POWER at once, any other waits in FAULT. -/
def portFault (s : State) (h : Nat) : State :=
  let x := s.head h
  let s := s.setHead h { x with ran := false }
  if x.ran then toPower s h else toState s h lsFAULT

/-- A link loss (R146): counted. -/
def linkLoss (s : State) (h : Nat) : State :=
  portFault (linkDown (s.countFault (pgLH h) (LH.LINK_LOSS_CNT h)) h) h

/-- Column draws a code (R160); the code is a free value. At the entry to RUN only the tick tells the instant. -/
def drawCode (s : State) (h : Nat) (us : Option Nat) : State :=
  let c := (Config.glowCode s.freeCtr).toNat
  (s.draw).setHead h { s.head h with
    code := some c
    codeUs := us
    codeAt := s.tick
    stamp := none
    report := none }

/-- The port hardware stamps a code with the number of the check frame being triggered (R160), the first whose trigger lies at
least 2 ms after the draw: 66 Drip counts where the draw was at the entry to RUN. -/
def stampCode (s : State) (h num us : Nat) : State :=
  let x := s.head h
  let due := match x.codeUs with | some u => u + 2000 ≤ us | none => x.codeAt + 66 ≤ s.tick
  if num % 16 = 0 && x.code.isSome && x.stamp.isNone && due then s.setHead h { x with stamp := some num } else s

/-- A mismatch (R160, R182): good standing ends until 64 good checks have followed. -/
def glowMismatch (s : State) (h : Nat) : State :=
  let s := s.countFault (pgLH h) (LH.GW_FAIL_CNT h)
  let s := ((s.set (LH.GW_RESULT h) 2).set (LH.GW_RUN h) 0).setB (LH.GW_GOOD h) false
  lantShow (s.setHead h { s.head h with need := 64 })

/-- Shift of each target in a check frame (R160): its depth less the depth interpolated in frame time between the frames
before and after, in 0.25 mm. -/
def glowShifts (a b c : Nat × Nat × List (Option Int)) : List Int :=
  (List.range 4).filterMap (fun i =>
    match a.2.2.getD i none, b.2.2.getD i none, c.2.2.getD i none with
    | some da, some db, some dc =>
      let span : Nat := (c.2.1 + 2 ^ 32 - a.2.1) % 2 ^ 32
      let into : Int := ((b.2.1 + 2 ^ 32 - a.2.1) % 2 ^ 32 : Nat)
      some (((Ratio.int db).sub ((Ratio.int da).add (mkRatio ((dc - da) * into) span))).round)
    | _, _, _ => none)

/-- Targets found in a frame (R160): once the frames around a check frame are in, Lantern reports its shifts. -/
def glowReport (s : State) (h num time : Nat) (targets : List (Option Int)) : State :=
  let x := s.head h
  let seen := ((num, time, targets) :: x.seen).take 3
  let x := { x with seen := seen }
  match seen with
  | c :: b :: a :: _ =>
    if b.1 % 16 = 0 && a.1 + 1 = b.1 && b.1 + 1 = c.1 then
      s.setHead h { x with report := some (b.1, glowShifts a b c) }
    else s.setHead h x
  | _ => s.setHead h x

/-- c' of a target (R160), and whether it is resolved: the residual at most 3 mm. Shifts are in 0.25 mm. -/
def glowCodeOf (shift : Int) : Int := (mkRatio shift 32).round
def glowResolved (shift : Int) : Bool := (shift - 32 * glowCodeOf shift).natAbs ≤ 12

/-- Column's verdict on the check of code `c` (R160, R182). -/
def glowJudge (s : State) (h c : Nat) : State :=
  let x := s.head h
  let shifts := match x.report with | some (f, l) => if x.stamp = some f then l else [] | none => []
  let got := (shifts.filter glowResolved).map glowCodeOf
  let s := s.set (LH.GW_SENT h) c
  let s := match got with | g :: _ => s.set (LH.GW_REP h) (un 4 g) | [] => s
  if got.isEmpty then s.set (LH.GW_RESULT h) 3
  else if got.all (· = (c : Int)) then
    let s := ((s.set (LH.GW_RESULT h) 1).count (LH.GW_RUN h)).set (LH.GW_MS h) 0
    let s := s.setHead h { s.head h with silent := false }
    if x.need ≤ s.get (LH.GW_RUN h) then s.setB (LH.GW_GOOD h) true else s
  else glowMismatch s h

/-- Column decides a check and draws the next code (R160, R161). In RUN that waits until the frame after the check frame has been
triggered, and for ever where the clock LINK has failed (R50); a code whose frame will not come, its port out of RUN, is decided as
it stands. -/
def glowDecide (s : State) (h us : Nat) : State :=
  let x := s.head h
  let waits := link s h = lsRUN && (!linksRun s || match x.stamp with | some f => x.next ≤ f + 1 | none => true)
  match x.code with
  | none => s
  | some c => if waits then s else lantShow (drawCode (glowJudge s h c) h (some us))

/-- RUN is entered (R146, R149, R158, R160, R161): frame numbers restart, frames complete or in use keep their slots, a check
still open is decided, Column draws its first code. -/
def enterRun (s : State) (h : Nat) : State :=
  let s := ((s.setB (LH.RUN h) true).setB (LH.CAL_OK h) true).setB (LH.GEAR_LOW h) (s.get (LH.GEAR h) = 1)
  let s := match (s.head h).code with | some c => glowJudge s h c | none => s
  let s := s.setHead h { s.head h with
    next := 0
    shots := []
    lastDone := none
    calTries := 0
    full := false
    ran := true
    seen := [] }
  echoHead (toState (drawCode s h none) h lsRUN) h

/-- Bytes of the identity block, most of its numbers 16 and 32 bits, least significant byte first (R148). -/
def idNum (l : List Nat) (at0 n : Nat) : Nat := leNum ((l.drop at0).take n)

/-- The version both sides support, 0 for none (R147): version 1 from Vangusk heads only. -/
def idVersion (l : List Nat) : Nat :=
  if bitAt (idNum l 0x10 1) 1 then 2 else if bitAt (idNum l 0x10 1) 0 && idNum l 0 2 = 0x5647 then 1 else 0

/-- REJ_CODE of an identity block, 0 for accepted (R147). -/
def idReject (l : List Nat) (fmtOk : Bool) : Nat :=
  if idVersion l = 0 then 1 else if !fmtOk then 2 else if 8000 < idNum l 0x14 4 then 3
  else if idNum l 0x13 1 = 0 then 4 else 0

/-- CALIB is entered (R156): a RECAL carried so far asks for a full read. -/
def toCalib (s : State) (h : Nat) : State :=
  let x := s.head h
  toState (s.setHead h { x with
    full := x.recal
    recal := false
    calTries := 0 }) h lsCALIB

/-- The identity block has been read (R147, R148, R160, R161). -/
def identDone (s : State) (h : Nat) (id : List Nat) (fmtOk : Bool) : State :=
  if link s h != lsIDENT || !linksRun s then s
  else
    let id := (id ++ List.replicate 256 0).take 256
    let s := s.wrBytes (pgLH (h % 16)) 2 0 id
    let ser := idNum id 4 8
    let s := (s.set (LH.HEAD_VENDOR h) (idNum id 0 2)).set (LH.HEAD_MODEL h) (idNum id 2 2)
    let s := (s.set (LH.HEAD_SER_HI h) (ser / 2 ^ 32)).set (LH.HEAD_SER_LO h) (ser % 2 ^ 32)
    let s := s.set (LH.CAL_CRC h) (idNum id 0x20 4)
    let x := s.head h
    let swapped := match x.known with | some k => k != ser | none => false
    let s := s.setHead h { x with known := some ser }
    let s := if swapped then glowMismatch s h else s
    let rej := idReject id fmtOk
    let s := s.set (LH.REJ_CODE h) rej
    if rej != 0 then toState s h lsREJECT
    else toCalib ((s.set (LH.HVER h) (idVersion id)).setB (LH.ID_OK h) true) h

/-- The serial number and calibration CRC a port shows. -/
def calKey (s : State) (h : Nat) : Nat × Nat :=
  (s.get (LH.HEAD_SER_HI h) * 2 ^ 32 + s.get (LH.HEAD_SER_LO h), s.get (LH.CAL_CRC h))

/-- An entry of the calibration table (R155): ray X and Y in 1/32767, offset in 0.1 mm, gain; gain 0 is dead. -/
structure Ray where
  x   : Int
  y   : Int
  ofs : Int
  gn  : Nat
  deriving DecidableEq, Repr

/-- The entry at a place of the partition. -/
def rayRead (s : State) (a : Nat) : Ray :=
  ⟨sx 16 (s.rd16 pgLANT spPart a), sx 16 (s.rd16 pgLANT spPart (a + 2)), sx 16 (s.rd16 pgLANT spPart (a + 4)),
    s.rd16 pgLANT spPart (a + 6)⟩

/-- Entry (x, y) of the full table. -/
def rayAt (s : State) (h x y : Nat) : Ray :=
  rayRead s (partCal h + 64 + (y * 2048 + x) * 8)

/-- Ray Z in units of 1/32767/65536. -/
def rayZ (x y : Int) : Int := (isqrt ((32767 * 32767 - x * x - y * y).toNat * 2 ^ 32) : Nat)

/-- An entry of the binned table as CALIB derives it (R156): the mean of four live entries, its ray of unit length, each number
rounded to the nearest (the spec states no rounding: log 100). -/
def rayMean (s : State) (h x y : Nat) : Ray :=
  let l := [rayAt s h (2 * x) (2 * y), rayAt s h (2 * x + 1) (2 * y), rayAt s h (2 * x) (2 * y + 1),
    rayAt s h (2 * x + 1) (2 * y + 1)].filter (fun r => r.gn != 0)
  let sum := fun (f : Ray → Int) => l.foldl (fun t r => t + f r) 0
  let sx0 := sum (·.x) * 65536
  let sy0 := sum (·.y) * 65536
  let sz0 := sum (fun r => rayZ r.x r.y)
  let norm := isqrt (sx0 * sx0 + sy0 * sy0 + sz0 * sz0).toNat
  if l.isEmpty then ⟨0, 0, 0, 0⟩
  else ⟨(mkRatio (32767 * sx0) norm).round, (mkRatio (32767 * sy0) norm).round, (mkRatio (sum (·.ofs)) l.length).round,
    (mkRatio (sum (fun r => (r.gn : Int))) l.length).round.toNat⟩

/-- Entry (x, y) of the binned table, 1024 entries a row (R157). -/
def rayBin (s : State) (h x y : Nat) : Ray := rayRead s (partBin h + (y * 1024 + x) * 8)

/-- The entries of the full table that hold something, by index. -/
def calEntries (s : State) (h : Nat) : List Nat :=
  ((s.listed pgLANT spPart (partCal h + 64) 0x1000000).map (fun e => e.1 / 8)).eraseDups

/-- Whether the CRC of the entries is that of the header (R155, R156). -/
def calCrcOk (s : State) (h : Nat) : Bool :=
  s.crcOf pgLANT spPart (partCal h + 64) 0x1000000 = s.rd32 pgLANT spPart (partCal h + 8)

/-- Whether every live ray has X² + Y² at most 1.0001 (R156). -/
def calRaysOk (s : State) (h : Nat) : Bool :=
  (calEntries s h).all (fun e =>
    let r := rayAt s h (e % 2048) (e / 2048)
    r.gn = 0 || (r.x * r.x + r.y * r.y) * 10000 ≤ 10001 * 32767 * 32767)

/-- The binned table of a valid full table (R156); an entry none of whose four holds anything stays dead. -/
def calBin (s : State) (h : Nat) : State :=
  (calEntries s h).foldl (fun (t : State) e =>
    let x := e % 2048 / 2
    let y := e / 4096
    let r := rayMean s h x y
    let a := partBin h + (y * 1024 + x) * 8
    (t.wr32 pgLANT spPart a (un 16 r.x + un 16 r.y * 65536)).wr32 pgLANT spPart (a + 4) (un 16 r.ofs + r.gn * 65536)) s

/-- A read of the table that was no good (R146, R156): the third one in a CALIB ends in REJECT. -/
def calibFailed (s : State) (h : Nat) : State :=
  let x := s.head h
  if 2 ≤ x.calTries then
    toState ((s.set (LH.REJ_CODE h) 5).setHead h { x with
      calTries := 0
      calHave := false }) h lsREJECT
  else s.setHead h { x with
    calTries := x.calTries + 1
    calHave := false }

/-- The table a read delivered, in its place (R155, R157). -/
def calStore (s : State) (h : Nat) (words : List (Nat × Nat)) : State :=
  words.foldl (fun (s : State) w => s.wr32 pgLANT spPart (partCal h + 4 * (w.1 % 0x400010)) w.2)
    (s.wipeBytes pgLANT spPart (partCal h) 0x1500000)

/-- CALIB has read or verified its table (R150, R156): a stored copy whose CRC no longer verifies is read again. -/
def calibDone (s : State) (h : Nat) (rd : CalRead) : State :=
  let x := s.head h
  if link s h != lsCALIB || !linksRun s then s
  else match rd with
  | .failed => calibFailed s h
  | .cached =>
    if !x.calHave || x.calFor != calKey s h || x.full then s
    else if calCrcOk s h then enterRun s h
    else s.setHead h { x with calHave := false }
  | .read words =>
    let s := calStore s h words
    if calCrcOk s h && calRaysOk s h then
      enterRun ((calBin s h).setHead h { x with
        calHave := true
        calFor := calKey s h }) h
    else calibFailed s h

/-- RETRAIN (R144, R146, R161): a link loss at the command; it also ends REJECT, a trip and the rest after a third one. DESIGN CHOICE
(log 127): in TRAIN, IDENT and CALIB it is a counted link loss too, and in FAULT it ends the wait at once. -/
def retrain (s : State) (h : Nat) : State :=
  let st := link s h
  let s := s.setHead h { s.head h with dead := false }
  if lsTRAIN ≤ st && st ≤ lsRUN then linkLoss s h
  else if st = lsREJECT || st = lsFAULT then toPower (linkDown s h) h
  else if st = lsTRIP && !s.on (LH.HP_SHED h) then toPower s h
  else if st = lsOFF then s.setB (LH.PWR_TRIP h) false
  else s

/-- RECAL (R156): a port in RUN leaves it for a full read, any other carries the request to its next entry to CALIB. -/
def recal (s : State) (h : Nat) : State :=
  let s := s.setHead h { s.head h with recal := true }
  if link s h = lsRUN then toCalib ((leaveRun s h).setB (LH.CAL_OK h) false) h else s

/-- A write of LH_CMD. -/
def lhCommand (s : State) (h val : Nat) : Wrote :=
  match val with
  | 0xC1 => (retrain s h, false)
  | 0xC2 => (recal s h, false)
  | _ => (s, true)

/-- The port's power goes off by a trip (R144): counted, with the link it loses one event of the page (R391); a third within 60 s leaves it off. -/
def powerTrip (s : State) (h : Nat) : State :=
  let x := s.head h
  let trips := s.tick :: x.trips.filter (fun t => s.tick < t + 60 * 32768)
  let s := if s.on (LH.LINK_UP h) then s.count (LH.LINK_LOSS_CNT h) else s
  let s := (s.countFault (pgLH h) (LH.PWR_TRIP_CNT h)).setB (LH.PWR_TRIP h) true
  unpower (s.setHead h { x with trips := trips, dead := 3 ≤ trips.length }) h lsTRIP

/-- Measured port powers. -/
def portPowers (s : State) (mw : List Nat) : State :=
  lantShow (eachHead (fun s h => s.setSat (LH.HP_MW h) (mw.getD h 0)) s)

/-- The sum of port powers, 0.1 W. -/
def powerSum (mw : List Nat) : Nat := (mw.take 16).foldl (· + ·) 0

/-- The port of highest power, the higher index winning a tie (R144). -/
def powerTop (s : State) (mw : List Nat) : Option Nat :=
  (List.range 16).foldl (fun best h =>
    if !s.hasHead h || mw.getD h 0 = 0 then best
    else match best with
    | none => some h
    | some k => if mw.getD k 0 ≤ mw.getD h 0 then some h else best) none

/-- HEAD_BUDGET_SHED (R144). -/
def budgetShed (s : State) (mw : List Nat) : State :=
  let s := portPowers s mw
  if powerSum mw ≤ 960 then s
  else match powerTop s mw with
    | none => s
    | some h =>
      let s := if s.on (LH.LINK_UP h) then s.count (LH.LINK_LOSS_CNT h) else s
      let s := (s.countFault (pgLH h) (LH.PWR_TRIP_CNT h)).count LANT.HP_SHED_CNT
      unpower (s.setB (LH.HP_SHED h) true) h lsTRIP

/-- Whether a head triggers at an instant (R152): its slot's offset and a multiple of the period, to the microsecond. In thirds of
a microsecond the offset is 6250 a slot, the period 100,000 or in burst mode 25,000. -/
def onGrid (s : State) (h us : Nat) (burst : Bool) : Bool :=
  let at0 := 6250 * s.get (LH.SLOT h)
  at0 ≤ 3 * us + 2 && (3 * us + 2 - at0) % (if burst then 25000 else 100000) ≤ 4

/-- Whether the next frame of a head is a burst frame (R147, R154): a request counts 0.5 ms, 17 Drip counts, after it is made,
for a port just in RUN at once; a version 1 head stays in normal mode. -/
def nextBurst (s : State) (h : Nat) : Bool :=
  let want := 2 ≤ s.get (LH.HVER h) && s.on (LVOLD.BURST_REQ (h / 2))
  if (s.head h).next != 0 && s.tick < (s.dw (h / 2)).burstAt + 17 then s.on (LH.BURST h) else want

/-- A trigger (R152, R154, R160): at the first instant of the grid of the mode that takes effect at it, at least 4 ms after the one
before. The frame time is the trigger plus the exposure midpoint; the axis is read at its update nearest that instant (log 103). -/
def frameTrigger (s : State) (h us : Nat) : State :=
  let want := nextBurst s h
  let x := s.head h
  if link s h != lsRUN || !linksRun s || !onGrid s h us want || (x.next != 0 && us < x.trig + 4000) then s
  else
    let a := s.ax (h / 2)
    let s := if want && !s.on (LH.BURST h) then s.count (LH.BURST_CNT h) else s
    let s := stampCode ((s.setB (LH.BURST h) want).set (LH.MODE h) (bit1 want)) h x.next us
    let x := s.head h
    let mid := s.rd32 (pgLH h) 2 0x18
    let time := (us + mid) % 2 ^ 32
    lantShow (s.setHead h { x with
      trig := us
      next := (x.next + 1) % 2 ^ 32
      shots := x.shots ++ [⟨x.next, time, want, a.upd + (mid + 25) / 50, a.vel, a.atRest && s.on (AX.SW_OPEN (h / 2))⟩] })

/-- The motion of a door axis in the frames of its heads whose frame time has not passed (R169, R173, R207). -/
def shotsSeen (s : State) (n : Nat) : State :=
  let a := s.ax n
  let still := a.atRest && s.on (AX.SW_OPEN n)
  let seen := fun (s : State) h => s.setHead h { s.head h with
    shots := (s.head h).shots.map (fun q => if a.upd ≤ q.upd then { q with vel := a.vel, still := still } else q) }
  seen (seen s (2 * n)) (2 * n + 1)

/-- The width of a frame, and its lines. -/
def frameWidth (burst : Bool) : Nat := if burst then 1024 else 2048
def frameLines (burst : Bool) : Nat := if burst then 512 else 1024

/-- Replace slot `k`. -/
def setSlot (s : State) (h k : Nat) (q : Slot) : State :=
  let x := s.head h
  s.setHead h { x with slots := x.slots.set k q }

/-- The slot a frame number fills. -/
def slotOf (x : Head) (num : Nat) : Option Nat :=
  (List.range 8).find? (fun k => let q := x.slots.getD k Slot.free; q.state = 1 && q.num = num)

/-- A frame's first line takes the lowest-numbered free slot (R158 names none of several: log 100): what still fills is discarded
as incomplete; with no free slot the whole frame is dropped. -/
def openSlot (s : State) (h num : Nat) : State :=
  let x := s.head h
  match x.shots.find? (·.num = num) with
  | none => s
  | some sh =>
    let s := s.setHead h { x with shots := x.shots.filter (fun q => q.num != num) }
    let s := dropFilling s h
    let x := s.head h
    match (List.range 8).find? (fun k => (x.slots.getD k Slot.free).state = 0) with
    | none => s.countDrop (pgLH h) (LH.FRM_FULL_CNT h)
    | some k => setSlot s h k ⟨1, num, sh.time, sh.burst, 0, false, sh.vel, sh.still⟩

/-- Processing takes a complete frame: the older one still waiting is released unprocessed (R179). -/
def frameWaits (s : State) (h k : Nat) : State :=
  let x := s.head h
  if x.slots.any (·.state = 3) then
    let skipped := x.slots.any (·.state = 2)
    let s := if skipped then s.countDrop pgLVOL LVOL.PROC_SKIP_CNT else s
    let slots := x.slots.map (fun q => if q.state = 2 then q.release else q)
    s.setHead h { x with slots := slots.set k { (x.slots.getD k Slot.free) with state := 2 } }
  else setSlot s h k { (x.slots.getD k Slot.free) with state := 3 }

/-- Every line of a frame has arrived (R153, R158): discarded for a bad line, else complete. -/
def frameEnd (s : State) (h k us : Nat) : State :=
  let x := s.head h
  let q := x.slots.getD k Slot.free
  if q.bad then setSlot (s.countDrop (pgLH h) (LH.FRM_CRC_CNT h)) h k q.release
  else
    let missed := match x.lastDone with | some d => (q.num + 2 ^ 32 - d - 1) % 2 ^ 32 | none => 0
    let s := s.countBy (LH.FRM_SKIP_CNT h) missed
    let s := ((s.count (LH.FRM_OK_CNT h)).set (LH.FRAME_NO h) q.num).set (LH.FRAME_TIME h) q.time
    let lat := (us + 2 ^ 32 - q.time) % 2 ^ 32
    let s := (s.setSat (LH.FRAME_LAT h) (lat / 100)).setSat (LH.FRAME_AGE_MS h) (lat / 1000)
    let s := s.setB (LH.FRAME_STALE h) false
    frameWaits (s.setHead h { x with lastDone := some q.num, latest := k }) h k

/-- ING_MBPS of the bits of the latest second (R163), to the nearest 10 Mbit/s as its example rounds 2415.9. -/
def ingestRate (log : List (Nat × Nat)) : Nat := (log.foldl (fun (t : Nat) (e : Nat × Nat) => t + e.1) 0 + 5000000) / 10000000

/-- A line arrives (R153, R157): its pixels go to their place in the slot. -/
def frameLine (s : State) (h num line us : Nat) (crcOk : Bool) (pixels : List Nat) : State :=
  if link s h != lsRUN || !linksRun s then s
  else
    let s := if (slotOf (s.head h) num).isNone then openSlot s h num else s
    match slotOf (s.head h) num with
    | none => s
    | some k =>
      let q := (s.head h).slots.getD k Slot.free
      let w := frameWidth q.burst
      if frameLines q.burst ≤ line then s
      else
        let log := (w * 24, s.tick) :: s.ingest.filter (fun e => s.tick < e.2 + 32768)
        let s := ({ s with ingest := log }).setSat LANT.ING_MBPS (ingestRate log)
        let px := (pixels ++ List.replicate w 0).take w
        let s := s.wrBytes pgLANT spPart (partRing (h % 16) k + line * w * 3) (px.flatMap (fun p => leBytes p 3))
        let q := { q with lines := putBit q.lines line true, bad := q.bad || !crcOk }
        let s := setSlot s h k q
        if q.lines = 2 ^ frameLines q.burst - 1 then frameEnd s h k us else s

/-- 600 ms without a good check (R160, R182). -/
def glowSilence (s : State) (h : Nat) : State :=
  let x := s.head h
  if x.silent then s
  else
    let s := s.countFault (pgLH h) (LH.GW_SIL_CNT h)
    let s := ((s.set (LH.GW_RESULT h) 4).set (LH.GW_RUN h) 0).setB (LH.GW_GOOD h) false
    lantShow (s.setHead h { x with need := 64, silent := true })

/-- HEAD_PRESENT (R145). -/
def execHeadPresent (h : Fin 16) (mw v : Nat) (s : State) : Out State :=
  if !s.hasHead h || link s h = lsOFF || link s h = lsTRIP then .next s
  else .next (lantShow (((s.setB (LH.PRESENT h) true).setSat (LH.HP_MW h) mw).setSat (LH.HP_V h) v))

/-- HEAD_LINK_READY (R146). -/
def execHeadLinkReady (h : Fin 16) (s : State) : Out State :=
  .next (if link s h = lsPOWER && s.on (LH.PRESENT h) && linksRun s then toState s h lsTRAIN else s)

/-- LINK_READY_TIMEOUT (R146). -/
def execLinkReadyTimeout (h : Fin 16) (s : State) : Out State :=
  .next (if link s h = lsPOWER && s.on (LH.PRESENT h) then portFault s h else s)

/-- LINK_TRAIN_DONE (R146). -/
def execLinkTrainDone (h : Fin 16) (gear : Fin 3) (s : State) : Out State :=
  if link s h != lsTRAIN || !linksRun s then .next s
  else if gear.val = 0 then .next (portFault s h)
  else .next (toState (((s.setB (LH.LINK_UP h) true).set (LH.GEAR h) gear).count (LH.TRAIN_CNT h)) h lsIDENT)

/-- PORT_FAULT_WAIT_END (R146). -/
def execPortFaultWaitEnd (h : Fin 16) (s : State) : Out State :=
  .next (if link s h = lsFAULT then toPower s h else s)

/-- HEAD_POWER_TRIP (R144). -/
def execHeadPowerTrip (h : Fin 16) (s : State) : Out State :=
  .next (if !s.hasHead h || link s h = lsOFF || link s h = lsTRIP then s else powerTrip s h)

/-- HEAD_POWER_RETRY (R144): a port whose EN is 0 has its trip behind it. -/
def execHeadPowerRetry (h : Fin 16) (s : State) : Out State :=
  .next (if !s.on (LH.PWR_TRIP h) || (s.head h).dead then s
    else if link s h = lsTRIP then toPower s h else if link s h = lsOFF then s.setB (LH.PWR_TRIP h) false else s)

/-- HEAD_BUDGET_SHED. -/
def execHeadBudgetShed (mw : List Nat) (s : State) : Out State := .next (if s.domOn 6 then budgetShed s mw else s)

/-- HEAD_SHED_RESTORE (R144): powered again where the sum of the others leaves room. -/
def execHeadShedRestore (h : Fin 16) (mw : List Nat) (s : State) : Out State :=
  let s := if s.domOn 6 then portPowers s mw else s
  .next (if !s.on (LH.HP_SHED h) || 960 < powerSum mw then s
    else if link s h = lsOFF then lantShow (s.setB (LH.HP_SHED h) false) else toPower s h)

/-- FRAME_TRIGGER. -/
def execFrameTrigger (h : Fin 16) (us : Nat) (s : State) : Out State := .next (frameTrigger s h us)

/-- FRAME_LINE_RX. -/
def execFrameLineRx (h : Fin 16) (num line us : Nat) (crcOk : Bool) (pixels : List Nat) (s : State) : Out State :=
  .next (frameLine s h num line us crcOk pixels)

/-- FRAME_STALE (R158). -/
def execFrameStale (h : Fin 16) (s : State) : Out State :=
  .next (if link s h = lsRUN then s.setB (LH.FRAME_STALE h) true else s)

end Sys2Proof.Machine
end

