-- ==== Sys2Proof/Machine/Volumes.lean ====
section
/-! DEFINITION. Clear volumes, pinch, dragging and gap from the frames in memory, backgrounds, result records, trust and
Squeeze (R164 to R187). -/

namespace Sys2Proof.Machine

/-- A point in the frame of a doorway, in mm. -/
abbrev Point := Ratio × Ratio × Ratio

/-- One pixel of a frame: its index, and the 24 bits of R151. -/
abbrev Pixel := Nat × Nat

/-- Depth, amplitude and validity of a pixel (R151). -/
def pxDepth (p : Nat) : Nat := p / 4096
def pxAmp (p : Nat) : Nat := bitsOf p 4 8
def pxValid (p : Nat) : Bool := 200 ≤ pxDepth p && p % 2 = 0

/-- The indexes of the pixels of a slot that are not all zero, in rising order; a burst frame fills a quarter of it (R157). -/
def litPixels (s : State) (h k : Nat) (burst : Bool) : List Nat :=
  ((s.listed pgLANT spPart (partRing h k) (3 * frameWidth burst * frameLines burst)).map (fun e => e.1 / 3)).eraseDups

/-- The valid pixels of a slot. A pixel of zeros has no depth, so only the others need a look. -/
def framePixels (s : State) (h k : Nat) (burst : Bool) : List Pixel :=
  ((litPixels s h k burst).map (fun i => (i, leNum (s.rdBytes pgLANT spPart (partRing h k + 3 * i) 3)))).filter
    (fun p => pxValid p.2)

/-- The pose of a head (R165): m11 to m33 in 1/32767, then T in 0.1 mm. -/
def poseM (s : State) (h k : Nat) : Int := sx 16 (s.rd16 pgLVOL 3 (h * 0x40 + 2 * k))
def poseT (s : State) (h k : Nat) : Int := sx 32 (s.rd32 pgLVOL 3 (h * 0x40 + 0x14 + 4 * k))

/-- One coordinate of a head point in the frame of the doorway. -/
def posed (s : State) (h row : Nat) (p : Point) : Ratio :=
  let m := fun k => mkRatio (poseM s h (3 * row + k)) 32767
  ((((m 0).mul p.1).add ((m 1).mul p.2.1)).add ((m 2).mul p.2.2)).add (mkRatio (poseT s h row) 10)

/-- The point of a pixel in the frame of its doorway (R166); none for a dead one. -/
def pointOf (s : State) (h : Nat) (burst : Bool) (p : Pixel) : Option Point :=
  let w := frameWidth burst
  let r := if burst then rayBin s h (p.1 % w) (p.1 / w) else rayAt s h (p.1 % w) (p.1 / w)
  if r.gn = 0 then none
  else
    let len := (mkRatio (pxDepth p.2 * r.gn : Nat) 0x8000).add (mkRatio r.ofs 10)
    let q : Point := (len.mul (mkRatio r.x 32767), len.mul (mkRatio r.y 32767), len.mul (mkRatio (rayZ r.x r.y) (32767 * 65536)))
    some (posed s h 0 q, posed s h 1 q, posed s h 2 q)

/-- The voxel of a point in the box (R164). -/
def voxelOf (p : Point) : Option Nat :=
  let i := ((p.1.add (.int 500)).div (.int 10)).floor
  let j := ((p.2.1.add (.int 300)).div (.int 10)).floor
  let k := (p.2.2.div (.int 10)).floor
  if 0 ≤ i && i < 100 && 0 ≤ j && j < 60 && 0 ≤ k && k < 220 then some ((k * 60 + j) * 100 + i).toNat else none

/-- The centre of a voxel. -/
def voxX (v : Nat) : Int := (v % 100 : Nat) * 10 - 495
def voxY (v : Nat) : Int := (v / 100 % 60 : Nat) * 10 - 295
def voxZ (v : Nat) : Int := (v / 6000 : Nat) * 10 + 5

/-- BG_STATE of a doorway. -/
def bgState (s : State) (n : Nat) : Nat := bitsOf (s.get LVOL.BG_STATE) (4 * n) 4
def setBg (s : State) (n st : Nat) : State :=
  let v := s.get LVOL.BG_STATE
  let s := s.set LVOL.BG_STATE (v - bitsOf v (4 * n) 4 * 2 ^ (4 * n) + st * 2 ^ (4 * n))
  s.setBit LVOL.BG_VALID_MASK n (st = 2)

/-- Whether a voxel is STATIC in the background of a head (R168). -/
def isStatic (s : State) (h v : Nat) : Bool := bitAt (s.rd8 pgLANT spPart (partStatic h + v / 8)) (v % 8)

/-- How many voxels are STATIC for a head. -/
def staticCount (s : State) (h : Nat) : Nat :=
  (s.listed pgLANT spPart (partStatic h) 0x40000).foldl (fun t e => t + popcount e.2 8) 0

/-- A measured position of an axis, some milliseconds ago, in 1/65536 addresses (R140, R170). -/
def posAgo (s : State) (n ms : Nat) : Int := (s.ax n).track.getD ms ((s.ax n).track.getLastD (s.ax n).measured)

/-- A travel from a zero position in mm. -/
def travelMm (s : State) (n : Nat) (pos zero : Int) : Ratio :=
  ((fromFix16 pos).sub (.int zero)).mul (mkRatio (s.get (AX.AX_SCALE n) : Nat) 65536000)

/-- The opening o of a doorway (R170). -/
def openingMm (s : State) (n ms : Nat) : Ratio :=
  travelMm s n (posAgo s n ms) (s.getS64 (LVOLD.LEAF_ZERO_HI n) (LVOLD.LEAF_ZERO_LO n))

/-- Whether the edge position of a doorway is unknown (R170). -/
def edgeUnknown (s : State) (n : Nat) : Bool := !s.on (AX.HOMED n) || (s.ax n).encLost

/-- The edges that LEAF_CFG gives a doorway. -/
def edgeL (s : State) (n : Nat) (o : Ratio) : Option Ratio := if s.get (LVOLD.LEAF_CFG n) = 2 then none else some o.neg
def edgeR (s : State) (n : Nat) (o : Ratio) : Option Ratio := if s.get (LVOLD.LEAF_CFG n) = 1 then none else some o

/-- Whether a voxel lies in a leaf mask (R170). -/
def inMask (s : State) (n : Nat) (l r : Option Ratio) (v : Nat) : Bool :=
  let x := Ratio.int (voxX v)
  let m : Ratio := .int (s.get (LVOLD.LEAF_MARGIN_MM n) : Nat)
  (voxY v).natAbs ≤ s.get (LVOLD.LEAF_Y_MM n) &&
  ((match l with | some e => x.le (e.add m) | none => false) || (match r with | some e => (e.sub m).le x | none => false))

/-- Whether a height lies between SLAB_Z_LO and SLAB_Z_HI. -/
def inSlabZ (s : State) (n : Nat) (z : Ratio) : Bool :=
  (Ratio.int (s.get (LVOLD.SLAB_Z_LO n) : Nat)).le z && z.le (.int (s.get (LVOLD.SLAB_Z_HI n) : Nat))

/-- Whether a voxel lies in the slab of an edge (R171); `right` for edge R. -/
def inSlab (s : State) (n : Nat) (right : Bool) (e : Option Ratio) (v : Nat) : Bool :=
  match e with
  | none => false
  | some e =>
    let ahead : Ratio := .int (s.get (LVOLD.SLAB_AHEAD_MM n) : Nat)
    let behind : Ratio := .int (s.get (LVOLD.SLAB_BEHIND_MM n) : Nat)
    let x := Ratio.int (voxX v)
    (if right then (e.sub ahead).le x && x.le (e.add behind) else (e.sub behind).le x && x.le (e.add ahead)) &&
    (voxY v).natAbs ≤ s.get (LVOLD.SLAB_Y_MM n) && inSlabZ s n (.int (voxZ v))

/-- CLEAR of an edge (R172): the distance to the nearest foreground voxel at slab height, 1 mm. -/
def clearOf (s : State) (n : Nat) (e : Option Ratio) (fg : List Nat) : Nat :=
  match e with
  | none => 0xFFFF
  | some e =>
    (fg.filter (fun v => inSlabZ s n (.int (voxZ v)))).foldl (fun best v =>
      let dx := (Ratio.int (voxX v)).sub e
      let d := isqrt ((dx.mul dx).add (.int (voxY v * voxY v))).floor.toNat
      min best (min d 0xFFFE)) 0xFFFF

/-- Whether a point counts towards THIN (R173). -/
def thinPoint (s : State) (h n : Nat) (p : Point) : Bool :=
  let y : Ratio := .int (s.get (LVOLD.LEAF_Y_MM n) : Nat)
  y.lt p.2.1.abs && p.2.1.abs.le (y.add (.int (s.get (LVOLD.THIN_Y_MM n) : Nat))) &&
  p.1.abs.le (.int (s.get (LVOLD.THIN_X_MM n) : Nat)) && inSlabZ s n p.2.2 &&
  (match voxelOf p with | some v => !isStatic s h v | none => false)

/-- A number put into a rising list. -/
def insertRatio (x : Ratio) : List Ratio → List Ratio
  | [] => [x]
  | y :: l => if x.le y then x :: y :: l else y :: insertRatio x l

/-- The median of a list of numbers, the mean of the two middle ones for an even count. -/
def medianRatio (l : List Ratio) : Ratio :=
  let q := l.foldr insertRatio []
  let k := q.length / 2
  if q.length % 2 = 1 then q.getD k (.int 0) else ((q.getD (k - 1) (.int 0)).add (q.getD k (.int 0))).div (.int 2)

/-- The edge of one column: the smallest y with at least 8 points from y to y + 10 mm (R174). It lies 10 mm before the last of the
first eight points in a row that such a stretch holds, be there a point at y or not (log 113). -/
def columnEdge (ys : List Ratio) : Option Ratio :=
  let q := ys.foldr insertRatio []
  (List.range (q.length - 7)).findSome? (fun i =>
    let y := (q.getD (i + 7) (.int 0)).sub (.int 10)
    if y.le (q.getD i (.int 0)) then some y else none)

/-- GAP_MM of a sill head's frame before its conditions, and the columns accepted (R174). -/
def gapOf (s : State) (n ms : Nat) (pts : List Point) : Int × Nat :=
  let nose := (Ratio.int (s.get (LVOLD.NOSE_Y0_MM n) : Nat)).add
    (travelMm s (8 + n) (posAgo s (8 + n) ms) (s.getS64 (LVOLD.STEP_ZERO_HI n) (LVOLD.STEP_ZERO_LO n)))
  let gx : Ratio := .int (s.get (LVOLD.GAP_X_MM n) : Nat)
  let cols := s.get (LVOLD.GAP_X_MM n) / 5
  let q := pts.filter (fun p => p.1.abs.le gx && (nose.add (.int 5)).le p.2.1 && p.2.1.le (nose.add (.int 1000)) &&
    (Ratio.int (s.getS (LVOLD.GAP_Z_LO n))).le p.2.2 && p.2.2.le (.int (s.getS (LVOLD.GAP_Z_HI n))))
  let edges := (List.range cols).filterMap (fun c =>
    columnEdge ((q.filter (fun p => min (cols - 1) ((p.1.add gx).div (.int 10)).floor.toNat = c)).map (fun p => p.2.1)))
  (((medianRatio edges).sub nose).round, edges.length)

/-- Voxels by their point counts in a frame: each voxel of the box once, with how many points fall in it. -/
def voxelCounts (pts : List Point) : List (Nat × Nat) :=
  (pts.filterMap voxelOf).foldl (fun m v => mapPut 0 v (mapFind 0 v m + 1) m) []

/-- The masks of page LVOL (R186) and the marks of a doorway; the page is frozen while P4 is off (R77). -/
def visionShow (s : State) : State :=
  if !s.domOn 4 then s
  else
    let s := eachDw (fun s n => (s.setB (LVOLD.TRUSTED n) (bitAt s.saf.trust n)).setB (LVOLD.SQZ n) (bitAt s.saf.sqz n)) s
    let s := s.set LVOL.UNTRUST (doorMask (fun n => s.inSvc n && !bitAt s.saf.trust n))
    let s := s.set LVOL.SQZ_MASK s.saf.sqz
    let s := s.set LVOL.THIN (doorMask (fun n => s.on (LVOLD.THIN n)))
    let s := s.set LVOL.PINCH_MASK (doorMask (fun n => s.on (LVOLD.PINCH_L n) || s.on (LVOLD.PINCH_R n)))
    let s := s.set LVOL.BURST_REQ_MASK (doorMask (fun n => s.on (LVOLD.BURST_REQ n)))
    let s := s.set LVOL.LQ_NE (maskOf (fun h => !(s.head h).lq.isEmpty) 16)
    let fill := fun k => (List.range 4).foldl (fun t i => t + (s.head (4 * k + i)).lq.length * 2 ^ (8 * i)) 0
    let s := (s.set LVOL.LQ_FILL0 (fill 0)).set LVOL.LQ_FILL1 (fill 1)
    (s.set LVOL.LQ_FILL2 (fill 2)).set LVOL.LQ_FILL3 (fill 3)

/-- Why the vision of a doorway is untrusted (R181), in the layout of UNT_WHY. -/
def untWhy (s : State) (n : Nat) : Nat :=
  let a := s.head (2 * n)
  let b := s.head (2 * n + 1)
  let f := fun (k : Nat) => bitAt (a.flags.getD 0) k || bitAt (b.flags.getD 0) k
  bit1 (!(s.on (LH.GW_GOOD (2 * n)) && s.on (LH.GW_GOOD (2 * n + 1)))) + 2 * bit1 (a.stale || b.stale) + 4 * bit1 (f 5) +
  8 * bit1 (!(bitAt (a.flags.getD 0) 6 && bitAt (b.flags.getD 0) 6)) + 16 * bit1 (f 8) + 32 * bit1 (f 7) + 64 * bit1 (f 9)

/-- Trust and Squeeze of a doorway (R181, R183). DEDUCED (log 132): a marking counts with Lantern switched off too, since R181 names
that among what becomes staleness. -/
def visionEval1 (s : State) (n : Nat) : State :=
  let why := untWhy s n
  let s := if s.domOn 4 then s.set (LVOLD.UNT_WHY n) why else s
  let marked := bitAt s.saf.sqz n
  let s := if why != 0 && !marked then s.count LVOL.SQZ_CNT else s
  { s with saf := { s.saf with trust := putBit s.saf.trust n (why = 0), sqz := putBit s.saf.sqz n (why != 0) } }

/-- Every doorway; VISION_FULL of page SYS (R73). -/
def visionEval (s : State) : State :=
  let s := eachDw visionEval1 s
  visionShow (s.setB SYS.VISION_FULL (allBelow 8 (fun n => !s.inSvc n || bitAt s.saf.trust n)))

/-- A learning that its conditions no longer bear is aborted (R167). -/
def bgWatch (s : State) : State :=
  eachDw (fun s n =>
    if bgState s n = 1 && ((s.ax n).vel != 0 || !lvl s .saf 13 || !s.on (LH.RUN (2 * n)) || !s.on (LH.RUN (2 * n + 1))) then
      let s := (setBg s n 3).count LVOL.BG_FAIL_CNT
      let s := s.setHead (2 * n) { s.head (2 * n) with learn := none }
      s.setHead (2 * n + 1) { s.head (2 * n + 1) with learn := none }
    else s) s

/-- Burst requests (R180): the doorway closes at no more than 80 mm, or something is near an edge. -/
def burstWanted (s : State) (n : Nat) : Bool :=
  let near := fun h => (s.head h).clearL < 150 || (s.head h).clearR < 150
  ((s.ax n).vel < 0 && !edgeUnknown s n && (openingMm s n 0).le (.int 80)) || near (2 * n) || near (2 * n + 1)

/-- BURST_REQ of a doorway, with the instant of its change (R154, R180). -/
def burstSet (s : State) (n : Nat) (b : Bool) : State :=
  if s.on (LVOLD.BURST_REQ n) = b then s
  else (s.setB (LVOLD.BURST_REQ n) b).setDw n { s.dw n with burstAt := s.tick }

/-- Burst requests raised by what holds now (R180), while volume processing runs. -/
def burstWatch (s : State) : State :=
  if !s.works pgLVOL then s
  else visionShow (eachDw (fun s n => if burstWanted s n then burstSet s n true else s) s)

/-- The latest results of a doorway from both heads (R187). -/
def resultShow (s : State) (n : Nat) : State :=
  let a := s.head (2 * n)
  let b := s.head (2 * n + 1)
  let s := s.setB (LVOLD.THIN n) (a.thin || b.thin)
  let s := s.setB (LVOLD.PINCH_L n) (bitAt a.pinch 0 || bitAt b.pinch 0)
  let s := s.setB (LVOLD.PINCH_R n) (bitAt a.pinch 1 || bitAt b.pinch 1)
  let s := (s.set (LVOLD.CLEAR_L n) (min a.clearL b.clearL)).set (LVOLD.CLEAR_R n) (min a.clearR b.clearR)
  if burstWanted s n then burstSet s n true else s

/-- Sum of the squared differences of a list of depths from their mean, times how many they are. -/
def spread (l : List Nat) : Nat :=
  let sum := l.foldl (· + ·) 0
  l.length * l.foldl (fun t d => t + d * d) 0 - sum * sum

/-- A number put into a rising list. -/
def insertNat (x : Nat) : List Nat → List Nat
  | [] => [x]
  | y :: l => if x ≤ y then x :: y :: l else y :: insertNat x l

/-- The noise of the watched pixels in 0.01 mm (R184): the free value, held between the lower middle of the deviations over all 32
depths rounded down and the upper middle of those over 31 rounded up. -/
def noiseOf (full : List (List Nat)) : Nat :=
  let lo := (full.map (fun l => isqrt (10000 * spread l / (32 * 32)))).foldr insertNat []
  let hi := (full.map (fun l => isqrt (10000 * spread l / (32 * 31)) + 1)).foldr insertNat []
  clampN (lo.getD ((full.length - 1) / 2) 0) (hi.getD (full.length / 2) 0) (Config.noiseMedian full)

/-- Learning, drift and noise over one frame (R167, R169, R184); `still` says the door stood open at rest when it was taken. -/
def backgroundFrame (s : State) (h n : Nat) (burst still : Bool) (px : List Pixel) (cnt : List (Nat × Nat)) : State :=
  let x := s.head h
  let occ := cnt.filter (fun c => s.get LVOL.OCC_MIN ≤ c.2)
  let learn := match x.learn with
    | some (t, m) =>
      if t < s.get LVOL.BG_LEARN_N then some (t + 1, occ.foldl (fun m c => mapPut 0 c.1 (mapFind 0 c.1 m + 1) m) m)
      else some (t, m)
    | none => none
  let hits := if still then (((cnt.map (·.1)).filter (isStatic s h)) :: x.hits).take 1024 else x.hits
  let total := staticCount s h
  let bare := total - (hits.foldl (fun m l => l.foldl (fun m v => mapPut 0 v 1 m) m) ([] : List (Nat × Nat))).length
  let drift := if hits.length < 1024 then x.drift
    else if total < 5 * bare then true else if 10 * bare < total then false else x.drift
  let log := if burst then x.pixLog else
    (List.range x.bestPix.length).map (fun i =>
      let b := x.bestPix.getD i (0, 0)
      let old := x.pixLog.getD i []
      match px.find? (fun p => p.1 = b.1) with
      | some p => if ((pxDepth p.2 : Int) - b.2).natAbs ≤ 30 then (pxDepth p.2 :: old).take 32 else old
      | none => old)
  let full := log.filter (fun l => l.length = 32)
  let nz := min 0xFFFF (noiseOf full)
  let noisy := if burst || full.isEmpty then x.noisy else if 600 < nz then true else if nz < 500 then false else x.noisy
  let s := if burst || full.isEmpty then s else s.set (if h % 2 = 0 then LVOLD.NOISE_J n else LVOLD.NOISE_S n) nz
  s.setHead h { x with learn := learn, hits := hits, drift := drift, pixLog := log, noisy := noisy }

/-- One non-check frame (R166, R170 to R176): its record goes to the queue, to the safety processor, to Traverse, which reads the gap
of a sill head from it, and to the page. The motion of the axis is that at the frame time (log 103). -/
def volumeFrame (s : State) (h k us : Nat) : State :=
  let n := h / 2
  let q := (s.head h).slots.getD k Slot.free
  let late := (us + 2 ^ 32 - q.time) % 2 ^ 32
  let ms := late / 1000
  let px := framePixels s h k q.burst
  let pts := px.filterMap (pointOf s h q.burst)
  let cnt := voxelCounts pts
  let unk := edgeUnknown s n
  let o := openingMm s n ms
  let l := edgeL s n o
  let r := edgeR s n o
  let fg := ((cnt.filter (fun c => s.get LVOL.OCC_MIN ≤ c.2)).map (·.1)).filter
    (fun v => !isStatic s h v && (unk || !inMask s n l r v))
  let nL := if unk then 0 else (fg.filter (inSlab s n false l)).length
  let nR := if unk then 0 else (fg.filter (inSlab s n true r)).length
  let pinch := if unk then 0 else
    bit1 (s.get (LVOLD.PINCH_VOX n) ≤ nL) + 2 * bit1 (s.get (LVOLD.PINCH_VOX n) ≤ nR)
  let cL := if unk then 0xFFFF else clearOf s n l fg
  let cR := if unk then 0xFFFF else clearOf s n r fg
  let armed := !unk && o.le (.int (s.get (LVOLD.THIN_ARM_MM n) : Nat)) && q.vel ≤ 0
  let thinPts := (pts.filter (thinPoint s h n)).length
  let x := s.head h
  let run := if armed && s.get (LVOLD.THIN_MIN_PTS n) ≤ thinPts then min 8 (x.thinRun + 1) else 0
  let thin := armed && s.get (LVOLD.THIN_N n) ≤ run
  let (gap, cols) := if h % 2 = 1 then gapOf s n ms pts else (0, 0)
  let gapOk := h % 2 = 1 && 20 ≤ cols && s.on (LH.GW_GOOD h) && s.on (AX.HOMED (8 + n))
  let gapV := if gapOk then un 16 (clampI 0 0xFFFE gap) else 0xFFFF
  let s := backgroundFrame s h n q.burst q.still px cnt
  let x := s.head h
  let w2 := h * 2 ^ 24 + n * 2 ^ 16 + bit1 (bitAt pinch 0) * 2 ^ 15 + bit1 (bitAt pinch 1) * 2 ^ 14 + bit1 thin * 2 ^ 13 +
    bit1 armed * 2 ^ 12 + bit1 gapOk * 2 ^ 11 + bit1 q.burst * 2 ^ 10 + bit1 unk * 2 ^ 9 + bit1 x.noisy * 2 ^ 8 +
    bit1 x.drift * 2 ^ 7 + bit1 (bgState s n = 2) * 2 ^ 6 + bit1 (s.on (LH.GEAR_LOW h)) * 2 ^ 5
  let rcd : Record := [q.num, q.time, w2, cL * 2 ^ 16 + cR, gapV * 2 ^ 16 + sat 16 cols, sat 16 nL * 2 ^ 16 + sat 16 nR,
    sat 16 thinPts * 2 ^ 16 + sat 16 fg.length, un 16 o.floor * 2 ^ 16 + sat 16 (late / 100)]
  let s := if pinch != 0 then s.count LVOL.PINCH_CNT else s
  let s := if thin && !x.thin then s.count LVOL.THIN_CNT else s
  let s := if x.lq.length < 16 then s else s.countDrop pgLVOL LVOL.LQ_DROP_CNT
  let s := s.setHead h { x with
    pinch := pinch
    thin := thin
    thinRun := run
    clearL := cL
    clearR := cR
    lq := if x.lq.length < 16 then x.lq ++ [rcd] else x.lq
    toSafety := x.toSafety ++ [(rcd, decide (q.vel < 0))]
    toTraverse := if h % 2 = 1 then x.toTraverse ++ [rcd] else x.toTraverse
    atTraverse := if h % 2 = 1 then x.atTraverse else rcd }
  let s := s.setB (LVOLD.THIN_ARMED n) armed
  let s := if h % 2 = 1 then
      ((s.setB (LVOLD.GAP_VALID n) gapOk).set (LVOLD.GAP_MM n) gapV).setSat (LVOLD.GAP_COLS n) cols
    else s
  visionShow (resultShow s n)

/-- The depth of a target in 0.25 mm (R160): the median of its valid pixels, none where it has none. -/
def targetDepth (px : List Pixel) (t : List Nat) : Option Int :=
  let d := (px.filter (fun p => t.contains p.1)).map (fun p => Ratio.int (pxDepth p.2))
  if d.isEmpty then none else some ((medianRatio d).mul (.int 4)).round

/-- FRAME_PROCESSED (R160, R166, R179): the frame in use yields its report or record and gives up its slot; the one that waits
is taken next. -/
def frameProcessed (s : State) (h us : Nat) (targets : List (List Nat)) : State :=
  let x := s.head h
  match (List.range 8).find? (fun k => (x.slots.getD k Slot.free).state = 3) with
  | none => s
  | some k =>
    if !s.works pgLANT then s
    else
      let q := x.slots.getD k Slot.free
      let s := glowReport s h q.num q.time ((targets.take 4).map (targetDepth (framePixels s h k q.burst)))
      let s := if q.num % 16 = 0 || !s.on (HDR.EN pgLVOL) then s else volumeFrame s h k us
      let s := setSlot s h k q.release
      let x := s.head h
      s.setHead h { x with slots := x.slots.map (fun q => if q.state = 2 then { q with state := 3 } else q) }

/-- Whether a door axis closes and is not reversing already. -/
def doorCloses (s : State) (n : Nat) : Bool := (s.ax n).vel < 0 && !(s.ax n).reversing && s.on (AX.TORQUE n)

/-- Whether THIN asks for a reversal (R198, R207): in CLOSING, of an axis that closed at the frame time of the record, though it
may have come to rest since. -/
def thinReverses (s : State) (n : Nat) (closed : Bool) : Bool :=
  closed && s.get (CYCD.STATE n) = 5 && (s.ax n).vel ≤ 0 && !(s.ax n).reversing && s.on (AX.TORQUE n)

/-- A reversal requested for what an axis did at a frame time: it holds although the axis may have come to rest (R207). -/
def reversalAnyway (s : State) (n : Nat) : State :=
  let s := sendReversal s n
  { s with saf := { s.saf with revRest := putBit s.saf.revRest n true } }

/-- RECORD_AT_SAFETY (R178, R181, R185, R198): the record is acted on while the vision is trusted, then trust follows it. -/
def recordAtSafety (s : State) (h : Nat) : State :=
  let x := s.head h
  match x.toSafety with
  | [] => s
  | (rcd, closed) :: rest =>
    let n := h / 2
    let w2 := rcd.getD 2 0
    let thin := bitAt w2 13
    let trusted := bitAt s.saf.trust n
    let s := s.setHead h { x with toSafety := rest, flags := some w2, stale := false, lastRcd := rcd }
    let closing := s.get (CYCD.STATE n) = 5
    let d := s.dw n
    let s := s.setDw n { d with
      thinHead := putBit d.thinHead (h % 2) thin
      minClear := if closing then min d.minClear (min (rcd.getD 3 0 / 65536) (rcd.getD 3 0 % 65536)) else d.minClear }
    let s := if trusted && closing && (bitAt w2 15 || bitAt w2 14) then s.source n 0 else s
    let s := if trusted && closing && thin then s.source n 4 else s
    let s := if trusted && chanUp s .saf && !thClosing s n then
        (if thin && thinReverses s n closed then reversalAnyway s n
          else if doorCloses s n && (bitAt w2 15 || bitAt w2 14) then sendReversal s n else s)
      else s
    let s := if trusted && thin then { s with saf := { s.saf with thin := putBit s.saf.thin n true } } else s
    safetyEval (visionEval s)

/-- The rows of a pose orthonormal to within 0.001 (R167). -/
def poseOk (s : State) (h : Nat) : Bool :=
  let dot := fun (i j : Nat) => (List.range 3).foldl (fun t k => t + poseM s h (3 * i + k) * poseM s h (3 * j + k)) (0 : Int)
  allBelow 9 (fun q =>
    let i := q / 3
    let j := q % 3
    ((dot i j - (if i = j then 32767 * 32767 else 0)) * 1000).natAbs ≤ 32767 * 32767)

/-- BG_CMD (R167): BG_LEARN and BG_ABORT. -/
def bgLearn (s : State) (n : Nat) : Wrote :=
  let ok := s.hasDw n && (s.lc = lcSERVICE || s.lc = lcDEPOT) && lvl s .saf 13 && (s.ax n).atRest && s.on (AX.SW_OPEN n) &&
    s.on (LH.RUN (2 * n)) && s.on (LH.RUN (2 * n + 1)) && s.on (LH.GW_GOOD (2 * n)) && s.on (LH.GW_GOOD (2 * n + 1)) &&
    s.on (HDR.EN pgLVOL)
  if !ok then (s, true)
  else if !(poseOk s (2 * n) && poseOk s (2 * n + 1)) then ((setBg s n 5).count LVOL.BG_FAIL_CNT, false)
  else
    let s := setBg s n 1
    let s := s.setHead (2 * n) { s.head (2 * n) with learn := some (0, []) }
    (s.setHead (2 * n + 1) { s.head (2 * n + 1) with learn := some (0, []) }, false)

/-- BG_ABORT. -/
def bgAbort (s : State) (n : Nat) : Wrote :=
  if !s.hasDw n || bgState s n != 1 then (s, true)
  else
    let s := (setBg s n 3).count LVOL.BG_FAIL_CNT
    let s := s.setHead (2 * n) { s.head (2 * n) with learn := none }
    (s.setHead (2 * n + 1) { s.head (2 * n + 1) with learn := none }, false)

/-- A write of BG_CMD. -/
def bgCommand (s : State) (val : Nat) : Wrote :=
  if val / 8 = 0xD100 / 8 then bgLearn s (val % 8)
  else if val / 8 = 0xD200 / 8 then bgAbort s (val % 8)
  else (s, true)

/-- A write of LQ_ACK (R177). -/
def lqAck (s : State) (val : Nat) : Wrote :=
  let h := val % 16
  let x := s.head h
  if val / 16 != 0x4C0 || !s.hasHead h || x.lq.isEmpty then (s, true)
  else (visionShow (s.setHead h { x with lq := x.lq.tail }), false)

/-- The MRAM configuration area as spaces of page LVOL inside the model (R168): the STATIC bitmaps as the partition lays them out;
by doorway whether a background that fits is held, and by head the CRC-32C of its bitmap. -/
abbrev spMram := 13
abbrev spMarks := 14
def bgHeld (s : State) (n : Nat) : Bool := s.rd8 pgLVOL spMarks n = 1
def bgCrcAt (h : Nat) : Nat := 0x100 + 4 * h

/-- The bitmap of a head is 165,000 bytes long. -/
abbrev bitmapLen := 165000

/-- A bitmap taken over from MRAM (R168): false where its CRC fails there. -/
def bitmapLoad (s : State) (h : Nat) : State × Bool :=
  if s.crcOf pgLVOL spMram (h * 0x40000) bitmapLen = s.rd32 pgLVOL spMarks (bgCrcAt h) then
    (s.copyBytes pgLVOL spMram (h * 0x40000) pgLANT spPart (partStatic h) bitmapLen, true)
  else (s, false)

/-- The background of a doorway is gone (R168). -/
def bgGone (s : State) (n : Nat) : State := (setBg s n 0).wr8 pgLVOL spMarks n 0

/-- Both bitmaps of a doorway taken over from MRAM after the LPDDR5 wipe of a start (R168). -/
def bgLoad (s : State) (n : Nat) : State :=
  if !bgHeld s n then s
  else
    let (s, a) := bitmapLoad s (2 * n)
    let (s, b) := bitmapLoad s (2 * n + 1)
    if a && b then s else bgGone s n

/-- P4 has come on (R168): a copy in memory whose CRC is wrong is taken over from MRAM again. -/
def bgCheck (s : State) : State :=
  eachDw (fun s n =>
    let good := fun h => s.crcOf pgLANT spPart (partStatic h) bitmapLen = s.rd32 pgLVOL spMarks (bgCrcAt h)
    if good (2 * n) && good (2 * n + 1) then s else bgLoad s n) s

/-- A write into a pose (R165): under the DEPOT key, with the door axis of the doorway not moving; the background of the doorway
no longer fits. -/
def poseWrite (s : State) (h k val : Nat) : Wrote :=
  if !s.hasHead h || !lvl s .saf 13 || s.on (AX.MOVING (h / 2)) then (s, true)
  else
    let v := if 8 ≤ k then 0 else if k = 4 then val % 0x10000 else val
    (visionShow (bgGone (s.wr32 pgLVOL 3 (h * 0x40 + 4 * k) v) (h / 2)), false)

/-- The STATIC voxels a learning of a head found, and whether it was unsteady (R167). -/
def learned (s : State) (h : Nat) : List Nat × Bool :=
  match (s.head h).learn with
  | none => ([], false)
  | some (_, m) =>
    let big := s.get LVOL.BG_LEARN_N
    let st := (m.filter (fun c => s.get LVOL.BG_STATIC_THR ≤ c.2)).map (·.1)
    let mid := (m.filter (fun c => big ≤ 4 * c.2 && 4 * c.2 ≤ 3 * big)).length
    (st, st.length < 20 * mid)

/-- Pixels by falling amplitude. -/
def insertPixel (p : Pixel) : List Pixel → List Pixel
  | [] => [p]
  | q :: l => if pxAmp q.2 < pxAmp p.2 then p :: q :: l else q :: insertPixel p l

/-- The slot that still holds the latest whole frame in normal mode that is no check frame, which alone show true depths in the
places of the full table (R160, R166). -/
def normalSlot (x : Head) : Option Nat :=
  let age := fun k => (x.lastDone.getD 0 + 2 ^ 32 - (x.slots.getD k Slot.free).num) % 2 ^ 32
  ((List.range 8).filter (fun k =>
    let q := x.slots.getD k Slot.free
    !q.burst && !q.bad && q.num % 16 != 0 && q.lines = 2 ^ frameLines false - 1)).foldl (fun b k =>
    match b with
    | none => some k
    | some j => if age k < age j then some k else some j) none

/-- A background stored for a head in the partition and, with its CRC, in MRAM (R168), and the pixels watched for noise picked
(R184). -/
def storeBackground (s : State) (h : Nat) (st : List Nat) : State :=
  let s := s.wipeBytes pgLANT spPart (partStatic h) 0x40000
  let s := st.foldl (fun s v =>
    let a := partStatic h + v / 8
    s.wr8 pgLANT spPart a (putBit (s.rd8 pgLANT spPart a) (v % 8) true)) s
  let s := s.copyBytes pgLANT spPart (partStatic h) pgLVOL spMram (h * 0x40000) bitmapLen
  let s := s.wr32 pgLVOL spMarks (bgCrcAt h) (s.crcOf pgLANT spPart (partStatic h) bitmapLen)
  let x := s.head h
  let seen : List Pixel := match normalSlot x with | some k => framePixels s h k false | none => []
  let px := seen.filter (fun p => 1500 ≤ pxDepth p.2 && pxDepth p.2 ≤ 2500 &&
    (match (pointOf s h false p).bind voxelOf with | some v => isStatic s h v | none => false))
  let best := ((px.foldl (fun l p => insertPixel p l) []).take 256).map (fun p => (p.1, pxDepth p.2))
  s.setHead h { x with learn := none, hits := [], drift := false, bestPix := best, pixLog := [], noisy := false }

/-- BG_LEARN_DONE (R167, R168): both heads have given their frames. -/
def bgLearnDone (s : State) (n : Nat) : State :=
  let taken := fun h => match (s.head h).learn with | some (t, _) => s.get LVOL.BG_LEARN_N ≤ t | none => false
  if bgState s n != 1 || !taken (2 * n) || !taken (2 * n + 1) then s
  else
    let (a, ua) := learned s (2 * n)
    let (b, ub) := learned s (2 * n + 1)
    if ua || ub then
      let s := (setBg s n 4).count LVOL.BG_FAIL_CNT
      let s := s.setHead (2 * n) { s.head (2 * n) with learn := none }
      s.setHead (2 * n + 1) { s.head (2 * n + 1) with learn := none }
    else visionShow ((setBg (storeBackground (storeBackground s (2 * n) a) (2 * n + 1) b) n 2).wr8 pgLVOL spMarks n 1)

/-- IDENT_DONE. -/
def execIdentDone (h : Fin 16) (id : List Nat) (fmtOk : Bool) (s : State) : Out State :=
  .next (visionEval (identDone s h id fmtOk))

/-- CALIB_READ_DONE. -/
def execCalibReadDone (h : Fin 16) (rd : CalRead) (s : State) : Out State := .next (visionEval (calibDone s h rd))

/-- HEAD_LINK_LOSS (R146): `gone` says PRESENT is lost too, which ends REJECT; a link loss there without it counts, and the port stays
refused. -/
def execHeadLinkLoss (h : Fin 16) (gone : Bool) (s : State) : Out State :=
  let st := link s h
  let s := if gone then s.setB (LH.PRESENT h) false else s
  if lsTRAIN ≤ st && st ≤ lsRUN then .next (bgWatch (linkLoss s h))
  else if st = lsREJECT && (gone || s.on (LH.LINK_UP h)) then
    let s := linkDown (s.countFault (pgLH h) (LH.LINK_LOSS_CNT h)) h
    .next (if gone then toPower s h else lantShow s)
  else .next s

/-- GLOWWORM_DECISION. -/
def execGlowwormDecision (h : Fin 16) (us : Nat) (s : State) : Out State := .next (visionEval (glowDecide s h us))

/-- GLOWWORM_SILENCE. -/
def execGlowwormSilence (h : Fin 16) (s : State) : Out State :=
  .next (if s.hasHead h && s.domOn 6 then visionEval (glowSilence s h) else s)

/-- BG_LEARN_DONE. -/
def execBgLearnDone (n : Fin 8) (s : State) : Out State := .next (bgLearnDone s n)

/-- VISION_STALE (R181): no record from a head for 150 ms. -/
def execVisionStale (h : Fin 16) (s : State) : Out State :=
  if !s.hasHead h || (s.head h).stale then .next s
  else
    let s := if bitAt s.saf.trust (h / 2) then s.count LVOL.STALE_CNT else s
    .next (visionEval (s.setHead h { s.head h with stale := true }))

/-- BURST_REQ_HOLD_END (R180): 250 ms after the conditions last held. -/
def execBurstReqHoldEnd (n : Fin 8) (s : State) : Out State :=
  .next (if burstWanted s n then s else visionShow (burstSet s n false))

/-- THIN_ADCL_HOLD_END (R198): 2000 ms after the latest record with THIN the doorway counts again. -/
def execThinAdclHoldEnd (n : Fin 8) (s : State) : Out State :=
  .next (safetyEval { s with saf := { s.saf with thin := putBit s.saf.thin n false } })

end Sys2Proof.Machine
end

