-- ==== Sys2Proof/Machine/Flow.lean ====
section
/-! DEFINITION. The Flowstone recorder: record frames and bodies, the memory areas and their failure, sequence numbers,
reading, FIND, export, snapshots, traces and clips, the Cairn registers, recovery (R328 to R350). -/

namespace Sys2Proof.Machine

/-- The recorder's state with one part replaced. -/
def State.setFlow (s : State) (f : Flow) : State := { s with flow := f }

/-- Areas of R335 by number. -/
abbrev arEVENT := 1
abbrev arCYCLE := 2
abbrev arARCHIVE := 3
abbrev arTRACE := 4
abbrev arCLIP := 5
abbrev arSYSTEM := 6

/-- Positions in the ring of an area: slots of the MRAM rings, pages of the NAND rings (R335). -/
def areaCap (ar : Nat) : Nat :=
  match ar with
  | 1 => 0x400000 | 2 => 0x100000 | 3 => 5242880 | 4 => 4194304 | 5 => 6291456 | _ => 786432

/-- Pages a window over an area can begin at (R343): the system area holds its tables behind the ring. -/
def areaPages (ar : Nat) : Nat := if ar = arSYSTEM then 1048576 else areaCap ar

/-- Whether the MRAM, or a NAND area, is in use. -/
def mramOk (s : State) : Bool := !s.on FLOW.MRAM_FAIL
def nandOk (s : State) (ar : Nat) : Bool := !bitAt s.flow.nandBad ar
def areaOk (s : State) (ar : Nat) : Bool := if ar ≤ 2 then mramOk s else nandOk s ar

/-- Whether Flowstone works: its domain on, its clock good (R50) and its recovery complete. -/
def flowUp (s : State) : Bool := s.domOn 3 && !s.bit CLK.CLK_FAIL 10 && s.on FLOW.FLOW_RDY && !s.on PWR.PF_WARN

/-! Cairn (R345). -/

/-- CAIRN0 with the failure flags set that stand; only a change to FACTORY clears one. -/
def cairnFlags (s : State) : State :=
  let c := s.get (FLOW.CAIRN 0)
  let c := putBit c 31 (bitAt c 31 || s.on FLOW.MRAM_FAIL)
  let c := putBit c 30 (bitAt c 30 || s.on FLOW.NAND_FAIL)
  s.set (FLOW.CAIRN 0) (putBit c 29 (bitAt c 29 || s.on FLOW.CTR_ONLY))

/-- Write an entry into the ring of fifteen. -/
def cairn (s : State) (code detail : Nat) : State :=
  let c := s.get (FLOW.CAIRN 0)
  let i := bitsOf c 8 4 % 15
  let s := s.set (FLOW.CAIRN (1 + i)) (code * 2 ^ 24 + detail % 256 * 2 ^ 16 + s.tick48 / 2 ^ 26 % 2 ^ 16)
  cairnFlags (s.set (FLOW.CAIRN 0) (c / 2 ^ 12 * 2 ^ 12 + (i + 1) % 15 * 2 ^ 8 + min 255 (c % 256 + 1)))

/-- A record is lost: no memory takes it. -/
def recLost (s : State) : State := s.count (HDR.PG_DROP_CNT pgFLOW)

/-! Failures of the memories (R344). -/

/-- CTR_ONLY, once neither memory can take EVENT and CYCLE records. -/
def ctrOnly (s : State) : State :=
  if s.on FLOW.MRAM_FAIL && !nandOk s arARCHIVE && !s.on FLOW.CTR_ONLY then cairn (s.setB FLOW.CTR_ONLY true) 7 0 else s

/-- Report a failure: the Cairn ring, and EVENT 0x0052 where a memory remains. -/
def memFailed (s : State) (code detail : Nat) : State :=
  let s := ctrOnly (cairn s code detail)
  if s.on FLOW.CTR_ONLY then s else s.event pgFLOW 0 0x0052 code detail

/-- Clips being built are dropped, each counted. -/
def clipsDropped (s : State) : State :=
  (s.countBy (HDR.PG_DROP_CNT pgFLOW) s.flow.clips.length).setFlow { s.flow with clips := [] }

/-- Sealed records that wait in the staging area of the MRAM are lost with it, each counted (DEDUCED, log 105). -/
def stagedDropped (s : State) : State :=
  (s.countBy (HDR.PG_DROP_CNT pgFLOW) s.flow.staged.length).setFlow { s.flow with staged := [] }

/-- The MRAM has failed (R344): open traces go on marked PARTIAL, clips being built are dropped, the mark moves to NAND. -/
def mramFail (s : State) (code : Nat) : State :=
  if s.on FLOW.MRAM_FAIL then s
  else
    let s := stagedDropped (clipsDropped (s.setB FLOW.MRAM_FAIL true))
    let f := s.flow
    let s := s.setFlow { f with
      traces := f.traces.map (fun p => (p.1, p.2.map (fun t => { t with partly := true })))
      mark := (f.seq / 4096 + 1) * 4096 }
    memFailed s code 0

/-- A NAND area has failed (R344): it is not used again, what waits for it is dropped and counted. -/
def nandFail (s : State) (ar : Nat) : State :=
  if !nandOk s ar then s
  else
    let f := s.flow
    let lost := (f.staged.filter (fun r => r.1 = ar)).length + (if ar = arARCHIVE then f.buf.length else 0)
    let s := s.setFlow { f with
      nandBad := putBit f.nandBad ar true
      staged := f.staged.filter (fun r => r.1 != ar)
      buf := if ar = arARCHIVE then [] else f.buf }
    memFailed ((s.setB FLOW.NAND_FAIL true).countBy (HDR.PG_DROP_CNT pgFLOW) lost) 3 ar

/-! Sequence numbers and the frame of a record (R328, R338). -/

/-- The steps in which the mark is raised (R338, R344). -/
def markStep (s : State) : Nat := if mramOk s then 256 else 4096

/-- The next SEQ, the mark raised past it first. -/
def nextSeq (s : State) : State :=
  let f := s.flow
  let n := f.seq + 1
  s.setFlow { f with
    seq := n
    mark := if n < f.mark then f.mark else f.mark + markStep s }

/-- Pad a list of bytes with zeros, or cut it, to a length. -/
def fitBytes (n : Nat) (l : List Nat) : List Nat := (l ++ List.replicate (n - l.length) 0).take n

/-- A record of `len` bytes around a body that begins at 0x20, stamped with the present SEQ, tick, epoch and wall time. -/
def recBytes (s : State) (typ flags len : Nat) (body : List Nat) : List Nat :=
  let head := [0x53, 0x46, typ, flags] ++ leBytes len 4 ++ leBytes s.flow.seq 8 ++ leBytes s.tick48 6 ++
    leBytes (s.get DRIP.EPOCH) 2 ++ leBytes s.wallS 4 ++ leBytes s.wallSub 2 ++ [0, 0]
  let l := head ++ fitBytes (len - 40) body
  l ++ leBytes (crc32 l) 4 ++ leBytes 0x464C4F57 4

/-- What a record says of itself: type, SEQ, tick. -/
def recType (l : List Nat) : Nat := l.getD 2 0
def recTick (l : List Nat) : Nat := leNum ((l.drop 0x10).take 6)

/-! Rings. -/

/-- The write position of an area. -/
def wpOf (s : State) (ar : Nat) : Nat := mapFind 0 ar s.flow.wp

/-- The write position moved; in MRAM it is checkpointed every 4096 records (R337). -/
def setWp (s : State) (ar p : Nat) : State :=
  let p := p % areaCap ar
  let f := s.flow
  s.setFlow { f with
    wp := mapPut 0 ar p f.wp
    ckpt := if ar ≤ 2 && p % 4096 = 0 then mapPut 0 ar p f.ckpt else f.ckpt }

/-- The first position from `p` on at which `n` pages of an area touch no bad block (R335), after at most `k` such blocks. -/
def passBad (bad : List (Nat × Nat)) (ar n : Nat) : Nat → Nat → Nat
  | 0, p => p
  | k + 1, p =>
    let blocks := areaCap ar / 64
    match bad.find? (fun b => b.1 = ar && (b.2 + blocks - p / 64) % blocks * 64 < p % 64 + n) with
    | some b => passBad bad ar n k ((b.2 + 1) * 64 % areaCap ar)
    | none => p

/-- Where the next `n` positions of an area are written. -/
def putAt (s : State) (ar n : Nat) : Nat :=
  if ar ≤ 2 then wpOf s ar else passBad s.flow.badBlk ar n s.flow.badBlk.length (wpOf s ar)

/-- Whether an evidence hold keeps a record from being overwritten (R348). -/
def heldRec (s : State) (r : Rec) : Bool := s.on FLOW.EVID_HOLD && r.seq ≤ s.get64 FLOW.HOLD_SEQ_HI FLOW.HOLD_SEQ_LO

/-- Pages a record covers in its area. -/
def recPages (r : Rec) : Nat := if r.area = arCLIP then (r.bytes.length + 4095) / 4096 else 1

/-- Whether writing `n` positions from `p` on takes away a record: the slot itself in MRAM; in NAND, the pages up to the end
of the block and of the two erased blocks kept ahead of the writer (R335). -/
def ousts (ar p n : Nat) (r : Rec) : Bool :=
  let cap := areaCap ar
  if ar ≤ 2 then r.area = ar && r.pos = p
  else
    let last := p + n - 1
    let span := (last / 64 + 3) * 64 - p
    r.area = ar && ((r.pos + cap - p) % cap < span || (r.pos + recPages r - 1 + cap - p) % cap < span) && r.pos != p

/-- Whether an evidence hold keeps what `n` positions at the write position of an area would take away (R348). -/
def ringHeld (s : State) (ar n : Nat) : Bool := (s.flow.recs.filter (ousts ar (putAt s ar n) n)).any (heldRec s)

/-- Put a record into an area at its write position, unless a hold keeps what lies there. The flag says whether it went
in; `step` is how far the position moves on. -/
def ringPut (s : State) (ar seq : Nat) (bytes : List Nat) (n step : Nat) : State × Bool :=
  let p := putAt s ar n
  if ringHeld s ar n then (recLost s, false)
  else
    let f := s.flow
    let s := s.setFlow { f with recs := f.recs.filter (fun r => !ousts ar p n r) ++ [⟨ar, seq, p, bytes⟩] }
    (setWp s ar (p + step), true)

/-- P11 goes on for Flowstone's own needs, or off (R47, R343). -/
def nandPower (s : State) (on : Bool) : State :=
  ((s.setBit PWR.DOM_ON 11 on).setB FLOW.NAND_ON on).setFlow { s.flow with need := s.tick }

/-- Bytes held in the buffer of 256 KiB that stands in for the MRAM (R344): gathered records and open traces. -/
def bufUsed (s : State) : Nat :=
  (s.flow.buf.map (fun r => r.2.length)).foldl (· + ·) 0 + 4096 * (s.flow.traces.filter (fun t => t.2.isSome)).length

/-- Whether a record for an MRAM ring finds no place: no memory takes it, an evidence hold keeps its slot, the buffer is full. -/
def noRoom (s : State) (ar len : Nat) : Bool :=
  s.on FLOW.CTR_ONLY || (if mramOk s then ringHeld s ar 1 else 0x40000 < bufUsed s + len)

/-- A record for the MRAM rings: written there, or gathered for NAND while the MRAM has failed, or lost (R335, R344). -/
def mramRec (s : State) (ar typ len : Nat) (body : List Nat) : State :=
  if noRoom s ar len then recLost s
  else
    let s := (nextSeq s).count FLOW.REC_CNT
    if mramOk s then (ringPut s ar s.flow.seq (recBytes s typ 0 len body) 1 1).1
    else
      let f := s.flow
      s.setFlow { f with buf := f.buf ++ [(f.seq, recBytes s typ 2 len body)] }

/-- A TRACE, CLIP or SNAPSHOT sealed in staging (R335): at most eight of each wait. Its SEQ is the latest one. -/
def stageRec (s : State) (ar typ flags len : Nat) (body : List Nat) : State × Bool :=
  if s.on FLOW.CTR_ONLY || !nandOk s ar || 8 ≤ (s.flow.staged.filter (fun r => r.1 = ar)).length then (recLost s, false)
  else
    let s := (nextSeq s).count FLOW.REC_CNT
    let f := s.flow
    (s.setFlow { f with staged := f.staged ++ [(ar, f.seq, recBytes s typ flags len body)] }, true)

/-! Record bodies. -/

/-- The body of an EVENT record (R331). -/
def eventBody (e : EventReq) : List Nat :=
  [e.page % 256, e.inst % 256] ++ leBytes e.code 2 ++ leBytes e.a 4 ++ leBytes e.b 4 ++ leBytes e.c 8

/-- A TRACE record from an open trace (R332). -/
def traceBody (n : Nat) (t : Trace) : List Nat :=
  [n, 0] ++ leBytes t.period 2 ++ leBytes t.samples.length 2 ++ List.replicate 10 0 ++ t.samples.reverse.flatten

/-- A trace sealed (R332): its SEQ, 0 where it could not be kept. -/
def sealTrace (s : State) (n : Nat) (t : Trace) : State × Nat :=
  let (s, ok) := stageRec s arTRACE 3 ((if t.partly then 1 else 0) + (if mramOk s then 0 else 2)) 4096 (traceBody n t)
  let s := if ok && t.partly then s.count FLOW.PARTIAL_CNT else s
  (s, if ok then s.flow.seq else 0)

/-- A cycle end of FQ1 with its trace sealed. -/
def sealEndTrace (s : State) (c : CycleEnd) : State × CycleEnd :=
  match c.trace with
  | some t =>
    let (s, q) := sealTrace s c.door t
    (s, { c with
      trace := none
      tseq := q })
  | none => (s, c)

/-- The traces of all cycle ends in FQ1 are sealed before the first CYCLE record, so that the CYCLE records of cycle ends that wait
together take consecutive SEQs and each names its TRACE (R330, R349). -/
def sealTraces (s : State) : State :=
  let (s, l) := s.flow.fq1.foldl (fun (p : State × List CycleEnd) c =>
    let (s, c) := sealEndTrace p.1 c
    (s, p.2 ++ [c])) (s, [])
  s.setFlow { s.flow with fq1 := l.filter (fun c => !c.lost) }

/-- A cycle end taken from FQ1, its trace sealed (R206, R330). -/
def sealCycle (s : State) (c : CycleEnd) : State :=
  mramRec s arCYCLE 1 128 (fitBytes 0x38 c.body ++ leBytes c.tseq 8 ++ leBytes c.clip 8)

/-- The pages of R76 in rising order. -/
def allPages : List Nat :=
  List.range 9 ++ (List.range 16).map (· + 0x10) ++ [0x20] ++ (List.range 16).map (· + 0x28) ++ [0x38, 0x39, 0x40, 0x41, 0x48] ++
  (List.range 4).map (· + 0x50) ++ (List.range 6).map (· + 0x58) ++ [0x60, 0x68, 0x69, 0x70]

/-- The body of a SNAPSHOT (R334). -/
def snapBody (s : State) : List Nat :=
  (allPages.map (fun pg => leBytes (s.get (HDR.PG_FAULT_CNT pg)) 4 ++ leBytes (s.get (HDR.PG_DROP_CNT pg)) 4 ++
    leBytes (s.get (HDR.PG_ADJ_CNT pg)) 4)).flatten ++
  ((List.range 8).map (fun n => leBytes (s.held n).cyc 4 ++ leBytes (s.held n).rev 4 ++ leBytes (s.held n).obs 4 ++
    leBytes (s.held n).emg 4)).flatten ++
  leBytes (s.get PWR.PF_CNT) 4 ++ leBytes (s.get PWR.WAKE_CNT) 4 ++ leBytes (s.get SYS.REFUGE_CNT) 4

/-- A SNAPSHOT sealed (R334); it waits in staging until the system area is programmed with it, as every NAND program is verified
(R344). -/
def snapshot (s : State) : State :=
  let s := s.setFlow { s.flow with lastSnap := some s.tick }
  (stageRec s arSYSTEM 5 (if mramOk s then 0 else 2) 1024 (snapBody s)).1

/-! Clips (R333). -/

/-- The median of depths, half-way between the middle two of an even number, rounded down. -/
def medianNat (l : List Nat) : Nat :=
  let q := l.foldl (fun t x => insertNat x t) []
  (q.getD ((q.length - 1) / 2) 0 + q.getD (q.length / 2) 0) / 2

/-- The depths of a frame's valid pixels gathered by thumbnail cell. -/
def cellDepths (burst : Bool) (px : List Pixel) : List (Nat × List Nat) :=
  let w := frameWidth burst
  let c := if burst then 4 else 8
  px.foldl (fun m p =>
    let cell := p.1 / w / c * 256 + p.1 % w / c
    mapPut [] cell (pxDepth p.2 :: mapFind [] cell m) m) []

/-- The thumbnail of a slot: its non-zero cells. -/
def thumbOf (s : State) (h k : Nat) (burst : Bool) : List (Nat × Nat) :=
  (cellDepths burst (framePixels s h k burst)).map (fun c =>
    (c.1, (if c.2.length < 16 then 0 else medianNat c.2 % 4096) + min 15 (c.2.length / 4) * 4096))

/-- Samples 0, 2, 4 and so on of a list kept newest first, whose oldest is sample 0. -/
def everySecond : List (List Nat) → List (List Nat)
  | [] => []
  | [x] => [x]
  | x :: _ :: l => x :: everySecond l

/-- By how much one 32-bit frame time is later than another, in µs; negative where it is earlier (R176). -/
def laterBy (a b : Nat) : Int := sx 32 ((a + 2 ^ 32 - b % 2 ^ 32) % 2 ^ 32)

/-- Whether a frame lies in the span a clip covers (R333). -/
def inClip (s : State) (trigger time : Nat) : Bool :=
  -(1000 * s.get FLOW.CLIP_PRE_MS : Int) ≤ laterBy time trigger && laterBy time trigger ≤ 1000 * s.get FLOW.CLIP_POST_MS

/-- A frame put among others in frame-time order. -/
def mergeFrames : List (Nat × Nat × List (Nat × Nat)) → (Nat × Nat × List (Nat × Nat)) →
    List (Nat × Nat × List (Nat × Nat))
  | [], f => [f]
  | g :: l, f => if laterBy f.2.1 g.2.1 < 0 then f :: g :: l else g :: mergeFrames l f

/-- A sample into a trace (R332): at 505 samples every second one stays and the period doubles, up to 1280 ms. -/
def traceTakes (t : Trace) (x : List Nat) : Trace :=
  let l := x :: t.samples
  if 505 ≤ l.length then { t with
    samples := everySecond l
    period := min 1280 (2 * t.period) }
  else { t with samples := l }

/-- A sample of FQ2 into the open trace of its doorway. -/
def sampleIn (f : Flow) (x : Nat × List Nat) : Flow :=
  match mapFind none x.1 f.traces with
  | some t => { f with traces := mapPut none x.1 (some (traceTakes t x.2)) f.traces }
  | none => f

/-- A thumbnail of FQ3 into the clips of its doorway whose span holds it. -/
def thumbIn (s : State) (x : Nat × Nat × List (Nat × Nat)) : State :=
  s.setFlow { s.flow with clips := s.flow.clips.map (fun c =>
    if c.door = x.1 / 2 && inClip s c.time x.2.1 then { c with frames := mergeFrames c.frames x } else c) }

/-- Flowstone takes what FQ2 and FQ3 hold, as long as it works (R336). -/
def queuesTake (s : State) : State :=
  if !flowUp s then s
  else
    let f := s.flow
    let s := s.setFlow (f.fq2.foldl sampleIn { f with
      fq2 := []
      fq3 := [] })
    f.fq3.foldl thumbIn s

/-- A thumbnail into the work area of its head, which keeps the latest 1000 ms, and through FQ3 into the clips of its doorway. -/
def takeThumb (s : State) (h time : Nat) (t : List (Nat × Nat)) : State :=
  let x := s.head h
  let s := s.setHead h { x with thumbs := (time, t) :: x.thumbs.filter (fun q => laterBy time q.1 < 1000000) }
  if !s.flow.clips.any (fun c => c.door = h / 2 && inClip s c.time time) then s
  else if !s.on (HDR.EN pgFLOW) || 32 ≤ s.flow.fq3.length then s.countDrop pgFLOW FLOW.FQ3_DROP_CNT
  else queuesTake (s.setFlow { s.flow with fq3 := s.flow.fq3 ++ [(h, time, t)] })

/-- A clip begins (R333): the thumbnails of both heads that the work area holds of its span. With the MRAM failed no CLIP is
written; one that a failed CLIP area refuses is dropped and counted (R344). -/
def clipStart (s : State) (n trig time : Nat) (rcd : Record) : State :=
  if !s.on FLOW.CLIP_EN || !s.on (HDR.EN pgFLOW) || !mramOk s then s
  else if !nandOk s arCLIP || 8 ≤ s.flow.clips.length then recLost s
  else
    let held := fun h => ((s.head h).thumbs.filter (fun q => inClip s time q.1)).map (fun q => (h, q.1, q.2))
    let fr := (held (2 * n) ++ held (2 * n + 1)).foldl mergeFrames []
    s.setFlow { s.flow with clips := s.flow.clips ++ [⟨n, trig, time, rcd, fr⟩] }

/-- A run of `z` zero differences in the code of R333. -/
def zeroRun (z : Nat) : List Nat := if z = 0 then [] else [0, z - 1]

/-- The code of the differences of one thumbnail, cell by cell; `z` zero differences wait. -/
def codeCells (prev cur : List (Nat × Nat)) : Nat → Nat → Nat → List Nat
  | 0, _, z => zeroRun z
  | k + 1, i, z =>
    let v := mapFind 0 i cur
    let d : Int := v - (mapFind 0 i prev : Nat)
    if d = 0 then (if z = 255 then zeroRun 256 ++ codeCells prev cur k (i + 1) 0 else codeCells prev cur k (i + 1) (z + 1))
    else if -127 ≤ d && d ≤ 127 then zeroRun z ++ un 8 d :: codeCells prev cur k (i + 1) 0
    else zeroRun z ++ [0x80] ++ leBytes v 2 ++ codeCells prev cur k (i + 1) 0

/-- The frame entries of a clip, as many as fit, each head's thumbnails coded against its previous one; the number stored. -/
def codeFrames (room : Nat) (prev : List (Nat × List (Nat × Nat))) :
    List (Nat × Nat × List (Nat × Nat)) → List Nat × Nat
  | [] => ([], 0)
  | (h, t, q) :: l =>
    let code := codeCells (mapFind [] h prev) q 32768 0 0
    let e := [h, 0, 0, 0] ++ leBytes t 4 ++ leBytes code.length 4 ++ fitBytes ((code.length + 3) / 4 * 4) code
    if room < e.length then ([], 0)
    else
      let r := codeFrames (room - e.length) (mapPut [] h q prev) l
      (e ++ r.1, r.2 + 1)

/-- A clip encoded and sealed (R333). -/
def clipSeal (s : State) (c : Clip) : State :=
  let (code, stored) := codeFrames (0x200000 - 40 - 48) [] c.frames
  let cut := c.frames.length - stored
  let head := [c.door, c.trig] ++ leBytes stored 2 ++ leBytes cut 2 ++ [0, 0] ++ leBytes c.time 4 ++ [0, 0, 0, 0] ++
    fitBytes 32 (c.rcd.map (fun w => leBytes w 4)).flatten
  let (s, ok) := stageRec s arCLIP 4 (if 0 < cut then 4 else 0) (88 + code.length) (head ++ code)
  if ok && mapFind 0 c.door s.flow.clipSeq = 0 then
    s.setFlow { s.flow with clipSeq := mapPut 0 c.door s.flow.seq s.flow.clipSeq }
  else s

/-! Programming NAND (R335, R344). -/

/-- Whether a record in a memory is valid (R329): its memory in use, its CRC good. -/
def sound (s : State) (r : Rec) : Bool := areaOk s r.area && !s.flow.rot.contains (r.area, r.seq)

/-- Staged and gathered records an area is ready to program: 31 journal records not yet in the archive, or a full page of
the buffer; the oldest staged record of the other areas. -/
def pageDue (s : State) (ar : Nat) : List (Nat × List Nat) :=
  let f := s.flow
  if ar = arARCHIVE then
    if mramOk s then
      let l := f.recs.filter (fun r => r.area = arCYCLE && f.copied < r.seq && sound s r)
      if l.length < 31 then [] else (l.take 31).map (fun r => (r.seq, r.bytes))
    else if 31 * 128 ≤ (f.buf.map (fun r => r.2.length)).foldl (· + ·) 0 then f.buf else []
  else ((f.staged.filter (fun r => r.1 = ar)).take 1).map (fun r => (r.2.1, r.2.2))

/-- The records of a buffer that share one archive page of 3968 bytes, in order. -/
def onePage : Nat → List (Nat × List Nat) → List (Nat × List Nat)
  | _, [] => []
  | room, r :: l => if room < r.2.length then [] else r :: onePage (room - r.2.length) l

/-- Several records into one archive page. -/
def archivePage (s : State) (l : List (Nat × List Nat)) : State :=
  let p := putAt s arARCHIVE 1
  let old := s.flow.recs.filter (ousts arARCHIVE p 1)
  if old.any (heldRec s) then s.countBy (HDR.PG_DROP_CNT pgFLOW) l.length
  else
    let f := s.flow
    let s := s.setFlow { f with
      recs := f.recs.filter (fun r => !ousts arARCHIVE p 1 r) ++ l.map (fun r => ⟨arARCHIVE, r.1, p, r.2⟩) }
    setWp s arARCHIVE (p + 1)

/-- A SNAPSHOT programmed (R334): four share a page of the system area. -/
def snapPut (s : State) (seq : Nat) (bytes : List Nat) : State :=
  let here := (s.flow.recs.filter (fun r => r.area = arSYSTEM && r.pos = putAt s arSYSTEM 1)).length
  let s := if 4 ≤ here then setWp s arSYSTEM (putAt s arSYSTEM 1 + 1) else s
  (ringPut s arSYSTEM seq bytes 1 0).1

/-- Program what is due in an area. -/
def programPage (s : State) (ar : Nat) : State :=
  let due := pageDue s ar
  match due with
  | [] => s
  | (seq, bytes) :: _ =>
    let s := nandPower s true
    if ar = arARCHIVE then
      let l := onePage 3968 due
      let s := archivePage s l
      let f := s.flow
      if mramOk s then s.setFlow { f with copied := (l.getLastD (0, [])).1 }
      else s.setFlow { f with buf := f.buf.drop l.length }
    else
      let n := (bytes.length + 4095) / 4096
      let s := if ar = arSYSTEM then snapPut s seq bytes else (ringPut s ar seq bytes n n).1
      let f := s.flow
      s.setFlow { f with staged := f.staged.filter (fun r => !(r.1 = ar && r.2.1 = seq)) }

/-- The guaranteed capacity of a NAND area in pages (R335). -/
def guaranteed (ar : Nat) : Nat :=
  match ar with
  | 3 => 4838710 | 4 => 4000000 | 5 => 12000 * 512 | _ => 725000

/-- Pages of an area that stay usable: without its bad blocks and the two erased ones ahead of the writer (R335). -/
def usable (s : State) (ar : Nat) : Nat := areaCap ar - 64 * (2 + (s.flow.badBlk.filter (fun b => b.1 = ar)).length)

/-- A program or erase failed (R335, R344): the block is set aside for good, and the page goes into the next one. An area that can
no longer hold its guaranteed capacity has failed. -/
def blockFailed (s : State) (ar : Nat) : State :=
  let b := putAt s ar 1 / 64
  let s := (s.count FLOW.NAND_ERR_CNT).setSat FLOW.BAD_BLK (s.get FLOW.BAD_BLK + 1)
  let s := setWp (s.setFlow { s.flow with badBlk := (ar, b) :: s.flow.badBlk }) ar ((b + 1) * 64)
  if usable s ar < guaranteed ar then nandFail s ar else s

/-- The outcome of a NAND program or erase as it is verified: good, a block failed, the area failed with it. -/
def programArea (s : State) (ar : Nat) (res : NandResult) : State :=
  match res with
  | .good => programPage s ar
  | .blockBad => let s := blockFailed s ar; if nandOk s ar then programPage s ar else s
  | .areaBad => nandFail (s.count FLOW.NAND_ERR_CNT) ar

/-- An MRAM write failed its read-back at an address (R344): two at different addresses within an hour are a failure. -/
def readBackFailed (s : State) (addr : Nat) : State :=
  let f := s.flow
  let old := f.badAt.filter (fun b => s.tick < b.2 + 3600 * 32768)
  let s := (s.count FLOW.MEM_ERR_CNT).setFlow { f with badAt := (addr, s.tick) :: old }
  if old.any (fun b => b.1 != addr) then mramFail s 1 else s

/-! Reading (R342, R343). -/

/-- The records of a class in ascending SEQ; they lie in the order written. -/
def classRecs (s : State) (cls : Nat) : List Rec := s.flow.recs.filter (fun r => r.area = cls && sound s r)

/-- RD_CLASS written: the bounds of the class latched at this moment. -/
def latchClass (s : State) : State :=
  let c := s.get FLOW.RD_CLASS
  let l := classRecs s c
  let a := l.headD ⟨c, 0, 0, []⟩
  let b := l.getLastD ⟨c, 0, 0, []⟩
  let s := s.set64 FLOW.CL_FIRST_SEQ_HI FLOW.CL_FIRST_SEQ_LO a.seq
  let s := s.set64 FLOW.CL_LAST_SEQ_HI FLOW.CL_LAST_SEQ_LO b.seq
  ((s.set FLOW.CL_FIRST_POS a.pos).set FLOW.CL_LAST_POS b.pos).set FLOW.CL_CAP (areaCap c)

/-- The area a class lies in, for NWIN. -/
def nwinSet (s : State) (ar page : Nat) : State := (s.set FLOW.NAREA ar).set FLOW.NPAGE page

/-- FIND ends with its result (R343). -/
def findDone (s : State) : State :=
  let c := s.get FLOW.RD_CLASS
  let l := classRecs s c
  let q := s.flow.findSeq
  let put := fun (s : State) (code pos : Nat) =>
    let s := (s.set FLOW.FIND_CODE code).set FLOW.FIND_POS pos
    if 3 ≤ c then nwinSet s c pos else s
  let s := s.setB FLOW.FIND_BUSY false
  match l.find? (fun r => r.seq = q), l with
  | some r, _ => put s 1 r.pos
  | none, [] => s.set FLOW.FIND_CODE 4
  | none, r :: _ =>
    if q < r.seq then s.set FLOW.FIND_CODE 2
    else match l.find? (fun r => q < r.seq) with
      | some r => put s 4 r.pos
      | none => s.set FLOW.FIND_CODE 3

/-- One byte of a record as its memory holds it: of one whose CRC fails the spec states none. -/
def heldByte (s : State) (r : Rec) (i : Nat) : Nat :=
  if s.flow.rot.contains (r.area, r.seq) then (Config.unread 0 r.seq i).toNat else r.bytes.getD i 0

/-- One byte of records that stand one behind another. -/
def rowByte (s : State) : List Rec → Nat → Nat
  | [], _ => 0
  | r :: l, i => if i < r.bytes.length then heldByte s r i else rowByte s l (i - r.bytes.length)

/-- One byte of a NAND page (R335): an archive page has a header of 128 bytes and its records behind it; the pages of a record run
over the end of the ring to its start. -/
def nandByte (s : State) (ar page i : Nat) : Nat :=
  let at0 := fun (r : Rec) => (page + areaCap ar - r.pos) % areaCap ar
  let l := s.flow.recs.filter (fun r => r.area = ar && at0 r < recPages r)
  if l.isEmpty || !nandOk s ar || areaCap ar ≤ page then (Config.unread ar page i).toNat
  else if ar = arARCHIVE then
    let data := fitBytes 3968 (l.map (·.bytes)).flatten
    let head := [0x46, 0x50, ar, l.length] ++ List.replicate 4 0 ++ leBytes (l.headD ⟨0, 0, 0, []⟩).seq 8 ++
      leBytes (l.getLastD ⟨0, 0, 0, []⟩).seq 8 ++ leBytes (crc32 data) 4
    if i < 128 then (fitBytes 128 head).getD i 0 else rowByte s l (i - 128)
  else if ar = arSYSTEM then rowByte s l i
  else match l with
    | r :: _ => heldByte s r (at0 r * 4096 + i)
    | [] => 0

/-- One byte of an MRAM ring (R342). -/
def mramByte (s : State) (ar a : Nat) : Nat :=
  let size := if ar = arEVENT then 64 else 128
  if !mramOk s then (Config.unread ar (a / size) (a % size)).toNat
  else match s.flow.recs.find? (fun r => r.area = ar && r.pos = a / size) with
    | some r => heldByte s r (a % size)
    | none => 0

/-- A byte of the NAND window: 2 MiB of the selected area from NPAGE on, wrapping in the area (R343). -/
def windowByte (s : State) (a : Nat) : Nat :=
  let ar := s.get FLOW.NAREA
  nandByte s ar ((s.get FLOW.NPAGE + a / 4096) % areaPages ar) (a % 4096)

/-! Export (R347). -/

/-- Whether a record of an export can still be read. -/
def recThere (s : State) (r : Rec) : Bool :=
  s.flow.recs.any (fun q => q.seq = r.seq && sound s q) || s.flow.staged.any (fun q => q.2.1 = r.seq && nandOk s q.1) ||
    s.flow.buf.any (fun q => q.1 = r.seq)

/-- Records by ascending SEQ, each SEQ once. -/
def insertRec (r : Rec) : List Rec → List Rec
  | [] => [r]
  | q :: l => if r.seq < q.seq then r :: q :: l else if r.seq = q.seq then q :: l else q :: insertRec r l

/-- The records of each class of an export, EVENT, CYCLE, TRACE, CLIP and SNAPSHOT in this order. -/
def exportItems (s : State) : List (List Rec) :=
  let f := s.flow
  let all := f.recs.filter (sound s) ++ f.staged.map (fun r => ⟨r.1, r.2.1, 0, r.2.2⟩) ++ f.buf.map (fun r => ⟨arARCHIVE, r.1, 0, r.2⟩)
  [2, 1, 3, 4, 5].map (fun t => (all.filter (fun r => recType r.bytes = t && r.seq ≤ f.seq)).foldl (fun l r => insertRec r l) [])

/-- The bytes of one class, and the chunks they fill. -/
def classBytes (l : List Rec) : Nat := (l.map (fun r => r.bytes.length)).foldl (· + ·) 0
def classChunks (l : List Rec) : Nat := (classBytes l + 4063) / 4064

/-- Chunks of an export: the manifest, the records, the list of lost records. -/
def exportChunks (e : Export) : Nat := 2 + (e.items.map classChunks).foldl (· + ·) 0

/-- The records of a class of which bytes `a` to `a` + 4063 hold a part, with that part. -/
def classCut (a : Nat) : Nat → List Rec → List (Rec × List Nat)
  | _, [] => []
  | at0, r :: l =>
    let part := (r.bytes.drop (a - at0)).take (a + 4064 - max a at0)
    let l' := classCut a (at0 + r.bytes.length) l
    if at0 + r.bytes.length ≤ a || a + 4064 ≤ at0 then l' else (r, part) :: l'

/-- The class of chunk `k` of the record chunks, its number in its class, its records. -/
def chunkClass (k : Nat) : List (List Rec) → Nat × Nat × List Rec
  | [] => (0, 0, [])
  | l :: ls => if k < classChunks l then ((recType (l.headD ⟨0, 0, 0, []⟩).bytes), k, l) else chunkClass (k - classChunks l) ls

/-- What the present chunk takes: class, records with their parts. -/
def chunkParts (e : Export) : Nat × List (Rec × List Nat) :=
  let (c, j, l) := chunkClass (e.chunk - 1) e.items
  (c, classCut (4064 * j) 0 l)

/-- The bytes of the present chunk. -/
def chunkBytes (s : State) : List Nat :=
  match s.flow.exp with
  | none => []
  | some e =>
    let total := exportChunks e
    let last := e.chunk + 1 = total
    let (cls, parts) := if e.chunk = 0 || last then (0, []) else chunkParts e
    let here := parts.filter (fun p => !e.lost.contains p.1.seq)
    let load := (if e.chunk = 0 then e.manifest else if last then Config.lostList e.lost
      else (here.map (·.2)).flatten).take 4064
    let first := (here.headD (⟨0, 0, 0, []⟩, [])).1.seq
    let head := leBytes e.chunk 4 ++ leBytes total 4 ++ [cls, 0, 0, 0] ++ leBytes load.length 4 ++ leBytes first 8 ++ [0, 0, 0, 0]
    head ++ leBytes (crc32 (head ++ load)) 4 ++ load

/-- The present chunk as it is read and sent, 4096 bytes (R347, R364): the spec states none behind the payload. -/
def chunkFull (s : State) : List Nat :=
  let l := chunkBytes s
  if l.isEmpty then [] else
    l ++ (List.range (4096 - l.length)).map (fun i => (Config.unread 7 (s.get FLOW.EXP_CHUNK) (l.length + i)).toNat)

/-- The present chunk is made: records overwritten before the export reached them are lost and counted. -/
def chunkMade (s : State) : State :=
  match s.flow.exp with
  | none => s
  | some e =>
    let parts := if e.chunk = 0 || e.chunk + 1 = exportChunks e then [] else (chunkParts e).2
    let gone := (parts.filter (fun p => !recThere s p.1 && !e.lost.contains p.1.seq)).map (fun p => p.1.seq)
    let last := parts.foldl (fun (m : Nat) p => max m p.1.seq) e.lastSeq
    let s := (s.countBy FLOW.EXP_LOST_CNT gone.length).setFlow
      { s.flow with exp := some { e with lost := e.lost ++ gone, lastSeq := last } }
    (s.set FLOW.EXP_CHUNK e.chunk).set FLOW.EXP_TOTAL (exportChunks e)

/-- EXP_START, or EXPORT of the service tool: the content is fixed. -/
def exportStart (s : State) (src : Src) : Wrote :=
  if s.on FLOW.EXP_RUN || !flowUp s then (s, true)
  else
    let items := exportItems s
    let counts := items.map (fun l => (l.length, (l.headD ⟨0, 0, 0, []⟩).seq, (l.getLastD ⟨0, 0, 0, []⟩).seq))
    let held := (List.range 8).map s.held
    let m := Config.manifest counts ((List.range 16).map (fun k => s.get (FLOW.CAIRN k)))
      (held.map (fun h => [h.cyc, h.rev, h.obs, h.emg]))
    let s := (s.setB FLOW.EXP_RUN true).setB FLOW.EXP_DONE false
    (chunkMade (s.setFlow { s.flow with exp := some ⟨src, items, m, 0, [], 0⟩, ackCrc := 0 }), false)

/-- The end of an export without completion. -/
def exportEnd (s : State) : State :=
  ((s.setB FLOW.EXP_RUN false).set FLOW.EXP_CHUNK 0).setFlow { s.flow with exp := none }

/-- An evidence hold ends (R71, R331). -/
def holdRelease (s : State) : State :=
  if !s.on FLOW.EVID_HOLD then s
  else (s.setB FLOW.EVID_HOLD false).event pgFLOW 0 0x0054 0 0 (s.get64 FLOW.HOLD_SEQ_HI FLOW.HOLD_SEQ_LO)

/-- A chunk acknowledged: number and CRC must be those of the present chunk. -/
def exportAck (s : State) (k crc : Nat) : Wrote :=
  match s.flow.exp with
  | none => (s, true)
  | some e =>
    if k != e.chunk || crc != leNum (((chunkBytes s).drop 28).take 4) then (s.count FLOW.EXP_RETRY_CNT, false)
    else if e.chunk + 1 = exportChunks e then
      let s := (exportEnd s).setB FLOW.EXP_DONE true
      (holdRelease (s.event pgFLOW 0 0x0053 (exportChunks e) e.lost.length e.lastSeq), false)
    else (chunkMade (s.setFlow { s.flow with exp := some { e with chunk := e.chunk + 1 } }), false)

/-- A Flowstone wipe (R348): every record and the held counters; SEQ starts at 1 again. -/
def flowWipe (s : State) : State :=
  let s := exportEnd { s with
    flow := { Flow.init with
      nandBad := s.flow.nandBad
      badBlk := s.flow.badBlk }
    drip := { s.drip with held := [] } }
  eachDw (fun s n => s.set (CYCD.LIFE_CYC n) 0) s

/-- A write of FLOW_CMD (R334, R336, R343, R347). -/
def flowCommand (s : State) (src : Src) (val : Nat) : Wrote :=
  match val with
  | 0x4600 =>
    if s.on FLOW.FIND_BUSY then (s, true)
    else (((s.setB FLOW.FIND_BUSY true).set FLOW.FIND_CODE 0).setFlow
      { s.flow with findSeq := s.get64 FLOW.FIND_SEQ_HI FLOW.FIND_SEQ_LO }, false)
  | 0x4610 => exportStart s src
  | 0x4611 => (exportEnd s, !s.on FLOW.EXP_RUN)
  | 0x4630 => (s.event pgFLOW 0xFF (s.get FLOW.HEV_CODE) (s.get FLOW.HEV_A) (s.get FLOW.HEV_B)
      (s.get64 FLOW.HEV_C_HI FLOW.HEV_C_LO), false)
  | 0x4640 =>
    let early := match s.flow.lastSnap with | some t => s.tick < t + 60 * 32768 | none => false
    if early || !flowUp s then (s, true) else (snapshot s, false)
  | _ => (s, true)

/-- Every EVENT request and cycle end sealed (R340, before the module parks). -/
def sealQueues (s : State) : State :=
  if !flowUp s then s
  else
    let s := s.fq0.foldl (fun t e => mramRec t arEVENT 2 64 (eventBody e)) { s with fq0 := [] }
    let s := sealTraces (queuesTake s)
    s.flow.fq1.foldl sealCycle (s.setFlow { s.flow with fq1 := [] })

/-! The happenings inside Flowstone. -/

/-- One sample of a trace (R332). -/
def traceSample (s : State) (n : Nat) : List Nat :=
  let h := 2 * n
  let x := fun (a : Nat) => un 16 (satS 16 (Int.tdiv (s.getS (AX.POS_UM a)) 100))
  let pinch := (s.head h).pinch != 0 || (s.head (h + 1)).pinch != 0
  let thin := (s.head h).thin || (s.head (h + 1)).thin
  leBytes (x n) 2 ++ leBytes (s.get (AX.FORCE_EST n)) 2 ++ leBytes (x (8 + n)) 2 ++
  [s.get (CYCD.STATE n) * 16 + bit1 (s.on (AX.DIR_OPEN n)) * 8 + bit1 (s.on (AX.SQZ n)) * 4 + bit1 (bitAt s.saf.trust n) * 2 +
     bit1 (s.on (AX.FORCE_TRIP n)),
   bit1 pinch + bit1 thin * 2 + bit1 (edgeAct s .saf n) * 4 + bit1 (lcBroken s .saf n) * 8 +
     bit1 (s.on (GALC.OUT (32 + n))) * 16 + bit1 (lvl s .saf (32 + n)) * 32]

/-- TRACE_SAMPLE (R332, R336): the sample goes through FQ2. -/
def execTraceSample (n : Fin 8) (s : State) : Out State :=
  match mapFind none n.val s.flow.traces with
  | none => .next s
  | some _ =>
    if !s.domOn 3 then .next s
    else if !s.on (HDR.EN pgFLOW) || 1024 ≤ s.flow.fq2.length then .next (s.countDrop pgFLOW FLOW.FQ2_DROP_CNT)
    else .next (queuesTake (s.setFlow { s.flow with fq2 := s.flow.fq2 ++ [(n.val, traceSample s n)] }))

/-- RECORD_SEAL (R329, R336): the oldest entry of FQ0 or FQ1 becomes a record, or is lost where its write fails read-back. -/
def execRecordSeal (cycle : Bool) (bad : Option Nat) (s : State) : Out State :=
  if !flowUp s || s.on PWR.PF_WARN then .next s
  else
    let fails := bad.isSome && mramOk s
    if cycle then
      let s := sealTraces (queuesTake s)
      match s.flow.fq1 with
      | [] => .next s
      | c :: l =>
        let s := s.setFlow { s.flow with fq1 := l }
        .next (if fails then readBackFailed (recLost s) (bad.getD 0) else sealCycle s c)
    else
      match s.fq0 with
      | [] => .next s
      | e :: l =>
        let s := { s with fq0 := l }
        .next (if fails then readBackFailed (recLost s) (bad.getD 0) else mramRec s arEVENT 2 64 (eventBody e))

/-- The area a command names. -/
def nandNum (a : NandArea) : Nat := match a with | .archive => 3 | .trace => 4 | .clip => 5 | .system => 6

/-- ARCHIVE_PAGE_COPY (R335). Copies wait for the next start once the module parks (R340). -/
def execArchivePageCopy (a : NandArea) (res : NandResult) (s : State) : Out State :=
  .next (if !flowUp s || s.pwr.phase = .parking || !nandOk s (nandNum a) || (pageDue s (nandNum a)).isEmpty then s
    else programArea s (nandNum a) res)

/-- NAND_ONLY_FLUSH (R344): 1 s after its first record the gathered page is programmed as it is; not once the module parks (R340). -/
def execNandOnlyFlush (res : NandResult) (s : State) : Out State :=
  if !flowUp s || s.pwr.phase = .parking || mramOk s || s.flow.buf.isEmpty || !nandOk s arARCHIVE ||
    (s.tick48 + 2 ^ 48 - recTick (s.flow.buf.headD (0, [])).2) % 2 ^ 48 < 32768 then .next s
  else match res with
    | .areaBad => .next (nandFail (s.count FLOW.NAND_ERR_CNT) arARCHIVE)
    | _ =>
      let s := nandPower (if res = NandResult.blockBad then blockFailed s arARCHIVE else s) true
      if !nandOk s arARCHIVE then .next s
      else
        let l := onePage 3968 s.flow.buf
        let s := archivePage s l
        .next (s.setFlow { s.flow with buf := s.flow.buf.drop l.length })

/-- CLIP_COMPLETE (R333): the oldest clip being built of a doorway. -/
def execClipComplete (n : Fin 8) (s : State) : Out State :=
  match s.flow.clips.find? (fun c => c.door = n.val) with
  | none => .next s
  | some c =>
    if !flowUp s || s.on PWR.PF_WARN then .next s
    else .next (clipSeal (s.setFlow { s.flow with clips := s.flow.clips.erase c }) c)

/-- SNAPSHOT_TIMER (R334): after every 24 h of P3 on. -/
def execSnapshotTimer (s : State) : Out State := .next (if flowUp s && !s.on PWR.PF_WARN then snapshot s else s)

/-- FIND_DONE. -/
def execFindDone (s : State) : Out State := .next (if s.on FLOW.FIND_BUSY then findDone s else s)

/-- NAND_POWER_OFF (R343): 1 s after Flowstone's last need of P11. -/
def execNandPowerOff (s : State) : Out State :=
  .next (if s.on FLOW.NAND_HOLD || s.tick < s.flow.need + 32768 then s else nandPower s false)

/-- The TICK of the valid record with the greatest SEQ, 0 of none. -/
def lastTick (s : State) : Nat :=
  let l := (s.flow.recs.filter (sound s)).map (fun r => (r.seq, r.bytes)) ++ s.flow.staged.map (·.2)
  recTick (l.foldl (fun (b : Nat × List Nat) r => if b.1 ≤ r.1 then r else b) (0, [])).2

/-- The trace of a doorway closed as PARTIAL at a start, with EVENT 0x0051 (R341). -/
def closeTrace (s : State) (n : Nat) (t : Trace) : State :=
  let st := (t.samples.headD []).getD 6 0 / 16
  let (s, q) := sealTrace s n { t with partly := true }
  s.event pgFLOW 0 0x0051 n st q

/-- Where the scan of an MRAM ring from its checkpoint ends (R341): at the first slot without a record of a later SEQ. -/
def scanEnd (recs : List Rec) (ar : Nat) : Nat → Nat → Nat → Nat
  | 0, p, _ => p
  | k + 1, p, q =>
    match recs.find? (fun r => r.area = ar && r.pos = p && q < r.seq) with
    | some r => scanEnd recs ar k ((p + 1) % areaCap ar) r.seq
    | none => p

/-- The scan of an area (R341): a slot whose VALID word a cut left clear is cleared; in NAND, the page at the write point counts as
used and the records it holds are discarded. `torn` says it of this area. -/
def scanArea (torn : List (Fin 7)) (s : State) (ar : Nat) : State :=
  let p := if ar ≤ 2 then scanEnd s.flow.recs ar 4096 (mapFind 0 ar s.flow.ckpt) 0 else putAt s ar 1
  let s := setWp s ar p
  if !torn.any (fun a => a.val = ar) || !areaOk s ar then s
  else
    let there := fun (r : Rec) => r.area = ar && r.pos = p
    let gone := if ar ≤ 2 then 1 else (s.flow.recs.filter there).length
    let s := (s.countBy FLOW.DISCARD_CNT gone).setFlow { s.flow with recs := s.flow.recs.filter (fun r => !there r) }
    if ar ≤ 2 then s else setWp s ar (p + 1)

/-- The slots of R341 that carry VALID and fail their CRC: left in place, and counted. -/
def scanCrc (s : State) (bad : List (Nat × Nat)) : State :=
  let l := bad.filter (fun b => s.flow.recs.any (fun r => (r.area, r.seq) = b))
  (s.countBy FLOW.CRC_BAD_CNT l.length).setFlow { s.flow with rot := l ++ s.flow.rot }

/-- FLOW_RECOVERY (R341): `agree` says two copies of the control area agree, `torn` the areas whose slot or page at the write point
a cut left incomplete, `crcBad` the records, by area and SEQ, whose CRC the scans find to fail. It begins no record during a
power-down (R340). -/
def execFlowRecovery (agree : Bool) (torn : List (Fin 7)) (crcBad : List (Nat × Nat)) (s : State) : Out State :=
  if !s.domOn 3 || s.on FLOW.FLOW_RDY || s.on PWR.PF_WARN then .next s
  else
    let s := if agree then s else mramFail s 2
    let s := scanCrc s crcBad
    let s := [arEVENT, arCYCLE, arARCHIVE, arTRACE, arCLIP, arSYSTEM].foldl (scanArea torn) s
    let before := lastTick s
    let s := s.setFlow { s.flow with
      seq := s.flow.mark - 1
      mark := s.flow.mark + markStep s }
    let s := s.countBy FLOW.DISCARD_CNT s.flow.clips.length
    let s := s.setFlow { s.flow with
      clips := []
      clipSeq := [] }
    let s := (s.flow.staged.map (·.1)).foldl programPage s
    let open0 := s.flow.fq1.filterMap (fun c => c.trace.map (fun t => (c.door, t))) ++
      s.flow.traces.filterMap (fun p => p.2.map (fun t => (p.1, t)))
    let s := s.setFlow { s.flow with
      fq1 := s.flow.fq1.filter (fun c => c.trace.isNone)
      traces := [] }
    let s := open0.foldl (fun s p => closeTrace s p.1 p.2) s
    let s := s.setB FLOW.FLOW_RDY true
    let s := if s.on SYS.BROWN then s.event pgPWR 0 0x0041 (s.get PWR.PF_CNT) 0 before else s
    let s := if s.on FLOW.DISCARD_CNT then s.event pgFLOW 0 0x0050 (s.get FLOW.DISCARD_CNT) else s
    .next (snapshot s)

/-- FRAME_PROCESSED (R160, R166, R179, R333): Lantern takes the frame, and a non-check one yields a thumbnail. -/
def execFrameProcessed (h : Fin 16) (us : Nat) (targets : List (List Nat)) (s : State) : Out State :=
  let x := s.head h
  match (List.range 8).find? (fun k => (x.slots.getD k Slot.free).state = 3) with
  | none => .next s
  | some k =>
    let q := x.slots.getD k Slot.free
    let t := if s.works pgLANT && q.num % 16 != 0 then some (thumbOf s h k q.burst) else none
    let s := frameProcessed s h us targets
    .next (match t with | some t => takeThumb s h q.time t | none => s)

end Sys2Proof.Machine
end

