-- ==== Sys2Proof/Machine/Modes.lean ====
section
/-! DEFINITION. The conditions under which the module idles and parks (R52, R54). -/

namespace Sys2Proof.Machine

/-- A doorway LOCKED, or ISOLATED and locked (R52). -/
def doorLocked (s : State) (n : Nat) : Bool :=
  s.get (CYCD.STATE n) = 0 || (s.get (CYCD.STATE n) = 0xB && lvl s .saf (32 + n))

/-- Every in-service doorway locked. -/
def allLocked (s : State) : Bool := allBelow 8 (fun n => !s.inSvc n || doorLocked s n)

/-- The idle conditions (R52). A line counts as active, and the key as turned, while either channel reads it so. -/
def idleConds (s : State) : Bool :=
  allLocked s && allBelow 2 (fun i => !lvl s .saf (4 + i) && !lvl s .col (4 + i)) &&
  !s.on DST.REL_L_TG && !s.on DST.REL_R_TG && !lvl s .saf 13 && !lvl s .col 13

/-- The conditions to park (R54): the idle conditions, and every fitted step STOWED. -/
def parkConds (s : State) : Bool :=
  idleConds s && allBelow 8 (fun n => !s.hasDw n || !stepFit s n || lvl s .saf (40 + n))

/-- A request to park begins an attempt when its conditions hold in Idle; a condition that fails before the wake sources
are armed ends the attempt and counts (R54). -/
def parkSync (s : State) : State :=
  if s.pwr.phase != .idle || s.get PWR.MODE_REQ != 0 then { s with pwr := { s.pwr with parkTry := false } }
  else if parkConds s then { s with pwr := { s.pwr with parkTry := true } }
  else if s.pwr.parkTry then { (s.count PWR.PARK_ABORT_CNT) with pwr := { s.pwr with parkTry := false } }
  else s

end Sys2Proof.Machine
end

