-- ==== Sys2Proof/Machine/Traverse.lean ====
section
/-! DEFINITION. The 50 µs update of Traverse (R93): sampling, the force estimate, requests, torque, motion, the bridge
references, learning and adaptation; and the commands of the AX and TRV pages (R99, R103 to R118). -/

namespace Sys2Proof.Machine

/-- One debouncer fed with one sample (R125): the next one, and whether the sample was chatter. -/
def Debounce.feed (d : Debounce) (acc sample : Bool) (pos : Int) : Debounce × Bool :=
  if d.level = sample then ({ d with run := min 41 (d.run + 1), pos := if d.run = 0 then pos else d.pos }, false)
  else (⟨sample, 1, pos⟩, sample = acc)

/-- Step 1 of the update: encoder, Z edge, switches (R119, R125). -/
def axSample (s : State) (n : Nat) (x : AxSample) : State :=
  let a := s.ax n
  let upd := a.upd + 1
  let ill := a.illegal.filter (fun u => upd < u + 200)
  let ill := if x.illegal then upd :: ill else ill
  let s := if x.illegal then s.countFault (pgAX n) (AX.ENC_ERR_CNT n) else s
  let step := if x.illegal then 0 else if s.on (AX.ENC_INV n) then -x.count else x.count
  let cnt := a.count + step
  let meas := cnt * (s.get (AX.ENC_RATIO n) : Nat) + a.shift
  let (cl, ch1) := a.closed.feed (s.on (AX.SW_CLOSED n)) x.closed meas
  let (op, ch2) := a.opened.feed (s.on (AX.SW_OPEN n)) x.opened meas
  let s := s.countBy (AX.CHATTER_CNT n) (bit1 ch1 + bit1 ch2)
  let s := (s.setB (AX.RAW_CLOSED n) x.closed).setB (AX.RAW_OPEN n) x.opened
  let a := { a with upd := upd, illegal := ill, count := cnt, closed := cl, opened := op,
                    meas := (meas :: a.meas).take 17,
                    track := if upd % 20 = 0 then (meas :: a.track).take 256 else a.track }
  let s := s.setAx n a
  let s := s.set64 (AX.MEAS_HI n) (AX.MEAS_LO n) (meas / 65536)
  let s := s.setS (AX.MEAS_VEL n) a.measVel
  let s := if x.z then s.set64 (AX.ZCAP_HI n) (AX.ZCAP_LO n) (meas / 65536) else s
  if 16 < ill.length then encoderLost s n else s

/-- The entry at an address of the table an axis uses (R94, R95): U, V, W. -/
def phaseEntry (s : State) (n e : Nat) : Int × Int × Int :=
  let a := s.get (AX.TBL_SEL n) * 0x8000 + e * 8
  (sx 16 (s.rd16 pgTRV 1 a), sx 16 (s.rd16 pgTRV 1 (a + 2)), sx 16 (s.rd16 pgTRV 1 (a + 4)))

/-- The table entry of an axis at a position (R94). -/
def tableEntry (s : State) (n : Nat) (pos : Int) : Int × Int × Int :=
  phaseEntry s n ((pos / 65536 + (s.get (AX.EL_OFS n) : Nat)) % 4096).toNat

/-- The table address that the test ALIGN has set on an axis (R374). -/
def alignAddr (s : State) (n : Nat) : Option Nat :=
  match s.svc.align with
  | some (a, e) => if a = n then some e else none
  | none => none

/-- A projection of three phase quantities on the torque axis (R131 step 1). -/
def project (u v w a b c : Int) : Int :=
  let d := u * u + v * v + w * w
  if d = 0 then 0 else Int.tdiv (32767 * (a * u + b * v + c * w)) d

/-- The deviation of the update (R121): DEV_E, the counter, DEV_STATE. DESIGN CHOICE (log 124): the commanded position in it is the one
in force as the update samples, that of the update before. -/
def axDeviation (s : State) (n : Nat) : State :=
  let a := s.ax n
  let e := a.pos - a.measured
  let s := s.setS (AX.DEV_E n) (Int.tdiv e 65536)
  if s.on (AX.DEV_FAULT n) then s.set (AX.DEV_STATE n) 3
  else if !s.on (AX.TORQUE n) || a.encLost then (s.setAx n { a with devN := 0, devAt := none }).set (AX.DEV_STATE n) 0
  else
    let d := if s.get (AX.AX_DEV_WIN n) * 65536 < e.natAbs then min 255 (a.devN + 1) else 0
    (s.setAx n { a with devN := d, devAt := if d < s.get (AX.AX_DEV_N n) then none else some (a.devAt.getD e) }).set
      (AX.DEV_STATE n) (if 0 < d then 1 else if a.slipping then 2 else 0)

/-- A phase current as the bridge lets it flow, mA: at most 14 A either way (R382). -/
def phaseMa (i : Int) : Int := max (-14000) (min 14000 i)

/-- The force estimate of the update (R131, R132), the counters of R129 and R135, and the sample kept for the envelope. -/
def axForce (s : State) (n : Nat) (x : AxSample) : State :=
  let a := s.ax n
  let (u, v, w0) := tableEntry s n a.measured
  let two := s.on (AX.STEPPER n)
  let w := if two then 0 else w0
  let iq := project u v w (phaseMa x.iU) (phaseMa x.iV) (if two then 0 else phaseMa x.iW)
  let uq := project u v w x.uU x.uV (if two then 0 else x.uW)
  -- back-EMF in mV (µH × mA / 50 µs is 1/50 mV), speed of the motor in µrad/s
  let emf := uq - Int.tdiv ((s.get (AX.MOT_R n) : Nat) * iq) 1000 - Int.tdiv ((s.get (AX.MOT_L n) : Nat) * (iq - a.iq)) 50
  let speed := ((mkRatio (a.measVel * 20000 * 1000000) (65536 * 4096 * s.get (AX.MOT_PP n))).mul
    ((Ratio.int 2).mul piR)).trunc
  let kt0 := s.get (AX.MOT_KT n)
  let fast := s.get (AX.AX_VMAX n) < 10 * a.measVel.natAbs
  let kt := if fast && s.on (AX.TORQUE n) && !a.encLost then
      clampN (kt0 * 85 / 100) (kt0 * 115 / 100) (Config.ktFilter (s.get (AX.KT_EST n)) emf speed)
    else s.get (AX.KT_EST n)
  let s := s.set (AX.KT_EST n) kt
  let moving := !a.atRest
  if !s.on (AX.TORQUE n) || !moving || a.encLost then
    (s.set (AX.FORCE_EST n) 0).setAx n { a with iq := iq, f1 := 0, f2 := 0, overN := 0, stallN := 0 }
  else
    let dir : Int := if a.vel < 0 then -1 else 1
    let d : Nat := if a.vel < 0 then 1 else 0
    let b := envBin s n a.measured
    let fm := (forcePerMa s n).mul (.int iq)
    let eff := mkRatio (s.get (AX.MECH_EFF n)) 1000
    let fm := if (fm.mul (.int dir)).neg? then fm.div eff else fm.mul eff
    let fd := (fm.mul (.int dir)).round
    let acc := ((mkRatio ((a.vel - a.velPrev) * dir * 400000) 65536).mul
      (mkRatio (s.get (AX.AX_SCALE n)) 65536)).round
    let raw := fd - Int.tdiv ((s.get (AX.MASS_G n) : Nat) * acc) 1000 -
      (if s.on (AX.ENV_VALID n) then 100 * envF s n d b else 0)
    let est := Config.forceFilter a.f1 a.f2 raw
    let f := satS 16 (Int.tdiv est 100)
    let above := forceThr s n d < f
    let stall := s.on (AX.HOMING n) && s.get (AX.HOME_MODE n) = 1 && a.phase = HomePhase.search &&
      (s.get (AX.HOME_FORCE n) : Int) < f && 8 * a.measVel.natAbs < a.vel.natAbs
    let keep := (s.on (AX.LEARN n) || s.on (AX.ENV_VALID n)) &&
      (match a.run with | some tr => tr.kind = 1 | none => false)
    (s.set (AX.FORCE_EST n) (un 16 f)).setAx n
      { a with iq := iq, f1 := est, f2 := a.f1, overN := if above then min 5 (a.overN + 1) else 0,
               stallN := if stall then min 40 (a.stallN + 1) else 0,
               stallPos := if stall && a.stallN = 0 then a.measured else a.stallPos,
               cur := if keep then ⟨d, b, fd, acc⟩ :: a.cur else a.cur }

/-- A new motion in force: its entry's target is shown, hold ends, the amplitude is that of motion (R104, R116). A move counts
as a run from its own origin, except what a slip left of one (R133, R134). -/
def axBegin (s : State) (n : Nat) (a : Axis) (tr : Traj) (cut : Bool) : State :=
  let s := if cut then s.count (AX.CLAMP_CNT n) else s
  let s := s.set64 (AX.TGT_HI n) (AX.TGT_LO n) tr.target
  let s := s.setB (AX.HOLD n) false
  s.setAx n { a with
    run := some tr
    ramp := .none
    restN := 0
    moved := true
    curFrom := tr.org.fix16
    curClean := !s.on (AX.SLIP n)
    cur := []
    curBorn := tr.entry.born }

/-- Least squares over the kept samples (R133): sums over one bin of samples with the acceleration above 0.2 m/s². -/
def binMean (f : ForceSample → Int) (l : List ForceSample) : Ratio :=
  mkRatio (l.foldl (fun t x => t + f x) 0) l.length

/-- The two sums of the fit of m over one bin. -/
def massSums (l : List ForceSample) : Ratio × Ratio :=
  let l := l.filter (fun x => 200 < x.acc.natAbs)
  let ma := binMean (·.acc) l
  let mf := binMean (·.force) l
  l.foldl (fun t x =>
    let da := (Ratio.int x.acc).sub ma
    (t.1.add (da.mul ((Ratio.int x.force).sub mf)), t.2.add (da.mul da))) (.int 0, .int 0)

/-- The samples of one bin and direction. -/
def inBin (d b : Nat) (l : List ForceSample) : List ForceSample := l.filter (fun x => x.dir = d && x.bin = b)

/-- The largest of a list of numbers, 0 for none. -/
def topInt : List Int → Int
  | [] => 0
  | [x] => x
  | x :: l => max x (topInt l)

/-- New tables from the samples of one bin and a mass in g (R133): F_f the mean of F − m·a, E the largest residual. A bin no
sample fell into holds free values: the spec states none (log 99). -/
def learnBin (m : Int) (l : List ForceSample) (s : State) (n d b : Nat) : State :=
  let q := inBin d b l
  let res := fun (x : ForceSample) => x.force - Int.tdiv (m * x.acc) 1000
  let f := (binMean res q).round
  let e := topInt (q.map (fun x => res x - f))
  let (e, f) := if q.isEmpty then ((Config.bareEnvelope n d b).toInt, (Config.bareFriction n d b).toInt)
    else (Int.tdiv e 100, Int.tdiv f 100)
  let s := envPut s n d b e f
  let s := s.wr16 (pgAX (n % 16)) 15 (d * 0x400 + b * 4) (un 16 (satS 16 e))
  s.wr16 (pgAX (n % 16)) 15 (d * 0x400 + b * 4 + 2) (bit1 (!q.isEmpty))

/-- Learning completes (R133): mass, friction and envelope replace the old tables in one update. Where no sample is fit for
the mass it is a free value (log 99). -/
def learnComplete (s : State) (n : Nat) : State :=
  let a := s.ax n
  let sums := (List.range 512).foldl (fun (t : Ratio × Ratio) k =>
    let p := massSums (inBin (k / 256) (k % 256) a.kept)
    (t.1.add p.1, t.2.add p.2)) (.int 0, .int 0)
  let m : Int := if sums.2.isZero then Config.bareMass n else max 0 ((sums.1.mul (.int 1000)).div sums.2).round
  let s := eachUpTo 512 (fun s k => learnBin m a.kept s n (k / 256) (k % 256)) s
  let s := ((s.setB (AX.ENV_VALID n) true).setB (AX.MASS_VALID n) true).setB (AX.LEARN n) false
  let s := s.setSat (AX.MASS_G n) m.toNat
  axModels (s.setAx n { s.ax n with kept := [], learnO := 0, learnC := 0 }) n

/-- Adaptation of one bin (R134), a thirty-second part towards the move's peak and mean, E bounded. DEDUCED: the mean force is
that of F_d − m·a, from which F_f was learned (log 114). DESIGN CHOICE (log 131): each part is taken towards zero to 0.1 N. -/
def adaptBin (s : State) (n : Nat) (l : List ForceSample) (d b : Nat) : State :=
  let q := inBin d b l
  if q.isEmpty then s
  else
    let m : Int := s.get (AX.MASS_G n)
    let e := envE s n d b
    let f := envF s n d b
    let res := fun (x : ForceSample) => x.force - Int.tdiv (m * x.acc) 1000
    let peak := Int.tdiv (topInt (q.map (fun x => res x - 100 * f))) 100
    let mean := Int.tdiv (binMean res q).round 100
    let e1 := min (e + Int.tdiv (peak - e) 32) (min (2 * envE0 s n d b) ((s.get (AX.FLIM_ABS n) : Int) / 2))
    envPut s n d b e1 (f + Int.tdiv (mean - f) 32)

/-- A move has ended at its target (R133, R134): it may be a learning run, or adapt the bins it crossed. -/
def axLearned (s : State) (n : Nat) : State :=
  let a := s.ax n
  let d : Nat := if a.pos < a.curFrom then 1 else 0
  let whole := 9 * (vlimHi s n - vlimLo s n) * 65536 ≤ 10 * ((a.pos - a.curFrom).natAbs : Int)
  if !a.curClean || s.on (AX.HOMING n) then s
  else if s.on (AX.LEARN n) then
    if !whole then s
    else
      let a := { a with kept := a.cur ++ a.kept, learnO := if d = 0 then a.learnO + 1 else a.learnO,
                        learnC := if d = 1 then a.learnC + 1 else a.learnC }
      let s := (s.setAx n a).setSat (AX.LEARN_RUNS n) (min a.learnO a.learnC)
      if s.get (AX.ENV_LEARN_N n) ≤ a.learnO && s.get (AX.ENV_LEARN_N n) ≤ a.learnC then learnComplete s n else s
  else if s.on (AX.ENV_VALID n) then
    eachUpTo 512 (fun s k => adaptBin s n a.cur (k / 256) (k % 256)) s
  else s

/-- An internal move of Traverse (homing): entry with the homing profile and speed (R127). -/
def homeEntry (s : State) (n : Nat) (t : Int) : Entry :=
  ⟨t, s.get (AX.HOME_PRF n), s.get (AX.HOME_SPEED n), 0, false, 0, none, 0⟩

/-- The back-off of R127: positive by HOME_BACKOFF, inside the virtual limits. -/
def backOffEntry (s : State) (n : Nat) : Entry :=
  homeEntry s n (min (vlimHi s n) ((s.ax n).pos / 65536 + (s.get (AX.HOME_BACKOFF n) : Nat)))

/-- HOME_POS minus the reference is added to every position (R130): the commanded and measured ones with all that is kept of
them, the targets, CAP and the limits taken from it. -/
def homeApply (s : State) (n : Nat) : State :=
  let a := s.ax n
  match a.homeRef with
  | none => homeEnd s n 5
  | some (ref, code) =>
    let whole := s.getS64 (AX.HOME_POS_HI n) (AX.HOME_POS_LO n) - ref
    let d := whole * 65536
    let s := s.set64 (AX.TGT_HI n) (AX.TGT_LO n) (axTgt s n + whole)
    let s := s.set64 (AX.CAP_HI n) (AX.CAP_LO n) (s.getS64 (AX.CAP_HI n) (AX.CAP_LO n) + whole)
    let s := s.setAx n { a with
      pos := a.pos + d
      shift := a.shift + d
      meas := a.meas.map (· + d)
      track := a.track.map (· + d)
      coarse := a.coarse + d
      closed := { a.closed with pos := a.closed.pos + d }
      opened := { a.opened with pos := a.opened.pos + d }
      limitLo := a.limitLo + whole
      limitHi := a.limitHi + whole }
    let s := s.set64 (AX.MEAS_HI n) (AX.MEAS_LO n) ((a.measured + d) / 65536)
    (homeEnd s n code).setB (AX.HOMED n) true

/-- What homing does once the axis is at rest (R127): the reference is applied at the next update, as in the example of
R130. -/
def homeAtRest (s : State) (n : Nat) : State :=
  let a := s.ax n
  match a.phase with
  | .none => s
  | .backOff =>
    if s.on (AX.SW_CLOSED n) then homeEnd s n 4
    else s.setAx n { a with phase := .search, after := some (homeEntry s n (vlimLo s n)) }
  | .search => homeEnd s n 3
  | .settle =>
    s.setAx n (if s.get (AX.HOME_MODE n) = 1 then { a with phase := .settleBack, after := some (backOffEntry s n) }
      else { a with phase := .apply })
  | .settleBack => s.setAx n { a with phase := .apply }
  | .apply => s
  | .failing c => homeEnd s n c

/-- A homing that a cause ends (R130): it fails once the axis is at rest. -/
def HomePhase.fail (p : HomePhase) (code : Nat) : HomePhase :=
  match p with
  | .none => .none
  | .failing c => .failing c
  | _ => .failing code

/-- Whether a homing has failed and waits for rest. -/
def HomePhase.failed (p : HomePhase) : Bool := match p with | .failing _ => true | _ => false

/-- The initial target of STEP_OUT in addresses (R140). -/
def stepMax (s : State) (n : Nat) : Int :=
  max (vlimLo s n) (min (mkRatio (s.get (AX.STEP_MAX_MM n) * 1000 * 65536 : Nat) (s.get (AX.AX_SCALE n))).round
    (vlimHi s n))

/-- STEP_INFO of an extension that has come to rest (R140). -/
def stepCode (s : State) (n : Nat) (a : Axis) : Nat :=
  if a.endCause = 9 then 2
  else if a.endCause = 3 && !s.on (AX.SW_BOTH n) then 3
  else if a.endCause = 0x11 then 4
  else if a.endCause != 0 then 5
  else if a.gapStop then 1
  else if axTgt s n = stepMax s n then 3 else 1

/-- What the end of a motion ends with it (R127, R140): an extension and a homing phase, unless the motion goes on from
rest. -/
def axRest (s : State) (n : Nat) : State :=
  let a := s.ax n
  let s := if a.stepOut && (a.after.isNone || a.endCause != 0) then stepEnd s n (stepCode s n a) else s
  let s := s.setAx n { s.ax n with endCause := 0 }
  if (s.ax n).after.isNone || (s.ax n).phase.failed then homeAtRest s n else s

/-- The entry as a QUEUE entry, if it was a BLEND one (R105, R109). -/
def Entry.unblend (e : Entry) : Entry := if e.blend = 1 then { e with blend := 0 } else e

/-- The queue once a motion is at rest: after a stop every BLEND entry is a QUEUE entry, after a move the head. -/
def queueAtRest (stopped goesOn : Bool) (q : List Entry) : List Entry :=
  if stopped then q.map Entry.unblend
  else if goesOn then q
  else match q with | e :: l => e.unblend :: l | [] => []

/-- Whether the deceleration under way is a stop of R109: STOPPING shows that of a REPLACE, a REVERSE or an obstacle reversal too. -/
def stopRuns (s : State) (n : Nat) : Bool :=
  let c := s.get (AX.STOP_CAUSE n)
  s.on (AX.STOPPING n) && c != 5 && c != 6 && c != 0xB

/-- Whether the move that follows a deceleration from rest is what a slip left of one (R122): only such an entry carries a ceiling. -/
def slipGoesOn (a : Axis) : Bool := match a.after with | some e => e.vcap.isSome | none => false

/-- A motion has come to rest (R102, R109): at its target, or where its deceleration ended. -/
def axEnd (s : State) (n : Nat) (a : Axis) (tr : Traj) : State :=
  let pos := tr.end.fix16
  let own := tr.kind = 1
  let goesOn := a.after.isSome
  let miss := own && (match a.queue with | e :: _ => e.blend = 1 | [] => false)
  let s := if miss then s.count (AX.BLEND_MISS_CNT n) else s
  let s := s.setAx n { a with
    pos := pos
    vel := 0
    run := none
    coarse := pos
    lastBorn := if s.on (AX.HOMING n) then a.lastBorn else a.curBorn
    reversing := a.reversing && goesOn
    slipping := a.slipping && slipGoesOn a
    queue := queueAtRest (stopRuns s n) goesOn a.queue }
  let s := (s.setB (AX.STOPPING n) false).setB (AX.FORCE_TRIP n) false
  let s := if slipGoesOn a then s else s.setB (AX.SLIP n) false
  let s := if own && pos = axTgt s n * 65536 then axLearned s n else s
  axRest s n

/-- A start from rest (R104): the present position is the origin; distance 0 completes at once (R101). -/
def axStart (s : State) (n : Nat) (a : Axis) (e : Entry) : State :=
  let (tr, cut) := mkMove s n e (fromFix16 a.pos) (.int 0)
  let s := axBegin s n a tr cut
  if a.pos = e.target * 65536 then
    let s := s.setB (AX.SLIP n) false
    axRest (s.setAx n { s.ax n with
      run := none
      slipping := false
      reversing := false
      lastBorn := if s.on (AX.HOMING n) then (s.ax n).lastBorn else (s.ax n).curBorn }) n
  else s

/-- A deceleration in force; an empty one is at rest at once (R108). -/
def axSlow (s : State) (n : Nat) (a : Axis) (tr : Traj) : State :=
  if tr.done then axEnd s n a tr else s.setAx n { a with run := some tr }

/-- Whether a motion towards `t` from the present state goes on as a join (R110): ahead, no nearer than the rest point of
the deceleration `d`, first segment allowed. -/
def joinOk (a : Axis) (d tr : Traj) : Bool :=
  let p := fromFix16 a.pos
  let dist := (Ratio.int tr.target).sub p
  !dist.isZero && dist.neg? = (a.vel < 0) && a.vel != 0 && (d.end.sub p).abs.le dist.abs && firstSegOk tr

/-- Whether BATT_D allows new moves (R45, R104). -/
def driveSupplyOk (s : State) : Bool := s.on PWR.BATTD_OK && !s.on PWR.BATTD_OV

/-- A new move takes over from the running one: a slip move, a reversal, a homing and an extension end there. -/
def axTaken (s : State) (n : Nat) : State :=
  let s := (s.setB (AX.SLIP n) false).setAx n { s.ax n with slipping := false, reversing := false }
  let s := if s.on (AX.HOMING n) then homeEnd s n 5 else s
  if (s.ax n).stepOut then stepEnd s n 5 else s

/-- What is left of the running move, or the gap target that replaces it, goes on from the present state (R110, R122, R140):
joined at once, or run from rest after the deceleration `d`. -/
def axReplan (s : State) (n : Nat) (a : Axis) (e : Entry) (d : Traj) (may : Bool) : State :=
  let (mv, cut) := mkMove s n e (fromFix16 a.pos) (fromFix16 a.vel)
  if may && joinOk a d mv then axBegin s n a mv cut else axSlow s n { a with after := some e } d

/-- A stop reaches the axis (R109): the queue is flushed; a moving axis decelerates; one that is stopping already keeps
its ramp and cause, and what would have run after it is dropped. With torque off nothing decelerates (R112). -/
def axStopped (s : State) (n cause : Nat) : State :=
  let s := axFlush s n
  let a := { s.ax n with
    after := none
    curClean := false
    endCause := if (s.ax n).endCause = 0 then cause else (s.ax n).endCause
    phase := if cause = 0xA then (s.ax n).phase else (s.ax n).phase.fail 5 }
  let follow := s.on (AX.DEV_FAULT n) && s.get (AX.DEV_CAUSE n) = 1 && cause = 2
  let a := if follow && !a.atRest then { a with
      pos := a.measured
      run := a.run.map (fun tr => if tr.inDec then tr.shift a.measured else tr) } else a
  if a.atRest || !s.on (AX.TORQUE n) then
    let s := (s.setB (AX.SLIP n) false).setAx n { a with endCause := 0, reversing := false, slipping := false }
    homeAtRest (if a.stepOut then stepEnd s n 5 else s) n
  else if s.on (AX.STOPPING n) then s.setAx n a
  else
    let (d, ramp) := chooseDecel s n a (s.get (AX.STOP_PRF n)) 0 none
    axSlow (stopInfo s n cause ramp) n a d

/-- A reversal of the motion (R111, R136): decelerate along REV_PRF or what remains, then run to the target from rest. -/
def axTurn (s : State) (n : Nat) (e : Entry) (cause : Nat) (amax : Option Ratio) : State :=
  let a := { s.ax n with
    after := some e
    curClean := false
    endCause := if (s.ax n).endCause = 0 then cause else (s.ax n).endCause
    phase := (s.ax n).phase.fail 5 }
  let (d, ramp) := chooseDecel s n a (s.get (AX.REV_PRF n)) 2 amax
  axSlow (if s.on (AX.STOPPING n) then s else stopInfo s n cause ramp) n a d

/-- Whether two targets lie 1 mm or more apart (R140). -/
def farApart (s : State) (n : Nat) (t u : Int) : Bool :=
  (Ratio.int 1000).le (mkRatio ((t - u).natAbs * s.get (AX.AX_SCALE n) : Nat) 65536)

/-- A gap target of an extension (R140): it replaces the running target, or that of the move still to start, if it differs by
1 mm or more; one behind the rest point ends the extension there. -/
def axGap (s : State) (n : Nat) (t : Int) : State :=
  let a := s.ax n
  if !a.stepOut || a.endCause != 0 then s
  else match a.run, a.after, a.queue with
  | some tr, none, _ =>
    if tr.kind != 1 || !farApart s n t tr.target then s
    else
      let (d, _) := decelRunning s n a tr
      if (Ratio.int t).lt d.end then axSlow s n { a with gapStop := true } d
      else axReplan s n a { tr.entry with target := t } d (driveSupplyOk s)
  | some tr, some e, _ =>
    if !farApart s n t e.target then s
    else if (Ratio.int t).lt tr.end then s.setAx n { a with after := none, gapStop := true }
    else s.setAx n { a with after := some { e with target := t } }
  | none, some e, _ =>
    if !farApart s n t e.target then s
    else if t * 65536 < a.pos then stepEnd (s.setAx n { a with after := none }) n 1
    else s.setAx n { a with after := some { e with target := t } }
  | none, none, e :: l =>
    if !farApart s n t e.target then s
    else if t * 65536 < a.pos then stepEnd (s.setAx n { a with queue := l }) n 1
    else s.setAx n { a with queue := { e with target := t } :: l }
  | none, none, [] => s

/-- SQZ has set (R137): a closing move faster than the ceiling at a point still to run decelerates, and its remainder runs
from rest. -/
def axSqueeze (s : State) (n : Nat) : State :=
  let a := s.ax n
  match a.run with
  | none => s
  | some tr =>
    let d := (Ratio.int tr.target).sub (fromFix16 a.pos)
    if n < 8 && tr.kind = 1 && d.neg? && s.on (AX.SQZ n) && (mmsToVel s n (closeCapUm s n)).lt tr.topLeft then
      axSlow s n { a with after := some tr.entry } (decelRunning s n a tr).1
    else s

/-- HOME (R127). -/
def axHome (s : State) (n : Nat) : Wrote :=
  let a := s.ax n
  if !s.on (AX.TORQUE n) || !a.atRest || !a.queue.isEmpty || a.after.isSome || s.on (AX.HOMING n) || axFaulted s n ||
     s.on (AX.SW_BOTH n) || !s.bit (AX.PRF_VALID n) (s.get (AX.HOME_PRF n)) then (s, true)
  else
    let s := (s.setB (AX.HOMED n) false).setB (AX.HOMING n) true
    (putAx s n (if s.on (AX.SW_CLOSED n) then { a with phase := .backOff, homeRef := none, after := some (backOffEntry s n) }
      else { a with phase := .search, homeRef := none, after := some (homeEntry s n (vlimLo s n)) }), false)

/-- LEARN (R133). -/
def axLearn (s : State) (n : Nat) : Wrote :=
  let a := s.ax n
  if !a.atRest || !s.on (AX.HOMED n) || axFaulted s n then (s, true)
  else (((s.setB (AX.LEARN n) true).set (AX.LEARN_RUNS n) 0).setAx n { a with kept := [], learnO := 0, learnC := 0 },
    false)

/-- LEARN_ABORT (R133). -/
def axLearnAbort (s : State) (n : Nat) : Wrote :=
  (((s.setB (AX.LEARN n) false).set (AX.LEARN_RUNS n) 0).setAx n { s.ax n with kept := [], learnO := 0, learnC := 0 },
    false)

/-- STEP_OUT (R140): queued as an ordinary entry towards the initial target. DEDUCED (log 129): where that lies behind the axis the
extension ends at once where it is, with code 0x03, since a step never retracts in it. -/
def axStepOut (s : State) (n : Nat) (e : Entry) : Wrote :=
  let a := s.ax n
  if n < 8 || !a.atRest || !a.queue.isEmpty || !s.on (AX.TORQUE n) || !s.on (AX.HOMED n) || axFaulted s n ||
     s.on (AX.SW_BOTH n) || !s.bit (AX.PRF_VALID n) e.prf then (s, true)
  else
    let t0 := (mkRatio (s.get (AX.STEP_MAX_MM n) * 1000 * 65536 : Nat) (s.get (AX.AX_SCALE n))).round
    let (s, t, adj) := axTarget s n t0
    let a := s.ax n
    let s := putAx s n { a with queue := [{ e with target := t, blend := 0, goWait := false }], stepOut := true,
                                gapSeen := false, gapStop := false, gapLate := false, endCause := 0 }
    (if t * 65536 < a.pos then stepEnd (putAx s n { s.ax n with queue := [] }) n 3 else s, adj)

/-- What a command of AX_CMD other than STOP and REVERSE does with the entry staged when it was written (R103 to R107, R127,
R133, R140). -/
def axDo (s : State) (n cmd : Nat) (e : Entry) : Wrote :=
  match cmd with
  | 0xA1 => axPush s n e
  | 0xA3 => (axFlush s n, false)
  | 0xB0 => axHome s n
  | 0xB1 => axLearn s n
  | 0xB2 => axLearnAbort s n
  | 0xB3 => axStepOut s n e
  | _ => (s, true)

/-- GO for an axis (R106): a waiting head entry is released. -/
def axGo (s : State) (n : Nat) : State :=
  let a := s.ax n
  match a.queue with
  | e :: l => if e.goWait then putAx s n { a with queue := { e with goWait := false } :: l } else s
  | [] => s

/-- REVERSE reaches the axis (R111): away from the target it turns, else it acts as a REPLACE entry. DEDUCED: a deviation
fault forbids its motion (R124), and as a push it is discarded while one stands or both switches read made (log 13). -/
def axReversed (s : State) (n : Nat) (t : Int) (sp : Nat) : State :=
  let s := axFlush s n
  let a := s.ax n
  let e : Entry := ⟨t, s.get (AX.REV_PRF n), sp, 2, false, 1, none, bornNow s n⟩
  let away := if a.vel < 0 then a.pos < t * 65536 else decide (0 < a.vel) && decide (t * 65536 < a.pos)
  if a.atRest || !s.on (AX.TORQUE n) || !away then
    if axFaulted s n || s.on (AX.SW_BOTH n) then s.adj (pgAX n) else s.setAx n { a with queue := e :: a.queue }
  else if axFaulted s n then s
  else axTurn s n { e with blend := 0 } 6 none

/-- Step 2 of the update: one request (R93). -/
def axRequest (n : Nat) (s : State) (r : Req) : State :=
  match r with
  | .host cmd e => counted (pgAX n) (axDo s n cmd e)
  | .go => axGo s n
  | .stop c => axStopped s n c
  | .reverse t sp => axReversed s n t sp
  | .reversal t rest =>
    let a := s.ax n
    if 0 < a.vel || (a.vel = 0 && !rest) || a.reversing || !s.on (AX.TORQUE n) || axFaulted s n then s
    else
      let s := axFlush s n
      let s := (s.count (AX.REV_CNT n)).event (pgAX n) n 0x0013 (s.get (AX.TRIP_CAUSE n)) (s.get (AX.TRIP_F n))
        (un 64 (a.measured / 65536))
      let s := s.setDw n { s.dw n with revPend := true }
      let e : Entry := ⟨t, s.get (AX.REV_PRF n), 0x100, 0, false, 0, none, a.curBorn⟩
      if a.atRest then s.setAx n { s.ax n with reversing := true, after := some e }
      else axTurn (s.setAx n { s.ax n with reversing := true }) n e 0xB (some (revAmaxAddr s n))
  | .gap t => axGap s n t
  | .squeeze => axSqueeze s n

/-- What torque going off abandons: a homing, an extension, a reversal, a slip and the move that would have followed. -/
def axAbandon (s : State) (n : Nat) : State :=
  let s := (s.setB (AX.SLIP n) false).setAx n { s.ax n with
    after := none
    reversing := false
    slipping := false
    endCause := 0
    curClean := false
    cur := [] }
  let s := if s.on (AX.HOMING n) then homeEnd s n 5 else s
  if (s.ax n).stepOut then stepEnd s n 5 else s

/-- Whether a request is a command of the host for the queue, which a torque removal leaves. -/
def Req.byHost (r : Req) : Bool := match r with | .host _ _ => true | .go => true | .reverse _ _ => true | _ => false

/-- Torque removal at the update (R112): torque and its request clear, the motion ends, the queue is flushed. -/
def axTorqueLost (s : State) (n : Nat) : State :=
  let s := axFlush s n
  let a := s.ax n
  let s := (s.setB (AX.TORQUE n) false).setB (AX.TORQUE_REQ n) false
  let s := ((s.set (AX.STOP_CAUSE n) 8).set (AX.STOP_RAMP n) 0xF).setB (AX.STOPPING n) false
  let s := (s.setB (AX.HOLD n) false).setB (AX.FORCE_TRIP n) false
  axAbandon (s.setAx n { a with
    run := none
    lastBorn := if a.run.isSome && !s.on (AX.HOMING n) then a.curBorn else a.lastBorn
    reqs := a.reqs.filter Req.byHost
    cut := false
    ramp := .none
    amp := 0 }) n

/-- Torque on and off at the update (R112, R113, R124). -/
def axTorque (s : State) (n : Nat) : State :=
  let s := if (s.ax n).cut || (s.on (AX.TORQUE n) && s.on (AX.STO n)) then axTorqueLost s n else s
  let a := s.ax n
  let asked := s.on (AX.TORQUE_REQ n) && s.on (HDR.EN (pgAX n)) && s.on (HDR.EN pgTRV)
  let s := if s.on (AX.TORQUE n) && !asked && a.atRest then
      axAbandon (((s.setB (AX.TORQUE n) false).setB (AX.HOLD n) false).setAx n { a with ramp := .none, amp := 0 }) n
    else s
  let a := s.ax n
  let s := if !s.on (AX.TORQUE n) && asked && !s.on (AX.STO n) && s.pwr.readback then
      let s := if a.ktSet then s else s.set (AX.KT_EST n) (s.get (AX.MOT_KT n))
      ((s.setB (AX.TORQUE n) true).setB (AX.HOLD n) true).setAx n
        { a with pos := a.measured, vel := 0, ramp := .up 0, amp := 0, ktSet := true, coarse := a.measured }
    else s
  let s := if s.on (AX.DEV_FAULT n) && !s.on (AX.TORQUE n) && !a.encLost then
      (s.setB (AX.DEV_FAULT n) false).set (AX.DEV_STATE n) 0
    else s
  let a := s.ax n
  if s.on (AX.TORQUE n) then s else s.setAx n { a with pos := a.measured, vel := a.measVel }

/-- Whether a move may start (R104): torque on and its ramp ended, the permits that
a motion towards `t` needs, the drive supply, no deviation fault (R124). -/
def axMayStart (s : State) (n : Nat) (t : Int) : Bool :=
  s.on (AX.TORQUE n) && s.on (AX.TORQUE_REQ n) && (match (s.ax n).ramp with | .up _ => false | _ => true) &&
  permitStart s n ((s.ax n).pos < t * 65536) && driveSupplyOk s && !axFaulted s n

/-- A slip as R122 records it. -/
def slipCount (s : State) (n : Nat) (e : Int) : State :=
  (s.count (AX.SLIP_CNT n)).setSat (AX.DEV_LAST n) (e.natAbs / 65536)

/-- The axis as a slip resynchronises it: the commanded state takes the measured one, the velocity limited. -/
def slipAxis (s : State) (n : Nat) (a : Axis) : Axis :=
  let vmax : Int := s.get (AX.AX_SLIP_VMAX n)
  { a with
    pos := a.measured
    vel := clampI (-vmax) vmax a.measVel
    devN := 0
    devAt := none
    slipping := true
    curClean := false }

/-- The running move planned again at slip speed (R122): the remainder at once, or from rest after a deceleration along the
running profile. -/
def slipReplan (s : State) (n : Nat) (a : Axis) (tr : Traj) : State :=
  let vmax := s.get (AX.AX_SLIP_VMAX n)
  let cap := match tr.entry.vcap with | none => vmax | some c => min c vmax
  axReplan ((s.setB (AX.SLIP n) true).set (AX.DEV_STATE n) 2) n a { tr.entry with vcap := some cap }
    (decelPart s n a tr).1 true

/-- A slip of deviation `e` (R122): at rest the axis holds at the new position, a running move is planned again, a
deceleration goes on from the new position with its remaining duration and its bound. Coarse following keeps its target, at slip
speed until it is reached. -/
def axSlip (s : State) (n : Nat) (e : Int) : State :=
  let a := s.ax n
  let s := slipCount s n e
  axShow (match a.run with
  | none =>
    if s.on (AX.COARSE n) && a.vel != 0 then ((s.setB (AX.SLIP n) true).setAx n (slipAxis s n a)).set (AX.DEV_STATE n) 2
    else (s.setAx n { slipAxis s n a with vel := a.vel, coarse := a.measured, slipping := a.slipping }).set (AX.DEV_STATE n)
      (if a.slipping then 2 else 0)
  | some tr =>
    if tr.kind = 1 then slipReplan s n (slipAxis s n a) tr
    else (s.setAx n { slipAxis s n a with vel := a.vel, run := some (tr.shift a.measured) }).set (AX.DEV_STATE n) 2) n

/-- The slip that the decision of R121 would find on an axis now, if its deviation has lasted AX_DEV_N updates: the
deviation, and whether it lies within the recapture window. -/
def pendingDecision (s : State) (n : Nat) : Option (Int × Bool) :=
  let a := s.ax n
  if !s.hasAx n || s.on (AX.DEV_FAULT n) || !s.on (AX.TORQUE n) || a.encLost then none
  else a.devAt.map (fun e => (e, e.natAbs ≤ s.get (AX.AX_RECAP_WIN n) * 65536))

/-- The blend of R105 at the update in which the running move's blend knot is reached. A slip whose decision is due is
applied first, and the conditions hold on the resynchronised state (R141). -/
def axBlend (s : State) (n : Nat) : State :=
  let a := s.ax n
  match a.run, a.queue with
  | some tr, e :: l =>
    if e.blend != 1 || tr.kind != 1 || !tr.inDec || ({ tr with t := tr.t - 3276800 }).inDec then s
    else
      let q := knotAt tr.knots tr.dec
      let slip := match pendingDecision s n with | some (x, true) => some x | _ => none
      let fault := match pendingDecision s n with | some (_, false) => true | _ => false
      let s := match slip with | some x => slipCount s n x | none => s
      let a := if slip.isSome then slipAxis s n a else a
      let pb := if slip.isSome then fromFix16 a.pos else tr.org.add q.p
      let vb := if slip.isSome then fromFix16 a.vel else q.v
      let (mv, cut) := mkMove s n e pb vb
      let d := (Ratio.int e.target).sub pb
      let ok := 2 ≤ e.age && !e.goWait && !s.on (AX.STOPPING n) && !fault && driveSupplyOk s && !d.isZero && !vb.isZero &&
        d.neg? = vb.neg? && (((Ratio.int tr.target).sub pb).abs.le d.abs) && firstSegOk mv
      if ok then
        let s := axTaken (s.setAx n a) n
        let mv := { mv with t := if slip.isSome then 0 else tr.t - (q.t.mul (.int 65536)).round.toNat }
        axBegin s n { s.ax n with queue := l, pos := mv.pos, vel := mv.vel } mv cut
      else
        let a := { a with queue := { e with blend := 0 } :: l }
        let s := (s.count (AX.BLEND_MISS_CNT n)).setAx n a
        if slip.isSome then slipReplan s n a tr else s
  | _, _ => s

/-- The decision of R121, when the deviation has lasted AX_DEV_N updates. -/
def deviationDecision (s : State) (n : Nat) : State :=
  match pendingDecision s n with
  | none => s
  | some (e, true) => axSlip s n e
  | some (e, false) => devFault s n 1 e

/-- Coarse following (R115): towards the coarse target at the speed of the latest edges, one update at rest between two
directions. -/
def axCoarse (s : State) (n : Nat) : State :=
  let a := s.ax n
  let goal := a.coarse
  let ok := s.get (AX.MODE n) = 1 && s.on (AX.TORQUE n) && !axFaulted s n &&
    (match a.ramp with | .up _ => false | _ => true) && !s.on (AX.STOPPING n)
  let s := s.setB (AX.COARSE n) (s.get (AX.MODE n) = 1)
  if !ok || a.run.isSome then s
  else
    let want : Int := if goal = a.pos then 0 else if goal < a.pos then -1 else 1
    if want = 0 then (if a.slipping then s.setB (AX.SLIP n) false else s).setAx n { a with vel := 0, slipping := false }
    else if a.vel = 0 && !(permitStart s n (0 < want) && driveSupplyOk s) then s.setAx n { a with vel := 0 }
    else if a.coarseDir != 0 && want != a.coarseDir then s.setAx n { a with vel := 0, coarseDir := 0 }
    else
      let v := (mkRatio (s.get (AX.AX_INTERP n) * 50 : Nat) (max 1 (min 20000 a.coarseGap))).min
        (moveCap s n (.int want) (if a.slipping then some (s.get (AX.AX_SLIP_VMAX n)) else none))
      let step := min v.fix16 (goal - a.pos).natAbs
      (s.setB (AX.HOLD n) false).setAx n
        { a with pos := a.pos + want * step, vel := want * step, coarseDir := want, ramp := .none, restN := 0 }

/-- An entry one update older. -/
def Entry.older (e : Entry) : Entry := { e with age := e.age + 1 }

/-- The running motion 50 µs on (R102, R123): where it stands at this update, or its end. -/
def axAdvance (s : State) (n : Nat) : State :=
  let a := s.ax n
  let a := { a with velPrev := a.vel, queue := a.queue.map Entry.older }
  match a.run with
  | some tr =>
    let tr := { tr with t := tr.t + 3276800 }
    let chase := s.on (AX.DEV_FAULT n) && s.get (AX.DEV_CAUSE n) = 1 && tr.kind = 2 &&
      s.get (AX.AX_DEV_WIN n) * 65536 < (a.pos - a.measured).natAbs
    let tr := if chase then tr.shift a.measured else tr
    if tr.done then axEnd s n a tr else s.setAx n { a with run := some tr, pos := tr.pos, vel := tr.vel }
  | none => s.setAx n a

/-- A REPLACE entry at the head of the queue meets a motion (R110): it starts at once as a join, or from rest after the
deceleration along the running profile. While the axis stops, it waits for the end of the stop. -/
def axReplaceHead (s : State) (n : Nat) : State :=
  let a := s.ax n
  match a.run, a.queue with
  | some tr, e :: l =>
    if e.blend != 2 || e.goWait || s.on (AX.STOPPING n) then s
    else
      let (d, ramp) := decelRunning s n a tr
      let (mv, cut) := mkMove s n e (fromFix16 a.pos) (fromFix16 a.vel)
      if driveSupplyOk s && joinOk a d mv then
        let s := axTaken s n
        axBegin s n { s.ax n with queue := l, after := none } mv cut
      else axSlow (stopInfo s n 5 ramp) n { a with after := none, endCause := 5, phase := a.phase.fail 5 } d
  | _, _ => s

/-- Whether a REPLACE entry at the head of the queue takes the place of the move that would follow from rest (R110). -/
def replacesAfter (a : Axis) : Bool :=
  a.after.isSome && !a.reversing && a.phase = HomePhase.none &&
  (match a.queue with | e :: _ => e.blend = 2 && !e.goWait | [] => false)

/-- Step 3 of the update (R93): DEDUCED (log 129): a valid gap counts as arrived by the start of an extension (R140) where it came
no more than 150 ms before. A running move blends; an axis that was at rest already (`rest`) applies its reference, or
starts the next entry, or follows coarse input. -/
def axLaunch (rest : Bool) (s : State) (n : Nat) : State :=
  let a := s.ax n
  if a.run.isSome then axBlend s n
  else if !rest then s
  else if a.phase = HomePhase.apply then homeApply s n
  else if s.on (AX.TORQUE n) && a.vel = 0 then
    let s := if replacesAfter a then axTaken (s.setAx n { a with after := none }) n else s
    let a := s.ax n
    match a.after, a.queue with
    | some e, _ => if axMayStart s n e.target then axStart s n { a with after := none } e else s
    | none, e :: l =>
      if e.goWait || !axMayStart s n e.target then axCoarse s n
      else
        let late := a.stepOut && !a.gapSeen && 150 < s.get (AX.GAP_AGE_MS n)
        axStart (if late then s.count (AX.GAP_STALE_CNT n) else s) n { a with queue := l, gapLate := a.gapLate || late } e
    | none, [] => axCoarse s n
  else axCoarse s n

/-- The hold amplitude (R116). -/
def holdAmp (s : State) (n : Nat) : Nat := s.get (AX.I_RUN n) * s.get (AX.AX_HOLD_PCT n) / 100

/-- Whether an axis brakes: it runs a deceleration or the deceleration part of its move. -/
def Axis.braking (a : Axis) : Bool := match a.run with | some tr => tr.inDec | none => false

/-- Whether the deceleration of an obstacle reversal runs (R136). -/
def Axis.turning (a : Axis) : Bool :=
  a.reversing && a.after.isSome && (match a.run with | some tr => tr.kind = 2 | none => false)

/-- Step 5 of the update: the amplitude in force (R94, R113, R116, R127, R136, R42) and the bridge references, of a stepper
those of its two phases (R95). The test ALIGN takes 30 % of I_RUN at the address it steps (R374). -/
def axBridge (s : State) (n scaleNum scaleDen : Nat) : State :=
  let a := s.ax n
  let ramp := match a.ramp with
    | .up k => Ramp.up (min 400 (k + 1))
    | .down k => Ramp.down (min 400 (k + 1))
    | .none => Ramp.none
  let run := s.get (AX.I_RUN n)
  let hold := holdAmp s n
  let top := if a.phase = HomePhase.search && s.get (AX.HOME_MODE n) = 1 then min run (s.get (AX.HOME_I n)) else run
  let amp :=
    if !s.on (AX.TORQUE n) then 0
    else if (alignAddr s n).isSome then run * 3 / 10
    else match ramp with
    | .up k => hold * k / 400
    | .down k => run - (run - hold) * k / 400
    | .none =>
      if a.atRest then (if s.on (AX.HOLD n) then hold else run)
      else if a.turning then 12000
      else if a.braking then top
      else top * scaleNum / scaleDen
  let (u, v, w) := match alignAddr s n with | some e => phaseEntry s n e | none => tableEntry s n a.pos
  let two := s.on (AX.STEPPER n)
  s.setAx n { a with ramp := ramp, amp := amp, refs := (u, v, if two then 0 else w), wHalf := two,
                     restN := if a.atRest then a.restN + 1 else 0 }

/-- One axis through the update of 50 µs (R93). The requests act on the position that the running motion has at this update, as
the example of R130 shows (log 114). -/
def axUpdate (scaleNum scaleDen : Nat) (s : State) (n : Nat) (x : AxSample) : State :=
  let s := axSample s n x
  let s := axTorque s n
  let s := axDeviation s n
  let s := axForce s n x
  let rest := (s.ax n).run.isNone
  let s := axAdvance s n
  let rs := (s.ax n).reqs
  let s := s.setAx n { s.ax n with reqs := [] }
  let s := rs.foldl (axRequest n) s
  let s := axReplaceHead s n
  let s := axLaunch rest s n
  axShow (axModels (axBridge s n scaleNum scaleDen) n) n

/-- The BATT_D budget (R42) in 0.1 A: the lower of DRV_I_LIM and what DRV_P_LIM allows at the present voltage. A smaller member has
less than 30 A and 2.4 kW in proportion to its axes, whatever the fields are set to (R9, R389; DEDUCED, log 107). -/
def drvBudget (s : State) : Nat :=
  let i := min (s.get PWR.DRV_I_LIM) (300 * (s.nD + s.nS) / 16)
  let p := min (s.get PWR.DRV_P_LIM) (240 * (s.nD + s.nS) / 16)
  if s.pwr.mvD ≤ 0 then i else min i (p * 100000 / s.pwr.mvD.toNat)

/-- R42 at the update: `demand` is the summed demand of the motoring axes in 0.1 A. -/
def drvLimit (s : State) (demand : Nat) : State :=
  let lim := drvBudget s < demand
  let s := if lim && !s.on PWR.DRV_LIMITING then s.count PWR.DRV_LIM_CNT else s
  s.setB PWR.DRV_LIMITING lim

/-- Whether an axis regenerates (R43): torque is on and it brakes. -/
def anyRegen (s : State) : Bool := anyBelow 16 (fun n => s.on (AX.TORQUE n) && (s.ax n).braking)

/-- TRAVERSE_UPDATE (R93): one sample per axis, axis 0 first; Traverse works only while its domain does. The bus reference
voltage is frozen while an axis regenerates (R43). -/
def traverseUpdate (s : State) (samples : List AxSample) (demand : Nat) : State :=
  if !s.domOn 3 then s
  else
    let s := drvLimit s demand
    let lim := drvBudget s < demand
    let s := eachAx (fun s n => axUpdate (if lim then drvBudget s else 1) (if lim then demand else 1) s n
      (samples.getD n AxSample.quiet)) s
    if anyRegen s = s.pwr.regen then s else vrefFold s (anyRegen s)

/-- Commit of a profile (R99, R100). -/
def prfCommit (s : State) (n : Nat) (val : Nat) : Wrote :=
  let k := val % 0x10000
  if val / 0x10000 != 0x00C0 || 31 < k || prfInUse s n k then (s, true)
  else match prfCheck s n k with
    | none => (s.setBit (AX.PRF_VALID n) k true, false)
    | some (reason, seg) =>
      ((((s.setBit (AX.PRF_VALID n) k false).set (AX.ERR_PRF n) k).set (AX.ERR_REASON n) reason).set (AX.ERR_SEG n) seg,
        true)

/-- A write of AX_CMD (R93, R103 to R111, R127, R133, R140): STOP and REVERSE wait for the next update, and so does every
command written while one waits, which keeps the order received. DEDUCED: with none waiting, the others act on the queue at
the write, and on the motion at the next update (log 13). -/
def axCommand (s : State) (n val : Nat) : Wrote :=
  if val = 0xA2 then (axAsk s n (.stop 1), false)
  else if val = 0xA4 then axReverse s n
  else if val = 0xA1 || val = 0xA3 || (0xB0 ≤ val && val ≤ 0xB3) then
    if (s.ax n).reqs.isEmpty then axDo s n val (axStaged s n)
    else (axAsk s n (.host val { axStaged s n with age := 1 }), false)
  else (s, true)

/-- A write of TRV_GO (R93, R106): waiting head entries of the named axes are released together; on an axis with commands that wait
for the update it takes its turn behind them. -/
def trvGo (s : State) (val : Nat) : Wrote :=
  if val / 0x10000 != 0x6A5C then (s, true)
  else (eachAx (fun s n =>
    if !bitAt val n then s else if (s.ax n).reqs.isEmpty then axGo s n else axAsk s n .go) s, false)

/-- Which fields of an AX page take a write now (R95, R113, R114, R115, R142). -/
def axTakes (s : State) (n : Nat) (r : Reg) : Bool :=
  if r = AX.TBL_SEL n || r = AX.STEPPER n || r = AX.EL_OFS n || r = AX.AX_SCALE n || r = AX.STOP_PRF n ||
     r = AX.REV_PRF n || r = AX.ENC_RATIO n || r = AX.MOT_PP n || r = AX.ENC_INV n || r = AX.MOT_KT n || r = AX.MOT_R n ||
     r = AX.MOT_L n || r = AX.MECH_EFF n then !s.on (AX.TORQUE n)
  else if r = AX.MODE n then (s.ax n).atRest && !s.on (AX.TORQUE n)
  else if r = AX.AX_VLIM_LO_HI n || r = AX.AX_VLIM_LO_LO n || r = AX.AX_VLIM_HI_HI n || r = AX.AX_VLIM_HI_LO n then
    (s.ax n).atRest && (s.ax n).queue.isEmpty
  else if r = AX.HOME_SPEED n || r = AX.HOME_PRF n || r = AX.HOME_MODE n || r = AX.HOME_FORCE n || r = AX.HOME_I n ||
          r = AX.HOME_POS_HI n || r = AX.HOME_POS_LO n || r = AX.HOME_BACKOFF n then !s.on (AX.HOMING n)
  else if r = AX.STEP_MAX_MM n || r = AX.STEP_GAP_MM n then 8 ≤ n
  else true

/-- What a written value becomes on an AX page (R86, R95, R113, R115, R118, R121, R129). -/
def axLimit (s : State) (n : Nat) (r : Reg) (v : Nat) : Nat :=
  if r = AX.STEPPER n && n < 8 then 0
  else if r = AX.MODE n && 8 ≤ n then 0
  else if r = AX.TORQUE_REQ n && v = 1 &&
     !(s.on (HDR.EN (pgAX n)) && s.on (HDR.EN pgTRV) && prfEnterable s n (s.get (AX.STOP_PRF n)) &&
       prfEnterable s n (s.get (AX.REV_PRF n))) then 0
  else if r = AX.AX_RECAP_WIN n then clampN (s.get (AX.AX_DEV_WIN n)) 0xFFFFFF v
  else if r = AX.HOME_FORCE n then clampN 50 (max 50 (s.get (AX.FLIM_ABS n) - 100)) v
  else v

/-- A virtual limit written (R114): a crossed bound becomes the other one. A change makes the models void (R133); `s0` is the
state before the write. -/
def vlimWritten (s0 s : State) (n : Nat) (low : Bool) : Wrote :=
  let s1 := if vlimHi s n < vlimLo s n then
      (if low then s.set64 (AX.AX_VLIM_LO_HI n) (AX.AX_VLIM_LO_LO n) (vlimHi s n)
       else s.set64 (AX.AX_VLIM_HI_HI n) (AX.AX_VLIM_HI_LO n) (vlimLo s n))
    else s
  (if vlimLo s1 n = vlimLo s0 n && vlimHi s1 n = vlimHi s0 n then s1 else envClear s1 n, vlimHi s n < vlimLo s n)

/-- Whether a write changed what the models were learned under (R133). -/
def modelsChanged (s0 s : State) (n : Nat) : Bool :=
  s0.get (AX.AX_SCALE n) != s.get (AX.AX_SCALE n) || s0.get (AX.MOT_PP n) != s.get (AX.MOT_PP n) ||
  s0.get (AX.MOT_KT n) != s.get (AX.MOT_KT n) || s0.get (AX.MECH_EFF n) != s.get (AX.MECH_EFF n)

/-- The torque request of an axis was withdrawn, by itself or through an EN (R109, R118): a moving axis stops. -/
def torqueWithdrawn (s : State) (n : Nat) : State :=
  if s.on (AX.TORQUE_REQ n) && s.on (HDR.EN (pgAX n)) && s.on (HDR.EN pgTRV) then s
  else if (s.ax n).atRest then s else axAsk s n (.stop 7)

/-- EN of an AX page or of page TRV was written (R118): while it is 0 the torque request is clamped to 0. -/
def axEnWritten (s : State) (n : Nat) : State :=
  if s.on (HDR.EN (pgAX n)) && s.on (HDR.EN pgTRV) then s
  else torqueWithdrawn (s.setB (AX.TORQUE_REQ n) false) n

/-- MODE was written (R115): COARSE claims the pair of the doorway, PROFILE releases it; a refused claim clamps MODE. -/
def axModeWritten (s : State) (n : Nat) : State :=
  if s.get (AX.MODE n) = 1 then
    let (s, ok, lost) := s.claim 1 n 2
    let s := if lost = 5 then s.setBit RES.HOST_CSTEP n false else s
    let a := s.ax n
    let s := if ok then s else s.set (AX.MODE n) 0
    putAx (s.setB (AX.COARSE n) (s.get (AX.MODE n) = 1)) n { a with coarse := a.pos, coarseDir := 0, coarseGap := 20000 }
  else axShow ((s.release 1 n 2).setB (AX.COARSE n) false) n

/-- AX_DEV_WIN raises AX_RECAP_WIN with it (R121). -/
def devWinWritten (s : State) (n : Nat) : State :=
  if s.get (AX.AX_RECAP_WIN n) < s.get (AX.AX_DEV_WIN n) then s.set (AX.AX_RECAP_WIN n) (s.get (AX.AX_DEV_WIN n)) else s

/-- A rising CSTEP edge (R115): `tc` is the time since the previous one in µs. -/
def cstepEdge (s : State) (n : Nat) (cdir : Bool) (tc : Nat) : State :=
  if !s.hasAx n || s.get (AX.MODE n) != 1 then s
  else
    let a := s.ax n
    let step : Int := s.get (AX.AX_INTERP n) * 65536
    let t := if cdir then a.coarse + step else a.coarse - step
    if t < vlimLo s n * 65536 || vlimHi s n * 65536 < t then s.count (AX.CLAMP_CNT n)
    else if 65536 * 65536 < (t - a.pos).natAbs then s.countDrop (pgAX n) (AX.CS_DROP_CNT n)
    else s.setAx n { a with coarse := t, coarseGap := min 20000 tc }

/-- Torque is cut on an axis: the gate-driver supply of its bridge fails (R112). STO shows it at once. -/
def torqueCut (s : State) (n : Nat) : State := stoPut s n true

/-- The CRC of a microstep table (R96). -/
def tableCrc (s : State) (t : Nat) : Nat := crc32 (s.rdBytes pgTRV 1 (t * 0x8000) 0x8000)

/-- The field that shows it. -/
def tblCrcReg (t : Nat) : Reg := match t with | 0 => TRV.TBL_CRC0 | 1 => TRV.TBL_CRC1 | 2 => TRV.TBL_CRC2 | _ => TRV.TBL_CRC3

/-- TORQUE_RAMP_END (R113): after the 400 updates of 20 ms the amplitude stands at the hold amplitude, and moves may start. -/
def execTorqueRampEnd (n : Fin 16) (s : State) : Out State :=
  let a := s.ax n
  .next (match a.ramp with
    | .up k => if s.on (AX.TORQUE n) && 400 ≤ k then s.setAx n { a with ramp := .none, amp := holdAmp s n } else s
    | _ => s)

/-- CSTEP_EDGE. -/
def execCstepEdge (n : Fin 8) (cdir : Bool) (tc : Nat) (s : State) : Out State := .next (cstepEdge s n cdir tc)

/-- TBL_CRC_UPDATE (R96). -/
def execTblCrcUpdate (t : Fin 4) (s : State) : Out State := .next (s.set (tblCrcReg t) (tableCrc s t))

/-- TORQUE_REMOVAL (R112): STO sets at once; the rest follows at the next update. -/
def execTorqueRemoval (n : Fin 16) (s : State) : Out State := .next (if s.hasAx n then torqueCut s n else s)

end Sys2Proof.Machine
end

