-- ==== Sys2Proof/Machine/Sensing.lean ====
section
/-! DEFINITION. What the sensing of an axis decides: encoder loss, slips and deviation faults, limit switches and homing
references, force trips and reversal requests, Squeeze, the gap targets of a step, standstill current (R116, R120 to R141). -/

namespace Sys2Proof.Machine

/-- The debouncer of a switch and its readings. -/
def swReg (n : Nat) (opened : Bool) : Reg := if opened then AX.SW_OPEN n else AX.SW_CLOSED n
def swDeb (a : Axis) (opened : Bool) : Debounce := if opened then a.opened else a.closed

/-- CAP_SW of a change (R142). -/
def capCode (opened made : Bool) : Nat :=
  match opened, made with | false, true => 1 | false, false => 2 | true, true => 3 | true, false => 4

/-- A limit (R126): the switch made towards which the axis moves, away from the target. -/
def axLimitHit (s : State) (n : Nat) (opened : Bool) (cap : Int) : State :=
  let s := (s.count (AX.LIMIT_CNT n)).event (pgAX n) n 0x0011 (s.get (AX.CAP_SW n)) 0 (un 64 cap)
  let a := s.ax n
  let a := if opened then { a with limits := putBit a.limits 1 true, limitHi := cap }
    else { a with limits := putBit a.limits 0 true, limitLo := cap }
  axAsk (s.setAx n a) n (.stop 3)

/-- The running target that SW_MARGIN is measured from (R126): of the motion under way, in coarse following the coarse target.
DEDUCED: a coasting axis has none (log 114). -/
def runningTarget (s : State) (n : Nat) : Option Int :=
  let a := s.ax n
  if s.get (AX.MODE n) = 1 then some a.coarse
  else if a.run.isSome then some ((match a.after with | some e => if a.reversing then e.target else axTgt s n | none => axTgt s n) * 65536)
  else none

/-- A switch accepted as made (R125 to R128): both made stop a moving axis; in homing the homing switch is the reference and
the other one ends it; else it may be a limit. -/
def switchMade (s : State) (n : Nat) (opened : Bool) (cap : Int) : State :=
  let a := s.ax n
  let s := if s.on (AX.SW_CLOSED n) && s.on (AX.SW_OPEN n) && !s.on (AX.SW_BOTH n) then
      let s := (s.setB (AX.SW_BOTH n) true).count (HDR.PG_FAULT_CNT (pgAX n))
      if a.atRest then s else axAsk s n (.stop 3)
    else s
  let a := s.ax n
  if s.on (AX.HOMING n) then
    if opened then axAsk (s.setAx n { a with phase := a.phase.fail 6 }) n (.stop 3)
    else if a.phase = HomePhase.search then
      axAsk (s.setAx n { a with homeRef := some (cap / 65536, 1), phase := .settle }) n (.stop 0xA)
    else s
  else
    let towards := if opened then decide (0 < a.vel) else decide (a.vel < 0)
    let near := match runningTarget s n with
      | some t => (a.pos - t).natAbs ≤ s.get (AX.SW_MARGIN n) * 65536
      | none => false
    if towards && !near then axLimitHit s n opened (cap / 65536) else s

/-- A switch change accepted (R125): the reading and CAP follow the stable run. -/
def switchAccepted (s : State) (n : Nat) (opened : Bool) : State :=
  let a := s.ax n
  let d := swDeb a opened
  if !s.hasAx n || d.run < 41 || s.on (swReg n opened) = d.level then s
  else
    let s := s.setB (swReg n opened) d.level
    let s := s.set64 (AX.CAP_HI n) (AX.CAP_LO n) (d.pos / 65536)
    let s := s.set (AX.CAP_SW n) (capCode opened d.level)
    axShow (if d.level then switchMade s n opened d.pos
      else (s.setB (AX.SW_BOTH n) false).setAx n { a with limits := putBit a.limits (bit1 opened) false }) n

/-- A hard stop (R129): the reference is where the stall began; the commanded position takes the measured one and the stop
along STOP_PRF is empty, so the stalled axis is at rest at once. -/
def hardStop (s : State) (n : Nat) : State :=
  let a := s.ax n
  if !s.on (AX.HOMING n) || s.get (AX.HOME_MODE n) != 1 || a.phase != HomePhase.search || a.stallN < 40 then s
  else
    let s := stopInfo (axFlush s n) n 0xA 0
    let a := { s.ax n with
      homeRef := some (a.stallPos / 65536, 2)
      phase := .settle
      stallN := 0
      curClean := false
      pos := a.measured
      vel := 0 }
    putAx s n { a with run := some (decelProfile s n a (s.get (AX.STOP_PRF n)) none Entry.nothing) }

/-- Which limit a trip crossed (R142): 1 the envelope, 2 the absolute limit. -/
def tripCause (s : State) (n dir : Nat) : Nat := if forceThr s n dir < forceCap s n then 1 else 2

/-- A force trip (R135, R127, R199): a closing door axis reverses, except in crew-supervised closing; every other one
stops. During a reversal it is only counted (R141). -/
def forceTrip (s : State) (n : Nat) : State :=
  let a := s.ax n
  if !s.hasAx n || a.overN < 4 || !s.on (AX.TORQUE n) || a.vel = 0 then s
  else
    let d : Nat := if a.vel < 0 then 1 else 0
    let cause := tripCause s n d
    let s := (s.setB (AX.FORCE_TRIP n) true).count (AX.FORCE_TRIP_CNT n)
    let s := ((s.set (AX.TRIP_CAUSE n) cause).set (AX.TRIP_BIN n) (envBin s n a.measured)).set (AX.TRIP_F n)
      (s.get (AX.FORCE_EST n))
    let s := s.setAx n { a with overN := 0, curClean := false }
    if a.reversing then s
    else if n < 8 && d = 1 && !s.on (AX.HOMING n) then (if thClosing s n then s else askReversal (s.source n 1) n cause)
    else axAsk s n (.stop 9)

/-- GAP_MM (R140): the gap target follows from the measured position at the frame time. -/
def gapReceived (s : State) (n gap ageMs : Nat) : State :=
  let s := (s.setSat (AX.GAP_MM n) (min gap 0xFFFE)).setSat (AX.GAP_AGE_MS n) ageMs
  let a := s.ax n
  if !a.stepOut then s
  else
    let seen := a.track.getD ageMs (a.track.getLastD a.measured)
    let d := mkRatio (((gap : Int) - (s.get (AX.STEP_GAP_MM n) : Nat)) * 1000 * 65536) (s.get (AX.AX_SCALE n))
    let t := min ((fromFix16 seen).add d).round (stepMax s n)
    axAsk (s.setAx n { a with gapSeen := true }) n (.gap t)

/-- ENCODER_LOST (R120): a receiver sees no valid level. -/
def execEncoderLost (n : Fin 16) (s : State) : Out State := .next (if s.hasAx n then safetyEval (encoderLost s n) else s)

/-- ENCODER_RESTORED (R124, R230). -/
def execEncoderRestored (n : Fin 16) (s : State) : Out State :=
  .next (safetyEval (s.setAx n { s.ax n with encLost := false }))

/-- DEVIATION_DECISION. -/
def execDeviationDecision (n : Fin 16) (s : State) : Out State := .next (deviationDecision s n)

/-- SWITCH_ACCEPTED. -/
def execSwitchAccepted (n : Fin 16) (opened : Bool) (s : State) : Out State := .next (switchAccepted s n opened)

/-- HARD_STOP_FOUND. -/
def execHardStopFound (n : Fin 16) (s : State) : Out State := .next (hardStop s n)

/-- FORCE_TRIP. -/
def execForceTrip (n : Fin 16) (s : State) : Out State := .next (forceTrip s n)

/-- REVERSAL_REQUEST (R136): what the safety processor sent reaches Traverse, trip cause 3. -/
def execReversalRequest (n : Fin 16) (s : State) : Out State :=
  if !bitAt s.saf.revReq n then .next s
  else
    let rest := bitAt s.saf.revRest n
    let s := { s with saf := { s.saf with
      revReq := putBit s.saf.revReq n false
      revRest := putBit s.saf.revRest n false } }
    .next (askReversal s n 3 rest)

/-- SQZ_CHANGE (R137, R183): the mark of the doorway reaches its axis; a running move is judged at the next update. -/
def execSqzChange (n : Fin 8) (s : State) : Out State :=
  let mark := bitAt s.saf.sqz n
  if !s.hasDw n || s.on (AX.SQZ n) = mark then .next s
  else
    let s := axModels (s.setB (AX.SQZ n) mark) n
    .next (if mark then axAsk s n .squeeze else s)

/-- GAP_MM_RECEIVED (R140, R174, R176): the oldest record of the sill head on its way reaches Traverse, with the gap and the mark it
carries; one marked invalid counts as missing. -/
def execGapMmReceived (n : Fin 8) (gap : Nat) (valid : Bool) (us : Nat) (s : State) : Out State :=
  let h := 2 * n.val + 1
  let x := s.head h
  match x.toTraverse with
  | [] => .next s
  | rcd :: rest =>
    if rcd.getD 4 0 / 65536 != gap || bitAt (rcd.getD 2 0) 11 != valid then .next s
    else
      let s := s.setHead h { x with
        toTraverse := rest
        atTraverse := rcd }
      let age := (us + 2 ^ 32 - rcd.getD 1 0) % 2 ^ 32 / 1000
      .next (if s.hasAx (8 + n) && valid then gapReceived s (8 + n) gap age else s)

/-- GAP_STALE (R140): no valid gap for 150 ms after one has arrived stops the extension. -/
def execGapStale (n : Fin 8) (s : State) : Out State :=
  let a := s.ax (8 + n)
  if !a.stepOut || !a.gapSeen || a.atRest || a.endCause != 0 then .next s
  else .next (axAsk (s.setAx (8 + n) { a with endCause := 0x11 }) (8 + n) (.stop 1))

/-- HOLD_REDUCTION_START (R116): after AX_HOLD_DELAY ms at rest, 20 updates to the millisecond, the amplitude begins to fall
and HOLD sets; ADCL counts the axis as in hold. -/
def execHoldReductionStart (n : Fin 16) (s : State) : Out State :=
  let a := s.ax n
  if !s.on (AX.TORQUE n) || !a.atRest || s.on (AX.HOLD n) || a.restN < 20 * s.get (AX.AX_HOLD_DELAY n) then .next s
  else .next (safetyEval ((s.setB (AX.HOLD n) true).setAx n { a with ramp := .down 0 }))

end Sys2Proof.Machine
end

