-- ==== Sys2Proof/Machine/Cycle.lean ====
section
/-! DEFINITION. The door cycle (R188 to R209): requested and forced transitions, supervision timers, reversal and re-close,
dragging, counting cycles, and what Flowstone is handed at the end of one. -/

namespace Sys2Proof.Machine

/-- The states of R189. -/
abbrev stLOCKED := 0x0
abbrev stSTEP_OUT := 0x1
abbrev stUNLOCKING := 0x2
abbrev stOPENING := 0x3
abbrev stOPEN := 0x4
abbrev stCLOSING := 0x5
abbrev stREVERSING := 0x6
abbrev stOBSTRUCTED := 0x7
abbrev stCLOSED := 0x8
abbrev stLOCKING := 0x9
abbrev stSTEP_IN := 0xA
abbrev stISOLATED := 0xB
abbrev stEMERGENCY := 0xC
abbrev stDEPOT := 0xD
abbrev stRECOVER := 0xE
abbrev stOUT := 0xF

/-- The declared state of a doorway. -/
def dwState (s : State) (n : Nat) : Nat := s.get (CYCD.STATE n)

/-- A flag of the running cycle (R209). -/
def cycFlag (s : State) (n b : Nat) : State := if (s.dw n).running then s.setBit (CYCD.CYC_FLAGS n) b true else s

/-- The axis at rest, MOVING = 0 (R193). -/
def atRest (s : State) (a : Nat) : Bool := !s.on (AX.MOVING a)

/-- Contact readings of a doorway in the safety processor's reading. -/
def lockfb (s : State) (n : Nat) : Bool := lvl s .saf (32 + n)
def dclLock (s : State) (n : Nat) : Bool := lvl s .saf (16 + n) && lvl s .saf (24 + n) && lockfb s n
def isolMade (s : State) (n : Nat) : Bool := lvl s .saf (72 + n)

/-- DRAG clears (R198). -/
def dragEnd (s : State) (n : Nat) : State := (s.setB (CYCD.DRAG n) false).setBit CYC.DRAG n false

/-- The states in which THIN means dragging (R198). -/
def dragState (st : Nat) : Bool := st = stCLOSED || st = stLOCKING || st = stSTEP_IN || st = stLOCKED

/-- DRAG as the latest records and the state make it (R198): set on a trusted doorway, clear once neither head shows THIN. -/
def dragEval (s : State) (n : Nat) : State :=
  let d := s.dw n
  if d.thinHead = 0 || !dragState (dwState s n) then (if s.on (CYCD.DRAG n) then dragEnd s n else s)
  else if s.on (CYCD.DRAG n) || !bitAt s.saf.trust n then s
  else
    let h := if bitAt d.thinHead 0 then 2 * n else 2 * n + 1
    let rcd := (s.head h).lastRcd
    let s := ((s.setB (CYCD.DRAG n) true).setBit CYC.DRAG n true).count (CYCD.DRAG_CNT n)
    let s := s.event pgCYC n 0x0003 (rcd.getD 0 0) h
    clipStart (cycFlag s n 6) n 2 (rcd.getD 1 0) rcd

/-- The later of the two latest records of a doorway. -/
def latestRcd (s : State) (n : Nat) : Record :=
  let a := (s.head (2 * n)).lastRcd
  let b := (s.head (2 * n + 1)).lastRcd
  if a.getD 1 0 < b.getD 1 0 then b else a

/-- A cycle begins (R206): what it gathers starts empty, and its trace opens at 10 ms (R332). -/
def cycleBegin (s : State) (n : Nat) : State :=
  let d := s.dw n
  let s := s.setDw n { d with
    running := true
    cycMs := 0
    startTick := s.tick
    tOpen := 0
    tClose := 0
    tLock := 0
    tOut := 0
    tIn := 0
    revs := 0
    retryEnd := 0
    peakClose := 0
    peakOpen := 0
    minClear := 0xFFFF
    gapEnd := 0xFFFF
    infoEnd := 0
    sources := 0
    vPeak := 0
    vLim := 0
    lockPeak := 0
    hadClip := false }
  let s := s.set (CYCD.CYC_FLAGS n) 0
  let f := s.flow
  let f := { f with clipSeq := mapPut 0 n 0 f.clipSeq }
  s.setFlow (if s.on FLOW.TRACE_EN && s.on (HDR.EN pgFLOW) then
    { f with traces := mapPut none n (some ⟨10, [], false⟩) f.traces } else f)

/-- Bytes 0x20 to 0x57 of a CYCLE record (R330). -/
def cycleBody (s : State) (n : Nat) : List Nat :=
  let d := s.dw n
  let w := fun (v : Nat) => leBytes (min 0xFFFF v) 2
  [n, s.get (CYCD.PREV_STATE n)] ++ leBytes (s.get (CYCD.CYC_FLAGS n)) 2 ++ leBytes (s.held n).cyc 4 ++
  leBytes (d.startTick % 2 ^ 48) 6 ++ [0, 0] ++ leBytes (s.get (CYCD.CYC_T_LAST_MS n)) 4 ++
  w d.tOpen ++ w d.tClose ++ w d.tLock ++ w d.tOut ++ w d.tIn ++ [min 255 d.revs, d.retryEnd] ++
  w d.peakClose ++ w d.peakOpen ++ w d.minClear ++ w d.gapEnd ++ [d.infoEnd, d.sources] ++
  w d.vPeak ++ w d.vLim ++ w d.lockPeak ++ leBytes (s.get (GALC.CLAMP_LAST (32 + n))) 2 ++ [0, 0] ++
  leBytes (min 0xFFFFFFFF (Config.axEnergy s.freeCtr n)) 4

/-- A cycle ends at the entry into LOCKED (R206): counted, held, handed to Flowstone with its trace, which takes the samples of it
that wait. Where FQ1 drops it only the CYCLE record is lost (R336). -/
def cycleEnd (s : State) (n : Nat) : State :=
  let d := s.dw n
  if !d.running then s
  else
    let h := s.held n
    let s := s.count (CYCD.CYC_CNT n)
    let s := s.setHeld n { h with cyc := min 0xFFFFFFFF (h.cyc + 1) }
    let s := (s.set (CYCD.LIFE_CYC n) (s.held n).cyc).setSat (CYCD.CYC_T_LAST_MS n) d.cycMs
    let f := s.flow
    let waiting := (f.fq2.filter (fun x => x.1 = n)).map (·.2)
    let t := (mapFind none n f.traces).map (fun t => waiting.foldl traceTakes t)
    let lost := !s.on (HDR.EN pgFLOW) || 16 ≤ fq1Held f
    let c : CycleEnd := ⟨n, cycleBody s n, t, 0, mapFind 0 n f.clipSeq, lost⟩
    let s := s.draw.setFlow { f with
      traces := mapPut none n none f.traces
      fq1 := f.fq1 ++ (if lost && t.isNone then [] else [c])
      fq2 := f.fq2.filter (fun x => x.1 != n) }
    let s := if lost then s.countDrop pgFLOW FLOW.FQ1_DROP_CNT else s
    (s.set (CYCD.CYC_FLAGS n) 0).setDw n { s.dw n with running := false }

/-- What leaving a state records for the CYCLE record (R330). -/
def stateLeft (d : Doorway) (st ms : Nat) : Doorway :=
  if st = stOPENING then { d with tOpen := ms }
  else if st = stCLOSING then { d with tClose := ms }
  else if st = stLOCKING then { d with tLock := ms }
  else if st = stSTEP_OUT then { d with tOut := ms }
  else if st = stSTEP_IN then { d with tIn := ms }
  else d

/-- What entering a state counts, flags and shows (R193, R197, R200, R201, R203, R206, R209, R334). -/
def stateEntered (s : State) (n old st : Nat) : State :=
  let h := s.held n
  if st = stSTEP_OUT then cycFlag s n 0
  else if st = stOPENING then (if old = stUNLOCKING then cycFlag s n 1 else cycFlag (cycFlag s n 1) n 9)
  else if st = stCLOSING then
    let s := if s.on (CYCD.TH_CLOSE n) then cycFlag s n 8 else s
    let s := s.setDw n { s.dw n with vLim := s.get (AX.V_LIM n) }
    if old = stREVERSING then s.setSat (CYCD.RETRY n) (s.get (CYCD.RETRY n) + 1)
    else if old = stOBSTRUCTED then s.set (CYCD.RETRY n) 0
    else s
  else if st = stREVERSING then
    let s := ((cycFlag s n 2).count (CYCD.REVERSE_CNT n)).setHeld n { h with rev := min 0xFFFFFFFF (h.rev + 1) }
    let d := s.dw n
    let s := s.setDw n { d with revs := d.revs + 1, hadClip := true }
    if d.running && !d.hadClip then clipStart s n 1 ((latestRcd s n).getD 1 0) (latestRcd s n) else s
  else if st = stOBSTRUCTED then
    ((cycFlag s n 3).count (CYCD.OBSTR_CNT n)).setHeld n { h with obs := min 0xFFFFFFFF (h.obs + 1) }
  else if st = stCLOSED then
    (s.setDw n { s.dw n with retryEnd := s.get (CYCD.RETRY n) }).set (CYCD.RETRY n) 0
  else if st = stLOCKED then cycleEnd (s.set (CYCD.RETRY n) 0) n
  else if st = stISOLATED then s.count (CYCD.ISOL_CNT n)
  else if st = stEMERGENCY then
    ((cycFlag s n 4).count (CYCD.EMERG_CNT n)).setHeld n { h with emg := min 0xFFFFFFFF (h.emg + 1) }
  else if st = stDEPOT then s.count (CYCD.DEPOT_CNT n)
  else s

/-- A change of the declared state (R188): by request or forced. -/
def setState (s : State) (n st : Nat) (forced : Bool) : State :=
  let old := dwState s n
  let ms := s.get (CYCD.T_IN_STATE_MS n)
  let s := ((s.set (CYCD.PREV_STATE n) old).set (CYCD.STATE n) st).set (CYCD.T_IN_STATE_MS n) 0
  let s := ((s.setB (CYCD.TMO n) false).setBit CYC.TMO n false).setB (CYCD.PAUSE_DONE n) false
  let s := s.setB (CYCD.DWELL_DONE n) false
  let s := ((s.setBit CYC.OBS n (st = stOBSTRUCTED)).setBit CYC.EMG n (st = stEMERGENCY)).setBit CYC.ISOL_MASK n (st = stISOLATED)
  let s := s.event pgCYC n 0x0001 (st * 256 + old) (bit1 forced)
  let s := if old = stLOCKED && (st = stSTEP_OUT || st = stUNLOCKING) then cycleBegin s n else s
  let s := s.setDw n { stateLeft (s.dw n) old ms with
    done := false
    stepEnd := false
    revPend := false
    restMs := 0
    clokMs := 0
    entryUpd := (s.ax n).upd
    depotTest := (s.dw n).depotTest && st = stDEPOT
    depotOut := false }
  let s := if dragState st then s else dragEnd s n
  doorShow (stateEntered s n old st) n

/-- A forced transition (R194), counted. -/
def force (s : State) (n st : Nat) : State :=
  ((setState s n st true).count (CYCD.FORCED_CNT n)).count CYC.FORCED_TOTAL_CNT

/-- LOCKED with ISOL made becomes ISOLATED at the same tick (R194, R200). -/
def isolate (s : State) (n : Nat) : State := if dwState s n = stLOCKED && isolMade s n then force s n stISOLATED else s

/-- LOCKED where the doorway reads closed and locked, else RECOVER. -/
def lockedOr (s : State) (n : Nat) : Nat := if clOk s .saf n then stLOCKED else stRECOVER

/-- The DEPOT conditions of R203. -/
def depotOk (s : State) (n : Nat) : Bool :=
  (s.lc = lcDEPOT || s.lc = lcFACTORY) && bitAt s.saf.sealA 15 && lvl s .saf 13 && zeroSpeed s .saf && zeroSpeed s .col &&
  (dwState s n = stRECOVER || clOk s .saf n)

/-- The forced transition that is due for a doorway, if any (R194). -/
def forcedTo (s : State) (n : Nat) : Option Nat :=
  let st := dwState s n
  if st = stOUT then none
  else if egrOp s .saf n then (if st = stEMERGENCY then none else some stEMERGENCY)
  else if st = stCLOSING && (s.dw n).revPend then some stREVERSING
  else if st = stREVERSING && s.on (CYCD.PAUSE_DONE n) && s.get (CYCD.CYC_RETRY_MAX n) ≤ s.get (CYCD.RETRY n) then some stOBSTRUCTED
  else if st = stISOLATED && !isolMade s n then some (lockedOr s n)
  else if st = stDEPOT && (!lvl s .saf 13 || !zeroSpeed s .saf || !zeroSpeed s .col || (s.dw n).depotOut) then
    some (lockedOr s n)
  else if st = stRECOVER && 100 ≤ (s.dw n).clokMs then some stLOCKED
  else none

/-- Whether the end of a STEP_OUT since the entry is recorded with code 0x01, 0x02 or 0x03. -/
def stepEnded (s : State) (n : Nat) : Bool :=
  (s.dw n).stepEnd && 1 ≤ s.get (AX.STEP_INFO (8 + n)) && s.get (AX.STEP_INFO (8 + n)) ≤ 3

/-- Conditions in the order they are written, each with its code (R195): the first that fails. -/
def firstFail : List (Bool × Nat) → Option Nat
  | [] => none
  | (ok, c) :: l => if ok then firstFail l else some c

/-- The checks a permit of both channels adds (R195). -/
def permitChecks (s : State) (n : Nat) : List (Bool × Nat) := [(s.bit SAFM.OP_SAF_M n, 2), (s.bit COLM.OP_COL_M n, 3)]

/-- The row of R193 for a pair of states: its conditions in order; none where the pair is not in the table. -/
def rowOf (s : State) (n st : Nat) : Option (List (Bool × Nat)) :=
  let act : Bool × Nat := (s.on PWR.ACT_RDY, 7)
  let fit := stepFit s n
  let perm := permitChecks s n
  let late : Bool × Nat := (s.get (CYCD.CYC_REPAUSE_MS n) ≤ s.get (CYCD.T_IN_STATE_MS n), 5)
  let egr : Bool × Nat := (1000 ≤ (s.dw n).egrRest, 4)
  let ok : Bool × Nat := (clOk s .saf n, 4)
  match dwState s n, st with
  | 0x0, 0x1 => some ([act, (fit, 4)] ++ perm)
  | 0x0, 0x2 => some ([act, (!fit, 4)] ++ perm)
  | 0x0, 0xD => some [(depotOk s n, 8)]
  | 0xE, 0xD => some [(depotOk s n, 8)]
  | 0x1, 0x2 => some ([(atRest s (8 + n), 4), (stepEnded s n, 4)] ++ perm)
  | 0x1, 0xA => some []
  | 0x2, 0x3 => some ((!lockfb s n, 4) :: perm)
  | 0x2, 0x9 => some []
  | 0x3, 0x4 => some [(atRest s n, 4)]
  | 0x3, 0x5 => some []
  | 0x4, 0x5 => some []
  | 0xE, 0x5 => some []
  | 0x7, 0x5 => some [late]
  | 0x4, 0x3 => some ((!lockfb s n, 4) :: perm)
  | 0x5, 0x3 => some ((!lockfb s n, 4) :: perm)
  | 0x8, 0x3 => some ((!lockfb s n, 4) :: perm)
  | 0x9, 0x3 => some ((!lockfb s n, 4) :: perm)
  | 0x7, 0x3 => some ((!lockfb s n, 4) :: perm)
  | 0x5, 0x8 => some [(atRest s n, 4), (s.on (AX.SW_CLOSED n), 4)]
  | 0x6, 0x5 => some [(s.on (CYCD.PAUSE_DONE n), 5), (s.get (CYCD.RETRY n) < s.get (CYCD.CYC_RETRY_MAX n), 6)]
  | 0x6, 0x4 => some [(atRest s n, 4)]
  | 0x8, 0x9 => some []
  | 0x9, 0xA => some [(dclLock s n, 4), (fit, 4)]
  | 0x9, 0x0 => some [ok, (!fit, 4)]
  | 0xA, 0x0 => some [ok, (atRest s (8 + n), 4)]
  | 0xD, 0x0 => some [ok, (atRest s n && atRest s (8 + n), 4)]
  | 0xC, 0x0 => some [egr, ok]
  | 0xC, 0x5 => some [egr]
  | _, _ => none

/-- The first check a request fails (R195). -/
def refusal (s : State) (n st : Nat) : Option Nat :=
  if !s.inSvc n then some 9
  else if !s.on (HDR.EN pgCYC) then some 1
  else match rowOf s n st with
    | none => some 1
    | some l => firstFail l

/-- A request judged (R188): made, or refused, recorded and counted. -/
def judge (s : State) (n : Nat) : State :=
  match (s.dw n).req with
  | none => s
  | some st =>
    let s := s.setDw n { s.dw n with req := none }
    match refusal s n st with
    | none => setState s n st false
    | some c => (((s.set (CYCD.LAST_REFUSE n) c).count (CYCD.REFUSE_CNT n)).count CYC.REFUSE_TOTAL_CNT).adj pgCYC

/-- The completion condition of the present state (R196). -/
def complete (s : State) (n : Nat) : Bool :=
  let d := s.dw n
  let st := dwState s n
  if st = stSTEP_OUT then d.stepEnd && s.on (AX.STEP_INFO (8 + n))
  else if st = stUNLOCKING then !lockfb s n
  else if st = stOPENING then atRest s n && d.entryUpd < (s.ax n).lastBorn
  else if st = stCLOSING then atRest s n && s.on (AX.SW_CLOSED n)
  else if st = stLOCKING then dclLock s n
  else if st = stSTEP_IN then lvl s .saf (40 + n) && atRest s (8 + n)
  else false

/-- The supervision timer of a state (R196). -/
def stateTimer (s : State) (n : Nat) : Option Nat :=
  let st := dwState s n
  if st = stSTEP_OUT || st = stSTEP_IN then some (s.get (CYCD.T_STEP_MS n))
  else if st = stUNLOCKING then some (s.get (CYCD.T_UNLOCK_MS n))
  else if st = stOPENING then some (s.get (CYCD.T_OPEN_MS n))
  else if st = stCLOSING then some (s.get (CYCD.T_CLOSE_MS n))
  else if st = stLOCKING then some (s.get (CYCD.T_LOCK_MS n))
  else none

/-- A speed in mm/s of a measured velocity. -/
def speedMms (s : State) (n : Nat) (v : Int) : Nat :=
  (mkRatio ((v.natAbs * 20 * s.get (AX.AX_SCALE n) : Nat) : Int) (65536 * 65536)).trunc.toNat

/-- One millisecond of a doorway's counters, and of what its cycle gathers. -/
def dwMs (s : State) (n : Nat) : State :=
  let s := s.setSat (CYCD.T_IN_STATE_MS n) (s.get (CYCD.T_IN_STATE_MS n) + 1)
  let d := s.dw n
  let rest := atRest s n
  let f := (s.getS (AX.FORCE_EST n)).natAbs
  let a := s.ax n
  let closing := a.vel < 0
  let d := { d with
    cycMs := if d.running then d.cycMs + 1 else d.cycMs
    egrRest := if egrOp s .saf n then 0 else min 1000 (d.egrRest + 1)
    clokMs := if dwState s n = stRECOVER && clOk s .saf n && rest then min 100 (d.clokMs + 1) else 0
    restMs := if rest then min 0xFFFF (d.restMs + 1) else 0
    done := d.done || complete s n
    peakClose := if closing then max d.peakClose f else d.peakClose
    peakOpen := if 0 < a.vel then max d.peakOpen f else d.peakOpen
    vPeak := if closing then max d.vPeak (speedMms s n a.measVel) else d.vPeak
    lockPeak := max d.lockPeak (s.chanMa (32 + n)) }
  let s := s.setDw n d
  if dwState s n = stCLOSING && s.on (AX.SQZ n) then cycFlag s n 5 else s

/-- The supervisor's tick for one doorway: what is forced first, then the request (R194). -/
def dwTick (s : State) (n : Nat) : State :=
  let s := dwMs s n
  let s := match forcedTo s n with | some st => force s n st | none => s
  let s := isolate s n
  let s := isolate (judge s n) n
  let d := s.dw n
  let s := s.setDw n { d with revPend := d.revPend && dwState s n = stCLOSING }
  dragEval s n

/-- Whether the supervisor works: step 4 of the start passed, and no Refuge (R189). In RETURN and SCRAP only writes are frozen (R87). -/
def supervising (s : State) : Bool := s.domOn 3 && s.bit SYS.ST_DONE 3 && !s.inRefuge

/-- The state of each in-service doorway when step 4 passes (R204). -/
def doorwayInit (s : State) (n : Nat) : State :=
  if !s.inSvc n then s
  else
    let st := if egrOp s .saf n then stEMERGENCY
      else if clOk s .saf n && isolMade s n then stISOLATED
      else lockedOr s n
    if st = stRECOVER then s else setState s n st true

/-- A write of CYC_REQ (R188, R209). -/
def cycReq (s : State) (n val : Nat) : Wrote :=
  if val / 16 != 0x530 then (s, true) else (s.setDw n { s.dw n with req := some (val % 16) }, false)

/-- Which fields of a sub-block take a write now (R199, R208). -/
def cycTakes (s : State) (n : Nat) (r : Reg) : Bool :=
  let st := dwState s n
  if r = CYCD.TH_CLOSE n then st != stCLOSING
  else st = stLOCKED || st = stISOLATED || st = stRECOVER || st = stOUT

/-- What a written value becomes (R199). -/
def cycLimit (s : State) (n : Nat) (r : Reg) (v : Nat) : Nat :=
  if r = CYCD.TH_CLOSE n && !bitAt s.saf.sealA 10 then 0 else v

/-- SUPERVISION_TIMEOUT (R196). -/
def execSupervisionTimeout (n : Fin 8) (s : State) : Out State :=
  match stateTimer s n with
  | none => .next s
  | some t =>
    if !supervising s || (s.dw n).done || s.on (CYCD.TMO n) || s.get (CYCD.T_IN_STATE_MS n) < t then .next s
    else
      let s := ((s.setB (CYCD.TMO n) true).setBit CYC.TMO n true).countFault pgCYC (CYCD.TMO_CNT n)
      .next ((cycFlag s n 7).event pgCYC n 0x0002 (dwState s n) (s.get (CYCD.T_IN_STATE_MS n)))

/-- DWELL_DONE_SET (R196). -/
def execDwellDoneSet (n : Fin 8) (s : State) : Out State :=
  .next (if supervising s && dwState s n = stOPEN && s.get (CYCD.DWELL_MS n) ≤ s.get (CYCD.T_IN_STATE_MS n) then
    s.setB (CYCD.DWELL_DONE n) true else s)

/-- PAUSE_DONE_SET (R197): at the retry limit OBSTRUCTED is forced. -/
def execPauseDoneSet (n : Fin 8) (s : State) : Out State :=
  if !supervising s || dwState s n != stREVERSING || !atRest s n || (s.dw n).restMs < s.get (CYCD.CYC_REPAUSE_MS n) then .next s
  else
    let s := s.setB (CYCD.PAUSE_DONE n) true
    .next (if s.get (CYCD.CYC_RETRY_MAX n) ≤ s.get (CYCD.RETRY n) then force s n stOBSTRUCTED else s)

/-- RECOVER_SETTLE (R194). -/
def execRecoverSettle (n : Fin 8) (s : State) : Out State :=
  .next (if supervising s && dwState s n = stRECOVER && 100 ≤ (s.dw n).clokMs then isolate (force s n stLOCKED) n else s)

/-- RECORD_AT_SAFETY (R181, R198). -/
def execRecordAtSafety (h : Fin 16) (s : State) : Out State :=
  let s := recordAtSafety s h
  .next (if supervising s then dragEval s (h / 2) else s)

end Sys2Proof.Machine
end

