-- ==== Sys2Proof/Machine/Can.lean ====
section
/-! DEFINITION. The CAN controllers (R281 to R301): bit timing, message RAM, filters and buffers, receiving, transmitting and
cancelling, error confinement and bus-off, sleep and wake. -/

namespace Sys2Proof.Machine

/-- The controller by number. -/
def State.can (s : State) (n : Nat) : CanCtl := mapFind CanCtl.init n s.cans
def State.setCan (s : State) (n : Nat) (c : CanCtl) : State := { s with cans := mapPut CanCtl.init n c s.cans }

/-- Words of message RAM (R285). -/
def ramRd (s : State) (n a : Nat) : Nat := s.rd32 (pgCAN n) 1 a
def ramWr (s : State) (n a v : Nat) : State := s.wr32 (pgCAN (n % 4)) 1 a v

/-- Blocks of the RX ring, blocks a length of data takes (R287). -/
def ringBlks (s : State) (n : Nat) : Nat := 416 - s.get (CAN.TX_AREA_BLK n)
def dataBlks (len : Nat) : Nat := (len + 63) / 64

/-- The first ring block still in use, if any holds data. -/
def ringTail (c : CanCtl) : Option Nat := (c.rx.find? (fun e => e.blks != 0)).map (·.start)

/-- The largest contiguous run the next frame can use (R287). -/
def freeRun (s : State) (n : Nat) : Nat :=
  let c := s.can n
  let r := ringBlks s n
  match ringTail c with
  | none => r
  | some t => if c.rxWp = t then 0 else if t < c.rxWp then max (r - c.rxWp) t else t - c.rxWp

/-- Where `b` blocks go: at the write point, or at the beginning of the area where they would pass its end. -/
def ringPlace (s : State) (n b : Nat) : Option Nat :=
  let c := s.can n
  let r := ringBlks s n
  match ringTail c with
  | none => if b ≤ r then some 0 else none
  | some t =>
    if c.rxWp = t then none
    else if t < c.rxWp then (if b ≤ r - c.rxWp then some c.rxWp else if b ≤ t then some 0 else none)
    else if b ≤ t - c.rxWp then some c.rxWp else none

/-- Whether entries 30 and 31 are the safety processor's (R296). -/
def reserved (s : State) (n i : Nat) : Bool := s.on (CAN.SAFE_CH n) && 30 ≤ i

/-- Whether a TX entry is FREE (R291). -/
def txFree (s : State) (n i : Nat) : Bool := !s.bit (CAN.TX_PEND n) i && !s.bit (CAN.TX_DONE n) i

/-- The status bits and levels that follow from what a controller holds (R289 to R294). -/
def canShow (s : State) (n : Nat) : State :=
  let c := s.can n
  let tec := s.get (CAN.TEC n)
  let rec0 := s.get (CAN.REC n)
  let off := s.get (CAN.ESTATE n) = 2
  let s := if off then s else s.set (CAN.ESTATE n) (if 128 ≤ tec || 128 ≤ rec0 then 1 else 0)
  let passive := s.get (CAN.ESTATE n) = 1
  let s := if passive && !s.on (CAN.ERR_PASSIVE n) then s.count (CAN.PASSIVE_CNT n) else s
  let s := ((s.setB (CAN.ERR_PASSIVE n) passive).setB (CAN.BUS_OFF n) off).setB (CAN.WARN n) (96 ≤ tec || 96 ≤ rec0)
  let s := s.setB (CAN.TX_FULL n) (allBelow 32 (fun i => reserved s n i || !txFree s n i))
  let s := s.setB (CAN.TX_DONE_NE n) (s.on (CAN.TX_DONE n))
  let s := (s.set (CAN.RX_LEVEL n) c.rx.length).set (CAN.RX_GET n) (match c.rx with | e :: _ => e.idx | [] => c.rxNext)
  let s := (s.setB (CAN.RX_NE n) (!c.rx.isEmpty)).setB (CAN.RX_FULL n) (64 ≤ c.rx.length)
  s.set (CAN.RX_FREE_BLK n) (freeRun s n)

/-- Whether the controller takes part in the bus (R297, R299). -/
def canOn (s : State) (n : Nat) : Bool := s.hasCan n && s.works (pgCAN n) && !s.on (CAN.SLEEP n)
/-- Whether a frame of its own is on the bus, which a controller with EN 0 completes (R299). -/
def canPresent (s : State) (n : Nat) : Bool :=
  s.hasCan n && s.on (CAN.TX_ACT_V n) && s.pageOn (pgCAN n) && !s.bit CLK.CLK_FAIL (clkOfPage (pgCAN n))
/-- Whether RUN reads 0 (R299). -/
def canStopped (s : State) (n : Nat) : Bool := !s.works (pgCAN n) && !canPresent s n

/-! Bit timing (R282, R283). -/

/-- The smallest BRP − 1 at or above `brp` that keeps the rate: BRP × bit length at least `least`. -/
def brpFor (brp bits least : Nat) : Nat := max brp ((least + bits - 1) / bits - 1)

/-- A data timing word within the limits of R282: `least` clock periods a bit. -/
def dataTiming (v least : Nat) : Nat :=
  let t1 := bitsOf v 16 5
  let t2 := bitsOf v 8 4
  let sj := min (bitsOf v 0 4) t2
  let brp := brpFor (bitsOf v 24 5) (t1 + t2 + 3) least
  brp * 2 ^ 24 + t1 * 2 ^ 16 + t2 * 2 ^ 8 + sj

/-- The nominal timing after a write (R282). -/
def nominalFix (s : State) (n : Nat) : Wrote :=
  let t1 := max 1 (s.get (CAN.N_TSEG1 n))
  let t2 := s.get (CAN.N_TSEG2 n)
  let sj := min (s.get (CAN.N_SJW n)) t2
  let brp := brpFor (s.get (CAN.N_BRP n)) (t1 + t2 + 3) 80
  let same := t1 = s.get (CAN.N_TSEG1 n) && sj = s.get (CAN.N_SJW n) && brp = s.get (CAN.N_BRP n)
  (((s.set (CAN.N_TSEG1 n) t1).set (CAN.N_SJW n) sj).set (CAN.N_BRP n) brp, !same)

/-- The FD data timing after a write. -/
def fdFix (s : State) (n : Nat) : Wrote :=
  let v := s.get (CAN.D_BRP n) * 2 ^ 24 + s.get (CAN.D_TSEG1 n) * 2 ^ 16 + s.get (CAN.D_TSEG2 n) * 2 ^ 8 + s.get (CAN.D_SJW n)
  let w := dataTiming v 10
  ((s.set (CAN.D_BRP n) (bitsOf w 24 5)).set (CAN.D_SJW n) (bitsOf w 0 4), v != w)

/-- The XL data timing after a write: its reserved bits read 0. -/
def xlFix (s : State) (n : Nat) : Wrote :=
  let v := Nat.land (s.get (CAN.X_TIMING n)) 0x1F1F0F0F
  let w := dataTiming v 4
  (s.set (CAN.X_TIMING n) w, v != w)

/-- Which fields of a CAN page take a write now (R282, R296, R297, R299). -/
def canHolds (r : Reg) (n : Nat) : Bool :=
  r = CAN.MODE n || r = CAN.FD_EN n || r = CAN.XL_EN n || r = CAN.PEX n || r = CAN.AUTO_REC n || r = CAN.TDC_EN n ||
  r = CAN.TERM n || r = CAN.TX_AREA_BLK n || r = CAN.N_BRP n || r = CAN.N_TSEG1 n || r = CAN.N_TSEG2 n || r = CAN.N_SJW n ||
  r = CAN.D_BRP n || r = CAN.D_TSEG1 n || r = CAN.D_TSEG2 n || r = CAN.D_SJW n || r = CAN.X_TIMING n ||
  r = CAN.TDC_OFS_D n || r = CAN.TDC_OFS_X n || r = HDR.EN (pgCAN n) || r = HDR.LP_REQ (pgCAN n)
def canTakes (s : State) (n : Nat) (r : Reg) : Bool :=
  if s.on (CAN.SAFE_CH n) && s.on (HDR.SAFE_LOCK (pgCAN n)) && canHolds r n then false
  else if r = CAN.TERM n || r = HDR.EN (pgCAN n) || r = HDR.LP_REQ (pgCAN n) then true
  else if r = CAN.NOMATCH n && s.on (CAN.SAFE_CH n) then true
  else if offOf r.addr = 0x048 || offOf r.addr = 0x04C || offOf r.addr = 0x050 || offOf r.addr = 0x054 then canStopped s n
  else true

/-- What a written value becomes (R283, R284); XL_EN is judged with the FD_EN written beside it, by `formatFix`. -/
def canLimit (s : State) (n : Nat) (r : Reg) (v : Nat) : Nat :=
  if r = CAN.TDC_EN n && tdcForced s n then 1
  else if r = CAN.MODE n && v = 3 then 0
  else v

/-- XL_EN clamps to 0 while FD_EN is 0 (R284): with it in one write, or because of one that clears FD_EN. -/
def formatFix (s : State) (n : Nat) : Wrote :=
  if s.on (CAN.XL_EN n) && !s.on (CAN.FD_EN n) then (s.setB (CAN.XL_EN n) false, true) else (s, false)

/-- Whether a host write into message RAM is taken (R285, R287, R288, R296). -/
def ramTakes (s : State) (n a : Nat) : Bool :=
  let area := 0x1800 + s.get (CAN.TX_AREA_BLK n) * 64
  let owned := fun (i : Nat) =>
    let w := ramRd s n (i * 0x20 + 4)
    let d := w % 0x10000
    s.bit (CAN.TX_PEND n) i && d ≤ a && a < d + 64 * dataBlks (bitsOf w 16 12)
  if a < 0x400 then txFree s n (a / 0x20) && !reserved s n (a / 0x20)
  else if 0x1000 ≤ a && a < 0x1500 then canStopped s n || s.on (CAN.SAFE_CH n)
  else 0x1800 ≤ a && a < area && !anyBelow 32 owned && !(s.on (CAN.SAFE_CH n) && area ≤ a + 128)

/-! Receiving (R286 to R290). -/

/-- The first of a list of filters that matches: its number, action and buffer. -/
def firstMatch (f : Nat → Option (Nat × Nat)) : Nat → Nat → Option (Nat × Nat × Nat)
  | 0, _ => none
  | k + 1, i => match f i with
    | some (act, h) => some (i, act, h)
    | none => firstMatch f k (i + 1)

/-- Whether two numbers agree in every bit of a mask. -/
def agree (a b m : Nat) : Bool := Nat.land (Nat.xor a b) m = 0

/-- A standard, extended or XL filter against a frame (R288). -/
def stdFilter (s : State) (n : Nat) (f : CanFrame) (i : Nat) : Option (Nat × Nat) :=
  let w := ramRd s n (0x1000 + 4 * i)
  if bitsOf w 30 2 != 0 && agree (f.id / 2 ^ 18) (bitsOf w 16 11) (bitsOf w 0 11) then some (bitsOf w 30 2, bitsOf w 27 3) else none
def extFilter (s : State) (n : Nat) (f : CanFrame) (i : Nat) : Option (Nat × Nat) :=
  let w0 := ramRd s n (0x1200 + 8 * i)
  let w1 := ramRd s n (0x1204 + 8 * i)
  if bitsOf w1 30 2 != 0 && agree f.id (bitsOf w0 0 29) (bitsOf w1 0 29) then some (bitsOf w1 30 2, bitsOf w0 29 3) else none
def xlFilter (s : State) (n : Nat) (f : CanFrame) (i : Nat) : Option (Nat × Nat) :=
  let a := 0x1400 + 16 * i
  let w := ramRd s n a
  let w3 := ramRd s n (a + 12)
  if bitsOf w 30 2 != 0 && agree (f.id / 2 ^ 18) (bitsOf w 16 11) (bitsOf w 0 11) &&
     agree f.af (ramRd s n (a + 4)) (ramRd s n (a + 8)) && agree f.sdt (bitsOf w3 24 8) (bitsOf w3 16 8) &&
     agree f.vcid (bitsOf w3 8 8) (bitsOf w3 0 8) then some (bitsOf w 30 2, bitsOf w 27 3) else none

/-- What the filters decide: action (1 FIFO, 2 buffer, 3 reject), buffer, list, filter number (R286, R288). -/
def filterFrame (s : State) (n : Nat) (f : CanFrame) : Nat × Nat × Nat × Nat :=
  let list := if f.xl then 2 else if f.ide then 1 else 0
  let hit := if f.xl then firstMatch (xlFilter s n f) 16 0
    else if f.ide then firstMatch (extFilter s n f) 64 0 else firstMatch (stdFilter s n f) 128 0
  match hit with
  | some (i, act, h) => (act, h, list, i)
  | none => (if s.on (CAN.NOMATCH n) then 1 else 3, 0, 3, 0)

/-- The first four words of a received frame's descriptor (R286): a field that its format does not have reads 0, and so do bits 17:0
of an identifier of 11 bits. -/
def frameWords (f : CanFrame) (a : Nat) : List Nat :=
  let fd := f.fd && !f.xl
  let ide := f.ide && !f.xl
  [bit1 f.xl * 2 ^ 31 + bit1 fd * 2 ^ 30 + bit1 ide * 2 ^ 29 + (if ide then f.id % 2 ^ 29 else f.id / 2 ^ 18 % 2 ^ 11 * 2 ^ 18),
   bit1 (f.brs && fd) * 2 ^ 31 + bit1 f.esi * 2 ^ 30 + bit1 (f.rtr && !fd && !f.xl) * 2 ^ 29 + bit1 (f.sec && f.xl) * 2 ^ 28 +
     f.data.length % 2 ^ 12 * 2 ^ 16 + a % 2 ^ 16,
   if f.xl then f.sdt % 256 * 2 ^ 24 + f.vcid % 256 * 2 ^ 16 else f.dlc % 16 * 2 ^ 12,
   if f.xl then f.af else 0]

/-- A descriptor and its data written. -/
def putFrame (s : State) (n a : Nat) (f : CanFrame) (d us w5 : Nat) : State :=
  let words := frameWords f d ++ [us % 2 ^ 32, w5, 0, 0]
  let s := s.wrBytes (pgCAN (n % 4)) 1 a (words.map (fun w => leBytes w 4)).flatten
  s.wrBytes (pgCAN (n % 4)) 1 d f.data

/-- A frame into the RX FIFO (R290), or dropped. -/
def toFifo (s : State) (n : Nat) (f : CanFrame) (us w5 : Nat) : State :=
  let c := s.can n
  let b := dataBlks f.data.length
  if 64 ≤ c.rx.length then s.countDrop (pgCAN n) (CAN.RX_OVF_CNT n)
  else match (if b = 0 then some c.rxWp else ringPlace s n b) with
    | none => s.countDrop (pgCAN n) (CAN.RX_SPACE_CNT n)
    | some p =>
      let d := if b = 0 then 0 else 0x1800 + (s.get (CAN.TX_AREA_BLK n) + p) * 64
      let s := putFrame s n (0x400 + c.rxNext * 0x20) f d us w5
      let s := s.setCan n { c with
        rx := c.rx ++ [⟨c.rxNext, p, b⟩]
        rxNext := (c.rxNext + 1) % 64
        rxWp := if b = 0 then c.rxWp else (p + b) % ringBlks s n }
      canShow (s.count (CAN.RX_OK_CNT n)) n

/-- A frame stored, spilled or rejected as the filters say (R288, R289). -/
def storeFrame (s : State) (n : Nat) (f : CanFrame) (us : Nat) (own : Bool) : State :=
  let (act, h, list, i) := filterFrame s n f
  let w5 := list * 2 ^ 30 + bit1 own * 2 ^ 28 + i
  if act = 3 then s.count (CAN.REJECT_CNT n)
  else if act = 1 then toFifo s n f us w5
  else if s.bit (CAN.HPB_FULL n) h || 64 < f.data.length then
    if 64 ≤ (s.can n).rx.length then s.countDrop (pgCAN n) (CAN.RX_OVF_CNT n)
    else toFifo (s.count (CAN.HPB_SPILL_CNT n)) n f us (w5 + 2 ^ 29)
  else
    let s := putFrame s n (0xC00 + h * 0x20) f (0xD00 + h * 0x40) us w5
    canShow ((s.setBit (CAN.HPB_FULL n) h true).count (CAN.RX_OK_CNT n)) n

/-! Error confinement (R294, R295). -/

/-- The counters an error belongs to, and its code in LEC. -/
def errReg (n : Nat) (k : CanError) : Reg := match k with
  | .stuff => CAN.STUFF_ERR_CNT n | .form => CAN.FORM_ERR_CNT n | .ack => CAN.ACK_ERR_CNT n
  | .bit1 => CAN.BIT_ERR_CNT n | .bit0 => CAN.BIT_ERR_CNT n | .crc => CAN.CRC_ERR_CNT n
def errCode (k : CanError) : Nat := match k with | .stuff => 1 | .form => 2 | .ack => 3 | .bit1 => 4 | .bit0 => 5 | .crc => 6

/-- The result of an entry, in word 5 of its descriptor, and its state DONE (R286, R291). -/
def txEnd (s : State) (n i res : Nat) : State :=
  let a := i * 0x20 + 0x14
  let w := ramRd s n a
  let s := ramWr s n a (w / 16 * 16 + res)
  let s := (s.setBit (CAN.TX_PEND n) i false).setBit (CAN.TX_DONE n) i true
  let c := s.can n
  let s := s.setCan n { c with held := putBit c.held i false }
  let s := if res = 2 then s.count (CAN.CANCEL_CNT n) else s
  if s.on (CAN.HEAD_V n) && s.get (CAN.HEAD_IDX n) = i then s.setB (CAN.HEAD_V n) false else s

/-- The entry on the bus is off it: back to PENDING, or done where a cancel waited (R293). -/
def txFailed (s : State) (n : Nat) : State :=
  if !s.on (CAN.TX_ACT_V n) then s
  else
    let i := s.get (CAN.TX_ACT n)
    let c := s.can n
    let s := (s.setB (CAN.TX_ACT_V n) false).setCan n { c with sending := false, fast := false }
    if bitAt c.held i then txEnd s n i 2 else s

/-- BUS_OFF entered (R295): the entry that was SENDING becomes the head. -/
def busOff (s : State) (n : Nat) : State :=
  let s := ((s.set (CAN.ESTATE n) 2).set (CAN.TEC n) 256).count (CAN.BUSOFF_CNT n)
  let i := s.get (CAN.TX_ACT n)
  let was := s.on (CAN.TX_ACT_V n) && (s.can n).sending
  let s := txFailed s n
  let s := if was && s.bit (CAN.TX_PEND n) i then (s.setB (CAN.HEAD_V n) true).set (CAN.HEAD_IDX n) i else s
  let s := (s.setB (CAN.RECOVERING n) (s.on (CAN.AUTO_REC n))).set (CAN.REC_SEQ n) 0
  canShow s n

/-- Whether an error of a transmitter leaves TEC as it is (R294 by ISO 11898-1): an acknowledgement error while error-passive, unless a
dominant bit follows in its passive error flag, and a stuff error in arbitration. -/
def errSpared (s : State) (n : Nat) (k : CanError) (big : Bool) : Bool :=
  (k = .ack && s.get (CAN.ESTATE n) = 1 && !big) || (k = .stuff && s.on (CAN.TX_ACT_V n) && !(s.can n).sending)

/-- The error counters after an error, by ISO 11898-1: 8 for a transmitter, 1 or 8 for a receiver. -/
def errCounts (s : State) (n : Nat) (k : CanError) (tx big : Bool) : State :=
  if tx then (if errSpared s n k big then s else s.set (CAN.TEC n) (min 256 (s.get (CAN.TEC n) + 8)))
  else s.setSat (CAN.REC n) (s.get (CAN.REC n) + if big then 8 else 1)

/-- An error met by the controller (R294). -/
def canError (s : State) (n : Nat) (k : CanError) (tx big : Bool) : State :=
  let s := (s.countFault (pgCAN n) (errReg n k)).set (CAN.LEC n) (errCode k)
  let s := errCounts s n k tx big
  if 256 ≤ s.get (CAN.TEC n) then busOff s n else canShow (if tx then txFailed s n else s) n

/-- A frame received or sent without error lowers the counters (ISO 11898-1). -/
def recGood (s : State) (n : Nat) : State :=
  let r := s.get (CAN.REC n)
  if 127 < r then s.draw.set (CAN.REC n) (clampN 119 127 (Config.recAfter s.freeCtr)) else s.set (CAN.REC n) (r - 1)

/-- Whether a frame's format is enabled (R284). -/
def formatOn (s : State) (n : Nat) (xl fd : Bool) : Bool :=
  if xl then s.on (CAN.XL_EN n) else if fd then s.on (CAN.FD_EN n) else true

/-- A frame on the bus reaches the controller (R284, R288). The flag says whether it was taken as correct. -/
def canReceive (s : State) (n : Nat) (f : CanFrame) (us : Nat) : State × Bool :=
  if !canOn s n || s.get (CAN.ESTATE n) = 2 || s.get (CAN.MODE n) = 2 then (s, false)
  else if !formatOn s n f.xl f.fd then
    if s.on (CAN.PEX n) then (s.count (CAN.PEX_CNT n), false) else (canError s n .form false false, false)
  else (storeFrame (canShow (recGood s n) n) n f us false, true)

/-! Transmitting (R291 to R293). -/

/-- Whether a data length is legal for a format (R286). -/
def lenOk (xl fd : Bool) (l : Nat) : Bool :=
  if xl then 1 ≤ l && l ≤ 2048
  else if fd then l ≤ 8 || l = 12 || l = 16 || l = 20 || l = 24 || l = 32 || l = 48 || l = 64
  else l ≤ 8

/-- A PUSH (R291): who pushes decides which entries are his. -/
def txPush (s : State) (n i : Nat) (safe : Bool) : Wrote :=
  let w0 := ramRd s n (i * 0x20)
  let w1 := ramRd s n (i * 0x20 + 4)
  let len := bitsOf w1 16 12
  let a := w1 % 0x10000
  let inArea := len = 0 || (a % 64 = 0 && 0x1800 ≤ a && a + 64 * dataBlks len ≤ 0x1800 + s.get (CAN.TX_AREA_BLK n) * 64)
  let mine := safe || !reserved s n i
  if !txFree s n i || !lenOk (bitAt w0 31) (bitAt w0 30) len || !formatOn s n (bitAt w0 31) (bitAt w0 30) || !inArea || !mine then (s, true)
  else
    let c := s.can n
    let s := ramWr s n (i * 0x20 + 0x14) 0
    let s := s.setCan n { c with
      pushes := c.pushes + 1
      ages := mapPut 0 i (c.pushes + 1) c.ages
      held := putBit c.held i false }
    (canShow (s.setBit (CAN.TX_PEND n) i true) n, false)

/-- A RELEASE (R291). -/
def txRelease (s : State) (n i : Nat) (safe : Bool) : Wrote :=
  if !s.bit (CAN.TX_DONE n) i || (reserved s n i && !safe) then (s, true)
  else (canShow (s.setBit (CAN.TX_DONE n) i false) n, false)

/-- A CANCEL (R293): each one that comes too late counts. -/
def txCancel (s : State) (n i : Nat) : Wrote :=
  let c := s.can n
  let act := s.on (CAN.TX_ACT_V n) && s.get (CAN.TX_ACT n) = i
  if !s.bit (CAN.TX_PEND n) i || reserved s n i then (s, true)
  else if !act then (canShow (txEnd s n i 2) n, false)
  else
    let s := s.setCan n { c with held := putBit c.held i true }
    (if c.sending then s.count (CAN.LATE_CNT n) else s, false)

/-- The arbitration field of an entry in the order of its bits on the bus (R292): the 11 base bits, RTR, SRR or RRS, IDE, then
the 18 further bits, RTR and FDF of an extended frame, or FDF and XLF. A smaller number wins. -/
def arbField (s : State) (n i : Nat) : Nat :=
  let w0 := ramRd s n (i * 0x20)
  let w1 := ramRd s n (i * 0x20 + 4)
  let xl := bitAt w0 31
  let fd := bitAt w0 30
  let ext := bitAt w0 29 && !xl
  let rtr := bit1 (bitAt w1 29 && !xl && !fd)
  let base := bitsOf w0 18 11 * 2 ^ 22
  if ext then base + 2 ^ 21 + 2 ^ 20 + bitsOf w0 0 18 * 4 + rtr * 2 + bit1 fd
  else base + rtr * 2 ^ 21 + bit1 (fd || xl) * 2 ^ 19 + bit1 xl * 2 ^ 18

/-- The entry that goes before another: the smaller field, then the older push. -/
def better (s : State) (n i j : Nat) : Bool :=
  let a := arbField s n i
  let b := arbField s n j
  a < b || (a = b && mapFind 0 i (s.can n).ages < mapFind 0 j (s.can n).ages)

/-- The PENDING entry the controller offers (R292, R295). -/
def offered (s : State) (n : Nat) : Option Nat :=
  if s.on (CAN.HEAD_V n) then some (s.get (CAN.HEAD_IDX n))
  else (List.range 32).foldl (fun (m : Option Nat) i =>
    if !s.bit (CAN.TX_PEND n) i then m
    else match m with
      | none => some i
      | some j => if better s n i j then some i else m) none

/-- One more attempt in word 5 of an entry. -/
def attempt (s : State) (n i : Nat) : State :=
  let a := i * 0x20 + 0x14
  let w := ramRd s n a
  ramWr s n a (w % 16 + min 255 (bitsOf w 8 8 + 1) * 256)

/-- The DLC of a number of data bytes in a classic or FD frame (ISO 11898-1). -/
def dlcOf (len : Nat) : Nat :=
  if len ≤ 8 then len else if len ≤ 24 then 8 + (len - 8) / 4 else if len ≤ 32 then 13 else if len ≤ 48 then 14 else 15

/-- The frame of a TX entry, as the bus carries it: its DLC is that of its LEN, and a remote frame carries no data. -/
def txFrame (s : State) (n i : Nat) : CanFrame :=
  let w := fun k => ramRd s n (i * 0x20 + 4 * k)
  let xl := bitAt (w 0) 31
  let fd := bitAt (w 0) 30 && !xl
  let rtr := bitAt (w 1) 29 && !xl && !fd
  let len := bitsOf (w 1) 16 12
  ⟨xl, fd, bitAt (w 0) 29 && !xl, bitsOf (w 0) 0 29, bitAt (w 1) 31, s.get (CAN.ESTATE n) = 1, rtr,
    bitAt (w 1) 28, bitsOf (w 2) 24 8, bitsOf (w 2) 16 8, dlcOf len, w 3,
    if rtr then [] else s.rdBytes (pgCAN n) 1 (w 1 % 0x10000) len⟩

/-- The delay a transmitted frame has measured (R283): of FD and XL frames that got past the edge it is measured at, while delay
compensation is on. -/
def tdcMeasured (s : State) (n i : Nat) (tdc : Option Nat) : State :=
  let f := txFrame s n i
  match tdc with
  | some d => if (f.fd || f.xl) && (s.on (CAN.TDC_EN n) || tdcForced s n) then s.setSat (CAN.TDC_MEAS n) d else s
  | none => s

/-- A write of TX_CMD, CAN_CMD or RX_ACK (R301). -/
def txCommand (s : State) (n v : Nat) : Wrote :=
  if v / 32 = 0x5400 / 32 then txPush s n (v % 32) false
  else if v / 32 = 0x5500 / 32 then txCancel s n (v % 32)
  else if v / 32 = 0x5600 / 32 then txRelease s n (v % 32) false
  else (s, true)

/-- RECOVER (R295). -/
def canCommand (s : State) (n v : Nat) : Wrote :=
  if v != 0x5A01 || s.get (CAN.ESTATE n) != 2 || s.on (CAN.AUTO_REC n) then (s, true)
  else ((s.setB (CAN.RECOVERING n) true).set (CAN.REC_SEQ n) 0, false)

/-- RX_ACK (R289, R290): entries and their data are released; an empty ring starts again at its beginning. -/
def rxAck (s : State) (n v : Nat) : Wrote :=
  let c := s.can n
  let k := v % 256
  if v / 256 = 0x52 then
    if k = 0 || c.rx.length < k then (s, true)
    else
      let rest := c.rx.drop k
      (canShow (s.setCan n { c with
        rx := rest
        rxWp := if rest.all (fun e => e.blks = 0) then 0 else c.rxWp }) n, false)
  else if v / 256 = 0x53 then
    if 8 ≤ k || !s.bit (CAN.HPB_FULL n) k then (s, true) else (s.setBit (CAN.HPB_FULL n) k false, false)
  else (s, true)

/-- LP_REQ of a controller written (R297). -/
def canLpWritten (s : State) (n : Nat) : State :=
  if s.on (HDR.LP_REQ (pgCAN n)) then s
  else ((s.setB (CAN.SLEEP n) false).setB (CAN.WAKE_EV n) false).setB (HDR.LP (pgCAN n)) false

/-- EN of a controller written, `was` before (R295, R299): a recovery cut off starts again from 0, and one that AUTO_REC asks for now
begins. -/
def canEnWritten (was : Bool) (s : State) (n : Nat) : State :=
  if was || !s.on (HDR.EN (pgCAN n)) then s
  else
    let s := s.set (CAN.REC_SEQ n) 0
    if s.get (CAN.ESTATE n) = 2 && s.on (CAN.AUTO_REC n) then s.setB (CAN.RECOVERING n) true else s

/-- REC_SEQ after one more Drip count of a recovery (R295): how many sequences of 11 recessive bits the bus carried in it is a free
value, at most three at 1 Mbit/s; the 128th is CAN_RECOVERY_DONE. -/
def recessiveCount (s : State) : State :=
  eachUpTo 4 (fun s n =>
    if canOn s n && s.on (CAN.RECOVERING n) then
      s.set (CAN.REC_SEQ n) (min 127 (s.get (CAN.REC_SEQ n) + Config.recessive s.tick n % 4))
    else s) s

/-- The message RAM wiped (R285). -/
def ramWipe (s : State) (n : Nat) : State := s.wipeSpace (pgCAN (n % 4)) 1

/-- CAN_TX_START (R281, R292, R293): an arbitration begins with the entry offered, or is decided. DEDUCED (log 134): the data phase of
an XL frame, which no command announces, counts from the arbitration it has won, and with it the fast mode of the transceiver. -/
def execCanTxStart (n : Fin 4) (a : ArbStep) (s : State) : Out State :=
  if !(canOn s n || canPresent s n) || s.get (CAN.ESTATE n) = 2 || s.get (CAN.MODE n) = 1 then .next s
  else
    let c := s.can n
    let i := s.get (CAN.TX_ACT n)
    let arb := s.on (CAN.TX_ACT_V n) && !c.sending
    match a with
    | .begin =>
      if s.on (CAN.TX_ACT_V n) || s.on (HDR.LP_REQ (pgCAN n)) then .next s
      else match offered s n with
        | none => .next s
        | some i => .next (attempt ((s.setB (CAN.TX_ACT_V n) true).set (CAN.TX_ACT n) i) n i)
    | .won =>
      if !arb then .next s
      else
        let s := s.setCan n { c with sending := true, fast := bitAt (ramRd s n (i * 0x20)) 31 }
        .next (if bitAt c.held i then s.count (CAN.LATE_CNT n) else s)
    | .lost => if !arb then .next s else .next (canShow (txFailed (s.count (CAN.ARB_LOST_CNT n)) n) n)

/-- CAN_TX_COMPLETE (R291, R293): the entry is DONE; in LOOPBACK its frame returns to the receive path. -/
def execCanTxComplete (n : Fin 4) (us tdc : Nat) (s : State) : Out State :=
  let c := s.can n
  if !canPresent s n || !c.sending then .next s
  else
    let i := s.get (CAN.TX_ACT n)
    let f := txFrame s n i
    let loop := s.get (CAN.MODE n) = 2
    let s := if s.on (CAN.HEAD_V n) && s.get (CAN.HEAD_IDX n) = i then s.setB (CAN.HEAD_V n) false else s
    let s := (s.setB (CAN.TX_ACT_V n) false).setCan n { c with sending := false, fast := false }
    let s := ramWr s n (i * 0x20 + 0x10) (us % 2 ^ 32)
    let s := (txEnd s n i (if bitAt c.held i then 3 else 1)).count (CAN.TX_OK_CNT n)
    let s := s.set (CAN.TEC n) (s.get (CAN.TEC n) - 1)
    let s := canShow (tdcMeasured s n i (some tdc)) n
    .next (if loop then storeFrame s n f us true else s)

/-- CAN_BUS_ERROR (R283, R294). -/
def execCanBusError (n : Fin 4) (kind : CanError) (side : CanSide) (big : Bool) (s : State) : Out State :=
  let tx := side != .rx
  if !(canOn s n || canPresent s n) || s.get (CAN.ESTATE n) = 2 || (tx && !s.on (CAN.TX_ACT_V n)) then .next s
  else
    let s := match side with
      | .tx tdc => if (s.can n).sending then tdcMeasured s n (s.get (CAN.TX_ACT n)) tdc else s
      | .rx => s
    .next (canError s n kind tx big)

/-- CAN_RECOVERY_DONE (R295). -/
def execCanRecoveryDone (n : Fin 4) (s : State) : Out State :=
  if !canOn s n || !s.on (CAN.RECOVERING n) then .next s
  else
    let s := ((s.set (CAN.TEC n) 0).set (CAN.REC n) 0).set (CAN.ESTATE n) 0
    .next (canShow ((s.setB (CAN.RECOVERING n) false).set (CAN.REC_SEQ n) 128) n)

/-- CAN_SLEEP_ENTER (R297, R300): the controller leaves the bus and the transceiver enters standby; every entry stays as it is. -/
def execCanSleepEnter (n : Fin 4) (s : State) : Out State :=
  if !s.hasCan n || !s.on (HDR.LP_REQ (pgCAN n)) || s.on (CAN.SLEEP n) || s.on (CAN.TX_ACT_V n) ||
     (s.get (CAN.ESTATE n) = 2 && s.on (CAN.AUTO_REC n)) then .next s
  else
    let s := s.setCan n { s.can n with undec := 0 }
    .next ((s.setB (CAN.SLEEP n) true).setB (HDR.LP (pgCAN n)) true)

/-- The wake configuration of a page (R298). -/
def wakeCfg (s : State) (n : Nat) : WakeCfg where
  mode := s.get (CAN.WAKE_MODE n)
  rate := s.get (CAN.WUF_RATE n)
  ide := s.on (CAN.WUF_IDE n)
  id := s.get (CAN.WUF_ID n)
  mask := s.get (CAN.WUF_MASK n)
  dlc := s.get (CAN.WUF_DLC n)
  data := s.get64 (CAN.WUF_DATA_HI n) (CAN.WUF_DATA_LO n)

/-- The data of a frame as eight bytes, byte 0 most significant. -/
def wakeData (f : CanFrame) : Nat := (List.range 8).foldl (fun v i => v * 256 + f.data.getD i 0 % 256) 0

/-- Whether a frame that the transceiver decodes wakes it (R298): identifier, DLC and data. Of a standard identifier bits 28:18
are compared. -/
def wakeMatch (g : WakeCfg) (f : CanFrame) : Bool :=
  f.ide = g.ide && agree f.id g.id (if g.ide then g.mask else g.mask / 2 ^ 18 * 2 ^ 18) && f.dlc = g.dlc &&
  (g.data = 0 || Nat.land (wakeData f) g.data != 0)

/-- What a transceiver in standby makes of what it sees (R298): its count of frames it could not decode, and the code of the wake
event, if it is one. -/
def transceiver (g : WakeCfg) (undec : Nat) (w : CanWake) : Nat × Option Nat :=
  match w with
  | .dominant => (undec, if g.mode = 0 then some 1 else none)
  | .frame rate f =>
    if g.mode = 0 then (undec, none)
    else if !f.fd && !f.xl && rate.val = g.rate then (undec - 1, if wakeMatch g f then some 2 else none)
    else (undec + 1, if 32 < undec + 1 then some 3 else none)

/-- CAN_LOCAL_WAKE (R297, R298): a wake event in local sleep. -/
def execCanLocalWake (n : Fin 4) (src : CanWake) (s : State) : Out State :=
  if !s.on (CAN.SLEEP n) then .next s
  else
    let (k, code) := transceiver (wakeCfg s n) (s.can n).undec src
    let s := s.setCan n { s.can n with undec := k }
    match code with
    | none => .next s
    | some v => .next (((s.setB (CAN.WAKE_EV n) true).count (CAN.LWAKE_CNT n)).set (CAN.WAKE_SRC n) v)

end Sys2Proof.Machine
end

