-- ==== Sys2Proof/Machine/Nets.lean ====
section
/-! DEFINITION. The carriers of the train networks (R302 to R310, R323 to R325): the ECN switch with its bypass relay and
host rings, MVB, the legacy RS-485 link; and the door status the module tells others (R246, R314). -/

namespace Sys2Proof.Machine

/-- The latest frame sent on a carrier: its identifier or ComId, then its bytes. -/
def State.sendOn (s : State) (c ident : Nat) (bytes : List Nat) : State :=
  { s with nets := { s.nets with sent := mapPut [] c (ident :: bytes) s.nets.sent } }

/-- The same on ECN, at an 802.1Q priority (R304), over a UDP port and to a group, from the address of IP_ADDR (R306). -/
def State.sendEcn (s : State) (prio udp : Nat) (group : Option Nat) (ident : Nat) (bytes : List Nat) : State :=
  let s := s.sendOn 0 ident bytes
  { s with nets := { s.nets with
    prio := prio
    ip := if udp = 0 then 0 else s.get ECN.IP_ADDR
    udp := udp
    group := group } }

/-- The UDP ports of TRDP (R306): process data and message data. -/
abbrev udpPD := 17224
abbrev udpMD := 17225

/-- A number most significant byte first. -/
def beBytes (v n : Nat) : List Nat := (leBytes v n).reverse
def beNum (l : List Nat) : Nat := leNum l.reverse

/-- Byte 0 of DOOR_STATUS (R246). -/
def statusFlags (s : State) : Nat :=
  bit1 s.inRefuge * 4 + bit1 (adclVerdict s .saf) + bit1 (adclVerdict s .col) * 2 + bit1 (s.on SAFM.NET_RESTR) * 8

/-- Doorways in one state of the cycle. -/
def stateMask (s : State) (st : Nat) : Nat := doorMask (fun n => s.hasDw n && s.get (CYCD.STATE n) = st)

/-- The 12 bytes of DOOR_STATUS (R246). -/
def doorStatus (s : State) : List Nat :=
  let pair := fun k => s.get (CYCD.STATE (2 * k)) * 16 + s.get (CYCD.STATE (2 * k + 1))
  [statusFlags s, s.get SAFM.CL_OK_SAF, pair 0, pair 1, pair 2, pair 3, stateMask s 7, stateMask s 0xC, stateMask s 0xB, 0, 0, 0]

/-- Whether the release of a side is in force in the selected source (R220). -/
def sideReleased (s : State) (hw tg : Reg) : Bool :=
  match srcOf s with | 0 => s.on hw | 1 => s.on hw && s.on tg | _ => s.on tg

/-- The 8 bytes of DOOR_INFO on versions 1 and 2 (R314). -/
def doorInfo8 (s : State) : List Nat :=
  [statusFlags s, s.get SAFM.CL_OK_SAF, stateMask s 7, stateMask s 0xC, stateMask s 0xB,
    bit1 (sideReleased s CYC.REL_L_HW DST.REL_L_TG) + bit1 (sideReleased s CYC.REL_R_HW DST.REL_R_TG) * 2 +
      bit1 (s.on SAFM.ZS) * 4, 0, 0]

/-! The ECN switch (R302 to R306). -/

/-- Whether the switch joins the ports to the module (R303): P7 on with its clock, the bypass open. EN stops host frames only. -/
def ecnUp (s : State) : Bool := s.domOn 7 && !s.bit CLK.CLK_FAIL (clkOf 7) && !s.on ECN.BYPASS

/-- The link of a port. -/
def linkReg (port : Nat) : Reg := if port = 0 then ECN.A_LINK else ECN.B_LINK
def gigReg (port : Nat) : Reg := if port = 0 then ECN.A_1G else ECN.B_1G

/-- A link lost (R303). -/
def portDown (s : State) (port : Nat) : State :=
  if s.on (linkReg port) then ((s.setB (linkReg port) false).setB (gigReg port) false).count ECN.LINK_DOWN_CNT else s

/-- Where a frame goes: to the module's MAC address; broadcast or any other group address. -/
def macOf (f : EcnFrame) : Nat := beNum (f.bytes.take 6)
def ownMac (s : State) : Nat := s.get ECN.MAC_HI % 2 ^ 16 * 2 ^ 32 + s.get ECN.MAC_LO
def grouped (f : EcnFrame) : Bool := f.bytes.getD 0 0 % 2 = 1

/-- Whether a group address is broadcast or enabled in the multicast table (space 0x1). -/
def groupIn (s : State) (f : EcnFrame) : Bool :=
  macOf f = 2 ^ 48 - 1 ||
  anyBelow 32 (fun k => s.rd8 pgECN 1 (8 * k + 7) % 2 = 1 && s.rdBytes pgECN 1 (8 * k) 6 = f.bytes.take 6)

/-- The 802.1Q priority of a frame, 0 where it is untagged (R304). -/
def tagOf (b : List Nat) : Nat := if b.getD 12 0 = 0x81 && b.getD 13 0 = 0 then b.getD 14 0 % 256 / 32 else 0
def prioOf (f : EcnFrame) : Nat := tagOf f.bytes

/-- The egress queue of a priority, 3 the highest (R304). -/
def egrQueue (prio : Nat) : Nat := prio % 8 / 2

/-- The frame sizes the switch takes, the four bytes of the FCS included (R302); `bytes` is without them. -/
def sizeOk (f : EcnFrame) : Bool := 60 ≤ f.bytes.length && f.bytes.length ≤ 1518

/-- A frame dropped at a full egress queue (R304). -/
def egressDrop (s : State) : State := s.countDrop pgECN ECN.EGR_DROP_CNT

/-- A frame for the module into its host ring (R305). -/
def toHostRing (s : State) (f : EcnFrame) (buf : Nat) : State :=
  let k := if 4 ≤ prioOf f then 3 else 2
  let h := s.get (ECN.Q_HEAD k)
  if !s.on (HDR.EN pgECN) then s
  else if h = s.get (ECN.Q_TAIL k) then s.countDrop pgECN ECN.RX_DROP_CNT
  else
    let d := s.get (ECN.Q_BASE k) + 16 * h
    let s := s.wr32 pgECN 12 (d + 4) (f.bytes.length + prioOf f * 2 ^ 16)
    let s := s.wr32 pgECN 12 (d + 8) (f.us % 2 ^ 32)
    let s := s.wrBytes pgECN 12 buf (f.bytes.take 2048)
    let s := (s.set (ECN.Q_HEAD k) ((h + 1) % 256)).count ECN.RX_CNT
    { s with nets := { s.nets with rxHeld := mapPut 0 k (mapFind 0 k s.nets.rxHeld + 1) s.nets.rxHeld } }

/-- A frame at a port: dropped for its FCS, forwarded out of the other port by the egress queue of its priority, taken for the module
(R302, R304). The flag says whether it was for the module. DESIGN CHOICE (log 135): a frame of a size the switch does not take is
ignored, and nothing counts it. -/
def ecnReceive (s : State) (port : Nat) (f : EcnFrame) (buf : Nat) (full : Bool) : State × Bool :=
  if !ecnUp s || !s.on (linkReg port) then (s, false)
  else if !f.fcsOk then (s.countDrop pgECN ECN.CRC_ERR_CNT, false)
  else if !sizeOk f then (s, false)
  else
    let mine := if grouped f then groupIn s f else macOf f = ownMac s
    let s := if (!grouped f && macOf f = ownMac s) || !s.on (linkReg (1 - port)) then s
      else if full then egressDrop s else (s.count ECN.FWD_CNT).sendOn (9 - port) (egrQueue (prioOf f)) f.bytes
    if mine then (toHostRing s f buf, true) else (s, false)

/-- What a TAIL write leaves (R305): it never passes HEAD. -/
def tailLimit (s : State) (k v : Nat) : Nat :=
  let h := s.get (ECN.Q_HEAD k)
  let t := s.get (ECN.Q_TAIL k)
  if (v + 256 - t) % 256 ≤ (h + 255 - t) % 256 then v % 256 else (h + 255) % 256

/-- After a TAIL write: entries given to hardware no longer hold a frame for the host. -/
def tailWritten (s : State) (k : Nat) : State :=
  let d := (s.get (ECN.Q_HEAD k) + 255 - s.get (ECN.Q_TAIL k)) % 256 + 1
  { s with nets := { s.nets with rxHeld := mapPut 0 k (min d (mapFind 0 k s.nets.rxHeld)) s.nets.rxHeld } }

/-- A write of TAIL by the host, clamped and counted. -/
def tailWrite (s : State) (k v : Nat) : Wrote :=
  (tailWritten (s.set (ECN.Q_TAIL k) (tailLimit s k v)) k, tailLimit s k v != v % 256)

/-- ECN_FRAME_TX (R304, R305): TXQ1 is served before TXQ0; the frame leaves at the priority of its descriptor, which takes the time of
its end. -/
def execEcnFrameTx (frame : HostFrame) (full : Bool) (s : State) : Out State :=
  let ready := fun k => s.get (ECN.Q_HEAD k) != s.get (ECN.Q_TAIL k)
  let k := if ready 1 then 1 else 0
  if !ecnUp s || !s.on (HDR.EN pgECN) || !ready k then .next s
  else
    let s := s.wr32 pgECN 12 (s.get (ECN.Q_BASE k) + 16 * s.get (ECN.Q_HEAD k) + 8) (frame.us % 2 ^ 32)
    let s := s.set (ECN.Q_HEAD k) ((s.get (ECN.Q_HEAD k) + 1) % 256)
    .next (if full then egressDrop s else (s.count ECN.TX_CNT).sendEcn frame.prio 0 none 0 frame.bytes)

/-- BYPASS_RELAY_CHANGE (R303): the relay closes with P7 off and opens 20 ms after P7 came on; each change breaks both links. -/
def execBypassRelayChange (s : State) : Out State :=
  let close := !s.domOn 7
  if close = s.on ECN.BYPASS || (!close && s.tick < s.nets.p7At + msTicks 20) then .next s
  else
    let s := portDown (portDown (s.setB ECN.BYPASS close) 0) 1
    .next (if close then s.count ECN.BYPASS_CNT else s)

/-- ECN_LINK_CHANGE (R302, R303). -/
def execEcnLinkChange (port : Fin 2) (up gig : Bool) (s : State) : Out State :=
  if !ecnUp s then .next s
  else if up then .next ((s.setB (linkReg port) true).setB (gigReg port) gig)
  else .next (portDown s port)

/-! MVB (R307, R308). -/

/-- Word 0 and 1 of a process-data port (R308). -/
def mvbWord (s : State) (k : Nat) : Nat := s.rd32 pgMVB 1 (8 * k)
def mvbFresh (s : State) (k : Nat) : Nat := s.rd32 pgMVB 1 (8 * k + 4) % 0x10000
def mvbOn (s : State) (k : Nat) : Bool := bitAt (mvbWord s k) 31
def mvbSource (s : State) (k : Nat) : Bool := bitAt (mvbWord s k) 30
def mvbAddr (s : State) (k : Nat) : Nat := bitsOf (mvbWord s k) 16 12
def mvbSize (s : State) (k : Nat) : Nat := let c := bitsOf (mvbWord s k) 8 8; if 4 < c then 2 else 2 * 2 ^ c

/-- A valid frame on a line. -/
def lineGood (s : State) (l : Nat) : State := { s with nets := { s.nets with lineAt := mapPut 0 l s.tick s.nets.lineAt } }

/-- The lines of a frame (R307): errors counted, a line with a valid frame is healthy. -/
def mvbLines (s : State) (a b : MvbLine) : State :=
  let s := match a with | .good => lineGood (s.setB MVB.LINE_A_OK true) 0 | .bad => s.count MVB.LINE_A_ERR_CNT | .none => s
  match b with | .good => lineGood (s.setB MVB.LINE_B_OK true) 1 | .bad => s.count MVB.LINE_B_ERR_CNT | .none => s

/-- Whether either line carries the frame whole. -/
def mvbGood (a b : MvbLine) : Bool := a = MvbLine.good || b = MvbLine.good

/-- MVB_MASTER_FRAME (R307, R308): a source port sends what the host wrote; the device status answers its address. -/
def execMvbMasterFrame (ask : MvbAsk) (a b : MvbLine) (s : State) : Out State :=
  if !s.works pgMVB then .next s
  else
    let s := mvbLines s a b
    if !mvbGood a b || s.get MVB.MVB_ADDR = 0 then .next s
    else match ask with
      | .status d =>
        if d.toNat != s.get MVB.MVB_ADDR then .next s
        else .next ((s.count MVB.MF_CNT).draw.sendOn 6 d.toNat (beBytes (Config.mvbStatus s.freeCtr).toNat 2))
      | .port p =>
        match (List.range 32).find? (fun k => mvbOn s k && mvbSource s k && mvbAddr s k = p.toNat) with
        | none => .next s
        | some k => .next ((s.count MVB.MF_CNT).sendOn 6 p.toNat (s.rdBytes pgMVB 2 (32 * k) (mvbSize s k)))

/-- New data in a sink port (R308). -/
def sinkFresh (s : State) (k : Nat) : State := { s with nets := { s.nets with sinkAt := mapPut 0 k s.tick s.nets.sinkAt } }

/-- MVB_SLAVE_FRAME (R308): the data of the sink is replaced whole. -/
def execMvbSlaveFrame (addr : BitVec 12) (data : List Nat) (a b : MvbLine) (s : State) : Out State :=
  if !s.works pgMVB then .next s
  else
    let s := mvbLines s a b
    if !mvbGood a b then .next s
    else .next (eachUpTo 32 (fun s k =>
      if mvbOn s k && !mvbSource s k && mvbAddr s k = addr.toNat && data.length = mvbSize s k then
        sinkFresh ((s.wrBytes pgMVB 2 (32 * k) data).setBit MVB.STALE_MASK k false) k
      else s) s)

/-- MVB_LINE_FAULT (R307): 32 ms without a valid frame on a line while the other has them. -/
def execMvbLineFault (line : Fin 2) (s : State) : Out State :=
  let ok := fun (l : Nat) => if l = 0 then MVB.LINE_A_OK else MVB.LINE_B_OK
  let at_ := fun (l : Nat) => mapFind 0 l s.nets.lineAt
  .next (if s.works pgMVB && s.on (ok (1 - line)) && at_ line + msTicks 32 ≤ s.tick && s.tick ≤ at_ (1 - line) + msTicks 32
    then s.setB (ok line) false else s)

/-- A port configured so that its data is not checked for age is not stale (R308). -/
def staleEnd (s : State) (k : Nat) : State :=
  if mvbOn s k && !mvbSource s k && mvbFresh s k != 0 then s else s.setBit MVB.STALE_MASK k false

/-- MVB_PORT_STALE (R308): data older than the port's freshness limit. -/
def execMvbPortStale (k : Fin 32) (s : State) : Out State :=
  if !s.works pgMVB || !mvbOn s k || mvbSource s k || mvbFresh s k = 0 || s.bit MVB.STALE_MASK k ||
    s.tick < mapFind 0 k s.nets.sinkAt + msTicks (mvbFresh s k) then .next s
  else .next ((s.setBit MVB.STALE_MASK k true).count MVB.STALE_CNT)

/-- The place of a reader's latch of a sink port: the host and the service tool each have their own pair (R89), and so their own. -/
def latchAt (src : Src) (k : Nat) : Nat := match src with | .host => k | .tool => 32 + k

/-- The latch of a sink port (R308). -/
def mvbLatch (s : State) (src : Src) (k : Nat) : State :=
  if !mvbOn s k || mvbSource s k then s
  else { s with nets := { s.nets with mvbRead := mapPut [] (latchAt src k) (s.rdBytes pgMVB 2 (32 * k) 32) s.nets.mvbRead } }

/-- MVB_SINK_WORD0_READ, by the host. -/
def execMvbSinkWord0Read (k : Fin 32) (s : State) : Out State := .next (mvbLatch s .host k)

/-- A byte of port data as a reader finds it: past word 0, a sink port reads from its latch. -/
def mvbByte (s : State) (src : Src) (a : Nat) : Nat :=
  let k := a / 32
  let l := mapFind [] (latchAt src k) s.nets.mvbRead
  if mvbOn s k && !mvbSource s k && 4 ≤ a % 32 && l != [] then l.getD (a % 32) 0 else s.rd8 pgMVB 2 a

/-! The legacy link (R309, R310). -/

/-- A frame with its CRC (R309). -/
def lglFrame (addr typ : Nat) (payload : List Nat) : List Nat :=
  let b := [addr, typ, payload.length] ++ payload
  b ++ beBytes (crc16 b) 2

/-- Whether a frame is good (R309). -/
def lglGood (bytes : List Nat) (parityOk : Bool) : Bool :=
  let n := bytes.getD 2 0
  parityOk && n ≤ 64 && bytes.length = n + 5 && beNum (bytes.drop (n + 3)) = crc16 (bytes.take (n + 3))

/-- A bad frame dropped. -/
def lglBad (s : State) : State := s.countDrop pgLGL LGL.LGL_ERR_CNT

/-- Whether the link works in a role. -/
def lglMaster (s : State) : Bool := s.works pgLGL && !s.on LGL.ROLE

/-- The address polled next (R310): ascending, one lost only once a second. -/
def lglNext (s : State) : Option Nat :=
  let due := fun (a : Nat) => s.bit LGL.POLL_MASK a &&
    (mapFind 0 a s.nets.lglMiss < 3 || mapFind 0 a s.nets.lglPoll + 32768 ≤ s.tick)
  ((List.range 31).map (fun i => (s.nets.lglAt + i) % 31 + 1)).find? due

/-- LGL_POLL (R310): 2 ms after the latest poll, the gap of the poll round takes a queued host buffer, else the next address. -/
def execLglPoll (s : State) : Out State :=
  if !lglMaster s || s.nets.lglWait.isSome || s.tick < s.nets.lglFree then .next s
  else match s.nets.lglQ with
    | b :: rest =>
      let f := s.rdBytes pgLGL 2 (b * 0x48) (5 + min 64 (s.rd8 pgLGL 2 (b * 0x48 + 2)))
      .next ({ s with nets := { s.nets with
        lglQ := rest
        lglWait := some (f.getD 0 0, false, s.tick) } }.sendOn 5 0 f)
    | [] => match lglNext s with
      | none => .next s
      | some a =>
        .next (({ s with nets := { s.nets with
          lglAt := a % 31
          lglWait := some (a, true, s.tick)
          lglPoll := mapPut 0 a s.tick s.nets.lglPoll } }.count LGL.POLL_CNT).sendOn 5 0 (lglFrame a 1 []))

/-- A legacy unit answers (R310, R315, R317): version mask and serial, or 0x01 and 0. -/
def legacySeen (s : State) (a mask serial : Nat) : State :=
  if !echoOn s then s
  else match (match findLegacy s a serial with | some k => some k | none => roomFor s 5) with
    | none => notEntered s
    | some k =>
      let s := s.setSlot k { s.slot k with
        typ := 5
        unit := a
        serial := serial
        carriers := 2 ^ 5
        mask := mask
        tick := s.tick }
      slotState (chooseVersion s k) k esPRESENT 4

/-- The latest request has its answer or none: the next one follows after 2 ms (R310). -/
def pollEnded (s : State) : State :=
  { s with nets := { s.nets with
    lglWait := none
    lglFree := s.tick + msTicks 2 } }

/-- A frame arrives on the master's line (R309, R310): a bad one is counted, asked for or not; a reply, of type 0x81 to a poll, is
stored whole, and an answered poll makes the unit present. -/
def lglReply (s : State) (bytes : List Nat) (parityOk : Bool) : State :=
  let n := bytes.getD 2 0
  let short := bytes.getD 1 0 = 0x81 && n != 0 && n < 5
  match s.nets.lglWait with
  | none => if lglGood bytes parityOk then s else lglBad s
  | some (a, polled, _) =>
    if !lglGood bytes parityOk || (polled && short) then lglBad s
    else if bytes.getD 0 0 != a || (polled && bytes.getD 1 0 != 0x81) then s
    else
      let s := pollEnded s
      let s := s.wrBytes pgLGL 1 (a % 32 * 0x48) bytes
      if !polled then s
      else
        let s := { s with nets := { s.nets with lglMiss := mapPut 0 a 0 s.nets.lglMiss } }
        let s := s.setBit LGL.LGL_PRESENT a true
        if n = 0 then legacySeen s a 1 0 else legacySeen s a (bytes.getD 3 0) (beNum ((bytes.drop 4).take 4))

/-- LGL_REPLY_RX. -/
def execLglReplyRx (bytes : List Nat) (parityOk : Bool) (s : State) : Out State :=
  .next (if lglMaster s then lglReply s bytes parityOk else s)

/-- LGL_REPLY_TIMEOUT (R310): no reply within REPLY_TMO_MS; three polls unanswered in a row lose the unit. -/
def execLglReplyTimeout (s : State) : Out State :=
  match s.nets.lglWait with
  | none => .next s
  | some (a, polled, t) =>
    if s.tick < t + msTicks (s.get LGL.REPLY_TMO_MS) then .next s
    else if !polled then .next (pollEnded s)
    else
      let s := pollEnded s
      let m := mapFind 0 a s.nets.lglMiss + 1
      let s := ({ s with nets := { s.nets with lglMiss := mapPut 0 a m s.nets.lglMiss } }).count LGL.NOREPLY_CNT
      if m < 3 || !s.bit LGL.LGL_PRESENT a then .next s
      else
        let s := s.setBit LGL.LGL_PRESENT a false
        .next (if !echoOn s then s else eachUpTo 256 (fun s k =>
          if (s.slot k).typ = 5 && (s.slot k).unit = a then slotLost s k 4 else s) s)

/-- A write of LGL_CMD (R310, R325): a buffer already queued is discarded. -/
def lglCommand (s : State) (v : Nat) : Wrote :=
  let b := v % 4
  if v / 4 != 0x4700 / 4 || s.nets.lglQ.contains b then (s, true)
  else ({ s with nets := { s.nets with lglQ := s.nets.lglQ ++ [b] } }, false)

/-- LGL_SLAVE_REPLY (R310): a poll to the own address is answered with DOOR_INFO. -/
def execLglSlaveReply (bytes : List Nat) (parityOk : Bool) (s : State) : Out State :=
  if !s.works pgLGL || !s.on LGL.ROLE then .next s
  else if !lglGood bytes parityOk then .next (lglBad s)
  else if bytes.getD 0 0 != s.get LGL.OWN_ADDR || bytes.getD 1 0 != 1 || bytes.getD 2 0 != 0 then .next s
  else .next (s.sendOn 5 0 (lglFrame (s.get LGL.OWN_ADDR) 0x81 ([1] ++ beBytes (s.get SYS.SERIAL_LO) 4 ++ doorInfo8 s)))

end Sys2Proof.Machine
end

