-- ==== Sys2Proof/Machine/Echo.lean ====
section
/-! DEFINITION. Dvorud messages and Echo (R311 to R322, R346): what the module's engines send, and what they take from
announcements, CONSIST telegrams and their absence. -/

namespace Sys2Proof.Machine

/-! Sending. -/

/-- The 8-byte header of versions 3 and 4, to all units (R313). -/
def dvrHeader (s : State) (v typ len : Nat) : List Nat := [v, typ] ++ beBytes (s.get DST.OWN_UNIT) 2 ++ [0xFF, 0xFF] ++ beBytes len 2

/-- The version a message to all takes on a carrier: ECN 4, CAN at least 2, the legacy link 1 (R311, R313). -/
def castVersion (s : State) (c : Nat) : Nat :=
  if c = 0 then 4 else if c = 5 then 1 else max 2 (versionOn s (s.get DVR.VER_EN) c)

/-- Whether the module's own senders can use a carrier now (R306, R311). -/
def canSend (s : State) (c : Nat) : Bool :=
  if c = 0 then ecnUp s && s.on ECN.IP_ADDR
  else if c = 5 then lglMaster s
  else canOn s (c - 1) && s.get (CAN.ESTATE (c - 1)) != 2 && s.get (CAN.MODE (c - 1)) = 0

/-- A Dvorud message sent on a carrier (R313): the long payload on versions 3 and 4, the short one below. On ECN an announcement is
process data to its group, every other message message data (R306); a CAN XL frame is named by its AF, SDT and priority, and a CAN FD
frame switches its bit rate. -/
def dvrSend (s : State) (c typ comId : Nat) (long short : List Nat) : State :=
  let v := castVersion s c
  let unit := s.get DST.OWN_UNIT
  if c = 0 then
    (if typ = 0x10 then s.sendEcn 5 udpPD (some (s.get ECHO.ECHO_GROUP)) comId (dvrHeader s 4 typ long.length ++ long)
    else s.sendEcn 5 udpMD none comId (dvrHeader s 4 typ long.length ++ long))
  else if c = 5 then s.draw.sendOn 5 0 (lglFrame (Config.lglDest s.freeCtr).toNat typ short)
  else
  let s := { s with nets := { s.nets with brs := mapPut false c (v = 3) s.nets.brs } }
  if v = 4 then
    s.sendOn c (typ * 0x10000 + unit + s.get DVR.DVR_SDT * 2 ^ 32 + s.get DVR.XL_PRIO * 2 ^ 40) (dvrHeader s 4 typ long.length ++ long)
  else if v = 3 then s.sendOn c (typ * 2 ^ 21 + 0x15 * 2 ^ 16 + unit) (dvrHeader s 3 typ long.length ++ long)
  else s.sendOn c (typ * 2 ^ 21 + 0x15 * 2 ^ 16 + unit) short

/-- The payloads of ANNOUNCE (R316). -/
def announceLong (s : State) : List Nat :=
  beBytes (s.get64 SYS.SERIAL_HI SYS.SERIAL_LO) 8 ++ [s.get DVR.VER_EN, 1,
    bit1 s.inRefuge + bit1 (adclVerdict s .saf) * 2 + bit1 (adclVerdict s .col) * 4 + bit1 (s.on SAFM.NET_RESTR) * 8,
    s.lc] ++ beBytes (s.get ECHO.TOPO_CNT) 4 ++ [doorMask s.inSvc, s.echo.pos, 0, 0, 0, 0, 0, 0]
def announceShort (s : State) : List Nat :=
  beBytes (s.get SYS.SERIAL_LO) 4 ++ [s.get DVR.VER_EN, (announceLong s).getD 10 0] ++ beBytes (s.get ECHO.TOPO_CNT) 2

/-- ANNOUNCE on every carrier it goes out on (R316). -/
def announce (s : State) : State :=
  eachUpTo 5 (fun s c =>
    if (c = 0 || s.bit ECHO.ANN_CAN (c - 1)) && canSend s c then
      (dvrSend s c 0x10 (s.get ECHO.ECHO_COMID) (announceLong s) (announceShort s)).count ECHO.ANN_TX_CNT
    else s) s

/-- ANNOUNCE_SEND (R316). -/
def execAnnounceSend (s : State) : Out State := .next (if echoOn s then announce s else s)

/-- A message of the module's engines on the carriers of INFO_EN (R314, R346), and how many were sent. -/
def infoSend (s : State) (typ : Nat) (long short : List Nat) : State × Nat :=
  (List.range 6).foldl (fun (p : State × Nat) c =>
    if p.1.bit DVR.INFO_EN c && canSend p.1 c then
      (dvrSend p.1 c typ (p.1.get DVR.MD_COMID_BASE + typ) long short, p.2 + 1)
    else p) (s, 0)

/-- DOOR_INFO_SEND (R314). -/
def execDoorInfoSend (s : State) : Out State :=
  if !s.works pgDVR || s.inRefuge then .next s
  else
    let (s, k) := infoSend s 0x20 (doorStatus s) (doorInfo8 s)
    .next (s.countBy DVR.INFO_TX_CNT k)

/-- The failure flags of Flowstone as RECORDER carries them (R346). -/
def recorderFlags (s : State) : Nat := bit1 (s.on FLOW.MRAM_FAIL) * 4 + bit1 (s.on FLOW.NAND_FAIL) * 2 + bit1 (s.on FLOW.CTR_ONLY)

/-- RECORDER_SEND (R346): at a change of the flags, and every 10 s while one is set. -/
def execRecorderSend (s : State) : Out State :=
  let f := recorderFlags s
  if !s.pageOn pgFLOW || s.inRefuge || (f = s.flow.sent && (f = 0 || s.tick < s.flow.sentAt + msTicks 10000)) then .next s
  else
    let c := s.get (FLOW.CAIRN 0)
    let latest := s.get (FLOW.CAIRN (1 + (bitsOf c 8 4 + 14) % 15))
    let p := [f, if bitsOf c 0 8 = 0 then 0 else bitsOf latest 24 8] ++ beBytes (bitsOf c 0 8) 2
    let s := (infoSend s 0x21 p p).1
    .next { s with flow := { s.flow with
      sent := f
      sentAt := s.tick } }

/-! The registry. -/

/-- What an announcement says: serial, whether it is 32 bits, mask, flags, topology counter, consist position. -/
structure Heard where
  serial : Nat
  short  : Bool
  mask   : Nat
  refuge : Bool
  topo   : Nat
  pos    : Option Nat
  deriving DecidableEq, Repr

/-- The content of an announcement (R316), none where it is malformed. -/
def heardOf (p : List Nat) : Option Heard :=
  if p.length = 24 && p.getD 9 0 = 1 then
    some ⟨beNum (p.take 8), false, p.getD 8 0, bitAt (p.getD 10 0) 0, beNum ((p.drop 12).take 4), some (p.getD 17 0)⟩
  else if p.length = 8 then
    some ⟨beNum (p.take 4), true, p.getD 4 0, bitAt (p.getD 5 0) 0, beNum (p.drop 6), none⟩
  else none

/-- A carrier that can bring a Dvorud message (R311). -/
def carrierUp (s : State) (c : Nat) : Bool := if c = 0 then ecnUp s else canOn s (c - 1) && carrierMax s c != 0

/-- A slot takes what an announcement says (R318). -/
def slotHears (s : State) (k c unit : Nat) (h : Heard) : State :=
  let x := s.slot k
  let fresh := x.st = esFREE || x.st = esEXPECTED
  let known := !fresh && !bitAt x.flags 4
  let x := if x.st = esFREE then { EchoSlot.free with gen := x.gen } else x
  s.setSlot k { x with
    typ := 1
    unit := unit
    serial := if h.short && known then x.serial else h.serial
    carriers := putBit x.carriers c true
    heard := mapPut 0 c s.tick x.heard
    mask := h.mask
    pos := h.pos.getD x.pos
    tick := s.tick
    topo := h.topo
    topo16 := h.short
    flags := putBit (putBit x.flags 2 h.refuge) 4 (h.short && !known) }

/-- Whether an announcement carries the module's own identity (R315, R318): it makes no partner. -/
def ownHeard (s : State) (h : Heard) : Bool :=
  h.serial = s.get64 SYS.SERIAL_HI SYS.SERIAL_LO || (h.short && h.serial = s.get SYS.SERIAL_LO)

/-- ANNOUNCE_RX (R315, R317, R320). -/
def execAnnounceRx (c : Fin 5) (unit : Nat) (payload : List Nat) (s : State) : Out State :=
  if !s.pageOn pgECHO || s.inRefuge || !carrierUp s c then .next s
  else match heardOf payload with
    | none => .next (s.count DVR.DVR_BAD_CNT)
    | some h =>
      let s := s.count ECHO.ANN_RX_CNT
      if !echoOn s || ownHeard s h then .next s
      else
        let u := unit % 0x10000
        match (match findUnit s h.serial h.short with
          | some k => some k
          | none => match findExpected s u with | some k => some k | none => roomFor s 1) with
        | none => .next (notEntered s)
        | some k =>
          let s := chooseVersion (slotHears s k c u h) k
          if s.on ECHO.CONSIST_VALID && !s.echo.listed.contains u then .next (conflictEval (slotState s k esFOREIGN 1) k)
          else
            let s := s.setSlot k { s.slot k with flags := putBit (s.slot k).flags 3 false }
            .next (conflictEval (slotState s k esPRESENT 1) k)

/-- A Paloft slot whose unit is no longer listed (R320, step 2). Where it announced within the same millisecond, the CONSIST counts as
applied first and its announcement finds it FOREIGN (R322). -/
def dropUnlisted (s : State) (k : Nat) : State :=
  let x := s.slot k
  if k = 0 || x.typ != 1 || x.st = esFREE || x.st = esLOST || s.echo.listed.contains x.unit then s
  else
    let s := slotState s k esLOST 3
    let s := s.setSlot k { s.slot k with flags := putBit (s.slot k).flags 3 true }
    conflictEval (if x.st != esEXPECTED && s.tick < x.tick + msTicks 1 then slotState s k esFOREIGN 1 else s) k

/-- A listed unit without a slot (R320, step 3). -/
def expectUnit (s : State) (u : Nat) : State :=
  if u = s.get DST.OWN_UNIT || anyBelow 256 (fun k => k != 0 && (s.slot k).typ = 1 && (s.slot k).st != esFREE && (s.slot k).unit = u) then s
  else match roomFor s 1 with
    | none => notEntered s
    | some k =>
      let s := s.setSlot k { EchoSlot.free with
        typ := 1
        gen := (s.slot k).gen
        unit := u
        tick := s.tick }
      slotState s k esEXPECTED 3

/-- The units of a CONSIST. -/
def unitsOf (p : List Nat) : Nat → List Nat
  | 0 => []
  | c + 1 => beNum (p.take 2) :: unitsOf (p.drop 2) c

/-- Whether the payload of a CONSIST is not what R320 says. -/
def consistBad (payload : List Nat) : Bool := payload.length != 6 + 2 * payload.getD 5 0 || 64 < payload.getD 5 0

/-- CONSIST_RX (R320): process data under CONSIST_COMID; any other is none. -/
def execConsistRx (pd : ProcessData) (s : State) : Out State :=
  let payload := pd.payload
  let n := payload.getD 5 0
  if !s.pageOn pgECHO || s.inRefuge || !ecnUp s || pd.comId != s.get ECHO.CONSIST_COMID then .next s
  else if consistBad payload then .next (s.count DVR.DVR_BAD_CNT)
  else if !echoOn s then .next s
  else
    let s := { s with echo := { s.echo with
      listed := unitsOf (payload.drop 6) n
      pos := payload.getD 4 0 % 256 } }
    let s := slotLink (s.setB ECHO.CONSIST_VALID true) 0x12 3 0 0 1 true 1
    let t := beNum (payload.take 4)
    if t = s.get ECHO.TOPO_CNT then .next s
    else
      let s := (s.set ECHO.TOPO_CNT t).count ECHO.CONSIST_CNT
      let s := eachUpTo 256 dropUnlisted s
      .next (s.echo.listed.foldl expectUnit s)

/-- PARTNER_LOST (R317): a Paloft unit silent on every carrier for 1600 ms. -/
def execPartnerLost (k : Fin 256) (s : State) : Out State :=
  if !echoOn s || k = 0 || (s.slot k).typ != 1 then .next s
  else if ((s.slot k).st != esPRESENT && (s.slot k).st != esFOREIGN) || s.tick < (s.slot k).tick + msTicks 1600 then .next s
  else .next (chooseVersion (slotLost (s.setSlot k { s.slot k with carriers := 0 }) k 2) k)

/-- CARRIER_TIMEOUT (R317): 1600 ms without an announcement on the carrier. -/
def execCarrierTimeout (k : Fin 256) (c : Fin 5) (s : State) : Out State :=
  if !echoOn s || (s.slot k).typ != 1 || !bitAt (s.slot k).carriers c ||
    s.tick < mapFind 0 c.val (s.slot k).heard + msTicks 1600 then .next s
  else .next (chooseVersion (s.setSlot k { s.slot k with carriers := putBit (s.slot k).carriers c false }) k)

/-- TCMS_LOST (R317, R322): no CONSIST for 3 × TCMS_PERIOD_MS + 100 ms. -/
def execTcmsLost (s : State) : Out State :=
  if !echoOn s || !s.on ECHO.CONSIST_VALID || s.tick < (s.slot 0x12).tick + msTicks (3 * s.get ECHO.TCMS_PERIOD_MS + 100) then .next s
  else
    let s := slotLost (s.setB ECHO.CONSIST_VALID false) 0x12 2
    .next (eachUpTo 256 (fun s k => if (s.slot k).st = esEXPECTED then slotState s k esFREE 2 else s) s)

/-- SLOT_HOLD_EXPIRY (R318): 10 s after the slot was lost. -/
def execSlotHoldExpiry (k : Fin 256) (s : State) : Out State :=
  .next (if echoOn s && (s.slot k).st = esLOST && (s.slot k).since + msTicks 10000 ≤ s.tick then slotState s k esFREE 5 else s)

/-- EXPECTED_MISSING (R320): 1600 ms after the unit was entered. -/
def execExpectedMissing (k : Fin 256) (s : State) : Out State :=
  if !echoOn s || (s.slot k).st != esEXPECTED || (s.slot k).missed || s.tick < (s.slot k).since + msTicks 1600 then .next s
  else .next ((s.setSlot k { s.slot k with missed := true }).count ECHO.MISSING_CNT)

/-- Type and payload of a Dvorud message behind its 8-byte header (R313); no payload where the header is not sound. -/
def headed (version typ : Nat) (b : List Nat) : Nat × Option (List Nat) :=
  let len := beNum ((b.drop 6).take 2)
  (typ, if 8 ≤ b.length && b.getD 0 0 = version && b.getD 1 0 = typ && len + 8 ≤ b.length then some ((b.drop 8).take len) else none)

/-- Type and payload of the Dvorud message that a frame carries, if it carries one (R313): a CAN frame by its identifier or, in CAN XL,
by its SDT and AF; process data by its ComId, a CONSIST without a header (R320). -/
def dvrOf (s : State) (f : DvrFrame) : Option (Nat × Option (List Nat)) :=
  match f with
  | .can _ f _ =>
    if f.xl then (if f.sdt = s.get DVR.DVR_SDT then some (headed 4 (f.af / 0x10000 % 256) f.data) else none)
    else if !f.ide || bitsOf f.id 16 5 != 0x15 then none
    else if f.fd then some (headed 3 (bitsOf f.id 21 8) f.data) else some (bitsOf f.id 21 8, some f.data)
  | .ecn _ _ f => match f.pd with
    | some (c, b) =>
      if c = s.get ECHO.ECHO_COMID then some (headed 4 0x10 b)
      else if c = s.get ECHO.CONSIST_COMID then some (0x11, some b) else none
    | none => none
  | .lgl _ => none

/-- Whether a message is an ANNOUNCE or a CONSIST, and whether what it says shows that it is malformed (R313, R316, R320). -/
def examined (m : Option (Nat × Option (List Nat))) : Bool :=
  match m with | some (t, _) => t = 0x10 || t = 0x11 | none => false
def badMessage (m : Option (Nat × Option (List Nat))) : Bool :=
  match m with
  | some (0x10, some p) => (heardOf p).isNone
  | some (0x11, some p) => consistBad p
  | some (_, none) => true
  | _ => false

/-- DVR_MESSAGE_RX (R313): the frame goes to the host's queues as any other; an ANNOUNCE or CONSIST that is received and malformed
counts. What a sound one does to the registry is ANNOUNCE_RX or CONSIST_RX (DEDUCED, log 136). -/
def execDvrMessageRx (f : DvrFrame) (malformed : Bool) (s : State) : Out State :=
  let (t, got) := match f with
    | .ecn p buf f => ecnReceive s p f buf.toNat false
    | .can n f us => canReceive s n f us
    | .lgl b => (if lglMaster s then lglReply s b true else s, false)
  let m := dvrOf s f
  .next (if got && examined m && (malformed || badMessage m) && s.pageOn pgECHO && !s.inRefuge then t.count DVR.DVR_BAD_CNT else t)

/-- A word of a registry slot as it reads (R318); TOPO_DIFF is evaluated on reading. -/
def slotWord (s : State) (k w : Nat) : Nat :=
  let x := s.slot k
  let own := s.get ECHO.TOPO_CNT
  let diff := x.typ = 1 && x.st != esFREE && x.st != esEXPECTED && s.on ECHO.CONSIST_VALID &&
    x.topo != (if x.topo16 then own % 0x10000 else own)
  match w with
  | 0 => x.st * 2 ^ 28 + x.typ * 2 ^ 24 + x.gen * 2 ^ 16 + x.unit
  | 1 => x.serial / 2 ^ 32
  | 2 => x.serial % 2 ^ 32
  | 3 => x.carriers * 2 ^ 24 + x.mask * 2 ^ 16 + x.ver * 2 ^ 12 + x.car * 2 ^ 8 + x.pos
  | 4 => x.tick % 2 ^ 32
  | 5 => putBit x.flags 1 diff
  | 6 => x.topo
  | _ => 0

/-- A word of the change log (R319). -/
def logWord (s : State) (i w : Nat) : Nat := let e := mapFind (0, 0) i s.echo.log; if w = 0 then e.1 else e.2

/-- What a CHG_RD write leaves (R319): it never passes CHG_WR. -/
def chgLimit (s : State) (v : Nat) : Nat :=
  let r := s.get ECHO.CHG_RD
  let w := s.get ECHO.CHG_WR
  if (v + 64 - r) % 64 ≤ (w + 64 - r) % 64 then v % 64 else w

end Sys2Proof.Machine
end

