-- ==== Sys2Proof/Machine/FieldIo.lean ====
section
/-! DEFINITION. The isolated field inputs and outputs (R272 to R280). -/

namespace Sys2Proof.Machine

/-- The common fault sets (R276): each onset is counted and recorded. -/
def fioFault (s : State) : State :=
  if s.on FIO.FIO_FAULT then s
  else
    let s := (s.setB FIO.FIO_FAULT true).countFault pgFIO FIO.FAULT_ON_CNT
    s.event pgFIO 0 0x0020 (s.get FIO.FO_OUT) (s.get FIO.BARRIER_OK)

/-- The conditions of the field side (R272): P8 on, the clock good, and BATT_L at or above a level. -/
def fieldFed (s : State) (mv : Int) : Bool := s.domOn 8 && !s.bit CLK.CLK_FAIL 11 && mv ≤ s.pwr.mvL

/-- The barrier supply is lost (R272): outputs open, inputs read inactive, the fault sets. -/
def barrierLoss (s : State) : State :=
  if !s.on FIO.BARRIER_OK then s
  else
    let s := ((s.setB FIO.BARRIER_OK false).count FIO.SAG_CNT)
    fioFault ((s.set FIO.FI_LO 0).set FIO.FI_HI 0)

/-- Whether an output switch is closed (R275). -/
def foClosed (s : State) (n : Nat) : Bool := s.bit FIO.FO_OUT n && s.on FIO.BARRIER_OK && !bitAt s.fio.shut n

/-- Whether FO_OUT takes a write now, and what one becomes (R278). -/
def fioTakes (s : State) (r : Reg) : Bool := !(r = FIO.FO_OUT && s.on FIO.WD_OPEN)
def fioLimit (s : State) (r : Reg) (v : Nat) : Nat := if r = FIO.FO_OUT && !s.on (HDR.EN pgFIO) then 0 else v

/-- EN of page FIO written (R278). -/
def fioEnWritten (s : State) : State := if s.on (HDR.EN pgFIO) then s else s.set FIO.FO_OUT 0


/-- Every output opens at the host watchdog's expiry (R278). -/
def fioWatchdog (s : State) : State := (s.set FIO.FO_OUT 0).setB FIO.WD_OPEN true

/-- BARRIER_LOSS. -/
def execBarrierLoss (s : State) : Out State := .next (if fieldFed s 15000 then s else barrierLoss s)

/-- The filters of the groups in a mask restart (R272, R273). -/
def filtersRestart (s : State) (m : Nat) : State :=
  eachUpTo 8 (fun s g =>
    if bitAt m g then { s with fio := { s.fio with since := mapPut 0 g s.tick s.fio.since } } else s) s

/-- THR was written (R273): the filters of the groups whose threshold has changed restart. -/
def thrWritten (s0 s : State) : State :=
  filtersRestart s (maskOf (fun g => bitsOf (s.get FIO.THR) (2 * g) 2 != bitsOf (s0.get FIO.THR) (2 * g) 2) 8)

/-- BARRIER_RETURN (R272): commanded outputs close again, inputs start their filters from inactive. -/
def execBarrierReturn (s : State) : Out State :=
  .next (if s.on FIO.BARRIER_OK || !fieldFed s 15500 then s else filtersRestart (s.setB FIO.BARRIER_OK true) 0xFF)

/-- The levels of a threshold code in 0.1 V (R273): active at or above the first, inactive at or below the second. -/
def thrLevels (code : Nat) : Int × Int :=
  match code with | 0 => (168, 96) | 1 => (336, 192) | 2 => (504, 288) | _ => (770, 440)

/-- The filter time of a code in µs (R274). -/
def filtUs (code : Nat) : Nat := if code = 0 then 500 else code * 2000

/-- What an input reads at a voltage in 0.1 V under a threshold code, from what it read before (R273). Where between the two levels
it switches is a free value, the same at every reading, with 2 V of hysteresis below it. -/
def fiReads (i code : Nat) (dv : Int) (was : Bool) : Bool :=
  let lv := thrLevels code
  let up := lv.2 + 20 + (Config.fieldSwitch i code : Int) % (lv.1 - lv.2 - 19)
  if up ≤ dv then true else if dv ≤ up - 20 then false else was

/-- The accepted level of an input. -/
def fiLevel (s : State) (i : Nat) : Bool := if i < 32 then s.bit FIO.FI_LO i else s.bit FIO.FI_HI (i - 32)

/-- FI_ACCEPTED (R273, R274): a voltage in 0.1 V that the input has held for its filter time; the filter has run for as long since
it last restarted. -/
def execFiAccepted (i : Fin 64) (dv : Int) (s : State) : Out State :=
  let g := i.val / 8
  let ran := mapFind 0 g s.fio.since * 1000000 + filtUs (bitsOf (s.get FIO.FILT) (4 * g) 4) * 32768 ≤ s.tick * 1000000
  if !s.on FIO.BARRIER_OK || !s.domOn 8 || !ran then .next s
  else
    let active := fiReads i (bitsOf (s.get FIO.THR) (2 * g) 2) dv (fiLevel s i)
    .next (if i.val < 32 then s.setBit FIO.FI_LO i active else s.setBit FIO.FI_HI (i - 32) active)

/-- FO_THERMAL_SHUTDOWN (R275, R276). -/
def execFoThermalShutdown (n : Fin 32) (s : State) : Out State :=
  if !foClosed s n then .next s
  else .next (fioFault { s with fio := { s.fio with shut := putBit s.fio.shut n true } })

/-- FO_THERMAL_RESTART (R275): the switch has cooled; it closes again while its bit is 1 and the field side is up. -/
def execFoThermalRestart (n : Fin 32) (s : State) : Out State :=
  .next { s with fio := { s.fio with shut := putBit s.fio.shut n false } }

/-- FO_CURRENT_LIMIT (R276): 2 ms or more in limit. -/
def execFoCurrentLimit (n : Fin 32) (s : State) : Out State := .next (if foClosed s n then fioFault s else s)

/-- FIO_FAULT_CLEAR (R276): 100 ms after the last cause has ended. Once the host watchdog has opened every output, only a lost
barrier keeps the fault (R279). -/
def execFioFaultClear (s : State) : Out State :=
  .next (if s.on FIO.BARRIER_OK && (s.fio.shut = 0 || s.on FIO.WD_OPEN) then s.setB FIO.FIO_FAULT false else s)

end Sys2Proof.Machine
end

