-- ==== Sys2Proof/Machine/Shared.lean ====
section
/-! DEFINITION. What several families share: power domains going on and off, entry to Active, entry to Refuge, and the start
that follows a power-down, a wake, a restart or a life-cycle change (R40, R46, R51, R58, R64, R70, R72). -/

namespace Sys2Proof.Machine

/-! Supplies (R39, R40). -/

/-- Where P0 and P1 draw from (R40): BATT_L from 14.0 V, else the highest other supply from 14.0 V, else the backup. -/
def feedOf (s : State) : Feed :=
  let p := s.pwr
  let top := max p.mvD (max p.mvGA p.mvGB)
  if 14000 ≤ p.mvL then .battL
  else if top < 14000 then .backup
  else if p.mvD = top then .battD
  else if p.mvGA = top then .battGA else .battGB

/-- A supply's OK bit: it sets at 16.0 V and clears at 15.0 V (R39). -/
def supplyOk (was : Bool) (mv : Int) : Bool := if was then 15000 < mv else 16000 ≤ mv

/-- A voltage in units of 10 mV. -/
def centivolt (mv : Int) : Nat := (mv / 10).toNat

/-- The supply readings of page PWR. -/
def supplyShow (s : State) : State :=
  let p := s.pwr
  let s := (s.setB PWR.BATTL_OK (14000 ≤ p.mvL)).setB PWR.BATTL_LOW (p.mvL < 16800)
  let s := s.setB PWR.BATTD_OK (supplyOk (s.on PWR.BATTD_OK) p.mvD)
  let s := s.setB PWR.GA_OK (supplyOk (s.on PWR.GA_OK) p.mvGA)
  let s := s.setB PWR.GB_OK (supplyOk (s.on PWR.GB_OK) p.mvGB)
  let s := (s.setSat PWR.VL (centivolt p.mvL)).setSat PWR.VD (centivolt p.mvD)
  (s.setSat PWR.VGA (centivolt p.mvGA)).setSat PWR.VGB (centivolt p.mvGB)

/-- P1 follows its feed while the power sequencer is off; in every other phase BATT_L or its hold-up carries it (R40). -/
def feedSync (s : State) : State :=
  let s := { s with pwr := { s.pwr with feed := feedOf s } }
  if s.pwr.phase != .off then s
  else if s.pwr.feed != .backup then s.setBit PWR.DOM_ON 1 true
  else clkSync { (s.setBit PWR.DOM_ON 1 false).setB CRAWL.CR_PIN false with gal := { s.gal with crawlPin := false } }

/-! Domains (R46, R77). -/

/-- A domain switched on: its block starts at DOMAIN_ON, from the stored values. -/
def domOn1 (s : State) (d : Nat) : State :=
  if s.domOn d then s
  else
    let s := s.setBit PWR.DOM_ON d true
    let s := if d = 4 then s.setB LANT.ENG_OK false else s
    let s := if d = 7 then { s with nets := { s.nets with p7At := s.tick } } else s
    { s with pwr := { s.pwr with
      fresh := putBit s.pwr.fresh d true
      readback := if d = 9 then false else s.pwr.readback } }

/-- A domain switched off, and what goes with it. -/
def domOff1 (s : State) (d : Nat) : State :=
  if !s.domOn d then s
  else
    let s := clkSync (s.setBit PWR.DOM_ON d false)
    let s := { s with pwr := { s.pwr with fresh := putBit s.pwr.fresh d false } }
    match d with
    | 2 => (s.setB SAFM.SP_RUN false).setB COLM.SP_HB_OK false
    | 3 => { s with pwr := { s.pwr with
        hostUp := false
        wdRun := false
        wdDue := false } }
    | 6 => eachHead portSync (s.setB LANT.HP_OK false)
    | 8 => barrierLoss s
    | 9 => { s with pwr := { s.pwr with readback := false } }
    | 10 => s.setB CRAWL.MAP_LOADED false
    | _ => s

/-- Everything that depends on the domains evaluated again. -/
def evalAll (s : State) : State := crawlSync (visionEval (safetyEval s))

/-- Whether only the Crawl path feeds P10 (R28, R47, R62): in Parked, before step 2 of a start has switched it on, and in a Refuge
for a cause of step 1 or from a start that did not reach P10. -/
def crawlPath (s : State) : Bool :=
  s.pwr.phase = .parked || (s.pwr.phase = .starting && !s.bit SYS.ST_DONE 1) ||
  (s.pwr.phase = .refuge && (s.get SYS.RF_STEP = 1 || !s.bit SYS.ST_DONE 1))

/-- The Crawl path switches P10 on while CRAWL_EN is asserted (R47), and the map is loaded. -/
def crawlFeed (s : State) : State :=
  if s.on CRAWL.CR_PIN && crawlPath s && !s.domOn 10 && s.domOn 1 then crawlLoad (domOn1 s 10) else s

/-- Several domains on or off. -/
def domsOn (s : State) (ds : List Nat) : State := ds.foldl domOn1 s
def domsOff (s : State) (ds : List Nat) : State := evalAll (ds.foldl domOff1 s)

/-! Modes (R51, R57). -/

/-- Entry to Active from Idle (R51). -/
def enterActive (s : State) : State :=
  if s.pwr.phase != .idle then s
  else
    let s := { s with pwr := { s.pwr with
      phase := .active
      parkTry := false } }
    let s := ((s.set PWR.MODE 2).setB PWR.ACT_RDY false).set CLK.APP_NOW (s.get CLK.APP_SEL)
    evalAll (domsOn s [4, 6, 9])

/-- Entry to Idle from Active (R52). -/
def enterIdle (s : State) : State :=
  let s := { s with pwr := { s.pwr with phase := .idle } }
  let s := ((s.set PWR.MODE 1).setB PWR.ACT_RDY false).set CLK.APP_NOW 0
  parkSync (domsOff s [4, 6, 9])

/-- Every axis at rest. -/
def axesRest (s : State) : Bool := allBelow 16 (fun n => !s.hasAx n || (s.ax n).atRest)

/-! Refuge (R64). -/

/-- The selector of monitor output TP(9 + i) (R377). -/
def tpSel (s : State) (i : Nat) : Nat := bitsOf (s.get (TEST.TP_SEL (i / 2))) (16 * (i % 2)) 16
def setTpSel (s : State) (i v : Nat) : State :=
  let w := s.get (TEST.TP_SEL (i / 2))
  s.set (TEST.TP_SEL (i / 2)) (w - bitsOf w (16 * (i % 2)) 16 * 2 ^ (16 * (i % 2)) + v % 65536 * 2 ^ (16 * (i % 2)))

/-- Monitor outputs that an owner gives up show nothing (R91, R372). -/
def monRelease (s : State) (o n : Nat) : State :=
  eachUpTo n (fun s i => if s.owner 2 i = o then (setTpSel s i 0).setOwner 2 i 0 else s) s

/-- What the service link says: the code of a reply and what it carries. -/
def say (s : State) (code : Nat) (l : List Nat) : State := { s with svc := { s.svc with
  reply := code
  words := l } }

/-- Readings a running test gathers, and whether they are as R374 asks. -/
def testNote (s : State) (l : List Int) (ok : Bool) : State := { s with svc := { s.svc with
  notes := s.svc.notes ++ l
  testOk := s.svc.testOk && ok } }

/-- A report of the running test on Slati (R373): test, argument, step, readings. -/
def testSay (s : State) (l : List Int) : State :=
  say s 0x300 ([s.get TEST.TEST_CODE, s.get TEST.TEST_ARG, s.get TEST.TEST_STEP] ++ l.map (un 32))

/-- What the running test switched on goes off; a controller takes its MODE back (R374). -/
def testOff (s : State) : State :=
  let c := s.get TEST.TEST_CODE
  let a := s.get TEST.TEST_ARG
  if c = 0x0A then setGcBit s (32 + a % 8) false
  else if c = 0x0B then setGcBit s (a % 48) false
  else if c = 0x0C then s.setBit FIO.FO_OUT (a % 32) false
  else if c = 0x0D then s.set (CAN.MODE (a % 4)) s.svc.canMode
  else if c = 0x06 then { s with svc := { s.svc with align := none } } else s

/-- What a running test holds is given up (R373, R374): results are set by whoever ends it. -/
def testRelease (s : State) : State :=
  monRelease { (s.set TEST.TEST_OWN_DW 0).setB TEST.M_TEST false with
    saf := { s.saf with
      adclTest := 0
      stoTest := 0 } } 1 3

/-- A running test aborted: moving axes stop along their stop profiles (R373). -/
def testAbort (s : State) : State :=
  if !s.on TEST.TEST_RUN then s
  else
    let own := s.get TEST.TEST_OWN_DW
    let s := eachAx (fun s n =>
      if bitAt own (n % 8) && s.on TEST.M_TEST && !(s.ax n).atRest then axAsk s n (.stop 1) else s) s
    let s := testRelease (((testOff s).setB TEST.TEST_RUN false).set TEST.TEST_RESULT 3)
    galEval (safetyEval (s.count TEST.TEST_ABORT_CNT))

/-- A field test loses zero speed, on the wires or by telegram (R373). -/
def speedGuard (s : State) : State :=
  if s.on TEST.TEST_RUN && (!zeroSpeed s .saf || !zeroSpeed s .col) then testAbort s else s

/-- Entry to Refuge (R61, R64, R65, R229, R316): the first cause stands, and Echo keeps no registry. A failure of Column takes P2 and P10 with it (R62), but
for the Crawl path. A power-down runs to its end (R41), and without BATT_L there is no Refuge to enter (R40). -/
def enterRefuge (s : State) (step code detail : Nat) : State :=
  if s.inRefuge || s.pwr.phase = .off || s.pwr.phase = .powerDown then s
  else
    let s := testAbort s
    let can := s.works pgFLOW && s.on FLOW.FLOW_RDY && !s.on FLOW.CTR_ONLY
    let room := s.on (HDR.EN pgFLOW) && s.fq0.length < fq0Depth
    let s := if can then s.event pgSYS 0 0x0030 (step * 2 ^ 24 + code * 2 ^ 16 + detail % 2 ^ 16) else s
    let s := if can && room then s else cairn s 0x06 code
    let s := if s.on FLOW.EXP_RUN && (match s.flow.exp with | some e => e.src = Src.host | none => false) then exportEnd s else s
    let s := (((s.setB SYS.REFUGE true).set SYS.REFUGE_STEP step).setB SYS.OPERABLE false).count SYS.REFUGE_CNT
    let s := ((s.set SYS.RF_STEP step).set SYS.RF_CODE code).set SYS.RF_DETAIL detail
    let s := ((s.set PWR.MODE 4).setB PWR.ACT_RDY false).set CLK.APP_NOW 0
    let s := (s.set FIO.FO_OUT 0).set SAFM.SAF_STATE 3
    let s := { (s.setB ECHO.CONSIST_VALID false).setB ECHO.OWN_CONFLICT false with echo := { s.echo with
      slots := []
      listed := [] } }
    let s := { s with pwr := { s.pwr with
      phase := .refuge
      hostUp := false
      wdRun := false
      wdDue := false
      parkTry := false
      armed := false } }
    crawlFeed (domsOff s ([4, 6, 9] ++ (if step = 1 then (if s.on CRAWL.CR_PIN then [2] else [2, 10]) else [])))

/-- The domains from which the Refuge monitor reports (R62, R64). -/
def monitorOn (s : State) : State := evalAll (domsOn s [3, 5, 7, 8])

/-- Refuge for a cause of step 2 (R61, R64): P3 comes on for the Refuge monitor at once, but not before the wipes of an
interrupted life-cycle change (R68). -/
def refugeStep2 (s : State) (code detail : Nat) : State :=
  let s := enterRefuge s 2 code detail
  if s.on SYS.LC_WIPE_PEND || s.pwr.phase != .refuge then s else monitorOn s

/-! Starts (R58, R70, R72). -/

/-- Register fields held in non-volatile cells, in the Drip domain or measured at the connectors: they outlive a start. DESIGN CHOICE
(log 102): HOLD_SEQ is among them, although its Reset column in R350 says 0, since R71 and R348 keep the hold it bounds. -/
def keptRegs : List Reg := [
  SYS.SERIAL_HI, SYS.SERIAL_LO, SYS.LC_STATE, SYS.LC_WIPE_PEND, SYS.REFUGE_CNT,
  PWR.BATTL_OK, PWR.BATTL_LOW, PWR.BATTD_OK, PWR.BATTD_OV, PWR.GA_OK, PWR.GB_OK, PWR.VL, PWR.VD, PWR.VGA, PWR.VGB,
  PWR.IL, PWR.ID, PWR.CHOP_ON_V, PWR.VCAP, PWR.VCELL, PWR.BK_CELL, PWR.CELL_LOW, PWR.PF_CNT, PWR.WAKE_CNT,
  BOOT.BOOT_NEXT, BOOT.A_OK, BOOT.B_OK, BOOT.RUN_SLOT, BOOT.IMG_A_VER, BOOT.IMG_B_VER, BOOT.ROLLBACK_MIN,
  BOOT.BOOT_FAIL_CNT,
  DRIP.ALM_MISSED, DRIP.TC_FAULT, DRIP.ALM_DLY_HIT, DRIP.ALM_CAL_HIT, DRIP.BK_LOST, DRIP.CAL_VALID, DRIP.EPOCH,
  DRIP.TC_CORR, DRIP.XTAL_T, DRIP.BK_LOSS_CNT,
  ECN.MAC_HI, ECN.MAC_LO, FLOW.BAD_BLK, FLOW.EVID_HOLD, FLOW.HOLD_SEQ_HI, FLOW.HOLD_SEQ_LO, SVC.LOCKOUT,
  CRAWL.CR_PIN, CRAWL.CR_PINS, GAL.A_OV, GAL.B_OV, GAL.A_REV, GAL.B_REV, GAL.A_GND, GAL.B_GND] ++
  (List.range 16).map FLOW.CAIRN ++ (List.range 8).map CYCD.LIFE_CYC

/-- Storage that outlives a start (R70): the image slots, the safety parameter block, the telegram configuration, the alarm
words, the backgrounds and poses of the MRAM configuration area. -/
def keptSpace (pg sp : Nat) : Bool :=
  pg = pgBOOT || (pg = pgSAFM && sp = 1) || (pg = pgDST && sp = 2) || (pg = pgDRIP && sp = 1) ||
  (pg = pgLVOL && (sp = 3 || sp = spMram || sp = spMarks))

/-- The Drip domain at a start that follows a total loss of backup (R354). -/
def backupLost (s : State) : State :=
  let s := { s with
    tick := (max (s.drip.ckA.getD 0) (s.drip.ckB.getD 0) + 2 ^ 21) % 2 ^ 48
    drip := { s.drip with
      cal := 0
      stopped := false
      dlyArmed := false } }
  let s := ((s.setB DRIP.CAL_VALID false).setB DRIP.BK_LOST true).count DRIP.BK_LOSS_CNT
  s.wipeSpace pgDRIP 1

/-- Background states at a start: valid where MRAM holds a background (R168). -/
def bgReload (s : State) : State := eachDw (fun s n => setBg s n (if bgHeld s n then 2 else 0)) s

/-- Every page and every block as at reset, beside what outlives a start in no register: the storage, the levels at the connectors, the
Drip domain and the recorder (R58, R70). -/
def startOver (s : State) : State :=
  let trial := s.on BOOT.TRIAL && !s.on BOOT.BOOT_CONFIRM
  { State.reset with
    member := s.member
    tick := s.tick
    freeCtr := s.freeCtr
    pending := s.pending
    rdata := s.rdata
    mem := s.mem.filter (fun c => keptSpace (c.1 / 2 ^ 36) (c.1 / 2 ^ 32 % 16))
    pwr := { Power.init with
      feed := s.pwr.feed
      mvL := s.pwr.mvL
      mvD := s.pwr.mvD
      mvGA := s.pwr.mvGA
      mvGB := s.pwr.mvGB
      vref := vrefNow s
      vrefAt := s.tick
      holdUp := s.pwr.holdUp
      startTick := s.tick
      lcOld := s.pwr.lcOld
      confirmed := s.pwr.confirmed
      unproved := if trial then some (s.get BOOT.RUN_SLOT) else none }
    gal := { Gallery.init with
      direct := s.gal.direct
      crawlPin := s.gal.crawlPin
      mapCopies := s.gal.mapCopies }
    saf := { Safety.init with
      poleA := s.saf.poleA
      poleB := s.saf.poleB
      spoleA := s.saf.spoleA
      spoleB := s.saf.spoleB }
    drip := s.drip
    flow := { s.flow with
      clipSeq := []
      fq1 := (s.flow.fq1.filter (fun c => c.trace.isSome)).map (fun c => { c with lost := true })
      fq2 := []
      fq3 := []
      buf := []
      badAt := []
      nandBad := 0
      lastSnap := none
      findSeq := 0
      exp := none
      ackCrc := 0
      sent := 0 }
    svc := { Service.init with
      lockouts := s.svc.lockouts
      lockAt := s.svc.lockAt } }

/-- A start (R58): every page and every block as at reset, apart from what outlives it. `cause` is the bit of RST_CAUSE
that sets, `wake` the word of PWR_WAKE_CAUSE. -/
def restart (s : State) (cause : Option Reg) (wake : Nat) : State :=
  let t := keptRegs.foldl (fun t r => t.set r (s.get r)) (startOver s)
  let t := (t.setB SYS.PWR_ON false).setB SYS.BROWN s.pwr.brown
  let t := match cause with | some r => t.setB r true | none => t
  let t := (t.set PWR.CAUSE (wake % 256)).setB PWR.POWER_ON (bitAt wake 8)
  let t := t.setB PWR.PARK_LATE (bitAt wake 9)
  let t := bgReload t
  let t := if s.drip.stopped then
      { backupLost t with pwr := { t.pwr with
        startTick := (backupLost t).tick
        vrefAt := (backupLost t).tick } }
    else t
  crawlFeed t

/-- A restart on request (R72): refused while an axis moves or a doorway is not locked, and during a power-down, which runs to
its end (R41). -/
def restartAsked (s : State) (cause : Reg) : State × Bool :=
  if axesRest s && allLocked s && s.pwr.phase != .powerDown then (restart s (some cause) 0, true)
  else (s.count SYS.RST_REFUSE_CNT, false)

end Sys2Proof.Machine
end

