-- ==== Sys2Proof/Machine/Telegrams.lean ====
section
/-! DEFINITION. Safe data on two networks (R236 to R251, R296): checking a copy, pairing, what is in force, losing and regaining
a network, the module's own DOOR_STATUS, and the CAN controller that carries the copies. -/

namespace Sys2Proof.Machine

/-! The telegram configuration (R239). -/

/-- The space of page DST that holds the configuration in force: the block as step 2 of this start read it. Space 0x2 is the
stored block, which a commit changes at once (R300). -/
abbrev spTcfg := 3

def tcfg8 (s : State) (a : Nat) : Nat := s.rd8 pgDST spTcfg a
def tcfg16 (s : State) (a : Nat) : Nat := s.rd16 pgDST spTcfg a
def tcfg32 (s : State) (a : Nat) : Nat := s.rd32 pgDST spTcfg a

/-- Source unit, ComId and CAN identifier of received type t + 1. -/
def tcfgSource (s : State) (t : Nat) : Nat := tcfg16 s (0x18 + t * 0x0C)
def tcfgComId (s : State) (t : Nat) : Nat := tcfg32 s (0x1C + t * 0x0C)
def tcfgCanId (s : State) (t : Nat) : Nat := tcfg32 s (0x20 + t * 0x0C)

/-- Whether a received type is configured. -/
def configured (s : State) (t : Nat) : Bool := s.on DST.CFG_OK && t < 3 && tcfgSource s t != 0

/-- The stream of a type. -/
def State.stream (s : State) (t : Nat) : Stream := mapFind Stream.init t s.dst.streams
def State.setStream (s : State) (t : Nat) (x : Stream) : State :=
  { s with dst := { s.dst with streams := mapPut Stream.init t x s.dst.streams } }

/-- The status bits of page DST that follow from the streams and the networks. -/
def dstShow (s : State) : State :=
  let s := s.setB DST.ANY_UNSYNC (anyBelow 3 (fun t => configured s t && !(s.stream t).sync))
  let s := s.setB DST.ONE_NET (s.on DST.ECN_LOST != s.on DST.CAN_LOST)
  s.setB SAFM.NET_RESTR (s.on DST.NET_RESTR)

/-- Every value of a stream restrictive (R248). -/
def allRestrictive (s : State) (t : Nat) : State :=
  match t with
  | 0 => (s.setB DST.REL_L_TG false).setB DST.REL_R_TG false
  | 1 => s.setB DST.ZS_TG false
  | _ => ((s.set DST.OPEN_EN_TG 0).set DST.INHIBIT_TG 0xFF).set DST.CLOSE_TG 0xFF

/-- How many permissive values of a stream are in force. -/
def inForce (s : State) (t : Nat) : Nat :=
  match t with
  | 0 => s.get DST.REL_L_TG + s.get DST.REL_R_TG
  | 1 => s.get DST.ZS_TG
  | _ => popcount (s.get DST.OPEN_EN_TG) 8 + (8 - popcount (s.get DST.INHIBIT_TG) 8) + (8 - popcount (s.get DST.CLOSE_TG) 8)

/-- The configuration check of step 2 (R239): the mirrors of page DST; a failed check leaves no type configured and every
value restrictive. -/
def tcfgCheck (s : State) : State :=
  let s := s.copyBytes pgDST 2 0 pgDST spTcfg 0 0x80
  let crc := crc32 (s.rdBytes pgDST spTcfg 0 0x7C)
  let ok := crc = tcfg32 s 0x7C
  let s := (s.set DST.TCFG_CRC crc).setB DST.CFG_OK ok
  if !ok then dstShow (allRestrictive s 2)
  else
    let s := (s.set DST.OWN_UNIT (tcfg16 s 2)).set DST.CAN_SEL (tcfg8 s 4)
    let s := (s.set DST.SEQ_WIN (tcfg8 s 0x44)).set DST.AGE_MAX_MS (tcfg8 s 0x45)
    let s := (s.set DST.PERM_HOLD_MS (tcfg8 s 0x46)).set DST.NET_TMO_MS (tcfg8 s 0x47)
    dstShow (if configured s 2 then allRestrictive s 2 else s)

/-- The configuration emptied, in the store and in force (R70, R239): as after a check that fails. -/
def tcfgEmpty (s : State) : State :=
  let s := s.wipeSpace pgDST 2
  let s := [DST.OWN_UNIT, DST.CAN_SEL, DST.SEQ_WIN, DST.AGE_MAX_MS, DST.PERM_HOLD_MS, DST.NET_TMO_MS].foldl
    (fun (s : State) r => s.set r r.rst) s
  tcfgCheck (allRestrictive (allRestrictive s 0) 1)

/-! Accepting a copy (R242 to R245). -/

/-- Fields of a telegram (R236). -/
def telSource (b : List Nat) : Nat := beNum (b.take 2)
def telDest (b : List Nat) : Nat := beNum ((b.drop 2).take 2)
def telType (b : List Nat) : Nat := b.getD 4 0
def telSeq (b : List Nat) : Nat := beNum ((b.drop 8).take 4)
def telTick (b : List Nat) : Nat := beNum ((b.drop 12).take 4)
def telPay (b : List Nat) (i : Nat) : Nat := b.getD (16 + i) 0

/-- LAST_DROP and its stream (R251). -/
def lastDrop (s : State) (code typ : Nat) : State := (s.set DST.LAST_DROP code).set DST.LAST_DROP_TYPE typ

/-- The counter of a check by its LAST_DROP code (R242, R251). -/
def dropReg (code : Nat) : Reg :=
  if code = 1 then DST.CRC_ERR_CNT else if code ≤ 4 then DST.FOREIGN_CNT
  else if code = 6 then DST.JUMP_CNT else if code = 7 then DST.LATE_CNT else DST.STALE_CNT

/-- A copy dropped at a check. -/
def dropCopy (s : State) (code typ : Nat) : State := lastDrop (s.countDrop pgDST (dropReg code)) code typ

/-- The checks that ask nothing of the stream (R242): the type's number, and the code of the check that fails. -/
def firstChecks (s : State) (b : List Nat) : Nat × Option Nat :=
  let typ := if 1 ≤ telType b && telType b ≤ 3 then telType b else 0
  if b.length != 32 then (0, some 2)
  else if crc32 (b.take 28) != beNum (b.drop 28) then (0, some 1)
  else if b.getD 5 0 != 1 || b.getD 6 0 != 0 || b.getD 7 0 != 0 then (typ, some 2)
  else if (telDest b != s.get DST.OWN_UNIT && telDest b != 0xFFFF) || telSource b = s.get DST.OWN_UNIT then
    (typ, some 3)
  else if typ = 0 || !configured s (typ - 1) || tcfgSource s (typ - 1) != telSource b then (typ, some 4)
  else (typ, none)

/-- A difference modulo 2^32, as signed. -/
def diff32 (a b : Nat) : Int := sx 32 ((a + 2 ^ 32 - b % 2 ^ 32) % 2 ^ 32)

/-- The age of a copy in ticks (R244): (a - a_b) - (t - t_b) modulo 2^32, as signed. -/
def copyAge (x : Stream) (t a : Nat) : Int := diff32 (a + x.tb) (x.ab + t)

/-- Whether a copy can complete the open pair: the same sequence on the other network within 24 ms (R247). -/
def completes (s : State) (x : Stream) (can : Bool) (b : List Nat) : Bool :=
  match x.pair with
  | none => false
  | some p => p.isOpen && p.can != can && telSeq p.bytes = telSeq b && s.tick < p.tick + msTicks 24

/-- The checks against the stream (R242 to R244): none where the copy is valid. -/
def streamChecks (s : State) (x : Stream) (can : Bool) (b : List Nat) : Option Nat :=
  let d := (telSeq b + 2 ^ 32 - x.sHi) % 2 ^ 32
  let again := match x.pair with | some p => telSeq p.bytes = telSeq b | none => false
  if !x.sync then
    if again && !completes s x can b then some 7 else none
  else if d = 0 && !completes s x can b then some 7
  else if 2 ^ 31 ≤ d then some 5
  else if s.get DST.SEQ_WIN < d then some 6
  else if diff32 (telTick b) x.tb < 0 || (s.get DST.AGE_MAX_MS * 32768 : Nat) < copyAge x (telTick b) (s.tick % 2 ^ 32) * 1000 then
    some 8
  else none

/-- Restrictive values of a valid copy act at once (R245). -/
def restrict (s : State) (t : Nat) (b : List Nat) : State :=
  match t with
  | 0 =>
    let s := if bitAt (telPay b 0) 0 then s else s.setB DST.REL_L_TG false
    if bitAt (telPay b 0) 1 then s else s.setB DST.REL_R_TG false
  | 1 => if bitAt (telPay b 0) 0 then s else s.setB DST.ZS_TG false
  | _ =>
    let s := s.set DST.OPEN_EN_TG (Nat.land (s.get DST.OPEN_EN_TG) (telPay b 0))
    let s := s.set DST.INHIBIT_TG (Nat.lor (s.get DST.INHIBIT_TG) (telPay b 1))
    s.set DST.CLOSE_TG (Nat.lor (s.get DST.CLOSE_TG) (telPay b 2))

/-- Permissive values of a matched pair (R247). -/
def grant (s : State) (t : Nat) (b : List Nat) : State :=
  match t with
  | 0 =>
    let s := if bitAt (telPay b 0) 0 then s.setB DST.REL_L_TG true else s
    if bitAt (telPay b 0) 1 then s.setB DST.REL_R_TG true else s
  | 1 => if bitAt (telPay b 0) 0 then s.setB DST.ZS_TG true else s
  | _ =>
    let s := s.set DST.OPEN_EN_TG (Nat.lor (s.get DST.OPEN_EN_TG) (telPay b 0))
    let s := s.set DST.INHIBIT_TG (Nat.land (s.get DST.INHIBIT_TG) (telPay b 1))
    s.set DST.CLOSE_TG (Nat.land (s.get DST.CLOSE_TG) (telPay b 2))

/-- The open pair of a stream closed without completion (R247). -/
def closePair (s : State) (t : Nat) : State :=
  let x := s.stream t
  match x.pair with
  | none => s
  | some p =>
    if !p.isOpen then s
    else lastDrop ((s.setStream t { x with pair := some { p with isOpen := false } }).count DST.SINGLE_CNT) 0xA (t + 1)

/-- The baseline after a completed pair (R244): to the earlier copy if its age is 0 or less, else up by its age, at most one
tick per whole second since it last moved. -/
def baseline (x : Stream) (tick a now : Nat) : Stream :=
  let age := copyAge x tick a
  let up := min age.toNat ((now - x.moved) / 32768)
  if age ≤ 0 then { x with tb := tick, ab := a, moved := now }
  else if up = 0 then x
  else { x with ab := (x.ab + up) % 2 ^ 32, moved := now }

/-- A pair completed by its second copy (R247). -/
def pairDone (s : State) (t : Nat) (p : Pair) (b : List Nat) : State :=
  let x := { s.stream t with pair := some { p with isOpen := false } }
  let a := p.tick % 2 ^ 32
  let x := if x.sync then baseline x (telTick p.bytes) a s.tick else x
  if p.bytes.take 28 != b.take 28 then lastDrop ((s.setStream t x).countBy DST.MISMATCH_CNT 2) 9 (t + 1)
  else
    let x := if x.sync then x else { x with sync := true, sHi := telSeq b, tb := telTick b, ab := a, moved := s.tick }
    let s := (s.setStream t x).count DST.PAIR_CNT
    let s := { s with dst := { s.dst with paired := putBit s.dst.paired t true } }
    if s.on DST.NET_RESTR then s else grant s t b

/-- A valid copy (R242, R247, R249). -/
def validCopy (s : State) (t : Nat) (can : Bool) (b : List Nat) : State :=
  let s := s.count DST.RX_OK_CNT
  let s := if can then (s.setB DST.CAN_OK true).setB DST.CAN_LOST false else (s.setB DST.ECN_OK true).setB DST.ECN_LOST false
  let s := restrict s t b
  let x := s.stream t
  match x.pair with
  | some p =>
    if completes s x can b then pairDone s t p b
    else
      let s := closePair s t
      s.setStream t { s.stream t with
        pair := some ⟨b, can, s.tick, true⟩
        sHi := if x.sync then telSeq b else x.sHi }
  | none => s.setStream t { x with
      pair := some ⟨b, can, s.tick, true⟩
      sHi := if x.sync then telSeq b else x.sHi }

/-- Whether the safety processor evaluates telegrams. -/
def telegramsUp (s : State) : Bool := s.on SAFM.SP_RUN && s.domOn 2 && !s.inRefuge

/-- A pair that has stood open for 24 ms is closed before anything else is judged. -/
def closeStale (s : State) (t : Nat) : State :=
  match (s.stream t).pair with
  | none => s
  | some p => if p.isOpen && p.tick + msTicks 24 ≤ s.tick then closePair s t else s

/-- The door status the Refuge monitor answers with (R64): nothing but the Refuge bit. -/
def refugeStatus (s : State) : List Nat := [4, 0] ++ ((doorStatus s).drop 2).take 4 ++ [0, 0, 0, 0, 0, 0]

/-- The telegram of type 0x81 from a unit with a payload (R236). -/
def statusTelegram (s : State) (unit : Nat) (pay : List Nat) : List Nat :=
  let b := beBytes unit 2 ++ [0xFF, 0xFF, 0x81, 1, 0, 0] ++ beBytes s.dst.outSeq 4 ++ beBytes (s.tick % 2 ^ 32) 4 ++ pay
  b ++ beBytes (crc32 b) 4

/-- What the Refuge monitor answers a release telegram with, on the network it came on (R64). It reads the stored configuration:
R239 lets no DOOR_STATUS go out where the block fails its CRC, gives no own unit, or none for that network. -/
def refugeReply (s : State) (can : Bool) : State :=
  let unit := s.rd16 pgDST 2 2
  let id := s.rd32 pgDST 2 (if can then 0x40 else 0x3C)
  if crc32 (s.rdBytes pgDST 2 0 0x7C) != s.rd32 pgDST 2 0x7C || unit = 0 || id = 0 then s
  else
    let s := { s with dst := { s.dst with outSeq := (s.dst.outSeq + 1) % 2 ^ 32 } }
    let b := statusTelegram s unit (refugeStatus s)
    if can then s.sendOn (1 + s.rd8 pgDST 2 4 % 4) id b else s.sendEcn 6 udpPD none id b

/-- Whether a frame is a release telegram by its form (R236, R237). -/
def isRelease (b : List Nat) : Bool := b.length = 32 && crc32 (b.take 28) = beNum (b.drop 28) && telType b = 1 && b.getD 5 0 = 1

/-- A copy arrives on the safe path (R241, R242). A valid RELEASE with a release in it asks for Active (R51). -/
def copyRx (s : State) (can : Bool) (b : List Nat) : State :=
  if s.inRefuge then (if isRelease b then refugeReply s can else s)
  else if !telegramsUp s then s
  else
    match firstChecks s b with
    | (typ, some code) => dropCopy s code typ
    | (typ, none) =>
      let t := typ - 1
      let s := closeStale s t
      match streamChecks s (s.stream t) can b with
      | some code => dropCopy s code typ
      | none =>
        let s := safetyEval (dstShow (validCopy s t can b))
        if typ = 1 && telPay b 0 % 4 != 0 then enterActive s else parkSync s

/-- SAFE_COPY_RX. -/
def execSafeCopyRx (can : Bool) (bytes : List Nat) (s : State) : Out State := .next (copyRx s can bytes)

/-- PAIR_TIMEOUT (R247): 24 ms after the first copy. -/
def execPairTimeout (t : Fin 3) (s : State) : Out State := .next (if telegramsUp s then closePair s t else s)

/-- PERMISSIVE_LAPSE (R248): PERM_HOLD_MS after the latest matched pair of the stream. -/
def execPermissiveLapse (t : Fin 3) (s : State) : Out State :=
  if !telegramsUp s || !configured s t || inForce s t = 0 then .next s
  else .next (parkSync (safetyEval (allRestrictive (s.countBy DST.LAPSE_CNT (inForce s t)) t)))

/-- STREAM_UNSYNC (R242): 1000 ms without an accepted copy. -/
def execStreamUnsync (t : Fin 3) (s : State) : Out State :=
  .next (if telegramsUp s then dstShow (s.setStream t { s.stream t with sync := false }) else s)

/-- Whether any type is configured. -/
def anyConfigured (s : State) : Bool := anyBelow 3 (configured s)

/-- NETWORK_LOST (R249): NET_TMO_MS without a valid copy on the network; with both lost, every value is restrictive while
any type is configured. -/
def execNetworkLost (can : Bool) (s : State) : Out State :=
  let lost := if can then DST.CAN_LOST else DST.ECN_LOST
  if !telegramsUp s || s.on lost then .next s
  else
    let s := ((s.setB lost true).setB (if can then DST.CAN_OK else DST.ECN_OK) false).count DST.NET_LOSS_CNT
    let s := { s with dst := { s.dst with paired := 0 } }
    if s.on DST.ECN_LOST && s.on DST.CAN_LOST && anyConfigured s then
      let s := (List.range 3).foldl (fun s t => if configured s t then allRestrictive s t else s) (s.setB DST.NET_RESTR true)
      .next (safetyEval (dstShow s))
    else .next (dstShow s)

/-- NET_RESTR_END (R249): matched pairs on every configured stream, kept up for 1 s. -/
def execNetRestrEnd (s : State) : Out State :=
  if !telegramsUp s || !s.on DST.NET_RESTR || s.on DST.ECN_LOST || s.on DST.CAN_LOST ||
     anyBelow 3 (fun t => configured s t && !bitAt s.dst.paired t) then .next s
  else .next (safetyEval (dstShow (s.setB DST.NET_RESTR false)))

/-! The module's own telegram (R238 to R240, R296). -/

/-- Whether the CAN controller of safe telegrams can take a copy, and in which entry (R296). -/
def safeEntry (s : State) : Option Nat :=
  let n := s.get DST.CAN_SEL
  if !s.on (CAN.SAFE_CH n) || !canOn s n || s.get (CAN.ESTATE n) = 2 then none
  else if !s.bit (CAN.TX_PEND n) 30 then some 30
  else if !s.bit (CAN.TX_PEND n) 31 then some 31 else none

/-- The CAN copy into a reserved entry: its result released, its data in one of the last two blocks of the TX area. A copy the
controller does not take is lost (R240). -/
def canCopy (s : State) (i : Nat) (b : List Nat) : State :=
  let n := s.get DST.CAN_SEL
  let s := if s.bit (CAN.TX_DONE n) i then (txRelease s n i true).1 else s
  let id := tcfg32 s 0x40
  let a := 0x1800 + s.get (CAN.TX_AREA_BLK n) * 64 - (32 - i) * 64
  let s := s.wrBytes (pgCAN (n % 4)) 1 a b
  let s := ramWr s n (i * 0x20) (if bitAt id 31 then putBit id 30 false else putBit id 30 true)
  let s := ramWr s n (i * 0x20 + 4) (2 ^ 31 + 32 * 2 ^ 16 + a)
  let (s, refused) := txPush s n i true
  if refused then s.count DST.TX_LOST_CNT else s

/-- DOOR_STATUS_SEND (R238 to R240): one telegram every 16 ms, a copy on each network configured for it. -/
def execDoorStatusSend (s : State) : Out State :=
  let com := tcfg32 s 0x3C
  let id := tcfg32 s 0x40
  if !telegramsUp s || !s.on DST.CFG_OK || s.get DST.OWN_UNIT = 0 || (com = 0 && id = 0) then .next s
  else
    let s := { (s.count DST.TX_CNT) with dst := { s.dst with outSeq := (s.dst.outSeq + 1) % 2 ^ 32 } }
    let b := statusTelegram s (s.get DST.OWN_UNIT) (doorStatus s)
    let s := if com = 0 then s else if ecnUp s then s.sendEcn 6 udpPD none com b else s.count DST.TX_LOST_CNT
    .next (if id = 0 then s else match safeEntry s with
      | some i => canCopy s i b
      | none => s.count DST.TX_LOST_CNT)

/-- SAFE_CAN_CONFIGURE (R296): the safety processor sets up the controller and locks what it wrote. -/
def execSafeCanConfigure (s : State) : Out State :=
  let n := s.get DST.CAN_SEL
  if !telegramsUp s || !s.on DST.CFG_OK || !s.domOn 8 || !s.hasCan n || s.on (CAN.SAFE_CH n) then .next s
  else
    let f := tcfg8 s 5
    let nb := tcfg32 s 0x08
    let db := tcfg32 s 0x0C
    let s := (((s.set (CAN.MODE n) 0).setB (CAN.FD_EN n) true).setB (CAN.XL_EN n) (bitAt f 0)).setB (CAN.PEX n) (bitAt f 1)
    let s := ((s.setB (CAN.AUTO_REC n) (bitAt f 2)).setB (CAN.TDC_EN n) (bitAt f 3)).setB (CAN.TERM n) (bitAt f 4)
    let s := ((s.set (CAN.N_BRP n) (bitsOf nb (CAN.N_BRP n).lo (CAN.N_BRP n).w)).set (CAN.N_TSEG1 n)
      (bitsOf nb (CAN.N_TSEG1 n).lo (CAN.N_TSEG1 n).w)).set (CAN.N_TSEG2 n) (bitsOf nb (CAN.N_TSEG2 n).lo (CAN.N_TSEG2 n).w)
    let s := s.set (CAN.N_SJW n) (bitsOf nb (CAN.N_SJW n).lo (CAN.N_SJW n).w)
    let s := ((s.set (CAN.D_BRP n) (bitsOf db (CAN.D_BRP n).lo (CAN.D_BRP n).w)).set (CAN.D_TSEG1 n)
      (bitsOf db (CAN.D_TSEG1 n).lo (CAN.D_TSEG1 n).w)).set (CAN.D_TSEG2 n) (bitsOf db (CAN.D_TSEG2 n).lo (CAN.D_TSEG2 n).w)
    let s := (s.set (CAN.D_SJW n) (bitsOf db (CAN.D_SJW n).lo (CAN.D_SJW n).w)).set (CAN.X_TIMING n) (tcfg32 s 0x10)
    let s := (xlFix (fdFix (nominalFix s n).1 n).1 n).1
    let s := (s.set (CAN.TDC_OFS_D n) (tcfg8 s 0x14)).set (CAN.TDC_OFS_X n) (tcfg8 s 0x15)
    let s := s.set (CAN.TX_AREA_BLK n) 0x80
    let s := ((s.setB (HDR.LP_REQ (pgCAN n)) false).setB (HDR.EN (pgCAN n)) true).setB (CAN.SAFE_CH n) true
    .next (versionsAgain (canShow (s.setB (HDR.SAFE_LOCK (pgCAN n)) true) n))

/-! Frames that may carry a copy (R241). -/

/-- A CAN identifier of descriptor word 0 without its format bits, FDF and XLF (R286). -/
def bareId (w : Nat) : Nat := w % 2 ^ 30

/-- Whether an identifier of a network is a configured one: of a received type or of DOOR_STATUS. -/
def carriesCopy (s : State) (can : Bool) (id : Nat) : Bool :=
  let same := fun w => if can then bareId w = bareId id else w = id
  let own := tcfg32 s (if can then 0x40 else 0x3C)
  (s.on DST.CFG_OK && own != 0 && same own) ||
  anyBelow 3 (fun t => configured s t && same (if can then tcfgCanId s t else tcfgComId s t))

/-- CAN_FRAME_RX (R241, R284 to R290): the host's copy as the filters say, the safe path by the identifier alone. -/
def execCanFrameRx (n : Fin 4) (f : CanFrame) (us : Nat) (s : State) : Out State :=
  let (t, ok) := canReceive s n f us
  let id := (frameWords f 0).getD 0 0
  .next (if ok && s.on (CAN.SAFE_CH n) && s.get DST.CAN_SEL = n && (carriesCopy s true id || s.inRefuge) then copyRx t true f.data else t)

/-- ECN_FRAME_RX (R241, R302, R305). -/
def execEcnFrameRx (port : Fin 2) (f : EcnFrame) (buf : Word) (full : Bool) (s : State) : Out State :=
  let up := ecnUp s && s.on (linkReg port) && f.fcsOk
  let (t, _) := ecnReceive s port f buf.toNat full
  .next (match f.pd with
    | some (com, data) => if up && (carriesCopy s false com || s.inRefuge) then copyRx t false data else t
    | none => t)

/-- A word of the stream table (R251). -/
def streamWord (s : State) (t w : Nat) : Nat :=
  let x := s.stream t
  if t = 3 then
    match w with
    | 0 => s.get DST.OWN_UNIT * 2 ^ 16 + 0x81
    | 1 => tcfg32 s 0x3C
    | 2 => tcfg32 s 0x40
    | 3 => s.dst.outSeq
    | 6 => leNum ((doorStatus s).take 4)
    | _ => 0
  else match w with
    | 0 => (if configured s t then tcfgSource s t else 0) * 2 ^ 16 + t + 1
    | 1 => tcfgComId s t
    | 2 => tcfgCanId s t
    | 3 => x.sHi
    | 4 => x.tb
    | 5 => x.ab
    | 6 => match t with
      | 0 => s.get DST.REL_L_TG + 2 * s.get DST.REL_R_TG
      | 1 => s.get DST.ZS_TG
      | _ => s.get DST.OPEN_EN_TG + 2 ^ 8 * s.get DST.INHIBIT_TG + 2 ^ 16 * s.get DST.CLOSE_TG
    | _ => 0

end Sys2Proof.Machine
end

