-- ==== Sys2Proof/Machine/SafetyCh.lean ====
section
/-! DEFINITION. What the two safety channels do as their inputs, their mutual checks and the reset change (R138, R212 to
R219, R223 to R230), the Traverse update, clock failures and the gate-drive readback at entry to Active (R50, R51). -/

namespace Sys2Proof.Machine

/-- Whether a channel reads its inputs: its logic runs and is powered. -/
def chanReads (s : State) (c : Channel) : Bool :=
  match c with | .saf => s.on SAFM.SP_RUN && s.domOn 2 | .col => s.on COLM.COL_OK && s.domOn 1

/-- The page of a channel. -/
def chanPage (c : Channel) : Nat := match c with | .saf => pgSAFM | .col => pgCOLM

/-- A latch bit sets (R228): the first setting is recorded. -/
def latchSet (s : State) (c : Channel) (b : Nat) : State :=
  if latched s c b then s
  else
    let s := setLatch s c b
    s.event (chanPage c) 0 0x0031 (s.get (latchReg c))

/-- A discrepancy or a faulty button counted by its channel (R234, R235). -/
def discCount (s : State) (c : Channel) : State :=
  match c with | .saf => s.countFault pgSAFM SAFM.DISC_SAF_CNT | .col => s.countFault pgCOLM COLM.DISC_COL_CNT

/-- Everything that follows from a change of a channel's readings or latches. -/
def safetyReact (s : State) : State := parkSync (bgWatch (visionEval (speedGuard (safetyEval s))))

/-! Two-hand control (R219). -/

/-- Whether a button of a channel shows the pattern of an actuated or of a released one. A faulty one counts as released. -/
def thPattern (s : State) (c : Channel) (b act : Bool) : Bool :=
  let k := if b then 10 else 8
  (lvl s c k = act) && (lvl s c (k + 1) = !act)
def thActuated (s : State) (c : Channel) (b : Bool) : Bool := thPattern s c b true && !bitAt (s.chan c).faulty (bit1 b)
def thReleased (s : State) (c : Channel) (b : Bool) : Bool := thPattern s c b false || bitAt (s.chan c).faulty (bit1 b)

/-- The evaluation of a channel: a faulty mark ends with a valid pattern; a report begins when the second button follows the
first in its window, and ends when either is no longer actuated. -/
def twoHand (s : State) (c : Channel) : State :=
  let x := s.chan c
  let mend := fun (f : Nat) (b : Bool) =>
    if thPattern s c b true || thPattern s c b false then putBit f (bit1 b) false else f
  let s := s.setChan c { x with faulty := mend (mend x.faulty false) true }
  let x := s.chan c
  if !bitAt s.saf.sealA 10 then s.setChan c { x with
    report := false
    ready := true
    first := false }
  else
    let a := thActuated s c false
    let b := thActuated s c true
    let rel := thReleased s c false && thReleased s c true
    if x.report then (if a && b then s else s.setChan c { x with
      report := false
      ready := rel
      first := false })
    else if a && b && x.ready then s.setChan c { x with
      report := true
      ready := false
      first := false }
    else s.setChan c { x with
      ready := x.ready || rel
      first := (x.ready || rel) && (a || b) }

/-! The reversal watch (R223). -/

/-- Whether Column reads EDGE_L, EDGE_R or the light curtain of a doorway restrictive: bits 0 to 2. -/
def obstacleMask (s : State) (n : Nat) : Nat :=
  bit1 (lvl s .col (80 + n) || lvl s .col (112 + n)) + 2 * bit1 (lvl s .col (88 + n) || lvl s .col (120 + n)) +
  4 * bit1 (lcBroken s .col n)

/-- An edge or light curtain that turns restrictive during closing rotation arms the watch. -/
def watchArm (s0 s : State) : State :=
  eachDw (fun s n =>
    let was := obstacleMask s0 n
    let now := obstacleMask s n
    let fresh := fun b => bitAt now b && !bitAt was b
    if !bitAt s.saf.watch n && rotClosing s n && chanUp s .col && (fresh 0 || fresh 1 || (fresh 2 && !s.saf.col.report))
    then { s with saf := { s.saf with watch := putBit s.saf.watch n true } } else s) s

/-! Accepted readings (R216, R218). -/

/-- The mask of accepted levels of a channel with one input changed. -/
def accept (lv : Nat) (i : Input) (l : Level) : Nat :=
  let k := inputIdx i
  let lv := putBit lv k (match l with | .on => true | .off => false | .fault => restrictive k && (edgeFaultIdx i).isNone)
  match edgeFaultIdx i with
  | none => lv
  | some j => putBit lv j (l = .fault)

/-- A release edge puts the module into Active; the other channel's acceptance of it makes no second request (R51). -/
def releaseEdge (s : State) (c : Channel) (i : Input) (before : Bool) : State :=
  let side : Option Nat := match i with | .relL => some 0 | .relR => some 1 | _ => none
  match side with
  | none => s
  | some b =>
    let now := lvl s c (inputIdx i)
    if now && !before then
      if bitAt s.saf.relSeen b then s
      else enterActive { s with saf := { s.saf with relSeen := putBit s.saf.relSeen b true } }
    else if !now then { s with saf := { s.saf with relSeen := putBit s.saf.relSeen b false } }
    else s

/-- A time between two ticks in whole milliseconds. -/
def msBetween (t0 t1 : Nat) : Nat := (t1 - t0) * 1000 / 32768

/-- Whether an EDM input has followed the latest change of its drive in a channel's reading, and the tick of that change. -/
def edmFollowed (s : State) (c : Channel) (b : Bool) : Bool := if b then (s.chan c).folB else (s.chan c).folA
def coilTick (s : State) (b : Bool) : Nat := if b then s.saf.coilB else s.saf.coilA

/-- A channel's reading of an EDM input changes, or is its first in this start (R226): its time is taken, and the first one
that follows a change of drive is measured, which Column shows. -/
def edmChanged (s : State) (c : Channel) (b : Bool) : State :=
  let follows := edmLvl s c b != edmDriven s b
  let s := if c = Channel.col && follows && !edmFollowed s c b && loopVar s < 2 then
      s.setSat (if b then COLM.EDM_B_MS else COLM.EDM_A_MS) (msBetween (coilTick s b) s.tick)
    else s
  let s := if lvl s .saf 6 = lvl s .saf 7 && lvl s .col 6 = lvl s .col 7 then { s with saf := { s.saf with edmDisc := false } } else s
  let x := s.chan c
  s.setChan c (if b then { x with
      edmB := s.tick
      folB := x.folB || follows }
    else { x with
      edmA := s.tick
      folA := x.folA || follows })

/-- Whether an ESTOP input reads open in a channel: accepted so, or held so by INPUT_DISC. The level from which its filter
begins is no reading (R216). -/
def estopOpen (s : State) (c : Channel) (k : Nat) : Bool :=
  !lvl s c k && (bitAt (s.chan c).heard k || (bitAt s.saf.disc k && latched s c 6))

/-- An e-stop that reads restrictive latches (R218); the safety processor counts the operation. -/
def estopLatch (s0 s : State) (c : Channel) : State :=
  if !(estopOpen s c 0 || estopOpen s c 1) || !chanUp s c then s
  else
    let s := if c = Channel.saf && !(estopOpen s0 c 0 || estopOpen s0 c 1) then s.count SAFM.ESTOP_CNT else s
    latchSet s c 0

/-- Whether both channels read the DEPOT key made. -/
def keyMade (s : State) : Bool := lvl s .saf 13 && lvl s .col 13

/-- Releasing the DEPOT key, made in `s0`, ends a field test (R373). -/
def testGuard (s0 s : State) : State := if s.on TEST.TEST_RUN && keyMade s0 && !keyMade s then testAbort s else s

/-- A channel accepts a level. -/
def inputAccepted (s0 : State) (c : Channel) (i : Input) (l : Level) : State :=
  if !chanReads s0 c || !s0.inputHere i then s0
  else
    let x := s0.chan c
    let s := s0.setChan c { x with
      lv := accept x.lv i l
      heard := putBit x.heard (inputIdx i) true
      pressed := x.pressed || (i = .reset && l = .on) }
    let fresh := !bitAt x.heard (inputIdx i) || lvl s c (inputIdx i) != lvl s0 c (inputIdx i)
    let s := if i = .edmA && fresh then edmChanged s c false else if i = .edmB && fresh then edmChanged s c true else s
    let s := estopLatch s0 s c
    let s := twoHand s c
    let s := if c = Channel.col then watchArm s0 s else s
    safetyReact (testGuard s0 (releaseEdge s c i (lvl s0 c (inputIdx i))))

/-- INPUT_ACCEPTED. -/
def execInputAccepted (ch : Channel) (i : Input) (lv : Level) (s : State) : Out State := .next (inputAccepted s ch i lv)

/-- CHANNEL_EXCHANGE (R216): every millisecond both channels evaluate what depends on the other's readings, allow lines and
latches, and on times that have run. -/
def execChannelExchange (s : State) : Out State :=
  .next (if chanReads s .saf && chanReads s .col then safetyReact s else s)

/-- The two readings of an input disagree (R216). -/
def inputDiffers (s : State) (i : Input) : Bool :=
  s.inputHere i && (bitAt s.saf.saf.lv (inputIdx i) != bitAt s.saf.col.lv (inputIdx i) ||
  (match edgeFaultIdx i with | some j => bitAt s.saf.saf.lv j != bitAt s.saf.col.lv j | none => false))

/-- INPUT_DISC_LATCH (R216): both channels latch and use the restrictive reading; one that a reset has cleared latches again at a
new disagreement. -/
def execInputDiscLatch (i : Input) (s : State) : Out State :=
  let held := fun (c : Channel) => bitAt s.saf.disc (inputIdx i) && latched s c 6
  if !(chanReads s .saf && chanReads s .col) || !inputDiffers s i || (held .saf && held .col) then .next s
  else
    let t := { s with saf := { s.saf with disc := putBit s.saf.disc (inputIdx i) true } }
    let t := if held .saf then t else discCount t .saf
    let t := if held .col then t else discCount t .col
    let t := latchSet (latchSet t .saf 6) .col 6
    let t := estopLatch s (estopLatch s t .saf) .col
    .next (safetyReact (testGuard s (watchArm s (twoHand (twoHand t .saf) .col))))

/-- Whether the members of a pair disagree in a channel, and its bit in the latch (R217, R218, R225). Only pairs that the member
has (R390), light curtains fitted and variant 1 count. -/
def pairBad (s : State) (c : Channel) (p : Pairing) : Bool :=
  match p with
  | .estop => lvl s c 0 != lvl s c 1
  | .zs => lvl s c 2 != lvl s c 3
  | .edm => loopVar s = 1 && lvl s c 6 != lvl s c 7
  | .lc n => s.hasDw n && bitAt s.saf.sealA 11 && lvl s c (96 + n) != lvl s c (104 + n)
  | .egr n => s.hasDw n && lvl s c (56 + n) = lvl s c (64 + n)
def pairBit (p : Pairing) : Nat := match p with | .estop => 1 | .zs => 2 | .edm => 3 | .lc _ => 4 | .egr _ => 5

/-- An EDM fault latches in both channels (R226); a fault that is latched already is counted no more. -/
def edmLatch (s : State) : State :=
  let s := if latched s .saf 3 && latched s .col 3 then s else s.countFault pgCOLM COLM.EDM_FAULT_CNT
  latchSet (latchSet s .saf 3) .col 3

/-- PAIR_DISCREPANCY_LATCH (R217): an EDM disagreement latches in both channels (R226); on page COLM it is one fault, whichever
channel finds it first, whether it counts in EDM_FAULT_CNT, in DISC_COL_CNT or in both (R391). -/
def execPairDiscrepancyLatch (ch : Channel) (p : Pairing) (s : State) : Out State :=
  if !chanUp s ch || !pairBad s ch p then .next s
  else
    let was := latched s .saf 3 && latched s .col 3
    let s := if p = .edm && ch = .col && (!was || s.saf.edmDisc) then s.count COLM.DISC_COL_CNT else discCount s ch
    let s := match p with
      | .edm => edmLatch { s with saf := { s.saf with edmDisc := s.saf.edmDisc || !was || ch = .col } }
      | .lc n => latchSet (if ch = .saf then s.setBit SAFM.LC_DISC_M n true else s) ch 4
      | .egr n => latchSet (s.setChan ch { s.chan ch with egrBad := putBit (s.chan ch).egrBad n true }) ch 5
      | _ => latchSet s ch (pairBit p)
    .next (safetyReact s)

/-- TWO_HAND_BUTTON_FAULT (R219). -/
def execTwoHandButtonFault (ch : Channel) (b : Bool) (s : State) : Out State :=
  let x := s.chan ch
  if !chanReads s ch || !bitAt s.saf.sealA 10 || thPattern s ch b true || thPattern s ch b false || bitAt x.faulty (bit1 b) then .next s
  else
    let s := discCount (s.setChan ch { x with faulty := putBit x.faulty (bit1 b) true }) ch
    .next (safetyReact (twoHand s ch))

/-- TWO_HAND_WINDOW_EXPIRY (R219): both buttons must read released before a new start. -/
def execTwoHandWindowExpiry (ch : Channel) (s : State) : Out State :=
  let x := s.chan ch
  .next (if !x.first || x.report then s else s.setChan ch { x with
    first := false
    ready := false })

/-- HEARTBEAT_LOST (R212, R229): Column shows the loss of the safety processor's in Refuge as well (R235). -/
def execHeartbeatLost (lost : Channel) (s : State) : Out State :=
  let seen := !s.inRefuge && chanReads s .saf && chanReads s .col
  match lost with
  | .col => .next (if seen then enterRefuge { s with saf := { s.saf with colLost := true } } 1 0x14 0 else s)
  | .saf =>
    let t := if chanReads s .col then s.setB COLM.SP_HB_OK false else s
    .next (if seen then enterRefuge { t with saf := { t.saf with spLost := true } } 2 0x27 0 else t)

/-- REVERSAL_WATCH_FAIL (R223). -/
def execReversalWatchFail (n : Fin 8) (s : State) : Out State :=
  if !bitAt s.saf.watch n || s.on (AX.DIR_OPEN n) then .next s
  else
    let s := { s with saf := { s.saf with watch := putBit s.saf.watch n false } }
    let s := (s.setBit COLM.RW_MASK n true).countFault pgCOLM COLM.RW_TRIP_CNT
    .next (safetyReact (latchSet s .col 7))

/-- GUIDED_CONTACT_FAULT (R224): the guided contact reads against its coil, which R211 releases, and stays so. -/
def execGuidedContactFault (b : Bool) (s : State) : Out State :=
  .next (if chanReads s .saf && chanReads s .col then
    let on := coilNow s (if b then .col else .saf)
    let s := s.setB (if b then COLM.ADCL_B_RB else SAFM.ADCL_A_RB) (!on)
    enterRefuge { s with saf := { s.saf with
      stuck := putBit s.saf.stuck (bit1 b) true
      stuckLv := putBit s.saf.stuckLv (bit1 b) (!on) } } 3 0x33 (bit1 b)
    else s)

/-- The EDM time of R226 in ticks. -/
def edmTicks (s : State) : Nat := msTicks (10 * param s 7)

/-- Whether the check of an EDM input fails in a channel's own reading (R226). Against the drive of its contactor: beyond EDM_T
while it has not followed a change of it, for 20 ms once it has. Before closing: everything else asks the channel to close a
contact whose precondition this input does not meet. -/
def edmWrong (s : State) (c : Channel) (b : Bool) : Bool :=
  let k := if b then 7 else 6
  let late := if edmFollowed s c b then edmAt s c b + msTicks 20 ≤ s.tick else coilTick s b + edmTicks s < s.tick
  let closing := coilAsked s c && !coilNow s c && (loopVar s = 1 || b = decide (c = Channel.col))
  loopVar s < 2 && bitAt (s.chan c).heard k &&
  ((edmLvl s c b = edmDriven s b && late) || (closing && !edmReady s c b))

/-- EDM_CHECK_FAIL (R226): a check that fails on either channel's own reading latches in both. -/
def execEdmCheckFail (ch : Channel) (b : Bool) (s : State) : Out State :=
  if !chanUp s ch || !edmWrong s ch b then .next s
  else .next (safetyReact (edmLatch s))

/-! The reset (R227, R228). -/

/-- Whether the cause of a latch bit has ended in a channel's reading (R228). DEDUCED (log 128): RESET itself is no input whose
readings must agree, since the channels see the release that makes the reset one after the other. -/
def causeEnded (s : State) (c : Channel) (b : Nat) : Bool :=
  match b with
  | 0 => estopMade s c
  | 1 => lvl s c 0 = lvl s c 1
  | 2 => lvl s c 2 = lvl s c 3
  | 3 => 2 ≤ loopVar s || (!s.on SAFM.ADCL_A_ON && !s.on COLM.ADCL_B_ON && lvl s c 6 && lvl s c 7)
  | 4 => !bitAt s.saf.sealA 11 || allBelow 8 (fun n => !s.hasDw n || lvl s c (96 + n) = lvl s c (104 + n))
  | 5 => allBelow 8 (fun n => !s.hasDw n || lvl s c (56 + n) != lvl s c (64 + n))
  | 6 => allBelow 144 (fun k => k = 12 || (96 ≤ k && k < 112 && !s.hasDw (k % 8)) || bitAt s.saf.saf.lv k = bitAt s.saf.col.lv k)
  | _ => true

/-- A valid reset clears every bit whose cause has ended. -/
def resetLatch (s : State) (c : Channel) : State :=
  let s0 := s
  let s := (List.range 8).foldl (fun (s : State) b => if causeEnded s0 c b then s.setBit (latchReg c) b false else s) s
  let s := s.setChan c { s.chan c with
    egrBad := maskOf (fun n => bitAt (s0.chan c).egrBad n && lvl s0 c (56 + n) = lvl s0 c (64 + n)) 8 }
  let s := match c with
    | .saf => s.set SAFM.LC_DISC_M (maskOf (fun n => s0.bit SAFM.LC_DISC_M n && lvl s0 c (96 + n) != lvl s0 c (104 + n)) 8)
    | .col => s.set COLM.RW_MASK 0
  if latched s .saf 6 || latched s .col 6 then s else { s with saf := { s.saf with disc := 0 } }

/-- RESET_RELEASE (R227): Column counts. -/
def execResetRelease (ch : Channel) (inactiveMs pressMs : Nat) (s : State) : Out State :=
  let x := s.chan ch
  if !chanReads s ch || !x.pressed then .next s
  else
    let s := s.setChan ch { x with
      pressed := false
      lv := putBit x.lv 12 false }
    let s := if ch = Channel.col then s.setB COLM.RESET_STUCK false else s
    if 3000 < pressMs then .next (safetyReact s)
    else if inactiveMs < 200 || pressMs < 50 then .next (safetyReact (if ch = Channel.col then s.count COLM.RESET_REJ_CNT else s))
    else .next (safetyReact (resetLatch (if ch = Channel.col then s.count COLM.RESET_OK_CNT else s) ch))

/-- RESET_STUCK (R227). -/
def execResetStuck (ch : Channel) (s : State) : Out State :=
  .next (if ch = .col && s.saf.col.pressed && chanReads s .col && !s.on COLM.RESET_STUCK
    then (s.setB COLM.RESET_STUCK true).count COLM.RESET_STUCK_CNT else s)

/-! Self-checks, mirrors and seal switches (R138, R214, R229, R230). -/

/-- SP_PERIODIC_TEST_FAIL (R229). -/
def execSpPeriodicTestFail (sram : Bool) (detail : Fin 65536) (s : State) : Out State :=
  .next (if s.on SAFM.SP_RUN then enterRefuge s 2 (if sram then 0x22 else 0x21) detail else s)

/-- COLUMN_CHECK_FAIL (R229). -/
def execColumnCheckFail (gates : Bool) (detail : Fin 65536) (s : State) : Out State :=
  .next (if s.on COLM.COL_OK && !s.inRefuge then enterRefuge (s.setB COLM.COL_OK false) 1 (if gates then 0x13 else 0x11) detail else s)

/-- A 16-bit field of the safety parameter block. -/
def param16 (s : State) (a : Nat) : Nat := param s a + 256 * param s (a + 1)

/-- The mirrors of a doorway's values (R138, R197): on the pages of both its axes, and the supervisor's reading of REV_MM. -/
def doorMirrors (s : State) (n : Nat) : List (Reg × Nat) :=
  let p := fun k => param16 s (0x10 + n * 0x0C + k)
  let axis := fun a => [(AX.FLIM_ABS a, p 0), (AX.E_LIM a, p 2), (AX.REV_MM a, p 4), (AX.SQZ_FABS a, p 6), (AX.SQZ_VMAX a, p 8)]
  axis n ++ (if s.hasAx (8 + n) then axis (8 + n) else []) ++ [(CYCD.CYC_REV_MM n, p 4)]

/-- How many mirrors of page SAFM show another value than the safety processor holds (R230, R234): the vote over their copies
is wrong, and the safety processor has not written them since. -/
def safmDiffer (s : State) : Nat := (s.saf.wrong.filter (wrongNow s)).length

/-- Every mirror that does not hold its value is written; the number of those that did not. -/
def mirrorsWrite (s : State) : State × Nat :=
  ((List.range 8).filter s.hasDw).foldl (fun (x : State × Nat) n =>
    (doorMirrors s n).foldl (fun (x : State × Nat) m => if x.1.get m.1 = m.2 then x else (x.1.set m.1 m.2, x.2 + 1)) x) (s, 0)

/-- MIRROR_CHECK (R230). -/
def execMirrorCheck (s : State) : Out State :=
  if !chanUp s .saf then .next s
  else
    let (t, k) := mirrorsWrite s
    let k := k + safmDiffer s
    let t := { t with saf := { t.saf with wrong := [] } }
    .next (if k = 0 then t
      else safetyReact (eachAx axModels ((dstShow t).countBy SAFM.MIRROR_FIX_CNT k |>.countBy (HDR.PG_FAULT_CNT pgSAFM) k)))

/-- TEST_DUE_SET (R230). -/
def execTestDueSet (s : State) : Out State := .next (if s.on COLM.COL_OK then s.setB COLM.TEST_DUE true else s)

/-- Switches whose poles disagree, and switches that both poles read unlike the value captured in step 1, as masks of 32. -/
def polesDiffer (s : State) : Nat :=
  Nat.xor (s.get SEAL.A_SAF) (s.get SEAL.A_COL) + 65536 * Nat.xor (s.get SEAL.B_SAF) (s.get SEAL.B_COL)
def polesChanged (s : State) : Nat :=
  maskOf (fun k => let b := if k < 16 then (s.bit SEAL.A_COL k, bitAt s.saf.sealA k) else (s.bit SEAL.B_COL (k - 16), bitAt s.saf.sealB (k - 16))
    b.1 != b.2 && !bitAt (polesDiffer s) k) 32

/-- Whether the seal switches are compared (R214): both channels run and the module is not Parked. -/
def sealCompared (s : State) : Bool := chanReads s .saf && chanReads s .col && s.pwr.phase != .parked

/-- The live poles of a channel on page SEAL (R233). -/
def polesShow (s : State) (c : Channel) : State :=
  match c with
  | .col => (s.set SEAL.A_COL s.saf.poleA).set SEAL.B_COL s.saf.poleB
  | .saf => (s.set SEAL.A_SAF s.saf.spoleA).set SEAL.B_SAF s.saf.spoleB

/-- SEAL_SAMPLE (R214): each channel's live poles show (R233); they are compared where R214 says so. -/
def execSealSample (aSaf aCol bSaf bCol : Fin 65536) (s : State) : Out State :=
  let s := { s with saf := { s.saf with
    poleA := aCol
    poleB := bCol
    spoleA := aSaf
    spoleB := bSaf } }
  let was := polesDiffer s
  let s := if chanReads s .col then polesShow s .col else s
  let s := if chanReads s .saf then polesShow s .saf else s
  if !sealCompared s then .next s
  else
    let s := s.countBy SEAL.POLE_DIS_CNT (popcount (Nat.land (polesDiffer s) (Nat.xor was 0xFFFFFFFF)) 32)
    .next ((s.setB SEAL.POLE_DIS (polesDiffer s != 0)).setB SEAL.CHANGED (polesChanged s != 0))

/-- SEAL_POLE_DISAGREE (R214). -/
def execSealPoleDisagree (k : Fin 32) (s : State) : Out State :=
  .next (if sealCompared s && bitAt (polesDiffer s) k then enterRefuge s 2 0x24 (k + 1) else s)

/-- SEAL_CHANGE (R214). -/
def execSealChange (k : Fin 32) (s : State) : Out State :=
  .next (if sealCompared s && bitAt (polesChanged s) k then enterRefuge s 2 0x26 (k + 1) else s)

/-! Traverse, clocks and readback. -/

/-- TRAVERSE_UPDATE (R93): what it changes reaches the safety channels and the vision before the next one. -/
def execTraverseUpdate (samples : List AxSample) (demand : Nat) (s : State) : Out State :=
  .next (if !busUp s then s else burstWatch (bgWatch (eachDw shotsSeen (safetyEval (traverseUpdate s samples demand)))))

/-- CLOCK_FAILURE (R50, R229): the onset counts; a failed clock of the safety channels is a Refuge, in which the
Refuge monitor reports (R64) and the safety processor's heartbeat has gone (R235); any other stops its block. -/
def execClockFailure (d : Fin 14) (bad : Bool) (err : Fin 65536) (s : State) : Out State :=
  if !bitAt s.clkOn d || s.bit CLK.CLK_FAIL d = bad then .next s
  else
    let s := s.setBit CLK.CLK_FAIL d bad
    if !bad then .next (evalAll (if d.val = 6 then eachHead portSync s else s))
    else
      let s := s.countFault pgCLK CLK.CLK_FAIL_CNT
      if d.val = 1 then .next (if s.inRefuge then s else enterRefuge (s.setB COLM.COL_OK false) 1 0x12 err)
      else if d.val = 2 then .next (refugeStep2 (s.setB COLM.SP_HB_OK false) 0x28 0)
      else .next (evalAll (if d.val = 11 then barrierLoss s else s))

/-- ACTIVE_GATE_READBACK_DONE (R51, R229): a pass is also the proof of Column's torque removal (R230). -/
def execActiveGateReadbackDone (bad : Option (Fin 16)) (s : State) : Out State :=
  if s.pwr.phase != .active || !s.domOn 9 then .next s
  else match bad with
    | some a => .next (enterRefuge s 3 0x31 a)
    | none => .next (evalAll { s.setB COLM.TEST_DUE false with pwr := { s.pwr with readback := true } })

end Sys2Proof.Machine
end

