-- ==== Sys2Proof/Machine/Power.lean ====
section
/-! DEFINITION. Supplies, hold-up and power-down, the brake chopper, the modes and the way into and out of Parked (R28, R35,
R39 to R47, R51 to R57). -/

namespace Sys2Proof.Machine

/-! Supplies (R39, R40, R41). -/

/-- A supply's voltage as measured. -/
def supplySet (s : State) (sup : Supply) (mv : Int) : State :=
  match sup with
  | .battL => { s with pwr := { s.pwr with mvL := mv } }
  | .battD => { vrefFold s s.pwr.regen with pwr := { (vrefFold s s.pwr.regen).pwr with mvD := mv } }
  | .battGA => { s with pwr := { s.pwr with mvGA := mv } }
  | .battGB => { s with pwr := { s.pwr with mvGB := mv } }

/-- Whether the module runs from BATT_L or its hold-up: neither off nor powering down. -/
def fedByL (s : State) : Bool := s.pwr.phase != .off && s.pwr.phase != .powerDown

/-- What follows the readings of the supplies: the feed of P0 and P1, the hold-up, banks that return and everything the OK bits
gate (R40, R41, R266). `a` and `b` are GA_OK and GB_OK before. -/
def supplyFollow (a b : Bool) (s : State) : State :=
  let s := feedSync { s with pwr := { s.pwr with holdUp := fedByL s && s.pwr.mvL < 14000 } }
  let s := if s.on PWR.GA_OK && !a then bankQueue s .a else s
  let s := if s.on PWR.GB_OK && !b then bankQueue s .b else s
  galEval s

/-- A supply at a new level (R39). -/
def supplyChanged (s : State) (sup : Supply) (mv : Int) : State :=
  supplyFollow (s.on PWR.GA_OK) (s.on PWR.GB_OK) (supplyShow (supplySet s sup mv))

/-- SUPPLY_LEVEL_CHANGE. -/
def execSupplyLevelChange (sup : Supply) (mv : Int) (s : State) : Out State := .next (supplyChanged s sup mv)

/-- BATTL_INTERRUPT (R41). -/
def execBattlInterrupt (mv : Int) (s : State) : Out State := .next (if mv < 14000 then supplyChanged s .battL mv else s)

/-- BATTL_RETURN (R41): within the hold-up nothing else changes. -/
def execBattlReturn (mv : Int) (s : State) : Out State := .next (if 14000 ≤ mv then supplyChanged s .battL mv else s)

/-- Posted writes of SET_CMD that have not completed are lost (R357). -/
def setsLost (s : State) : State :=
  let gone := fun (p : IndPair) => match p.post with | some (sp, a, _) => decide (sp = 1 ∧ a = 8) | none => false
  [Src.host, Src.tool].foldl (fun s src =>
    let p := s.pair pgDRIP src
    if gone p then s.setPair pgDRIP src { p with post := none } else s) s

/-- PF_WARN (R41): the mark for the next start is held in the Drip domain (R73). -/
def execPfWarn (s : State) : Out State :=
  if !s.pwr.holdUp then .next s
  else
    let s := setsLost s
    let s := { s.setB PWR.PF_WARN true with pwr := { s.pwr with
      phase := .powerDown
      holdUp := false
      brown := true
      parkTry := false } }
    .next (evalAll s)

/-- The storage that does not outlive power or sleep (R70), and what the heads held. -/
def ramGone (s : State) : State :=
  { s with
    mem := s.mem.filter (fun c => keptSpace (c.1 / 2 ^ 36) (c.1 / 2 ^ 32 % 16))
    heads := [] }

/-- POWER_DOWN_COMPLETE (R41). -/
def execPowerDownComplete (s : State) : Out State :=
  if s.pwr.phase != .powerDown then .next s
  else
    let s := domsOff s [2, 3, 4, 5, 6, 7, 8, 9, 10, 11]
    let s := { (ramGone s).setB PWR.PF_WARN false with pwr := { s.pwr with
      phase := .off
      armed := false
      lateWake := [] } }
    .next (feedSync (s.count PWR.PF_CNT))

/-- POWER_ON_START (R58, R73): PWR_ON tells whether P1 was off. -/
def execPowerOnStart (mv : Int) (s : State) : Out State :=
  if s.pwr.phase != .off || mv < 15500 then .next s
  else
    let cold := !s.domOn 1
    .next (restart (supplyShow (supplySet s .battL mv)) (if cold then some SYS.PWR_ON else none) 256)

/-- BATTD_OV_OPEN, BATTD_OV_CLOSE (R39). -/
def execBattdOvOpen (mv : Int) (s : State) : Out State :=
  .next (if 200000 < mv then (supplyChanged s .battD mv).setB PWR.BATTD_OV true else s)
def execBattdOvClose (mv : Int) (s : State) : Out State :=
  .next (if mv < 170000 then (supplyChanged s .battD mv).setB PWR.BATTD_OV false else s)

/-! The brake chopper (R43, R44). -/

/-- CHOP_E and the budget: it is spent at 12 kJ and restored below 11 kJ. -/
def chopShow (s : State) : State :=
  let s := { s with pwr := { s.pwr with chopLog := chopFresh s } }
  let sum := chopSum s
  let spent := 12000 ≤ sum || (s.on PWR.CHOP_SPENT && 11000 ≤ sum)
  let s := (s.set PWR.CHOP_E (min sum 12000)).setB PWR.CHOP_SPENT spent
  if spent then s.setB PWR.CHOP_ON false else s

/-- CHOPPER_ON: at a bus voltage in mV, which turns it on above the present level. -/
def execChopperOn (bus : Nat) (s : State) : Out State :=
  .next (if s.on PWR.CHOP_SPENT || bus ≤ chopNow s then s else s.setB PWR.CHOP_ON true)

/-- CHOPPER_OFF. -/
def execChopperOff (joule : Nat) (s : State) : Out State :=
  if !s.on PWR.CHOP_ON then .next s
  else .next (chopShow { s.setB PWR.CHOP_ON false with pwr := { s.pwr with chopLog := (s.tick, joule) :: s.pwr.chopLog } })

/-- CHOP_BUDGET_RESTORED. -/
def execChopBudgetRestored (s : State) : Out State := .next (chopShow s)

/-- BUS_OVERVOLTAGE (R44): Column removes torque from every axis while the bus is above 190 V. -/
def execBusOvervoltage (mv : Nat) (s : State) : Out State :=
  if 190000 < mv then
    .next (if s.on PWR.BUS_OV then s else safetyEval ((s.setB PWR.BUS_OV true).countFault pgPWR PWR.BUS_OV_CNT))
  else .next (safetyEval (s.setB PWR.BUS_OV false))

/-! Measurements (R35, R55, R57). -/

/-- CELL_MEASURE. -/
def execCellMeasure (vcell vcap : Nat) (s : State) : Out State :=
  let s := (s.setSat PWR.VCELL vcell).setSat PWR.VCAP vcap
  .next ((s.setB PWR.BK_CELL (3000 < vcell)).setB PWR.CELL_LOW (0 < vcell && vcell ≤ 3000))

/-- The frequency of a clock domain in Hz (R49); APP runs at what APP_NOW names. -/
def clockHz (s : State) (d : Nat) : Nat :=
  if d = 3 then [200000000, 400000000, 800000000, 1200000000, 1600000000].getD (s.get CLK.APP_NOW) 0
  else [32768, 48000000, 240000000, 0, 800000000, 400000000, 500000000, 125000000, 80000000, 160000000, 200000000, 16000000, 20000000,
    48000000].getD d 0

/-- The test CLOCKS goes on to the next running domain, or to its end (R374). -/
def clocksNext (s : State) (d : Nat) : State :=
  match ((List.range 14).drop d).find? (bitAt s.clkOn) with
  | some k => s.set CLK.MEAS_SEL k
  | none => testSay (s.set TEST.TEST_STEP 3) s.svc.notes

/-- CLOCK_MEASURE_DONE (R57). The test CLOCKS takes the measurement and goes on (R374). -/
def execClockMeasureDone (hz : Nat) (s : State) : Out State :=
  let d := s.get CLK.MEAS_SEL
  let on := bitAt s.clkOn d
  let s := s.setSat CLK.MEAS_HZ (if on then hz else 0)
  if s.on TEST.TEST_RUN && s.get TEST.TEST_CODE = 2 && s.get TEST.TEST_STEP = 2 then
    let good := !on || (clockHz s d * 98 ≤ hz * 100 && hz * 100 ≤ clockHz s d * 102)
    .next (clocksNext (testNote s [d, hz] good) (d + 1))
  else .next s

/-- LAMP_TEST_END. -/
def execLampTestEnd (s : State) : Out State := .next { s with pwr := { s.pwr with lamp := false } }

/-! Modes (R51, R52). -/

/-- MODE_REQ was written (R51, R54): ACTIVE is a release request, another value than PARKED cancels a waiting request. -/
def modeReqWritten (s : State) : State := parkSync (if s.get PWR.MODE_REQ = 2 then enterActive s else s)

/-- IDLE_DELAY_EXPIRY (R52). -/
def execIdleDelayExpiry (s : State) : Out State :=
  .next (if s.pwr.phase = .active && s.get PWR.MODE_REQ != 2 && idleConds s then enterIdle s else s)

/-- Whether a head delivers frames. -/
def headDelivers (s : State) (h : Nat) : Bool := s.on (LH.RUN h) && (s.head h).lastDone.isSome

/-- ACT_RDY_SET (R51): the bridges are ready and every in-service head delivers frames, or 1.4 s have run. DEDUCED (log 115): Lantern
runs by then, so its engine has passed its self-test in this switch-on of P4 (R163). -/
def execActRdySet (late : Bool) (s : State) : Out State :=
  .next (if s.pwr.phase = .active && s.pwr.readback &&
      (late || allBelow 16 (fun h => !s.hasHead h || !s.inSvc (h / 2) || headDelivers s h))
    then (s.setB LANT.ENG_OK true).setB PWR.ACT_RDY true else s)

/-! Parked (R47, R53, R54). -/

/-- A wake source in the layout of PWR_WAKE_EN. -/
def wakeBit (w : WakeSrc) : Nat := match w with | .can n _ => n.val | .relL => 4 | .relR => 5 | .fi _ _ => 6 | .drip => 7

/-- What an armed transceiver makes of what it sees (R298). -/
def armedSees (s : State) (n : Nat) (how : CanWake) : Nat × Option Nat :=
  match (s.can n).wake with
  | some g => transceiver g (s.can n).undec how
  | none => ((s.can n).undec, none)

/-- What the wake comparator of a field input makes of a voltage in 0.1 V, by the threshold armed for its group (R277, R279). -/
def wakeReads (s : State) (i : Nat) (dv : Int) : Bool := fiReads i (bitsOf s.fio.thr (2 * (i / 8)) 2) dv (bitAt s.fio.level i)

/-- Whether a wake source is armed, and what it saw wakes (R53, R277, R298): of a marked field input, a change of its level. -/
def wakeArmed (s : State) (w : WakeSrc) : Bool :=
  bitAt (Nat.lor s.pwr.wakeMask 0x30) (wakeBit w) &&
  (match w with
   | .can n how => s.hasCan n && (armedSees s n how).2.isSome
   | .fi i dv => bitAt s.fio.marks i && wakeReads s i dv != bitAt s.fio.level i
   | _ => true)

/-- A transceiver keeps its count and the code of the wake event (R298), a comparator its level (R277). -/
def wakeSeen (s : State) (w : WakeSrc) : State :=
  match w with
  | .can n how =>
    let r := armedSees s n how
    s.setCan n { s.can n with
      undec := r.1
      woke := r.2.getD (s.can n).woke }
  | .fi i dv => { s with fio := { s.fio with level := putBit s.fio.level i (wakeReads s i dv) } }
  | _ => s

/-- The pages of the waking controller and of the field inputs name the source (R277, R298): `s0` is the state that woke. -/
def wakeNote (s0 s : State) (w : WakeSrc) : State :=
  match w with
  | .can n _ => s.set (CAN.WAKE_SRC n) (s0.can n).woke
  | .fi i _ => if s.on FIO.WAKE_FI_V then s else (s.setB FIO.WAKE_FI_V true).set FIO.WAKE_FI i
  | _ => s

/-- The start that a wake brings: counted, its sources recorded (R53, R54). -/
def wakeStart (s : State) (ws : List WakeSrc) (late : Bool) : State :=
  let cause := maskOf (fun b => ws.any (fun w => wakeBit w = b)) 8
  ws.foldl (wakeNote s) (restart (s.count PWR.WAKE_CNT) (some SYS.WAKE) (cause + 512 * bit1 late))

/-- A wake event (R53, R54): it starts a Parked module; while the module is parking it is latched. -/
def wakeEvent (s : State) (w : WakeSrc) : State :=
  if !s.pwr.armed || !(s.pwr.phase = .parked || s.pwr.phase = .parking) then s
  else
    let t := wakeSeen s w
    if !wakeArmed s w then t
    else if s.pwr.phase = .parked then wakeStart t [w] false
    else { t with pwr := { t.pwr with lateWake := t.pwr.lateWake ++ [w] } }

/-- WAKE_EVENT and PARK_LATE_WAKE. -/
def execWakeEvent (src : WakeSrc) (s : State) : Out State := .next (wakeEvent s src)
def execParkLateWake (src : WakeSrc) (s : State) : Out State :=
  .next (if s.pwr.phase = .parking then wakeEvent s src else s)

/-- PARK_START (R54): the wake sources are armed and latched, the contacts open, Flowstone closes its records. -/
def execParkStart (s : State) : Out State :=
  let s := parkSync s
  if s.pwr.phase != .idle || s.get PWR.MODE_REQ != 0 || !parkConds s then .next s
  else
    let en := bitsOf (s.regVal 0x01058) 0 8
    let s := { s with
      pwr := { s.pwr with
        phase := .parking
        parkTry := false
        armed := true
        lateWake := []
        wakeMask := en }
      fio := { s.fio with
        marks := s.get FIO.WAKE_LO + s.get FIO.WAKE_HI * 2 ^ 32
        thr := s.get FIO.THR
        level := s.get FIO.FI_LO + s.get FIO.FI_HI * 2 ^ 32 } }
    let s := eachUpTo 4 (fun s n => s.setCan n { s.can n with
      wake := some (wakeCfg s n)
      undec := 0 }) s
    .next (sealQueues (evalAll ((s.set PWR.MODE 3).setB PWR.ACT_RDY false)))

/-- PARK_COMPLETE (R54, R69, R70): memories wiped, P2 to P11 off but for the Crawl path; a latched wake starts the module at
once. -/
def execParkComplete (s : State) : Out State :=
  if s.pwr.phase != .parking then .next s
  else
    let s := domsOff s ([2, 3, 4, 5, 6, 7, 8, 9, 11] ++ (if s.on CRAWL.CR_PIN then [] else [10]))
    let s := ramGone { s with pwr := { s.pwr with phase := .parked } }
    .next (if s.pwr.lateWake.isEmpty then s else wakeStart s s.pwr.lateWake true)


/-- CRAWL_P10_OFF (R47). -/
def execCrawlP10Off (s : State) : Out State :=
  .next (if crawlPath s && !s.on CRAWL.CR_PIN then domsOff s [10] else s)

/-- CRAWL_EN_FILTER_ACCEPT (R28, R47, R263): the filter runs on the P1 rail. -/
def execCrawlEnFilterAccept (active : Bool) (s : State) : Out State :=
  if !s.domOn 1 then .next s
  else
    .next (crawlSync (crawlFeed { s.setB CRAWL.CR_PIN active with gal := { s.gal with crawlPin := active } }))

end Sys2Proof.Machine
end

