-- ==== Sys2Proof/Machine/Startup.lean ====
section
/-! DEFINITION. The start-up sequence, boot images, Refuge at a start, the host watchdog and the end of a life-cycle change
(R8, R58 to R72). -/

namespace Sys2Proof.Machine

/-- Whether start-up is at step k (1 to 5): the steps before it have passed, it has not. -/
def atStep (s : State) (k : Nat) : Bool :=
  s.pwr.phase = .starting && s.on COLM.COL_OK = decide (1 < k) && !s.bit SYS.ST_DONE (k - 1)

/-- A step passed. -/
def stepDone (s : State) (k : Nat) : State := s.setBit SYS.ST_DONE (k - 1) true

/-- Milliseconds since this start began. -/
def msSince (s : State) : Nat := msBetween s.pwr.startTick s.tick

/-- The number of the switch at fault in the seal configuration (R8, R213): an absent doorway in service, loop variant 3. -/
def sealError (s : State) : Option Nat :=
  match (List.range 8).find? (fun n => bitAt s.saf.sealA n && !s.hasDw n) with
  | some n => some (n + 1)
  | none => if loopVar s = 3 then some 9 else none

/-- The discrepancy time of a process-safety-time class (R217). -/
def discMs (cls : Nat) : Nat := match cls with | 0 => 20 | 1 => 50 | 2 => 100 | _ => 250

/-- Page SEAL as captured in step 1 (R233). -/
def sealShow (s : State) : State :=
  let a := s.saf.sealA
  let b := s.saf.sealB
  let s := (((polesShow s .col).set SEAL.INSVC a).set SEAL.LOOP_VAR (a / 2 ^ 8)).set SEAL.PST_CLASS (a / 2 ^ 12)
  let s := ((s.setB SEAL.TH_EN (bitAt a 10)).setB SEAL.LC_EN (bitAt a 11)).setB SEAL.SRC_SW (bitAt a 14)
  let s := ((s.setB SEAL.DEPOT_PERMIT (bitAt a 15)).set SEAL.SIG_SW b).set SEAL.DISC_MS (discMs (a / 2 ^ 12 % 4))
  s.setB SEAL.CFG_ERR (sealError s).isSome

/-- Step 1 passed (R58): switches captured, Column ready, lamp test, P2 on; the doorways show OUT or RECOVER. -/
def step1 (s : State) : State :=
  let s := { s with
    saf := { s.saf with
      sealA := s.saf.poleA
      sealB := s.saf.poleB }
    pwr := { s.pwr with lamp := true } }
  let s := eachDw (fun s n => s.set (CYCD.STATE n) (if s.inSvc n then 0xE else 0xF)) (sealShow s)
  evalAll (domOn1 (stepDone (s.setB COLM.COL_OK true) 1) 2)

/-- The signature over the stored block (R215). -/
def signature (s : State) : Nat := crc16 (s.rdBytes pgSAFM 1 0 0x80)

/-- What page SEAL shows of the stored block (R215, R233). -/
def sigShow (s : State) : State :=
  let sig := signature s
  ((s.set SEAL.SIG_CRC sig).setB SEAL.SIG_OK (sig = s.saf.sealB)).setB SEAL.SRC_CONFLICT (param s 6 = 1 && !bitAt s.saf.sealA 14)

/-- The domains that step 2 releases (R58). -/
def step2Domains (s : State) : State := evalAll (domsOn s [3, 5, 7, 8, 9, 10])

/-- The number of the first switch whose poles the two channels read differently at the check of step 2 (R58): 1 to 16 bank A,
17 to 32 bank B. -/
def polesError (s : State) : Option Nat :=
  let bad := Nat.xor s.saf.sealA s.saf.spoleA % 65536 + 65536 * (Nat.xor s.saf.sealB s.saf.spoleB % 65536)
  ((List.range 32).find? (bitAt bad)).map (· + 1)

/-- Step 2 passed (R58, R66, R68, R138, R215, R239): an unreadable life-cycle state, poles that disagree, a seal configuration
error and, where it is checked, a wrong signature fail it; a wipe-pending mark holds P3 back until the wipes have been completed.
Where several checks fail together, DEDUCED (log 120): the cause is that of the first in the order of R58's step 2. -/
def step2 (s : State) : State :=
  let sig := signature s
  let s := sigShow s
  match if s.lc = lcUNKNOWN then some (0x23, 0) else ((polesError s).or (sealError s)).map (fun k => (0x24, k)) with
  | some c => refugeStep2 s c.1 c.2
  | none =>
    if (s.lc = lcSERVICE || s.lc = lcDEPOT) && sig != s.saf.sealB then refugeStep2 s 0x25 sig
    else
      let s := polesShow ((stepDone s 2).setB SAFM.SP_RUN true) .saf
      let s := eachAx axModels (mirrorsWrite (s.setB COLM.SP_HB_OK true)).1
      let s := tcfgCheck s
      if s.on SYS.LC_WIPE_PEND then evalAll s else step2Domains s

/-- Step 3 passed (R58, R59, R61): an EDM input that reads open latches; the off-state test of an absent bank is deferred. -/
def step3 (s : State) : State :=
  let s := { s.setB COLM.TEST_DUE false with pwr := { s.pwr with
    readback := s.domOn 9
    untested := bit1 (!s.on PWR.GA_OK) + 2 * bit1 (!s.on PWR.GB_OK) } }
  let opened := loopVar s < 2 && !(lvl s .saf 6 && lvl s .saf 7 && lvl s .col 6 && lvl s .col 7)
  let s := if opened then latchSet (latchSet (s.countFault pgCOLM COLM.EDM_FAULT_CNT) .saf 3) .col 3 else s
  evalAll (stepDone s 3)

/-- Step 4 passed (R58, R204): the host is ready, and the supervisor places every doorway. -/
def step4 (s : State) : State :=
  if !(atStep s 4 && s.bit SYS.ST_DONE 1 && s.pwr.wiped && s.pwr.hostUp && s.on SYS.HOST_RDY) then s
  else safetyReact (eachDw doorwayInit (stepDone s 4))

/-- Step 5 passed (R56, R58, R163): the start ends in Active. -/
def step5 (s : State) : State :=
  let s := (stepDone s 5).setB SYS.OPERABLE true
  let s := ((s.setB LANT.ENG_OK true).setSat SYS.ST_TIME_MS (msSince s)).set PWR.MODE 2
  evalAll { s.set CLK.APP_NOW (s.get CLK.APP_SEL) with pwr := { s.pwr with phase := .active } }

/-- SELF_TEST_STEP_PASS. -/
def execSelfTestStepPass (k : Fin 5) (s : State) : Out State :=
  let n := k.val + 1
  if !atStep s n then .next s
  else match n with
    | 1 => .next (step1 s)
    | 2 => .next (step2 s)
    | 3 => .next (if s.bit SYS.ST_DONE 1 && s.domOn 9 then step3 s else s)
    | 4 => .next (step4 s)
    | _ => .next (if s.get SYS.ST_DONE = 0xF then step5 s else s)


/-- What a failed step 5 leaves on page LANT (R61, R163): the stage at which the engine failed, or the head power converter. -/
def engineShow (s : State) (code detail : Nat) : State :=
  if code = 0x51 then (s.setB LANT.ENG_OK false).set LANT.ENG_FAULT_STAGE detail
  else if code = 0x52 then s.setB LANT.HP_OK false else s

/-- SELF_TEST_STEP_FAIL (R61, R66): no two FRAM copies agreeing reads as UNKNOWN; from step 2 on P3 is switched on for the
Refuge monitor at once. -/
def execSelfTestStepFail (k : Fin 5) (code : Fin 256) (detail : Fin 65536) (s : State) : Out State :=
  let n := k.val + 1
  if !atStep s n then .next s
  else
    let s := if n = 2 && code = 0x23 then s.set SYS.LC_STATE lcUNKNOWN else s
    .next (if n = 1 then enterRefuge s n code detail
      else if n = 2 then refugeStep2 s code detail
      else monitorOn (engineShow (enterRefuge s n code detail) code detail))

/-- REFUGE_MONITOR_POWER_ON (R62). -/
def execRefugeMonitorPowerOn (s : State) : Out State :=
  .next (if s.pwr.phase = .refuge && s.get SYS.RF_STEP = 1 then monitorOn s else s)

/-- LPDDR5_WIPE_DONE (R58, R69, R70, R168): P4 and P6 come on; the backgrounds are taken over from MRAM, and one that fails its CRC
there is gone. Of the wipes of sleep entry and of a life-cycle change, a failed one is the same Refuge; what follows a good one is
PARK_COMPLETE and LC_WIPES_DONE. -/
def execLpddr5WipeDone (bad : Option (Fin 65536)) (bgBad : Fin 256) (s : State) : Out State :=
  if s.domOn 5 && (s.pwr.phase = .parking || s.on SYS.LC_WIPE_PEND) then
    .next (match bad with | some c => enterRefuge s 4 0x42 c | none => s)
  else if s.pwr.phase != .starting || !s.domOn 5 || s.pwr.wiped then .next s
  else match bad with
    | some c => .next (enterRefuge s 4 0x42 c)
    | none =>
      let s := { s with pwr := { s.pwr with wiped := true } }
      let s := eachDw (fun s n => if bitAt bgBad n then bgGone s n else bgLoad s n) s
      .next (evalAll (domsOn s [4, 6]))

/-! Boot images (R63, R74). -/

/-- The fields of a slot: verified at last check, version. -/
def slotOk (slot : Nat) : Reg := if slot = 0 then BOOT.A_OK else BOOT.B_OK
def slotVer (slot : Nat) : Reg := if slot = 0 then BOOT.IMG_A_VER else BOOT.IMG_B_VER

/-- One verification of a slot. -/
def slotCheck (s : State) (slot : Nat) (x : Image) : State × Bool :=
  let ok := x.signed && decide (s.get BOOT.ROLLBACK_MIN ≤ x.version.toNat)
  let s := (s.setB (slotOk slot) ok).set (slotVer slot) (if ok then x.version.toNat else 0)
  (if ok then s else s.count BOOT.BOOT_FAIL_CNT, ok)

/-- The host started from a slot. -/
def hostStarted (s : State) (slot : Nat) (fallback : Bool) : State :=
  let s := (s.set BOOT.RUN_SLOT slot).setB BOOT.FALLBACK fallback
  let s := (s.setB BOOT.TRIAL (!bitAt s.pwr.confirmed slot)).setSat BOOT.BOOT_TIME_MS (msSince s)
  { s with pwr := { s.pwr with
    hostUp := true
    hostTick := s.tick } }

/-- HOST_START (R63): the named slot, or the other one where that fails; after an unproved trial the other one first, if it
is valid. -/
def execHostStart (a b : Image) (s : State) : Out State :=
  if s.pwr.phase != .starting || !s.domOn 3 || s.pwr.hostUp then .next s
  else
    let img := fun (k : Nat) => if k = 0 then a else b
    let named := s.get BOOT.BOOT_NEXT
    let boot := fun (s : State) =>
      let (s, ok) := slotCheck s named (img named)
      if ok then hostStarted s named false
      else
        let (s, ok) := slotCheck s (1 - named) (img (1 - named))
        if ok then hostStarted s (1 - named) true else enterRefuge s 4 0x41 0
    match s.pwr.unproved with
    | some u =>
      let (t, ok) := slotCheck s (1 - u) (img (1 - u))
      if ok then .next (hostStarted t (1 - u) false)
      else
        let (t, ok) := slotCheck t u (img u)
        .next (if ok then hostStarted t u (decide (named ≠ u)) else enterRefuge t 4 0x41 0)
    | none => .next (boot s)

/-- BOOT_CONFIRM was written (R63): a trial image is confirmed, and the lowest accepted version rises to its own. -/
def bootConfirmed (s : State) : State :=
  if !s.on BOOT.BOOT_CONFIRM || !s.on BOOT.TRIAL then s
  else
    let k := s.get BOOT.RUN_SLOT
    let s := { s.setB BOOT.TRIAL false with pwr := { s.pwr with confirmed := putBit s.pwr.confirmed k true } }
    s.set BOOT.ROLLBACK_MIN (max (s.get BOOT.ROLLBACK_MIN) (s.get (slotVer k)))

/-- HOST_RDY_TIMEOUT (R61): its time runs only once a wipe-pending mark is cleared (R68). -/
def execHostRdyTimeout (s : State) : Out State :=
  .next (if s.pwr.phase = .starting && s.bit SYS.ST_DONE 1 && !s.on SYS.LC_WIPE_PEND && !s.on SYS.HOST_RDY
    then enterRefuge s 4 0x43 (s.get BOOT.BOOT_TIME_MS) else s)

/-- GALLERY_DEFERRED_TEST (R59, R266): a pass is a return of the bank, whose commanded channels take their turns. -/
def execGalleryDeferredTest (b : Bank) (bad : Option (Fin 48)) (s : State) : Out State :=
  let k := bit1 (b = .b)
  if !bitAt s.pwr.untested k || !s.bit SYS.ST_DONE 2 || !s.domOn 10 || !s.on (if k = 1 then PWR.GB_OK else PWR.GA_OK) then .next s
  else match bad with
    | some c => .next (enterRefuge s 3 0x32 c)
    | none => .next (galEval (bankQueue { s with pwr := { s.pwr with untested := putBit s.pwr.untested k false } } b))

/-- REFUGE_ANNOUNCE (R64, R316): on ECN, CAN and MVB from the held addresses, else on CAN0 at 125 kbit/s with the default identifiers. -/
def execRefugeAnnounce (cfgOk : Bool) (s : State) : Out State :=
  if !s.inRefuge || !s.domOn 3 then .next s
  else if cfgOk then
    let s := announce s
    let m := Config.mvbRefuge s.freeCtr (s.get SYS.RF_STEP * 2 ^ 24 + s.get SYS.RF_CODE * 2 ^ 16 + s.get SYS.RF_DETAIL)
    .next (if s.domOn 7 then s.draw.sendOn 6 m.1 m.2 else s)
  else if !s.domOn 8 then .next s
  else
    let s := { s with nets := { s.nets with monRate := 125 } }
    .next (s.sendOn 1 (0x10 * 2 ^ 21 + 0x15 * 2 ^ 16 + DST.OWN_UNIT.rst) (announceShort s))

/-! The host watchdog (R72). -/

/-- HOST_WD_EXPIRY: Crawl engages, the motion permits go, the field outputs open. -/
def execHostWdExpiry (s : State) : Out State :=
  if !s.on SYS.HOST_WD_MS || !s.pwr.wdRun || s.on SAFM.HOST_WD || s.inRefuge then .next s
  else
    let s := fioWatchdog ((s.setB SAFM.HOST_WD true).setB CRAWL.CR_WD true)
    let s := { s with pwr := { s.pwr with
      wdRun := false
      wdDue := s.on SYS.WD_RESTART } }
    .next (crawlSync (safetyReact s))

/-- WD_RESTART_DUE. -/
def execWdRestartDue (s : State) : Out State :=
  .next (if s.pwr.wdDue && s.pwr.phase != .powerDown then restart s (some SYS.WD_EXP) 0 else s)

/-! The end of a life-cycle change (R68 to R70). -/

/-- What every change wipes (R70, R265), and what a change to RETURN or SCRAP wipes besides (R70, R239), with what is in force of it in
this start; the Cairn registers go only with FACTORY. -/
def lcWipe (s : State) : State :=
  let s := ((s.wipeSpace pgLVOL 3).wipeSpace pgLVOL spMram).wipeSpace pgLVOL spMarks
  let s := eachDw (fun s n => setBg s n 0) { s with gal := { s.gal with mapCopies := [] } }
  let s := if s.domOn 10 then crawlLoad s else s
  let s := if s.lc = lcRETURN || s.lc = lcSCRAP then
      let s := tcfgEmpty (sigShow (s.wipeSpace pgSAFM 1))
      let s := if s.on SAFM.SP_RUN then eachAx axModels (mirrorsWrite s).1 else s
      if s.on FLOW.EVID_HOLD then s else flowWipe s
    else s
  if s.lc = lcFACTORY then (List.range 16).foldl (fun (s : State) k => s.set (FLOW.CAIRN k) 0) s else s

/-- A wipe that failed its verification (R69, R344): written into Cairn and as an EVENT where a memory remains, and the area is not
used, in the start that ends the change as well. -/
def wipeFailed (s : State) (mramBad : Bool) (nandBad : Option (Fin 7)) : State :=
  let s := if mramBad then memFailed (s.setB FLOW.MRAM_FAIL true) 5 0 else s
  match nandBad with
  | some a =>
    memFailed { s.setB FLOW.NAND_FAIL true with flow := { s.flow with nandBad := putBit s.flow.nandBad a true } } 4 a
  | none => s

/-- The wipes of a change made and its mark cleared (R68). -/
def wipesEnd (s : State) : State := (lcWipe s).setB SYS.LC_WIPE_PEND false

/-- LC_WIPES_DONE (R68): a change under way ends in a restart with LC_CHANGE in RST_CAUSE; one resumed at a start continues that
start, and sets no LC_CHANGE. DESIGN CHOICE (log 101): R68 names LC_CHANGE for the restart at the end only, and a resumed change has
none. -/
def execLcWipesDone (mramBad : Bool) (nandBad : Option (Fin 7)) (s : State) : Out State :=
  if !s.on SYS.LC_WIPE_PEND || s.pwr.phase = .off || s.pwr.phase = .powerDown then .next s
  else if s.pwr.phase = .starting && !s.domOn 3 then
    .next (if s.bit SYS.ST_DONE 1 then step2Domains (wipeFailed (wipesEnd s) mramBad nandBad) else s)
  else if s.pwr.phase = .refuge && !s.domOn 3 then
    .next (if s.get SYS.RF_STEP = 1 then s else monitorOn (wipeFailed (wipesEnd s) mramBad nandBad))
  else .next (wipeFailed (restart (wipesEnd s) (some SYS.LC_CHANGE) 0) mramBad nandBad)

end Sys2Proof.Machine
end

