-- ==== Sys2Proof/Machine/Drip.lean ====
section
/-! DEFINITION. The Drip domain: its count, compensation, checkpoints, the setting of the calendar and the alarms (R351 to
R360). -/

namespace Sys2Proof.Machine

/-- One compensated period (R352, R355): the tick counts, the calendar every thirty-second time up to its last value. -/
def dripCount (s : State) : State :=
  if s.drip.stopped || s.bit CLK.CLK_FAIL 0 then s
  else
    let t := (s.tick + 1) % 2 ^ 48
    { s with
      tick := t
      drip := { s.drip with cal := if t % 32 = 0 then min calMax (s.drip.cal + 1) else s.drip.cal } }

/-- TC_UPDATE (R351): the correction spans ±122 ppm; a failed sensor leaves the last one in force. -/
def execTcUpdate (temp : Option Int) (s : State) : Out State :=
  match temp with
  | none => .next (s.setB DRIP.TC_FAULT true)
  | some t => .next (((s.setB DRIP.TC_FAULT false).setS DRIP.XTAL_T t).setS DRIP.TC_CORR (clampI (-12200) 12200 (Config.tempCorr t)))

/-- TICK_CHECKPOINT (R353): the two copies are written alternately. -/
def execTickCheckpoint (s : State) : Out State :=
  if s.tick % 2 ^ 20 != 0 || s.drip.stopped then .next s
  else .next { s with drip := { s.drip with
    ckA := if s.drip.ckToB then s.drip.ckA else some s.tick
    ckB := if s.drip.ckToB then some s.tick else s.drip.ckB
    ckToB := !s.drip.ckToB } }

/-- Whether the checkpoint of this count is still being written (R353): the copy written last does not hold it. -/
def checkpointDue (s : State) : Bool := s.tick % 2 ^ 20 = 0 && (if s.drip.ckToB then s.drip.ckA else s.drip.ckB) != some s.tick

/-- BACKUP_LOSS (R354): possible only with no supply present. A copy that is being written fails its CRC from then on; the other one is
valid (R360). -/
def execBackupLoss (s : State) : Out State :=
  if s.pwr.phase != .off || s.pwr.feed != .backup || s.drip.stopped then .next s
  else
    let torn := checkpointDue s
    .next { s with drip := { s.drip with
      stopped := true
      ckA := if torn && !s.drip.ckToB then none else s.drip.ckA
      ckB := if torn && s.drip.ckToB then none else s.drip.ckB } }

/-- Writing the words of indirect space 0x1 (R357, R358): SET_CMD posts a set, the words of an alarm acknowledge it. A set
not complete at PF_WARN is lost, and so is one that would complete with the SoC off. -/
def setCmd (s : State) (val : Nat) : Wrote :=
  if s.on PWR.PF_WARN || !s.domOn 3 then (s, false)
  else if val != 0x5E7C0001 then (s, true)
  else ({ s with drip := { s.drip with sets := s.drip.sets ++ [(s.rd32 pgDRIP 1 0, s.rd32 pgDRIP 1 4, false)] } }, false)

def almDelay (s : State) (val : Nat) : State :=
  let v := max 1 val
  let s := (s.wr32 pgDRIP 1 0x1C v).setB DRIP.ALM_DLY_HIT false
  { s with drip := { s.drip with
    dlyArmed := true
    dlyDue := (s.tick + v * 32768) % 2 ^ 48 } }

/-- A configuration word of an alarm: each field takes the nearest value of its range in R356 (R86); reserved bits are not kept. -/
def almWord (w : AlarmWord) (val : Nat) : Nat :=
  let t := dateStaged val val
  match w with
  | .hi => t.year * 2 ^ 24 + t.month * 2 ^ 20 + t.day * 2 ^ 15 + t.hour * 2 ^ 10 + t.minute * 2 ^ 4
  | .lo => t.second * 2 ^ 26
  | .mask => val % 64
  | .en => val % 4

/-- The bits of a configuration word that belong to fields (R356, R359). -/
def almLive (w : AlarmWord) (val : Nat) : Nat :=
  match w with
  | .hi => val / 16 * 16
  | .lo => val / 2 ^ 26 * 2 ^ 26
  | .mask => val % 64
  | .en => val % 4

/-- ALMC_HI, ALMC_LO, ALMC_MASK or ALM_EN written: the write acknowledges the alarms it configures; a clamped field counts. -/
def almConfig (s : State) (w : AlarmWord) (val : Nat) : Wrote :=
  let v := almWord w val
  let adj := v != almLive w val
  match w with
  | .hi => ((s.wr32 pgDRIP 1 0x10 v).setB DRIP.ALM_CAL_HIT false, adj)
  | .lo => ((s.wr32 pgDRIP 1 0x14 v).setB DRIP.ALM_CAL_HIT false, adj)
  | .mask => ((s.wr32 pgDRIP 1 0x18 v).setB DRIP.ALM_CAL_HIT false, adj)
  | .en => ((((s.wr32 pgDRIP 1 0x20 v).setB DRIP.ALM_CAL_HIT false).setB DRIP.ALM_DLY_HIT false).setB DRIP.ALM_MISSED false, adj)

/-- A completed write of one word of the space (R359): reserved bits and the computed WDAY are not kept, a delay of 0 clamps to 1, the
reserved words take nothing and count nothing (R12). -/
def dripWrite (s : State) (addr val : Nat) : Wrote :=
  match addr with
  | 0x00 => (s.wr32 pgDRIP 1 0 (val / 16 * 16), false)
  | 0x04 => (s.wr32 pgDRIP 1 4 (val / 2 ^ 16 * 2 ^ 16), false)
  | 0x08 => setCmd s val
  | 0x10 => almConfig s .hi val
  | 0x14 => almConfig s .lo val
  | 0x18 => almConfig s .mask val
  | 0x1C => (almDelay s val, val = 0)
  | 0x20 => almConfig s .en val
  | _ => (s, false)

/-- SET_CMD_WRITE, ALM_DLY_S_WRITE, ALARM_CONFIG_WRITE. -/
def execSetCmdWrite (val : Word) (s : State) : Out State := .next (counted pgDRIP (setCmd s val.toNat))
def execAlmDlySWrite (val : Word) (s : State) : Out State := .next (counted pgDRIP (almDelay s val.toNat, val.toNat = 0))
def execAlarmConfigWrite (w : AlarmWord) (val : Word) (s : State) : Out State := .next (counted pgDRIP (almConfig s w val.toNat))

/-- TIME_EPOCH after its present value (R357). -/
def nextEpoch (e : Nat) : Nat := if e = 0xFFFF then 1 else e + 1

/-- Whether the calendar stands at a boundary at which a set takes effect (R357, R368): of 1/1024 s, or of a whole second. -/
def setBoundary (s : State) (second : Bool) : Bool :=
  !s.drip.stopped && s.tick % 32 = 0 && (!second || s.drip.cal % 1024 = 0 || s.drip.cal = calMax)

/-- One waiting set takes effect (R357), or nothing where none waits for this boundary: the earliest of those that do, so that a set
that waits for its second (R368) holds up no other. -/
def setApply (s : State) : State :=
  match s.drip.sets.find? (fun q => setBoundary s q.2.2) with
  | none => s
  | some (hi, lo, second) =>
    let old := s.wallS
    let s := if dateStaged hi lo = dateRaw hi lo then s else s.adj pgDRIP
    let s := { s with drip := { s.drip with
      sets := s.drip.sets.erase (hi, lo, second)
      cal := calOf (dateStaged hi lo) } }
    let s := ((s.setB DRIP.CAL_VALID true).setB DRIP.BK_LOST false).count DRIP.SET_CNT
    let s := s.set DRIP.EPOCH (nextEpoch (s.get DRIP.EPOCH))
    s.event pgDRIP 0 0x0040 old s.wallS (s.get DRIP.EPOCH)

/-- CALENDAR_SET_APPLY (R357): sets take effect in the order in which their writes completed. -/
def execCalendarSetApply (s : State) : Out State := .next (setApply s)

/-- A firing (R358, R359): it wakes a Parked module and is latched by a parking one; with no supply it is missed. -/
def almFire (s : State) (hit : Reg) : State :=
  let s := (s.setB hit true).count DRIP.ALM_CNT
  if s.pwr.feed = .backup then s.setB DRIP.ALM_MISSED true else wakeEvent s .drip

/-- CAL_ALARM_FIRE: at a second boundary at which the calendar matches. A set that waits for this boundary applies first, and the alarm
is judged on the new value (R360). -/
def execCalAlarmFire (s : State) : Out State :=
  let s := s.drip.sets.foldl (fun s _ => setApply s) s
  .next (if s.drip.stopped || s.drip.cal % 1024 != 0 || !bitAt (almEn s) 0 || !almMatch s then s else almFire s DRIP.ALM_CAL_HIT)

/-- DLY_ALARM_FIRE: the tick has reached its due count. -/
def execDlyAlarmFire (s : State) : Out State :=
  .next (if s.drip.stopped || !bitAt (almEn s) 1 || !s.drip.dlyArmed || 2 ^ 47 ≤ (s.tick + 2 ^ 48 - s.drip.dlyDue) % 2 ^ 48 then s
    else almFire { s with drip := { s.drip with dlyArmed := false } } DRIP.ALM_DLY_HIT)

end Sys2Proof.Machine
end

