-- ==== Sys2Proof/Machine/Testing.lean ====
section
/-! DEFINITION. The functional tests and the monitor outputs (R371 to R377), and the supervisor's tick, which also moves a
running test on. -/

namespace Sys2Proof.Machine

/-! Monitor outputs (R371, R372, R377). -/

/-- Whether an index lies in a class. -/
def monIndexOk (s : State) (cls i : Nat) : Bool :=
  if 1 ≤ cls && cls ≤ 4 then s.hasAx i
  else if cls = 5 then s.hasCh i
  else if cls = 6 then i < 64
  else if cls = 7 then 2 ≤ i && i ≤ 15
  else if cls = 8 then i < 3
  else i = 0

/-- A selector as it is stored: classes and indices outside their ranges clamp to 0. -/
def monSel (s : State) (v : Nat) : Nat :=
  let cls := bitsOf v 12 4
  if 8 < cls then 0 else cls * 4096 + (if monIndexOk s cls (v % 64) then v % 64 else 0)

/-- A selector halfword without its reserved bits 11:6, which a write ignores and does not count (R12). -/
def tpLive (v : Nat) : Nat := v % 65536 - bitsOf v 6 6 * 64

/-- A write to the selector of point `i`: only the owner's takes effect, the host's or TEST's. -/
def tpWrite (s : State) (src : Src) (i v : Nat) : Wrote :=
  if s.owner 2 i != (match src with | .host => 5 | .tool => 6) then (s, tpLive v != tpSel s i)
  else (setTpSel s i (monSel s v), monSel s v != tpLive v)

/-- TP_SEL_WRITE. -/
def execTpSelWrite (src : Src) (tp : Fin 16) (val : Fin 65536) (s : State) : Out State :=
  .next (if busUp s then counted pgTEST (if s.hwLock pgTEST then (s, tpLive val != tpSel s tp) else tpWrite s src tp val) else s)

/-- A claim of a monitor output for safety or TEST (R91, R372): the host loses its bit. -/
def monClaim (s : State) (o i v : Nat) : State × Bool :=
  let (s, ok, lost) := s.claim 2 i o
  let s := if lost = 5 then s.setBit RES.HOST_MON i false else s
  (if ok then setTpSel s i (monSel s v) else s, ok)

/-! What the tests are (R374). -/

def testCode (t : TestName) : Nat :=
  match t with
  | .supply => 1 | .clocks => 2 | .inputs => 3 | .adcl => 4 | .sto _ => 5 | .align _ => 6 | .move _ => 7 | .force _ => 8
  | .home _ => 9 | .lock _ => 0xA | .gal _ => 0xB | .fo _ => 0xC | .can _ => 0xD | .net => 0xE | .heads => 0xF | .recorder => 0x10 | .unknown => 0

def testArg (t : TestName) : Nat :=
  match t with
  | .sto a => a | .align a => a | .move n => n | .force n => n | .home a => a | .lock n => n | .gal c => c | .fo n => n
  | .can n => n | _ => 0

/-- Whether the member has what a test names. -/
def testKnown (s : State) (t : TestName) : Bool :=
  match t with
  | .sto a => s.hasAx a | .align a => s.hasAx a | .move n => s.hasDw n | .force n => s.hasDw n | .home a => s.hasAx a
  | .lock n => s.hasDw n | .gal c => s.hasCh c | .can n => s.hasCan n | .unknown => false | _ => true

/-- The doorway that a moving test takes, none for a static one. -/
def testDoor (t : TestName) : Option Nat :=
  match t with
  | .align a => some (a % 8) | .move n => some n | .force n => some n | .home a => some (a % 8) | .lock n => some n
  | _ => none

/-- Whether moving-test conditions apply. -/
def testMoving (s : State) (t : TestName) : Bool :=
  (testDoor t).isSome || (match t with | .can n => s.on (CAN.SAFE_CH n) | _ => false)

/-- The refusal code of a test that may not start (R369, R373), none where it may. -/
def testRefusal (s : State) (t : TestName) : Option Nat :=
  if s.on TEST.TEST_RUN || s.on FLOW.EXP_RUN then some 8
  else if s.inRefuge then some 9
  else if !testKnown s t then some 2
  else if testMoving s t && s.lc != lcDEPOT && s.lc != lcFACTORY then some 4
  else if !zeroSpeed s .saf || !zeroSpeed s .col then some 5
  else if testMoving s t && !(bitAt s.saf.sealA 15 && lvl s .saf 13 && lvl s .col 13) then some 5
  else match t with
    | .gal c => if isLock c || !gcAllowed s c then some 5 else none
    | .fo _ => if !s.on (HDR.EN pgFIO) || s.on FIO.WD_OPEN then some 5 else none
    | .adcl => if adclVerdict s .saf && adclVerdict s .col then none else some 5
    | _ => match testDoor t with
      | none => none
      | some n =>
        let st := dwState s n
        if st = stDEPOT || (st = stLOCKED && clOk s .saf n) || st = stRECOVER then none else some 5

/-! Motion of a test: at 0.05 m/s on the staged profile. -/

/-- Millimetres in addresses of an axis, and 0.05 m/s as the ceiling of an entry. -/
def mmAddr (s : State) (a : Nat) (mm : Int) : Int := (mkRatio (mm * 1000 * 65536) (max 1 (s.get (AX.AX_SCALE a)))).round
def testSpeed (s : State) (a : Nat) : Nat := 5 * 2 ^ 32 / (2 * max 1 (s.get (AX.AX_SCALE a)))

/-- The torque an axis needs is requested as the host would request it (R113). -/
def testTorque (s : State) (a : Nat) : State := s.set (AX.TORQUE_REQ a) (axLimit s a (AX.TORQUE_REQ a) 1)

/-- Whether an axis stands with torque and nothing queued. -/
def testReady (s : State) (a : Nat) : Bool :=
  s.on (AX.TORQUE a) && (s.ax a).atRest && (s.ax a).queue.isEmpty && (s.ax a).after.isNone && !s.on (AX.HOMING a)

/-- A move of a test to a target. -/
def testPush (s : State) (a : Nat) (t : Int) : State :=
  let (s, t, _) := axTarget s a t
  let x := s.ax a
  putAx s a { x with queue := x.queue ++ [⟨t, s.get (AX.PROFILE a), 0x100, 0, false, 0, some (testSpeed s a), bornNow s a⟩] }

/-- A step of the test entered. -/
def testStep (s : State) (k : Nat) : State :=
  { s.set TEST.TEST_STEP k with svc := { s.svc with moveAt := 0 } }

/-- Where a moving test begins. -/
def testOrigin (s : State) (a : Nat) : State := { s with svc := { s.svc with from0 := (s.ax a).pos / 65536 } }

/-- The error counts of the networks that NET watches (R374). -/
def netCounts (s : State) : List Int :=
  [ECN.RX_DROP_CNT, ECN.EGR_DROP_CNT, ECN.CRC_ERR_CNT, ECN.LINK_DOWN_CNT, MVB.LINE_A_ERR_CNT, MVB.LINE_B_ERR_CNT, MVB.STALE_CNT,
    LGL.NOREPLY_CNT, LGL.LGL_ERR_CNT].map (fun r => (s.get r : Int))

/-- What a test does when it starts. -/
def testBegin (s : State) (t : TestName) : State :=
  match t with
  | .adcl => { s with saf := { s.saf with adclTest := 1 } }
  | .sto a =>
    let s := { s with saf := { s.saf with stoTest := 2 ^ a.val } }
    (List.range 3).foldl (fun (s : State) i => (monClaim s 1 i ((i + 1) * 4096 + a.val)).1) s
  | .move n => testOrigin (testTorque s n) n
  | .force n => testTorque s n
  | .home a => testTorque s a
  | .align a => testTorque s a
  | .lock n => setGcBit s (32 + n.val) (gcAllowed s (32 + n.val))
  | .gal c => setGcBit s c true
  | .fo n => s.setBit FIO.FO_OUT n true
  | .net => testNote s (netCounts s) true
  | .can n => { s.set (CAN.MODE n) 2 with svc := { s.svc with canMode := s.get (CAN.MODE n) } }
  | _ => s

/-- The start of a test: results cleared, the doorway in DEPOT and held (R203, R373). -/
def testStart (s : State) (t : TestName) : State :=
  let s := ((s.setB TEST.TEST_RUN true).setB TEST.TEST_PASS false).setB TEST.TEST_FAIL false
  let s := ((s.set TEST.TEST_CODE (testCode t)).set TEST.TEST_ARG (testArg t)).set TEST.TEST_RESULT 0
  let s := ((s.set TEST.TEST_VAL1 0).set TEST.TEST_VAL2 0).count TEST.TEST_RUN_CNT
  let s := { s.setB TEST.M_TEST (testMoving s t) with svc := { s.svc with
    notes := []
    testOk := true } }
  let s := match testDoor t with
    | none => s
    | some n =>
      let s := s.setBit TEST.TEST_OWN_DW n true
      if dwState s n = stDEPOT then s
      else
        let s := setState s n stDEPOT true
        s.setDw n { s.dw n with depotTest := true }
  galEval (safetyEval (testBegin (testStep (safetyEval s) 1) t))

/-- ALIGN steps the table address of its axis (R374). DESIGN CHOICE (log 106): two addresses a millisecond, after which R374's example
takes its 4 s. -/
def alignStep (s : State) (a e : Nat) : State := { s with svc := { s.svc with align := some (a, e % 4096) } }

/-- What ALIGN found of one revolution (R374): the counts of the way out and of the way back, each within 2 % of the 4096 addresses of an
electrical revolution at ENC_RATIO, positive for the positive way. -/
def alignJudge (s : State) (a : Nat) (way : Int) : State :=
  let k := (s.ax a).count
  let d := (k - s.svc.notes.getLastD 0) * way
  testNote s [k] (((d * (s.get (AX.ENC_RATIO a) : Nat) - 4096 * 65536).natAbs) * 50 ≤ 4096 * 65536)

/-- Frames a test of a controller sends (R374): 100 of each enabled format. -/
def canFrames (s : State) (n : Nat) : Nat := 100 * (1 + bit1 (s.on (CAN.FD_EN n)) + bit1 (s.on (CAN.XL_EN n)))

/-- One test frame a millisecond (R374), transmitted and returned in loopback where the controller runs (DESIGN CHOICE, log 116). -/
def canTestFrame (s : State) (n : Nat) : State :=
  if s.svc.moveAt ≤ canFrames s n then
    if s.works (pgCAN n) then s.count (CAN.TX_OK_CNT n) else testNote s [] false
  else testSay (testStep s 2) [canFrames s n]

/-- Both channels' accepted levels, 32 inputs a word. -/
def inputWords (s : State) : List Int :=
  [s.saf.saf.lv, s.saf.col.lv].flatMap (fun l => (List.range 5).map (fun i => ((l / 2 ^ (32 * i) % 2 ^ 32 : Nat) : Int)))

/-- What the static tests report of the block's own readings (R374). -/
def testReport (s : State) : List Int :=
  match s.get TEST.TEST_CODE with
  | 1 => [PWR.VL, PWR.VD, PWR.VGA, PWR.VGB, PWR.IL].map (fun r => (s.fieldVal r : Int))
  | 3 => inputWords s
  | 4 => [s.get COLM.EDM_A_MS, s.get COLM.EDM_B_MS]
  | 0xE => [ECN.A_LINK, ECN.B_LINK, MVB.LINE_A_OK, MVB.LINE_B_OK, LGL.LGL_PRESENT].map (fun r => (s.get r : Int)) ++
      List.zipWith (· - ·) (netCounts s) s.svc.notes
  | 0xF => (List.range 16).flatMap (fun h => if s.hasHead h then
      [LH.LINK_STATE h, LH.GEAR h, LH.HP_MW h, LH.GW_RUN h].map (fun r => (s.fieldVal r : Int)) else [])
  | 0x10 => [FLOW.FLOW_RDY, FLOW.MRAM_FAIL, FLOW.NAND_FAIL, FLOW.CTR_ONLY, FLOW.CAIRN 0].map (fun r => (s.get r : Int))
  | _ => []

/-- A static test reports and has done its part. -/
def testTold (s : State) : State := testStep (testSay s (testReport s)) 2

/-- What MOVE has measured of a step (R374): how far the axis has come since the test began it, and its switch. -/
def moveUm (s : State) (a : Nat) : Int := s.getS (AX.POS_UM a)

/-- A millisecond of a running test. -/
def testTick (s : State) : State :=
  if !s.on TEST.TEST_RUN then s
  else
    let s := { s with svc := { s.svc with moveAt := s.svc.moveAt + 1 } }
    let k := s.get TEST.TEST_STEP
    let n := s.get TEST.TEST_ARG % 8
    let a := s.get TEST.TEST_ARG % 16
    let ms := s.svc.moveAt
    match s.get TEST.TEST_CODE with
    | 1 => if k = 1 then testTold s else s
    | 2 => if k = 1 then clocksNext (testStep s 2) 0 else s
    | 3 => if 500 ≤ ms then testSay (testStep s k) (testReport s) else s
    | 0xD => if k = 1 then canTestFrame s (n % 4) else s
    | 0xE => if k = 1 && 10000 ≤ ms then testTold (testNote s [] (netCounts s = s.svc.notes)) else s
    | 0xF => if k = 1 then testTold s else s
    | 0x10 => if k = 1 then testTold s else s
    | 4 =>
      let hold := fun (s : State) (m : Nat) => { s with saf := { s.saf with adclTest := m } }
      if k = 1 && 500 ≤ ms then testStep (hold s 2) 2 else if k = 2 && 500 ≤ ms then testStep (hold s 0) 3
      else if k = 3 && 500 ≤ ms then testSay (testStep s 4) (testReport s) else s
    | 6 =>
      if k = 1 then (if testReady s a then alignStep (testStep (testNote s [(s.ax a).count] true) 2) a 0 else s)
      else if k = 2 then (if ms < 2048 then alignStep s a (2 * ms) else testStep (alignJudge s a 1) 3)
      else if k = 3 then (if ms < 2048 then alignStep s a (2 * (2048 - ms)) else testStep (alignStep (alignJudge s a (-1)) a 0) 4)
      else s
    | 7 =>
      if k = 1 && testReady s n then testStep (testPush (testNote s [moveUm s n] true) n (s.svc.from0 + mmAddr s n 100)) 2
      else if k = 2 && testReady s n then
        let d := moveUm s n - s.svc.notes.getLastD 0
        testStep (testNote s [d] (99500 ≤ d && d ≤ 100500 && !s.on (AX.SW_CLOSED n))) 3
      else if k = 3 && 2000 ≤ ms then testStep (testPush s n s.svc.from0) 4
      else if k = 4 && testReady s n then
        let s := testNote s [] (s.on (AX.SW_CLOSED n))
        (if s.hasAx (8 + n) then testStep (testOrigin (testTorque s (8 + n)) (8 + n)) 5 else testStep s 8)
      else if k = 5 && testReady s (8 + n) then testStep (testPush s (8 + n) (s.svc.from0 + mmAddr s (8 + n) 50)) 6
      else if k = 6 && testReady s (8 + n) then
        testStep (testPush (testNote s [] (!s.on (AX.SW_CLOSED (8 + n)))) (8 + n) s.svc.from0) 7
      else if k = 7 && testReady s (8 + n) then testStep (testNote s [] (s.on (AX.SW_CLOSED (8 + n)))) 8
      else s
    | 8 => if k = 1 && testReady s n then testStep (testPush s n (vlimLo s n)) 2 else s
    | 9 => if k = 1 && testReady s a then testStep (axHome s a).1 2 else s
    | 0xA =>
      if k = 1 && 2000 ≤ ms then
        let ma := s.chanMa (32 + n)
        let opened := !lvl s .saf (32 + n) && !lvl s .col (32 + n)
        galEval (testOff (testStep (testNote s [ma] (opened && ma ≤ s.get (GALC.ILIM (32 + n)))) 2))
      else s
    | 0xB => if k = 1 && 1000 ≤ ms then galEval (testOff (testStep s 2)) else s
    | 0xC => if k = 1 && 1000 ≤ ms then testOff (testStep s 2) else s
    | _ => s

/-- The step at which a test that the block moves on has done its part; 0 of one that waits for the technician alone (R374). -/
def testLast (code : Nat) : Nat :=
  match code with
  | 1 => 2 | 2 => 3 | 4 => 4 | 6 => 4 | 7 => 8 | 8 => 2 | 9 => 2 | 0xA => 2 | 0xB => 2 | 0xC => 2 | 0xD => 2 | 0xE => 2 | 0xF => 2
  | 0x10 => 2 | _ => 0

/-- What a pass asks of the readings that the block itself holds (R374), beside those its steps have judged: the channels agree; EDM
times within EDM_T and EDM not latched; the trip within 10 % of FLIM_ABS; HOME_RESULT 0x01 or 0x02; LOCKFB made again; FIO_FAULT 0; both
links up; every head in RUN at G2 with GW_GOOD; the recorder ready without a failure flag. -/
def testMeets (s : State) : Bool :=
  let code := s.get TEST.TEST_CODE
  let n := s.get TEST.TEST_ARG % 8
  s.svc.testOk && testLast code ≤ s.get TEST.TEST_STEP &&
  (match code with
  | 3 => s.saf.saf.lv = s.saf.col.lv
  | 4 => !bitAt (s.get SAFM.LATCH_SAF) 3 && !bitAt (s.get COLM.LATCH_COL) 3 && msTicks (s.get COLM.EDM_A_MS) ≤ edmTicks s &&
      msTicks (s.get COLM.EDM_B_MS) ≤ edmTicks s
  | 8 => ((s.get (AX.TRIP_F n) : Int) - s.get (AX.FLIM_ABS n)).natAbs * 10 ≤ s.get (AX.FLIM_ABS n)
  | 9 => let r := s.get (AX.HOME_RESULT (s.get TEST.TEST_ARG % 16)); r = 1 || r = 2
  | 0xA => lvl s .saf (32 + n) && lvl s .col (32 + n)
  | 0xC => !s.on FIO.FIO_FAULT
  | 0xE => s.on ECN.A_LINK && s.on ECN.B_LINK
  | 0xF => (List.range 16).all (fun h => !s.hasHead h || (s.on (LH.RUN h) && s.get (LH.GEAR h) = 2 && s.on (LH.GW_GOOD h)))
  | 0x10 => s.on FLOW.FLOW_RDY && !s.on FLOW.MRAM_FAIL && !s.on FLOW.NAND_FAIL && !s.on FLOW.CTR_ONLY
  | _ => true)

/-- TEST_COMPLETE (R373, R374): a pass of STO is a readback (R230); ALIGN writes the offset it found. The result and the readings are
reported on Slati. -/
def execTestComplete (pass : Bool) (v1 v2 : Int) (elOfs : Option (Fin 4096)) (s : State) : Out State :=
  if !s.on TEST.TEST_RUN then .next s
  else
    let pass := pass && testMeets s
    let code := s.get TEST.TEST_CODE
    let own := s.get TEST.TEST_OWN_DW
    let s := if code = 5 && pass then s.setB COLM.TEST_DUE false else s
    let s := match elOfs with
      | some e => if code = 6 then s.set (AX.EL_OFS (s.get TEST.TEST_ARG % 16)) e else s
      | none => s
    let s := if s.on TEST.M_TEST then
        eachAx (fun s a => if bitAt own (a % 8) && !(s.ax a).atRest then axAsk s a (.stop 1) else s) s
      else s
    let s := testRelease ((testOff s).setB TEST.TEST_RUN false)
    let s := ((s.setB TEST.TEST_PASS pass).setB TEST.TEST_FAIL (!pass)).set TEST.TEST_RESULT (if pass then 1 else 2)
    let s := testSay ((s.setS TEST.TEST_VAL1 v1).setS TEST.TEST_VAL2 v2) ([(bit1 pass : Int), v1, v2] ++ s.svc.notes)
    .next (galEval (safetyEval (if pass then s else s.count TEST.TEST_FAIL_CNT)))

/-- Whether a test holds a doorway against the host (R373). -/
def testHolds (s : State) (n : Nat) : Bool := s.on TEST.TEST_RUN && s.bit TEST.TEST_OWN_DW n

/-- A host write that a test keeps out: counted on its page and in HOST_DISC_CNT (R373). -/
def testDiscards (s : State) (pg : Nat) : State := (s.adj pg).count TEST.HOST_DISC_CNT

/-- CYCLE_TICK (R194, R196): the supervisor, and a millisecond of a running test. -/
def execCycleTick (s : State) : Out State :=
  .next (if supervising s then parkSync (safetyEval (testTick (eachDw dwTick s))) else s)

end Sys2Proof.Machine
end

