-- ==== Sys2Proof/Machine/Bus.lean ====
section
/-! DEFINITION. Writes as they reach the register interface (R75 to R90): which block acts on which register, the indirect
pairs and the storage behind them, the bit-alias window, narrow, wide and unaligned accesses. -/

namespace Sys2Proof.Machine

/-! The indirect spaces (R89): which a page has, their length in bytes, the domain they lie in. -/

/-- Whether a page has an indirect space. -/
def indPage (pg : Nat) : Bool :=
  pg = pgBOOT || pg = pgDRIP || pg = pgSAFM || (0x10 ≤ pg && pg < 0x21) || (0x28 ≤ pg && pg < 0x38) || pg = pgLVOL ||
  (0x50 ≤ pg && pg < 0x54) || pg = pgECN || pg = pgMVB || pg = pgLGL || pg = pgECHO || pg = pgDST || pg = pgFLOW

/-- The length of a space; 0 for space 0x0 and for codes that are not defined. -/
def spaceLen (s : State) (pg sp : Nat) : Nat :=
  if pg = pgBOOT then (if sp = 1 then s.get BOOT.SLOT_SIZE else 0)
  else if pg = pgDRIP then (if sp = 1 then 0x30 else 0)
  else if pg = pgSAFM then (if sp = 1 then 0x80 else 0)
  else if 0x10 ≤ pg && pg < 0x20 then (match sp with | 1 => 0x8200 | 2 => 0x800 | _ => 0)
  else if pg = pgTRV then (if sp = 1 then 0x20000 else 0)
  else if 0x28 ≤ pg && pg < 0x38 then (match sp with | 1 => 0x1000040 | 2 => 0x100 | 3 => 0x200 | 4 => 0x600000 | _ => 0)
  else if pg = pgLVOL then (match sp with | 1 => 0x200 | 2 => 0x400000 | 3 => 0x400 | _ => 0)
  else if 0x50 ≤ pg && pg < 0x54 then (if sp = 1 then 0x8000 else 0)
  else if pg = pgECN then (if sp = 1 then 0x100 else 0)
  else if pg = pgMVB then (match sp with | 1 => 0x100 | 2 => 0x400 | _ => 0)
  else if pg = pgLGL then (match sp with | 1 => 0x900 | 2 => 0x120 | _ => 0)
  else if pg = pgECHO then (match sp with | 1 => 0x2000 | 2 => 0x200 | _ => 0)
  else if pg = pgDST then (if sp = 1 || sp = 2 then 0x80 else 0)
  else if pg = pgFLOW then (match sp with | 1 => 0x10000000 | 2 => 0x8000000 | 3 => 0x200000 | 4 => 0x1000 | _ => 0)
  else 0

/-- The domain a space lies in: that of the page, but for LPDDR5 (R159, R186) and NAND (R343). -/
def spaceDom (pg sp : Nat) : Nat :=
  if 0x28 ≤ pg && pg < 0x38 then (if sp = 4 then 4 else 5)
  else if pg = pgLVOL then (if sp = 1 then 4 else 5)
  else if pg = pgFLOW then (if sp = 3 then 11 else 3)
  else domOf pg

/-- Whether a space takes writes at all. -/
def spaceRw (pg sp : Nat) : Bool :=
  pg = pgBOOT || pg = pgDRIP || (0x10 ≤ pg && pg < 0x20 && sp = 1) || pg = pgTRV || (pg = pgLVOL && sp = 3) ||
  (0x50 ≤ pg && pg < 0x54) || pg = pgECN || pg = pgMVB || (pg = pgLGL && sp = 2)

/-- The space behind page BOOT: the slot that is not running (R63, R74). Space 1 of the model holds slot A, 2 slot B. -/
def idleSlot (s : State) : Nat := 1 - s.get BOOT.RUN_SLOT

/-- A word of a slot header (R157). -/
def slotHeader (s : State) (h a : Nat) : Nat :=
  let q := (s.head h).slots.getD (a / 64) Slot.free
  match a % 64 / 4 with
  | 0 => q.num
  | 1 => q.time
  | 2 => bit1 q.burst + frameWidth q.burst * 16 + q.state * 2 ^ 16
  | _ => 0

/-- Bytes `f` gives, put together to the word at `a`. -/
def wordAt (f : Nat → Nat) (a : Nat) : Nat := f a + f (a + 1) * 2 ^ 8 + f (a + 2) * 2 ^ 16 + f (a + 3) * 2 ^ 24

/-- Whether the life-cycle state lets the pixels of a head be read (R159). -/
def pixelsShown (s : State) : Bool := s.lc = lcFACTORY || s.lc = lcCOMMISSION || s.lc = lcDEPOT

/-- The word that storage holds at an address of a space, for a reader. -/
def indWord (s : State) (src : Src) (pg sp a : Nat) : Nat :=
  if pg = pgBOOT then s.rd32 pgBOOT (1 + idleSlot s) a
  else if 0x28 ≤ pg && pg < 0x38 && sp = 3 then slotHeader s (pg - 0x28) a
  else if 0x28 ≤ pg && pg < 0x38 && sp = 4 then
    (if pixelsShown s then s.rd32 pgLANT spPart (partRing (pg - 0x28) (s.head (pg - 0x28)).latest + a) else 0)
  else if 0x28 ≤ pg && pg < 0x38 && sp = 1 then s.rd32 pgLANT spPart (partCal (pg - 0x28) + a)
  else if pg = pgLVOL && sp = 2 then s.rd32 pgLANT spPart (partStatic 0 + a)
  else if pg = pgLVOL && sp = 1 then ((s.head (a / 0x20)).lq.headD []).getD (a % 0x20 / 4) 0
  else if pg = pgMVB && sp = 2 then wordAt (mvbByte s src) a
  else if pg = pgECHO then
    (if sp = 1 then slotWord s (a / 0x20) (a % 0x20 / 4) else logWord s (a / 8) (a % 8 / 4))
  else if pg = pgDST && sp = 1 then streamWord s (a / 0x20) (a % 0x20 / 4)
  else if pg = pgFLOW then
    (match sp with
    | 1 => wordAt (mramByte s arEVENT) a
    | 2 => wordAt (mramByte s arCYCLE) a
    | 3 => wordAt (windowByte s) a
    | _ => wordAt (fun i => (chunkFull s).getD i 0) a)
  else s.rd32 pg sp a

/-- A table entry's halfword as it is stored: −32768 becomes −32767 (R96). -/
def tableHalf (v : Nat) : Nat := if v % 0x10000 = 0x8000 then 0x8001 else v % 0x10000

/-- A posted write reaches storage (R63, R89, R96, R100, R165, R285, R308, R310, R357). DESIGN CHOICE (log 102): the reserved halfword
of a table entry's word 1 is kept as written and reads so, which R96 asks of the CRC over it only. -/
def indStore (s : State) (pg sp a v : Nat) : Wrote :=
  if pg = pgBOOT then
    let k := idleSlot s
    let s := s.wr32 pgBOOT (1 + k) a v
    ({ s with pwr := { s.pwr with confirmed := putBit s.pwr.confirmed k false } }, false)
  else if pg = pgDRIP then dripWrite s a v
  else if pg = pgTRV then
    if s.bit TRV.TBL_INUSE (a / 0x8000) then (s, true)
    else (s.wr32 pgTRV 1 a (tableHalf v + (if a % 8 = 0 then tableHalf (v / 0x10000) else v / 0x10000) * 0x10000), false)
  else if 0x10 ≤ pg && pg < 0x20 then
    let k := if a < 0x200 then a / 0x10 else (a - 0x200) / 0x400
    if prfInUse s (pg - 0x10) k then (s, true)
    else ((s.setBit (AX.PRF_VALID (pg - 0x10)) k false).wr32 pg 1 a v, false)
  else if pg = pgLVOL then poseWrite s (a / 0x40) (a % 0x40 / 4) v
  else if 0x50 ≤ pg && pg < 0x54 then (if ramTakes s (pg - 0x50) a then (s.wr32 pg 1 a v, false) else (s, true))
  else if pg = pgMVB && sp = 1 then
    if s.on (HDR.EN pgMVB) then (s, true)
    else if a % 8 = 0 then
      (staleEnd (s.wr32 pgMVB 1 a (Nat.land v 0xCFFF0000 + (if 4 < bitsOf v 8 8 then 0 else bitsOf v 8 8) * 0x100)) (a / 8), false)
    else (staleEnd (s.wr32 pgMVB 1 a (v % 0x10000)) (a / 8), false)
  else (s.wr32 pg sp a v, false)

/-! The pair (R89). -/

/-- Whether the space that a pair selects is unreachable, and whether the pair stands past its end. -/
def indOff (s : State) (pg : Nat) (p : IndPair) : Bool := p.space != 0 && !s.domOn (spaceDom pg p.space)
def indEnd (s : State) (pg : Nat) (p : IndPair) : Bool := spaceLen s pg p.space ≤ p.addr

/-- The posted write of a pair made in storage, and whether it was clamped or discarded there. -/
def indComplete (s : State) (pg : Nat) (src : Src) : Wrote :=
  let p := s.pair pg src
  match p.post with
  | none => (s, false)
  | some (sp, a, v) =>
    let s := s.setPair pg src { p with post := none }
    if s.domOn (spaceDom pg sp) then indStore s pg sp a v else (s, true)

/-- A posted write completes. -/
def indPosted (s : State) (pg : Nat) (src : Src) : State := counted pg (indComplete s pg src)

/-- A prefetch completes; it stays behind a posted write. Word 0 of a sink port is latched with its port (R308). -/
def indFetched (s : State) (pg : Nat) (src : Src) : State :=
  let p := s.pair pg src
  if !p.fetch || p.post.isSome then s
  else
    let gone := indOff s pg p || indEnd s pg p
    let s := if pg = pgMVB && p.space = 2 && p.addr % 32 = 0 && !gone then mvbLatch s src (p.addr / 32) else s
    s.setPair pg src { p with
      fetch := false
      word := if gone then 0 else indWord s src pg p.space p.addr }

/-- An access that meets IND_BUSY waits until the pair is idle. -/
def indSettle (s : State) (pg : Nat) (src : Src) : State := indFetched (indPosted s pg src) pg src

/-- The address advances, which starts a prefetch. -/
def indAdvance (s : State) (pg : Nat) (src : Src) : State :=
  let p := s.pair pg src
  if p.incDis || p.space = 0 then s
  else s.setPair pg src { p with
    addr := min (p.addr + 4) (spaceLen s pg p.space)
    fetch := true }

/-- A read of IND_DATA: the prefetched word, 0 past the end and while the space is off. -/
def indRead (s : State) (pg : Nat) (src : Src) : State :=
  let s := indSettle s pg src
  let p := s.pair pg src
  let v := if indOff s pg p || indEnd s pg p then 0 else p.word
  let s := if 0x28 ≤ pg && pg < 0x38 && p.space = 4 && !pixelsShown s then s.adj pg else s
  { indAdvance s pg src with rdata := BitVec.ofNat 32 v }

/-- A write of IND_DATA: posted to the present address. -/
def indData (s : State) (pg : Nat) (src : Src) (v : Nat) : Wrote :=
  let p := s.pair pg src
  if indEnd s pg p || indOff s pg p || !spaceRw pg p.space then (s, true)
  else (indAdvance (s.setPair pg src { p with post := some (p.space, p.addr, v) }) pg src, false)

/-- IND_ADDR set, no further than one word past the end of the space; it starts a prefetch. -/
def indAddr (s : State) (pg : Nat) (src : Src) (v : Nat) : Wrote :=
  let p := s.pair pg src
  let a := v / 4 * 4
  let e := spaceLen s pg p.space
  (s.setPair pg src { p with
    addr := min a e
    fetch := true }, e < a)

/-- SPACE and INC_DIS set: a code that is not defined becomes 0x0; the address stays within the new space. `sel` says that
the write reaches SPACE, which starts a prefetch. -/
def indCtrl (s : State) (pg : Nat) (src : Src) (v : Nat) (sel : Bool) : Wrote :=
  let p := s.pair pg src
  let sp := if spaceLen s pg (v % 16) = 0 then 0 else v % 16
  (s.setPair pg src { p with
    space := sp
    incDis := bitAt v 8
    addr := min p.addr (spaceLen s pg sp)
    fetch := p.fetch || sel }, sp != v % 16)

/-- What the three registers of a pair read as, IND_DATA without its side effect. -/
def indReg (s : State) (pg : Nat) (src : Src) (off : Nat) : Nat :=
  let p := s.pair pg src
  if !indPage pg then 0
  else if off = 0x030 then p.addr
  else if off = 0x034 then (if indOff s pg p || indEnd s pg p then 0 else p.word)
  else bit1 (p.fetch || p.post.isSome) * 2 ^ 31 + bit1 (indEnd s pg p) * 2 ^ 30 + bit1 (indOff s pg p) * 2 ^ 29 +
    bit1 p.incDis * 2 ^ 8 + p.space

/-- A write into the pair. -/
def indWrite (s : State) (w : Wr) : Wrote :=
  let pg := pgOf w.addr
  let off := offOf w.addr
  let live := if off = 0x030 then 0xFFFFFFFC else if off = 0x034 then 0xFFFFFFFF else 0x10F
  if !indPage pg then (s, true)
  else if off = 0x034 && (w.mask != 0xFFFFFFFF || w.odd) then (s, true)
  else if Nat.land w.mask live = 0 then (s, w.odd || (w.viaAlias && 0x1FFFFFFF < w.mask))
  else
    let cur := Nat.land (indReg s pg w.src off) live
    let v := Nat.lor (Nat.land w.val (Nat.land w.mask live)) (Nat.land cur (Nat.xor w.mask 0xFFFFFFFF))
    if s.hwLock pg then (s, off = 0x034 || v != cur || w.odd)
    else
      let s := indSettle s pg w.src
      let (s, adj) :=
        if off = 0x030 then indAddr s pg w.src v
        else if off = 0x034 then indData s pg w.src v
        else indCtrl s pg w.src v (w.mask % 16 != 0)
      (s, adj || w.odd)

/-! Registers with a behaviour of their own. -/

/-- Doorway, channel or controller that an offset belongs to. -/
def cycOf (off : Nat) : Nat := (off - 0x200) / 0x80
def volOf (off : Nat) : Nat := (off - 0x100) / 0x40
def chOf (off : Nat) : Nat := (off - 0x100) / 0x20

/-- Whether a field takes a write now, by the rules of its block. -/
def pageTakes (s : State) (pg off : Nat) (r : Reg) : Bool :=
  if 0x10 ≤ pg && pg < 0x20 then axTakes s (pg - 0x10) r
  else if 0x50 ≤ pg && pg < 0x54 then canTakes s (pg - 0x50) r
  else if off < 0x040 then true
  else if pg = pgCYC then cycTakes s (cycOf off) r
  else if pg = pgLVOL && 0x100 ≤ off then !s.on (AX.MOVING (volOf off))
  else if pg = pgGAL && 0x100 ≤ off then chTakes s (chOf off) r
  else if pg = pgCRAWL then !s.on CRAWL.CRAWL_ON
  else if pg = pgFIO then fioTakes s r
  else if pg = pgECN && 0x060 ≤ off && off < 0x080 && off % 8 = 0 then !s.on (HDR.EN pgECN)
  else if r = MVB.MVB_ADDR then !s.on (HDR.EN pgMVB)
  else if r = LGL.ROLE || r = LGL.BAUD || r = LGL.OWN_ADDR then !s.on (HDR.EN pgLGL)
  else true

/-- What a written value becomes by the rules of its block. -/
def pageLimit (s : State) (pg off : Nat) (r : Reg) (v : Nat) : Nat :=
  if 0x10 ≤ pg && pg < 0x20 then axLimit s (pg - 0x10) r v
  else if 0x50 ≤ pg && pg < 0x54 then canLimit s (pg - 0x50) r v
  else if off < 0x040 then v
  else if pg = pgCYC then cycLimit s (cycOf off) r v
  else if r = GAL.GC_ON_LO then gcLimit s false v
  else if r = GAL.GC_ON_HI then gcLimit s true v
  else if pg = pgGAL && 0x100 ≤ off then chLimit s (chOf off) r v
  else if pg = pgFIO then fioLimit s r v
  else if pg = pgECN && 0x060 ≤ off && off < 0x080 then (if off % 8 = 0 then v / 4096 * 4096 else tailLimit s ((off - 0x060) / 8) v)
  else if r = LGL.POLL_MASK then v / 2 * 2
  else if r = ECHO.CHG_RD then chgLimit s v
  else v

/-- The rules of a page for a register at `off`. -/
def pageRules (pg off : Nat) : Rules := (fun s d => pageTakes s pg off d.reg, fun s d v => pageLimit s pg off d.reg v)

/-- PG_CTRL of a page written, `s0` before: the block acts on EN and LP_REQ (R78, R118, R146, R268, R278, R297, R299). -/
def ctrlWritten (s0 s : State) (pg : Nat) : State :=
  if 0x10 ≤ pg && pg < 0x20 then axEnWritten s (pg - 0x10)
  else if pg = pgTRV then eachAx axEnWritten s
  else if 0x28 ≤ pg && pg < 0x38 then visionEval (portSync s (pg - 0x28))
  else if pg = pgLANT || pg = pgLVOL then visionEval s
  else if pg = pgGAL then galEnWritten s
  else if pg = pgFIO then fioEnWritten s
  else if 0x50 ≤ pg && pg < 0x54 then versionsAgain (canLpWritten (canEnWritten (s0.on (HDR.EN pg)) s (pg - 0x50)) (pg - 0x50))
  else s

/-- The limits that tie the fields of a register together, at the write (R86): SLAB_Z_HI stays 10 above SLAB_Z_LO (R186), the
timings of a controller stay within their bounds (R282 to R284), a virtual limit on its side of the other (R126), the window over
NAND in its area (R350). -/
def settled (s : State) (pg off : Nat) : Wrote :=
  if pg = pgFLOW && off = 0x06C then
    let last := areaPages (s.get FLOW.NAREA) - 1
    if last < s.get FLOW.NPAGE then (s.set FLOW.NPAGE last, true) else (s, false)
  else
  if pg = pgLVOL && off % 0x40 = 0x1C && 0x100 ≤ off then
    let lo := s.get (LVOLD.SLAB_Z_LO (volOf off)) + 10
    let hi := LVOLD.SLAB_Z_HI (volOf off)
    if s.get hi < lo then (s.set hi lo, true) else (s, false)
  else if 0x50 ≤ pg && pg < 0x54 then
    let n := pg - 0x50
    if off = 0x048 then formatFix s n
    else if off = 0x04C then nominalFix s n
    else if off = 0x050 then fdFix s n
    else if off = 0x054 then xlFix s n
    else (s, false)
  else (s, false)

/-- What a write into a page of Traverse sets off: `s0` is the state before it. -/
def axWritten (s0 s : State) (n off : Nat) : Wrote :=
  if off = 0x044 then
    let s := if s0.on (AX.TORQUE_REQ n) && !s.on (AX.TORQUE_REQ n) then torqueWithdrawn s n else s
    (if s.get (AX.MODE n) != s0.get (AX.MODE n) then axModeWritten s n else s, false)
  else if off = offOf (AX.AX_DEV_WIN n).addr then (devWinWritten s n, false)
  else if off = offOf (AX.AX_VLIM_LO_LO n).addr then vlimWritten s0 s n true
  else if off = offOf (AX.AX_VLIM_HI_LO n).addr then vlimWritten s0 s n false
  else (axShow (if modelsChanged s0 s n then envClear s n else s) n, false)

/-- What a register write sets off beyond the stored fields: `s0` is the state before it. Another clamp may count. -/
def written (s0 s : State) (pg off : Nat) : Wrote :=
  if off = 0x00C then (ctrlWritten s0 s pg, false)
  else if off < 0x040 then (s, false)
  else if 0x10 ≤ pg && pg < 0x20 then axWritten s0 s (pg - 0x10) off
  else
    (if pg = pgSYS then
      if off = 0x054 then step4 s
      else if off = 0x058 then
        { s with pwr := { s.pwr with wdRun := s.pwr.wdRun || (s.on SYS.HOST_WD_MS && !s0.on SYS.HOST_WD_MS) } }
      else s
    else if pg = pgPWR then (if off = 0x040 then modeReqWritten s else s)
    else if pg = pgCLK then
      (if s.pwr.phase = .starting || s.pwr.phase = .active then s.set CLK.APP_NOW (s.get CLK.APP_SEL) else s)
    else if pg = pgBOOT then bootConfirmed s
    else if pg = pgGAL then
      if off < 0x100 then galEval s else followWritten s (chOf off) (s0.on (GALC.FOLLOW (chOf off)))
    else if pg = pgFIO then (if off = offOf FIO.THR.addr then thrWritten s0 s else s)
    else if 0x50 ≤ pg && pg < 0x54 then (if off = 0x048 then versionsAgain (canShow s (pg - 0x50)) else s)
    else if pg = pgECN && 0x064 ≤ off && off < 0x080 && off % 8 = 4 then tailWritten s ((off - 0x064) / 8)
    else if pg = pgDVR then versionsAgain s
    else if pg = pgFLOW then
      if off = offOf FLOW.RD_CLASS.addr then latchClass s
      else if off = offOf FLOW.NAND_HOLD.addr && s.on FLOW.NAND_HOLD && !s0.on FLOW.NAND_HOLD then nandPower s true
      else s
    else s, false)

/-- A write of a command register (R73, R81): another value than its commands is discarded and counted. -/
def command (s : State) (src : Src) (pg off v : Nat) : Wrote :=
  if pg = pgSYS then
    if off = 0x04C then (if v = 0xA5C3 then ((restartAsked s SYS.HOST_RST).1, false) else (s, true))
    else (s, v != 0x5A3C)
  else if pg = pgCYC then cycReq s (cycOf off) v
  else if 0x10 ≤ pg && pg < 0x20 then
    if off = offOf (AX.AX_CMD 0).addr then axCommand s (pg - 0x10) v else prfCommit s (pg - 0x10) v
  else if pg = pgTRV then trvGo s v
  else if 0x28 ≤ pg && pg < 0x38 then
    let (s, adj) := lhCommand s (pg - 0x28) v
    (visionEval s, adj)
  else if pg = pgLVOL then
    let (s, adj) := if off = offOf LVOL.LQ_ACK.addr then lqAck s v else bgCommand s v
    (visionEval s, adj)
  else if pg = pgGAL then galCommand s v
  else if 0x50 ≤ pg && pg < 0x54 then
    if off = 0x060 then canCommand s (pg - 0x50) v
    else if off = 0x064 then txCommand s (pg - 0x50) v
    else rxAck s (pg - 0x50) v
  else if pg = pgLGL then lglCommand s v
  else if off = offOf FLOW.FLOW_CMD.addr then flowCommand s src v
  else if off = offOf FLOW.EXP_ACK_CRC.addr then (s.setFlow { s.flow with ackCrc := v }, false)
  else exportAck s v s.flow.ackCrc

/-! The claims of page RES (R91, R92). -/

/-- Resources of each class that the host can claim, and the field by which it does. -/
def resReg (cls : Nat) : Reg := if cls = 0 then RES.HOST_DIR else if cls = 1 then RES.HOST_CSTEP else RES.HOST_MON
def resHas (s : State) (cls i : Nat) : Bool := cls != 1 || s.hasDw i

/-- One bit of a claim register written: a claim that fails leaves it 0 and counts as R91 states. -/
def resBit (cls i : Nat) (b : Bool) (r : Wrote) : Wrote :=
  let (s, adj) := r
  if s.bit (resReg cls) i = b then r
  else if !b then
    let s := if cls = 2 && s.owner 2 i = 5 then setTpSel s i 0 else s
    ((s.release cls i 5).setBit (resReg cls) i false, adj)
  else if !resHas s cls i then (s, true)
  else
    let n := s.get (HDR.PG_ADJ_CNT pgRES)
    let (s, ok, _) := s.claim cls i 5
    if ok then (s.setBit (resReg cls) i true, adj) else (s.set (HDR.PG_ADJ_CNT pgRES) n, true)

/-- A write of HOST_DIR, HOST_CSTEP or HOST_MON. -/
def resWrite (s : State) (cls : Nat) (mask v : Nat) : Wrote :=
  let rec go : Nat → Wrote → Wrote
    | 0, r => r
    | n + 1, r =>
      let r := go n r
      if bitAt mask n then resBit cls n (bitAt v n) r else r
  go (resReg cls).w (s, false)

/-! One register write (R77, R83, R87, R88). -/

/-- Whether a writable 64-bit value has its high word at this place; its low word follows. -/
def wideHi (pg off : Nat) : Bool :=
  if 0x10 ≤ pg && pg < 0x20 then off = 0x050 || off = 0x080 || off = 0x088 || off = 0x0F8
  else if pg = pgLVOL then 0x100 ≤ off && off < 0x300 && (off % 0x40 = 0x04 || off % 0x40 = 0x0C)
  else if 0x50 ≤ pg && pg < 0x54 then off = 0x088
  else pg = pgFLOW && (off = 0x070 || off = 0x08C)

/-- One half of a 64-bit value written (R83). -/
def wideWrite (s : State) (w : Wr) (high : Bool) : Wrote :=
  let pg := pgOf w.addr
  let off := offOf w.addr
  let at0 := if high then w.addr else w.addr - 4
  match rowsAt at0, rowsAt (at0 + 4) with
  | [hi], [lo] =>
    if high then wideHigh (pageRules pg off) s w.src hi w.val
    else
      let (s1, adj) := wideLow (pageRules pg off) s w.src hi lo w.val
      let (s2, more) := if adj then (s1, false) else written s s1 pg off
      (s2, adj || more)
  | _, _ => (s, true)

/-- The two selectors of a TP_SEL register (R377), each for the owner of its point. -/
def tpWord (s : State) (w : Wr) : Wrote :=
  let k := (offOf w.addr - 0x050) / 4
  if s.hwLock pgTEST then (s, Nat.land (s.merged w) 0xF03FF03F != s.regVal w.addr || w.odd)
  else
    let v := s.merged w
    let (s, a) := if w.mask % 0x10000 != 0 then tpWrite s w.src (2 * k) (v % 0x10000) else (s, false)
    let (s, b) := if w.mask / 0x10000 != 0 then tpWrite s w.src (2 * k + 1) (v / 0x10000) else (s, false)
    (s, a || b || w.odd)

/-- A write of a word of the Crawl map (R265): reserved bits are ignored. -/
def mapWord (s : State) (w : Wr) (k : Nat) : Wrote :=
  let v := Nat.land (s.merged w) 0x8F8F8F8F
  let old := s.get (CRAWL.CRAWL_MAP k)
  if s.hwLock pgCRAWL || s.on (HDR.HOST_LOCK pgCRAWL) || s.on CRAWL.CRAWL_ON then (s, v != old || w.odd)
  else (mapWritten (s.set (CRAWL.CRAWL_MAP k) (mapLimit s k v)) k, mapClamps s k v || w.odd)

/-- Whether a running moving test keeps the host out of a page: the axes of its doorway (R373). -/
def testPage (s : State) (src : Src) (pg : Nat) : Bool :=
  src = Src.host && 0x10 ≤ pg && pg < 0x20 && testHolds s (pg % 8)

/-- The host's command bits of a Gallery write without the lock bits that a test holds (R373). -/
def lockKept (s : State) (w : Wr) : Wr :=
  let held := if w.src = Src.host then maskOf (fun n => testHolds s n && bitAt w.mask n && bitAt w.val n != s.bit GAL.GC_ON_HI n) 8 else 0
  { w with mask := w.mask - held }

/-- The writable fields of a register at a value. -/
def putWord (s : State) (addr v : Nat) : State :=
  (rowsAt addr).foldl (fun s d => if d.acc = .ro then s else s.set d.reg (bitsOf v d.reg.lo d.reg.w)) s

/-- The stored writes of a domain take effect in order, each on the registers as they were before it; Refuge
freezes them (R77, R87). -/
def replay (s : State) (d : Nat) : State :=
  let mine := if s.inRefuge then [] else s.deferred.filter (fun w => domOf (pgOf w.addr) = d)
  let s := { s with deferred := s.deferred.filter (fun w => domOf (pgOf w.addr) != d) }
  let s := mine.reverse.foldl (fun s w => putWord s w.addr w.before) s
  mine.foldl (fun s w => (written s (putWord s w.addr w.after) (pgOf w.addr) (offOf w.addr)).1) s

/-- A write into a register of a page that exists: the indirect pair, a command, half of a 64-bit value, or fields that
are stored. An absent instance discards and counts what meets a field of it (R6, R12); DESIGN CHOICE (log 119): also where the
write would change nothing, while a bit of a shared register that belongs to an absent instance counts only when it is written 1.
While the domain of the block is off, stored values wait for it; a write that comes once it is on takes the place of those that
still wait for its register (R77). -/
def regWrite (s : State) (w : Wr) : Wrote :=
  let pg := pgOf w.addr
  let off := offOf w.addr
  let rows := rowsAt w.addr
  if 0x030 ≤ off && off < 0x03C then indWrite s w
  else if !s.hasInst w.addr then (s, w.odd || rows.any (fun d => bitsOf w.mask d.reg.lo d.reg.w != 0))
  else if rows.any (·.acc = .wo) then
    if w.mask != 0xFFFFFFFF || w.odd then (s, true)
    else if s.hwLock pg then (s, w.val != 0)
    else if !s.pageOn pg then (s, true)
    else command s w.src pg off w.val
  else if wideHi pg off then (if w.mask != 0xFFFFFFFF || w.odd then (s, true) else wideWrite s w true)
  else if wideHi pg (off - 4) && off % 4 = 0 && 4 ≤ off then
    (if w.mask != 0xFFFFFFFF || w.odd then (s.unstage (w.addr - 4), true) else wideWrite s w false)
  else if pg = pgTEST && 0x050 ≤ off && off < 0x070 then tpWord s w
  else if pg = pgRES && 0x054 ≤ off && off < 0x060 then
    if s.hwLock pg then (s, bitsOf (s.merged w) 0 (resReg ((off - 0x054) / 4)).w != s.regVal w.addr || w.odd)
    else
      let (s, adj) := resWrite s ((off - 0x054) / 4) w.mask w.val
      (s, adj || w.odd)
  else if pg = pgCRAWL && rows.any (fun d => d.reg.addr = w.addr && d.acc = .rwv) then mapWord s w ((w.addr - (CRAWL.CRAWL_MAP 0).addr) / 4)
  else
    let (s1, adj) := storeWord (pageRules pg off) s w
    if (rows.filter (fun d => bitsOf w.mask d.reg.lo d.reg.w != 0)).all (·.acc = .ro) then (s1, adj)
    else
      let (s2, more) := settled s1 pg off
      if !s.pageOn pg then
        (if s2.regs = s.regs then s2
         else { s2 with deferred := s2.deferred ++ [⟨w.addr, s.regVal w.addr, s2.regVal w.addr⟩] }, adj || more)
      else
        let (s3, last) := written s (s2.undefer w.addr) pg off
        (s3, adj || more || last)

/-- A write as it arrives at a page (R6, R373): an absent page counts it on page SYS. One that a running test discards ends the
stage of its 64-bit value, as any discarded write of a low word does (R83). -/
def pageWrite (s : State) (w : Wr) : State :=
  let pg := pgOf w.addr
  if !s.hasPage pg then s.adj pgSYS
  else if testPage s w.src pg then
    testDiscards (if wideHi pg (offOf w.addr - 4) && 4 ≤ offOf w.addr then s.unstage (w.addr - 4) else s) pg
  else if w.src = Src.host && pg = pgCYC && 0x200 ≤ offOf w.addr && offOf w.addr < 0x600 &&
     (rowsAt w.addr).any (fun d => d.reg = CYCD.CYC_REQ (cycOf (offOf w.addr))) && testHolds s (cycOf (offOf w.addr)) then testDiscards s pg
  else if pg = pgGAL && w.addr = GAL.GC_ON_HI.addr && (lockKept s w).mask != w.mask then
    testDiscards (regWrite s (lockKept s w)).1 pg
  else counted pg (regWrite s w)

/-! Accesses on the bus. -/

/-- The aligned word of an access, and the bits of it that the access carries (R88). -/
def busWr (src : Src) (addr n val : Nat) : Wr :=
  let b := addr % 4
  let k := min n (4 - b)
  ⟨src, addr - b, (2 ^ (8 * k) - 1) * 2 ^ (8 * b), val % 2 ^ (8 * k) * 2 ^ (8 * b), false, addr % n != 0⟩

/-- A write into the bit-alias window (R85). -/
def aliasWrite (s : State) (src : Src) (rel : Nat) (n val : Nat) : State :=
  let pg := rel / 0x2000
  let i := rel % 0x2000 / 4
  if !s.hasPage pg then s.adj pgSYS
  else if n != 4 || rel % 4 != 0 then s.adj pg
  else pageWrite s ⟨src, pg * 0x1000 + i / 32 * 4, 2 ^ (i % 32), val % 2 * 2 ^ (i % 32), true, false⟩

/-- The bytes of an access width. -/
def widthBytes (wd : Width) : Nat := match wd with | .w1 => 1 | .w2 => 2 | .w4 => 4 | .w8 => 8

/-- A write on the bus (R75, R85, R88): the page window, the bit-alias window, what lies between and above. The interface
stands in P3. -/
def busWrite (s : State) (src : Src) (addr n val : Nat) : State :=
  if !busUp s || addr < 0x40000000 || 0x50000000 ≤ addr then s
  else if addr < 0x40100000 then
    let a := addr - 0x40000000
    if n = 8 && a % 8 = 0 then
      pageWrite (pageWrite s (busWr src a 4 (val % 2 ^ 32))) (busWr src (a + 4) 4 (val / 2 ^ 32))
    else pageWrite s (busWr src a n val)
  else if 0x48000000 ≤ addr && addr < 0x48200000 then aliasWrite s src (addr - 0x48000000) n val
  else if n = 8 && addr % 8 = 0 then (s.adj pgSYS).adj pgSYS
  else s.adj pgSYS

/-- A word of a page as a host read returns it, the indirect registers included (R12, R77, R89): nothing of an absent page. -/
def busWord (s : State) (src : Src) (a : Nat) : Nat :=
  if !s.hasPage (pgOf a) then 0
  else if 0x030 ≤ offOf a && offOf a < 0x03C then indReg s (pgOf a) src (offOf a)
  else s.readWord a

/-- Whether the register at an aligned address is whole-word (R88): IND_DATA, both halves of every 64-bit value, a command
register. -/
def wholeWord (a : Nat) : Bool := offOf a = 0x034 || (rowsAt a).any (·.whole)

/-- What a read on the bus returns (R6, R75, R83, R85, R88): the addressed bytes of the page window, the whole aligned word for
an unaligned read, one bit of the alias window, 0 elsewhere. A 64-bit read is two reads, low address first. -/
def busReads (s : State) (src : Src) (addr n : Nat) : Nat :=
  if !busUp s || addr < 0x40000000 || 0x50000000 ≤ addr then 0
  else if addr < 0x40100000 then
    let a := addr - 0x40000000
    let lo := busWord s src (a - a % 4)
    if n = 8 && a % 8 = 0 then lo + busWord s src (a + 4) * 2 ^ 32
    else if a % n != 0 then lo
    else bitsOf lo (8 * (a % 4)) (8 * n)
  else if 0x48000000 ≤ addr && addr < 0x48200000 then
    let rel := addr - 0x48000000
    let i := rel % 0x2000 / 4
    let a := rel / 0x2000 * 0x1000 + i / 32 * 4
    if n != 4 || rel % 4 != 0 || wholeWord a then 0 else bitsOf (busWord s src a) (i % 32) 1
  else 0

/-- A read on the bus (R88, R89): its value, and what it leaves. A full aligned read of IND_DATA has its effect, in the half that
names it; a narrow or an unaligned read of a whole-word register, and any unaligned read, is counted and changes nothing
else, but that one of IND_DATA waits for a busy pair as any access does (R89). What lies outside both windows is read as an
absent page is (R75). -/
def busRead (s : State) (src : Src) (addr n : Nat) : Nat × State :=
  let v := busReads s src addr n
  if !busUp s || addr < 0x40000000 || 0x50000000 ≤ addr then (v, s)
  else if 0x40100000 ≤ addr then
    (v, if addr % n != 0 && !(0x48000000 ≤ addr && addr < 0x48200000) then s.adj pgSYS else s)
  else
    let a := addr - 0x40000000
    let pg := pgOf a
    let page := if s.hasPage pg then pg else pgSYS
    if a % n != 0 || (n < 4 && s.hasPage pg && wholeWord (a - a % 4)) then
      let t := if offOf (a - a % 4) = 0x034 && s.hasPage pg && indPage pg then indSettle s pg src else s
      (busReads t src addr n, t.adj page)
    else
      let at0 := if n = 8 && offOf a = 0x030 then a + 4 else a
      if offOf at0 = 0x034 && 4 ≤ n && s.hasPage pg && indPage pg then
        let t := indRead s pg src
        (if n = 8 then (if at0 = a then t.rdata.toNat + v / 2 ^ 32 * 2 ^ 32 else v % 2 ^ 32 + t.rdata.toNat * 2 ^ 32)
         else t.rdata.toNat, t)
      else (v, s)

/-- A write of one whole register of a page. -/
def wordWrite (s : State) (src : Src) (pg off : Nat) (v : Nat) : State :=
  busWrite s src (0x40000000 + pg * 0x1000 + off) 4 v

/-! The rows of the table that name accesses and the register interface itself. -/

/-- REGISTER_WRITE. -/
def execRegisterWrite (src : Src) (addr : Word) (wd : Width) (val : BitVec 64) (s : State) : Out State :=
  .next (busWrite s src addr.toNat (widthBytes wd) val.toNat)

/-- BIT_ALIAS_WRITE. -/
def execBitAliasWrite (src : Src) (addr : Word) (wd : Width) (val : Word) (s : State) : Out State :=
  .next (busWrite s src addr.toNat (widthBytes wd) val.toNat)

/-- WIDE_HIGH_WRITE. -/
def execWideHighWrite (src : Src) (addr : Word) (val : Word) (s : State) : Out State := .next (busWrite s src addr.toNat 4 val.toNat)

/-- WIDE_LOW_WRITE. -/
def execWideLowWrite (src : Src) (addr : Word) (val : Word) (s : State) : Out State := .next (busWrite s src addr.toNat 4 val.toNat)

/-- IND_ADDR_WRITE. -/
def execIndAddrWrite (src : Src) (pg : Fin 256) (val : Word) (s : State) : Out State := .next (wordWrite s src pg 0x030 val.toNat)

/-- IND_CTRL_WRITE. -/
def execIndCtrlWrite (src : Src) (pg : Fin 256) (val : Word) (s : State) : Out State := .next (wordWrite s src pg 0x038 val.toNat)

/-- IND_DATA_WRITE. -/
def execIndDataWrite (src : Src) (pg : Fin 256) (val : Word) (s : State) : Out State := .next (wordWrite s src pg 0x034 val.toNat)

/-- IND_DATA_READ: 0 from a page without a pair. -/
def execIndDataRead (src : Src) (pg : Fin 256) (s : State) : Out State :=
  .next (if !busUp s then s else if s.hasPage pg && indPage pg then indRead s pg src else { s with rdata := 0 })

/-- IND_PREFETCH_DONE. -/
def execIndPrefetchDone (src : Src) (pg : Fin 256) (s : State) : Out State := .next (indFetched s pg src)

/-- IND_POSTED_WRITE_DONE. -/
def execIndPostedWriteDone (src : Src) (pg : Fin 256) (s : State) : Out State := .next (indPosted s pg src)

/-! Voted fields (R84). -/

/-- Whether a field is held in three copies: RWV fields, every field of pages SAFM and DST, the mirrors of R138. -/
def tripled (d : Desc) : Bool :=
  let pg := pgOf d.reg.addr
  d.acc = .rwv || ((pg = pgSAFM || pg = pgDST) && 0x040 ≤ offOf d.reg.addr) ||
  (0x10 ≤ pg && pg < 0x20 && 0x134 ≤ offOf d.reg.addr && offOf d.reg.addr ≤ 0x13C)

/-- The repairs of a field within the last second. -/
def repairsOf (s : State) (key : Nat) : Nat := (s.scrubLog.filter (fun e => e.1 = key && s.tick < e.2 + 32768)).length

/-- The value a vote gives becomes that of the field. A mirror of page SAFM only shows it: the safety processor goes by the value it
holds itself, until its comparison finds the difference (R230). -/
def voteTaken (s : State) (r : Reg) (m : Nat) : State :=
  if pgOf r.addr = pgSAFM then
    { s with saf := { s.saf with
      wrong := (if m = s.get r then [] else [(r, s.get r, m)]) ++ s.saf.wrong.filter (fun x => x.1 != r) } }
  else s.set r m

/-- One field scrubbed: each copy that differs from the majority is repaired and counted; more than 16 repairs within a
second are a fault of the page, counted once an episode. -/
def scrub (s : State) (x : Copies) : State :=
  let pg := pgOf x.addr
  match (rowsAt x.addr).find? (fun d => d.reg.lo = x.lo && tripled d) with
  | none => s
  | some d =>
    let m := Nat.lor (Nat.lor (Nat.land x.a x.b) (Nat.land x.a x.c)) (Nat.land x.b x.c) % 2 ^ d.reg.w
    let n := bit1 (x.a != m) + bit1 (x.b != m) + bit1 (x.c != m)
    if n = 0 || !s.hasPage pg || !s.hasInst x.addr || !busUp s then s
    else
      let was := repairsOf s d.reg.key
      let s := (voteTaken s d.reg m).countBy (HDR.PG_VOTE_CNT pg) n
      let s := { s with scrubLog := List.replicate n (d.reg.key, s.tick) ++ s.scrubLog }
      if repairsOf s d.reg.key ≤ 16 then s
      else
        let s := if 16 < was then s else s.count (HDR.PG_FAULT_CNT pg)
        { s with voteBad := putBit s.voteBad pg true }

/-- VOTE_SCRUB: the block acts on what the vote gives (R230, R265). -/
def execVoteScrub (found : List Copies) (s : State) : Out State :=
  let s1 := found.foldl scrub s
  .next (if s1 = s then s else evalAll (eachAx axShow s1))

/-! Domains (R77). -/

/-- DOMAIN_ON: P11 comes on for Flowstone; any other domain starts its block here, once it has been switched on. -/
def execDomainOn (d : Fin 12) (s : State) : Out State :=
  if d.val = 11 then .next (if s.domOn 3 && !s.domOn 11 then nandPower s true else s)
  else if !s.domOn d || !bitAt s.pwr.fresh d then .next s
  else
    let s := { s with pwr := { s.pwr with fresh := putBit s.pwr.fresh d false } }
    let s := if d.val = 4 then bgCheck s else if d.val = 6 then portsOn s else if d.val = 10 then crawlLoad s else s
    .next (evalAll (visionShow (replay s d)))

/-- Whether the power sequencer has no use for a domain in the present phase (R46, R64). -/
def unused (s : State) (d : Nat) : Bool :=
  if d = 11 then !s.on FLOW.NAND_HOLD
  else match s.pwr.phase with
    | .idle => d = 4 || d = 6 || d = 9
    | .parked => 2 ≤ d && !(d = 10 && s.on CRAWL.CR_PIN)
    | .refuge => d = 4 || d = 6 || d = 9
    | _ => false

/-- DOMAIN_OFF: status and counters of its pages stay as they are. -/
def execDomainOff (d : Fin 12) (s : State) : Out State :=
  .next (if !unused s d || !s.domOn d then s
    else if d.val = 11 then nandPower s false
    else domsOff s [d])

/-- HOST_RES_CLAIM. -/
def execHostResClaim (src : Src) (reg : ResReg) (val : Word) (s : State) : Out State :=
  .next (wordWrite s src pgRES (match reg with | .dir => 0x054 | .cstep => 0x058 | .mon => 0x05C) val.toNat)

end Sys2Proof.Machine
end

