-- ==== Sys2Proof/Machine/Host.lean ====
section
/-! DEFINITION. The rows of the table that name a write into one register or a command of one register: each is that write
on the bus, with all that the register interface and the block make of it. -/

namespace Sys2Proof.Machine

/-- One bit of a register written through its alias word (R85). -/
def bitWrite (s : State) (src : Src) (pg off i : Nat) (b : Bool) : State :=
  busWrite s src (0x48000000 + pg * 0x2000 + (off * 8 + i) * 4) 4 (bit1 b)

/-- MODE_REQ_WRITE (R51, R54, R56). -/
def execModeReqWrite (src : Src) (val : Word) (s : State) : Out State :=
  .next (wordWrite s src pgPWR 0x040 val.toNat)

/-- HOST_RDY_WRITE (R58, R87): the first write fixes it. -/
def execHostRdyWrite (src : Src) (val : Word) (s : State) : Out State :=
  .next (wordWrite s src pgSYS 0x054 val.toNat)

/-- BOOT_CONFIRM_WRITE (R63). -/
def execBootConfirmWrite (src : Src) (val : Word) (s : State) : Out State :=
  .next (wordWrite s src pgBOOT 0x048 val.toNat)

/-- RST_REQ_WRITE (R72, R73). -/
def execRstReqWrite (src : Src) (val : Word) (s : State) : Out State :=
  .next (wordWrite s src pgSYS 0x04C val.toNat)

/-- HOST_WD_KICK_WRITE (R72, R73). -/
def execHostWdKickWrite (src : Src) (val : Word) (s : State) : Out State :=
  .next (wordWrite s src pgSYS 0x05C val.toNat)

/-- AX_PUSH (R103, R110). -/
def execAxPush (src : Src) (n : Fin 16) (s : State) : Out State := .next (wordWrite s src (pgAX n) 0x048 0xA1)

/-- AX_STOP (R109). -/
def execAxStop (src : Src) (n : Fin 16) (s : State) : Out State := .next (wordWrite s src (pgAX n) 0x048 0xA2)

/-- AX_FLUSH (R107). -/
def execAxFlush (src : Src) (n : Fin 16) (s : State) : Out State := .next (wordWrite s src (pgAX n) 0x048 0xA3)

/-- AX_REVERSE (R111). -/
def execAxReverse (src : Src) (n : Fin 16) (s : State) : Out State := .next (wordWrite s src (pgAX n) 0x048 0xA4)

/-- HOME (R127). -/
def execHome (src : Src) (n : Fin 16) (s : State) : Out State := .next (wordWrite s src (pgAX n) 0x048 0xB0)

/-- LEARN (R133). -/
def execLearn (src : Src) (n : Fin 16) (s : State) : Out State := .next (wordWrite s src (pgAX n) 0x048 0xB1)

/-- LEARN_ABORT (R133). -/
def execLearnAbort (src : Src) (n : Fin 16) (s : State) : Out State := .next (wordWrite s src (pgAX n) 0x048 0xB2)

/-- STEP_OUT (R140). -/
def execStepOut (src : Src) (n : Fin 16) (s : State) : Out State := .next (wordWrite s src (pgAX n) 0x048 0xB3)

/-- PRF_COMMIT (R99, R100). -/
def execPrfCommit (src : Src) (n : Fin 16) (val : Word) (s : State) : Out State :=
  .next (wordWrite s src (pgAX n) 0x0A0 val.toNat)

/-- TRV_GO_WRITE (R106). -/
def execTrvGoWrite (src : Src) (val : Word) (s : State) : Out State := .next (wordWrite s src pgTRV 0x04C val.toNat)

/-- TORQUE_REQ_WRITE (R113). -/
def execTorqueReqWrite (src : Src) (n : Fin 16) (val : Word) (s : State) : Out State :=
  .next (wordWrite s src (pgAX n) 0x044 val.toNat)

/-- AX_MODE_WRITE (R115). -/
def execAxModeWrite (src : Src) (n : Fin 16) (val : Word) (s : State) : Out State :=
  .next (wordWrite s src (pgAX n) 0x044 val.toNat)

/-- AX_EN_WRITE (R118). -/
def execAxEnWrite (src : Src) (pg : Option (Fin 16)) (val : Word) (s : State) : Out State :=
  .next (wordWrite s src (match pg with | some n => pgAX n | none => pgTRV) 0x00C val.toNat)

/-- RETRAIN (R161). -/
def execRetrain (src : Src) (h : Fin 16) (s : State) : Out State := .next (wordWrite s src (pgLH h) 0x044 0xC1)

/-- RECAL (R156). -/
def execRecal (src : Src) (h : Fin 16) (s : State) : Out State := .next (wordWrite s src (pgLH h) 0x044 0xC2)

/-- POSE_WRITE (R165). -/
def execPoseWrite (src : Src) (h : Fin 16) (k : Fin 16) (val : Word) (s : State) : Out State :=
  .next (if s.domOn 5 then counted pgLVOL (if s.hwLock pgLVOL then (s, true) else poseWrite s h k val.toNat) else s)

/-- BG_LEARN (R167). -/
def execBgLearn (src : Src) (n : Fin 8) (s : State) : Out State := .next (wordWrite s src pgLVOL 0x04C (0xD100 + n))

/-- BG_ABORT (R167). -/
def execBgAbort (src : Src) (n : Fin 8) (s : State) : Out State := .next (wordWrite s src pgLVOL 0x04C (0xD200 + n))

/-- LQ_ACK (R177). -/
def execLqAck (src : Src) (h : Fin 16) (s : State) : Out State := .next (wordWrite s src pgLVOL 0x048 (0x4C00 + h))

/-- CYC_REQ_WRITE (R188, R209). -/
def execCycReqWrite (src : Src) (n : Fin 8) (val : Word) (s : State) : Out State :=
  .next (wordWrite s src pgCYC (0x204 + n * 0x80) val.toNat)

/-- GC_ON_WRITE (R255, R256, R263). -/
def execGcOnWrite (src : Src) (hi : Bool) (val : Word) (s : State) : Out State :=
  .next (wordWrite s src pgGAL (if hi then 0x048 else 0x044) val.toNat)

/-- FOLLOW_WRITE (R256). -/
def execFollowWrite (src : Src) (c : Fin 48) (val : Word) (s : State) : Out State :=
  .next (wordWrite s src pgGAL (0x100 + c * 0x20) val.toNat)

/-- CLAMP_UNLOCK (R261). -/
def execClampUnlock (src : Src) (val : Word) (s : State) : Out State :=
  .next (wordWrite s src pgGAL 0x064 val.toNat)

/-- CRAWL_MAP_WRITE (R265). -/
def execCrawlMapWrite (src : Src) (k : Fin 12) (val : Word) (s : State) : Out State :=
  .next (wordWrite s src pgCRAWL (0x044 + k * 4) val.toNat)

/-- FO_OUT_WRITE (R275, R278). -/
def execFoOutWrite (src : Src) (val : Word) (s : State) : Out State := .next (wordWrite s src pgFIO 0x04C val.toNat)

/-- THR_WRITE (R273). -/
def execThrWrite (src : Src) (val : Word) (s : State) : Out State := .next (wordWrite s src pgFIO 0x050 val.toNat)

/-- CAN_TX_PUSH (R291). -/
def execCanTxPush (src : Src) (n : Fin 4) (i : Fin 32) (s : State) : Out State :=
  .next (wordWrite s src (pgCAN n) 0x064 (0x5400 + i))

/-- CAN_TX_CANCEL (R293). -/
def execCanTxCancel (src : Src) (n : Fin 4) (i : Fin 32) (s : State) : Out State :=
  .next (wordWrite s src (pgCAN n) 0x064 (0x5500 + i))

/-- CAN_TX_RELEASE (R291). -/
def execCanTxRelease (src : Src) (n : Fin 4) (i : Fin 32) (s : State) : Out State :=
  .next (wordWrite s src (pgCAN n) 0x064 (0x5600 + i))

/-- CAN_RX_ACK (R290). -/
def execCanRxAck (src : Src) (n : Fin 4) (k : Fin 256) (s : State) : Out State :=
  .next (wordWrite s src (pgCAN n) 0x068 (0x5200 + k))

/-- CAN_HPB_RELEASE (R289). -/
def execCanHpbRelease (src : Src) (n : Fin 4) (h : Fin 8) (s : State) : Out State :=
  .next (wordWrite s src (pgCAN n) 0x068 (0x5300 + h))

/-- CAN_RECOVER (R295). -/
def execCanRecover (src : Src) (n : Fin 4) (s : State) : Out State := .next (wordWrite s src (pgCAN n) 0x060 0x5A01)

/-- LP_REQ_WRITE (R297). -/
def execLpReqWrite (src : Src) (n : Fin 4) (b : Bool) (s : State) : Out State :=
  .next (bitWrite s src (pgCAN n) 0x00C 1 b)

/-- CAN_EN_WRITE (R299). -/
def execCanEnWrite (src : Src) (n : Fin 4) (b : Bool) (s : State) : Out State :=
  .next (bitWrite s src (pgCAN n) 0x00C 0 b)

/-- ECN_TAIL_WRITE (R305). -/
def execEcnTailWrite (src : Src) (k : Fin 4) (val : Word) (s : State) : Out State :=
  .next (wordWrite s src pgECN (0x064 + k * 8) val.toNat)

/-- LGL_SEND_BUFFER (R310). -/
def execLglSendBuffer (src : Src) (val : Word) (s : State) : Out State :=
  .next (wordWrite s src pgLGL 0x054 val.toNat)

/-- SNAP (R334). -/
def execSnap (src : Src) (s : State) : Out State := .next (wordWrite s src pgFLOW 0x078 0x4640)

/-- HEV (R336). -/
def execHev (src : Src) (s : State) : Out State := .next (wordWrite s src pgFLOW 0x078 0x4630)

/-- FIND (R343). -/
def execFind (src : Src) (s : State) : Out State := .next (wordWrite s src pgFLOW 0x078 0x4600)

/-- EXP_START (R347). -/
def execExpStart (src : Src) (s : State) : Out State := .next (wordWrite s src pgFLOW 0x078 0x4610)

/-- EXP_ABORT (R347). -/
def execExpAbort (src : Src) (s : State) : Out State := .next (wordWrite s src pgFLOW 0x078 0x4611)

/-- RD_CLASS_WRITE (R342). -/
def execRdClassWrite (src : Src) (val : Word) (s : State) : Out State :=
  .next (wordWrite s src pgFLOW 0x04C val.toNat)

/-- EXP_ACK_WRITE (R347). -/
def execExpAckWrite (src : Src) (val : Word) (s : State) : Out State :=
  .next (wordWrite s src pgFLOW 0x098 val.toNat)

end Sys2Proof.Machine
end

