-- ==== Sys2Proof/Machine/Slati.lean ====
section
/-! DEFINITION. The Slati service link (R362 to R369, R372, R375, R376): line and session, login, its register access,
exports, monitors, tests, the safety parameter block, the telegram configuration and life-cycle changes (R67, R215, R239).
A reply stands in State as its code and the numbers it carried. -/

namespace Sys2Proof.Machine

/-! Commands and replies. -/

/-- Whether the link is served: P3 on and the SVC domain clocked (R50, R364). -/
def slatiUp (s : State) : Bool := s.domOn 3 && !s.bit CLK.CLK_FAIL 13

/-- OK, OK ADJ where a write was clamped or discarded, and a refusal (R362, R369). -/
def answer (s : State) (l : List Nat) : State := say s 0 l
def answerAdj (r : Wrote) : State := say r.1 (if r.2 then 0x100 else 0) []
def refuse (s : State) (code : Nat) : State := say (s.count SVC.CMD_ERR_CNT) code []

/-- A line taken as a command (R363, R367, R369): a valid line keeps the rate and the session. -/
def taken (s : State) : State :=
  { s.count SVC.CMD_CNT with svc := { s.svc with
    newRate := false
    lastCmd := s.tick } }

/-- A command answered in every life-cycle state (R67, R365). -/
def slatiAlways (s : State) (f : State → State) : State := if slatiUp s then f (taken s) else s

/-- A command that needs a role: a scrapped module does not answer it (R365). -/
def slati (s : State) (role : Nat) (f : State → State) : State :=
  slatiAlways s (fun s =>
    if s.lc = lcSCRAP then say s 0x200 []
    else if s.get SVC.ROLE < role then refuse s 3 else f s)

/-! Sessions (R363, R364, R367). -/

/-- An export of the service tool ends without completion (R347). -/
def toolExportEnd (s : State) : State := if toolExport s then exportEnd s else s

/-- The line as it stands when a session starts (R362, R364). -/
def lineStart (s : State) : State :=
  { (s.set SVC.BAUD_NOW 0).set SVC.PROTO 1 with svc := { s.svc with newRate := false } }

/-- The end of an active session: test, monitors and export with it (R194, R367, R372, R373, R375). -/
def sessionEnd (s : State) : State :=
  let s := monRelease (testAbort (toolExportEnd s)) 6 16
  let s := eachDw (fun s n => if (s.dw n).depotTest then s.setDw n { s.dw n with depotOut := true } else s) s
  let s := (lineStart s).set SVC.ROLE 0
  echoTool { s.setB SVC.SESSION false with svc := { s.svc with
    params := []
    tcfg := [] } } false

/-- SLATI_LINE_ERROR. -/
def execSlatiLineError (s : State) : Out State :=
  .next (if !slatiUp s then s else say (s.count SVC.FRAME_ERR_CNT) (if s.lc = lcSCRAP then 0x200 else 1) [])

/-- The number in the part number of the member (R4). -/
def partNumber (s : State) : Nat := match s.member with | .plf1000 => 1000 | .plf2204 => 2204 | .plf4408 => 4408 | .plf8816 => 8816

/-- SLATI_HELLO: the versions offered, the part number, the serial. -/
def execSlatiHello (s : State) : Out State :=
  .next (slatiAlways s (fun s => answer s [s.get SVC.CAP_VER, partNumber s, s.get SYS.SERIAL_HI, s.get SYS.SERIAL_LO]))

/-- SLATI_VER. -/
def execSlatiVer (v : Fin 256) (s : State) : Out State :=
  .next (slati s 0 (fun s => if v.val = 1 || v.val = 2 then answer (s.set SVC.PROTO v) [] else refuse s 2))

/-- The code of a rate (R376). -/
def baudCode (rate : Nat) : Option Nat :=
  if rate = 115200 then some 0 else if rate = 230400 then some 1 else if rate = 460800 then some 2
  else if rate = 921600 then some 3 else none

/-- SLATI_BAUD: the new rate stands once a valid line has come at it. -/
def execSlatiBaud (rate : Word) (s : State) : Out State :=
  .next (slati s 0 (fun s => match baudCode rate.toNat with
    | none => refuse s 2
    | some c =>
      let s := answer (s.set SVC.BAUD_NOW c) []
      { s with svc := { s.svc with newRate := true } }))

/-- BAUD_REVERT. -/
def execBaudRevert (s : State) : Out State :=
  .next (if slatiUp s && s.svc.newRate then { s.set SVC.BAUD_NOW 0 with svc := { s.svc with newRate := false } } else s)

/-- SLATI_BREAK. -/
def execSlatiBreak (active : Bool) (s : State) : Out State :=
  .next (if !slatiUp s then s
    else
      let s := s.setB SVC.BREAK active
      if !active then s else if s.on SVC.SESSION then sessionEnd s else lineStart s)

/-! Login (R365, R366). -/

/-- The response a login expects: the first 32 bits of the HMAC. -/
def loginResponse (s : State) (role nonce : Nat) : Nat :=
  let m := Config.loginText (BitVec.ofNat 32 nonce) (s.get SYS.SERIAL_HI) (s.get SYS.SERIAL_LO) role
  ((wordsOf ((hmacSha256 (Config.roleKey role) m).take 4)).headD 0).toNat

/-- SLATI_LOGIN. -/
def execSlatiLogin (role : Fin 256) (s : State) : Out State :=
  .next (slati s 0 (fun s =>
    if s.on SVC.LOCKOUT then refuse s 7
    else if role.val = 0 || 3 < role.val then refuse s 2
    else if role.val = 3 && s.lc != lcFACTORY && s.lc != lcRETURN then refuse s 4
    else
      let n := (Config.nonce s.freeCtr).toNat
      let s := answer s.draw [n]
      { s with svc := { s.svc with nonce := some (role, n, s.tick) } }))

/-- A correct login: the role, and a session unless one is active (R317, R367). -/
def loginOk (s : State) (role : Nat) : State :=
  let s := { s.count SVC.LOGIN_OK_CNT with svc := { s.svc with
    wrong := 0
    lockouts := 0 } }
  let s := s.set SVC.ROLE role
  if s.on SVC.SESSION then s
  else
    let s := (s.setB SVC.SESSION true).count SVC.SESSION_CNT
    echoTool { s with svc := { s.svc with loginAt := s.tick } } true

/-- The length of the k-th lockout since the latest correct login, in s. -/
def lockoutS (k : Nat) : Nat := min 3600 (60 * 2 ^ (min k 7 - 1))

/-- A wrong login; the third in a row locks the port out. -/
def loginWrong (s : State) : State :=
  let s := s.count SVC.LOGIN_FAIL_CNT
  let w := s.svc.wrong + 1
  if w < 3 then { s with svc := { s.svc with wrong := w } }
  else
    let k := s.svc.lockouts + 1
    { s.setB SVC.LOCKOUT true with svc := { s.svc with
      wrong := 0
      lockouts := k
      lockAt := s.tick + lockoutS k * 32768 } }

/-- A nonce is valid for 30 s (R366). -/
def nonceOld (s : State) (at_ : Nat) : Bool := at_ + 30 * 32768 ≤ s.tick

/-- SLATI_RESP: a nonce serves one response. -/
def execSlatiResp (resp : Word) (s : State) : Out State :=
  .next (slati s 0 (fun s =>
    if s.on SVC.LOCKOUT then refuse s 7
    else match s.svc.nonce with
      | none => refuse s 5
      | some (role, n, at_) =>
        let old := nonceOld s at_
        let s := { s with svc := { s.svc with nonce := none } }
        if old then refuse s 5
        else if resp.toNat = loginResponse s role n then answer (loginOk s role) [] else refuse (loginWrong s) 3))

/-- NONCE_EXPIRY. -/
def execNonceExpiry (s : State) : Out State :=
  match s.svc.nonce with
  | some (_, _, at_) => .next (if nonceOld s at_ then { s with svc := { s.svc with nonce := none } } else s)
  | none => .next s

/-- LOCKOUT_END: the lockout lasts its time. -/
def execLockoutEnd (s : State) : Out State := .next (if s.svc.lockAt ≤ s.tick then s.setB SVC.LOCKOUT false else s)

/-- SLATI_LOGOUT. -/
def execSlatiLogout (s : State) : Out State :=
  .next (slati s 0 (fun s => answer (if s.on SVC.SESSION then sessionEnd s else s) []))

/-- SESSION_TIMEOUT: 600 s without a command. -/
def execSessionTimeout (s : State) : Out State :=
  .next (if slatiUp s && s.on SVC.SESSION && s.svc.lastCmd + 600 * 32768 ≤ s.tick then sessionEnd s else s)

/-! What it tells (R368). -/

/-- SLATI_ID: serial, life-cycle state, image versions, head serials. -/
def execSlatiId (s : State) : Out State :=
  .next (slatiAlways s (fun s => answer s (
    [s.get SYS.SERIAL_HI, s.get SYS.SERIAL_LO, s.lc, s.get BOOT.IMG_A_VER, s.get BOOT.IMG_B_VER] ++
    (List.range s.nH).flatMap (fun h => [s.get (LH.HEAD_SER_HI h), s.get (LH.HEAD_SER_LO h)]))))

/-- SLATI_STATUS: mode, Refuge cause, both latches, the state of each doorway, HOST_NOTE. -/
def execSlatiStatus (s : State) : Out State :=
  .next (slatiAlways s (fun s => answer s (
    [s.get PWR.MODE, s.regVal SYS.RF_STEP.addr, s.get SAFM.LATCH_SAF, s.get COLM.LATCH_COL] ++
    (List.range s.nD).map (fun n => s.get (CYCD.STATE n)) ++ [s.get SVC.HOST_NOTE])))

/-- SLATI_CAIRN (R345). -/
def execSlatiCairn (s : State) : Out State :=
  .next (slati s 0 (fun s => answer s ((List.range 16).map (fun k => s.get (FLOW.CAIRN k)))))

/-! Register access through the tool's own pairs (R90, R368). -/

/-- A word read by the service tool. -/
def toolRead (s : State) (pg off : Nat) : State × Nat :=
  if 0x030 ≤ off && off < 0x03C && s.hasPage pg && indPage pg then
    if off = 0x034 then
      let s := indRead s pg .tool
      (s, s.rdata.toNat)
    else (s, indReg s pg .tool off)
  else (s, s.readWord (pg * 0x1000 + off))

/-- `n` words read in turn, each by `f`. -/
def toolWords (f : State → Nat → State × Nat) (s : State) : Nat → State × List Nat
  | 0 => (s, [])
  | n + 1 =>
    let (s, l) := toolWords f s n
    let (s, v) := f s n
    (s, l ++ [v])

/-- SLATI_RD. -/
def execSlatiRd (pg : Fin 256) (off : Fin 4096) (n : Fin 1025) (s : State) : Out State :=
  .next (slati s 0 (fun s =>
    if off.val % 4 != 0 || n.val = 0 || 0x1000 < off.val + 4 * n.val then refuse s 6
    else
      let (s, l) := toolWords (fun s i => toolRead s pg (off + 4 * i)) s n
      answer s l))

/-- The tool's pair of a page set to an address of a space. -/
def indSelect (s : State) (pg sp a : Nat) : Wrote :=
  let (s, a1) := indCtrl (indSettle s pg .tool) pg .tool sp true
  let (s, a2) := indAddr (indSettle s pg .tool) pg .tool a
  (s, a1 || a2)

/-- SLATI_RDI: 0 from a page without a pair. -/
def execSlatiRdi (pg : Fin 256) (sp : Fin 16) (addr : Word) (n : Fin 1025) (s : State) : Out State :=
  .next (slati s 0 (fun s =>
    if n.val = 0 then refuse s 6
    else if !s.hasPage pg || !indPage pg then answer s (List.replicate n 0)
    else
      let (s, l) := toolWords (fun s _ =>
        let s := indRead s pg .tool
        (s, s.rdata.toNat)) (counted pg (indSelect s pg sp addr.toNat)) n
      answer s l))

/-- A register write of the service tool, counted on its page. -/
def toolWrite (s : State) (pg off v : Nat) : Wrote :=
  if !s.hasPage pg then (s.adj pgSYS, true)
  else
    let r := regWrite s ⟨.tool, pg * 0x1000 + off, 0xFFFFFFFF, v, false, false⟩
    (counted pg r, r.2)

/-- An indirect write of the service tool, complete before its reply. -/
def toolStore (s : State) (pg sp a v : Nat) : Wrote :=
  if !s.hasPage pg then (s.adj pgSYS, true)
  else if !indPage pg || s.hwLock pg then (s.adj pg, true)
  else
    let (s, a1) := indSelect s pg sp a
    let (s, a2) := indData (indSettle s pg .tool) pg .tool v
    let (s, a3) := indComplete s pg .tool
    (counted pg (s, a1 || a2 || a3), a1 || a2 || a3)

/-- SLATI_WR. -/
def execSlatiWr (pg : Fin 256) (off : Fin 4096) (val : Word) (s : State) : Out State :=
  .next (slati s 1 (fun s =>
    if s.inRefuge then refuse s 9 else if off.val % 4 != 0 then refuse s 6 else answerAdj (toolWrite s pg off val.toNat)))

/-- SLATI_WRI. -/
def execSlatiWri (pg : Fin 256) (sp : Fin 16) (addr : Word) (val : Word) (s : State) : Out State :=
  .next (slati s 1 (fun s => if s.inRefuge then refuse s 9 else answerAdj (toolStore s pg sp addr.toNat val.toNat)))

/-! Clock, restart, evidence hold, export (R71, R72, R347, R357). -/

/-- Whether a date lies in the calendar. -/
def dateOk (y m d h mi sec : Nat) : Bool :=
  2000 ≤ y && y < 2136 && 1 ≤ m && m ≤ 12 && 1 ≤ d && d ≤ monthDays y m && h < 24 && mi < 60 && sec < 60

/-- SLATI_CLOCK: a set of R357 that takes effect at the next whole second; lost as any other at PF_WARN. -/
def execSlatiClock (y : Fin 10000) (m d h mi sec : Fin 100) (s : State) : Out State :=
  .next (slati s 1 (fun s =>
    if !dateOk y m d h mi sec then refuse s 6
    else
      let cal := calOf ⟨y - 2000, m, d, h, mi, sec, 0⟩
      answer (if s.on PWR.PF_WARN then s else { s with drip := { s.drip with
        sets := s.drip.sets ++ [(calHi cal, calLo cal, true)] } }) []))

/-- SLATI_RESTART (R65, R72): accepted in Refuge, but for a power-down, which runs to its end (R41). -/
def execSlatiRestart (s : State) : Out State :=
  .next (slati s 1 (fun s =>
    if s.inRefuge && s.pwr.phase != .powerDown then answer (restart s (some SYS.SVC_RST) 0) []
    else
      let (s, ok) := restartAsked s SYS.SVC_RST
      if ok then answer s [] else refuse s 5))

/-- The evidence hold set (R71, R331, R348). -/
def holdSet (s : State) : State :=
  if s.on FLOW.EVID_HOLD then s
  else ((s.setB FLOW.EVID_HOLD true).set64 FLOW.HOLD_SEQ_HI FLOW.HOLD_SEQ_LO s.flow.seq).event pgFLOW 0 0x0054 1 0 s.flow.seq

/-- SLATI_HOLD. -/
def execSlatiHold (s : State) : Out State := .next (slati s 1 (fun s => answer (holdSet s) []))

/-- A chunk sent to the service tool (R364): as hexadecimal lines at version 1, behind the line BIN 4096 as raw bytes at version 2. -/
def sendChunk (s : State) : State := say s (if s.get SVC.PROTO = 2 then 0x400 else 0) (chunkFull s)

/-- SLATI_EXPORT: a second start is counted (R347). -/
def execSlatiExport (s : State) : Out State :=
  .next (slati s 1 (fun s =>
    if s.on FLOW.EXP_RUN then refuse (s.adj pgFLOW) 8
    else if s.on TEST.TEST_RUN then refuse s 8
    else if !flowUp s then refuse s 5
    else
      let s := (exportStart s .tool).1
      sendChunk s))

/-- SLATI_ACK: of the tool's own export. -/
def execSlatiAck (k crc : Word) (s : State) : Out State :=
  .next (slati s 1 (fun s =>
    if !toolExport s then refuse s 5
    else
      let s := (exportAck s k.toNat crc.toNat).1
      if toolExport s then sendChunk s else answer s []))

/-- SLATI_EXPABORT. -/
def execSlatiExpabort (s : State) : Out State :=
  .next (slati s 1 (fun s => if toolExport s then answer (exportEnd s) [] else refuse s 5))

/-! Monitors and tests (R372 to R374). -/

/-- SLATI_MON: class 0x0 releases the point; one that safety holds is refused whatever the class (R372). -/
def execSlatiMon (tp : Fin 32) (cls : Fin 16) (idx : Fin 64) (s : State) : Out State :=
  .next (slati s 1 (fun s =>
    if tp.val < 9 || 24 < tp.val || 8 < cls.val || !monIndexOk s cls idx then refuse s 6
    else
      let i := tp.val - 9
      if cls.val = 0 && s.owner 2 i = 1 then refuse s 5
      else if cls.val = 0 then answer (if s.owner 2 i = 6 then (setTpSel s i 0).setOwner 2 i 0 else s) []
      else
        let (s, ok) := monClaim s 6 i (cls.val * 4096 + idx.val)
        if ok then answer s [] else refuse s 5))

/-- SLATI_TEST. -/
def execSlatiTest (t : TestName) (s : State) : Out State :=
  .next (slati s 1 (fun s => match testRefusal s t with
    | none => answer (testStart s t) []
    | some 8 => refuse s 8
    | some 2 => refuse s 2
    | some c =>
      refuse (((s.set TEST.TEST_CODE (testCode t)).set TEST.TEST_ARG (testArg t)).set TEST.TEST_RESULT 4) c))

/-- SLATI_STOP. -/
def execSlatiStop (s : State) : Out State := .next (slati s 0 (fun s => answer (testAbort s) []))

/-! The safety parameter block (R215) and the telegram configuration (R239). -/

/-- The size and range of the field of the block that begins at an offset. -/
def paramField (o : Nat) : Option (Nat × Nat × Nat) :=
  match o with
  | 0x00 => some (2, 1, 1)
  | 0x02 => some (2, 0x80, 0x80)
  | 0x04 => some (1, 0, 0xFF)
  | 0x05 => some (1, 0, 0xFF)
  | 0x06 => some (1, 0, 1)
  | 0x07 => some (1, 5, 50)
  | 0x08 => some (8, 0, 0)
  | 0x70 => some (16, 0, 0)
  | o =>
    if o < 0x10 || 0x70 ≤ o then none
    else match (o - 0x10) % 0x0C with
      | 0x00 => some (2, 400, 3000)
      | 0x02 => some (2, 1000, 20000)
      | 0x04 => some (2, 0, 1000)
      | 0x06 => some (2, 200, 800)
      | 0x08 => some (2, 20, 100)
      | 0x0A => some (2, 0, 0)
      | _ => none

/-- The same of the telegram configuration; its CRC is written by COMMIT. -/
def tcfgField (f : Nat) : Option (Nat × Nat × Nat) :=
  match f with
  | 0x00 => some (2, 1, 1)
  | 0x02 => some (2, 0, 0xFFFF)
  | 0x04 => some (1, 0, 3)
  | 0x05 => some (1, 0, 0x1F)
  | 0x06 => some (2, 0, 0)
  | 0x08 => some (4, 0, 0xFFFFFFFF)
  | 0x0C => some (4, 0, 0xFFFFFFFF)
  | 0x10 => some (4, 0, 0xFFFFFFFF)
  | 0x14 => some (1, 0, 0xFF)
  | 0x15 => some (1, 0, 0xFF)
  | 0x16 => some (2, 0, 0)
  | 0x3C => some (4, 0, 0xFFFFFFFF)
  | 0x40 => some (4, 0, 0xFFFFFFFF)
  | 0x44 => some (1, 1, 16)
  | 0x45 => some (1, 16, 200)
  | 0x46 => some (1, 32, 200)
  | 0x47 => some (1, 50, 230)
  | 0x48 => some (52, 0, 0)
  | f =>
    if f < 0x18 || 0x3C ≤ f then none
    else match (f - 0x18) % 0x0C with
      | 0x00 => some (2, 0, 0xFFFF)
      | 0x02 => some (2, 0, 0)
      | 0x04 => some (4, 0, 0xFFFFFFFF)
      | 0x08 => some (4, 0, 0xFFFFFFFF)
      | _ => none

/-- The bytes of a field put before those written so far. -/
def fieldBytes (l : List (Nat × Nat)) (o size v : Nat) : List (Nat × Nat) :=
  (List.range size).map (fun i => (o + i, v / 256 ^ i % 256)) ++ l

/-- Written bytes put into storage, the oldest first. -/
def storeBytes (s : State) (pg sp : Nat) (l : List (Nat × Nat)) : State :=
  l.foldr (fun e (s : State) => s.wr8 pg sp e.1 e.2) s

/-- A PARAM command: COMMISSION role in COMMISSION, FACTORY role in FACTORY. -/
def paramCommand (s : State) (f : State → State) : State :=
  slati s 2 (fun s =>
    if s.lc = lcCOMMISSION then f s
    else if s.lc != lcFACTORY then refuse s 4
    else if s.get SVC.ROLE = 3 then f s else refuse s 3)

/-- A TCFG command: COMMISSION role in COMMISSION. -/
def tcfgCommand (s : State) (f : State → State) : State :=
  slati s 2 (fun s => if s.lc = lcCOMMISSION then f s else refuse s 4)

/-- SLATI_PARAM_RD: the block as stored. -/
def execSlatiParamRd (s : State) : Out State := .next (paramCommand s (fun s => answer s (s.rdBytes pgSAFM 1 0 0x80)))

/-- SLATI_PARAM_WR: a value outside its range is refused. -/
def execSlatiParamWr (off : Fin 128) (val : Word) (s : State) : Out State :=
  .next (paramCommand s (fun s => match paramField off with
    | none => refuse s 2
    | some (size, lo, hi) =>
      if val.toNat < lo || hi < val.toNat then refuse s 6
      else answer { s with svc := { s.svc with params := fieldBytes s.svc.params off size val.toNat } } []))

/-- The block stored and its signature shown. -/
def paramCommit (s : State) : State :=
  let s := storeBytes s pgSAFM 1 s.svc.params
  let sig := signature s
  let s := (s.set SEAL.SIG_CRC sig).setB SEAL.SIG_OK (sig = s.saf.sealB)
  evalAll { s with svc := { s.svc with params := [] } }

/-- SLATI_PARAM_COMMIT: SIG with the CRC and the switches of bank B to set ON. -/
def execSlatiParamCommit (s : State) : Out State :=
  .next (paramCommand s (fun s =>
    let s := paramCommit s
    answer s [signature s, signature s]))

/-- SLATI_TCFG_RD. -/
def execSlatiTcfgRd (s : State) : Out State := .next (tcfgCommand s (fun s => answer s (s.rdBytes pgDST 2 0 0x80)))

/-- SLATI_TCFG_WR. -/
def execSlatiTcfgWr (off : Fin 128) (val : Word) (s : State) : Out State :=
  .next (tcfgCommand s (fun s => match tcfgField off with
    | none => refuse s 2
    | some (size, lo, hi) =>
      if val.toNat < lo || hi < val.toNat then refuse s 6
      else answer { s with svc := { s.svc with tcfg := fieldBytes s.svc.tcfg off size val.toNat } } []))

/-- The configuration stored with its CRC; the next start checks and applies it (R239). -/
def tcfgCommit (s : State) : State :=
  let s := storeBytes s pgDST 2 s.svc.tcfg
  let s := s.wr32 pgDST 2 0x7C (crc32 (s.rdBytes pgDST 2 0 0x7C))
  { s with svc := { s.svc with tcfg := [] } }

/-- SLATI_TCFG_COMMIT. -/
def execSlatiTcfgCommit (s : State) : Out State := .next (tcfgCommand s (fun s => answer (tcfgCommit s) []))

/-! Life-cycle changes (R66 to R68). -/

/-- The seal switches a change asks for (R67). -/
inductive SealNeed where
  | any | inServiceOff | depotOff | depotOn | depotOnly | scrap
  deriving DecidableEq, Repr

/-- The rows of the table of R67: the role and the switches. -/
def lcRow (old new : Nat) : Option (Nat × SealNeed) :=
  if new = lcSCRAP then (if old = lcSCRAP || old = lcUNKNOWN then none else some (2, .scrap))
  else if new = lcRETURN then
    (if old = lcCOMMISSION || old = lcSERVICE || old = lcDEPOT || old = lcUNKNOWN then some (1, .inServiceOff) else none)
  else if new = lcCOMMISSION then
    (if old = lcFACTORY then some (3, .any)
     else if old = lcSERVICE || old = lcDEPOT || old = lcRETURN then some (2, .inServiceOff) else none)
  else if new = lcSERVICE then
    (if old = lcCOMMISSION then some (2, .depotOff) else if old = lcDEPOT then some (1, .any) else none)
  else if new = lcDEPOT then
    (if old = lcCOMMISSION then some (2, .depotOn) else if old = lcSERVICE then some (1, .depotOnly) else none)
  else if old = lcRETURN then some (3, .any) else none

/-- Whether the switches as captured stand as a change asks. -/
def sealMeets (s : State) (n : SealNeed) : Bool :=
  let a := s.saf.sealA
  match n with
  | .any => true
  | .inServiceOff => a % 256 = 0
  | .depotOff => !bitAt a 15 && s.saf.sealB = signature s
  | .depotOn => bitAt a 15 && s.saf.sealB = signature s
  | .depotOnly => bitAt a 15
  | .scrap => a % 65536 = 0 && s.saf.sealB % 65536 = 65535

/-- The other conditions of R67. -/
def lcReady (s : State) (new : Nat) : Bool :=
  axesRest s && (allLocked s || (s.inRefuge && new = lcRETURN)) &&
  !(s.on FLOW.EVID_HOLD && (new = lcRETURN || new = lcSCRAP)) && !s.on SYS.LC_WIPE_PEND

/-- The code with which a change is refused, none where it is accepted (R65, R67, R369, R375). -/
def lcRefusal (s : State) (new : Nat) : Option Nat :=
  if s.inRefuge && new != lcRETURN then some 9
  else match lcRow s.lc new with
    | none => some 4
    | some (role, need) =>
      if s.get SVC.ROLE < role then some 3
      else if s.on TEST.TEST_RUN || s.on FLOW.EXP_RUN then some 8
      else if lcReady s new && sealMeets s need then none else some 5

/-- An accepted change (R68): torque removed, ADCL open, the new state written with the mark. -/
def lcChange (s : State) (new : Nat) : State :=
  let old := s.lc
  let s := s.event pgSYS 0 0x0032 (old * 16 + new)
  let s := (s.set SYS.LC_STATE new).setB SYS.LC_WIPE_PEND true
  evalAll { s with pwr := { s.pwr with lcOld := old } }

/-- SLATI_LC. A scrapped module refuses it without an answer (R67, R365). -/
def execSlatiLc (new : Fin 6) (s : State) : Out State :=
  let s := if slatiUp s && s.lc = lcSCRAP then s.count SYS.LC_REFUSE_CNT else s
  .next (slati s 0 (fun s => match lcRefusal s new with
    | some c => refuse (s.count SYS.LC_REFUSE_CNT) c
    | none => answer (lcChange s new) []))

end Sys2Proof.Machine
end

