-- ==== Sys2Proof/Machine/Dispatch.lean ====
section
/-! DEFINITION. What each command does: one arm per constructor, each one call of its meaning. -/

namespace Sys2Proof.Machine

def exec (i : Instr) (s : State) : Host.Outcome State Fault Refusal :=
  match i with
  | .registerWrite src addr wd val => Sys2Proof.Machine.execRegisterWrite src addr wd val s
  | .bitAliasWrite src addr wd val => Sys2Proof.Machine.execBitAliasWrite src addr wd val s
  | .wideHighWrite src addr val => Sys2Proof.Machine.execWideHighWrite src addr val s
  | .wideLowWrite src addr val => Sys2Proof.Machine.execWideLowWrite src addr val s
  | .indAddrWrite src pg val => Sys2Proof.Machine.execIndAddrWrite src pg val s
  | .indCtrlWrite src pg val => Sys2Proof.Machine.execIndCtrlWrite src pg val s
  | .indDataRead src pg => Sys2Proof.Machine.execIndDataRead src pg s
  | .indDataWrite src pg val => Sys2Proof.Machine.execIndDataWrite src pg val s
  | .indPrefetchDone src pg => Sys2Proof.Machine.execIndPrefetchDone src pg s
  | .indPostedWriteDone src pg => Sys2Proof.Machine.execIndPostedWriteDone src pg s
  | .voteScrub found => Sys2Proof.Machine.execVoteScrub found s
  | .domainOn d => Sys2Proof.Machine.execDomainOn d s
  | .domainOff d => Sys2Proof.Machine.execDomainOff d s
  | .hostResClaim src reg val => Sys2Proof.Machine.execHostResClaim src reg val s
  | .lampTestEnd => Sys2Proof.Machine.execLampTestEnd s
  | .battlInterrupt mv => Sys2Proof.Machine.execBattlInterrupt mv s
  | .battlReturn mv => Sys2Proof.Machine.execBattlReturn mv s
  | .pfWarn => Sys2Proof.Machine.execPfWarn s
  | .powerDownComplete => Sys2Proof.Machine.execPowerDownComplete s
  | .powerOnStart mv => Sys2Proof.Machine.execPowerOnStart mv s
  | .supplyLevelChange sup mv => Sys2Proof.Machine.execSupplyLevelChange sup mv s
  | .battdOvOpen mv => Sys2Proof.Machine.execBattdOvOpen mv s
  | .battdOvClose mv => Sys2Proof.Machine.execBattdOvClose mv s
  | .chopperOn bus => Sys2Proof.Machine.execChopperOn bus s
  | .chopperOff joule => Sys2Proof.Machine.execChopperOff joule s
  | .chopBudgetRestored => Sys2Proof.Machine.execChopBudgetRestored s
  | .busOvervoltage mv => Sys2Proof.Machine.execBusOvervoltage mv s
  | .modeReqWrite src val => Sys2Proof.Machine.execModeReqWrite src val s
  | .activeGateReadbackDone bad => Sys2Proof.Machine.execActiveGateReadbackDone bad s
  | .actRdySet late => Sys2Proof.Machine.execActRdySet late s
  | .idleDelayExpiry => Sys2Proof.Machine.execIdleDelayExpiry s
  | .wakeEvent src => Sys2Proof.Machine.execWakeEvent src s
  | .parkStart => Sys2Proof.Machine.execParkStart s
  | .parkLateWake src => Sys2Proof.Machine.execParkLateWake src s
  | .parkComplete => Sys2Proof.Machine.execParkComplete s
  | .crawlP10Off => Sys2Proof.Machine.execCrawlP10Off s
  | .clockFailure d bad err => Sys2Proof.Machine.execClockFailure d bad err s
  | .cellMeasure vcell vcap => Sys2Proof.Machine.execCellMeasure vcell vcap s
  | .clockMeasureDone hz => Sys2Proof.Machine.execClockMeasureDone hz s
  | .selfTestStepPass k => Sys2Proof.Machine.execSelfTestStepPass k s
  | .selfTestStepFail k code detail => Sys2Proof.Machine.execSelfTestStepFail k code detail s
  | .lpddr5WipeDone bad bgBad => Sys2Proof.Machine.execLpddr5WipeDone bad bgBad s
  | .hostStart a b => Sys2Proof.Machine.execHostStart a b s
  | .hostRdyWrite src val => Sys2Proof.Machine.execHostRdyWrite src val s
  | .hostRdyTimeout => Sys2Proof.Machine.execHostRdyTimeout s
  | .refugeMonitorPowerOn => Sys2Proof.Machine.execRefugeMonitorPowerOn s
  | .galleryDeferredTest b bad => Sys2Proof.Machine.execGalleryDeferredTest b bad s
  | .bootConfirmWrite src val => Sys2Proof.Machine.execBootConfirmWrite src val s
  | .refugeAnnounce cfgOk => Sys2Proof.Machine.execRefugeAnnounce cfgOk s
  | .lcWipesDone mramBad nandBad => Sys2Proof.Machine.execLcWipesDone mramBad nandBad s
  | .rstReqWrite src val => Sys2Proof.Machine.execRstReqWrite src val s
  | .hostWdKickWrite src val => Sys2Proof.Machine.execHostWdKickWrite src val s
  | .hostWdExpiry => Sys2Proof.Machine.execHostWdExpiry s
  | .wdRestartDue => Sys2Proof.Machine.execWdRestartDue s
  | .traverseUpdate samples demand => Sys2Proof.Machine.execTraverseUpdate samples demand s
  | .torqueRampEnd n => Sys2Proof.Machine.execTorqueRampEnd n s
  | .holdReductionStart n => Sys2Proof.Machine.execHoldReductionStart n s
  | .axPush src n => Sys2Proof.Machine.execAxPush src n s
  | .axStop src n => Sys2Proof.Machine.execAxStop src n s
  | .axFlush src n => Sys2Proof.Machine.execAxFlush src n s
  | .axReverse src n => Sys2Proof.Machine.execAxReverse src n s
  | .prfCommit src n val => Sys2Proof.Machine.execPrfCommit src n val s
  | .trvGoWrite src val => Sys2Proof.Machine.execTrvGoWrite src val s
  | .torqueReqWrite src n val => Sys2Proof.Machine.execTorqueReqWrite src n val s
  | .axModeWrite src n val => Sys2Proof.Machine.execAxModeWrite src n val s
  | .axEnWrite src pg val => Sys2Proof.Machine.execAxEnWrite src pg val s
  | .torqueRemoval n => Sys2Proof.Machine.execTorqueRemoval n s
  | .tblCrcUpdate t => Sys2Proof.Machine.execTblCrcUpdate t s
  | .cstepEdge n cdir tc => Sys2Proof.Machine.execCstepEdge n cdir tc s
  | .encoderLost n => Sys2Proof.Machine.execEncoderLost n s
  | .deviationDecision n => Sys2Proof.Machine.execDeviationDecision n s
  | .switchAccepted n opened => Sys2Proof.Machine.execSwitchAccepted n opened s
  | .home src n => Sys2Proof.Machine.execHome src n s
  | .hardStopFound n => Sys2Proof.Machine.execHardStopFound n s
  | .learn src n => Sys2Proof.Machine.execLearn src n s
  | .learnAbort src n => Sys2Proof.Machine.execLearnAbort src n s
  | .forceTrip n => Sys2Proof.Machine.execForceTrip n s
  | .reversalRequest n => Sys2Proof.Machine.execReversalRequest n s
  | .sqzChange n => Sys2Proof.Machine.execSqzChange n s
  | .stepOut src n => Sys2Proof.Machine.execStepOut src n s
  | .gapMmReceived n gap valid us => Sys2Proof.Machine.execGapMmReceived n gap valid us s
  | .gapStale n => Sys2Proof.Machine.execGapStale n s
  | .headPresent h mw v => Sys2Proof.Machine.execHeadPresent h mw v s
  | .headLinkReady h => Sys2Proof.Machine.execHeadLinkReady h s
  | .linkReadyTimeout h => Sys2Proof.Machine.execLinkReadyTimeout h s
  | .linkTrainDone h gear => Sys2Proof.Machine.execLinkTrainDone h gear s
  | .identDone h id fmtOk => Sys2Proof.Machine.execIdentDone h id fmtOk s
  | .calibReadDone h rd => Sys2Proof.Machine.execCalibReadDone h rd s
  | .headLinkLoss h gone => Sys2Proof.Machine.execHeadLinkLoss h gone s
  | .portFaultWaitEnd h => Sys2Proof.Machine.execPortFaultWaitEnd h s
  | .retrain src h => Sys2Proof.Machine.execRetrain src h s
  | .recal src h => Sys2Proof.Machine.execRecal src h s
  | .headPowerTrip h => Sys2Proof.Machine.execHeadPowerTrip h s
  | .headPowerRetry h => Sys2Proof.Machine.execHeadPowerRetry h s
  | .headBudgetShed mw => Sys2Proof.Machine.execHeadBudgetShed mw s
  | .headShedRestore h mw => Sys2Proof.Machine.execHeadShedRestore h mw s
  | .frameTrigger h us => Sys2Proof.Machine.execFrameTrigger h us s
  | .frameLineRx h num line us crcOk pixels => Sys2Proof.Machine.execFrameLineRx h num line us crcOk pixels s
  | .frameStale h => Sys2Proof.Machine.execFrameStale h s
  | .frameProcessed h us targets => Sys2Proof.Machine.execFrameProcessed h us targets s
  | .glowwormDecision h us => Sys2Proof.Machine.execGlowwormDecision h us s
  | .glowwormSilence h => Sys2Proof.Machine.execGlowwormSilence h s
  | .poseWrite src h k val => Sys2Proof.Machine.execPoseWrite src h k val s
  | .bgLearn src n => Sys2Proof.Machine.execBgLearn src n s
  | .bgAbort src n => Sys2Proof.Machine.execBgAbort src n s
  | .bgLearnDone n => Sys2Proof.Machine.execBgLearnDone n s
  | .lqAck src h => Sys2Proof.Machine.execLqAck src h s
  | .recordAtSafety h => Sys2Proof.Machine.execRecordAtSafety h s
  | .visionStale h => Sys2Proof.Machine.execVisionStale h s
  | .burstReqHoldEnd n => Sys2Proof.Machine.execBurstReqHoldEnd n s
  | .thinAdclHoldEnd n => Sys2Proof.Machine.execThinAdclHoldEnd n s
  | .cycReqWrite src n val => Sys2Proof.Machine.execCycReqWrite src n val s
  | .cycleTick => Sys2Proof.Machine.execCycleTick s
  | .supervisionTimeout n => Sys2Proof.Machine.execSupervisionTimeout n s
  | .dwellDoneSet n => Sys2Proof.Machine.execDwellDoneSet n s
  | .pauseDoneSet n => Sys2Proof.Machine.execPauseDoneSet n s
  | .recoverSettle n => Sys2Proof.Machine.execRecoverSettle n s
  | .sealSample aSaf aCol bSaf bCol => Sys2Proof.Machine.execSealSample aSaf aCol bSaf bCol s
  | .sealPoleDisagree k => Sys2Proof.Machine.execSealPoleDisagree k s
  | .sealChange k => Sys2Proof.Machine.execSealChange k s
  | .inputAccepted ch j lv => Sys2Proof.Machine.execInputAccepted ch j lv s
  | .channelExchange => Sys2Proof.Machine.execChannelExchange s
  | .inputDiscLatch j => Sys2Proof.Machine.execInputDiscLatch j s
  | .pairDiscrepancyLatch ch p => Sys2Proof.Machine.execPairDiscrepancyLatch ch p s
  | .twoHandButtonFault ch b => Sys2Proof.Machine.execTwoHandButtonFault ch b s
  | .twoHandWindowExpiry ch => Sys2Proof.Machine.execTwoHandWindowExpiry ch s
  | .heartbeatLost lost => Sys2Proof.Machine.execHeartbeatLost lost s
  | .reversalWatchFail n => Sys2Proof.Machine.execReversalWatchFail n s
  | .guidedContactFault b => Sys2Proof.Machine.execGuidedContactFault b s
  | .edmCheckFail ch b => Sys2Proof.Machine.execEdmCheckFail ch b s
  | .resetRelease ch inactiveMs pressMs => Sys2Proof.Machine.execResetRelease ch inactiveMs pressMs s
  | .resetStuck ch => Sys2Proof.Machine.execResetStuck ch s
  | .spPeriodicTestFail sram detail => Sys2Proof.Machine.execSpPeriodicTestFail sram detail s
  | .mirrorCheck => Sys2Proof.Machine.execMirrorCheck s
  | .testDueSet => Sys2Proof.Machine.execTestDueSet s
  | .safeCopyRx can bytes => Sys2Proof.Machine.execSafeCopyRx can bytes s
  | .pairTimeout t => Sys2Proof.Machine.execPairTimeout t s
  | .permissiveLapse t => Sys2Proof.Machine.execPermissiveLapse t s
  | .streamUnsync t => Sys2Proof.Machine.execStreamUnsync t s
  | .networkLost can => Sys2Proof.Machine.execNetworkLost can s
  | .netRestrEnd => Sys2Proof.Machine.execNetRestrEnd s
  | .doorStatusSend => Sys2Proof.Machine.execDoorStatusSend s
  | .gcOnWrite src hi val => Sys2Proof.Machine.execGcOnWrite src hi val s
  | .followWrite src c val => Sys2Proof.Machine.execFollowWrite src c val s
  | .directEdge p active => Sys2Proof.Machine.execDirectEdge p active s
  | .ocTrip c ma => Sys2Proof.Machine.execOcTrip c ma s
  | .retryBackoffEnd c => Sys2Proof.Machine.execRetryBackoffEnd c s
  | .retryNReset c => Sys2Proof.Machine.execRetryNReset c s
  | .commandOffSettled c => Sys2Proof.Machine.execCommandOffSettled c s
  | .inrushWindowEnd c => Sys2Proof.Machine.execInrushWindowEnd c s
  | .thermalLatch c dt tj => Sys2Proof.Machine.execThermalLatch c dt tj s
  | .thermalLatchClear c dt tj => Sys2Proof.Machine.execThermalLatchClear c dt tj s
  | .clampUnlock src val => Sys2Proof.Machine.execClampUnlock src val s
  | .crawlClampUnlock c => Sys2Proof.Machine.execCrawlClampUnlock c s
  | .shedStep b now mean => Sys2Proof.Machine.execShedStep b now mean s
  | .shedRestoreStep b now mean => Sys2Proof.Machine.execShedRestoreStep b now mean s
  | .gateCutBitClear n => Sys2Proof.Machine.execGateCutBitClear n s
  | .crawlEnFilterAccept active => Sys2Proof.Machine.execCrawlEnFilterAccept active s
  | .crawlMapWrite src k val => Sys2Proof.Machine.execCrawlMapWrite src k val s
  | .bankOvervoltage b => Sys2Proof.Machine.execBankOvervoltage b s
  | .bankReverse b => Sys2Proof.Machine.execBankReverse b s
  | .bankGroundLoss b => Sys2Proof.Machine.execBankGroundLoss b s
  | .bankReturn b => Sys2Proof.Machine.execBankReturn b s
  | .bankChannelRestore b => Sys2Proof.Machine.execBankChannelRestore b s
  | .bankSwitchFault c => Sys2Proof.Machine.execBankSwitchFault c s
  | .barrierLoss => Sys2Proof.Machine.execBarrierLoss s
  | .barrierReturn => Sys2Proof.Machine.execBarrierReturn s
  | .fiAccepted j dv => Sys2Proof.Machine.execFiAccepted j dv s
  | .foOutWrite src val => Sys2Proof.Machine.execFoOutWrite src val s
  | .thrWrite src val => Sys2Proof.Machine.execThrWrite src val s
  | .foCurrentLimit n => Sys2Proof.Machine.execFoCurrentLimit n s
  | .foThermalShutdown n => Sys2Proof.Machine.execFoThermalShutdown n s
  | .foThermalRestart n => Sys2Proof.Machine.execFoThermalRestart n s
  | .fioFaultClear => Sys2Proof.Machine.execFioFaultClear s
  | .canFrameRx n f us => Sys2Proof.Machine.execCanFrameRx n f us s
  | .canTxPush src n j => Sys2Proof.Machine.execCanTxPush src n j s
  | .canTxCancel src n j => Sys2Proof.Machine.execCanTxCancel src n j s
  | .canTxRelease src n j => Sys2Proof.Machine.execCanTxRelease src n j s
  | .canRxAck src n k => Sys2Proof.Machine.execCanRxAck src n k s
  | .canHpbRelease src n h => Sys2Proof.Machine.execCanHpbRelease src n h s
  | .canTxStart n a => Sys2Proof.Machine.execCanTxStart n a s
  | .canTxComplete n us tdc => Sys2Proof.Machine.execCanTxComplete n us tdc s
  | .canBusError n kind tx big => Sys2Proof.Machine.execCanBusError n kind tx big s
  | .canRecover src n => Sys2Proof.Machine.execCanRecover src n s
  | .canRecoveryDone n => Sys2Proof.Machine.execCanRecoveryDone n s
  | .lpReqWrite src n b => Sys2Proof.Machine.execLpReqWrite src n b s
  | .canSleepEnter n => Sys2Proof.Machine.execCanSleepEnter n s
  | .canLocalWake n src => Sys2Proof.Machine.execCanLocalWake n src s
  | .canEnWrite src n b => Sys2Proof.Machine.execCanEnWrite src n b s
  | .safeCanConfigure => Sys2Proof.Machine.execSafeCanConfigure s
  | .ecnFrameRx port f buf full => Sys2Proof.Machine.execEcnFrameRx port f buf full s
  | .ecnTailWrite src k val => Sys2Proof.Machine.execEcnTailWrite src k val s
  | .ecnFrameTx frame full => Sys2Proof.Machine.execEcnFrameTx frame full s
  | .bypassRelayChange => Sys2Proof.Machine.execBypassRelayChange s
  | .ecnLinkChange port up gig => Sys2Proof.Machine.execEcnLinkChange port up gig s
  | .mvbMasterFrame ask a b => Sys2Proof.Machine.execMvbMasterFrame ask a b s
  | .mvbSlaveFrame addr data a b => Sys2Proof.Machine.execMvbSlaveFrame addr data a b s
  | .mvbLineFault line => Sys2Proof.Machine.execMvbLineFault line s
  | .mvbPortStale k => Sys2Proof.Machine.execMvbPortStale k s
  | .mvbSinkWord0Read k => Sys2Proof.Machine.execMvbSinkWord0Read k s
  | .lglPoll => Sys2Proof.Machine.execLglPoll s
  | .lglReplyRx bytes parityOk => Sys2Proof.Machine.execLglReplyRx bytes parityOk s
  | .lglReplyTimeout => Sys2Proof.Machine.execLglReplyTimeout s
  | .lglSendBuffer src val => Sys2Proof.Machine.execLglSendBuffer src val s
  | .lglSlaveReply bytes parityOk => Sys2Proof.Machine.execLglSlaveReply bytes parityOk s
  | .dvrMessageRx f malformed => Sys2Proof.Machine.execDvrMessageRx f malformed s
  | .announceSend => Sys2Proof.Machine.execAnnounceSend s
  | .announceRx c unit payload => Sys2Proof.Machine.execAnnounceRx c unit payload s
  | .consistRx payload => Sys2Proof.Machine.execConsistRx payload s
  | .partnerLost k => Sys2Proof.Machine.execPartnerLost k s
  | .carrierTimeout k c => Sys2Proof.Machine.execCarrierTimeout k c s
  | .tcmsLost => Sys2Proof.Machine.execTcmsLost s
  | .slotHoldExpiry k => Sys2Proof.Machine.execSlotHoldExpiry k s
  | .expectedMissing k => Sys2Proof.Machine.execExpectedMissing k s
  | .doorInfoSend => Sys2Proof.Machine.execDoorInfoSend s
  | .recordSeal cycle bad => Sys2Proof.Machine.execRecordSeal cycle bad s
  | .archivePageCopy a res => Sys2Proof.Machine.execArchivePageCopy a res s
  | .traceSample n => Sys2Proof.Machine.execTraceSample n s
  | .clipComplete n => Sys2Proof.Machine.execClipComplete n s
  | .snapshotTimer => Sys2Proof.Machine.execSnapshotTimer s
  | .snap src => Sys2Proof.Machine.execSnap src s
  | .hev src => Sys2Proof.Machine.execHev src s
  | .find src => Sys2Proof.Machine.execFind src s
  | .findDone => Sys2Proof.Machine.execFindDone s
  | .rdClassWrite src val => Sys2Proof.Machine.execRdClassWrite src val s
  | .expStart src => Sys2Proof.Machine.execExpStart src s
  | .expAbort src => Sys2Proof.Machine.execExpAbort src s
  | .expAckWrite src val => Sys2Proof.Machine.execExpAckWrite src val s
  | .flowRecovery agree torn crcBad => Sys2Proof.Machine.execFlowRecovery agree torn crcBad s
  | .nandPowerOff => Sys2Proof.Machine.execNandPowerOff s
  | .nandOnlyFlush res => Sys2Proof.Machine.execNandOnlyFlush res s
  | .recorderSend => Sys2Proof.Machine.execRecorderSend s
  | .tcUpdate temp => Sys2Proof.Machine.execTcUpdate temp s
  | .tickCheckpoint => Sys2Proof.Machine.execTickCheckpoint s
  | .backupLoss => Sys2Proof.Machine.execBackupLoss s
  | .setCmdWrite val => Sys2Proof.Machine.execSetCmdWrite val s
  | .calendarSetApply => Sys2Proof.Machine.execCalendarSetApply s
  | .almDlySWrite val => Sys2Proof.Machine.execAlmDlySWrite val s
  | .alarmConfigWrite w val => Sys2Proof.Machine.execAlarmConfigWrite w val s
  | .calAlarmFire => Sys2Proof.Machine.execCalAlarmFire s
  | .dlyAlarmFire => Sys2Proof.Machine.execDlyAlarmFire s
  | .slatiLineError => Sys2Proof.Machine.execSlatiLineError s
  | .slatiHello => Sys2Proof.Machine.execSlatiHello s
  | .slatiVer v => Sys2Proof.Machine.execSlatiVer v s
  | .slatiBaud rate => Sys2Proof.Machine.execSlatiBaud rate s
  | .baudRevert => Sys2Proof.Machine.execBaudRevert s
  | .slatiBreak active => Sys2Proof.Machine.execSlatiBreak active s
  | .slatiLogin role => Sys2Proof.Machine.execSlatiLogin role s
  | .slatiResp resp => Sys2Proof.Machine.execSlatiResp resp s
  | .nonceExpiry => Sys2Proof.Machine.execNonceExpiry s
  | .lockoutEnd => Sys2Proof.Machine.execLockoutEnd s
  | .slatiLogout => Sys2Proof.Machine.execSlatiLogout s
  | .sessionTimeout => Sys2Proof.Machine.execSessionTimeout s
  | .slatiId => Sys2Proof.Machine.execSlatiId s
  | .slatiStatus => Sys2Proof.Machine.execSlatiStatus s
  | .slatiCairn => Sys2Proof.Machine.execSlatiCairn s
  | .slatiRd pg off n => Sys2Proof.Machine.execSlatiRd pg off n s
  | .slatiRdi pg sp addr n => Sys2Proof.Machine.execSlatiRdi pg sp addr n s
  | .slatiWr pg off val => Sys2Proof.Machine.execSlatiWr pg off val s
  | .slatiWri pg sp addr val => Sys2Proof.Machine.execSlatiWri pg sp addr val s
  | .slatiClock y m d h mi sec => Sys2Proof.Machine.execSlatiClock y m d h mi sec s
  | .slatiRestart => Sys2Proof.Machine.execSlatiRestart s
  | .slatiHold => Sys2Proof.Machine.execSlatiHold s
  | .slatiExport => Sys2Proof.Machine.execSlatiExport s
  | .slatiAck k crc => Sys2Proof.Machine.execSlatiAck k crc s
  | .slatiExpabort => Sys2Proof.Machine.execSlatiExpabort s
  | .slatiMon tp cls idx => Sys2Proof.Machine.execSlatiMon tp cls idx s
  | .slatiTest t => Sys2Proof.Machine.execSlatiTest t s
  | .testComplete pass v1 v2 elOfs => Sys2Proof.Machine.execTestComplete pass v1 v2 elOfs s
  | .slatiStop => Sys2Proof.Machine.execSlatiStop s
  | .slatiParamRd => Sys2Proof.Machine.execSlatiParamRd s
  | .slatiParamWr off val => Sys2Proof.Machine.execSlatiParamWr off val s
  | .slatiParamCommit => Sys2Proof.Machine.execSlatiParamCommit s
  | .slatiTcfgRd => Sys2Proof.Machine.execSlatiTcfgRd s
  | .slatiTcfgWr off val => Sys2Proof.Machine.execSlatiTcfgWr off val s
  | .slatiTcfgCommit => Sys2Proof.Machine.execSlatiTcfgCommit s
  | .slatiLc new => Sys2Proof.Machine.execSlatiLc new s
  | .tpSelWrite src tp val => Sys2Proof.Machine.execTpSelWrite src tp val s
  | .columnCheckFail gates detail => Sys2Proof.Machine.execColumnCheckFail gates detail s
  | .encoderRestored n => Sys2Proof.Machine.execEncoderRestored n s

end Sys2Proof.Machine
end

