-- ==== Sys2Proof/Machine/Tick.lean ====
section
/-! DEFINITION. What time alone does: with no command waiting, one step of the block is one Drip count (R352). Readings in
milliseconds age at each whole one, and what is kept for a time is forgotten. Waiting times that end in an event of their
own are rows of the table. -/

namespace Sys2Proof.Machine

/-- GAP_AGE_MS, FRAME_AGE_MS and GW_MS (R140, R158, R161) grow up to their last value, which also says that nothing has been
read. -/
def agesGrow (s : State) : State :=
  let s := eachAx (fun s n => s.count (AX.GAP_AGE_MS n)) s
  if s.domOn 6 then eachHead (fun s h => (s.count (LH.FRAME_AGE_MS h)).count (LH.GW_MS h)) s else s

/-- CLAMP_SUM falls as clamp events leave its 10 s (R260). -/
def clampForget (s : State) : State :=
  if s.gal.clampLog.isEmpty then s
  else
    let s := s.gal.clampLog.foldl (fun (s : State) e => s.setSat (GALC.CLAMP_SUM e.1) (clampSum s e.1)) s
    { s with gal := { s.gal with clampLog := s.gal.clampLog.filter (fun e => s.tick < e.2.1 + 327680) } }

/-- Ingest over the latest second (R163). -/
def ingestForget (s : State) : State :=
  if s.ingest.isEmpty then s
  else
    let log := s.ingest.filter (fun e => s.tick < e.2 + 32768)
    { s with ingest := log }.setSat LANT.ING_MBPS (ingestRate log)

/-- Repairs older than a second are forgotten; a page's fault ends with their rate (R84). -/
def repairsForget (s : State) : State :=
  if s.scrubLog.isEmpty then s
  else
    let s := { s with scrubLog := s.scrubLog.filter (fun e => s.tick < e.2 + 32768) }
    let bad := maskOf (fun pg => bitAt s.voteBad pg &&
      s.scrubLog.any (fun e => pgOf (e.1 / 32) = pg && 16 < repairsOf s e.1)) 0x71
    if bad = s.voteBad then s else evalAll (eachAx axShow { s with voteBad := bad })

/-- A whole millisecond. -/
def milli (s : State) : State := repairsForget (ingestForget (clampForget (agesGrow s)))

/-- One Drip count, and the millisecond it may end. -/
def idle (s : State) : State :=
  let t := dripCount s
  if t.tick = s.tick then t
  else if !msBoundary s.tick then recessiveCount t else milli (recessiveCount t)

end Sys2Proof.Machine
end

