-- ==== Sys2Proof/Changes.lean ====
section
/-! DEFINITION. What each command can change, by name: the words in which the statements about frames are put. A command's row
lists register fields (each name stands for the field in every instance it has), parts of State and spaces of storage; whatever the
row does not list stays as it is. The rows of commands that can write any register or can start the whole machine again say so. -/

namespace Sys2Proof.Machine

/-- The parts of State besides the register fields, the storage, the member and the queue. -/
inductive Part where
  | tick
  | fixed
  | stage
  | inds
  | deferred
  | rdata
  | scrubLog
  | freeCtr
  | pwr
  | axes
  | gal
  | saf
  | doors
  | voteBad
  | fq0
  | heads
  | ingest
  | drip
  | flow
  | fio
  | cans
  | nets
  | echo
  | dst
  | svc
  deriving DecidableEq, Repr

/-- A part is the same in two states. -/
def Part.same (s t : State) : Part → Prop
  | .tick => t.tick = s.tick
  | .fixed => t.fixed = s.fixed
  | .stage => t.stage = s.stage
  | .inds => t.inds = s.inds
  | .deferred => t.deferred = s.deferred
  | .rdata => t.rdata = s.rdata
  | .scrubLog => t.scrubLog = s.scrubLog
  | .freeCtr => t.freeCtr = s.freeCtr
  | .pwr => t.pwr = s.pwr
  | .axes => t.axes = s.axes
  | .gal => t.gal = s.gal
  | .saf => t.saf = s.saf
  | .doors => t.doors = s.doors
  | .voteBad => t.voteBad = s.voteBad
  | .fq0 => t.fq0 = s.fq0
  | .heads => t.heads = s.heads
  | .ingest => t.ingest = s.ingest
  | .drip => t.drip = s.drip
  | .flow => t.flow = s.flow
  | .fio => t.fio = s.fio
  | .cans => t.cans = s.cans
  | .nets => t.nets = s.nets
  | .echo => t.echo = s.echo
  | .dst => t.dst = s.dst
  | .svc => t.svc = s.svc

/-- One space of `count` pages from `first` up. -/
structure Space where
  first : Nat
  count : Nat
  space : Nat
  deriving DecidableEq, Repr

def Space.has (q : Space) (pg sp : Nat) : Prop := q.first ≤ pg ∧ pg < q.first + q.count ∧ sp = q.space

/-- Every space of every page. -/
def everySpace : List Space := (List.range 16).map (fun k => ⟨0, 256, k⟩)

/-- What a command can change. -/
structure Changes where
  fields : List (Nat → Reg)
  parts  : List Part
  spaces : List Space

/-- Whether a field is one of those named, in some instance. -/
def named (l : List (Nat → Reg)) (r : Reg) : Prop := ∃ f ∈ l, ∃ n, (f n).key = r.key

/-- `t` differs from `s` at most in what is listed. -/
structure Unchanged (c : Changes) (s t : State) : Prop where
  member  : t.member = s.member
  pending : t.pending = s.pending
  fields  : ∀ r : Reg, ¬ named c.fields r → t.get r = s.get r
  parts   : ∀ p : Part, p ∉ c.parts → p.same s t
  bytes   : ∀ pg sp a : Nat, pg < 256 → sp < 16 → (∀ q ∈ c.spaces, ¬ q.has pg sp) → t.rd8 pg sp a = s.rd8 pg sp a

/-- A field that the machine has once. -/
def the (r : Reg) : Nat → Reg := fun _ => r

/-- What showing the Lantern ports again writes (R141 to R161). -/
def lantFields : List (Nat → Reg) := [the LANT.ANY_SHED, the LANT.ANY_DOWN, the LANT.ANY_BURST, the LANT.RUN_MASK, the
  LANT.UP_MASK, the LANT.GOOD_MASK, the LANT.BURST_MASK, the LANT.HP_TOTAL]

/-- What the partner tables write (R313 to R330). -/
def echoFields : List (Nat → Reg) := [HDR.PG_DROP_CNT, the ECHO.OWN_CONFLICT, the ECHO.CHG_WR, the ECHO.NEW_CNT, the
  ECHO.LOST_CNT, the ECHO.CONFLICT_CNT, the ECHO.FOREIGN_CNT, the ECHO.CHG_DROP_CNT]

/-- What a claim of a resource writes (R91). -/
def claimFields : List (Nat → Reg) := [HDR.PG_ADJ_CNT, the RES.OWN_DIR_LO, the RES.OWN_DIR_HI, the RES.OWN_CSTEP, the
  RES.OWN_MON_LO, the RES.OWN_MON_HI, the RES.LAST_RES, the RES.LAST_WIN, the RES.LAST_LOSE, the RES.RES_CONFLICT_CNT]

/-- What deciding trust, volumes and their registers again writes (R162 to R187). -/
def visionFields : List (Nat → Reg) := [the LVOL.UNTRUST, the LVOL.THIN, the LVOL.LQ_NE, the LVOL.PINCH_MASK, the
  LVOL.BURST_REQ_MASK, the LVOL.SQZ_MASK, the LVOL.LQ_FILL0, the LVOL.LQ_FILL1, the LVOL.LQ_FILL2, the LVOL.LQ_FILL3,
  LVOLD.TRUSTED, LVOLD.SQZ]

/-- What showing a CAN controller again writes (R280 to R301). -/
def canFields : List (Nat → Reg) := [CAN.BUS_OFF, CAN.ERR_PASSIVE, CAN.WARN, CAN.TX_FULL, CAN.TX_DONE_NE, CAN.RX_FULL,
  CAN.RX_NE, CAN.ESTATE, CAN.RX_LEVEL, CAN.RX_GET, CAN.RX_FREE_BLK, CAN.PASSIVE_CNT]

/-- What a head link going down writes. -/
def linkFields : List (Nat → Reg) := echoFields ++ [LH.GEAR_LOW, LH.BURST, LH.CAL_OK, LH.ID_OK, LH.LINK_UP, LH.RUN,
  LH.FRAME_STALE, LH.HVER, LH.GEAR, LH.MODE, LH.FRM_INC_CNT]

/-- What a posted write of an indirect pair writes (R89). -/
def indFields : List (Nat → Reg) := visionFields ++ [HDR.PG_ADJ_CNT, the DRIP.ALM_MISSED, the DRIP.ALM_DLY_HIT, the
  DRIP.ALM_CAL_HIT, AX.PRF_VALID, the LVOL.BG_VALID_MASK, the LVOL.BG_STATE, the MVB.STALE_MASK]

/-- What showing an axis again writes: its place, its status and what hangs on them (R94 to R116). -/
def axFields : List (Nat → Reg) := [HDR.FAULT, AX.GO_WAIT, AX.AT_TARGET, AX.Q_FULL, AX.Q_EMPTY, AX.MOVING, AX.RUN_SEG,
  AX.RUN_PRF, AX.RUN_KIND, AX.MQ_COUNT, AX.POS_HI, AX.POS_LO, AX.VEL, AX.POS_UM, AX.DIR_OPEN, the TRV.GO_PENDING, the
  TRV.ANY_FAULT, the TRV.ANY_STO, the TRV.ANY_MOVING, the TRV.MOVING_MASK, the TRV.STO_MASK, the TRV.TBL_INUSE]

/-- What deciding the Gallery outputs again writes (R250 to R266). -/
def galFields : List (Nat → Reg) := [HDR.PG_FAULT_CNT, the GAL.ANY_CLAMP_LOCK, the GAL.ANY_TH, the GAL.ANY_OC, the
  GAL.B_SHED, the GAL.A_SHED, the GAL.B_OK, the GAL.A_OK, the GAL.OUT_LO, the GAL.OUT_HI, the GAL.BLK_LO, the GAL.BLK_HI,
  the GAL.RETRY_CNT, the GAL.CLAMP_LOCK_CNT, the GAL.CLAMP_OVER_CNT, GALC.IN_CRAWL, GALC.GATE_SHUT, GALC.SHED,
  GALC.CLAMP_LOCK, GALC.OC_TRIP, GALC.INRUSH, GALC.OUT, GALC.CMD, GALC.CLAMP_SUM, GALC.CLAMP_LAST, GALC.CH_CLAMP_CNT]

/-- What a CAN error writes (R294, R295). -/
def canErrorFields : List (Nat → Reg) := canFields ++ [HDR.PG_FAULT_CNT, CAN.RECOVERING, CAN.TEC, CAN.REC, CAN.LEC,
  CAN.TX_PEND, CAN.TX_DONE, CAN.TX_ACT_V, CAN.HEAD_V, CAN.HEAD_IDX, CAN.REC_SEQ, CAN.CANCEL_CNT, CAN.BUSOFF_CNT,
  CAN.BIT_ERR_CNT, CAN.STUFF_ERR_CNT, CAN.FORM_ERR_CNT, CAN.ACK_ERR_CNT, CAN.CRC_ERR_CNT]

/-- What a change of the supply writes (R32 to R45). -/
def supplyFields : List (Nat → Reg) := galFields ++ [the PWR.GB_OK, the PWR.GA_OK, the PWR.BATTD_OK, the PWR.BATTL_LOW, the
  PWR.BATTL_OK, the PWR.VL, the PWR.VD, the PWR.VGA, the PWR.VGB, the PWR.DOM_ON, the CLK.CLK_FAIL, the CRAWL.CR_PIN]

/-- What a doorway taking another state writes: its state registers, its counters and the records of it (R188 to R212). -/
def doorFields : List (Nat → Reg) := [HDR.PG_DROP_CNT, the CYC.TMO, the CYC.OBS, the CYC.EMG, the CYC.DRAG, the
  CYC.ISOL_MASK, CYCD.STATE, CYCD.PREV_STATE, CYCD.RETRY, CYCD.IN_SVC, CYCD.STEP_FIT, CYCD.SIDE, CYCD.OP_SAF, CYCD.OP_COL,
  CYCD.LOCK_GATE, CYCD.CL_OK, CYCD.DCL_L, CYCD.DCL_R, CYCD.LOCKFB, CYCD.STOWED, CYCD.EGR_OP, CYCD.ISOL, CYCD.ISOL_PEND,
  CYCD.DRAG, CYCD.TMO, CYCD.PAUSE_DONE, CYCD.TH_ACTIVE, CYCD.DWELL_DONE, CYCD.T_IN_STATE_MS, CYCD.CYC_CNT, CYCD.LIFE_CYC,
  CYCD.CYC_T_LAST_MS, CYCD.CYC_FLAGS, CYCD.REVERSE_CNT, CYCD.OBSTR_CNT, CYCD.EMERG_CNT, CYCD.ISOL_CNT, CYCD.DEPOT_CNT, the
  FLOW.FQ0_DROP_CNT, the FLOW.FQ1_DROP_CNT]

/-- What evaluating the safety function again writes: levels, enables, trips and what they bring down (R213 to R247). -/
def safetyFields : List (Nat → Reg) := galFields ++ axFields ++ [the SAFM.TH_ACT, the SAFM.ZS, the SAFM.ESTOP, the
  SAFM.LATCH, the SAFM.ADCL_A_RB, the SAFM.ADCL_A_ON, the SAFM.CL_OK_SAF, the SAFM.EGR_OP_SAF, the SAFM.LOCK_EN_SAF, the
  SAFM.OP_SAF_M, the SAFM.TQ_PERMIT, the SAFM.MOT_PERMIT, the SAFM.EDGE_FLT, the SAFM.EDGE_R_ACT, the SAFM.EDGE_L_ACT, the
  SAFM.LC_INT, the SAFM.EGR_DISC_M, the SAFM.ENC_HOLD, the SAFM.SAF_STATE, the SAFM.SRC, the SAFM.REV_REQ_CNT, the
  COLM.ADCL_ALLOW, the COLM.ESTOP, the COLM.LATCH, the COLM.ADCL_B_RB, the COLM.ADCL_B_ON, the COLM.TEN_MASK, the
  COLM.CL_OK_COL, the COLM.EGR_OP_COL, the COLM.LOCK_EN_COL, the COLM.OP_COL_M, the COLM.ESTOP_1, the COLM.ESTOP_2, the
  COLM.ZS_A, the COLM.ZS_B, the COLM.REL_LEFT, the COLM.REL_RIGHT, the COLM.EDM_A, the COLM.EDM_B, the COLM.TH_A_NO, the
  COLM.TH_A_NC, the COLM.TH_B_NO, the COLM.TH_B_NC, the COLM.RESET, the COLM.DEPOT, the COLM.LC_B, the COLM.LC_A, the
  CYC.CLOK_MASK, the CYC.INSVC_MASK, the CYC.ADCL_SAF, the CYC.ADCL_COL, the CYC.REL_L_HW, the CYC.REL_R_HW, the
  CYC.REL_L_TG, the CYC.REL_R_TG, the CYC.ZS_HW, the CYC.ZS_TG, the CYC.OP_SAF_MASK, the CYC.OP_COL_MASK, the CYC.SIDE_MASK,
  CYCD.IN_SVC, CYCD.STEP_FIT, CYCD.SIDE, CYCD.OP_SAF, CYCD.OP_COL, CYCD.LOCK_GATE, CYCD.CL_OK, CYCD.DCL_L, CYCD.DCL_R,
  CYCD.LOCKFB, CYCD.STOWED, CYCD.EGR_OP, CYCD.ISOL, CYCD.ISOL_PEND, CYCD.TH_ACTIVE, AX.STO]

/-- What the end of a test run writes (R370 to R379). -/
def testFields : List (Nat → Reg) := safetyFields ++ [the GAL.GC_ON_LO, the GAL.GC_ON_HI, the FIO.FO_OUT, CAN.MODE, the
  TEST.M_TEST, the TEST.TEST_RUN, the TEST.TEST_RESULT, TEST.TP_SEL, the TEST.TEST_OWN_DW, the TEST.TEST_ABORT_CNT, the
  RES.OWN_DIR_LO, the RES.OWN_DIR_HI, the RES.OWN_CSTEP, the RES.OWN_MON_LO, the RES.OWN_MON_HI]

/-- What the reaction to a safety channel writes. -/
def reactFields : List (Nat → Reg) := testFields ++ visionFields ++ [the SYS.VISION_FULL, the PWR.PARK_ABORT_CNT, the
  LVOL.BG_VALID_MASK, the LVOL.BG_STATE, the LVOL.SQZ_CNT, the LVOL.BG_FAIL_CNT, LVOLD.UNT_WHY]

/-- What evaluating Gallery, volumes and safety function together writes. -/
def evalFields : List (Nat → Reg) := safetyFields ++ visionFields ++ claimFields ++ [the SYS.VISION_FULL, the LVOL.SQZ_CNT,
  LVOLD.UNT_WHY, the GAL.GC_ON_LO, the GAL.GC_ON_HI, GALC.FOLLOW, the CRAWL.CRAWL_ON, the CRAWL.CRAWL_CNT, the RES.HOST_DIR]

/-- What a copy of a safe telegram writes (R226 to R239). -/
def copyFields : List (Nat → Reg) := evalFields ++ [HDR.PG_DROP_CNT, the PWR.MODE, the PWR.ACT_RDY, the PWR.DOM_ON, the
  PWR.PARK_ABORT_CNT, the CLK.APP_NOW, the SAFM.NET_RESTR, the LANT.ENG_OK, the DST.ANY_UNSYNC, the DST.ONE_NET, the
  DST.CAN_LOST, the DST.ECN_LOST, the DST.CAN_OK, the DST.ECN_OK, the DST.REL_L_TG, the DST.REL_R_TG, the DST.ZS_TG, the
  DST.OPEN_EN_TG, the DST.INHIBIT_TG, the DST.CLOSE_TG, the DST.LAST_DROP_TYPE, the DST.LAST_DROP, the DST.RX_OK_CNT, the
  DST.PAIR_CNT, the DST.CRC_ERR_CNT, the DST.FOREIGN_CNT, the DST.STALE_CNT, the DST.JUMP_CNT, the DST.LATE_CNT, the
  DST.SINGLE_CNT, the DST.MISMATCH_CNT]

/-- What domains going off write (R46, R77). -/
def offFields : List (Nat → Reg) := evalFields ++ linkFields ++ lantFields ++ [the PWR.DOM_ON, the CLK.CLK_FAIL, the
  SAFM.SP_RUN, the COLM.SP_HB_OK, LH.LINK_STATE, LH.REJ_CODE, LH.HP_SHED, LH.PWR_TRIP, LH.PRESENT, LH.HP_MW, LH.HP_V, the
  LANT.HP_OK, the CRAWL.MAP_LOADED, the FIO.BARRIER_OK, the FIO.FIO_FAULT, the FIO.FI_LO, the FIO.FI_HI, the
  FIO.FAULT_ON_CNT, the FIO.SAG_CNT, the FLOW.FQ0_DROP_CNT]

/-- What entering REFUGE writes (R60 to R66). -/
def refugeFields : List (Nat → Reg) := offFields ++ testFields ++ [the SYS.OPERABLE, the SYS.REFUGE, the SYS.REFUGE_STEP,
  the SYS.RF_STEP, the SYS.RF_CODE, the SYS.RF_DETAIL, the SYS.REFUGE_CNT, the PWR.MODE, the PWR.ACT_RDY, the CLK.APP_NOW,
  the LANT.ENG_OK, CRAWL.CRAWL_MAP, the ECHO.CONSIST_VALID, the FLOW.EXP_RUN, the FLOW.EXP_CHUNK, FLOW.CAIRN]

/-- What each command can change. A command that can write any register, or start the machine again, has no row. -/
def changes : Instr → Option Changes
  | .registerWrite _ _ _ _ => none
  | .bitAliasWrite _ _ _ _ => none
  | .wideHighWrite _ _ _ => none
  | .wideLowWrite _ _ _ => none
  | .indAddrWrite _ _ _ => some ⟨indFields ++ [the TEST.HOST_DISC_CNT], [.inds, .pwr, .drip, .nets], everySpace⟩
  | .indCtrlWrite _ _ _ => some ⟨indFields ++ [the TEST.HOST_DISC_CNT], [.inds, .pwr, .drip, .nets], everySpace⟩
  | .indDataRead _ _ => some ⟨indFields, [.inds, .rdata, .pwr, .drip, .nets], everySpace⟩
  | .indDataWrite _ _ _ => some ⟨indFields ++ [the TEST.HOST_DISC_CNT], [.inds, .pwr, .drip, .nets], everySpace⟩
  | .indPrefetchDone _ _ => some ⟨[], [.inds, .nets], []⟩
  | .indPostedWriteDone _ _ => some ⟨indFields, [.inds, .pwr, .drip], everySpace⟩
  | .voteScrub _ => none
  | .domainOn _ => none
  | .domainOff _ => some ⟨offFields ++ [the FLOW.NAND_ON], [.freeCtr, .pwr, .axes, .gal, .saf, .doors, .fq0, .heads, .flow,
    .echo], []⟩
  | .hostResClaim _ _ _ => some ⟨claimFields ++ [TEST.TP_SEL, the TEST.HOST_DISC_CNT, the RES.HOST_DIR, the RES.HOST_CSTEP,
    the RES.HOST_MON], [], []⟩
  | .lampTestEnd => some ⟨[], [.pwr], []⟩
  | .battlInterrupt _ => some ⟨supplyFields, [.freeCtr, .pwr, .gal], []⟩
  | .battlReturn _ => some ⟨supplyFields, [.freeCtr, .pwr, .gal], []⟩
  | .pfWarn => some ⟨evalFields ++ [the PWR.PF_WARN], [.inds, .freeCtr, .pwr, .axes, .gal, .saf, .doors], []⟩
  | .powerDownComplete => some ⟨offFields ++ [the PWR.PF_WARN, the PWR.PF_CNT, the CRAWL.CR_PIN], [.freeCtr, .pwr, .axes,
    .gal, .saf, .doors, .fq0, .heads, .echo], everySpace⟩
  | .powerOnStart _ => none
  | .supplyLevelChange _ _ => some ⟨supplyFields, [.freeCtr, .pwr, .gal], []⟩
  | .battdOvOpen _ => some ⟨supplyFields ++ [the PWR.BATTD_OV], [.freeCtr, .pwr, .gal], []⟩
  | .battdOvClose _ => some ⟨supplyFields ++ [the PWR.BATTD_OV], [.freeCtr, .pwr, .gal], []⟩
  | .chopperOn _ => some ⟨[the PWR.CHOP_ON], [], []⟩
  | .chopperOff _ => some ⟨[the PWR.CHOP_SPENT, the PWR.CHOP_ON, the PWR.CHOP_E], [.pwr], []⟩
  | .chopBudgetRestored => some ⟨[the PWR.CHOP_SPENT, the PWR.CHOP_ON, the PWR.CHOP_E], [.pwr], []⟩
  | .busOvervoltage _ => some ⟨safetyFields ++ [the PWR.BUS_OV, the PWR.BUS_OV_CNT], [.freeCtr, .axes, .gal, .saf, .doors],
    []⟩
  | .modeReqWrite _ _ => some ⟨evalFields ++ [the PWR.MODE, the PWR.MODE_REQ, the PWR.ACT_RDY, the PWR.DOM_ON, the
    PWR.PARK_ABORT_CNT, the CLK.APP_NOW, the LANT.ENG_OK, the TEST.HOST_DISC_CNT], [.deferred, .freeCtr, .pwr, .axes, .gal,
    .saf, .doors, .nets], []⟩
  | .activeGateReadbackDone _ => some ⟨refugeFields ++ [the COLM.TEST_DUE], [.freeCtr, .pwr, .axes, .gal, .saf, .doors,
    .fq0, .heads, .flow, .nets, .echo, .svc], []⟩
  | .actRdySet _ => some ⟨[the PWR.ACT_RDY, the LANT.ENG_OK], [], []⟩
  | .idleDelayExpiry => some ⟨offFields ++ [the PWR.MODE, the PWR.ACT_RDY, the PWR.PARK_ABORT_CNT, the CLK.APP_NOW],
    [.freeCtr, .pwr, .axes, .gal, .saf, .doors, .fq0, .heads, .echo], []⟩
  | .wakeEvent _ => none
  | .parkStart => some ⟨evalFields ++ [HDR.PG_DROP_CNT, the PWR.MODE, the PWR.ACT_RDY, the PWR.PARK_ABORT_CNT, the
    FLOW.REC_CNT, the FLOW.PARTIAL_CNT], [.freeCtr, .pwr, .axes, .gal, .saf, .doors, .fq0, .flow, .fio, .cans], []⟩
  | .parkLateWake _ => none
  | .parkComplete => none
  | .crawlP10Off => some ⟨offFields, [.freeCtr, .pwr, .axes, .gal, .saf, .doors, .fq0, .heads, .echo], []⟩
  | .clockFailure _ _ _ => some ⟨refugeFields ++ [the CLK.CLK_FAIL_CNT, the COLM.COL_OK], [.freeCtr, .pwr, .axes, .gal,
    .saf, .doors, .fq0, .heads, .flow, .nets, .echo, .svc], []⟩
  | .cellMeasure _ _ => some ⟨[the PWR.CELL_LOW, the PWR.BK_CELL, the PWR.VCAP, the PWR.VCELL], [], []⟩
  | .clockMeasureDone _ => some ⟨[the CLK.MEAS_SEL, the CLK.MEAS_HZ, the TEST.TEST_STEP], [.svc], []⟩
  | .selfTestStepPass _ => some ⟨refugeFields ++ doorFields ++ [the SYS.ST_DONE, the SYS.ST_TIME_MS, the PWR.PARK_ABORT_CNT,
    the SEAL.SRC_CONFLICT, the SEAL.SIG_OK, the SEAL.CFG_ERR, the SEAL.A_SAF, the SEAL.A_COL, the SEAL.B_SAF, the
    SEAL.B_COL, the SEAL.DEPOT_PERMIT, the SEAL.SRC_SW, the SEAL.PST_CLASS, the SEAL.LC_EN, the SEAL.TH_EN, the
    SEAL.LOOP_VAR, the SEAL.INSVC, the SEAL.SIG_CRC, the SEAL.SIG_SW, the SEAL.DISC_MS, the SAFM.NET_RESTR, the
    SAFM.LATCH_SAF, the COLM.TEST_DUE, the COLM.COL_OK, the COLM.LATCH_COL, the COLM.EDM_FAULT_CNT, CYCD.CYC_REV_MM,
    AX.FORCE_THR, AX.FLIM_ABS, AX.SQZ_FABS, AX.E_LIM, AX.SQZ_VMAX, AX.REV_MM, AX.V_LIM, AX.REV_AMAX, the LVOL.BG_VALID_MASK,
    the LVOL.BG_STATE, the LVOL.BG_FAIL_CNT, the DST.ANY_UNSYNC, the DST.ONE_NET, the DST.CFG_OK, the DST.REL_L_TG, the
    DST.REL_R_TG, the DST.ZS_TG, the DST.OPEN_EN_TG, the DST.INHIBIT_TG, the DST.CLOSE_TG, the DST.OWN_UNIT, the
    DST.CAN_SEL, the DST.SEQ_WIN, the DST.AGE_MAX_MS, the DST.PERM_HOLD_MS, the DST.NET_TMO_MS, the DST.TCFG_CRC],
    [.freeCtr, .pwr, .axes, .gal, .saf, .doors, .fq0, .heads, .drip, .flow, .nets, .echo, .svc], [⟨pgDST, 1, 3⟩]⟩
  | .selfTestStepFail _ _ _ => some ⟨refugeFields ++ [the SYS.LC_STATE, the LANT.ENG_FAULT_STAGE], [.freeCtr, .pwr, .axes,
    .gal, .saf, .doors, .fq0, .heads, .flow, .nets, .echo, .svc], []⟩
  | .lpddr5WipeDone _ _ => some ⟨refugeFields ++ [the LVOL.BG_VALID_MASK, the LVOL.BG_STATE], [.freeCtr, .pwr, .axes, .gal,
    .saf, .doors, .fq0, .heads, .flow, .nets, .echo, .svc], [⟨pgLANT, 1, 15⟩, ⟨pgLVOL, 1, 14⟩]⟩
  | .hostStart _ _ => some ⟨refugeFields ++ [the BOOT.TRIAL, the BOOT.FALLBACK, the BOOT.B_OK, the BOOT.A_OK, the
    BOOT.RUN_SLOT, the BOOT.IMG_A_VER, the BOOT.IMG_B_VER, the BOOT.BOOT_FAIL_CNT, the BOOT.BOOT_TIME_MS], [.freeCtr, .pwr,
    .axes, .gal, .saf, .doors, .fq0, .heads, .flow, .nets, .echo, .svc], []⟩
  | .hostRdyWrite _ _ => some ⟨reactFields ++ doorFields ++ [HDR.PG_ADJ_CNT, the SYS.ST_DONE, the SYS.HOST_RDY, the
    TEST.HOST_DISC_CNT], [.fixed, .deferred, .freeCtr, .pwr, .axes, .gal, .saf, .doors, .fq0, .heads, .drip, .flow, .svc],
    []⟩
  | .hostRdyTimeout => some ⟨refugeFields, [.freeCtr, .pwr, .axes, .gal, .saf, .doors, .fq0, .heads, .flow, .nets, .echo,
    .svc], []⟩
  | .refugeMonitorPowerOn => some ⟨evalFields ++ [the PWR.DOM_ON, the LANT.ENG_OK], [.freeCtr, .pwr, .axes, .gal, .saf,
    .doors, .nets], []⟩
  | .galleryDeferredTest _ _ => some ⟨refugeFields, [.freeCtr, .pwr, .axes, .gal, .saf, .doors, .fq0, .heads, .flow, .nets,
    .echo, .svc], []⟩
  | .bootConfirmWrite _ _ => some ⟨[HDR.PG_ADJ_CNT, the BOOT.TRIAL, the BOOT.BOOT_CONFIRM, the BOOT.ROLLBACK_MIN, the
    TEST.HOST_DISC_CNT], [.fixed, .deferred, .pwr], []⟩
  | .refugeAnnounce _ => some ⟨[the ECHO.ANN_TX_CNT], [.freeCtr, .nets], []⟩
  | .lcWipesDone _ _ => none
  | .rstReqWrite _ _ => none
  | .hostWdKickWrite _ _ => some ⟨[HDR.PG_ADJ_CNT, the TEST.HOST_DISC_CNT], [], []⟩
  | .hostWdExpiry => some ⟨reactFields ++ evalFields ++ [the SAFM.HOST_WD, the CRAWL.CR_WD, the FIO.WD_OPEN], [.freeCtr,
    .pwr, .axes, .gal, .saf, .doors, .heads, .svc], []⟩
  | .wdRestartDue => none
  | .traverseUpdate _ _ => some ⟨safetyFields ++ visionFields ++ [HDR.PG_DROP_CNT, HDR.PG_ADJ_CNT, the PWR.DRV_LIMITING, the
    PWR.DRV_LIM_CNT, AX.LEARN, AX.FORCE_TRIP, AX.DEV_FAULT, AX.SLIP, AX.HOMING, AX.HOMED, AX.COARSE, AX.STOPPING, AX.HOLD,
    AX.TORQUE, AX.TORQUE_REQ, AX.STOP_RAMP, AX.STOP_CAUSE, AX.TGT_HI, AX.TGT_LO, AX.MQ_DROP_CNT, AX.MQ_FLUSH_CNT,
    AX.CLAMP_CNT, AX.BLEND_MISS_CNT, AX.MEAS_HI, AX.MEAS_LO, AX.MEAS_VEL, AX.ZCAP_HI, AX.ZCAP_LO, AX.DEV_STATE,
    AX.DEV_CAUSE, AX.DEV_LAST, AX.DEV_E, AX.HOME_RESULT, AX.CAP_HI, AX.CAP_LO, AX.RAW_OPEN, AX.RAW_CLOSED, AX.CHATTER_CNT,
    AX.KT_EST, AX.FORCE_EST, AX.FORCE_THR, AX.LEARN_RUNS, AX.V_LIM, AX.MASS_G, AX.MASS_VALID, AX.ENV_VALID, AX.REV_AMAX,
    AX.REV_CNT, AX.STEP_INFO, AX.GAP_STALE_CNT, AX.SLIP_CNT, AX.DEV_FAULT_CNT, AX.ENC_ERR_CNT, the LVOL.BG_VALID_MASK, the
    LVOL.BG_STATE, the LVOL.BG_FAIL_CNT, LVOLD.BURST_REQ, the FLOW.FQ0_DROP_CNT], [.freeCtr, .pwr, .axes, .gal, .saf,
    .doors, .fq0, .heads], [⟨0x10, 16, 2⟩, ⟨0x10, 16, 15⟩]⟩
  | .torqueRampEnd _ => some ⟨[], [.axes], []⟩
  | .holdReductionStart _ => some ⟨safetyFields ++ [AX.HOLD], [.freeCtr, .axes, .gal, .saf, .doors], []⟩
  | .axPush _ _ => some ⟨axFields ++ [HDR.PG_DROP_CNT, HDR.PG_ADJ_CNT, AX.MQ_DROP_CNT, AX.MQ_FLUSH_CNT, AX.CLAMP_CNT, the
    TEST.HOST_DISC_CNT], [.axes], []⟩
  | .axStop _ _ => some ⟨[HDR.PG_ADJ_CNT, the TEST.HOST_DISC_CNT], [.axes], []⟩
  | .axFlush _ _ => some ⟨axFields ++ [HDR.PG_DROP_CNT, HDR.PG_ADJ_CNT, AX.MQ_FLUSH_CNT, the TEST.HOST_DISC_CNT], [.axes],
    []⟩
  | .axReverse _ _ => some ⟨[HDR.PG_ADJ_CNT, AX.CLAMP_CNT, the TEST.HOST_DISC_CNT], [.axes], []⟩
  | .prfCommit _ _ _ => some ⟨[HDR.PG_ADJ_CNT, AX.PRF_VALID, AX.ERR_SEG, AX.ERR_REASON, AX.ERR_PRF, the TEST.HOST_DISC_CNT],
    [], []⟩
  | .trvGoWrite _ _ => some ⟨axFields ++ [HDR.PG_ADJ_CNT, the TEST.HOST_DISC_CNT], [.axes], []⟩
  | .torqueReqWrite _ _ _ => some ⟨axFields ++ claimFields ++ [AX.COARSE, AX.EL_OFS, AX.TBL_SEL, AX.STEPPER, AX.MODE,
    AX.TORQUE_REQ, the TEST.HOST_DISC_CNT, the RES.HOST_CSTEP], [.deferred, .axes], []⟩
  | .axModeWrite _ _ _ => some ⟨axFields ++ claimFields ++ [AX.COARSE, AX.EL_OFS, AX.TBL_SEL, AX.STEPPER, AX.MODE,
    AX.TORQUE_REQ, the TEST.HOST_DISC_CNT, the RES.HOST_CSTEP], [.deferred, .axes], []⟩
  | .axEnWrite _ _ _ => some ⟨[HDR.LP_REQ, HDR.EN, HDR.PG_ADJ_CNT, AX.TORQUE_REQ, the TEST.HOST_DISC_CNT], [.deferred,
    .axes], []⟩
  | .torqueRemoval _ => some ⟨axFields ++ [AX.STO], [.axes], []⟩
  | .tblCrcUpdate _ => some ⟨[the TRV.TBL_CRC0, the TRV.TBL_CRC1, the TRV.TBL_CRC2, the TRV.TBL_CRC3], [], []⟩
  | .cstepEdge _ _ _ => some ⟨[HDR.PG_DROP_CNT, AX.CLAMP_CNT, AX.CS_DROP_CNT], [.axes], []⟩
  | .encoderLost _ => some ⟨safetyFields ++ [HDR.PG_DROP_CNT, AX.DEV_FAULT, AX.HOMED, AX.DEV_STATE, AX.DEV_CAUSE,
    AX.DEV_LAST, AX.FORCE_EST, AX.DEV_FAULT_CNT, the FLOW.FQ0_DROP_CNT], [.freeCtr, .axes, .gal, .saf, .doors, .fq0], []⟩
  | .deviationDecision _ => some ⟨axFields ++ [HDR.PG_FAULT_CNT, HDR.PG_DROP_CNT, AX.LEARN, AX.FORCE_TRIP, AX.DEV_FAULT,
    AX.SLIP, AX.HOMING, AX.STOPPING, AX.HOLD, AX.TGT_HI, AX.TGT_LO, AX.CLAMP_CNT, AX.BLEND_MISS_CNT, AX.DEV_STATE,
    AX.DEV_CAUSE, AX.DEV_LAST, AX.HOME_RESULT, AX.FORCE_THR, AX.LEARN_RUNS, AX.V_LIM, AX.MASS_G, AX.MASS_VALID,
    AX.ENV_VALID, AX.REV_AMAX, AX.STEP_INFO, AX.GAP_STALE_CNT, AX.SLIP_CNT, AX.DEV_FAULT_CNT, the FLOW.FQ0_DROP_CNT],
    [.axes, .doors, .fq0], [⟨0x10, 16, 2⟩, ⟨0x10, 16, 15⟩]⟩
  | .switchAccepted _ _ => some ⟨axFields ++ [HDR.PG_FAULT_CNT, HDR.PG_DROP_CNT, AX.SW_CLOSED, AX.SW_OPEN, AX.CAP_HI,
    AX.CAP_LO, AX.SW_BOTH, AX.CAP_SW, AX.LIMIT_CNT, the FLOW.FQ0_DROP_CNT], [.axes, .fq0], []⟩
  | .home _ _ => some ⟨axFields ++ [HDR.PG_ADJ_CNT, AX.HOMING, AX.HOMED, the TEST.HOST_DISC_CNT], [.axes], []⟩
  | .hardStopFound _ => some ⟨axFields ++ [HDR.PG_DROP_CNT, AX.STOPPING, AX.STOP_RAMP, AX.STOP_CAUSE, AX.MQ_FLUSH_CNT],
    [.axes], []⟩
  | .learn _ _ => some ⟨[HDR.PG_ADJ_CNT, AX.LEARN, AX.LEARN_RUNS, the TEST.HOST_DISC_CNT], [.axes], []⟩
  | .learnAbort _ _ => some ⟨[HDR.PG_ADJ_CNT, AX.LEARN, AX.LEARN_RUNS, the TEST.HOST_DISC_CNT], [.axes], []⟩
  | .forceTrip _ => some ⟨[AX.FORCE_TRIP, AX.TRIP_CAUSE, AX.TRIP_BIN, AX.TRIP_F, AX.FORCE_TRIP_CNT], [.axes, .doors], []⟩
  | .reversalRequest _ => some ⟨[AX.TRIP_CAUSE, AX.TRIP_BIN, AX.TRIP_F], [.axes, .saf], []⟩
  | .sqzChange _ => some ⟨[AX.FORCE_THR, AX.V_LIM, AX.SQZ, AX.REV_AMAX], [.axes], []⟩
  | .stepOut _ _ => some ⟨axFields ++ [HDR.PG_DROP_CNT, HDR.PG_ADJ_CNT, AX.CLAMP_CNT, AX.STEP_INFO, AX.GAP_STALE_CNT, the
    FLOW.FQ0_DROP_CNT, the TEST.HOST_DISC_CNT], [.axes, .doors, .fq0], []⟩
  | .gapMmReceived _ _ _ _ => some ⟨[AX.GAP_MM, AX.GAP_AGE_MS], [.axes, .heads], []⟩
  | .gapStale _ => some ⟨[], [.axes], []⟩
  | .headPresent _ _ _ => some ⟨lantFields ++ [LH.PRESENT, LH.HP_MW, LH.HP_V], [], []⟩
  | .headLinkReady _ => some ⟨lantFields ++ [LH.LINK_STATE], [], []⟩
  | .linkReadyTimeout _ => some ⟨lantFields ++ [LH.LINK_STATE, LH.REJ_CODE, LH.HP_SHED, LH.PWR_TRIP], [.heads], []⟩
  | .linkTrainDone _ _ => some ⟨lantFields ++ [LH.LINK_STATE, LH.REJ_CODE, LH.HP_SHED, LH.PWR_TRIP, LH.LINK_UP, LH.GEAR,
    LH.TRAIN_CNT], [.heads], []⟩
  | .identDone _ _ _ => some ⟨visionFields ++ lantFields ++ [HDR.PG_FAULT_CNT, the SYS.VISION_FULL, LH.LINK_STATE,
    LH.REJ_CODE, LH.GW_GOOD, LH.ID_OK, LH.HVER, LH.HEAD_VENDOR, LH.HEAD_MODEL, LH.HEAD_SER_HI, LH.HEAD_SER_LO, LH.CAL_CRC,
    LH.GW_RESULT, LH.GW_RUN, LH.GW_FAIL_CNT, the LVOL.SQZ_CNT, LVOLD.UNT_WHY], [.saf, .heads], [⟨0x28, 16, 2⟩]⟩
  | .calibReadDone _ _ => some ⟨visionFields ++ lantFields ++ echoFields ++ [HDR.PG_FAULT_CNT, the SYS.VISION_FULL,
    LH.LINK_STATE, LH.REJ_CODE, LH.GW_GOOD, LH.GEAR_LOW, LH.CAL_OK, LH.RUN, LH.GW_SENT, LH.GW_REP, LH.GW_RESULT, LH.GW_RUN,
    LH.GW_MS, LH.GW_FAIL_CNT, the LVOL.SQZ_CNT, LVOLD.UNT_WHY], [.freeCtr, .saf, .heads, .echo], [⟨pgLANT, 1, 15⟩]⟩
  | .headLinkLoss _ _ => some ⟨linkFields ++ lantFields ++ [HDR.PG_FAULT_CNT, LH.LINK_STATE, LH.REJ_CODE, LH.HP_SHED,
    LH.PWR_TRIP, LH.PRESENT, LH.LINK_LOSS_CNT, the LVOL.BG_VALID_MASK, the LVOL.BG_STATE, the LVOL.BG_FAIL_CNT], [.heads,
    .echo], []⟩
  | .portFaultWaitEnd _ => some ⟨lantFields ++ [LH.LINK_STATE, LH.REJ_CODE, LH.HP_SHED, LH.PWR_TRIP], [], []⟩
  | .retrain _ _ => some ⟨linkFields ++ visionFields ++ lantFields ++ [HDR.PG_FAULT_CNT, HDR.PG_ADJ_CNT, the
    SYS.VISION_FULL, LH.LINK_STATE, LH.REJ_CODE, LH.HP_SHED, LH.PWR_TRIP, LH.LINK_LOSS_CNT, the LVOL.SQZ_CNT, LVOLD.UNT_WHY,
    the TEST.HOST_DISC_CNT], [.saf, .heads, .echo], []⟩
  | .recal _ _ => some ⟨visionFields ++ lantFields ++ echoFields ++ [HDR.PG_ADJ_CNT, the SYS.VISION_FULL, LH.LINK_STATE,
    LH.GEAR_LOW, LH.BURST, LH.CAL_OK, LH.RUN, LH.FRAME_STALE, LH.MODE, LH.FRM_INC_CNT, the LVOL.SQZ_CNT, LVOLD.UNT_WHY, the
    TEST.HOST_DISC_CNT], [.saf, .heads, .echo], []⟩
  | .headPowerTrip _ => some ⟨linkFields ++ lantFields ++ [HDR.PG_FAULT_CNT, LH.LINK_STATE, LH.PWR_TRIP, LH.PRESENT,
    LH.HP_MW, LH.HP_V, LH.LINK_LOSS_CNT, LH.PWR_TRIP_CNT], [.heads, .echo], []⟩
  | .headPowerRetry _ => some ⟨lantFields ++ [LH.LINK_STATE, LH.REJ_CODE, LH.HP_SHED, LH.PWR_TRIP], [], []⟩
  | .headBudgetShed _ => some ⟨linkFields ++ lantFields ++ [HDR.PG_FAULT_CNT, LH.LINK_STATE, LH.HP_SHED, LH.PRESENT,
    LH.HP_MW, LH.HP_V, LH.LINK_LOSS_CNT, LH.PWR_TRIP_CNT, the LANT.HP_SHED_CNT], [.heads, .echo], []⟩
  | .headShedRestore _ _ => some ⟨lantFields ++ [LH.LINK_STATE, LH.REJ_CODE, LH.HP_SHED, LH.PWR_TRIP, LH.HP_MW], [], []⟩
  | .frameTrigger _ _ => some ⟨lantFields ++ [LH.BURST, LH.MODE, LH.BURST_CNT], [.heads], []⟩
  | .frameLineRx _ _ _ _ _ _ => some ⟨[HDR.PG_DROP_CNT, LH.FRAME_STALE, LH.FRAME_NO, LH.FRAME_TIME, LH.FRAME_AGE_MS,
    LH.FRAME_LAT, LH.FRM_OK_CNT, LH.FRM_CRC_CNT, LH.FRM_INC_CNT, LH.FRM_FULL_CNT, LH.FRM_SKIP_CNT, the LANT.ING_MBPS, the
    LVOL.PROC_SKIP_CNT], [.heads, .ingest], [⟨pgLANT, 1, 15⟩]⟩
  | .frameStale _ => some ⟨[LH.FRAME_STALE], [], []⟩
  | .frameProcessed _ _ _ => some ⟨visionFields ++ [HDR.PG_DROP_CNT, the LVOL.LQ_DROP_CNT, the LVOL.PINCH_CNT, the
    LVOL.THIN_CNT, LVOLD.BURST_REQ, LVOLD.THIN, LVOLD.PINCH_R, LVOLD.PINCH_L, LVOLD.GAP_VALID, LVOLD.THIN_ARMED,
    LVOLD.CLEAR_L, LVOLD.CLEAR_R, LVOLD.GAP_MM, LVOLD.GAP_COLS, LVOLD.NOISE_J, LVOLD.NOISE_S, the FLOW.FQ3_DROP_CNT],
    [.doors, .heads, .flow], []⟩
  | .glowwormDecision _ _ => some ⟨visionFields ++ lantFields ++ [HDR.PG_FAULT_CNT, the SYS.VISION_FULL, LH.GW_GOOD,
    LH.GW_SENT, LH.GW_REP, LH.GW_RESULT, LH.GW_RUN, LH.GW_MS, LH.GW_FAIL_CNT, the LVOL.SQZ_CNT, LVOLD.UNT_WHY], [.freeCtr,
    .saf, .heads], []⟩
  | .glowwormSilence _ => some ⟨visionFields ++ lantFields ++ [HDR.PG_FAULT_CNT, the SYS.VISION_FULL, LH.GW_GOOD,
    LH.GW_RESULT, LH.GW_RUN, LH.GW_SIL_CNT, the LVOL.SQZ_CNT, LVOLD.UNT_WHY], [.saf, .heads], []⟩
  | .poseWrite _ _ _ _ => some ⟨visionFields ++ [HDR.PG_ADJ_CNT, the LVOL.BG_VALID_MASK, the LVOL.BG_STATE], [], [⟨pgLVOL,
    1, 3⟩, ⟨pgLVOL, 1, 14⟩]⟩
  | .bgLearn _ _ => some ⟨visionFields ++ [HDR.PG_ADJ_CNT, the SYS.VISION_FULL, the LVOL.BG_VALID_MASK, the LVOL.BG_STATE,
    the LVOL.SQZ_CNT, the LVOL.BG_FAIL_CNT, LVOLD.UNT_WHY, the TEST.HOST_DISC_CNT], [.saf, .heads], []⟩
  | .bgAbort _ _ => some ⟨visionFields ++ [HDR.PG_ADJ_CNT, the SYS.VISION_FULL, the LVOL.BG_VALID_MASK, the LVOL.BG_STATE,
    the LVOL.SQZ_CNT, the LVOL.BG_FAIL_CNT, LVOLD.UNT_WHY, the TEST.HOST_DISC_CNT], [.saf, .heads], []⟩
  | .bgLearnDone _ => some ⟨visionFields ++ [the LVOL.BG_VALID_MASK, the LVOL.BG_STATE, the LVOL.BG_FAIL_CNT], [.heads],
    [⟨pgLANT, 1, 15⟩, ⟨pgLVOL, 1, 13⟩, ⟨pgLVOL, 1, 14⟩]⟩
  | .lqAck _ _ => some ⟨visionFields ++ [HDR.PG_ADJ_CNT, the SYS.VISION_FULL, the LVOL.SQZ_CNT, LVOLD.UNT_WHY, the
    TEST.HOST_DISC_CNT], [.saf, .heads], []⟩
  | .recordAtSafety _ => some ⟨safetyFields ++ visionFields ++ [HDR.PG_DROP_CNT, the SYS.VISION_FULL, the CYC.DRAG,
    CYCD.DRAG, CYCD.CYC_FLAGS, CYCD.DRAG_CNT, the LVOL.SQZ_CNT, LVOLD.UNT_WHY, the FLOW.FQ0_DROP_CNT], [.freeCtr, .axes,
    .gal, .saf, .doors, .fq0, .heads, .flow], []⟩
  | .visionStale _ => some ⟨visionFields ++ [the SYS.VISION_FULL, the LVOL.STALE_CNT, the LVOL.SQZ_CNT, LVOLD.UNT_WHY],
    [.saf, .heads], []⟩
  | .burstReqHoldEnd _ => some ⟨visionFields ++ [LVOLD.BURST_REQ], [.doors], []⟩
  | .thinAdclHoldEnd _ => some ⟨safetyFields, [.freeCtr, .axes, .gal, .saf, .doors], []⟩
  | .cycReqWrite _ _ _ => some ⟨[HDR.PG_ADJ_CNT, the TEST.HOST_DISC_CNT], [.doors], []⟩
  | .cycleTick => some ⟨safetyFields ++ doorFields ++ [HDR.PG_ADJ_CNT, the PWR.PARK_ABORT_CNT, the CLK.MEAS_SEL, the
    CYC.REFUSE_TOTAL_CNT, the CYC.FORCED_TOTAL_CNT, CYCD.LAST_REFUSE, CYCD.REFUSE_CNT, CYCD.DRAG_CNT, CYCD.FORCED_CNT,
    AX.HOMING, AX.HOMED, AX.TORQUE_REQ, AX.CLAMP_CNT, the GAL.GC_ON_LO, the GAL.GC_ON_HI, the FIO.FO_OUT, CAN.MODE,
    CAN.TX_OK_CNT, the TEST.TEST_STEP], [.freeCtr, .pwr, .axes, .gal, .saf, .doors, .fq0, .drip, .flow, .svc], []⟩
  | .supervisionTimeout _ => some ⟨[HDR.PG_FAULT_CNT, HDR.PG_DROP_CNT, the CYC.TMO, CYCD.TMO, CYCD.CYC_FLAGS, CYCD.TMO_CNT,
    the FLOW.FQ0_DROP_CNT], [.fq0], []⟩
  | .dwellDoneSet _ => some ⟨[CYCD.DWELL_DONE], [], []⟩
  | .pauseDoneSet _ => some ⟨doorFields ++ [the CYC.FORCED_TOTAL_CNT, CYCD.FORCED_CNT], [.freeCtr, .doors, .fq0, .drip,
    .flow], []⟩
  | .recoverSettle _ => some ⟨doorFields ++ [the CYC.FORCED_TOTAL_CNT, CYCD.FORCED_CNT], [.freeCtr, .doors, .fq0, .drip,
    .flow], []⟩
  | .sealSample _ _ _ _ => some ⟨[the SEAL.CHANGED, the SEAL.POLE_DIS, the SEAL.A_SAF, the SEAL.A_COL, the SEAL.B_SAF, the
    SEAL.B_COL, the SEAL.POLE_DIS_CNT], [.saf], []⟩
  | .sealPoleDisagree _ => some ⟨refugeFields, [.freeCtr, .pwr, .axes, .gal, .saf, .doors, .fq0, .heads, .flow, .nets,
    .echo, .svc], []⟩
  | .sealChange _ => some ⟨refugeFields, [.freeCtr, .pwr, .axes, .gal, .saf, .doors, .fq0, .heads, .flow, .nets, .echo,
    .svc], []⟩
  | .inputAccepted _ _ _ => some ⟨reactFields ++ evalFields ++ [HDR.PG_DROP_CNT, the PWR.MODE, the PWR.ACT_RDY, the
    PWR.DOM_ON, the CLK.APP_NOW, the SAFM.LATCH_SAF, the SAFM.ESTOP_CNT, the COLM.LATCH_COL, the COLM.EDM_A_MS, the
    COLM.EDM_B_MS, the LANT.ENG_OK, the FLOW.FQ0_DROP_CNT], [.freeCtr, .pwr, .axes, .gal, .saf, .doors, .fq0, .heads, .nets,
    .svc], []⟩
  | .channelExchange => some ⟨reactFields, [.freeCtr, .pwr, .axes, .gal, .saf, .doors, .heads, .svc], []⟩
  | .inputDiscLatch _ => some ⟨reactFields ++ [HDR.PG_DROP_CNT, the SAFM.LATCH_SAF, the SAFM.ESTOP_CNT, the
    SAFM.DISC_SAF_CNT, the COLM.LATCH_COL, the COLM.DISC_COL_CNT, the FLOW.FQ0_DROP_CNT], [.freeCtr, .pwr, .axes, .gal,
    .saf, .doors, .fq0, .heads, .svc], []⟩
  | .pairDiscrepancyLatch _ _ => some ⟨reactFields ++ [HDR.PG_DROP_CNT, the SAFM.LATCH_SAF, the SAFM.LC_DISC_M, the
    SAFM.DISC_SAF_CNT, the COLM.LATCH_COL, the COLM.EDM_FAULT_CNT, the COLM.DISC_COL_CNT, the FLOW.FQ0_DROP_CNT], [.freeCtr,
    .pwr, .axes, .gal, .saf, .doors, .fq0, .heads, .svc], []⟩
  | .twoHandButtonFault _ _ => some ⟨reactFields ++ [the SAFM.DISC_SAF_CNT, the COLM.DISC_COL_CNT], [.freeCtr, .pwr, .axes,
    .gal, .saf, .doors, .heads, .svc], []⟩
  | .twoHandWindowExpiry _ => some ⟨[], [.saf], []⟩
  | .heartbeatLost _ => some ⟨refugeFields, [.freeCtr, .pwr, .axes, .gal, .saf, .doors, .fq0, .heads, .flow, .nets, .echo,
    .svc], []⟩
  | .reversalWatchFail _ => some ⟨reactFields ++ [HDR.PG_DROP_CNT, the SAFM.LATCH_SAF, the COLM.RW_MASK, the COLM.LATCH_COL,
    the COLM.RW_TRIP_CNT, the FLOW.FQ0_DROP_CNT], [.freeCtr, .pwr, .axes, .gal, .saf, .doors, .fq0, .heads, .svc], []⟩
  | .guidedContactFault _ => some ⟨refugeFields, [.freeCtr, .pwr, .axes, .gal, .saf, .doors, .fq0, .heads, .flow, .nets,
    .echo, .svc], []⟩
  | .edmCheckFail _ _ => some ⟨reactFields ++ [HDR.PG_DROP_CNT, the SAFM.LATCH_SAF, the COLM.LATCH_COL, the
    COLM.EDM_FAULT_CNT, the FLOW.FQ0_DROP_CNT], [.freeCtr, .pwr, .axes, .gal, .saf, .doors, .fq0, .heads, .svc], []⟩
  | .resetRelease _ _ _ => some ⟨reactFields ++ [the SAFM.LATCH_SAF, the SAFM.LC_DISC_M, the COLM.RESET_STUCK, the
    COLM.RW_MASK, the COLM.LATCH_COL, the COLM.RESET_OK_CNT, the COLM.RESET_REJ_CNT], [.freeCtr, .pwr, .axes, .gal, .saf,
    .doors, .heads, .svc], []⟩
  | .resetStuck _ => some ⟨[the COLM.RESET_STUCK, the COLM.RESET_STUCK_CNT], [], []⟩
  | .spPeriodicTestFail _ _ => some ⟨refugeFields, [.freeCtr, .pwr, .axes, .gal, .saf, .doors, .fq0, .heads, .flow, .nets,
    .echo, .svc], []⟩
  | .mirrorCheck => some ⟨reactFields ++ [the SAFM.NET_RESTR, the SAFM.MIRROR_FIX_CNT, CYCD.CYC_REV_MM, AX.FORCE_THR,
    AX.FLIM_ABS, AX.SQZ_FABS, AX.E_LIM, AX.SQZ_VMAX, AX.REV_MM, AX.V_LIM, AX.REV_AMAX, the DST.ANY_UNSYNC, the DST.ONE_NET],
    [.freeCtr, .pwr, .axes, .gal, .saf, .doors, .heads, .svc], []⟩
  | .testDueSet => some ⟨[the COLM.TEST_DUE], [], []⟩
  | .safeCopyRx _ _ => some ⟨copyFields, [.freeCtr, .pwr, .axes, .gal, .saf, .doors, .nets, .dst], []⟩
  | .pairTimeout _ => some ⟨[the DST.LAST_DROP_TYPE, the DST.LAST_DROP, the DST.SINGLE_CNT], [.dst], []⟩
  | .permissiveLapse _ => some ⟨safetyFields ++ [the PWR.PARK_ABORT_CNT, the DST.REL_L_TG, the DST.REL_R_TG, the DST.ZS_TG,
    the DST.OPEN_EN_TG, the DST.INHIBIT_TG, the DST.CLOSE_TG, the DST.LAPSE_CNT], [.freeCtr, .pwr, .axes, .gal, .saf,
    .doors], []⟩
  | .streamUnsync _ => some ⟨[the SAFM.NET_RESTR, the DST.ANY_UNSYNC, the DST.ONE_NET], [.dst], []⟩
  | .networkLost _ => some ⟨safetyFields ++ [the SAFM.NET_RESTR, the DST.ANY_UNSYNC, the DST.ONE_NET, the DST.NET_RESTR, the
    DST.CAN_LOST, the DST.ECN_LOST, the DST.CAN_OK, the DST.ECN_OK, the DST.REL_L_TG, the DST.REL_R_TG, the DST.ZS_TG, the
    DST.OPEN_EN_TG, the DST.INHIBIT_TG, the DST.CLOSE_TG, the DST.NET_LOSS_CNT], [.freeCtr, .axes, .gal, .saf, .doors,
    .dst], []⟩
  | .netRestrEnd => some ⟨safetyFields ++ [the SAFM.NET_RESTR, the DST.ANY_UNSYNC, the DST.ONE_NET, the DST.NET_RESTR],
    [.freeCtr, .axes, .gal, .saf, .doors], []⟩
  | .doorStatusSend => some ⟨canFields ++ [CAN.TX_PEND, CAN.TX_DONE, the DST.TX_CNT, the DST.TX_LOST_CNT], [.cans, .nets,
    .dst], [⟨0x50, 4, 1⟩]⟩
  | .gcOnWrite _ _ _ => some ⟨galFields ++ [HDR.PG_ADJ_CNT, the GAL.GC_ON_LO, the GAL.GC_ON_HI, the TEST.HOST_DISC_CNT],
    [.deferred, .freeCtr, .gal], []⟩
  | .followWrite _ _ _ => some ⟨galFields ++ claimFields ++ [the GAL.GC_ON_LO, the GAL.GC_ON_HI, GALC.INRUSH_MS,
    GALC.SHED_PRI, GALC.RETRY_MAX, GALC.FOLLOW, GALC.FOLLOW_PIN, the TEST.HOST_DISC_CNT, the RES.HOST_DIR], [.deferred,
    .freeCtr, .gal], []⟩
  | .directEdge _ _ => some ⟨galFields ++ [the CRAWL.CR_PINS], [.freeCtr, .gal], []⟩
  | .ocTrip _ _ => some ⟨galFields ++ [the GAL.OC_TRIP_CNT, the GAL.OC_LOCK_CNT, GALC.RETRY_N, GALC.OC_LOCK,
    GALC.CH_TRIP_CNT], [.freeCtr, .gal], []⟩
  | .retryBackoffEnd _ => some ⟨galFields, [.freeCtr, .gal], []⟩
  | .retryNReset _ => some ⟨[GALC.RETRY_N], [], []⟩
  | .commandOffSettled _ => some ⟨galFields ++ [GALC.RETRY_N, GALC.OC_LOCK], [.freeCtr, .gal], []⟩
  | .inrushWindowEnd _ => some ⟨[GALC.INRUSH], [], []⟩
  | .thermalLatch _ _ _ => some ⟨galFields ++ [the GAL.TH_CNT, GALC.TH_LATCH, GALC.DT, GALC.TJ], [.freeCtr, .gal], []⟩
  | .thermalLatchClear _ _ _ => some ⟨galFields ++ [GALC.TH_LATCH, GALC.DT, GALC.TJ], [.freeCtr, .gal], []⟩
  | .clampUnlock _ _ => some ⟨galFields ++ [HDR.PG_ADJ_CNT, the TEST.HOST_DISC_CNT], [.freeCtr, .gal], []⟩
  | .crawlClampUnlock _ => some ⟨galFields, [.freeCtr, .gal], []⟩
  | .shedStep _ _ _ => some ⟨galFields ++ [the GAL.IA, the GAL.IB, the GAL.IA_MEAN, the GAL.IB_MEAN, the GAL.SHED_CNT],
    [.freeCtr, .gal], []⟩
  | .shedRestoreStep _ _ _ => some ⟨galFields ++ [the GAL.IA, the GAL.IB, the GAL.IA_MEAN, the GAL.IB_MEAN], [.freeCtr,
    .gal], []⟩
  | .gateCutBitClear _ => some ⟨galFields ++ [the GAL.GC_ON_LO, the GAL.GC_ON_HI, the GAL.GATE_CUT_CNT], [.freeCtr, .gal],
    []⟩
  | .crawlEnFilterAccept _ => some ⟨galFields ++ claimFields ++ [the PWR.DOM_ON, the LANT.ENG_OK, the GAL.GC_ON_LO, the
    GAL.GC_ON_HI, GALC.FOLLOW, the CRAWL.MAP_LOADED, the CRAWL.CR_PIN, the CRAWL.CRAWL_ON, CRAWL.CRAWL_MAP, the
    CRAWL.CRAWL_CNT, the RES.HOST_DIR], [.freeCtr, .pwr, .gal, .nets], []⟩
  | .crawlMapWrite _ _ _ => some ⟨[HDR.PG_ADJ_CNT, CRAWL.CRAWL_MAP, the TEST.HOST_DISC_CNT], [.gal], []⟩
  | .bankOvervoltage _ => some ⟨galFields ++ [the GAL.B_OV, the GAL.A_OV, the GAL.SURGE_CNT], [.freeCtr, .gal], []⟩
  | .bankReverse _ => some ⟨galFields ++ [the GAL.B_REV, the GAL.A_REV], [.freeCtr, .gal], []⟩
  | .bankGroundLoss _ => some ⟨galFields ++ [the GAL.B_GND, the GAL.A_GND], [.freeCtr, .gal], []⟩
  | .bankReturn _ => some ⟨galFields ++ [the GAL.B_GND, the GAL.A_GND, the GAL.B_OV, the GAL.A_OV, the GAL.B_REV, the
    GAL.A_REV], [.freeCtr, .gal], []⟩
  | .bankChannelRestore _ => some ⟨galFields, [.freeCtr, .gal], []⟩
  | .bankSwitchFault _ => some ⟨galFields ++ [the GAL.B_FAULT, the GAL.A_FAULT, the GAL.BANK_FLT_CNT], [.freeCtr, .gal], []⟩
  | .barrierLoss => some ⟨[HDR.PG_FAULT_CNT, HDR.PG_DROP_CNT, the FIO.BARRIER_OK, the FIO.FIO_FAULT, the FIO.FI_LO, the
    FIO.FI_HI, the FIO.FAULT_ON_CNT, the FIO.SAG_CNT, the FLOW.FQ0_DROP_CNT], [.fq0], []⟩
  | .barrierReturn => some ⟨[the FIO.BARRIER_OK], [.fio], []⟩
  | .fiAccepted _ _ => some ⟨[the FIO.FI_LO, the FIO.FI_HI], [], []⟩
  | .foOutWrite _ _ => some ⟨[HDR.PG_ADJ_CNT, the FIO.FO_OUT, the TEST.HOST_DISC_CNT], [.deferred], []⟩
  | .thrWrite _ _ => some ⟨[HDR.PG_ADJ_CNT, the FIO.THR, the TEST.HOST_DISC_CNT], [.deferred, .fio], []⟩
  | .foCurrentLimit _ => some ⟨[HDR.PG_FAULT_CNT, HDR.PG_DROP_CNT, the FIO.FIO_FAULT, the FIO.FAULT_ON_CNT, the
    FLOW.FQ0_DROP_CNT], [.fq0], []⟩
  | .foThermalShutdown _ => some ⟨[HDR.PG_FAULT_CNT, HDR.PG_DROP_CNT, the FIO.FIO_FAULT, the FIO.FAULT_ON_CNT, the
    FLOW.FQ0_DROP_CNT], [.fq0, .fio], []⟩
  | .foThermalRestart _ => some ⟨[], [.fio], []⟩
  | .fioFaultClear => some ⟨[the FIO.FIO_FAULT], [], []⟩
  | .canFrameRx _ _ _ => some ⟨copyFields ++ canErrorFields ++ [CAN.HPB_FULL, CAN.RX_OK_CNT, CAN.RX_OVF_CNT,
    CAN.RX_SPACE_CNT, CAN.HPB_SPILL_CNT, CAN.REJECT_CNT, CAN.PEX_CNT], [.freeCtr, .pwr, .axes, .gal, .saf, .doors, .cans,
    .nets, .dst], [⟨0x50, 4, 1⟩]⟩
  | .canTxPush _ _ _ => some ⟨canFields ++ [HDR.PG_ADJ_CNT, CAN.TX_PEND, the TEST.HOST_DISC_CNT], [.cans], [⟨0x50, 4, 1⟩]⟩
  | .canTxCancel _ _ _ => some ⟨canFields ++ [HDR.PG_ADJ_CNT, CAN.TX_PEND, CAN.TX_DONE, CAN.HEAD_V, CAN.CANCEL_CNT,
    CAN.LATE_CNT, the TEST.HOST_DISC_CNT], [.cans], [⟨0x50, 4, 1⟩]⟩
  | .canTxRelease _ _ _ => some ⟨canFields ++ [HDR.PG_ADJ_CNT, CAN.TX_DONE, the TEST.HOST_DISC_CNT], [], []⟩
  | .canRxAck _ _ _ => some ⟨canFields ++ [HDR.PG_ADJ_CNT, CAN.HPB_FULL, the TEST.HOST_DISC_CNT], [.cans], []⟩
  | .canHpbRelease _ _ _ => some ⟨canFields ++ [HDR.PG_ADJ_CNT, CAN.HPB_FULL, the TEST.HOST_DISC_CNT], [.cans], []⟩
  | .canTxStart _ _ => some ⟨canFields ++ [CAN.TX_PEND, CAN.TX_DONE, CAN.TX_ACT_V, CAN.TX_ACT, CAN.HEAD_V, CAN.CANCEL_CNT,
    CAN.LATE_CNT, CAN.ARB_LOST_CNT], [.cans], [⟨0x50, 4, 1⟩]⟩
  | .canTxComplete _ _ _ => some ⟨canFields ++ [HDR.PG_DROP_CNT, CAN.HPB_FULL, CAN.TDC_MEAS, CAN.TEC, CAN.TX_PEND,
    CAN.TX_DONE, CAN.TX_ACT_V, CAN.HEAD_V, CAN.TX_OK_CNT, CAN.RX_OK_CNT, CAN.RX_OVF_CNT, CAN.RX_SPACE_CNT,
    CAN.HPB_SPILL_CNT, CAN.REJECT_CNT, CAN.CANCEL_CNT], [.cans], [⟨0x50, 4, 1⟩]⟩
  | .canBusError _ _ _ _ => some ⟨canErrorFields ++ [CAN.TDC_MEAS], [.cans], [⟨0x50, 4, 1⟩]⟩
  | .canRecover _ _ => some ⟨[HDR.PG_ADJ_CNT, CAN.RECOVERING, CAN.REC_SEQ, the TEST.HOST_DISC_CNT], [], []⟩
  | .canRecoveryDone _ => some ⟨canFields ++ [CAN.RECOVERING, CAN.TEC, CAN.REC, CAN.REC_SEQ], [], []⟩
  | .lpReqWrite _ _ _ => some ⟨[HDR.LP_REQ, HDR.EN, HDR.LP, HDR.PG_ADJ_CNT, CAN.WAKE_EV, CAN.SLEEP, CAN.RECOVERING,
    CAN.REC_SEQ, the DVR.NOVER_CNT, the TEST.HOST_DISC_CNT], [.deferred, .echo], []⟩
  | .canSleepEnter _ => some ⟨[HDR.LP, CAN.SLEEP], [.cans], []⟩
  | .canLocalWake _ _ => some ⟨[CAN.WAKE_EV, CAN.WAKE_SRC, CAN.LWAKE_CNT], [.cans], []⟩
  | .canEnWrite _ _ _ => some ⟨[HDR.LP_REQ, HDR.EN, HDR.LP, HDR.PG_ADJ_CNT, CAN.WAKE_EV, CAN.SLEEP, CAN.RECOVERING,
    CAN.REC_SEQ, the DVR.NOVER_CNT, the TEST.HOST_DISC_CNT], [.deferred, .echo], []⟩
  | .safeCanConfigure => some ⟨canFields ++ [HDR.LP_REQ, HDR.EN, HDR.SAFE_LOCK, CAN.SAFE_CH, CAN.TX_AREA_BLK, CAN.TERM,
    CAN.TDC_EN, CAN.AUTO_REC, CAN.PEX, CAN.XL_EN, CAN.FD_EN, CAN.MODE, CAN.N_BRP, CAN.N_TSEG1, CAN.N_TSEG2, CAN.N_SJW,
    CAN.D_BRP, CAN.D_TSEG1, CAN.D_TSEG2, CAN.D_SJW, CAN.X_TIMING, CAN.TDC_OFS_X, CAN.TDC_OFS_D, the DVR.NOVER_CNT], [.echo],
    []⟩
  | .ecnFrameRx _ _ _ _ => some ⟨copyFields ++ [ECN.Q_HEAD, the ECN.RX_CNT, the ECN.RX_DROP_CNT, the ECN.EGR_DROP_CNT, the
    ECN.CRC_ERR_CNT, the ECN.FWD_CNT], [.freeCtr, .pwr, .axes, .gal, .saf, .doors, .nets, .dst], [⟨pgECN, 1, 12⟩]⟩
  | .ecnTailWrite _ _ _ => some ⟨[HDR.PG_ADJ_CNT, ECN.Q_TAIL, the TEST.HOST_DISC_CNT], [.deferred, .nets], []⟩
  | .ecnFrameTx _ _ => some ⟨[HDR.PG_DROP_CNT, ECN.Q_HEAD, the ECN.TX_CNT, the ECN.EGR_DROP_CNT], [.nets], [⟨pgECN, 1, 12⟩]⟩
  | .bypassRelayChange => some ⟨[the ECN.B_1G, the ECN.A_1G, the ECN.B_LINK, the ECN.A_LINK, the ECN.BYPASS, the
    ECN.LINK_DOWN_CNT, the ECN.BYPASS_CNT], [], []⟩
  | .ecnLinkChange _ _ _ => some ⟨[the ECN.B_1G, the ECN.A_1G, the ECN.B_LINK, the ECN.A_LINK, the ECN.LINK_DOWN_CNT], [],
    []⟩
  | .mvbMasterFrame _ _ _ => some ⟨[the MVB.LINE_B_OK, the MVB.LINE_A_OK, the MVB.MF_CNT, the MVB.LINE_A_ERR_CNT, the
    MVB.LINE_B_ERR_CNT], [.freeCtr, .nets], []⟩
  | .mvbSlaveFrame _ _ _ _ => some ⟨[the MVB.LINE_B_OK, the MVB.LINE_A_OK, the MVB.STALE_MASK, the MVB.LINE_A_ERR_CNT, the
    MVB.LINE_B_ERR_CNT], [.nets], [⟨pgMVB, 1, 2⟩]⟩
  | .mvbLineFault _ => some ⟨[the MVB.LINE_B_OK, the MVB.LINE_A_OK], [], []⟩
  | .mvbPortStale _ => some ⟨[the MVB.STALE_MASK, the MVB.STALE_CNT], [], []⟩
  | .mvbSinkWord0Read _ => some ⟨[], [.nets], []⟩
  | .lglPoll => some ⟨[the LGL.POLL_CNT], [.nets], []⟩
  | .lglReplyRx _ _ => some ⟨[HDR.PG_DROP_CNT, the LGL.LGL_PRESENT, the LGL.LGL_ERR_CNT, the ECHO.CHG_WR, the ECHO.NEW_CNT,
    the ECHO.LOST_CNT, the ECHO.FULL_CNT, the ECHO.FOREIGN_CNT, the ECHO.CHG_DROP_CNT, the DVR.NOVER_CNT], [.nets, .echo],
    [⟨pgLGL, 1, 1⟩]⟩
  | .lglReplyTimeout => some ⟨echoFields ++ [the LGL.LGL_PRESENT, the LGL.NOREPLY_CNT], [.nets, .echo], []⟩
  | .lglSendBuffer _ _ => some ⟨[HDR.PG_ADJ_CNT, the TEST.HOST_DISC_CNT], [.nets], []⟩
  | .lglSlaveReply _ _ => some ⟨[HDR.PG_DROP_CNT, the LGL.LGL_ERR_CNT], [.nets], []⟩
  | .dvrMessageRx _ _ => some ⟨canErrorFields ++ [HDR.PG_DROP_CNT, CAN.HPB_FULL, CAN.RX_OK_CNT, CAN.RX_OVF_CNT,
    CAN.RX_SPACE_CNT, CAN.HPB_SPILL_CNT, CAN.REJECT_CNT, CAN.PEX_CNT, ECN.Q_HEAD, the ECN.RX_CNT, the ECN.RX_DROP_CNT, the
    ECN.EGR_DROP_CNT, the ECN.CRC_ERR_CNT, the ECN.FWD_CNT, the LGL.LGL_PRESENT, the LGL.LGL_ERR_CNT, the ECHO.CHG_WR, the
    ECHO.NEW_CNT, the ECHO.LOST_CNT, the ECHO.FULL_CNT, the ECHO.FOREIGN_CNT, the ECHO.CHG_DROP_CNT, the DVR.DVR_BAD_CNT,
    the DVR.NOVER_CNT], [.freeCtr, .cans, .nets, .echo], [⟨0x50, 4, 1⟩, ⟨pgECN, 1, 12⟩, ⟨pgLGL, 1, 1⟩]⟩
  | .announceSend => some ⟨[the ECHO.ANN_TX_CNT], [.freeCtr, .nets], []⟩
  | .announceRx _ _ _ => some ⟨echoFields ++ [the ECHO.ANN_RX_CNT, the ECHO.FULL_CNT, the DVR.DVR_BAD_CNT, the
    DVR.NOVER_CNT], [.echo], []⟩
  | .consistRx _ => some ⟨echoFields ++ [the ECHO.CONSIST_VALID, the ECHO.TOPO_CNT, the ECHO.FULL_CNT, the ECHO.CONSIST_CNT,
    the DVR.DVR_BAD_CNT], [.echo], []⟩
  | .partnerLost _ => some ⟨echoFields ++ [the DVR.NOVER_CNT], [.echo], []⟩
  | .carrierTimeout _ _ => some ⟨[the DVR.NOVER_CNT], [.echo], []⟩
  | .tcmsLost => some ⟨echoFields ++ [the ECHO.CONSIST_VALID], [.echo], []⟩
  | .slotHoldExpiry _ => some ⟨[HDR.PG_DROP_CNT, the ECHO.CHG_WR, the ECHO.NEW_CNT, the ECHO.LOST_CNT, the ECHO.FOREIGN_CNT,
    the ECHO.CHG_DROP_CNT], [.echo], []⟩
  | .expectedMissing _ => some ⟨[the ECHO.MISSING_CNT], [.echo], []⟩
  | .doorInfoSend => some ⟨[the DVR.INFO_TX_CNT], [.freeCtr, .nets], []⟩
  | .recordSeal _ _ => some ⟨[HDR.PG_DROP_CNT, the FLOW.CTR_ONLY, the FLOW.MRAM_FAIL, FLOW.CAIRN, the FLOW.REC_CNT, the
    FLOW.FQ0_DROP_CNT, the FLOW.MEM_ERR_CNT, the FLOW.PARTIAL_CNT], [.fq0, .flow], []⟩
  | .archivePageCopy _ _ => some ⟨[HDR.PG_DROP_CNT, the PWR.DOM_ON, the FLOW.CTR_ONLY, the FLOW.NAND_FAIL, the FLOW.NAND_ON,
    the FLOW.BAD_BLK, FLOW.CAIRN, the FLOW.FQ0_DROP_CNT, the FLOW.NAND_ERR_CNT], [.fq0, .flow], []⟩
  | .traceSample _ => some ⟨[HDR.PG_DROP_CNT, the FLOW.FQ2_DROP_CNT], [.flow], []⟩
  | .clipComplete _ => some ⟨[HDR.PG_DROP_CNT, the FLOW.REC_CNT], [.flow], []⟩
  | .snapshotTimer => some ⟨[HDR.PG_DROP_CNT, the FLOW.REC_CNT], [.flow], []⟩
  | .snap _ => some ⟨[HDR.PG_DROP_CNT, HDR.PG_ADJ_CNT, the FLOW.REC_CNT, the TEST.HOST_DISC_CNT], [.flow], []⟩
  | .hev _ => some ⟨[HDR.PG_DROP_CNT, HDR.PG_ADJ_CNT, the FLOW.FQ0_DROP_CNT, the TEST.HOST_DISC_CNT], [.fq0], []⟩
  | .find _ => some ⟨[HDR.PG_ADJ_CNT, the FLOW.FIND_BUSY, the FLOW.FIND_CODE, the TEST.HOST_DISC_CNT], [.flow], []⟩
  | .findDone => some ⟨[the FLOW.FIND_BUSY, the FLOW.NAREA, the FLOW.NPAGE, the FLOW.FIND_CODE, the FLOW.FIND_POS], [], []⟩
  | .rdClassWrite _ _ => some ⟨[HDR.PG_ADJ_CNT, the FLOW.RD_CLASS, the FLOW.CL_FIRST_SEQ_HI, the FLOW.CL_FIRST_SEQ_LO, the
    FLOW.CL_LAST_SEQ_HI, the FLOW.CL_LAST_SEQ_LO, the FLOW.CL_FIRST_POS, the FLOW.CL_LAST_POS, the FLOW.CL_CAP, the
    TEST.HOST_DISC_CNT], [.deferred], []⟩
  | .expStart _ => some ⟨[HDR.PG_ADJ_CNT, the FLOW.EXP_RUN, the FLOW.EXP_DONE, the FLOW.EXP_CHUNK, the FLOW.EXP_TOTAL, the
    FLOW.EXP_LOST_CNT, the TEST.HOST_DISC_CNT], [.flow], []⟩
  | .expAbort _ => some ⟨[HDR.PG_ADJ_CNT, the FLOW.EXP_RUN, the FLOW.EXP_CHUNK, the TEST.HOST_DISC_CNT], [.flow], []⟩
  | .expAckWrite _ _ => some ⟨[HDR.PG_DROP_CNT, HDR.PG_ADJ_CNT, the FLOW.EXP_RUN, the FLOW.EXP_DONE, the FLOW.EVID_HOLD, the
    FLOW.EXP_CHUNK, the FLOW.EXP_TOTAL, the FLOW.FQ0_DROP_CNT, the FLOW.EXP_RETRY_CNT, the FLOW.EXP_LOST_CNT, the
    TEST.HOST_DISC_CNT], [.fq0, .flow], []⟩
  | .flowRecovery _ _ _ => some ⟨[HDR.PG_DROP_CNT, the PWR.DOM_ON, the FLOW.CTR_ONLY, the FLOW.MRAM_FAIL, the FLOW.NAND_ON,
    the FLOW.FLOW_RDY, FLOW.CAIRN, the FLOW.REC_CNT, the FLOW.DISCARD_CNT, the FLOW.CRC_BAD_CNT, the FLOW.FQ0_DROP_CNT, the
    FLOW.PARTIAL_CNT], [.fq0, .flow], []⟩
  | .nandPowerOff => some ⟨[the PWR.DOM_ON, the FLOW.NAND_ON], [.flow], []⟩
  | .nandOnlyFlush _ => some ⟨[HDR.PG_DROP_CNT, the PWR.DOM_ON, the FLOW.CTR_ONLY, the FLOW.NAND_FAIL, the FLOW.NAND_ON, the
    FLOW.BAD_BLK, FLOW.CAIRN, the FLOW.FQ0_DROP_CNT, the FLOW.NAND_ERR_CNT], [.fq0, .flow], []⟩
  | .recorderSend => some ⟨[], [.freeCtr, .flow, .nets], []⟩
  | .tcUpdate _ => some ⟨[the DRIP.TC_FAULT, the DRIP.TC_CORR, the DRIP.XTAL_T], [], []⟩
  | .tickCheckpoint => some ⟨[], [.drip], []⟩
  | .backupLoss => some ⟨[], [.drip], []⟩
  | .setCmdWrite _ => some ⟨[HDR.PG_ADJ_CNT], [.drip], []⟩
  | .calendarSetApply => some ⟨[HDR.PG_DROP_CNT, HDR.PG_ADJ_CNT, the DRIP.BK_LOST, the DRIP.CAL_VALID, the DRIP.EPOCH, the
    DRIP.SET_CNT, the FLOW.FQ0_DROP_CNT], [.fq0, .drip], []⟩
  | .almDlySWrite _ => some ⟨[HDR.PG_ADJ_CNT, the DRIP.ALM_DLY_HIT], [.drip], [⟨pgDRIP, 1, 1⟩]⟩
  | .alarmConfigWrite _ _ => some ⟨[HDR.PG_ADJ_CNT, the DRIP.ALM_MISSED, the DRIP.ALM_DLY_HIT, the DRIP.ALM_CAL_HIT], [],
    [⟨pgDRIP, 1, 1⟩]⟩
  | .calAlarmFire => none
  | .dlyAlarmFire => none
  | .slatiLineError => some ⟨[the SVC.FRAME_ERR_CNT], [.svc], []⟩
  | .slatiHello => some ⟨[the SVC.CMD_CNT], [.svc], []⟩
  | .slatiVer _ => some ⟨[the SVC.PROTO, the SVC.CMD_CNT, the SVC.CMD_ERR_CNT], [.svc], []⟩
  | .slatiBaud _ => some ⟨[the SVC.BAUD_NOW, the SVC.CMD_CNT, the SVC.CMD_ERR_CNT], [.svc], []⟩
  | .baudRevert => some ⟨[the SVC.BAUD_NOW], [.svc], []⟩
  | .slatiBreak _ => some ⟨testFields ++ echoFields ++ [the FLOW.EXP_RUN, the FLOW.EXP_CHUNK, the SVC.BREAK, the
    SVC.SESSION, the SVC.BAUD_NOW, the SVC.PROTO, the SVC.ROLE], [.freeCtr, .axes, .gal, .saf, .doors, .flow, .echo, .svc],
    []⟩
  | .slatiLogin _ => some ⟨[the SVC.CMD_CNT, the SVC.CMD_ERR_CNT], [.freeCtr, .svc], []⟩
  | .slatiResp _ => some ⟨echoFields ++ [the SVC.LOCKOUT, the SVC.SESSION, the SVC.ROLE, the SVC.LOGIN_OK_CNT, the
    SVC.LOGIN_FAIL_CNT, the SVC.CMD_CNT, the SVC.CMD_ERR_CNT, the SVC.SESSION_CNT], [.echo, .svc], []⟩
  | .nonceExpiry => some ⟨[], [.svc], []⟩
  | .lockoutEnd => some ⟨[the SVC.LOCKOUT], [], []⟩
  | .slatiLogout => some ⟨testFields ++ echoFields ++ [the FLOW.EXP_RUN, the FLOW.EXP_CHUNK, the SVC.SESSION, the
    SVC.BAUD_NOW, the SVC.PROTO, the SVC.ROLE, the SVC.CMD_CNT, the SVC.CMD_ERR_CNT], [.freeCtr, .axes, .gal, .saf, .doors,
    .flow, .echo, .svc], []⟩
  | .sessionTimeout => some ⟨testFields ++ echoFields ++ [the FLOW.EXP_RUN, the FLOW.EXP_CHUNK, the SVC.SESSION, the
    SVC.BAUD_NOW, the SVC.PROTO, the SVC.ROLE], [.freeCtr, .axes, .gal, .saf, .doors, .flow, .echo, .svc], []⟩
  | .slatiId => some ⟨[the SVC.CMD_CNT], [.svc], []⟩
  | .slatiStatus => some ⟨[the SVC.CMD_CNT], [.svc], []⟩
  | .slatiCairn => some ⟨[the SVC.CMD_CNT, the SVC.CMD_ERR_CNT], [.svc], []⟩
  | .slatiRd _ _ _ => some ⟨indFields ++ [the SVC.CMD_CNT, the SVC.CMD_ERR_CNT], [.inds, .rdata, .pwr, .drip, .nets, .svc],
    everySpace⟩
  | .slatiRdi _ _ _ _ => some ⟨indFields ++ [the SVC.CMD_CNT, the SVC.CMD_ERR_CNT], [.inds, .rdata, .pwr, .drip, .nets,
    .svc], everySpace⟩
  | .slatiWr _ _ _ => none
  | .slatiWri _ _ _ _ => some ⟨indFields ++ [the SVC.CMD_CNT, the SVC.CMD_ERR_CNT], [.inds, .pwr, .drip, .nets, .svc],
    everySpace⟩
  | .slatiClock _ _ _ _ _ _ => some ⟨[the SVC.CMD_CNT, the SVC.CMD_ERR_CNT], [.drip, .svc], []⟩
  | .slatiRestart => none
  | .slatiHold => some ⟨[HDR.PG_DROP_CNT, the FLOW.EVID_HOLD, the FLOW.HOLD_SEQ_HI, the FLOW.HOLD_SEQ_LO, the
    FLOW.FQ0_DROP_CNT, the SVC.CMD_CNT, the SVC.CMD_ERR_CNT], [.fq0, .svc], []⟩
  | .slatiExport => some ⟨[HDR.PG_ADJ_CNT, the FLOW.EXP_RUN, the FLOW.EXP_DONE, the FLOW.EXP_CHUNK, the FLOW.EXP_TOTAL, the
    FLOW.EXP_LOST_CNT, the SVC.CMD_CNT, the SVC.CMD_ERR_CNT], [.flow, .svc], []⟩
  | .slatiAck _ _ => some ⟨[HDR.PG_DROP_CNT, the FLOW.EXP_RUN, the FLOW.EXP_DONE, the FLOW.EVID_HOLD, the FLOW.EXP_CHUNK,
    the FLOW.EXP_TOTAL, the FLOW.FQ0_DROP_CNT, the FLOW.EXP_RETRY_CNT, the FLOW.EXP_LOST_CNT, the SVC.CMD_CNT, the
    SVC.CMD_ERR_CNT], [.fq0, .flow, .svc], []⟩
  | .slatiExpabort => some ⟨[the FLOW.EXP_RUN, the FLOW.EXP_CHUNK, the SVC.CMD_CNT, the SVC.CMD_ERR_CNT], [.flow, .svc], []⟩
  | .slatiMon _ _ _ => some ⟨claimFields ++ [the SVC.CMD_CNT, the SVC.CMD_ERR_CNT, TEST.TP_SEL, the RES.HOST_MON], [.svc],
    []⟩
  | .slatiTest _ => some ⟨safetyFields ++ doorFields ++ claimFields ++ [AX.TORQUE_REQ, the GAL.GC_ON_LO, the GAL.GC_ON_HI,
    the FIO.FO_OUT, CAN.MODE, the SVC.CMD_CNT, the SVC.CMD_ERR_CNT, the TEST.M_TEST, the TEST.TEST_FAIL, the TEST.TEST_PASS,
    the TEST.TEST_RUN, the TEST.TEST_CODE, the TEST.TEST_ARG, the TEST.TEST_STEP, the TEST.TEST_RESULT, the TEST.TEST_VAL1,
    the TEST.TEST_VAL2, TEST.TP_SEL, the TEST.TEST_OWN_DW, the TEST.TEST_RUN_CNT, the RES.HOST_MON], [.freeCtr, .axes, .gal,
    .saf, .doors, .fq0, .drip, .flow, .svc], []⟩
  | .testComplete _ _ _ _ => some ⟨safetyFields ++ [the COLM.TEST_DUE, AX.EL_OFS, the GAL.GC_ON_LO, the GAL.GC_ON_HI, the
    FIO.FO_OUT, CAN.MODE, the TEST.M_TEST, the TEST.TEST_FAIL, the TEST.TEST_PASS, the TEST.TEST_RUN, the TEST.TEST_RESULT,
    the TEST.TEST_VAL1, the TEST.TEST_VAL2, TEST.TP_SEL, the TEST.TEST_OWN_DW, the TEST.TEST_FAIL_CNT, the RES.OWN_DIR_LO,
    the RES.OWN_DIR_HI, the RES.OWN_CSTEP, the RES.OWN_MON_LO, the RES.OWN_MON_HI], [.freeCtr, .axes, .gal, .saf, .doors,
    .svc], []⟩
  | .slatiStop => some ⟨testFields ++ [the SVC.CMD_CNT, the SVC.CMD_ERR_CNT], [.freeCtr, .axes, .gal, .saf, .doors, .svc],
    []⟩
  | .slatiParamRd => some ⟨[the SVC.CMD_CNT, the SVC.CMD_ERR_CNT], [.svc], []⟩
  | .slatiParamWr _ _ => some ⟨[the SVC.CMD_CNT, the SVC.CMD_ERR_CNT], [.svc], []⟩
  | .slatiParamCommit => some ⟨evalFields ++ [the SEAL.SIG_OK, the SEAL.SIG_CRC, the SVC.CMD_CNT, the SVC.CMD_ERR_CNT],
    [.freeCtr, .axes, .gal, .saf, .doors, .svc], [⟨pgSAFM, 1, 1⟩]⟩
  | .slatiTcfgRd => some ⟨[the SVC.CMD_CNT, the SVC.CMD_ERR_CNT], [.svc], []⟩
  | .slatiTcfgWr _ _ => some ⟨[the SVC.CMD_CNT, the SVC.CMD_ERR_CNT], [.svc], []⟩
  | .slatiTcfgCommit => some ⟨[the SVC.CMD_CNT, the SVC.CMD_ERR_CNT], [.svc], [⟨pgDST, 1, 2⟩]⟩
  | .slatiLc _ => some ⟨evalFields ++ [HDR.PG_DROP_CNT, the SYS.LC_STATE, the SYS.LC_WIPE_PEND, the SYS.LC_REFUSE_CNT, the
    FLOW.FQ0_DROP_CNT, the SVC.CMD_CNT, the SVC.CMD_ERR_CNT], [.freeCtr, .pwr, .axes, .gal, .saf, .doors, .fq0, .svc], []⟩
  | .tpSelWrite _ _ _ => some ⟨[HDR.PG_ADJ_CNT, TEST.TP_SEL], [], []⟩
  | .columnCheckFail _ _ => some ⟨refugeFields ++ [the COLM.COL_OK], [.freeCtr, .pwr, .axes, .gal, .saf, .doors, .fq0,
    .heads, .flow, .nets, .echo, .svc], []⟩
  | .encoderRestored _ => some ⟨safetyFields, [.freeCtr, .axes, .gal, .saf, .doors], []⟩

/-- The families of commands: the section of the spec that the table's rule of a command stands in. -/
inductive Family where
  | registers
  | connectors
  | power
  | startUp
  | traverse
  | sensing
  | links
  | volumes
  | doorCycle
  | safety
  | telegrams
  | gallery
  | fieldIo
  | can
  | networks
  | recorder
  | drip
  | service
  deriving DecidableEq, Repr

def family : Instr → Family
  | .registerWrite _ _ _ _ => .registers
  | .bitAliasWrite _ _ _ _ => .registers
  | .wideHighWrite _ _ _ => .registers
  | .wideLowWrite _ _ _ => .registers
  | .indAddrWrite _ _ _ => .registers
  | .indCtrlWrite _ _ _ => .registers
  | .indDataRead _ _ => .registers
  | .indDataWrite _ _ _ => .registers
  | .indPrefetchDone _ _ => .registers
  | .indPostedWriteDone _ _ => .registers
  | .voteScrub _ => .registers
  | .domainOn _ => .registers
  | .domainOff _ => .registers
  | .hostResClaim _ _ _ => .registers
  | .lampTestEnd => .connectors
  | .battlInterrupt _ => .power
  | .battlReturn _ => .power
  | .pfWarn => .power
  | .powerDownComplete => .power
  | .powerOnStart _ => .startUp
  | .supplyLevelChange _ _ => .power
  | .battdOvOpen _ => .power
  | .battdOvClose _ => .power
  | .chopperOn _ => .power
  | .chopperOff _ => .power
  | .chopBudgetRestored => .power
  | .busOvervoltage _ => .power
  | .modeReqWrite _ _ => .power
  | .activeGateReadbackDone _ => .power
  | .actRdySet _ => .power
  | .idleDelayExpiry => .power
  | .wakeEvent _ => .power
  | .parkStart => .power
  | .parkLateWake _ => .power
  | .parkComplete => .power
  | .crawlP10Off => .power
  | .clockFailure _ _ _ => .power
  | .cellMeasure _ _ => .power
  | .clockMeasureDone _ => .power
  | .selfTestStepPass _ => .startUp
  | .selfTestStepFail _ _ _ => .startUp
  | .lpddr5WipeDone _ _ => .startUp
  | .hostStart _ _ => .startUp
  | .hostRdyWrite _ _ => .startUp
  | .hostRdyTimeout => .startUp
  | .refugeMonitorPowerOn => .startUp
  | .galleryDeferredTest _ _ => .startUp
  | .bootConfirmWrite _ _ => .startUp
  | .refugeAnnounce _ => .startUp
  | .lcWipesDone _ _ => .startUp
  | .rstReqWrite _ _ => .startUp
  | .hostWdKickWrite _ _ => .startUp
  | .hostWdExpiry => .startUp
  | .wdRestartDue => .startUp
  | .traverseUpdate _ _ => .traverse
  | .torqueRampEnd _ => .traverse
  | .holdReductionStart _ => .traverse
  | .axPush _ _ => .traverse
  | .axStop _ _ => .traverse
  | .axFlush _ _ => .traverse
  | .axReverse _ _ => .traverse
  | .prfCommit _ _ _ => .traverse
  | .trvGoWrite _ _ => .traverse
  | .torqueReqWrite _ _ _ => .traverse
  | .axModeWrite _ _ _ => .traverse
  | .axEnWrite _ _ _ => .traverse
  | .torqueRemoval _ => .traverse
  | .tblCrcUpdate _ => .traverse
  | .cstepEdge _ _ _ => .traverse
  | .encoderLost _ => .sensing
  | .deviationDecision _ => .sensing
  | .switchAccepted _ _ => .sensing
  | .home _ _ => .sensing
  | .hardStopFound _ => .sensing
  | .learn _ _ => .sensing
  | .learnAbort _ _ => .sensing
  | .forceTrip _ => .sensing
  | .reversalRequest _ => .sensing
  | .sqzChange _ => .sensing
  | .stepOut _ _ => .sensing
  | .gapMmReceived _ _ _ _ => .sensing
  | .gapStale _ => .sensing
  | .headPresent _ _ _ => .links
  | .headLinkReady _ => .links
  | .linkReadyTimeout _ => .links
  | .linkTrainDone _ _ => .links
  | .identDone _ _ _ => .links
  | .calibReadDone _ _ => .links
  | .headLinkLoss _ _ => .links
  | .portFaultWaitEnd _ => .links
  | .retrain _ _ => .links
  | .recal _ _ => .links
  | .headPowerTrip _ => .links
  | .headPowerRetry _ => .links
  | .headBudgetShed _ => .links
  | .headShedRestore _ _ => .links
  | .frameTrigger _ _ => .links
  | .frameLineRx _ _ _ _ _ _ => .links
  | .frameStale _ => .links
  | .frameProcessed _ _ _ => .volumes
  | .glowwormDecision _ _ => .links
  | .glowwormSilence _ => .links
  | .poseWrite _ _ _ _ => .volumes
  | .bgLearn _ _ => .volumes
  | .bgAbort _ _ => .volumes
  | .bgLearnDone _ => .volumes
  | .lqAck _ _ => .volumes
  | .recordAtSafety _ => .volumes
  | .visionStale _ => .volumes
  | .burstReqHoldEnd _ => .volumes
  | .thinAdclHoldEnd _ => .doorCycle
  | .cycReqWrite _ _ _ => .doorCycle
  | .cycleTick => .doorCycle
  | .supervisionTimeout _ => .doorCycle
  | .dwellDoneSet _ => .doorCycle
  | .pauseDoneSet _ => .doorCycle
  | .recoverSettle _ => .doorCycle
  | .sealSample _ _ _ _ => .safety
  | .sealPoleDisagree _ => .safety
  | .sealChange _ => .safety
  | .inputAccepted _ _ _ => .safety
  | .channelExchange => .safety
  | .inputDiscLatch _ => .safety
  | .pairDiscrepancyLatch _ _ => .safety
  | .twoHandButtonFault _ _ => .safety
  | .twoHandWindowExpiry _ => .safety
  | .heartbeatLost _ => .safety
  | .reversalWatchFail _ => .safety
  | .guidedContactFault _ => .safety
  | .edmCheckFail _ _ => .safety
  | .resetRelease _ _ _ => .safety
  | .resetStuck _ => .safety
  | .spPeriodicTestFail _ _ => .safety
  | .mirrorCheck => .safety
  | .testDueSet => .safety
  | .safeCopyRx _ _ => .telegrams
  | .pairTimeout _ => .telegrams
  | .permissiveLapse _ => .telegrams
  | .streamUnsync _ => .telegrams
  | .networkLost _ => .telegrams
  | .netRestrEnd => .telegrams
  | .doorStatusSend => .telegrams
  | .gcOnWrite _ _ _ => .gallery
  | .followWrite _ _ _ => .gallery
  | .directEdge _ _ => .gallery
  | .ocTrip _ _ => .gallery
  | .retryBackoffEnd _ => .gallery
  | .retryNReset _ => .gallery
  | .commandOffSettled _ => .gallery
  | .inrushWindowEnd _ => .gallery
  | .thermalLatch _ _ _ => .gallery
  | .thermalLatchClear _ _ _ => .gallery
  | .clampUnlock _ _ => .gallery
  | .crawlClampUnlock _ => .gallery
  | .shedStep _ _ _ => .gallery
  | .shedRestoreStep _ _ _ => .gallery
  | .gateCutBitClear _ => .gallery
  | .crawlEnFilterAccept _ => .connectors
  | .crawlMapWrite _ _ _ => .gallery
  | .bankOvervoltage _ => .gallery
  | .bankReverse _ => .gallery
  | .bankGroundLoss _ => .gallery
  | .bankReturn _ => .gallery
  | .bankChannelRestore _ => .gallery
  | .bankSwitchFault _ => .gallery
  | .barrierLoss => .fieldIo
  | .barrierReturn => .fieldIo
  | .fiAccepted _ _ => .fieldIo
  | .foOutWrite _ _ => .fieldIo
  | .thrWrite _ _ => .fieldIo
  | .foCurrentLimit _ => .fieldIo
  | .foThermalShutdown _ => .fieldIo
  | .foThermalRestart _ => .fieldIo
  | .fioFaultClear => .fieldIo
  | .canFrameRx _ _ _ => .can
  | .canTxPush _ _ _ => .can
  | .canTxCancel _ _ _ => .can
  | .canTxRelease _ _ _ => .can
  | .canRxAck _ _ _ => .can
  | .canHpbRelease _ _ _ => .can
  | .canTxStart _ _ => .can
  | .canTxComplete _ _ _ => .can
  | .canBusError _ _ _ _ => .can
  | .canRecover _ _ => .can
  | .canRecoveryDone _ => .can
  | .lpReqWrite _ _ _ => .can
  | .canSleepEnter _ => .can
  | .canLocalWake _ _ => .can
  | .canEnWrite _ _ _ => .can
  | .safeCanConfigure => .can
  | .ecnFrameRx _ _ _ _ => .networks
  | .ecnTailWrite _ _ _ => .networks
  | .ecnFrameTx _ _ => .networks
  | .bypassRelayChange => .networks
  | .ecnLinkChange _ _ _ => .networks
  | .mvbMasterFrame _ _ _ => .networks
  | .mvbSlaveFrame _ _ _ _ => .networks
  | .mvbLineFault _ => .networks
  | .mvbPortStale _ => .networks
  | .mvbSinkWord0Read _ => .networks
  | .lglPoll => .networks
  | .lglReplyRx _ _ => .networks
  | .lglReplyTimeout => .networks
  | .lglSendBuffer _ _ => .networks
  | .lglSlaveReply _ _ => .networks
  | .dvrMessageRx _ _ => .networks
  | .announceSend => .networks
  | .announceRx _ _ _ => .networks
  | .consistRx _ => .networks
  | .partnerLost _ => .networks
  | .carrierTimeout _ _ => .networks
  | .tcmsLost => .networks
  | .slotHoldExpiry _ => .networks
  | .expectedMissing _ => .networks
  | .doorInfoSend => .networks
  | .recordSeal _ _ => .recorder
  | .archivePageCopy _ _ => .recorder
  | .traceSample _ => .recorder
  | .clipComplete _ => .recorder
  | .snapshotTimer => .recorder
  | .snap _ => .recorder
  | .hev _ => .recorder
  | .find _ => .recorder
  | .findDone => .recorder
  | .rdClassWrite _ _ => .recorder
  | .expStart _ => .recorder
  | .expAbort _ => .recorder
  | .expAckWrite _ _ => .recorder
  | .flowRecovery _ _ _ => .recorder
  | .nandPowerOff => .recorder
  | .nandOnlyFlush _ => .recorder
  | .recorderSend => .recorder
  | .tcUpdate _ => .drip
  | .tickCheckpoint => .drip
  | .backupLoss => .drip
  | .setCmdWrite _ => .drip
  | .calendarSetApply => .drip
  | .almDlySWrite _ => .drip
  | .alarmConfigWrite _ _ => .drip
  | .calAlarmFire => .drip
  | .dlyAlarmFire => .drip
  | .slatiLineError => .service
  | .slatiHello => .service
  | .slatiVer _ => .service
  | .slatiBaud _ => .service
  | .baudRevert => .service
  | .slatiBreak _ => .service
  | .slatiLogin _ => .service
  | .slatiResp _ => .service
  | .nonceExpiry => .service
  | .lockoutEnd => .service
  | .slatiLogout => .service
  | .sessionTimeout => .service
  | .slatiId => .service
  | .slatiStatus => .service
  | .slatiCairn => .service
  | .slatiRd _ _ _ => .service
  | .slatiRdi _ _ _ _ => .service
  | .slatiWr _ _ _ => .service
  | .slatiWri _ _ _ _ => .service
  | .slatiClock _ _ _ _ _ _ => .service
  | .slatiRestart => .service
  | .slatiHold => .startUp
  | .slatiExport => .recorder
  | .slatiAck _ _ => .recorder
  | .slatiExpabort => .recorder
  | .slatiMon _ _ _ => .service
  | .slatiTest _ => .service
  | .testComplete _ _ _ _ => .service
  | .slatiStop => .service
  | .slatiParamRd => .service
  | .slatiParamWr _ _ => .safety
  | .slatiParamCommit => .service
  | .slatiTcfgRd => .service
  | .slatiTcfgWr _ _ => .telegrams
  | .slatiTcfgCommit => .service
  | .slatiLc _ => .startUp
  | .tpSelWrite _ _ _ => .service
  | .columnCheckFail _ _ => .safety
  | .encoderRestored _ => .safety

/-- A write of a whole word from `src` reaches the block behind the register at `off` of page `pg`: the interface is powered and
clocked (R50, R75), the page and the instance exist (R6, R390), no running test keeps the host out (R373), the page is not hardware-locked (R87) and
its domain is on (R77). -/
def hears (s : State) (src : Src) (pg off : Nat) : Bool :=
  busUp s && s.hasPage pg && s.hasInst (pg * 0x1000 + off) && !testPage s src pg && !s.hwLock pg && s.pageOn pg &&
    !(src = .host && pg = pgCYC && testHolds s (cycOf off))

/-- What a field becomes that a write reaches: its reserved positions dropped (R12), then limited by its range, by its register and by
the rules of its block. -/
def limited (ru : Rules) (s : State) (d : Desc) (v : Nat) : Nat :=
  ru.2 s d (clampMore d.reg (clampTo d.clamp d.reg.w (liveBits d.reg v))).1 % 2 ^ d.reg.w

/-- Whether the register at an offset of a page has limits that tie its fields together (R86). -/
def settles (pg off : Nat) : Bool :=
  decide (pg = pgLVOL) && decide (off % 0x40 = 0x1C) && decide (0x100 ≤ off) ||
    decide (pg = pgFLOW) && decide (off = 0x06C) ||
    decide (0x50 ≤ pg) && decide (pg < 0x54) && (decide (off = 0x048) || decide (off = 0x04C) || decide (off = 0x050) || decide (off = 0x054))

/-- Whether a write of the whole word at an address is stored field by field, and every field of it has its own key. -/
def storable (pg off : Nat) : Bool :=
  let rows := rowsAt (pg * 0x1000 + off)
  decide (pg < 256) && decide (off < 4096) && decide (off % 4 = 0) && !(decide (0x030 ≤ off) && decide (off < 0x03C)) &&
    (decide (pg ≠ pgGAL) || decide (pg * 0x1000 + off ≠ GAL.GC_ON_HI.addr)) && !rows.any (·.acc = .wo) && !wideHi pg off && !wideHi pg (off - 4) &&
    !settles pg off && decide (pg ≠ pgTEST) && decide (pg ≠ pgRES) && decide (pg ≠ pgCRAWL) &&
    !(rows.filter fun d => bitsOf 0xFFFFFFFF d.reg.lo d.reg.w != 0).all (·.acc = .ro) &&
    decide (rows.Pairwise fun a b => a.reg.key ≠ b.reg.key)

/-- Whether a write of the whole word at an address is a command. -/
def commandable (pg off : Nat) : Bool :=
  decide (pg < 256) && decide (off < 4096) && decide (off % 4 = 0) && !(decide (0x030 ≤ off) && decide (off < 0x03C)) &&
    (decide (pg ≠ pgGAL) || decide (pg * 0x1000 + off ≠ GAL.GC_ON_HI.addr)) && (rowsAt (pg * 0x1000 + off)).any (·.acc = .wo)

end Sys2Proof.Machine
end

