-- ==== Sys2Proof/Places.lean ====
section
/-! DEFINITION. Which instances a command works on and which bytes it can store to, both from its operands and by the model's own
expressions: the words in which the statements about instances and stores are put. -/

namespace Sys2Proof.Machine

/-! Instances. -/

/-- The kinds of things the block has several of: groups of register fields (the header of a page, the registers of an axis, of a head
port, of a CAN controller, of a doorway, of a Gallery channel, a word of the Crawl map, a ring of the train network, a register of test
points) and parts of State (what an axis, a head, a CAN controller, a doorway, a registry slot, an indirect pair holds beside them). -/
inductive Kind where
  | page
  | axis
  | port
  | controller
  | cycle
  | channel
  | mapWord
  | ring
  | points
  | axPart
  | headPart
  | canPart
  | doorPart
  | slotPart
  | pairPart
  deriving DecidableEq, Repr

/-- The fields at the offsets `lo` to `hi` (exclusive) of the page window are the same in two states. -/
def sameFields (s t : State) (lo hi : Nat) : Prop := ∀ r : Reg, lo ≤ r.key / 32 → r.key / 32 < hi → t.get r = s.get r

/-- Instance `n` of a kind is the same in two states. -/
def Kind.same (s t : State) (n : Nat) : Kind → Prop
  | .page => sameFields s t (n * 0x1000) (n * 0x1000 + 0x40)
  | .axis => n < 16 → sameFields s t (pgAX n * 0x1000 + 0x40) ((pgAX n + 1) * 0x1000)
  | .port => n < 16 → sameFields s t (pgLH n * 0x1000 + 0x40) ((pgLH n + 1) * 0x1000)
  | .controller => n < 4 → sameFields s t (pgCAN n * 0x1000 + 0x40) ((pgCAN n + 1) * 0x1000)
  | .cycle => n < 8 → sameFields s t (pgCYC * 0x1000 + 0x200 + n * 0x80) (pgCYC * 0x1000 + 0x280 + n * 0x80)
  | .channel => n < 48 → sameFields s t (pgGAL * 0x1000 + 0x100 + n * 0x20) (pgGAL * 0x1000 + 0x120 + n * 0x20)
  | .mapWord => n < 12 → t.get (CRAWL.CRAWL_MAP n) = s.get (CRAWL.CRAWL_MAP n)
  | .ring => n < 4 → sameFields s t (pgECN * 0x1000 + 0x60 + n * 8) (pgECN * 0x1000 + 0x68 + n * 8)
  | .points => n < 8 → t.get (TEST.TP_SEL n) = s.get (TEST.TP_SEL n)
  | .axPart => t.ax n = s.ax n
  | .headPart => t.head n = s.head n
  | .canPart => t.can n = s.can n
  | .doorPart => t.dw n = s.dw n
  | .slotPart => mapFind EchoSlot.free n t.echo.slots = mapFind EchoSlot.free n s.echo.slots
  | .pairPart => mapFind IndPair.init n t.inds = mapFind IndPair.init n s.inds

/-- The page of an axis among the numbers of axes. -/
def axisOfPage (pg : Nat) : List Nat := if 0x10 ≤ pg && pg < 0x20 then [pg - 0x10] else []

/-- The ring a frame for the host goes to (R305). -/
def rxRing (f : EcnFrame) : Nat := if 4 ≤ prioOf f then 3 else 2
/-- The ring the next frame from the host leaves (R305): TXQ1 before TXQ0. -/
def txRing (s : State) : Nat := if s.get (ECN.Q_HEAD 1) != s.get (ECN.Q_TAIL 1) then 1 else 0

/-- An access to the pair of a page and of a sender. -/
def onPair (src : Src) (pg : Nat) : List (Kind × List Nat) :=
  [(.page, [pgSYS, pg]), (.axis, axisOfPage pg), (.pairPart, [pairKey pg src])]
/-- A command of an axis. -/
def onAxis (n : Nat) (pages : List Nat) : List (Kind × List Nat) := [(.page, pages), (.axis, [n]), (.axPart, [n])]
/-- A command of a head port. -/
def onPort (h : Nat) : List (Kind × List Nat) := [(.port, [h]), (.headPart, [h])]
/-- A command of a CAN controller. -/
def onCan (n : Nat) : List (Kind × List Nat) := [(.page, [pgSYS, pgCAN n]), (.controller, [n]), (.canPart, [n])]
/-- A command of a doorway. -/
def onDoor (n : Nat) : List (Kind × List Nat) := [(.page, [pgCYC, pgFLOW]), (.cycle, [n]), (.doorPart, [n])]

/-- The instances a command works on, kind by kind: instances of a kind that stands here stay as they are unless they are named. Of a
kind that does not stand here, `changes` says all that is said. -/
def only (c : Instr) (s : State) : List (Kind × List Nat) :=
  match c with
  | .indAddrWrite src pg _ => onPair src pg
  | .indCtrlWrite src pg _ => onPair src pg
  | .indDataRead src pg => onPair src pg
  | .indDataWrite src pg _ => onPair src pg
  | .indPrefetchDone src pg => onPair src pg
  | .indPostedWriteDone src pg => onPair src pg
  | .battlInterrupt _ => [(.page, [pgGAL])]
  | .battlReturn _ => [(.page, [pgGAL])]
  | .supplyLevelChange _ _ => [(.page, [pgGAL])]
  | .battdOvOpen _ => [(.page, [pgGAL])]
  | .battdOvClose _ => [(.page, [pgGAL])]
  | .bootConfirmWrite _ _ => [(.page, [pgSYS, pgBOOT])]
  | .hostWdKickWrite _ _ => [(.page, [pgSYS])]
  | .torqueRampEnd n => onAxis n []
  | .axPush _ n => onAxis n [pgSYS, pgAX n]
  | .axStop _ n => onAxis n [pgSYS, pgAX n]
  | .axFlush _ n => onAxis n [pgSYS, pgAX n]
  | .axReverse _ n => onAxis n [pgSYS, pgAX n]
  | .prfCommit _ n _ => onAxis n [pgSYS, pgAX n]
  | .torqueReqWrite _ n _ => onAxis n [pgSYS, pgAX n, ownerPage 1 n (s.owner 1 n)]
  | .axModeWrite _ n _ => onAxis n [pgSYS, pgAX n, ownerPage 1 n (s.owner 1 n)]
  | .axEnWrite _ (some n) _ => onAxis n [pgSYS, pgAX n]
  | .torqueRemoval n => onAxis n [pgAX n]
  | .cstepEdge n _ _ => onAxis n [pgAX n]
  | .deviationDecision n => (.doorPart, [n - 8]) :: onAxis n [pgAX n, pgFLOW]
  | .switchAccepted n _ => onAxis n [pgAX n, pgFLOW]
  | .home _ n => onAxis n [pgSYS, pgAX n]
  | .hardStopFound n => onAxis n [pgAX n]
  | .learn _ n => onAxis n [pgSYS, pgAX n]
  | .learnAbort _ n => onAxis n [pgSYS, pgAX n]
  | .forceTrip n => (.doorPart, [n]) :: onAxis n []
  | .reversalRequest n => onAxis n []
  | .sqzChange n => onAxis n []
  | .stepOut _ n => (.doorPart, [n - 8]) :: onAxis n [pgSYS, pgAX n, pgFLOW]
  | .gapMmReceived n _ _ _ => (.headPart, [2 * n + 1]) :: onAxis (8 + n) []
  | .gapStale n => onAxis (8 + n) []
  | .headPresent h _ _ => onPort h
  | .headLinkReady h => onPort h
  | .linkReadyTimeout h => onPort h
  | .linkTrainDone h _ => onPort h
  | .identDone h _ _ => (.page, [pgLH h]) :: onPort h
  | .calibReadDone h _ => (.page, [pgECHO, pgLH h]) :: onPort h
  | .headLinkLoss h _ => [(.port, [h]), (.page, [pgECHO, pgLH h])]
  | .portFaultWaitEnd h => onPort h
  | .retrain _ h => (.page, [pgSYS, pgECHO, pgLH h]) :: onPort h
  | .recal _ h => (.page, [pgSYS, pgECHO, pgLH h]) :: onPort h
  | .headPowerTrip h => (.page, [pgECHO, pgLH h]) :: onPort h
  | .headPowerRetry h => onPort h
  | .frameTrigger h _ => onPort h
  | .frameLineRx h _ _ _ _ _ => (.page, [pgLVOL, pgLH h]) :: onPort h
  | .frameStale h => onPort h
  | .frameProcessed h _ _ => [(.headPart, [h]), (.doorPart, [h / 2]), (.page, [pgLVOL, pgFLOW])]
  | .glowwormDecision h _ => (.page, [pgLH h]) :: onPort h
  | .glowwormSilence h => (.page, [pgLH h]) :: onPort h
  | .poseWrite _ _ _ _ => [(.page, [pgLVOL])]
  | .bgLearn _ n => [(.headPart, [2 * n, 2 * n + 1]), (.page, [pgSYS, pgLVOL])]
  | .bgAbort _ n => [(.headPart, [2 * n, 2 * n + 1]), (.page, [pgSYS, pgLVOL])]
  | .bgLearnDone n => [(.headPart, [2 * n, 2 * n + 1])]
  | .lqAck _ h => [(.headPart, [h]), (.page, [pgSYS, pgLVOL])]
  | .recordAtSafety h => [(.headPart, [h])]
  | .visionStale h => [(.headPart, [h])]
  | .burstReqHoldEnd n => [(.doorPart, [n])]
  | .cycReqWrite _ n _ => [(.doorPart, [n]), (.page, [pgSYS, pgCYC])]
  | .supervisionTimeout n => onDoor n
  | .dwellDoneSet n => onDoor n
  | .pauseDoneSet n => onDoor n
  | .recoverSettle n => onDoor n
  | .doorStatusSend => [(.controller, [s.get DST.CAN_SEL]), (.canPart, [s.get DST.CAN_SEL])]
  | .gcOnWrite _ _ _ => [(.page, [pgSYS, pgGAL])]
  | .directEdge _ _ => [(.page, [pgGAL])]
  | .ocTrip _ _ => [(.page, [pgGAL])]
  | .retryBackoffEnd _ => [(.page, [pgGAL])]
  | .retryNReset c => [(.channel, [c])]
  | .commandOffSettled _ => [(.page, [pgGAL])]
  | .inrushWindowEnd c => [(.channel, [c])]
  | .thermalLatch _ _ _ => [(.page, [pgGAL])]
  | .thermalLatchClear _ _ _ => [(.page, [pgGAL])]
  | .clampUnlock _ _ => [(.page, [pgSYS, pgGAL])]
  | .crawlClampUnlock _ => [(.page, [pgGAL])]
  | .crawlMapWrite _ k _ => [(.mapWord, [k]), (.page, [pgSYS, pgCRAWL])]
  | .barrierLoss => [(.page, [pgFIO, pgFLOW])]
  | .foOutWrite _ _ => [(.page, [pgSYS, pgFIO])]
  | .thrWrite _ _ => [(.page, [pgSYS, pgFIO])]
  | .foCurrentLimit _ => [(.page, [pgFIO, pgFLOW])]
  | .foThermalShutdown _ => [(.page, [pgFIO, pgFLOW])]
  | .canFrameRx n _ _ => [(.controller, [n]), (.canPart, [n])]
  | .canTxPush _ n _ => onCan n
  | .canTxCancel _ n _ => onCan n
  | .canTxRelease _ n _ => onCan n
  | .canRxAck _ n _ => onCan n
  | .canHpbRelease _ n _ => onCan n
  | .canTxStart n _ => onCan n
  | .canTxComplete n _ _ => onCan n
  | .canBusError n _ _ _ => onCan n
  | .canRecover _ n => onCan n
  | .canRecoveryDone n => onCan n
  | .lpReqWrite _ n _ => onCan n
  | .canSleepEnter n => onCan n
  | .canLocalWake n _ => onCan n
  | .canEnWrite _ n _ => onCan n
  | .safeCanConfigure => onCan (s.get DST.CAN_SEL)
  | .ecnFrameRx _ f _ _ => [(.ring, [rxRing f])]
  | .ecnTailWrite _ k _ => [(.ring, [k]), (.page, [pgSYS, pgECN])]
  | .ecnFrameTx _ _ => [(.ring, [txRing s]), (.page, [pgECN])]
  | .lglReplyRx _ _ => [(.page, [pgLGL, pgECHO])]
  | .lglReplyTimeout => [(.page, [pgECHO])]
  | .lglSendBuffer _ _ => [(.page, [pgSYS, pgLGL])]
  | .lglSlaveReply _ _ => [(.page, [pgLGL])]
  | .announceRx _ _ _ => [(.page, [pgECHO])]
  | .consistRx _ => [(.page, [pgECHO])]
  | .partnerLost _ => [(.page, [pgECHO])]
  | .carrierTimeout k _ => [(.slotPart, [k])]
  | .tcmsLost => [(.page, [pgECHO])]
  | .slotHoldExpiry k => [(.slotPart, [k]), (.page, [pgECHO])]
  | .expectedMissing k => [(.slotPart, [k])]
  | .recordSeal _ _ => [(.page, [pgFLOW])]
  | .archivePageCopy _ _ => [(.page, [pgFLOW])]
  | .traceSample _ => [(.page, [pgFLOW])]
  | .clipComplete _ => [(.page, [pgFLOW])]
  | .snapshotTimer => [(.page, [pgFLOW])]
  | .snap _ => [(.page, [pgSYS, pgFLOW])]
  | .hev _ => [(.page, [pgSYS, pgFLOW])]
  | .find _ => [(.page, [pgSYS, pgFLOW])]
  | .expStart _ => [(.page, [pgSYS, pgFLOW])]
  | .expAbort _ => [(.page, [pgSYS, pgFLOW])]
  | .flowRecovery _ _ _ => [(.page, [pgFLOW])]
  | .nandOnlyFlush _ => [(.page, [pgFLOW])]
  | .setCmdWrite _ => [(.page, [pgDRIP])]
  | .calendarSetApply => [(.page, [pgDRIP, pgFLOW])]
  | .almDlySWrite _ => [(.page, [pgDRIP])]
  | .alarmConfigWrite _ _ => [(.page, [pgDRIP])]
  | .slatiRd pg _ _ => onPair .tool pg
  | .slatiRdi pg _ _ _ => onPair .tool pg
  | .slatiWri pg _ _ _ => onPair .tool pg
  | .slatiHold => [(.page, [pgFLOW])]
  | .slatiExport => [(.page, [pgFLOW])]
  | .slatiAck _ _ => [(.page, [pgFLOW])]
  | .slatiMon tp _ _ => [(.points, [(tp - 9) / 2])]
  | .tpSelWrite _ tp _ => [(.points, [tp / 2]), (.page, [pgTEST])]
  | _ => []

/-! Stores. -/

/-- A byte lies among the `n` bytes that start at address `f` of a space; addresses count modulo 2^32 (R89). -/
def span (page space f n pg sp a : Nat) : Prop :=
  page * 16 + space = pg * 16 + sp ∧ (a % 2 ^ 32 + 2 ^ 32 - f % 2 ^ 32) % 2 ^ 32 < n

/-- Where a write of a word at address `b` of a space lands (R63, R89, R96, R165, R285, R308, R356, R357): a pose write also clears the
mark of the background of its doorway. -/
def wordPlace (s : State) (page space b pg sp a : Nat) : Prop :=
  if page = pgBOOT then span pgBOOT (1 + idleSlot s) b 4 pg sp a
  else if page = pgDRIP then b ∈ [0, 4, 0x10, 0x14, 0x18, 0x1C, 0x20] ∧ span pgDRIP 1 b 4 pg sp a
  else if page = pgTRV then span pgTRV 1 b 4 pg sp a
  else if 0x10 ≤ page ∧ page < 0x20 then span page 1 b 4 pg sp a
  else if page = pgLVOL then
    span pgLVOL 3 (b / 0x40 * 0x40 + 4 * (b % 0x40 / 4)) 4 pg sp a ∨ span pgLVOL spMarks (b / 0x40 / 2) 1 pg sp a
  else if 0x50 ≤ page ∧ page < 0x54 then span page 1 b 4 pg sp a
  else if page = pgMVB ∧ space = 1 then span pgMVB 1 b 4 pg sp a
  else span page space b 4 pg sp a

/-- Where the write posted by a pair lands when it completes (R89). -/
def postPlace (s : State) (page : Nat) (src : Src) (pg sp a : Nat) : Prop :=
  ∃ space b v, (s.pair page src).post = some (space, b, v) ∧ wordPlace s page space b pg sp a

/-- The space and the address that a selection of a pair ends with (R89). -/
def pairSpace (s : State) (page space : Nat) : Nat := if spaceLen s page space = 0 then 0 else space
def pairAddr (s : State) (page space b : Nat) : Nat := min (b / 4 * 4) (spaceLen s page (pairSpace s page space))

/-- Where the table of one axis lies (R132). -/
def envPlace (n pg sp a : Nat) : Prop := span (pgAX n) 2 0 0x800 pg sp a ∨ span (pgAX n) 15 0 0x800 pg sp a

/-- The bytes of a background (R168): its bitmap in LPDDR5, the copy in MRAM and its CRC. -/
def groundPlace (s : State) (h pg sp a : Nat) : Prop :=
  span pgLANT spPart (partStatic h) 0x40000 pg sp a ∨ span pgLVOL spMram (h * 0x40000) bitmapLen pg sp a ∨
  span pgLVOL spMarks (bgCrcAt h) 4 pg sp a ∨ ∃ v ∈ (learned s h).1, span pgLANT spPart (partStatic h + v / 8) 1 pg sp a

/-- The slot of the ring that takes a line of a frame, and whether it holds a burst frame (R157). -/
def lineSlot (s : State) (h num : Nat) : Option (Nat × Bool) :=
  let t := if (slotOf (s.head h) num).isNone then openSlot s h num else s
  (slotOf (t.head h) num).map fun k => (k, ((t.head h).slots.getD k Slot.free).burst)

/-- A word of a TX descriptor (R286). -/
def txWord (n i w pg sp a : Nat) : Prop := span (pgCAN (n % 4)) 1 (i * 0x20 + 4 * w) 4 pg sp a

/-- Where a received frame goes (R288 to R290): its descriptor and its data, in the FIFO or in the buffer of a filter. -/
def rxPlace (s : State) (n : Nat) (f : CanFrame) (pg sp a : Nat) : Prop :=
  let (act, h, _, _) := filterFrame s n f
  let fifo := act = 1 ∨ s.bit (CAN.HPB_FULL n) h ∨ 64 < f.data.length
  act ≠ 3 ∧
  if fifo then
    span (pgCAN (n % 4)) 1 (0x400 + (s.can n).rxNext * 0x20) 0x20 pg sp a ∨
    ∃ p, ringPlace s n (dataBlks f.data.length) = some p ∧
      span (pgCAN (n % 4)) 1 (0x1800 + (s.get (CAN.TX_AREA_BLK n) + p) * 64) f.data.length pg sp a
  else
    span (pgCAN (n % 4)) 1 (0xC00 + h * 0x20) 0x20 pg sp a ∨ span (pgCAN (n % 4)) 1 (0xD00 + h * 0x40) f.data.length pg sp a

/-- Where a frame for the host goes (R305): two words of the descriptor at HEAD, and its buffer. -/
def ringStore (s : State) (f : EcnFrame) (buf pg sp a : Nat) : Prop :=
  span pgECN 12 (s.get (ECN.Q_BASE (rxRing f)) + 16 * s.get (ECN.Q_HEAD (rxRing f)) + 4) 8 pg sp a ∨
  span pgECN 12 buf (f.bytes.take 2048).length pg sp a

/-- Where a reply on the legacy line goes (R310): the buffer of the unit asked. -/
def replyPlace (s : State) (bytes : List Nat) (pg sp a : Nat) : Prop :=
  ∃ u b c, s.nets.lglWait = some (u, b, c) ∧ span pgLGL 1 (u % 32 * 0x48) bytes.length pg sp a

/-- The bytes a command can store to; a command that does not stand here stores nothing. -/
def stored (c : Instr) (s : State) (pg sp a : Nat) : Prop :=
  match c with
  | .indAddrWrite src p _ => postPlace s p src pg sp a
  | .indCtrlWrite src p _ => postPlace s p src pg sp a
  | .indDataRead src p => postPlace s p src pg sp a
  | .indDataWrite src p _ => postPlace s p src pg sp a
  | .indPostedWriteDone src p => postPlace s p src pg sp a
  | .slatiRd p _ _ => postPlace s p .tool pg sp a
  | .slatiRdi p _ _ _ => postPlace s p .tool pg sp a
  | .slatiWri p space b _ =>
    postPlace s p .tool pg sp a ∨ wordPlace s p (pairSpace s p space) (pairAddr s p space b.toNat) pg sp a
  | .powerDownComplete => keptSpace pg sp = false
  | .selfTestStepPass _ => span pgDST spTcfg 0 0x80 pg sp a
  | .lpddr5WipeDone _ _ =>
    (∃ h < 16, span pgLANT spPart (partStatic h) bitmapLen pg sp a) ∨ span pgLVOL spMarks 0 8 pg sp a
  | .traverseUpdate _ _ => ∃ n < 16, envPlace n pg sp a
  | .deviationDecision n => envPlace n pg sp a
  | .identDone h id _ => span (pgLH h) 2 0 id.length pg sp a
  | .calibReadDone h _ => span pgLANT spPart (partCal h) 0x1500000 pg sp a
  | .frameLineRx h num line _ _ _ => ∃ k b, lineSlot s h num = some (k, b) ∧
    span pgLANT spPart (partRing h k + line * frameWidth b * 3) (frameWidth b * 3) pg sp a
  | .poseWrite _ h k _ => span pgLVOL 3 (h * 0x40 + 4 * k) 4 pg sp a ∨ span pgLVOL spMarks (h / 2) 1 pg sp a
  | .bgLearnDone n => groundPlace s (2 * n) pg sp a ∨ groundPlace s (2 * n + 1) pg sp a ∨ span pgLVOL spMarks n 1 pg sp a
  | .doorStatusSend => ∃ i, safeEntry s = some i ∧
    (txWord (s.get DST.CAN_SEL) i 0 pg sp a ∨ txWord (s.get DST.CAN_SEL) i 1 pg sp a ∨ txWord (s.get DST.CAN_SEL) i 5 pg sp a ∨
      span (pgCAN (s.get DST.CAN_SEL % 4)) 1 (0x1800 + s.get (CAN.TX_AREA_BLK (s.get DST.CAN_SEL)) * 64 - (32 - i) * 64) 32 pg sp a)
  | .canTxPush _ n i => txWord n i 5 pg sp a
  | .canTxCancel _ n i => txWord n i 5 pg sp a
  | .canTxStart n .begin => ∃ i, offered s n = some i ∧ txWord n i 5 pg sp a
  | .canTxStart _ .won => False
  | .canTxStart n .lost => txWord n (s.get (CAN.TX_ACT n)) 5 pg sp a
  | .canTxComplete n _ _ =>
    txWord n (s.get (CAN.TX_ACT n)) 4 pg sp a ∨ txWord n (s.get (CAN.TX_ACT n)) 5 pg sp a ∨
    (s.get (CAN.MODE n) = 2 ∧ rxPlace s n (txFrame s n (s.get (CAN.TX_ACT n))) pg sp a)
  | .canBusError n _ _ _ => txWord n (s.get (CAN.TX_ACT n)) 5 pg sp a
  | .canFrameRx n f _ => rxPlace s n f pg sp a ∨ (formatOn s n f.xl f.fd = false ∧ txWord n (s.get (CAN.TX_ACT n)) 5 pg sp a)
  | .ecnFrameRx _ f buf _ => ringStore s f buf.toNat pg sp a
  | .ecnFrameTx _ _ => span pgECN 12 (s.get (ECN.Q_BASE (txRing s)) + 16 * s.get (ECN.Q_HEAD (txRing s)) + 8) 4 pg sp a
  | .mvbSlaveFrame addr data _ _ => ∃ k < 32, mvbOn s k = true ∧ mvbSource s k = false ∧ mvbAddr s k = addr.toNat ∧
    data.length = mvbSize s k ∧ span pgMVB 2 (32 * k) data.length pg sp a
  | .lglReplyRx bytes _ => replyPlace s bytes pg sp a
  | .dvrMessageRx (.ecn _ buf f) _ => ringStore s f buf.toNat pg sp a
  | .dvrMessageRx (.can n f _) _ =>
    rxPlace s n f pg sp a ∨ (formatOn s n f.xl f.fd = false ∧ txWord n (s.get (CAN.TX_ACT n)) 5 pg sp a)
  | .dvrMessageRx (.lgl bytes) _ => replyPlace s bytes pg sp a
  | .almDlySWrite _ => span pgDRIP 1 0x1C 4 pg sp a
  | .alarmConfigWrite w _ => span pgDRIP 1 (match w with | .hi => 0x10 | .lo => 0x14 | .mask => 0x18 | .en => 0x20) 4 pg sp a
  | .slatiParamCommit => ∃ e ∈ s.svc.params, span pgSAFM 1 e.1 1 pg sp a
  | .slatiTcfgCommit => (∃ e ∈ s.svc.tcfg, span pgDST 2 e.1 1 pg sp a) ∨ span pgDST 2 0x7C 4 pg sp a
  | _ => False

end Sys2Proof.Machine
end

