-- ==== Sys2Proof/Machine/Panel.lean ====
section
/-! DEFINITION. What the front panel and the test jacks show: LEDs LD1 to LD24 (R34, R35, R189) and test points TP1 to TP24
(R36, R370, R371). They follow the state; no command acts on them. -/

namespace Sys2Proof.Machine

/-- The colours of the LEDs. -/
inductive Colour where
  | green | yellow | red
  deriving DecidableEq, Repr

/-- What an LED shows: dark, lit, flashing at 2 Hz, 20 ms every 5 s, or `n` flashes and a dark pause of 2 s. -/
inductive Led where
  | dark
  | lit (c : Colour)
  | flashing (c : Colour)
  | parkedFlash
  | code (n : Nat)
  deriving DecidableEq, Repr

/-- Lit in a colour, or dark. -/
def lampOf (on : Bool) (c : Colour) : Led := if on then .lit c else .dark

/-- Whether Column runs. -/
def colRuns (s : State) : Bool := s.on COLM.COL_OK && !s.saf.colLost

/-- LD5 (R35): Column holds it off; without Column it is lit. -/
def ledRefuge (s : State) : Led :=
  if !colRuns s then .lit .red
  else if !s.inRefuge then .dark
  else if s.get SYS.RF_STEP = 1 then .lit .red else .code (s.get SYS.RF_STEP)

/-- LD3 (R34, R230): dark once Column has declared the safety processor lost. -/
def ledSafe (s : State) : Led :=
  if !s.on SAFM.SP_RUN || s.saf.spLost then .dark else if safState s = 1 then .lit .green else .flashing .green

/-- LD9 to LD16 by the doorway's state (R34, R189); RECOVER is its "doorway faulted". -/
def ledDoor (s : State) (n : Nat) : Led :=
  match dwState s n with
  | 0xF => .dark
  | 0x0 => .lit .green
  | 0xB => .flashing .red
  | 0x7 => .lit .red
  | 0xC => .lit .red
  | 0xE => .lit .red
  | _ => .flashing .green

/-- Whether the coax of a head is powered (R144, R146). -/
def headPowered (s : State) (h : Nat) : Bool := s.domOn 6 && s.hasHead h && link s h != lsOFF && link s h != lsTRIP

/-- LD17 to LD24 by the trust in the doorway's vision (R34): dark with both heads powered down, red where the link of a powered one
is down. -/
def ledVision (s : State) (n : Nat) : Led :=
  let down := fun h => headPowered s h && !s.on (LH.LINK_UP h)
  if !headPowered s (2 * n) && !headPowered s (2 * n + 1) then .dark
  else if down (2 * n) || down (2 * n + 1) then .lit .red
  else if bitAt s.saf.trust n && !bitAt s.saf.sqz n then .lit .green else .lit .yellow

/-- The colour in which the lamp test lights an LED. DESIGN CHOICE (log 101): R35 does not say which of their colours LD9 to LD24
show in it; the model takes green. -/
def lampColour (k : Nat) : Colour := if k = 5 || k = 8 then .red else if k = 6 || k = 7 then .yellow else .green

/-- Whether an LED is fitted: those of absent doorways are not (R9). -/
def ledFitted (s : State) (k : Nat) : Bool := k ≤ 8 || s.hasDw ((k - 9) % 8)

/-- LED LDk. DESIGN CHOICE (log 101): R34 does not say what LD1's "BATT_L in range" is; the model takes BATTL_OK, BATT_L at or above
14.0 V. -/
def led (s : State) (k : Nat) : Led :=
  if k = 0 || 24 < k || !s.domOn 1 || !ledFitted s k then .dark
  else if s.pwr.phase = .parked then (if k = 1 then .parkedFlash else .dark)
  else if s.pwr.lamp then .lit (lampColour k)
  else match k with
    | 1 => lampOf (s.on PWR.BATTL_OK) .green
    | 2 => lampOf (colRuns s) .green
    | 3 => ledSafe s
    | 4 => lampOf (s.on SYS.HOST_HB) .green
    | 5 => ledRefuge s
    | 6 => lampOf (s.on SAFM.ADCL_A_RB) .yellow
    | 7 => lampOf (s.on COLM.ADCL_B_RB) .yellow
    | 8 => lampOf (s.on SAFM.LATCH_SAF || s.on COLM.LATCH_COL) .red
    | k => if k ≤ 16 then ledDoor s (k - 9) else ledVision s (k - 17)

/-- A test point's output: a level in µV, a level within bounds, a square wave between 0 and 5 V with its frequency in mHz, one whose
level at this instant is known with it, or a steady 0 V or 5 V, the spec not saying which. -/
inductive TpOut where
  | level (uv : Int)
  | within (lo hi : Int)
  | square (mHz : Nat)
  | wave (mHz : Nat) (high : Bool)
  | stuck
  deriving DecidableEq, Repr

/-- An output clips at 0 V and 5 V. -/
def clip (uv : Int) : TpOut := .level (clampI 0 5000000 uv)

/-- A phase current of an axis in mA (R94): the table entry handed to its bridge at the amplitude in force. -/
def phaseCurrent (s : State) (a i : Nat) : Int :=
  let x := s.ax a
  let (u, v, w) := x.refs
  if !s.on (AX.TORQUE a) then 0 else (x.amp : Int) * (if i = 0 then u else if i = 1 then v else w) / 32767

/-- TP9 to TP24 by their selectors (R371). -/
def monOut (s : State) (k : Nat) : TpOut :=
  let v := tpSel s (k - 9)
  let i := v % 64
  match bitsOf v 12 4 with
  | 1 => clip (2500000 + 150 * phaseCurrent s i 0)
  | 2 => clip (2500000 + 150 * phaseCurrent s i 1)
  | 3 => clip (2500000 + 150 * phaseCurrent s i 2)
  | 4 => clip (1000000 + 1000 * s.getS (AX.FORCE_EST i))
  | 5 => clip ((if i < 32 then 500 else 200) * (s.chanMa i : Int))
  | 6 => .level (if (if i < 32 then s.bit FIO.FI_LO i else s.bit FIO.FI_HI (i - 32)) then 4000000 else 0)
  | 7 => .level (if bitAt (s.regVal COLM.ESTOP_1.addr) i then 4000000 else 0)
  | 8 => clip (100 * (s.get (if i = 0 then PWR.VD else if i = 1 then PWR.VGA else PWR.VGB) : Int))
  | _ => .level 0

/-- Test point TPk (R370); the rising edge of TP8 marks each second of the calendar (R351). -/
def testPoint (s : State) (k : Nat) : TpOut :=
  if k = 0 || 24 < k || !s.domOn 1 then .level 0
  else match k with
    | 1 => clip (100 * (s.get PWR.VL : Int))
    | 2 => .within 2450000 2550000
    | 3 => if s.on FIO.BARRIER_OK then .within 2850000 3150000 else .level 0
    | 4 => if s.on SAFM.ADCL_A_ON then .within 3000000 3600000 else .within 0 200000
    | 5 => if s.on COLM.ADCL_B_ON then .within 3000000 3600000 else .within 0 200000
    | 6 => if colRuns s then .square 1000000 else .stuck
    | 7 => if s.on SAFM.SP_RUN && !s.saf.spLost then .square 500000 else .stuck
    | 8 => if s.drip.stopped || s.bit CLK.CLK_FAIL 0 then .stuck else .wave 1000 (s.drip.cal % 1024 < 512)
    | k => monOut s k

end Sys2Proof.Machine
end

