-- ==== Sys2Proof/WellFormed.lean ====
section
/-! DEFINITION. Which commands are well formed: the bytes of a frame are bytes, identifiers fit their widths, one sample an
axis, one reading a port, voltages are not negative. Operands of a fixed range carry it in their types. -/

namespace Sys2Proof

/-- Numbers that are bytes. -/
def bytesOk (l : List Nat) : Bool := l.all (· < 256)

/-- The copies of one triplicate field: an aligned register, a bit of it, three words. -/
def copiesOk (x : Copies) : Bool :=
  x.addr % 4 == 0 && x.addr < 0x100000 && x.lo < 32 && x.a < 2 ^ 32 && x.b < 2 ^ 32 && x.c < 2 ^ 32

/-- A calibration table as read: words of the table, each of 32 bits. -/
def calOk (r : CalRead) : Bool :=
  match r with
  | .read l => l.all (fun e => e.1 < 0x400010 && e.2 < 2 ^ 32)
  | .failed => true
  | .cached => true

/-- A CAN frame: the widths of its identifier and control fields (R286). -/
def canOk (f : CanFrame) : Bool :=
  f.id < 2 ^ 29 && f.sdt < 256 && f.vcid < 256 && f.dlc < 2048 && f.af < 2 ^ 32 && bytesOk f.data && f.data.length ≤ 2048

/-- What a transceiver in standby sees, and a wake source. -/
def canWakeOk (w : CanWake) : Bool := match w with | .dominant => true | .frame _ f => canOk f
def wakeOk (w : WakeSrc) : Bool := match w with | .can _ how => canWakeOk how | _ => true

/-- An Ethernet frame: bytes, and a dataset of bytes under a 32-bit ComId. -/
def ecnOk (f : EcnFrame) : Bool :=
  bytesOk f.bytes && (match f.pd with | some (c, l) => c < 2 ^ 32 && bytesOk l | none => true)

/-- A Dvorud frame by its carrier. -/
def dvrOk (f : DvrFrame) : Bool :=
  match f with
  | .ecn _ _ f => ecnOk f
  | .can _ f _ => canOk f
  | .lgl l => bytesOk l

/-- Whether a command is well formed. -/
def Instr.wf (i : Instr) : Bool :=
  match i with
  | .registerWrite _ _ _ _ => true
  | .bitAliasWrite _ _ _ _ => true
  | .wideHighWrite _ _ _ => true
  | .wideLowWrite _ _ _ => true
  | .indAddrWrite _ _ _ => true
  | .indCtrlWrite _ _ _ => true
  | .indDataRead _ _ => true
  | .indDataWrite _ _ _ => true
  | .indPrefetchDone _ _ => true
  | .indPostedWriteDone _ _ => true
  | .voteScrub found => found.all copiesOk
  | .domainOn _ => true
  | .domainOff _ => true
  | .hostResClaim _ _ _ => true
  | .lampTestEnd => true
  | .battlInterrupt mv => 0 ≤ mv
  | .battlReturn mv => 0 ≤ mv
  | .pfWarn => true
  | .powerDownComplete => true
  | .powerOnStart mv => 0 ≤ mv
  | .supplyLevelChange _ mv => 0 ≤ mv
  | .battdOvOpen mv => 0 ≤ mv
  | .battdOvClose mv => 0 ≤ mv
  | .chopperOn _ => true
  | .chopperOff _ => true
  | .chopBudgetRestored => true
  | .busOvervoltage _ => true
  | .modeReqWrite _ _ => true
  | .activeGateReadbackDone _ => true
  | .actRdySet _ => true
  | .idleDelayExpiry => true
  | .wakeEvent w => wakeOk w
  | .parkStart => true
  | .parkLateWake w => wakeOk w
  | .parkComplete => true
  | .crawlP10Off => true
  | .clockFailure _ _ _ => true
  | .cellMeasure _ _ => true
  | .clockMeasureDone _ => true
  | .selfTestStepPass _ => true
  | .selfTestStepFail _ _ _ => true
  | .lpddr5WipeDone _ _ => true
  | .hostStart _ _ => true
  | .hostRdyWrite _ _ => true
  | .hostRdyTimeout => true
  | .refugeMonitorPowerOn => true
  | .galleryDeferredTest _ _ => true
  | .bootConfirmWrite _ _ => true
  | .refugeAnnounce _ => true
  | .lcWipesDone _ _ => true
  | .rstReqWrite _ _ => true
  | .hostWdKickWrite _ _ => true
  | .hostWdExpiry => true
  | .wdRestartDue => true
  | .traverseUpdate samples _ => samples.length == 16
  | .torqueRampEnd _ => true
  | .holdReductionStart _ => true
  | .axPush _ _ => true
  | .axStop _ _ => true
  | .axFlush _ _ => true
  | .axReverse _ _ => true
  | .prfCommit _ _ _ => true
  | .trvGoWrite _ _ => true
  | .torqueReqWrite _ _ _ => true
  | .axModeWrite _ _ _ => true
  | .axEnWrite _ _ _ => true
  | .torqueRemoval _ => true
  | .tblCrcUpdate _ => true
  | .cstepEdge _ _ _ => true
  | .encoderLost _ => true
  | .deviationDecision _ => true
  | .switchAccepted _ _ => true
  | .home _ _ => true
  | .hardStopFound _ => true
  | .learn _ _ => true
  | .learnAbort _ _ => true
  | .forceTrip _ => true
  | .reversalRequest _ => true
  | .sqzChange _ => true
  | .stepOut _ _ => true
  | .gapMmReceived _ _ _ _ => true
  | .gapStale _ => true
  | .headPresent _ _ _ => true
  | .headLinkReady _ => true
  | .linkReadyTimeout _ => true
  | .linkTrainDone _ _ => true
  | .identDone _ id _ => id.length == 256 && bytesOk id
  | .calibReadDone _ rd => calOk rd
  | .headLinkLoss _ _ => true
  | .portFaultWaitEnd _ => true
  | .retrain _ _ => true
  | .recal _ _ => true
  | .headPowerTrip _ => true
  | .headPowerRetry _ => true
  | .headBudgetShed mw => mw.length == 16
  | .headShedRestore _ mw => mw.length == 16
  | .frameTrigger _ _ => true
  | .frameLineRx _ _ _ _ _ pixels => pixels.all (· < 2 ^ 24)
  | .frameStale _ => true
  | .frameProcessed _ _ _ => true
  | .glowwormDecision _ _ => true
  | .glowwormSilence _ => true
  | .poseWrite _ _ _ _ => true
  | .bgLearn _ _ => true
  | .bgAbort _ _ => true
  | .bgLearnDone _ => true
  | .lqAck _ _ => true
  | .recordAtSafety _ => true
  | .visionStale _ => true
  | .burstReqHoldEnd _ => true
  | .thinAdclHoldEnd _ => true
  | .cycReqWrite _ _ _ => true
  | .cycleTick => true
  | .supervisionTimeout _ => true
  | .dwellDoneSet _ => true
  | .pauseDoneSet _ => true
  | .recoverSettle _ => true
  | .sealSample _ _ _ _ => true
  | .sealPoleDisagree _ => true
  | .sealChange _ => true
  | .inputAccepted _ _ _ => true
  | .channelExchange => true
  | .inputDiscLatch _ => true
  | .pairDiscrepancyLatch _ _ => true
  | .twoHandButtonFault _ _ => true
  | .twoHandWindowExpiry _ => true
  | .heartbeatLost _ => true
  | .reversalWatchFail _ => true
  | .guidedContactFault _ => true
  | .edmCheckFail _ _ => true
  | .resetRelease _ _ _ => true
  | .resetStuck _ => true
  | .spPeriodicTestFail _ _ => true
  | .mirrorCheck => true
  | .testDueSet => true
  | .safeCopyRx _ bytes => bytesOk bytes
  | .pairTimeout _ => true
  | .permissiveLapse _ => true
  | .streamUnsync _ => true
  | .networkLost _ => true
  | .netRestrEnd => true
  | .doorStatusSend => true
  | .gcOnWrite _ _ _ => true
  | .followWrite _ _ _ => true
  | .directEdge _ _ => true
  | .ocTrip _ _ => true
  | .retryBackoffEnd _ => true
  | .retryNReset _ => true
  | .commandOffSettled _ => true
  | .inrushWindowEnd _ => true
  | .thermalLatch _ _ _ => true
  | .thermalLatchClear _ _ _ => true
  | .clampUnlock _ _ => true
  | .crawlClampUnlock _ => true
  | .shedStep _ _ _ => true
  | .shedRestoreStep _ _ _ => true
  | .gateCutBitClear _ => true
  | .crawlEnFilterAccept _ => true
  | .crawlMapWrite _ _ _ => true
  | .bankOvervoltage _ => true
  | .bankReverse _ => true
  | .bankGroundLoss _ => true
  | .bankReturn _ => true
  | .bankChannelRestore _ => true
  | .bankSwitchFault _ => true
  | .barrierLoss => true
  | .barrierReturn => true
  | .fiAccepted _ _ => true
  | .foOutWrite _ _ => true
  | .thrWrite _ _ => true
  | .foCurrentLimit _ => true
  | .foThermalShutdown _ => true
  | .foThermalRestart _ => true
  | .fioFaultClear => true
  | .canFrameRx _ f _ => canOk f
  | .canTxPush _ _ _ => true
  | .canTxCancel _ _ _ => true
  | .canTxRelease _ _ _ => true
  | .canRxAck _ _ _ => true
  | .canHpbRelease _ _ _ => true
  | .canTxStart _ _ => true
  | .canTxComplete _ _ _ => true
  | .canBusError _ _ _ _ => true
  | .canRecover _ _ => true
  | .canRecoveryDone _ => true
  | .lpReqWrite _ _ _ => true
  | .canSleepEnter _ => true
  | .canLocalWake _ w => canWakeOk w
  | .canEnWrite _ _ _ => true
  | .safeCanConfigure => true
  | .ecnFrameRx _ f _ _ => ecnOk f
  | .ecnTailWrite _ _ _ => true
  | .ecnFrameTx frame _ => bytesOk frame.bytes
  | .bypassRelayChange => true
  | .ecnLinkChange _ _ _ => true
  | .mvbMasterFrame _ _ _ => true
  | .mvbSlaveFrame _ data _ _ => bytesOk data && data.length % 2 == 0 && data.length ≤ 32
  | .mvbLineFault _ => true
  | .mvbPortStale _ => true
  | .mvbSinkWord0Read _ => true
  | .lglPoll => true
  | .lglReplyRx bytes _ => bytesOk bytes
  | .lglReplyTimeout => true
  | .lglSendBuffer _ _ => true
  | .lglSlaveReply bytes _ => bytesOk bytes
  | .dvrMessageRx f _ => dvrOk f
  | .announceSend => true
  | .announceRx _ _ payload => bytesOk payload
  | .consistRx pd => pd.comId < 2 ^ 32 && bytesOk pd.payload
  | .partnerLost _ => true
  | .carrierTimeout _ _ => true
  | .tcmsLost => true
  | .slotHoldExpiry _ => true
  | .expectedMissing _ => true
  | .doorInfoSend => true
  | .recordSeal _ _ => true
  | .archivePageCopy _ _ => true
  | .traceSample _ => true
  | .clipComplete _ => true
  | .snapshotTimer => true
  | .snap _ => true
  | .hev _ => true
  | .find _ => true
  | .findDone => true
  | .rdClassWrite _ _ => true
  | .expStart _ => true
  | .expAbort _ => true
  | .expAckWrite _ _ => true
  | .flowRecovery _ _ _ => true
  | .nandPowerOff => true
  | .nandOnlyFlush _ => true
  | .recorderSend => true
  | .tcUpdate _ => true
  | .tickCheckpoint => true
  | .backupLoss => true
  | .setCmdWrite _ => true
  | .calendarSetApply => true
  | .almDlySWrite _ => true
  | .alarmConfigWrite _ _ => true
  | .calAlarmFire => true
  | .dlyAlarmFire => true
  | .slatiLineError => true
  | .slatiHello => true
  | .slatiVer _ => true
  | .slatiBaud _ => true
  | .baudRevert => true
  | .slatiBreak _ => true
  | .slatiLogin _ => true
  | .slatiResp _ => true
  | .nonceExpiry => true
  | .lockoutEnd => true
  | .slatiLogout => true
  | .sessionTimeout => true
  | .slatiId => true
  | .slatiStatus => true
  | .slatiCairn => true
  | .slatiRd _ _ _ => true
  | .slatiRdi _ _ _ _ => true
  | .slatiWr _ _ _ => true
  | .slatiWri _ _ _ _ => true
  | .slatiClock _ _ _ _ _ _ => true
  | .slatiRestart => true
  | .slatiHold => true
  | .slatiExport => true
  | .slatiAck _ _ => true
  | .slatiExpabort => true
  | .slatiMon _ _ _ => true
  | .slatiTest _ => true
  | .testComplete _ _ _ _ => true
  | .slatiStop => true
  | .slatiParamRd => true
  | .slatiParamWr _ _ => true
  | .slatiParamCommit => true
  | .slatiTcfgRd => true
  | .slatiTcfgWr _ _ => true
  | .slatiTcfgCommit => true
  | .slatiLc _ => true
  | .tpSelWrite _ _ _ => true
  | .columnCheckFail _ _ => true
  | .encoderRestored _ => true

end Sys2Proof
end

