-- ==== Sys2Proof/Safety.lean ====
section
/-! DEFINITION. The terms in which claims are made: that a command completes, that the register file and the storage have
their canonical form, what the module's outputs are while they are safe. -/

namespace Sys2Proof.Machine

/-- The storage in its one form (R89): addresses strictly rising, no byte listed that an unlisted address reads as. -/
def Memory.wf (m : List Host.Cell) : Bool := mapSorted m && m.all (fun c => c.2 != memReset c.1)

/-- What every step keeps: each register field at most once, in the order of the page window; the storage in its one form; FQ0
within its depth (R336); the tick within its 48 bits (R352). -/
def Inv (s : State) : Prop :=
  mapSorted s.regs = true ∧ Memory.wf s.mem = true ∧ s.fq0.length ≤ fq0Depth ∧ s.tick < 2 ^ 48

/-- A command completes: it answers a next state, not a fault or a refusal. -/
def Completes (c : Instr) (s : State) : Prop := ∃ t, exec c s = .next t

/-- A command completes, in a state of which `P` holds. -/
def Gives (c : Instr) (s : State) (P : State → Prop) : Prop := ∃ t, exec c s = .next t ∧ P t

/-- The outputs that can move something or release traction are off: no torque enable, both ADCL coils and every field output
released (R64). -/
def outputsSafe (s : State) : Prop :=
  s.get COLM.TEN_MASK = 0 ∧ s.on SAFM.ADCL_A_ON = false ∧ s.on COLM.ADCL_B_ON = false ∧ s.get FIO.FO_OUT = 0

/-- The mirrors of the permits show what the channels form (R190, R191, R192, R210): the OPEN_PERMITs, the lock gate enables, the motion
permits and the torque permits are the values of their conditions, and Column enables torque only where its conditions let it. -/
structure PermitsShown (t : State) : Prop where
  opSaf : t.get SAFM.OP_SAF_M = doorMask (openPermit t .saf)
  opCol : t.get COLM.OP_COL_M = doorMask (openPermit t .col)
  gateSaf : t.get SAFM.LOCK_EN_SAF = doorMask (gateOf t .saf)
  gateCol : t.get COLM.LOCK_EN_COL = doorMask (gateOf t .col)
  mot : t.get SAFM.MOT_PERMIT = maskOf (motPermit t) 16
  tq : t.get SAFM.TQ_PERMIT = maskOf (tqPermit t) 16
  ten : ∀ a, t.bit COLM.TEN_MASK a = true → tenBase t a = true

/-- An ADCL coil is driven only where every doorway in service reads closed and locked, its channel has no latch, both channels work, the
life cycle evaluates ADCL, the module is not parking and no power-down is under way (R205, R212, R224). -/
structure CoilsShown (t : State) : Prop where
  coilA : t.on SAFM.ADCL_A_ON = true → adclVerdict t .saf = true ∧ t.get SAFM.LATCH_SAF = 0 ∧ allowB t = true ∧ chanUp t .col = true ∧
    t.on PWR.PF_WARN = false
  coilB : t.on COLM.ADCL_B_ON = true → adclVerdict t .col = true ∧ t.get COLM.LATCH_COL = 0 ∧ allowB t = true ∧ chanUp t .col = true ∧
    t.on PWR.PF_WARN = false

/-- Each output of the Gallery conducts exactly where its channel has an effective command, its bank serves it and nothing of its own keeps
it off (R255). -/
def GalleryShown (t : State) : Prop :=
  ∀ k < 48, t.hasCh k = true → t.on (GALC.OUT k) = (effCmd t k && bankFor t k && !chBlocked t k)

/-- The level of a supply as last measured, in mV. -/
def supplyMv (s : State) (sup : Supply) : Int :=
  match sup with | .battL => s.pwr.mvL | .battD => s.pwr.mvD | .battGA => s.pwr.mvGA | .battGB => s.pwr.mvGB

/-- The bits of the supplies follow the levels, from what they were in `s` (R39). -/
structure SupplyShown (s t : State) : Prop where
  lOk : t.on PWR.BATTL_OK = decide (14000 ≤ t.pwr.mvL)
  lLow : t.on PWR.BATTL_LOW = decide (t.pwr.mvL < 16800)
  dOk : t.on PWR.BATTD_OK = supplyOk (s.on PWR.BATTD_OK) t.pwr.mvD
  gaOk : t.on PWR.GA_OK = supplyOk (s.on PWR.GA_OK) t.pwr.mvGA
  gbOk : t.on PWR.GB_OK = supplyOk (s.on PWR.GB_OK) t.pwr.mvGB

/-- Everything that the channels and the Gallery form again agrees with the state. -/
structure Evaluated (t : State) : Prop where
  permits : PermitsShown t
  coils : CoilsShown t
  gallery : GalleryShown t

/-- The bits of RST_CAUSE that a start may set. -/
def startCauses : List Reg := [SYS.PWR_ON, SYS.WAKE, SYS.HOST_RST, SYS.SVC_RST, SYS.WD_EXP, SYS.LC_CHANGE]

/-- The registers a start writes beside those that outlive it: its causes, the wake word and the states of the backgrounds. -/
def startRegs : List Reg := startCauses ++ [SYS.BROWN, PWR.CAUSE, PWR.POWER_ON, PWR.PARK_LATE, LVOL.BG_VALID_MASK, LVOL.BG_STATE]

/-- The registers that a total loss of backup writes (R354). -/
def lossRegs : List Reg := [DRIP.CAL_VALID, DRIP.BK_LOST, DRIP.BK_LOSS_CNT]

/-- Everything over again from `s` (R58, R70, R72): the block is starting; every register is as at reset but for those that outlive a start
and those the start writes; storage is as at reset but for the spaces that outlive it; nothing is left of axes, doorways, heads, queues and
accesses. -/
structure StartedOver (s t : State) : Prop where
  phase : t.pwr.phase = .starting
  levels : t.pwr.mvL = s.pwr.mvL ∧ t.pwr.mvD = s.pwr.mvD ∧ t.pwr.mvGA = s.pwr.mvGA ∧ t.pwr.mvGB = s.pwr.mvGB
  kept : ∀ r ∈ keptRegs, (s.drip.stopped = true → r ∉ lossRegs) → t.get r = s.get r
  reset : ∀ r : Reg, (∀ q ∈ keptRegs ++ startRegs, q.key ≠ r.key) → t.get r = State.reset.get r
  store : s.drip.stopped = false → ∀ pg sp a : Nat, pg < 256 → sp < 16 → t.rd8 pg sp a = if keptSpace pg sp then s.rd8 pg sp a else State.reset.rd8 pg sp a
  gone : t.axes = [] ∧ t.doors = [] ∧ t.heads = [] ∧ t.fq0 = [] ∧ t.inds = [] ∧ t.deferred = [] ∧ t.stage = [] ∧ t.cans = [] ∧ t.ingest = []
  queue : t.pending = s.pending ∧ t.member = s.member

/-- A start from `s`: everything over again, and where CRAWL_EN is asserted the Crawl path feeds P10 and Crawl engages at once (R28, R47). -/
def Restarted (s t : State) : Prop :=
  ∃ u, StartedOver s u ∧ t = crawlFeed u ∧ (s.on CRAWL.CR_PIN = false → t = u)

end Sys2Proof.Machine
end

