-- ==== Sys2Proof/Claims.lean ====
section
/-! DEFINITION. The conditions and addresses that the statements name. -/

namespace Sys2Proof.Machine

/-- The address on the bus of the register at `off` of page `pg` (R75), and of the alias word of bit `i` of it (R85). -/
def regAddr (pg off : Nat) : Word := BitVec.ofNat 32 (0x40000000 + pg * 0x1000 + off)
def aliasAddr (pg off i : Nat) : Word := BitVec.ofNat 32 (0x48000000 + pg * 0x2000 + (off * 8 + i) * 4)

/-- Registers that are stored field by field and on which no block acts: PG_IRQ_EN and PG_LOCK of every page, and the registers of pages
SYS, PWR, CYC, FIO, MVB, ECHO and SVC but for those whose write is a happening of its own. -/
def plainRegister (pg off : Nat) : Bool :=
  storable pg off && (off = 0x014 || off = 0x028 || (decide (0x040 ≤ off) &&
    ((pg = pgSYS && off != 0x054 && off != 0x058) || (pg = pgPWR && off != 0x040) || pg = pgCYC || pg = pgFIO || pg = pgMVB || pg = pgECHO || pg = pgSVC)))

/-- Nothing but register fields, PG_ADJ_CNT of `pg` among them, and the record of fixed W1 fields differs. -/
def onlyRegs (s t : State) : Prop := (∀ p : Part, p ≠ .fixed → p.same s t) ∧ t.mem = s.mem ∧ t.member = s.member ∧ t.pending = s.pending

/-- 64-bit values whose low word does nothing but apply the value: all but the configurable limits of an axis. -/
def plainWide (pg off : Nat) : Bool :=
  pg < 256 && off < 0x1000 && off % 4 = 0 && wideHi pg off && !(0x10 ≤ pg && pg < 0x20 && off != 0x050)

/-- The pair of a page and reader is at rest: no prefetch and no posted write under way (IND_BUSY 0, R89). -/
def pairIdle (s : State) (pg : Nat) (src : Src) : Bool := !(s.pair pg src).fetch && (s.pair pg src).post.isNone

/-- Every pair but the one named is as it was (R90). -/
def otherPairs (s t : State) (pg : Nat) (src : Src) : Prop := ∀ k, k ≠ pairKey pg src → mapFind IndPair.init k t.inds = mapFind IndPair.init k s.inds

/-- The spaces that hold what is written to them and nothing else: the rings of the ECN page and the send buffers of the legacy link. -/
def plainSpace (pg sp : Nat) : Bool := (pg = pgECN && sp = 1) || (pg = pgLGL && sp = 2)

/-- A whole word written by `src` reaches a block that is off: the register keeps it for when the domain comes on (R77). -/
def waits (s : State) (src : Src) (pg off : Nat) : Bool :=
  busUp s && s.hasPage pg && s.hasInst (pg * 0x1000 + off) && !testPage s src pg && !s.hwLock pg && !s.pageOn pg &&
    !(src = .host && pg = pgCYC && testHolds s (cycOf off))

/-- The stored writes of a domain, in the order they came (R77). -/
def storedFor (s : State) (d : Nat) : List Stored := s.deferred.filter (fun w => domOf (pgOf w.addr) = d)

/-- Where the host claims: register, class of the resource (R92). -/
def resOff : ResReg → Nat
  | .dir => 0x054 | .cstep => 0x058 | .mon => 0x05C
def resClass : ResReg → Nat
  | .dir => 0 | .cstep => 1 | .mon => 2

/-- What a command of one of these families answers differs from the state before it at most in its row. -/
def framed (fs : List Family) : Prop :=
  ∀ (c : Instr) (ch : Changes) (s t : State), family c ∈ fs → changes c = some ch → exec c s = .next t → Unchanged ch s t

/-- What a command of one of these families works on is what its operands name: of each kind in its row of `only`, every instance that the row does
not name is the same before and after it. -/
def apart (fs : List Family) : Prop :=
  ∀ (c : Instr) (s t : State), family c ∈ fs → exec c s = .next t → ∀ e ∈ only c s, ∀ n : Nat, n ∉ e.2 → e.1.same s t n

/-- A counter has counted one event: it stops at its largest value (R80). -/
def tallied (s t : State) (r : Reg) : Prop := t.get r = min (s.get r + 1) (2 ^ r.w - 1)

/-- The module is in Refuge for a cause (R61, R64): outputs safe, P4, P6 and P9 off, not operable. -/
structure RefugeFor (t : State) (step code detail : Nat) : Prop where
  refuge : t.on SYS.REFUGE = true ∧ t.get PWR.MODE = 4 ∧ t.on SYS.OPERABLE = false
  cause  : t.get SYS.RF_STEP = step ∧ t.get SYS.RF_CODE = code ∧ t.get SYS.RF_DETAIL = detail
  safe   : outputsSafe t
  doms   : t.domOn 4 = false ∧ t.domOn 6 = false ∧ t.domOn 9 = false

/-- Whether a cause can bring Refuge: the module is not in it, does not power down (R41), and is on (R40). -/
def mayRefuge (s : State) : Bool := !s.inRefuge && s.pwr.phase != .off && s.pwr.phase != .powerDown

/-- Everything that can move or light is off (R41). -/
def allQuiet (t : State) : Prop :=
  t.get COLM.TEN_MASK = 0 ∧ t.on SAFM.ADCL_A_ON = false ∧ t.on COLM.ADCL_B_ON = false ∧ ∀ k < 48, t.hasCh k = true → t.on (GALC.OUT k) = false

/-- What stops when a clock fails: a clock of the safety channels brings Refuge. -/
def clockRefuge (d : Fin 14) : Bool := d.val = 1 || d.val = 2

/-- The Refuge monitor has its domains (R62, R64). -/
def monitorUp (t : State) : Prop := t.domOn 3 = true ∧ t.domOn 5 = true ∧ t.domOn 7 = true ∧ t.domOn 8 = true

/-- Whether the boot ROM accepts an image (R63): signed, and no older than the lowest accepted version. -/
def imageOk (s : State) (x : Image) : Bool := x.signed && decide (s.get BOOT.ROLLBACK_MIN ≤ x.version.toNat)

/-- The host started from a slot (R63): on trial until that slot is confirmed. -/
def startedFrom (s t : State) (slot : Nat) (fallback : Bool) : Prop :=
  t.pwr.hostUp = true ∧ t.get BOOT.RUN_SLOT = slot ∧ t.on BOOT.FALLBACK = fallback ∧ t.on BOOT.TRIAL = !bitAt s.pwr.confirmed slot

/-- A command of the service link is served (R50, R364, R365): the link is up, the module is not scrapped, the session has the role. -/
def served (s : State) (role : Nat) : Bool := slatiUp s && s.lc != lcSCRAP && decide (role ≤ s.get SVC.ROLE)

/-- The reply of the service link: its code and what it carried; the line is counted (R363, R369). -/
def replied (s t : State) (code : Nat) (words : List Nat) : Prop :=
  t.svc.reply = code ∧ t.svc.words = words ∧ tallied s t SVC.CMD_CNT

/-- What an alarm does at its firing (R358, R359): counted where the module stays up; missed with no supply; a parked module starts. -/
def alarmFired (s t : State) : Prop :=
  (s.pwr.phase ≠ .parked → tallied s t DRIP.ALM_CNT) ∧
  (s.pwr.feed = .backup → t.on DRIP.ALM_MISSED = true) ∧
  (s.pwr.feed ≠ .backup → s.pwr.phase = .parked → s.pwr.armed = true → wakeArmed s .drip = true → t.pwr.phase = .starting ∧ t.on SYS.WAKE = true ∧ t.get PWR.CAUSE = 0x80)

/-- An alarm word stored where it has its place: counted in PG_ADJ_CNT where a field was moved into its range (R86, R356). -/
def alarmStored (s t : State) (w : AlarmWord) (off v : Nat) : Prop :=
  t.rd32 pgDRIP 1 off = almWord w v ∧
  t.get (HDR.PG_ADJ_CNT pgDRIP) = (if almWord w v = almLive w v then s.get (HDR.PG_ADJ_CNT pgDRIP) else min (s.get (HDR.PG_ADJ_CNT pgDRIP) + 1) (2 ^ 32 - 1))

/-- The two words of the alarm time that a write of `v` leaves (R86, R356): each field in its range, as written where it was in it. -/
def alarmInRange (v : Nat) : Prop :=
  let a := almWord .hi v
  bitsOf a 24 8 = min 135 (bitsOf v 24 8) ∧ bitsOf a 20 4 = min 12 (max 1 (bitsOf v 20 4)) ∧ 1 ≤ bitsOf a 15 5 ∧
  bitsOf a 15 5 ≤ monthDays (2000 + bitsOf a 24 8) (bitsOf a 20 4) ∧
  (1 ≤ bitsOf v 15 5 → bitsOf v 15 5 ≤ monthDays (2000 + bitsOf a 24 8) (bitsOf a 20 4) → bitsOf a 15 5 = bitsOf v 15 5) ∧
  bitsOf a 10 5 = min 23 (bitsOf v 10 5) ∧ bitsOf a 4 6 = min 59 (bitsOf v 4 6) ∧ bitsOf a 0 4 = 0 ∧
  almWord .lo v = min 59 (v / 2 ^ 26) * 2 ^ 26

/-- The state in which the sets that wait have been applied (R357, R360). -/
def setsApplied (s : State) : State := s.drip.sets.foldl (fun s _ => setApply s) s

/-- Whether a pushed move is refused (R103, R115, R123, R128): coarse mode, a deviation fault, both switches made, no valid profile. -/
def pushRefused (s : State) (n prf : Nat) : Bool :=
  s.get (AX.MODE n) = 1 || axFaulted s n || s.on (AX.SW_BOTH n) || !s.bit (AX.PRF_VALID n) prf

/-- The staged entry of an axis, its target inside the limits in force (R103, R114). -/
def stagedTarget (s : State) (n : Nat) : Int := (axTarget s n (s.getS64 (AX.MQ_TGT_HI n) (AX.MQ_TGT_LO n))).2.1

/-- Whether REVERSE is discarded when it is written (the model's choice, log 13): coarse mode, no valid profile. -/
def reverseRefused (s : State) (n : Nat) : Bool := s.get (AX.MODE n) = 1 || !s.bit (AX.PRF_VALID n) (s.get (AX.REV_PRF n))

/-- A command of AX_CMD that finds another one waiting for the update joins it, with the entry staged now (R93). -/
def waitsBehind (s t : State) (n cmd : Nat) : Prop :=
  t = s.setAx n { s.ax n with reqs := (s.ax n).reqs ++ [.host cmd { axStaged s n with age := 1 }] }

/-- Whether torque may be requested on an axis (R113): both enables set, and the two profiles of its decelerations can be entered. -/
def torqueAllowed (s : State) (n : Nat) : Bool :=
  s.on (HDR.EN (pgAX n)) && s.on (HDR.EN pgTRV) && prfEnterable s n (s.get (AX.STOP_PRF n)) && prfEnterable s n (s.get (AX.REV_PRF n))

/-- The head entry of a queue released (R106). -/
def goGiven : List Entry → List Entry
  | [] => []
  | e :: l => { e with goWait := false } :: l

/-- No lock holds a field of a register that could be written (R87). -/
def unlocked (s : State) (src : Src) (pg off : Nat) : Bool :=
  (rowsAt (pg * 0x1000 + off)).all fun d => decide (d.acc = .ro) || !s.frozen src d

/-- Whether a command that needs a standing axis is refused (R127, R140). -/
def busyAxis (s : State) (n : Nat) : Bool :=
  !s.on (AX.TORQUE n) || !(s.ax n).atRest || !(s.ax n).queue.isEmpty || axFaulted s n || s.on (AX.SW_BOTH n)

/-- The identity block as it is read: 256 bytes (R148). -/
def idBlock (id : List Nat) : List Nat := (id ++ List.replicate 256 0).take 256

/-- A fault of a port (R146): the first one after RUN goes back to POWER at once, any other waits in FAULT. -/
def faulted (s t : State) (h : Nat) : Prop :=
  link t h = (if (s.head h).ran then lsPOWER else lsFAULT) ∧ (t.head h).ran = false

/-- What a read of the calibration that was no good leads to (R146, R156): the third one ends in REJECT. -/
def calibAgain (s t : State) (h : Nat) : Prop :=
  (t.head h).calHave = false ∧
  if 2 ≤ (s.head h).calTries then link t h = lsREJECT ∧ t.get (LH.REJ_CODE h) = 5
  else link t h = lsCALIB ∧ (t.head h).calTries = (s.head h).calTries + 1

/-- What the check frame of a head shows (R160): the codes of its resolved targets, none where the report is not of the stamped frame. -/
def glowFound (x : Head) : List Int :=
  ((match x.report with | some (f, l) => if x.stamp = some f then l else [] | none => []).filter glowResolved).map glowCodeOf

/-- Whether the check of a port is decided at once (R160, R161): in RUN only when the frame after the check frame has been triggered. -/
def glowDue (s : State) (h : Nat) : Bool :=
  link s h != lsRUN || (linksRun s && match (s.head h).stamp with | some f => decide (f + 1 < (s.head h).next) | none => false)

/-- The conditions of a background learning but for the poses (R167). -/
def bgReady (s : State) (n : Nat) : Bool :=
  s.hasDw n && (s.lc = lcSERVICE || s.lc = lcDEPOT) && lvl s .saf 13 && (s.ax n).atRest && s.on (AX.SW_OPEN n) &&
    s.on (LH.RUN (2 * n)) && s.on (LH.RUN (2 * n + 1)) && s.on (LH.GW_GOOD (2 * n)) && s.on (LH.GW_GOOD (2 * n + 1)) && s.on (HDR.EN pgLVOL)

/-- Both heads of a doorway have given their frames (R167). -/
def bgTaken (s : State) (n : Nat) : Bool :=
  [2 * n, 2 * n + 1].all fun h => match (s.head h).learn with | some (k, _) => decide (s.get LVOL.BG_LEARN_N ≤ k) | none => false

/-- Whether a doorway stands CLOSED, in service, with nothing forced and a request (or none) waiting (R188, R194). -/
def closedWith (s : State) (n : Nat) (req : Option Nat) : Bool :=
  supervising s && s.inSvc n && s.on (HDR.EN pgCYC) && decide (s.get (CYCD.STATE n) = stCLOSED) && !egrOp s .saf n && decide ((s.dw n).req = req)

/-- The counter of a channel for discrepancies and faulty buttons (R234, R235). -/
def discReg : Channel → Reg
  | .saf => SAFM.DISC_SAF_CNT | .col => COLM.DISC_COL_CNT

/-- A channel after RESET has been released (R227): no longer pressed, its reading inactive. -/
def letGo (s : State) (c : Channel) : State :=
  s.setChan c { s.chan c with
    pressed := false
    lv := putBit (s.chan c).lv 12 false }

/-- Both channels work on their inputs. -/
def bothRead (s : State) : Bool := chanReads s .saf && chanReads s .col

/-- No Refuge began (R40, R41). -/
def SamePhase (s t : State) : Prop := t.pwr = s.pwr ∧ t.inRefuge = s.inRefuge ∧ t.get SYS.REFUGE_CNT = s.get SYS.REFUGE_CNT

/-- The state in which a copy for a stream is judged: a pair that has stood open too long is closed (R247). -/
def judged (s : State) (typ : Nat) : State := closeStale s (typ - 1)

/-- A copy is valid (R242 to R244): every check passes. -/
def copyValid (s : State) (can : Bool) (b : List Nat) (typ : Nat) : Bool :=
  telegramsUp s && decide (firstChecks s b = (typ, none)) && (streamChecks (judged s typ) ((judged s typ).stream (typ - 1)) can b).isNone

/-- No value of a received telegram is in force that its bytes do not permit (R245, R248). -/
def onlyPermitted (t : State) (typ : Nat) (b : List Nat) : Prop :=
  (typ = 1 → (t.on DST.REL_L_TG = true → bitAt (telPay b 0) 0 = true) ∧ (t.on DST.REL_R_TG = true → bitAt (telPay b 0) 1 = true)) ∧
  (typ = 2 → t.on DST.ZS_TG = true → bitAt (telPay b 0) 0 = true) ∧
  (typ = 3 → ∀ i < 8, (t.bit DST.OPEN_EN_TG i = true → bitAt (telPay b 0) i = true) ∧
    (bitAt (telPay b 1) i = true → t.bit DST.INHIBIT_TG i = true) ∧ (bitAt (telPay b 2) i = true → t.bit DST.CLOSE_TG i = true))

/-- Every value of a received telegram is in force as its bytes say (R247). -/
def allInForce (t : State) (typ : Nat) (b : List Nat) : Prop :=
  (typ = 1 → t.on DST.REL_L_TG = bitAt (telPay b 0) 0 ∧ t.on DST.REL_R_TG = bitAt (telPay b 0) 1) ∧
  (typ = 2 → t.on DST.ZS_TG = bitAt (telPay b 0) 0) ∧
  (typ = 3 → ∀ i < 8, t.bit DST.OPEN_EN_TG i = bitAt (telPay b 0) i ∧ t.bit DST.INHIBIT_TG i = bitAt (telPay b 1) i ∧
    t.bit DST.CLOSE_TG i = bitAt (telPay b 2) i)

/-- Whether the Refuge monitor may answer on a network (R64, R239): the stored configuration passes its CRC, gives an own unit and an
identifier for that network. -/
def mayAnswer (s : State) (can : Bool) : Bool :=
  decide (crc32 (s.rdBytes pgDST 2 0 0x7C) = s.rd32 pgDST 2 0x7C) && s.rd16 pgDST 2 2 != 0 && s.rd32 pgDST 2 (if can then 0x40 else 0x3C) != 0

/-- An output conducts exactly where its channel has an effective command, its bank serves it and nothing keeps it off (R255). -/
def chShown (t : State) (c : Nat) : Prop := t.hasCh c = true → t.on (GALC.OUT c) = (effCmd t c && bankFor t c && !chBlocked t c)

/-- No channel of a bank conducts (R266). -/
def bankDark (t : State) (k : Bank) : Prop := ∀ c < 48, t.hasCh c = true → inBank k c = true → t.on (GALC.OUT c) = false

/-- Whether a channel acts on a DIRECT pin (R255, R256, R263). -/
def onPin (s : State) (c p : Nat) : Bool :=
  (byCrawl s c && mapPin s c = p) || (s.on (GALC.FOLLOW c) && s.get (GALC.FOLLOW_PIN c) = p)

/-- Whether a channel whose backoff has ended still has a command to retry for, and whether something else keeps it off then (R258). -/
def retryWaits (s : State) (c : Nat) : Bool := effCmd s c || byCrawl s c || s.on (GALC.FOLLOW c)
def retryKept (s : State) (c : Nat) : Bool :=
  s.on (GALC.TH_LATCH c) || s.on (GALC.CLAMP_LOCK c) || s.on (GALC.SHED c) || !bankFor s c

/-- The common fault is up (R276): its onset is counted. -/
def fioFaulted (s t : State) : Prop := t.on FIO.FIO_FAULT = true ∧ (s.on FIO.FIO_FAULT = false → tallied s t FIO.FAULT_ON_CNT)

/-- The bit of a field input (R280), the levels of its threshold (R273), and whether its filter has run since it last restarted (R274). -/
def fieldBit (s : State) (k : Nat) : Bool := s.bit (if k < 32 then FIO.FI_LO else FIO.FI_HI) (k % 32)
def fieldCode (s : State) (i : Nat) : Nat := bitsOf (s.get FIO.THR) (2 * (i / 8)) 2
def fieldLevels (s : State) (i : Nat) : Int × Int := thrLevels (fieldCode s i)
def filterRan (s : State) (i : Nat) : Bool :=
  decide (mapFind 0 (i / 8) s.fio.since * 1000000 + filtUs (bitsOf (s.get FIO.FILT) (4 * (i / 8)) 4) * 32768 ≤ s.tick * 1000000)

/-- Whether a frame on the bus is taken as correct, and carries no safe telegram (R241, R284). -/
def frameTaken (s : State) (n : Nat) (f : CanFrame) : Bool :=
  canOn s n && s.get (CAN.ESTATE n) != 2 && s.get (CAN.MODE n) != 2 && formatOn s n f.xl f.fd && !s.on (CAN.SAFE_CH n)

/-- Whether a PUSH of an entry by the host is taken (R286, R291, R296): the entry is free, its length, format and data area legal, and it is his. -/
def pushTaken (s : State) (n i : Nat) : Bool :=
  let w0 := ramRd s n (i * 0x20)
  let w1 := ramRd s n (i * 0x20 + 4)
  let len := bitsOf w1 16 12
  let a := w1 % 0x10000
  txFree s n i && lenOk (bitAt w0 31) (bitAt w0 30) len && formatOn s n (bitAt w0 31) (bitAt w0 30) && !reserved s n i &&
    (len = 0 || (a % 64 = 0 && 0x1800 ≤ a && a + 64 * dataBlks len ≤ 0x1800 + s.get (CAN.TX_AREA_BLK n) * 64))

/-- Whether an arbitration of an entry runs (R292). -/
def arbitrating (s : State) (n : Nat) : Bool :=
  canOn s n && s.get (CAN.ESTATE n) != 2 && s.get (CAN.MODE n) != 1 && s.on (CAN.TX_ACT_V n) && !(s.can n).sending

/-- The result of a TX entry (R286). -/
def txResult (s : State) (n i : Nat) : Nat := ramRd s n (i * 0x20 + 0x14) % 16

/-- What an error of a transmitter adds to TEC (R294). -/
def errStep (s : State) (n : Nat) (k : CanError) (big : Bool) : Nat := if errSpared s n k big then 0 else 8

/-- Whether a frame waits in the ring of a number (R305). -/
def txReady (s : State) (k : Nat) : Bool := s.get (ECN.Q_HEAD k) != s.get (ECN.Q_TAIL k)

/-- A frame that reaches the switch and is addressed to this module alone (R302). -/
def ownFrame (s : State) (port : Fin 2) (f : EcnFrame) : Bool :=
  ecnUp s && s.on (linkReg port) && f.fcsOk && sizeOk f && f.pd = none && !grouped f && decide (macOf f = ownMac s)

/-- Which OK bit a line of MVB has (R307). -/
def lineReg (line : Nat) : Reg := if line = 0 then MVB.LINE_A_OK else MVB.LINE_B_OK

/-- Whether a sink port takes a slave frame (R308). -/
def sinkTakes (s : State) (k : Nat) (addr : BitVec 12) (data : List Nat) : Bool :=
  mvbOn s k && !mvbSource s k && decide (mvbAddr s k = addr.toNat) && decide (data.length = mvbSize s k)

/-- A reply of the legacy link that answers a poll (R310). -/
def answersPoll (bytes : List Nat) : Bool :=
  lglGood bytes true && bytes.getD 1 0 = 0x81 && (bytes.getD 2 0 = 0 || decide (5 ≤ bytes.getD 2 0))

/-- What becomes of the frame of a Dvorud message (R313): as of any other frame of its network, it goes to the host's queues. -/
def queuedFrame (s : State) : DvrFrame → State
  | .ecn port buf f => (ecnReceive s port f buf.toNat false).1
  | .can n f us => (canReceive s n f us).1
  | .lgl bytes => if lglMaster s then lglReply s bytes true else s

/-- Whether that frame is received as correct, and so examined (R313). -/
def queuedOk (s : State) : DvrFrame → Bool
  | .ecn port buf f => (ecnReceive s port f buf.toNat false).2
  | .can n f us => (canReceive s n f us).2
  | .lgl _ => false

/-- Whether an announcement goes out on a carrier (R316), and a message of the module's engines (R314). -/
def announces (s : State) (c : Nat) : Bool := (c = 0 || s.bit ECHO.ANN_CAN (c - 1)) && canSend s c
def informs (s : State) (c : Nat) : Bool := s.bit DVR.INFO_EN c && canSend s c

/-- Whether Echo hears a carrier at all (R317). -/
def echoHears (s : State) (c : Nat) : Bool := s.pageOn pgECHO && !s.inRefuge && carrierUp s c

/-- An announcing unit, not this one, that no slot holds or expects (R315, R320). -/
def newcomer (s : State) (h : Heard) (unit : Nat) : Bool := !ownHeard s h && (findUnit s h.serial h.short).isNone && (findExpected s (unit % 0x10000)).isNone

/-- Whether the train's list leaves a unit out (R320). -/
def unlisted (s : State) (u : Nat) : Bool := s.on ECHO.CONSIST_VALID && !s.echo.listed.contains u

/-- A Paloft unit has a slot that is not free (R320). -/
def hasSlot (t : State) (u : Nat) : Prop := ∃ k, k ≠ 0 ∧ k < 256 ∧ (t.slot k).typ = 1 ∧ (t.slot k).st ≠ esFREE ∧ (t.slot k).unit = u

/-- A hold of evidence keeps what writing `n` positions of an area would take away (R348). -/
def holdStops (s : State) (ar n : Nat) : Bool := (s.flow.recs.filter (ousts ar (wpOf s ar) n)).any (heldRec s)

/-- Records go to the MRAM rings as usual, and a write of one passes its read-back (R335, R344). -/
def sealsWell (s : State) (bad : Option Nat) : Bool := flowUp s && !s.on FLOW.CTR_ONLY && mramOk s && bad.isNone

/-- A record of a type, length and body stands in an area at a position, under the next SEQ (R328, R329, R338). -/
def recorded (s t : State) (ar typ len pos : Nat) (body : List Nat) : Prop :=
  t.flow.seq = s.flow.seq + 1 ∧ tallied s t FLOW.REC_CNT ∧ wpOf t ar = (pos + 1) % areaCap ar ∧
  ∃ r ∈ t.flow.recs, r.area = ar ∧ r.seq = s.flow.seq + 1 ∧ r.pos = pos ∧ recType r.bytes = typ ∧ r.bytes.length = len ∧
    (r.bytes.drop 0x20).take body.length = body

/-- Whether a record for a NAND ring finds a place in staging (R335, R344). -/
def stageOpen (s : State) (ar : Nat) : Bool :=
  !s.on FLOW.CTR_ONLY && nandOk s ar && decide ((s.flow.staged.filter (fun r => r.1 = ar)).length < 8)

/-- A record of a type and length has been sealed and waits for its area (R328, R335). -/
def stagedNow (s t : State) (ar typ : Nat) (len : Nat → Prop) : Prop :=
  t.flow.seq = s.flow.seq + 1 ∧ tallied s t FLOW.REC_CNT ∧
  ∃ b, t.flow.staged = s.flow.staged ++ [(ar, s.flow.seq + 1, b)] ∧ recType b = typ ∧ len b.length

/-- A SNAPSHOT has been sealed (R334). -/
def snapped (s t : State) : Prop := t.flow.lastSnap = some s.tick ∧ stagedNow s t arSYSTEM 5 (· = 1024)

/-- A page goes to an area: Flowstone works, the module does not park (R340), the area is in use. -/
def programs (s : State) (ar : Nat) : Bool := flowUp s && decide (s.pwr.phase ≠ .parking) && nandOk s ar

/-- Records and slots that the scans of a start drop as incomplete (R341). -/
def tornCount (s : State) (torn : List (Fin 7)) : Nat :=
  ((([arEVENT, arCYCLE, arARCHIVE, arTRACE, arCLIP, arSYSTEM].filter (fun ar => torn.any (fun a => a.val = ar) && areaOk s ar)).map
    (fun ar => if ar ≤ 2 then 1 else (s.flow.recs.filter (fun r => r.area = ar && r.pos = putAt s ar 1)).length))).foldl (· + ·) 0

/-- A SNAPSHOT was written within 60 s (R334). -/
def snapRecent (s : State) : Bool := match s.flow.lastSnap with | some t => decide (s.tick < t + 60 * 32768) | none => false

/-- Whether the gathered page is due without being full (R344): 1 s has passed since its first record. -/
def flushDue (s : State) : Bool := decide (32768 ≤ (s.tick48 + 2 ^ 48 - recTick (s.flow.buf.headD (0, [])).2) % 2 ^ 48)

/-- An area has failed: not used again, nothing waits for it (R344). -/
def areaLost (s t : State) (ar : Nat) : Prop :=
  nandOk t ar = false ∧ t.on FLOW.NAND_FAIL = true ∧ tallied s t FLOW.NAND_ERR_CNT ∧ (∀ x ∈ t.flow.staged, x.1 ≠ ar) ∧ (ar = arARCHIVE → t.flow.buf = [])

/-- An export has begun (R347): its content fixed, chunk 0 presented. -/
def exportBegun (s t : State) (src : Src) : Prop :=
  t.on FLOW.EXP_RUN = true ∧ t.on FLOW.EXP_DONE = false ∧ t.get FLOW.EXP_CHUNK = 0 ∧
  ∃ e, t.flow.exp = some e ∧ e.src = src ∧ e.items = exportItems s ∧ e.chunk = 0 ∧ t.get FLOW.EXP_TOTAL = exportChunks e % 2 ^ 32

/-- An acknowledgement (R347): a wrong one repeats the chunk, a right one moves on, the last one completes and ends the hold (R348). -/
def exportMoved (s t : State) (e : Export) (k crc : Nat) : Prop :=
  if k ≠ e.chunk ∨ crc ≠ leNum (((chunkBytes s).drop 28).take 4) then tallied s t FLOW.EXP_RETRY_CNT ∧ t.flow.exp = s.flow.exp
  else if e.chunk + 1 = exportChunks e then
    t.on FLOW.EXP_RUN = false ∧ t.on FLOW.EXP_DONE = true ∧ t.flow.exp = none ∧ t.on FLOW.EVID_HOLD = false
  else t.get FLOW.EXP_CHUNK = (e.chunk + 1) % 2 ^ 32 ∧ ∃ f, t.flow.exp = some f ∧ f.chunk = e.chunk + 1 ∧ f.items = e.items ∧ f.src = e.src

/-- How a chunk goes to the service tool: as lines at version 1, behind BIN 4096 at version 2 (R364). -/
def chunkCode (s : State) : Nat := if s.get SVC.PROTO = 2 then 0x400 else 0

/-- What FIND answers (R343): the record, or why there is none: before the class, after it, overwritten or absent. -/
def findAnswer (s : State) (l : List Rec) : Nat :=
  if l.any (fun r => r.seq = s.flow.findSeq) then 1
  else match l with
    | [] => 4
    | r :: _ => if s.flow.findSeq < r.seq then 2 else if l.any (fun r => s.flow.findSeq < r.seq) then 4 else 3

/-- The end of a session (R363, R367, R372, R373): role, language, rate, staged writes, test, monitors and export go with it. -/
structure SessionOver (t : State) : Prop where
  line : t.on SVC.SESSION = false ∧ t.get SVC.ROLE = 0 ∧ t.get SVC.PROTO = 1 ∧ t.get SVC.BAUD_NOW = 0
  staged : t.svc.params = [] ∧ t.svc.tcfg = []
  tests : t.on TEST.TEST_RUN = false ∧ ∀ i < 16, t.owner 2 i ≠ 6
  exports : toolExport t = false

/-- A correct login (R366, R367): the role, and a session unless one is active. -/
def loggedIn (s t : State) (role : Nat) : Prop :=
  t.get SVC.ROLE = role % 16 ∧ t.on SVC.SESSION = true ∧ tallied s t SVC.LOGIN_OK_CNT ∧ t.svc.wrong = 0 ∧ t.svc.lockouts = 0 ∧
  (s.on SVC.SESSION = false → tallied s t SVC.SESSION_CNT ∧ t.svc.loginAt = s.tick)

/-- A wrong login (R366): counted; the third in a row locks the port out, 60 s at first, twice as long each time up to an hour. -/
def loginFailed (s t : State) : Prop :=
  tallied s t SVC.LOGIN_FAIL_CNT ∧ t.get SVC.ROLE = s.get SVC.ROLE ∧
  if s.svc.wrong < 2 then t.svc.wrong = s.svc.wrong + 1 ∧ t.on SVC.LOCKOUT = s.on SVC.LOCKOUT
  else t.on SVC.LOCKOUT = true ∧ t.svc.wrong = 0 ∧ t.svc.lockouts = s.svc.lockouts + 1 ∧
    t.svc.lockAt = s.tick + min 3600 (60 * 2 ^ (min (s.svc.lockouts + 1) 7 - 1)) * 32768

/-- The bytes staged by PARAM WR or TCFG WR as they reach storage (R368): the latest write of each byte. -/
def stagedByte (s : State) (pg sp : Nat) (l : List (Nat × Nat)) (a : Nat) : Nat :=
  match l.find? (fun e => e.1 = a) with
  | some e => e.2 % 256
  | none => s.rd8 pg sp a

/-- Whether a PARAM or TCFG command of the COMMISSION role is served (R368). -/
def commissions (s : State) : Bool := served s 2 && decide (s.lc = lcCOMMISSION)

end Sys2Proof.Machine
end

