-- ==== Sys2Proof/Certificates/Slice0/Obligations.lean ====
section
/-! DEFINITION. The statements for the provers. They come from the numbered rules of spec/. A clause of the form
`Gives c s P` says that command c, in state s, answers a next state of which P holds: each such clause is the completion and the
result of its command. The frames of the commands are the statements whose names begin with Frame. -/

open Sys2Proof Sys2Proof.Machine

/-! The block as a whole. -/

/-- With a command at the front of the queue, a step is that command on the state with the rest of the queue. -/
def Obligations.StepRunsTheFrontCommand : Prop :=
  ∀ (c : Instr) (rest : List Instr) (s : State), step { s with pending := c :: rest } = exec c { s with pending := rest }

/-- No command stops the block, touches the queue, or turns the part into another member. -/
def Obligations.EveryCommandCompletes : Prop :=
  ∀ (c : Instr) (s : State), Gives c s fun t => t.pending = s.pending ∧ t.member = s.member

/-- The state after reset has its canonical form. -/
def Obligations.ResetInvariant : Prop := Inv State.reset

/-- Every step keeps it: each register field listed at most once and in order, storage canonical, FQ0 within its depth (R336), the tick
within 48 bits (R352). -/
def Obligations.StepKeepsInvariant : Prop :=
  ∀ s t : State, Inv s → step s = .next t → Inv t

/-- What the host reads after reset of the registers whose reset value the spec states: PG_ID of AX13 and CAN2 as R76 gives them on a
PLF-8816, the interface version of every page that the member has, and the counters of each header (R78, R80). -/
def Obligations.ResetHeaders : Prop :=
  State.reset.readWord 0x1D000 = 0x41580D1D ∧ State.reset.readWord 0x52000 = 0x43410252 ∧
  ∀ pg < 256, State.reset.hasPage pg = true →
    State.reset.readWord (pg * 0x1000) = blkCode pg * 2 ^ 16 + instOf pg * 2 ^ 8 + pg ∧
    State.reset.readWord (pg * 0x1000 + 0x004) = 0x00010000 ∧
    ∀ off ∈ [0x014, 0x018, 0x01C, 0x020, 0x024, 0x028, 0x02C], State.reset.readWord (pg * 0x1000 + off) = 0

/-- The four members (R4): doorways, steps, heads, CAN controllers, and the Gallery channels present. -/
def Obligations.FamilyMembers : Prop :=
  ∀ s : State,
    (s.member = .plf1000 → partNumber s = 1000 ∧ s.nD = 1 ∧ s.nS = 0 ∧ s.nH = 0 ∧ s.nC = 1 ∧ (List.range 64).filter s.hasCh = List.range 6 ++ [32, 33]) ∧
    (s.member = .plf2204 → partNumber s = 2204 ∧ s.nD = 2 ∧ s.nS = 2 ∧ s.nH = 4 ∧ s.nC = 2 ∧
      (List.range 64).filter s.hasCh = List.range 12 ++ [32, 33, 34, 35]) ∧
    (s.member = .plf4408 → partNumber s = 4408 ∧ s.nD = 4 ∧ s.nS = 4 ∧ s.nH = 8 ∧ s.nC = 3 ∧
      (List.range 64).filter s.hasCh = List.range 16 ++ (List.range 8).map (32 + ·)) ∧
    (s.member = .plf8816 → partNumber s = 8816 ∧ s.nD = 8 ∧ s.nS = 8 ∧ s.nH = 16 ∧ s.nC = 4 ∧ (List.range 64).filter s.hasCh = List.range 48)

/-! Register accesses (R75 to R92). -/

/-- REGISTER_WRITE of a whole word (R86 to R88): each field that can take it holds the written value, moved to the nearest legal one; a
field that cannot take it keeps its value; every other field and everything that is no register stays. -/
def Obligations.RegisterWriteStores : Prop :=
  ∀ (src : Src) (pg off : Nat) (v : BitVec 64) (s : State), hears s src pg off = true → plainRegister pg off = true →
    Gives (.registerWrite src (regAddr pg off) .w4 v) s fun t =>
      (∀ d ∈ rowsAt (pg * 0x1000 + off),
        t.get d.reg = if d.acc = .ro || s.frozen src d || !pageTakes s pg off d.reg then s.get d.reg
          else limited (pageRules pg off) s d (bitsOf v.toNat d.reg.lo d.reg.w)) ∧
      (∀ r : Reg, (∀ d ∈ rowsAt (pg * 0x1000 + off), d.reg.key ≠ r.key) → r.key ≠ (HDR.PG_ADJ_CNT pg).key → t.get r = s.get r) ∧
      onlyRegs s t

/-- What is discarded counts once and changes nothing else (R6, R75, R88). The page of an absent instance reads as zero, raises no interrupt,
and a write to it counts on page SYS; the fields of an absent instance in a page of several read as zero and count on that page. A write
between the windows counts on page SYS, a 64-bit one as its two halves, one to a register without a writable field on its own page; one to no
address of the interface, or while the interface is off or without its clock, counts nowhere. -/
def Obligations.DiscardedWriteCounts : Prop :=
  (∀ (src : Src) (a : Word) (wd : Width) (v : BitVec 64) (s : State), busUp s = true → 0x40000000 ≤ a.toNat → a.toNat < 0x40100000 →
    s.hasPage ((a.toNat - 0x40000000) / 0x1000) = false → Gives (.registerWrite src a wd v) s fun t =>
      t = if (wd = .w8 ∧ a.toNat % 8 = 0) then (s.count (HDR.PG_ADJ_CNT pgSYS)).count (HDR.PG_ADJ_CNT pgSYS) else s.count (HDR.PG_ADJ_CNT pgSYS)) ∧
  (∀ (src : Src) (a : Word) (wd : Width) (v : BitVec 64) (s : State), busUp s = true → 0x40100000 ≤ a.toNat → a.toNat < 0x50000000 →
    ¬ (0x48000000 ≤ a.toNat ∧ a.toNat < 0x48200000) → Gives (.registerWrite src a wd v) s fun t =>
      t = if (wd = .w8 ∧ a.toNat % 8 = 0) then (s.count (HDR.PG_ADJ_CNT pgSYS)).count (HDR.PG_ADJ_CNT pgSYS) else s.count (HDR.PG_ADJ_CNT pgSYS)) ∧
  (∀ (src : Src) (pg off : Nat) (v : BitVec 64) (s : State), hears s src pg off = true → pg < 256 → off ∈ [0x000, 0x004, 0x010, 0x01C, 0x020, 0x024, 0x02C] →
    Gives (.registerWrite src (regAddr pg off) .w4 v) s fun t => t = s.count (HDR.PG_ADJ_CNT pg)) ∧
  (∀ (src : Src) (a : Word) (wd : Width) (v : BitVec 64) (s : State), a.toNat < 0x40000000 ∨ 0x50000000 ≤ a.toNat ∨ busUp s = false →
    Gives (.registerWrite src a wd v) s fun t => t = s) ∧
  (∀ (src : Src) (pg off : Nat) (v : BitVec 64) (s : State), busUp s = true → pg < 256 → off < 0x1000 → off % 4 = 0 → s.hasPage pg = true →
    s.hasInst (pg * 0x1000 + off) = false → rowsAt (pg * 0x1000 + off) ≠ [] → testHolds s (cycOf off) = false →
    Gives (.registerWrite src (regAddr pg off) .w4 v) s fun t => t = s.count (HDR.PG_ADJ_CNT pg)) ∧
  (∀ (pg : Nat) (s : State), s.hasPage pg = false → (∀ off < 0x1000, s.readWord (pg * 0x1000 + off) = 0) ∧ s.irqLine pg = false) ∧
  (∀ (addr : Nat) (s : State), s.hasInst addr = false → s.readWord addr = 0)

/-- BIT_ALIAS_WRITE (R85): the addressed bit takes bit 0 of the data, and every other field keeps its value; an alias word of an absent
page counts on page SYS. -/
def Obligations.BitAliasWriteSetsOneBit : Prop :=
  (∀ (src : Src) (pg off : Nat) (v : Word) (d : Desc) (s : State), hears s src pg off = true → plainRegister pg off = true → off < 0x100 →
    d ∈ rowsAt (pg * 0x1000 + off) → d.acc = .rw → d.clamp = .any → d.reg.w = 1 → (rowsAt (pg * 0x1000 + off)).any (·.whole) = false →
    s.frozen src d = false → pageTakes s pg off d.reg = true → off ≠ 0x014 → pg ≠ pgCYC → pg ≠ pgFIO →
    Gives (.bitAliasWrite src (aliasAddr pg off d.reg.lo) .w4 v) s fun t =>
      t.get d.reg = v.toNat % 2 ∧ (∀ r : Reg, d.reg.key ≠ r.key → r.key ≠ (HDR.PG_ADJ_CNT pg).key → t.get r = s.get r) ∧ onlyRegs s t) ∧
  (∀ (src : Src) (pg off i : Nat) (v : Word) (s : State), busUp s = true → pg < 256 → off < 0x100 → off % 4 = 0 → i < 32 → s.hasPage pg = false →
    Gives (.bitAliasWrite src (aliasAddr pg off i) .w4 v) s fun t => t = s.count (HDR.PG_ADJ_CNT pgSYS))

/-- WIDE_HIGH_WRITE and WIDE_LOW_WRITE (R83): the high word is staged and changes nothing, a second one replaces it; the low word applies
both halves in one step, the one in force where none is staged, and ends the stage. -/
def Obligations.WideWriteStagesThenApplies : Prop :=
  (∀ (src : Src) (pg off : Nat) (v : Word) (d : Desc) (s : State), hears s src pg off = true → plainWide pg off = true →
    rowsAt (pg * 0x1000 + off) = [d] → s.frozen src d = false → pageTakes s pg off d.reg = true →
    Gives (.wideHighWrite src (regAddr pg off) v) s fun t =>
      t.staged d.reg.addr = some v.toNat ∧ (∀ a, a ≠ d.reg.addr → t.staged a = s.staged a) ∧ (∀ r : Reg, t.get r = s.get r) ∧
      (∀ p : Part, p ≠ .stage → p.same s t) ∧ t.mem = s.mem) ∧
  (∀ (src : Src) (pg off : Nat) (v : Word) (hi lo : Desc) (s : State), hears s src pg (off + 4) = true → plainWide pg off = true →
    rowsAt (pg * 0x1000 + off) = [hi] → rowsAt (pg * 0x1000 + off + 4) = [lo] → s.frozen src lo = false → pageTakes s pg (off + 4) lo.reg = true →
    Gives (.wideLowWrite src (regAddr pg (off + 4)) v) s fun t =>
      t.get hi.reg = (s.staged hi.reg.addr).getD (s.get hi.reg) % 2 ^ hi.reg.w ∧ t.get lo.reg = v.toNat % 2 ^ lo.reg.w ∧ t.staged hi.reg.addr = none ∧
      ∀ a, a ≠ hi.reg.addr → t.staged a = s.staged a)

/-- The indirect pair (R89). IND_ADDR_WRITE, IND_CTRL_WRITE, IND_DATA_WRITE and IND_DATA_READ on a pair at rest: the address is word-aligned and
clamped one word past the end of the space; an undefined code of SPACE becomes 0x0; either starts a prefetch. Inside a reachable space a data
write is posted to the present address, a read returns the prefetched word, and the address advances by 4 to at most one word past the end,
unless INC_DIS is 1; an advance starts a prefetch. The pairs of other pages and of the other reader stay (R90). IND_POSTED_WRITE_DONE and
IND_PREFETCH_DONE: the posted word stands in storage at its address, and no other byte has changed; a prefetch brings the word that storage
holds at the address, or 0 past the end and while the space is off. -/
def Obligations.IndirectPair : Prop :=
  (∀ (src : Src) (pg : Fin 256) (v : Word) (s : State), hears s src pg 0x030 = true → indPage pg = true → pairIdle s pg src = true →
    Gives (.indAddrWrite src pg v) s fun t =>
      t.pair pg src = { s.pair pg src with
        addr := min (v.toNat / 4 * 4) (spaceLen s pg (s.pair pg src).space)
        fetch := true } ∧
      otherPairs s t pg src) ∧
  (∀ (src : Src) (pg : Fin 256) (v : Word) (s : State), hears s src pg 0x038 = true → indPage pg = true → pairIdle s pg src = true →
    Gives (.indCtrlWrite src pg v) s fun t =>
      (t.pair pg src).space = (if spaceLen s pg (v.toNat % 16) = 0 then 0 else v.toNat % 16) ∧ (t.pair pg src).incDis = bitAt v.toNat 8 ∧
      (t.pair pg src).addr = min (s.pair pg src).addr (spaceLen s pg (if spaceLen s pg (v.toNat % 16) = 0 then 0 else v.toNat % 16)) ∧
      (t.pair pg src).fetch = true ∧ otherPairs s t pg src) ∧
  (∀ (src : Src) (pg : Fin 256) (v : Word) (s : State), hears s src pg 0x034 = true → indPage pg = true → pairIdle s pg src = true →
    indOff s pg (s.pair pg src) = false → indEnd s pg (s.pair pg src) = false → spaceRw pg (s.pair pg src).space = true →
    Gives (.indDataWrite src pg v) s fun t =>
      (t.pair pg src).post = some ((s.pair pg src).space, (s.pair pg src).addr, v.toNat) ∧
      (t.pair pg src).addr = (if (s.pair pg src).incDis then (s.pair pg src).addr
        else min ((s.pair pg src).addr + 4) (spaceLen s pg (s.pair pg src).space)) ∧
      (t.pair pg src).fetch = !(s.pair pg src).incDis ∧ otherPairs s t pg src ∧ t.mem = s.mem) ∧
  (∀ (src : Src) (pg : Fin 256) (s : State), busUp s = true → s.hasPage pg = true → indPage pg = true → pairIdle s pg src = true →
    indOff s pg (s.pair pg src) = false → indEnd s pg (s.pair pg src) = false →
    Gives (.indDataRead src pg) s fun t =>
      t.rdata = BitVec.ofNat 32 (s.pair pg src).word ∧
      (t.pair pg src).addr = (if (s.pair pg src).incDis then (s.pair pg src).addr
        else min ((s.pair pg src).addr + 4) (spaceLen s pg (s.pair pg src).space)) ∧
      (t.pair pg src).fetch = !(s.pair pg src).incDis ∧ otherPairs s t pg src ∧ t.mem = s.mem) ∧
  (∀ (src : Src) (pg : Fin 256) (s : State), busUp s = true → s.hasPage pg = true → indPage pg = true → pairIdle s pg src = true →
    (indOff s pg (s.pair pg src) = true ∨ indEnd s pg (s.pair pg src) = true) →
    Gives (.indDataRead src pg) s fun t => t.rdata = 0) ∧
  (∀ (src : Src) (pg : Fin 256) (sp a v : Nat) (s : State), (s.pair pg src).post = some (sp, a, v) → plainSpace pg sp = true →
    s.domOn (spaceDom pg sp) = true → v < 2 ^ 32 → a + 4 ≤ 0x200 →
    Gives (.indPostedWriteDone src pg) s fun t =>
      t.rd32 pg sp a = v ∧ (t.pair pg src).post = none ∧ otherPairs s t pg src ∧ (∀ r : Reg, t.get r = s.get r) ∧
      (∀ q k b, q < 256 → k < 16 → b < 2 ^ 32 → ¬ (q = pg.val ∧ k = sp ∧ a ≤ b ∧ b < a + 4) → t.rd8 q k b = s.rd8 q k b)) ∧
  (∀ (src : Src) (pg : Fin 256) (s : State), (s.pair pg src).fetch = true → (s.pair pg src).post = none → pg.val ≠ pgMVB →
    Gives (.indPrefetchDone src pg) s fun t =>
      t.pair pg src = { s.pair pg src with
        fetch := false
        word := if indOff s pg (s.pair pg src) || indEnd s pg (s.pair pg src) then 0
          else indWord s src pg (s.pair pg src).space (s.pair pg src).addr } ∧
      otherPairs s t pg src ∧ t.mem = s.mem ∧ ∀ r : Reg, t.get r = s.get r)

/-- VOTE_SCRUB of one field (R84): the field holds the bitwise majority of the copies the scrubber found, and each copy that differed from it is
counted once in PG_VOTE_CNT of the page. The value is claimed for fields that no block forms again. -/
def Obligations.ScrubRepairsByMajority : Prop :=
  ∀ (x : Copies) (d : Desc) (s : State), d ∈ rowsAt x.addr → (∀ e ∈ rowsAt x.addr, e.reg.lo = x.lo → e = d) → d.reg.lo = x.lo → tripled d = true →
    s.hasPage (pgOf x.addr) = true → s.hasInst x.addr = true → busUp s = true → x.addr < 0x80000 → ¬ named evalFields d.reg →
    x.a < 2 ^ d.reg.w → x.b < 2 ^ d.reg.w → x.c < 2 ^ d.reg.w → ¬ (x.a = x.b ∧ x.b = x.c) →
    Gives (.voteScrub [x]) s fun t =>
      (∀ i < d.reg.w, t.bit d.reg i = ((bitAt x.a i && bitAt x.b i) || (bitAt x.a i && bitAt x.c i) || (bitAt x.b i && bitAt x.c i))) ∧
      (x.a = x.b ∨ x.a = x.c ∨ x.b = x.c →
        t.get (HDR.PG_VOTE_CNT (pgOf x.addr)) = min (s.get (HDR.PG_VOTE_CNT (pgOf x.addr)) + 1) (2 ^ 32 - 1))

/-- Domains (R46, R77): a write to a block that is off is stored and waits for the domain. DOMAIN_ON of a domain that has come on: its stored
writes are taken, in order, and everything is evaluated again; each register keeps what the last of them to it stored, and none of them acts
in Refuge (R87). P11 comes on for Flowstone with the interface's domain. DOMAIN_OFF: a domain that has no use goes off, alone. The two change
nothing where the domain is not in that case. -/
def Obligations.DomainsSwitch : Prop :=
  (∀ (src : Src) (pg off : Nat) (v : BitVec 64) (s : State), waits s src pg off = true → plainRegister pg off = true →
    Gives (.registerWrite src (regAddr pg off) .w4 v) s fun t =>
      (∀ d ∈ rowsAt (pg * 0x1000 + off), (d.acc = .rw ∨ d.acc = .rwv) → s.frozen src d = false → pageTakes s pg off d.reg = true →
        t.get d.reg = limited (pageRules pg off) s d (bitsOf v.toNat d.reg.lo d.reg.w)) ∧
      ((∃ d ∈ rowsAt (pg * 0x1000 + off), t.get d.reg ≠ s.get d.reg) →
        t.deferred = s.deferred ++ [⟨pg * 0x1000 + off, s.regVal (pg * 0x1000 + off), t.regVal (pg * 0x1000 + off)⟩])) ∧
  (∀ (d : Fin 12) (s : State), d.val ≠ 11 → s.domOn d = true → bitAt s.pwr.fresh d = true →
    Gives (.domainOn d) s fun t => t.deferred = s.deferred.filter (fun w => domOf (pgOf w.addr) != d.val) ∧ bitAt t.pwr.fresh d = false ∧ Evaluated t ∧
      ((∀ w ∈ storedFor s d, plainRegister (pgOf w.addr) (offOf w.addr) = true) → s.inRefuge = false →
        ∀ (before after : List Stored) (w : Stored), storedFor s d = before ++ w :: after → (∀ x ∈ after, x.addr ≠ w.addr) →
          ∀ f ∈ rowsAt w.addr, f.acc ≠ .ro → ¬ named evalFields f.reg → t.get f.reg = bitsOf w.after f.reg.lo f.reg.w)) ∧
  (∀ (d : Fin 12) (s : State), d.val ≠ 11 → s.domOn d = false ∨ bitAt s.pwr.fresh d = false → Gives (.domainOn d) s fun t => t = s) ∧
  (∀ s : State, s.domOn 3 = true → s.domOn 11 = false → Gives (.domainOn 11) s fun t =>
    t.on FLOW.NAND_ON = true ∧ ∀ e, t.domOn e = (s.domOn e || e == 11)) ∧
  (∀ s : State, s.domOn 3 = false ∨ s.domOn 11 = true → Gives (.domainOn 11) s fun t => t = s) ∧
  (∀ (d : Fin 12) (s : State), d.val ≠ 11 → unused s d = true → s.domOn d = true →
    Gives (.domainOff d) s fun t => (∀ e, t.domOn e = (s.domOn e && e != d.val)) ∧ Evaluated t) ∧
  (∀ s : State, s.domOn 11 = true → s.on FLOW.NAND_HOLD = false → Gives (.domainOff 11) s fun t =>
    t.on FLOW.NAND_ON = false ∧ ∀ e, t.domOn e = (s.domOn e && e != 11)) ∧
  (∀ (d : Fin 12) (s : State), unused s d = false ∨ s.domOn d = false → Gives (.domainOff d) s fun t => t = s)

/-- HOST_RES_CLAIM (R91, R92): a claim of a free resource succeeds and is recorded, one of a resource that another function holds is clamped
off and leaves the owner, and a bit written 0 frees what the host owned. -/
def Obligations.HostClaims : Prop :=
  ∀ (src : Src) (k : ResReg) (v : Word) (s : State) (i : Nat), hears s src pgRES (resOff k) = true → i < (resReg (resClass k)).w →
    Gives (.hostResClaim src k v) s fun t =>
      (bitAt v.toNat i = true → s.bit (resReg (resClass k)) i = false → s.owner (resClass k) i = 0 → (k = .cstep → s.hasDw i = true) →
        t.owner (resClass k) i = 5 ∧ t.bit (resReg (resClass k)) i = true) ∧
      (bitAt v.toNat i = true → s.bit (resReg (resClass k)) i = false → s.owner (resClass k) i ≠ 0 → s.owner (resClass k) i ≠ 5 → s.owner (resClass k) i < 7 →
        t.owner (resClass k) i = s.owner (resClass k) i ∧ t.bit (resReg (resClass k)) i = false) ∧
      (bitAt v.toNat i = false → s.bit (resReg (resClass k)) i = true → s.owner (resClass k) i = 5 →
        t.owner (resClass k) i = 0 ∧ t.bit (resReg (resClass k)) i = false)

/-! Frames. The row `changes c` names what a command can change; nothing else differs. What the remaining commands change (register
writes, starts) their own statements say. -/

/-- The tick only counts (R352): with no command waiting a step is one Drip count (the model's choice, log 3), which counts in its 48 bits
unless the clock has stopped or failed, and no command sets or clears the tick while no total loss of backup is pending (R354). -/
def Obligations.TickOnlyCounts : Prop :=
  (∀ s : State, s.pending = [] → ∃ t, step s = .next t ∧ t.pending = [] ∧ t.member = s.member ∧
    t.tick = (if s.drip.stopped || s.bit CLK.CLK_FAIL 0 then s.tick else (s.tick + 1) % 2 ^ 48)) ∧
  (∀ (c : Instr) (s : State), s.drip.stopped = false → Gives c s fun t => t.tick = s.tick)

/-- The frames of the commands inside the module: register accesses, supplies, the start, the Drip domain, the traverse, the heads, the links, the
doorways, the safety channels and the telegrams. -/
def Obligations.FrameModule : Prop :=
  framed [.registers, .connectors, .power, .startUp, .drip, .traverse, .sensing, .links, .volumes, .doorCycle, .safety, .telegrams]

/-- The frames of the commands that meet the outside: the Gallery, the I/O, the networks, the recorder and the service. -/
def Obligations.FrameOutside : Prop := framed [.gallery, .fieldIo, .can, .networks, .recorder, .service]

/-- The instances of the commands inside the module: a command of axis n, of head port h or of doorway n leaves the registers and the parts of the
other axes, ports, heads and doorways, and the headers of pages it does not count on; an access to an indirect pair leaves the other pairs. -/
def Obligations.InstancesModule : Prop :=
  apart [.registers, .connectors, .power, .startUp, .drip, .traverse, .sensing, .links, .volumes, .doorCycle, .safety, .telegrams]

/-- The instances of the commands that meet the outside: a command of CAN controller n, of a Gallery channel, of a word of the Crawl map, of a ring
of the train network, of a registry slot or of a test point leaves the others, and the headers of pages it does not count on. -/
def Obligations.InstancesOutside : Prop := apart [.gallery, .fieldIo, .can, .networks, .recorder, .service]

/-- Stores stay in their place: a byte that does not lie where the command stores by the model's own addresses (the posted write of its pair, the
place of a line of a frame in the ring of its head, the message RAM of its CAN controller, the descriptor at HEAD of its ring, the port of its MVB
address, the buffer of the legacy unit asked, and so on for every command that stores) reads as before; a command that stores nothing leaves
every byte. -/
def Obligations.StoresStayInPlace : Prop :=
  ∀ (c : Instr) (ch : Changes) (s t : State), changes c = some ch → exec c s = .next t →
    ∀ pg sp a : Nat, pg < 256 → sp < 16 → ¬ stored c s pg sp a → t.rd8 pg sp a = s.rd8 pg sp a

/-! Supplies, hold-up, the chopper, modes, Parked (R28, R35, R39 to R57). -/

/-- Supplies at their levels (R39, R41): the OK and LOW bits follow with their hysteresis, the input switch of BATT_D opens above 200 V and
closes below 170 V, and an interruption of BATT_L within the hold-up leaves every domain as it is. The power-down (R41, R58, R73): PF_WARN
removes torque, switches the Gallery off and releases the coils, and the mark for the next start is set; at its end P2 to P11 are off and PF_CNT
has counted; BATT_L at 15.5 V starts the module again. -/
def Obligations.SuppliesFollowTheirLevels : Prop :=
  (∀ (sup : Supply) (mv : Int) (s : State), Gives (.supplyLevelChange sup mv) s fun t =>
    SupplyShown s t ∧ supplyMv t sup = mv ∧ GalleryShown t ∧ (fedByL s = true → t.get PWR.DOM_ON = s.get PWR.DOM_ON)) ∧
  (∀ (mv : Int) (s : State), 200000 < mv → Gives (.battdOvOpen mv) s fun t => t.on PWR.BATTD_OV = true ∧ supplyMv t .battD = mv ∧ SupplyShown s t) ∧
  (∀ (mv : Int) (s : State), mv < 170000 → Gives (.battdOvClose mv) s fun t => t.on PWR.BATTD_OV = false ∧ supplyMv t .battD = mv ∧ SupplyShown s t) ∧
  (∀ (mv : Int) (s : State), mv < 14000 → fedByL s = true → Gives (.battlInterrupt mv) s fun t =>
    t.pwr.holdUp = true ∧ t.get PWR.DOM_ON = s.get PWR.DOM_ON ∧ SupplyShown s t) ∧
  (∀ (mv : Int) (s : State), 14000 ≤ mv → fedByL s = true → Gives (.battlReturn mv) s fun t =>
    t.pwr.holdUp = false ∧ t.get PWR.DOM_ON = s.get PWR.DOM_ON ∧ SupplyShown s t) ∧
  (∀ s : State, s.pwr.holdUp = true → Gives .pfWarn s fun t =>
    t.on PWR.PF_WARN = true ∧ t.pwr.phase = .powerDown ∧ t.pwr.brown = true ∧ allQuiet t) ∧
  (∀ s : State, s.pwr.phase = .powerDown → Gives .powerDownComplete s fun t =>
    t.pwr.phase = .off ∧ (∀ d, 2 ≤ d → d < 12 → t.domOn d = false) ∧ t.on PWR.PF_WARN = false ∧ tallied s t PWR.PF_CNT) ∧
  (∀ (mv : Int) (s : State), s.pwr.phase = .off → 15500 ≤ mv → Gives (.powerOnStart mv) s fun t =>
    Restarted (supplyShow (supplySet s .battL mv)) t ∧ t.on PWR.POWER_ON = true ∧ t.on SYS.BROWN = s.pwr.brown ∧
    ∀ c ∈ startCauses, t.on c = (decide (c = SYS.PWR_ON) && !s.domOn 1))

/-- The brake chopper and the bus (R43, R44): V_ref is frozen while an axis regenerates and tends to BATT_D otherwise; the chopper conducts above
the level that V_ref gives, while its budget is not spent; its energy is summed over the rolling window and the budget is spent at 12 kJ and
restored below 11 kJ; above 190 V Column removes torque from every axis. -/
def Obligations.ChopperAndBus : Prop :=
  (∀ (bus : Nat) (s : State), Gives (.chopperOn bus) s fun t =>
    (s.on PWR.CHOP_SPENT = false → t.on PWR.CHOP_ON = (s.on PWR.CHOP_ON || decide (min (vrefNow s / 1000 * 110 / 100 + 5000) 172000 < bus))) ∧
    (s.on PWR.CHOP_SPENT = true → t.on PWR.CHOP_ON = s.on PWR.CHOP_ON)) ∧
  (∀ s : State, (s.pwr.regen = true → vrefNow s = s.pwr.vref) ∧
    (s.pwr.regen = false → s.pwr.vrefAt + 2 ^ 20 ≤ s.tick → vrefNow s = 1000 * (max 0 s.pwr.mvD).toNat)) ∧
  (∀ (joule : Nat) (s : State), s.on PWR.CHOP_ON = true → Gives (.chopperOff joule) s fun t =>
    t.on PWR.CHOP_ON = false ∧ t.get PWR.CHOP_E = min (chopSum s + joule) 12000 ∧
    t.on PWR.CHOP_SPENT = (decide (12000 ≤ chopSum s + joule) || (s.on PWR.CHOP_SPENT && decide (11000 ≤ chopSum s + joule)))) ∧
  (∀ s : State, chopSum s < 11000 → Gives .chopBudgetRestored s fun t => t.on PWR.CHOP_SPENT = false ∧ t.get PWR.CHOP_E = chopSum s) ∧
  (∀ (mv : Nat) (s : State), 190000 < mv → s.on PWR.BUS_OV = false → Gives (.busOvervoltage mv) s fun t =>
    t.on PWR.BUS_OV = true ∧ t.get COLM.TEN_MASK = 0 ∧ tallied s t PWR.BUS_OV_CNT) ∧
  (∀ (mv : Nat) (s : State), mv ≤ 190000 → Gives (.busOvervoltage mv) s fun t => t.on PWR.BUS_OV = false ∧ PermitsShown t)

/-- Measurements and clocks (R35, R50, R55, R57): the cell and the selected clock are read; a clock that fails sets its bit, is counted and stops its
block, or brings Refuge where it is Column's or the safety processor's, but in a power-down, which runs to its end (R41); one that is good again
clears its bit. -/
def Obligations.MeasurementsAndClocks : Prop :=
  (∀ s : State, Gives .lampTestEnd s fun t => t = { s with pwr := { s.pwr with lamp := false } }) ∧
  (∀ (vcell vcap : Nat) (s : State), Gives (.cellMeasure vcell vcap) s fun t =>
    t.get PWR.VCELL = min vcell 65535 ∧ t.get PWR.VCAP = min vcap 65535 ∧ t.on PWR.BK_CELL = decide (3000 < vcell) ∧
    t.on PWR.CELL_LOW = decide (0 < vcell ∧ vcell ≤ 3000)) ∧
  (∀ (hz : Nat) (s : State), Gives (.clockMeasureDone hz) s fun t =>
    t.get CLK.MEAS_HZ = if bitAt (s.fieldVal CLK.CLK_ON) (s.get CLK.MEAS_SEL) then min hz (2 ^ 32 - 1) else 0) ∧
  (∀ (d : Fin 14) (err : Fin 65536) (s : State), bitAt (s.fieldVal CLK.CLK_ON) d = true → s.bit CLK.CLK_FAIL d = false → clockRefuge d = false →
    Gives (.clockFailure d true err) s fun t => t.bit CLK.CLK_FAIL d = true ∧ tallied s t CLK.CLK_FAIL_CNT ∧ Evaluated t) ∧
  (∀ (err : Fin 65536) (s : State), bitAt (s.fieldVal CLK.CLK_ON) 1 = true → s.bit CLK.CLK_FAIL 1 = false → mayRefuge s = true →
    Gives (.clockFailure 1 true err) s fun t => RefugeFor t 1 0x12 err.val ∧ t.on COLM.COL_OK = false ∧ tallied s t CLK.CLK_FAIL_CNT) ∧
  (∀ (err : Fin 65536) (s : State), bitAt (s.fieldVal CLK.CLK_ON) 2 = true → s.bit CLK.CLK_FAIL 2 = false → mayRefuge s = true →
    Gives (.clockFailure 2 true err) s fun t => RefugeFor t 2 0x28 0 ∧ tallied s t CLK.CLK_FAIL_CNT) ∧
  (∀ (d : Fin 14) (err : Fin 65536) (s : State), bitAt (s.fieldVal CLK.CLK_ON) d = true → s.bit CLK.CLK_FAIL d = false → clockRefuge d = true →
    s.pwr.phase = .off ∨ s.pwr.phase = .powerDown → Gives (.clockFailure d true err) s fun t =>
      t.bit CLK.CLK_FAIL d = true ∧ tallied s t CLK.CLK_FAIL_CNT ∧ t.pwr.phase = s.pwr.phase) ∧
  (∀ (d : Fin 14) (err : Fin 65536) (s : State), bitAt (s.fieldVal CLK.CLK_ON) d = true → s.bit CLK.CLK_FAIL d = true →
    Gives (.clockFailure d false err) s fun t => t.bit CLK.CLK_FAIL d = false ∧ t.get CLK.CLK_FAIL_CNT = s.get CLK.CLK_FAIL_CNT ∧ Evaluated t)

/-- Active and Idle (R51, R52, R56): a legal MODE_REQ is stored and any other becomes IDLE; ACTIVE requested in Idle brings P4, P6 and P9 on
and the mode Active; the bridges are ready after their readback; the module goes back to Idle when its conditions hold. -/
def Obligations.ActiveAndIdle : Prop :=
  (∀ (src : Src) (val : Word) (s : State), hears s src pgPWR 0x040 = true → Gives (.modeReqWrite src val) s fun t =>
    t.get PWR.MODE_REQ = (if bitsOf val.toNat 8 4 ≤ 2 then bitsOf val.toNat 8 4 else 1) ∧
    (bitsOf val.toNat 8 4 = 2 → s.pwr.phase = .idle →
      t.pwr.phase = .active ∧ t.get PWR.MODE = 2 ∧ t.domOn 4 = true ∧ t.domOn 6 = true ∧ t.domOn 9 = true ∧ Evaluated t) ∧
    ((bitsOf val.toNat 8 4 ≠ 2 ∨ s.pwr.phase ≠ .idle) → t.pwr.phase = s.pwr.phase ∧ t.get PWR.MODE = s.get PWR.MODE)) ∧
  (∀ s : State, s.pwr.phase = .active → s.domOn 9 = true → Gives (.activeGateReadbackDone none) s fun t =>
    t.pwr.readback = true ∧ t.on COLM.TEST_DUE = false ∧ Evaluated t) ∧
  (∀ (a : Fin 16) (s : State), s.pwr.phase = .active → s.domOn 9 = true → s.inRefuge = false → Gives (.activeGateReadbackDone (some a)) s fun t =>
    RefugeFor t 3 0x31 a.val) ∧
  (∀ (late : Bool) (s : State), s.pwr.phase = .active → s.pwr.readback = true →
    (late = true ∨ ∀ h < 16, s.hasHead h = true → s.inSvc (h / 2) = true → headDelivers s h = true) →
    Gives (.actRdySet late) s fun t => t.on PWR.ACT_RDY = true) ∧
  (∀ s : State, s.pwr.phase = .active → s.get PWR.MODE_REQ ≠ 2 → idleConds s = true → Gives .idleDelayExpiry s fun t =>
    t.pwr.phase = .idle ∧ t.get PWR.MODE = 1 ∧ t.on PWR.ACT_RDY = false ∧ t.get CLK.APP_NOW = 0 ∧
    t.domOn 4 = false ∧ t.domOn 6 = false ∧ t.domOn 9 = false)

/-- Parked (R47, R53, R54): parking arms the wake sources and opens the ADCL contacts; a wake while parking is latched; at the end P2 to P11
are off but for the Crawl path, and a latched wake starts the module with PARK_LATE; a wake starts a parked module, is counted and recorded.
CRAWL_EN as the filter accepts it feeds P10 where only the Crawl path does, and engages Crawl where the map is loaded, but for SCRAP (R67). -/
def Obligations.ParkAndWake : Prop :=
  (∀ s : State, s.pwr.phase = .idle → s.get PWR.MODE_REQ = 0 → parkConds s = true → Gives .parkStart s fun t =>
    t.pwr.phase = .parking ∧ t.get PWR.MODE = 3 ∧ t.pwr.armed = true ∧ t.pwr.lateWake = [] ∧
    t.on SAFM.ADCL_A_ON = false ∧ t.on COLM.ADCL_B_ON = false) ∧
  (∀ (w : WakeSrc) (s : State), s.pwr.phase = .parking → s.pwr.armed = true → wakeArmed s w = true → Gives (.parkLateWake w) s fun t =>
    t = { wakeSeen s w with pwr := { s.pwr with lateWake := s.pwr.lateWake ++ [w] } }) ∧
  (∀ s : State, s.pwr.phase = .parking → s.pwr.lateWake = [] → Gives .parkComplete s fun t =>
    t.pwr.phase = .parked ∧ (∀ d, 2 ≤ d → d < 12 → t.domOn d = (s.domOn 10 && s.on CRAWL.CR_PIN && d == 10)) ∧ t.heads = []) ∧
  (∀ s : State, s.pwr.phase = .parking → s.pwr.lateWake ≠ [] → Gives .parkComplete s fun t =>
    t.pwr.phase = .starting ∧ t.on SYS.WAKE = true ∧ t.on PWR.PARK_LATE = true ∧ tallied s t PWR.WAKE_CNT) ∧
  (∀ (w : WakeSrc) (s : State), s.pwr.phase = .parked → s.pwr.armed = true → wakeArmed s w = true → Gives (.wakeEvent w) s fun t =>
    t.on SYS.WAKE = true ∧ t.get PWR.CAUSE = 2 ^ wakeBit w ∧ t.on PWR.PARK_LATE = false ∧ tallied s t PWR.WAKE_CNT ∧
    ∃ u, Restarted ((wakeSeen s w).count PWR.WAKE_CNT) u ∧ t = wakeNote (wakeSeen s w) u w) ∧
  (∀ s : State, crawlPath s = true → s.on CRAWL.CR_PIN = false → Gives .crawlP10Off s fun t =>
    (∀ d, t.domOn d = (s.domOn d && d != 10)) ∧ Evaluated t) ∧
  (∀ (active : Bool) (s : State), s.domOn 1 = true → Gives (.crawlEnFilterAccept active) s fun t =>
    t.on CRAWL.CR_PIN = active ∧ t.on CRAWL.CRAWL_ON = ((active || t.on CRAWL.CR_WD) && t.on CRAWL.MAP_LOADED && t.domOn 10 && t.lc != lcSCRAP) ∧
    t.domOn 10 = (s.domOn 10 || (active && crawlPath s)))

/-! Start-up, boot images, restarts, the watchdog, life cycle (R58 to R74), Drip (R351 to R360). -/

/-- The start-up steps pass in order (R8, R58, R59, R66, R68, R212, R215): each sets its ST_DONE bit. Step 1 captures the seal switches and brings P2,
step 2 checks the poles as both channels read them, seal, life cycle and signature, the first that fails being the cause (log 120), and brings the logic domains unless a wipe is pending, step 3 needs P9 and latches an EDM input that
reads open, step 4 needs the wiped memory and a ready host, step 5 ends in Active. -/
def Obligations.StartUpStepsPass : Prop :=
  (∀ s : State, atStep s 1 = true → Gives (.selfTestStepPass 0) s fun t =>
    t.bit SYS.ST_DONE 0 = true ∧ t.on COLM.COL_OK = true ∧ t.domOn 2 = true ∧ t.saf.sealA = s.saf.poleA ∧ t.saf.sealB = s.saf.poleB ∧
    ∀ n < 8, s.hasDw n = true → t.get (CYCD.STATE n) = if bitAt s.saf.poleA n then 0xE else 0xF) ∧
  (∀ s : State, atStep s 2 = true → polesError s = none → sealError s = none → s.lc ≠ lcUNKNOWN → ((s.lc = lcSERVICE ∨ s.lc = lcDEPOT) → signature s = s.saf.sealB) →
    Gives (.selfTestStepPass 1) s fun t =>
      t.bit SYS.ST_DONE 1 = true ∧ t.on SAFM.SP_RUN = true ∧ t.on COLM.SP_HB_OK = true ∧
      ∀ d < 12, t.domOn d = (s.domOn d || (!s.on SYS.LC_WIPE_PEND && [3, 5, 7, 8, 9, 10].contains d))) ∧
  (∀ (k : Nat) (s : State), atStep s 2 = true → s.inRefuge = false → s.lc ≠ lcUNKNOWN → (polesError s).or (sealError s) = some k →
    Gives (.selfTestStepPass 1) s fun t => RefugeFor t 2 0x24 k ∧ (s.on SYS.LC_WIPE_PEND = false → monitorUp t)) ∧
  (∀ s : State, atStep s 2 = true → s.inRefuge = false → s.lc = lcUNKNOWN →
    Gives (.selfTestStepPass 1) s fun t => RefugeFor t 2 0x23 0 ∧ (s.on SYS.LC_WIPE_PEND = false → monitorUp t)) ∧
  (∀ s : State, atStep s 2 = true → s.inRefuge = false → polesError s = none → sealError s = none → (s.lc = lcSERVICE ∨ s.lc = lcDEPOT) →
    signature s ≠ s.saf.sealB →
    Gives (.selfTestStepPass 1) s fun t => RefugeFor t 2 0x25 (signature s % 2 ^ 16) ∧ (s.on SYS.LC_WIPE_PEND = false → monitorUp t)) ∧
  (∀ s : State, atStep s 3 = true → s.bit SYS.ST_DONE 1 = true → s.domOn 9 = true → Gives (.selfTestStepPass 2) s fun t =>
    t.bit SYS.ST_DONE 2 = true ∧ t.pwr.readback = true ∧ t.on COLM.TEST_DUE = false ∧
    t.pwr.untested = bit1 (!s.on PWR.GA_OK) + 2 * bit1 (!s.on PWR.GB_OK) ∧
    (loopVar s < 2 → (lvl s .saf 6 && lvl s .saf 7 && lvl s .col 6 && lvl s .col 7) = false →
      t.bit SAFM.LATCH_SAF 3 = true ∧ t.bit COLM.LATCH_COL 3 = true)) ∧
  (∀ s : State, atStep s 4 = true → s.bit SYS.ST_DONE 1 = true → s.pwr.wiped = true → s.pwr.hostUp = true → s.on SYS.HOST_RDY = true →
    Gives (.selfTestStepPass 3) s fun t => t.bit SYS.ST_DONE 3 = true) ∧
  (∀ s : State, atStep s 5 = true → s.get SYS.ST_DONE = 0xF → Gives (.selfTestStepPass 4) s fun t =>
    t.get SYS.ST_DONE = 0x1F ∧ t.on SYS.OPERABLE = true ∧ t.get PWR.MODE = 2 ∧ t.pwr.phase = .active ∧ Evaluated t)

/-- What brings Refuge at a start (R58, R59, R61, R62, R66, R69): a step that fails with its cause, and from step 2 on the domains of the
Refuge monitor; an LPDDR5 channel that does not verify, at a start, at sleep entry or in a life-cycle change; a host that does not come; a Gallery channel that fails its deferred test. Where they
pass, the memory is wiped and P4 and P6 come on, and the bank is tested. -/
def Obligations.StartUpFailuresAndMemories : Prop :=
  (∀ (k : Fin 5) (code : Fin 256) (detail : Fin 65536) (s : State), atStep s (k.val + 1) = true → s.inRefuge = false →
    Gives (.selfTestStepFail k code detail) s fun t => RefugeFor t (k.val + 1) code.val detail.val ∧
      (k.val ≠ 0 → (k.val = 1 → s.on SYS.LC_WIPE_PEND = false) → monitorUp t) ∧
      (2 ≤ k.val → code.val = 0x51 → t.on LANT.ENG_OK = false ∧ t.get LANT.ENG_FAULT_STAGE = detail.val % 2 ^ LANT.ENG_FAULT_STAGE.w) ∧
      (2 ≤ k.val → code.val = 0x52 → t.on LANT.HP_OK = false) ∧
      (k.val = 1 → code.val = 0x23 → t.lc = lcUNKNOWN)) ∧
  (∀ s : State, s.pwr.phase = .refuge → s.get SYS.RF_STEP = 1 → Gives .refugeMonitorPowerOn s fun t =>
    ∀ d < 12, t.domOn d = (s.domOn d || [3, 5, 7, 8].contains d)) ∧
  (∀ (bg : Fin 256) (s : State), s.pwr.phase = .starting → s.on SYS.LC_WIPE_PEND = false → s.domOn 5 = true → s.pwr.wiped = false →
    Gives (.lpddr5WipeDone none bg) s fun t =>
    t.pwr.wiped = true ∧ ∀ d < 12, t.domOn d = (s.domOn d || [4, 6].contains d)) ∧
  (∀ (c : Fin 65536) (bg : Fin 256) (s : State), s.pwr.phase = .starting → s.domOn 5 = true → s.pwr.wiped = false → s.inRefuge = false →
    Gives (.lpddr5WipeDone (some c) bg) s fun t => RefugeFor t 4 0x42 c) ∧
  (∀ (c : Fin 65536) (bg : Fin 256) (s : State), (s.pwr.phase = .parking ∨ s.on SYS.LC_WIPE_PEND = true) → s.domOn 5 = true → mayRefuge s = true →
    Gives (.lpddr5WipeDone (some c) bg) s fun t => RefugeFor t 4 0x42 c) ∧
  (∀ s : State, s.pwr.phase = .starting → s.bit SYS.ST_DONE 1 = true → s.on SYS.LC_WIPE_PEND = false → s.on SYS.HOST_RDY = false →
    s.inRefuge = false → Gives .hostRdyTimeout s fun t => RefugeFor t 4 0x43 (s.get BOOT.BOOT_TIME_MS % 2 ^ 16)) ∧
  (∀ (k : Bank) (s : State), bitAt s.pwr.untested (bit1 (k = .b)) = true → s.bit SYS.ST_DONE 2 = true → s.domOn 10 = true →
    s.on (if k = .b then PWR.GB_OK else PWR.GA_OK) = true →
    Gives (.galleryDeferredTest k none) s fun t => ∀ i, bitAt t.pwr.untested i = (bitAt s.pwr.untested i && i != bit1 (k = .b))) ∧
  (∀ (k : Bank) (c : Fin 48) (s : State), bitAt s.pwr.untested (bit1 (k = .b)) = true → s.bit SYS.ST_DONE 2 = true → s.domOn 10 = true →
    s.on (if k = .b then PWR.GB_OK else PWR.GA_OK) = true → s.inRefuge = false →
    Gives (.galleryDeferredTest k (some c)) s fun t => RefugeFor t 3 0x32 c)

/-- Boot images and the ready host (R58, R63, R73): the named slot, the other where that fails, Refuge where both fail; after an unproved
trial the other one first; a confirmed trial raises the lowest accepted version; the first write of HOST_RDY fixes it and passes step 4. -/
def Obligations.BootAndHostReady : Prop :=
  (∀ (a b : Image) (s : State), s.pwr.phase = .starting → s.domOn 3 = true → s.pwr.hostUp = false → s.pwr.unproved = none →
    Gives (.hostStart a b) s fun t =>
      let named := if s.get BOOT.BOOT_NEXT = 0 then a else b
      let other := if s.get BOOT.BOOT_NEXT = 0 then b else a
      (imageOk s named = true → startedFrom s t (s.get BOOT.BOOT_NEXT) false ∧ t.get BOOT.BOOT_FAIL_CNT = s.get BOOT.BOOT_FAIL_CNT) ∧
      (imageOk s named = false → imageOk s other = true → startedFrom s t (1 - s.get BOOT.BOOT_NEXT) true ∧ tallied s t BOOT.BOOT_FAIL_CNT) ∧
      (imageOk s named = false → imageOk s other = false → s.inRefuge = false → RefugeFor t 4 0x41 0)) ∧
  (∀ (a b : Image) (u : Nat) (s : State), s.pwr.phase = .starting → s.domOn 3 = true → s.pwr.hostUp = false → s.pwr.unproved = some u → u < 2 →
    Gives (.hostStart a b) s fun t =>
      let other := if u = 0 then b else a
      let tried := if u = 0 then a else b
      (imageOk s other = true → startedFrom s t (1 - u) false) ∧
      (imageOk s other = false → imageOk s tried = true → startedFrom s t u (decide (s.get BOOT.BOOT_NEXT ≠ u)) ∧ tallied s t BOOT.BOOT_FAIL_CNT) ∧
      (imageOk s other = false → imageOk s tried = false → s.inRefuge = false → RefugeFor t 4 0x41 0)) ∧
  (∀ (src : Src) (val : Word) (s : State), hears s src pgBOOT 0x048 = true → s.fixed.contains BOOT.BOOT_CONFIRM.key = false → val.toNat % 2 = 1 →
    s.on BOOT.TRIAL = true → Gives (.bootConfirmWrite src val) s fun t =>
      t.on BOOT.TRIAL = false ∧ t.on BOOT.BOOT_CONFIRM = true ∧ bitAt t.pwr.confirmed (s.get BOOT.RUN_SLOT) = true ∧
      t.get BOOT.ROLLBACK_MIN = max (s.get BOOT.ROLLBACK_MIN) (s.get (if s.get BOOT.RUN_SLOT = 0 then BOOT.IMG_A_VER else BOOT.IMG_B_VER))) ∧
  (∀ (src : Src) (val : Word) (s : State), hears s src pgSYS 0x054 = true → s.fixed.contains SYS.HOST_RDY.key = false →
    Gives (.hostRdyWrite src val) s fun t => t.get SYS.HOST_RDY = val.toNat % 2 ∧ SYS.HOST_RDY.key ∈ t.fixed ∧
      (val.toNat % 2 = 1 → atStep s 4 = true → s.bit SYS.ST_DONE 1 = true → s.pwr.wiped = true → s.pwr.hostUp = true → t.bit SYS.ST_DONE 3 = true)) ∧
  (∀ (src : Src) (val : Word) (s : State), hears s src pgSYS 0x054 = true → s.fixed.contains SYS.HOST_RDY.key = true →
    Gives (.hostRdyWrite src val) s fun t => t.get SYS.HOST_RDY = s.get SYS.HOST_RDY)

/-- Restarts and the host watchdog (R72, R73): a restart on request is a start with its cause, refused and counted while an axis moves or a doorway is
not locked, and in a power-down, which runs to its end (R41); a kick changes nothing else and any other value is discarded and counted; expiry of the
watchdog takes every motion permit, opens the field outputs and marks the Crawl cause; a restart that is due starts the module. -/
def Obligations.RestartsAndWatchdog : Prop :=
  (∀ (src : Src) (s : State), hears s src pgSYS 0x04C = true → axesRest s = true → allLocked s = true →
    s.pwr.phase ≠ .powerDown → Gives (.rstReqWrite src 0xA5C3) s fun t => Restarted s t ∧ ∀ c ∈ startCauses, t.on c = decide (c = SYS.HOST_RST)) ∧
  (∀ (src : Src) (s : State), hears s src pgSYS 0x04C = true → (axesRest s = false ∨ allLocked s = false ∨ s.pwr.phase = .powerDown) →
    Gives (.rstReqWrite src 0xA5C3) s fun t => t = s.count SYS.RST_REFUSE_CNT) ∧
  (∀ (src : Src) (v : Word) (s : State), hears s src pgSYS 0x04C = true → v ≠ 0xA5C3 →
    Gives (.rstReqWrite src v) s fun t => t = s.count (HDR.PG_ADJ_CNT pgSYS)) ∧
  (∀ (src : Src) (v : Word) (s : State), hears s src pgSYS 0x05C = true →
    Gives (.hostWdKickWrite src v) s fun t => t = if v = 0x5A3C then s else s.count (HDR.PG_ADJ_CNT pgSYS)) ∧
  (∀ s : State, s.on SYS.HOST_WD_MS = true → s.pwr.wdRun = true → s.on SAFM.HOST_WD = false → s.inRefuge = false →
    Gives .hostWdExpiry s fun t => t.on SAFM.HOST_WD = true ∧ t.on CRAWL.CR_WD = true ∧ t.get FIO.FO_OUT = 0 ∧ t.on FIO.WD_OPEN = true ∧
      t.get SAFM.MOT_PERMIT = 0 ∧ t.pwr.wdRun = false ∧ t.pwr.wdDue = s.on SYS.WD_RESTART) ∧
  (∀ s : State, s.pwr.wdDue = true → s.pwr.phase ≠ .powerDown → Gives .wdRestartDue s fun t => Restarted s t ∧ ∀ c ∈ startCauses, t.on c = decide (c = SYS.WD_EXP))

/-- Life cycle and Refuge (R64, R67 to R71): an accepted change writes the new state with the wipe mark and takes torque, permits and ADCL;
one that R67 refuses is counted, and every one in SCRAP; the wipes end the change in a start with LC_CHANGE, a memory that fails its wipe is
marked in it, or they continue the start that found them pending (which sets no LC_CHANGE: the model's choice, log 101); the evidence hold keeps
the sequence number; in Refuge the module announces itself, without a configuration on CAN0. -/
def Obligations.LifeCycleAndRefuge : Prop :=
  (∀ (new : Fin 6) (s : State), served s 0 = true → lcRefusal (taken s) new = none → Gives (.slatiLc new) s fun t =>
    replied s t 0 [] ∧ t.lc = new ∧ t.on SYS.LC_WIPE_PEND = true ∧ t.pwr.lcOld = s.lc ∧ t.get COLM.TEN_MASK = 0 ∧ t.get SAFM.MOT_PERMIT = 0 ∧
    t.on SAFM.ADCL_A_ON = false ∧ t.on COLM.ADCL_B_ON = false) ∧
  (∀ (new : Fin 6) (c : Nat) (s : State), served s 0 = true → lcRefusal (taken s) new = some c → Gives (.slatiLc new) s fun t =>
    replied s t c [] ∧ t.lc = s.lc ∧ tallied s t SYS.LC_REFUSE_CNT ∧ tallied s t SVC.CMD_ERR_CNT) ∧
  (∀ (new : Fin 6) (s : State), slatiUp s = true → s.lc = lcSCRAP → Gives (.slatiLc new) s fun t =>
    t.lc = lcSCRAP ∧ t.svc.reply = 0x200 ∧ tallied s t SYS.LC_REFUSE_CNT) ∧
  (∀ (m : Bool) (nd : Option (Fin 7)) (s : State), s.on SYS.LC_WIPE_PEND = true → s.pwr.phase ≠ .off → s.pwr.phase ≠ .powerDown →
    ((s.pwr.phase ≠ .starting ∧ s.pwr.phase ≠ .refuge) ∨ s.domOn 3 = true) → Gives (.lcWipesDone m nd) s fun t =>
      (∃ u, Restarted (wipesEnd s) u ∧ t = wipeFailed u m nd) ∧ (∀ c ∈ startCauses, t.on c = decide (c = SYS.LC_CHANGE)) ∧
      t.on SYS.LC_WIPE_PEND = false ∧ t.lc = s.lc ∧ (∀ a, t.rd8 pgLVOL 3 a = 0 ∧ t.rd8 pgLVOL spMram a = 0) ∧
      (m = true → t.on FLOW.MRAM_FAIL = true) ∧ (∀ k ∈ nd, t.on FLOW.NAND_FAIL = true ∧ bitAt t.flow.nandBad k = true)) ∧
  (∀ (m : Bool) (nd : Option (Fin 7)) (s : State), s.on SYS.LC_WIPE_PEND = true → s.pwr.phase = .starting → s.domOn 3 = false →
    s.bit SYS.ST_DONE 1 = true → Gives (.lcWipesDone m nd) s fun t =>
      t.on SYS.LC_WIPE_PEND = false ∧ (∀ c ∈ startCauses, t.on c = s.on c) ∧ ∀ d < 12, t.domOn d = (s.domOn d || [3, 5, 7, 8, 9, 10].contains d)) ∧
  (∀ s : State, served s 1 = true → Gives .slatiHold s fun t => replied s t 0 [] ∧ t.on FLOW.EVID_HOLD = true ∧
    (s.on FLOW.EVID_HOLD = false → t.get64 FLOW.HOLD_SEQ_HI FLOW.HOLD_SEQ_LO = s.flow.seq % 2 ^ 64)) ∧
  (∀ s : State, s.inRefuge = true → s.domOn 3 = true → s.domOn 8 = true → Gives (.refugeAnnounce false) s fun t =>
    mapFind [] 1 t.nets.sent = (0x10 * 2 ^ 21 + 0x15 * 2 ^ 16 + DST.OWN_UNIT.rst) :: announceShort s ∧ t.nets.monRate = 125) ∧
  (∀ s : State, s.inRefuge = true → s.domOn 3 = true → s.domOn 7 = true → Gives (.refugeAnnounce true) s fun t =>
    ∃ n, mapFind [] 6 t.nets.sent = (Config.mvbRefuge n (s.get SYS.RF_STEP * 2 ^ 24 + s.get SYS.RF_CODE * 2 ^ 16 + s.get SYS.RF_DETAIL)).1 ::
      (Config.mvbRefuge n (s.get SYS.RF_STEP * 2 ^ 24 + s.get SYS.RF_CODE * 2 ^ 16 + s.get SYS.RF_DETAIL)).2)

/-- The Drip domain (R351, R353, R354, R357): the compensation follows the sensor within ±122 ppm and stays where the sensor fails; checkpoints
alternate between two copies; a total loss of supply stops the count, and a copy being written fails; a set is lost at PF_WARN, else taken in order
at a boundary of 1/1024 s (one of the service link at one of a whole second, which holds up no other), clamped to a date, counted, and moves
TIME_EPOCH on. The Drip alarms (R356, R358 to R360): their words are stored in their places, each field in its range, and acknowledge a firing; the delay
alarm is armed by its write; a calendar match and a due delay set their bits, a match on the value that the sets waiting for that boundary leave. -/
def Obligations.DripKeepsTime : Prop :=
  (∀ (x : Int) (s : State), Gives (.tcUpdate (some x)) s fun t =>
    t.on DRIP.TC_FAULT = false ∧ t.getS DRIP.XTAL_T = satS 16 x ∧ t.getS DRIP.TC_CORR = clampI (-12200) 12200 (Config.tempCorr x)) ∧
  (∀ s : State, Gives (.tcUpdate none) s fun t => t.on DRIP.TC_FAULT = true ∧ t.get DRIP.TC_CORR = s.get DRIP.TC_CORR) ∧
  (∀ s : State, s.tick % 2 ^ 20 = 0 → s.drip.stopped = false → Gives .tickCheckpoint s fun t =>
    (if s.drip.ckToB then t.drip.ckB = some s.tick ∧ t.drip.ckA = s.drip.ckA else t.drip.ckA = some s.tick ∧ t.drip.ckB = s.drip.ckB) ∧
    t.drip.ckToB = !s.drip.ckToB) ∧
  (∀ s : State, s.pwr.phase = .off → s.pwr.feed = .backup → s.drip.stopped = false → Gives .backupLoss s fun t =>
    t.drip.stopped = true ∧ t.drip.ckA = (if checkpointDue s && !s.drip.ckToB then none else s.drip.ckA) ∧
    t.drip.ckB = (if checkpointDue s && s.drip.ckToB then none else s.drip.ckB)) ∧
  (∀ s : State, s.on PWR.PF_WARN = false → s.domOn 3 = true → Gives (.setCmdWrite 0x5E7C0001) s fun t =>
    t.drip.sets = s.drip.sets ++ [(s.rd32 pgDRIP 1 0, s.rd32 pgDRIP 1 4, false)] ∧ ∀ r : Reg, t.get r = s.get r) ∧
  (∀ (v : Word) (s : State), s.on PWR.PF_WARN = false → s.domOn 3 = true → v ≠ 0x5E7C0001 → Gives (.setCmdWrite v) s fun t =>
    t = s.count (HDR.PG_ADJ_CNT pgDRIP)) ∧
  (∀ (v : Word) (s : State), s.on PWR.PF_WARN = true ∨ s.domOn 3 = false → Gives (.setCmdWrite v) s fun t => t = s) ∧
  (∀ (hi lo : Nat) (second : Bool) (before rest : List (Nat × Nat × Bool)) (s : State), s.drip.sets = before ++ (hi, lo, second) :: rest →
    (∀ q ∈ before, q.2.2 = true) → s.drip.stopped = false → s.tick % 32 = 0 → (before ≠ [] → s.drip.cal % 1024 ≠ 0 ∧ s.drip.cal ≠ calMax) →
    (second = true → s.drip.cal % 1024 = 0) → Gives .calendarSetApply s fun t =>
    t.drip.sets = before ++ rest ∧ t.drip.cal = calOf (dateStaged hi lo) ∧ t.on DRIP.CAL_VALID = true ∧ t.on DRIP.BK_LOST = false ∧
    tallied s t DRIP.SET_CNT ∧ t.get DRIP.EPOCH = if s.get DRIP.EPOCH = 0xFFFF then 1 else s.get DRIP.EPOCH + 1) ∧
  (∀ v : Nat, v < 2 ^ 32 → alarmInRange v) ∧
  (∀ (v : Word) (s : State), Gives (.almDlySWrite v) s fun t =>
    t.rd32 pgDRIP 1 0x1C = max 1 v.toNat ∧ t.drip.dlyArmed = true ∧ t.drip.dlyDue = (s.tick + max 1 v.toNat * 32768) % 2 ^ 48 ∧
    t.on DRIP.ALM_DLY_HIT = false) ∧
  (∀ (v : Word) (s : State), Gives (.alarmConfigWrite .hi v) s fun t => alarmStored s t .hi 0x10 v.toNat ∧ t.on DRIP.ALM_CAL_HIT = false) ∧
  (∀ (v : Word) (s : State), Gives (.alarmConfigWrite .lo v) s fun t => alarmStored s t .lo 0x14 v.toNat ∧ t.on DRIP.ALM_CAL_HIT = false) ∧
  (∀ (v : Word) (s : State), Gives (.alarmConfigWrite .mask v) s fun t => almcMask t = v.toNat % 64 ∧ t.on DRIP.ALM_CAL_HIT = false) ∧
  (∀ (v : Word) (s : State), Gives (.alarmConfigWrite .en v) s fun t =>
    almEn t = v.toNat % 4 ∧ t.on DRIP.ALM_CAL_HIT = false ∧ t.on DRIP.ALM_DLY_HIT = false ∧ t.on DRIP.ALM_MISSED = false) ∧
  (∀ s : State, s.drip.stopped = false → (setsApplied s).drip.cal % 1024 = 0 → bitAt (almEn (setsApplied s)) 0 = true →
    almMatch (setsApplied s) = true → Gives .calAlarmFire s fun t => t.on DRIP.ALM_CAL_HIT = true ∧ alarmFired (setsApplied s) t) ∧
  (∀ s : State, (setsApplied s).drip.cal % 1024 ≠ 0 ∨ almMatch (setsApplied s) = false → Gives .calAlarmFire s fun t => t = setsApplied s) ∧
  (∀ s : State, s.drip.stopped = false → bitAt (almEn s) 1 = true → s.drip.dlyArmed = true → (s.tick + 2 ^ 48 - s.drip.dlyDue) % 2 ^ 48 < 2 ^ 47 → Gives .dlyAlarmFire s fun t =>
    t.on DRIP.ALM_DLY_HIT = true ∧ t.drip.dlyArmed = false ∧ alarmFired s t)

/-! Traverse and sensing (R93 to R142). -/

/-- Commands of AX_CMD that move (R93, R103, R107, R109, R110, R111): PUSH queues the staged entry, a REPLACE entry in place of the whole queue; a
full queue drops it and counts; STOP and REVERSE are asked of the next update, and so is PUSH or FLUSH while one of them waits (the model's reading of
the order received, log 13); FLUSH, at once or when its turn comes, empties the queue, leaves the running move and counts each entry in both counters
(R107); what is refused counts as an adjusted access and changes nothing else. -/
def Obligations.MotionCommands : Prop :=
  (∀ (src : Src) (n : Fin 16) (s : State), hears s src (pgAX n) 0x048 = true → (s.ax n).reqs = [] → pushRefused s n (s.get (AX.PROFILE n)) = false →
    (s.get (AX.BLEND n) = 2 ∨ (s.ax n).queue.length < 8) → Gives (.axPush src n) s fun t =>
      (t.ax n).queue = (if s.get (AX.BLEND n) = 2 then [] else (s.ax n).queue) ++
        [⟨stagedTarget s n, s.get (AX.PROFILE n), s.get (AX.SPEED n), s.get (AX.BLEND n), s.on (AX.MQ_GO_WAIT n), 0, none, bornNow s n⟩] ∧
      t.get (AX.MQ_COUNT n) = (if s.get (AX.BLEND n) = 2 then 0 else (s.ax n).queue.length) + 1) ∧
  (∀ (src : Src) (n : Fin 16) (s : State), hears s src (pgAX n) 0x048 = true → (s.ax n).reqs = [] → pushRefused s n (s.get (AX.PROFILE n)) = false →
    s.get (AX.BLEND n) ≠ 2 → 8 ≤ (s.ax n).queue.length → Gives (.axPush src n) s fun t => t.ax n = s.ax n ∧ tallied s t (AX.MQ_DROP_CNT n)) ∧
  (∀ (src : Src) (n : Fin 16) (s : State), hears s src (pgAX n) 0x048 = true → (s.ax n).reqs = [] → pushRefused s n (s.get (AX.PROFILE n)) = true →
    Gives (.axPush src n) s fun t => t = s.count (HDR.PG_ADJ_CNT (pgAX n))) ∧
  (∀ (src : Src) (n : Fin 16) (s : State), hears s src (pgAX n) 0x048 = true → Gives (.axStop src n) s fun t =>
    t = s.setAx n { s.ax n with reqs := (s.ax n).reqs ++ [.stop 1] }) ∧
  (∀ (src : Src) (n : Fin 16) (s : State), hears s src (pgAX n) 0x048 = true → (s.ax n).reqs = [] → Gives (.axFlush src n) s fun t =>
    t.ax n = { s.ax n with queue := [] } ∧ t.on (AX.Q_EMPTY n) = true ∧
    t.get (AX.MQ_FLUSH_CNT n) = min (s.get (AX.MQ_FLUSH_CNT n) + (s.ax n).queue.length) (2 ^ 32 - 1) ∧
    t.get (HDR.PG_DROP_CNT (pgAX n)) = min (s.get (HDR.PG_DROP_CNT (pgAX n)) + (s.ax n).queue.length) (2 ^ 32 - 1)) ∧
  (∀ (n : Fin 16) (s : State), let t := axFlush s n
    t.ax n = { s.ax n with queue := [] } ∧ t.get (AX.MQ_FLUSH_CNT n) = min (s.get (AX.MQ_FLUSH_CNT n) + (s.ax n).queue.length) (2 ^ 32 - 1) ∧
    t.get (HDR.PG_DROP_CNT (pgAX n)) = min (s.get (HDR.PG_DROP_CNT (pgAX n)) + (s.ax n).queue.length) (2 ^ 32 - 1)) ∧
  (∀ (src : Src) (n : Fin 16) (s : State), hears s src (pgAX n) 0x048 = true → (s.ax n).reqs ≠ [] →
    Gives (.axPush src n) s (waitsBehind s · n 0xA1) ∧ Gives (.axFlush src n) s (waitsBehind s · n 0xA3)) ∧
  (∀ (src : Src) (n : Fin 16) (s : State), hears s src (pgAX n) 0x048 = true → reverseRefused s n = true →
    Gives (.axReverse src n) s fun t => t = s.count (HDR.PG_ADJ_CNT (pgAX n))) ∧
  (∀ (src : Src) (n : Fin 16) (s : State), hears s src (pgAX n) 0x048 = true → reverseRefused s n = false →
    Gives (.axReverse src n) s fun t =>
      t.ax n = { s.ax n with reqs := (s.ax n).reqs ++ [.reverse (stagedTarget s n) (s.get (AX.SPEED n))] })

/-- Profiles, release and the control register of an axis (R99, R100, R106, R109, R113, R115, R118): a commit validates; TRV_GO releases the
head entries of the axes it names, behind the commands that wait there; torque is requested only while it is allowed, and withdrawn from a moving axis it stops it with cause 7;
coarse mode claims the pair of the doorway; an enable that goes takes the torque request with it. -/
def Obligations.MotionControl : Prop :=
  (∀ (src : Src) (n : Fin 16) (k : Nat) (v : Word) (s : State), hears s src (pgAX n) 0x0A0 = true → v.toNat = 0x00C00000 + k → k < 32 →
    prfInUse s n k = false → prfCheck s n k = none → Gives (.prfCommit src n v) s fun t => ∀ i, t.bit (AX.PRF_VALID n) i = (s.bit (AX.PRF_VALID n) i || i == k)) ∧
  (∀ (src : Src) (n : Fin 16) (k reason seg : Nat) (v : Word) (s : State), hears s src (pgAX n) 0x0A0 = true → v.toNat = 0x00C00000 + k → k < 32 →
    prfInUse s n k = false → prfCheck s n k = some (reason, seg) → Gives (.prfCommit src n v) s fun t =>
      (∀ i, t.bit (AX.PRF_VALID n) i = (s.bit (AX.PRF_VALID n) i && i != k)) ∧ t.get (AX.ERR_PRF n) = k ∧
      t.get (AX.ERR_REASON n) = reason % 2 ^ 8 ∧ t.get (AX.ERR_SEG n) = seg % 2 ^ 6) ∧
  (∀ (src : Src) (v : Word) (s : State), hears s src pgTRV 0x04C = true → v.toNat / 0x10000 = 0x6A5C → Gives (.trvGoWrite src v) s fun t =>
    ∀ n < 16, s.hasAx n = true → (t.ax n).queue = (if bitAt v.toNat n && (s.ax n).reqs.isEmpty then goGiven (s.ax n).queue else (s.ax n).queue) ∧
      (t.ax n).reqs = if bitAt v.toNat n && !(s.ax n).reqs.isEmpty then (s.ax n).reqs ++ [.go] else (s.ax n).reqs) ∧
  (∀ (src : Src) (n : Fin 16) (v : Word) (s : State), hears s src (pgAX n) 0x044 = true → Gives (.torqueReqWrite src n v) s fun t =>
    t.on (AX.TORQUE_REQ n) = (bitAt v.toNat 0 && torqueAllowed s n) ∧
    (s.on (AX.TORQUE_REQ n) = true → (bitAt v.toNat 0 && torqueAllowed s n) = false → (s.ax n).atRest = false →
      (t.ax n).reqs = (s.ax n).reqs ++ [.stop 7])) ∧
  (∀ (src : Src) (n : Fin 16) (v : Word) (s : State), hears s src (pgAX n) 0x044 = true → n.val < 8 → (s.ax n).atRest = true →
    s.on (AX.TORQUE n) = false → s.get (AX.MODE n) = 0 → bitsOf v.toNat 4 2 = 1 → s.owner 1 n = 0 → Gives (.axModeWrite src n v) s fun t =>
      t.get (AX.MODE n) = 1 ∧ t.on (AX.COARSE n) = true ∧ t.owner 1 n = 2 ∧ (t.ax n).coarse = (s.ax n).pos) ∧
  (∀ (src : Src) (n : Fin 16) (v : Word) (s : State), hears s src (pgAX n) 0x044 = true → n.val < 8 → (s.ax n).atRest = true →
    s.on (AX.TORQUE n) = false → s.get (AX.MODE n) = 1 → bitsOf v.toNat 4 2 = 0 → s.owner 1 n = 2 → Gives (.axModeWrite src n v) s fun t =>
      t.get (AX.MODE n) = 0 ∧ t.on (AX.COARSE n) = false ∧ t.owner 1 n = 0) ∧
  (∀ (src : Src) (n : Fin 16) (v : Word) (s : State), hears s src (pgAX n) 0x00C = true →
    unlocked s src (pgAX n) 0x00C = true → bitAt v.toNat 0 = false → Gives (.axEnWrite src (some n) v) s fun t =>
      t.on (HDR.EN (pgAX n)) = false ∧ t.on (AX.TORQUE_REQ n) = false ∧
      ((s.ax n).atRest = false → (t.ax n).reqs = (s.ax n).reqs ++ [.stop 7])) ∧
  (∀ (src : Src) (v : Word) (s : State), hears s src pgTRV 0x00C = true →
    unlocked s src pgTRV 0x00C = true → bitAt v.toNat 0 = false → Gives (.axEnWrite src none v) s fun t =>
      t.on (HDR.EN pgTRV) = false ∧ ∀ n < 16, s.hasAx n = true → t.on (AX.TORQUE_REQ n) = false)

/-- What happens to an axis under torque (R93, R96, R112, R113, R115, R116, R119, R42): an update takes its samples and limits the drive;
the ramp ends after its 20 ms at the hold amplitude; hold reduction begins at rest; removal shows in STO; the CRC of a table is shown; an edge of CSTEP moves the
coarse target, is clamped at a limit, or is dropped when it runs ahead too far. -/
def Obligations.MotionEvents : Prop :=
  (∀ (xs : List AxSample) (demand : Nat) (s : State), s.domOn 3 = true → s.bit CLK.CLK_FAIL 3 = false → Gives (.traverseUpdate xs demand) s fun t =>
    t.on PWR.DRV_LIMITING = decide (drvBudget s < demand) ∧
    t.get PWR.DRV_LIM_CNT = (if drvBudget s < demand ∧ s.on PWR.DRV_LIMITING = false then min (s.get PWR.DRV_LIM_CNT + 1) (2 ^ 32 - 1)
      else s.get PWR.DRV_LIM_CNT) ∧
    ∀ n < 16, s.hasAx n = true →
      t.on (AX.RAW_CLOSED n) = (xs.getD n AxSample.quiet).closed ∧ t.on (AX.RAW_OPEN n) = (xs.getD n AxSample.quiet).opened ∧
      t.get (AX.ENC_ERR_CNT n) = if (xs.getD n AxSample.quiet).illegal then min (s.get (AX.ENC_ERR_CNT n) + 1) (2 ^ 32 - 1) else s.get (AX.ENC_ERR_CNT n)) ∧
  (∀ (n : Fin 16) (k : Nat) (s : State), (s.ax n).ramp = .up k → 400 ≤ k → s.on (AX.TORQUE n) = true → Gives (.torqueRampEnd n) s fun t =>
    t = s.setAx n { s.ax n with
      ramp := .none
      amp := s.get (AX.I_RUN n) * s.get (AX.AX_HOLD_PCT n) / 100 }) ∧
  (∀ (n : Fin 16) (s : State), s.on (AX.TORQUE n) = true → (s.ax n).atRest = true → s.on (AX.HOLD n) = false →
    20 * s.get (AX.AX_HOLD_DELAY n) ≤ (s.ax n).restN → Gives (.holdReductionStart n) s fun t =>
    t.on (AX.HOLD n) = true ∧ (t.ax n).ramp = .down 0 ∧ PermitsShown t ∧ CoilsShown t) ∧
  (∀ (n : Fin 16) (s : State), s.hasAx n = true → Gives (.torqueRemoval n) s fun t =>
    t.on (AX.STO n) = true ∧ t.bit TRV.STO_MASK n = true ∧ t.on TRV.ANY_STO = true) ∧
  (∀ (k : Fin 4) (s : State), Gives (.tblCrcUpdate k) s fun t => t = s.set (tblCrcReg k) (crc32 (s.rdBytes pgTRV 1 (k * 0x8000) 0x8000))) ∧
  (∀ (n : Fin 8) (cdir : Bool) (tc : Nat) (s : State), s.hasAx n = true → s.get (AX.MODE n) = 1 → Gives (.cstepEdge n cdir tc) s fun t =>
    let goal := if cdir then (s.ax n).coarse + s.get (AX.AX_INTERP n) * 65536 else (s.ax n).coarse - s.get (AX.AX_INTERP n) * 65536
    (goal < vlimLo s n * 65536 ∨ vlimHi s n * 65536 < goal → tallied s t (AX.CLAMP_CNT n) ∧ t.ax n = s.ax n) ∧
    (vlimLo s n * 65536 ≤ goal → goal ≤ vlimHi s n * 65536 → 65536 * 65536 < (goal - (s.ax n).pos).natAbs →
      tallied s t (AX.CS_DROP_CNT n) ∧ t.ax n = s.ax n) ∧
    (vlimLo s n * 65536 ≤ goal → goal ≤ vlimHi s n * 65536 → (goal - (s.ax n).pos).natAbs ≤ 65536 * 65536 →
      t.ax n = { s.ax n with
        coarse := goal
        coarseGap := min 20000 tc }))

/-- Encoder, deviation, switches, hard stop (R120 to R129): a lost encoder is a deviation fault that takes the motion permit until it is
homed again; a deviation is a slip within AX_RECAP_WIN and a fault beyond it; a switch accepted captures the position; a hard stop gives the
reference of homing and ends the motion where the axis stands (R129). -/
def Obligations.PositionSensing : Prop :=
  (∀ (n : Fin 16) (s : State), s.hasAx n = true → (s.ax n).encLost = false → Gives (.encoderLost n) s fun t =>
    (t.ax n).encLost = true ∧ t.on (AX.DEV_FAULT n) = true ∧ t.get (AX.DEV_CAUSE n) = 2 ∧ t.on (AX.HOMED n) = false ∧
    t.bit SAFM.ENC_HOLD n = true ∧ t.bit SAFM.MOT_PERMIT n = false ∧ tallied s t (AX.DEV_FAULT_CNT n)) ∧
  (∀ (n : Fin 16) (s : State), Gives (.encoderRestored n) s fun t => (t.ax n).encLost = false ∧ PermitsShown t) ∧
  (∀ (n : Fin 16) (e : Int) (s : State), s.hasAx n = true → s.on (AX.DEV_FAULT n) = false → s.on (AX.TORQUE n) = true →
    (s.ax n).encLost = false → (s.ax n).devAt = some e → Gives (.deviationDecision n) s fun t =>
      t.get (AX.DEV_LAST n) = min (e.natAbs / 65536) 65535 ∧
      if s.get (AX.AX_RECAP_WIN n) * 65536 < e.natAbs then
        t.on (AX.DEV_FAULT n) = true ∧ t.get (AX.DEV_CAUSE n) = 1 ∧ tallied s t (AX.DEV_FAULT_CNT n) ∧
        (t.ax n).reqs = (s.ax n).reqs ++ [.stop 2]
      else t.on (AX.DEV_FAULT n) = false ∧ tallied s t (AX.SLIP_CNT n)) ∧
  (∀ (n : Fin 16) (opened : Bool) (s : State), s.hasAx n = true → 41 ≤ (swDeb (s.ax n) opened).run →
    s.on (swReg n opened) = !(swDeb (s.ax n) opened).level → Gives (.switchAccepted n opened) s fun t =>
      t.on (swReg n opened) = (swDeb (s.ax n) opened).level ∧ t.get (AX.CAP_SW n) = capCode opened (swDeb (s.ax n) opened).level ∧
      t.get64 (AX.CAP_HI n) (AX.CAP_LO n) = un 64 ((swDeb (s.ax n) opened).pos / 65536)) ∧
  (∀ (n : Fin 16) (s : State), s.on (AX.HOMING n) = true → s.get (AX.HOME_MODE n) = 1 → (s.ax n).phase = .search → 40 ≤ (s.ax n).stallN →
    Gives (.hardStopFound n) s fun t =>
      (t.ax n).homeRef = some ((s.ax n).stallPos / 65536, 2) ∧ (t.ax n).phase = .settle ∧ (t.ax n).pos = (s.ax n).measured ∧
      (t.ax n).vel = 0 ∧ (t.ax n).queue = [] ∧ t.get (AX.STOP_CAUSE n) = 0xA ∧
      (t.ax n).run = some (decelProfile s n { s.ax n with
        pos := (s.ax n).measured
        vel := 0 } (s.get (AX.STOP_PRF n)) none Entry.nothing))

/-- Homing, learning and the extension of a step (R127, R133, R140): HOME starts the search, or backs off a made switch; LEARN begins and
LEARN_ABORT ends the collection of runs; STEP_OUT queues the extension, but where it would be a retraction (log 129); each of them waits behind a STOP or REVERSE not carried out yet (log 13);
the oldest gap record of the sill head on its way to Traverse is shown and heard, one marked invalid is passed over; without a reading the
extension stops. -/
def Obligations.HomingLearningStep : Prop :=
  (∀ (src : Src) (n : Fin 16) (s : State), hears s src (pgAX n) 0x048 = true → (s.ax n).reqs = [] → busyAxis s n = false →
    (s.ax n).after = none → s.on (AX.HOMING n) = false → s.bit (AX.PRF_VALID n) (s.get (AX.HOME_PRF n)) = true → Gives (.home src n) s fun t =>
      t.on (AX.HOMING n) = true ∧ t.on (AX.HOMED n) = false ∧ (t.ax n).homeRef = none ∧
      (t.ax n).phase = (if s.on (AX.SW_CLOSED n) then .backOff else .search) ∧
      (t.ax n).after = some ⟨if s.on (AX.SW_CLOSED n) then min (vlimHi s n) ((s.ax n).pos / 65536 + s.get (AX.HOME_BACKOFF n)) else vlimLo s n,
        s.get (AX.HOME_PRF n), s.get (AX.HOME_SPEED n), 0, false, 0, none, 0⟩) ∧
  (∀ (src : Src) (n : Fin 16) (s : State), hears s src (pgAX n) 0x048 = true → (s.ax n).reqs = [] → (s.ax n).atRest = true →
    s.on (AX.HOMED n) = true → axFaulted s n = false → Gives (.learn src n) s fun t =>
      t.on (AX.LEARN n) = true ∧ t.get (AX.LEARN_RUNS n) = 0 ∧ (t.ax n).kept = [] ∧ (t.ax n).learnO = 0 ∧ (t.ax n).learnC = 0) ∧
  (∀ (src : Src) (n : Fin 16) (s : State), hears s src (pgAX n) 0x048 = true → (s.ax n).reqs = [] → Gives (.learnAbort src n) s fun t =>
    t.on (AX.LEARN n) = false ∧ t.get (AX.LEARN_RUNS n) = 0 ∧ (t.ax n).kept = [] ∧ (t.ax n).learnO = 0 ∧ (t.ax n).learnC = 0) ∧
  (∀ (src : Src) (n : Fin 16) (s : State), hears s src (pgAX n) 0x048 = true → (s.ax n).reqs = [] → 8 ≤ n.val → busyAxis s n = false →
    s.on (AX.HOMED n) = true → s.bit (AX.PRF_VALID n) (s.get (AX.PROFILE n)) = true → Gives (.stepOut src n) s fun t =>
      let target := (axTarget s n (mkRatio (s.get (AX.STEP_MAX_MM n) * 1000 * 65536 : Nat) (s.get (AX.AX_SCALE n))).round).2.1
      ((s.ax n).pos ≤ target * 65536 → (t.ax n).stepOut = true ∧ (t.ax n).gapSeen = false ∧
        (t.ax n).queue = [⟨target, s.get (AX.PROFILE n), s.get (AX.SPEED n), 0, false, 0, none, bornNow s n⟩]) ∧
      (target * 65536 < (s.ax n).pos → (t.ax n).stepOut = false ∧ (t.ax n).queue = [])) ∧
  (∀ (src : Src) (n : Fin 16) (s : State), hears s src (pgAX n) 0x048 = true → (s.ax n).reqs ≠ [] →
    Gives (.home src n) s (waitsBehind s · n 0xB0) ∧ Gives (.learn src n) s (waitsBehind s · n 0xB1) ∧
    Gives (.learnAbort src n) s (waitsBehind s · n 0xB2) ∧ Gives (.stepOut src n) s (waitsBehind s · n 0xB3)) ∧
  (∀ (n : Fin 8) (us : Nat) (rcd : List Nat) (rest : List (List Nat)) (s : State), (s.head (2 * n.val + 1)).toTraverse = rcd :: rest →
    Gives (.gapMmReceived n (rcd.getD 4 0 / 65536) (bitAt (rcd.getD 2 0) 11) us) s fun t =>
      (t.head (2 * n.val + 1)).toTraverse = rest ∧ (t.head (2 * n.val + 1)).atTraverse = rcd ∧
      if s.hasAx (8 + n.val) = true ∧ bitAt (rcd.getD 2 0) 11 = true then
        t.get (AX.GAP_MM (8 + n.val)) = min (rcd.getD 4 0 / 65536) 0xFFFE ∧
        t.get (AX.GAP_AGE_MS (8 + n.val)) = min ((us + 2 ^ 32 - rcd.getD 1 0) % 2 ^ 32 / 1000) 65535 ∧
        ((s.ax (8 + n.val)).stepOut = true → (t.ax (8 + n.val)).gapSeen = true ∧
          (t.ax (8 + n.val)).reqs.length = (s.ax (8 + n.val)).reqs.length + 1)
      else t.ax (8 + n.val) = s.ax (8 + n.val) ∧ t.get (AX.GAP_MM (8 + n.val)) = s.get (AX.GAP_MM (8 + n.val))) ∧
  (∀ (n : Fin 8) (s : State), (s.ax (8 + n.val)).stepOut = true → (s.ax (8 + n.val)).gapSeen = true → (s.ax (8 + n.val)).atRest = false →
    (s.ax (8 + n.val)).endCause = 0 → Gives (.gapStale n) s fun t =>
      t.ax (8 + n.val) = { s.ax (8 + n.val) with
        endCause := 0x11
        reqs := (s.ax (8 + n.val)).reqs ++ [.stop 1] })

/-- Trips and reversals (R135 to R137, R141, R183): a force trip is counted with its cause, stops every axis but a closing door, which it
reverses; during a reversal it is only counted; a reversal request that the safety processor sent reaches the closing door it names; the Squeeze
mark reaches its axis. -/
def Obligations.TripsAndReversals : Prop :=
  (∀ (n : Fin 16) (s : State), s.hasAx n = true → 4 ≤ (s.ax n).overN → s.on (AX.TORQUE n) = true → (s.ax n).vel ≠ 0 → Gives (.forceTrip n) s fun t =>
    t.on (AX.FORCE_TRIP n) = true ∧ tallied s t (AX.FORCE_TRIP_CNT n) ∧
    t.get (AX.TRIP_CAUSE n) = tripCause s n (if (s.ax n).vel < 0 then 1 else 0) ∧
    ((s.ax n).reversing = true → (t.ax n).reqs = (s.ax n).reqs) ∧
    ((s.ax n).reversing = false → 8 ≤ n.val ∨ 0 < (s.ax n).vel ∨ s.on (AX.HOMING n) = true → (t.ax n).reqs = (s.ax n).reqs ++ [.stop 9]) ∧
    (n.val < 8 → (s.ax n).vel < 0 → s.on (AX.HOMING n) = false → thClosing s n = false → (s.ax n).reversing = false →
      (t.ax n).reqs = (s.ax n).reqs ++ [.reversal (reversalTarget s n) false])) ∧
  (∀ (n : Fin 16) (s : State), bitAt s.saf.revReq n = true → n.val < 8 →
    (s.ax n).vel < 0 ∨ ((s.ax n).vel = 0 ∧ bitAt s.saf.revRest n = true) → (s.ax n).reversing = false →
    Gives (.reversalRequest n) s fun t =>
      bitAt t.saf.revReq n = false ∧ bitAt t.saf.revRest n = false ∧ t.get (AX.TRIP_CAUSE n) = 3 ∧
      (t.ax n).reqs = (s.ax n).reqs ++ [.reversal (reversalTarget s n) (bitAt s.saf.revRest n)]) ∧
  (∀ (n : Fin 8) (s : State), s.hasDw n = true → s.on (AX.SQZ n) = !bitAt s.saf.sqz n → Gives (.sqzChange n) s fun t =>
    t.on (AX.SQZ n) = bitAt s.saf.sqz n ∧
    (t.ax n).reqs = (s.ax n).reqs ++ (if bitAt s.saf.sqz n then [.squeeze] else []))

/-! Head links, frames, Glowworm, volumes (R143 to R187, R198). -/

/-- A head port comes up (R145 to R148, R150, R156): PRESENT, POWER, TRAIN, IDENT, CALIB, RUN, each on its own happening while the links have their power and clock
(R50); failures go to FAULT or REJECT with their code. -/
def Obligations.LinksComeUp : Prop :=
  (∀ (h : Fin 16) (mw v : Nat) (s : State), s.hasHead h = true → link s h ≠ lsOFF → link s h ≠ lsTRIP → Gives (.headPresent h mw v) s fun t =>
    t.on (LH.PRESENT h) = true ∧ t.get (LH.HP_MW h) = min mw (2 ^ (LH.HP_MW h).w - 1) ∧ t.get (LH.HP_V h) = min v (2 ^ (LH.HP_V h).w - 1) ∧ link t h = link s h) ∧
  (∀ (h : Fin 16) (s : State), linksRun s = true → link s h = lsPOWER → s.on (LH.PRESENT h) = true → Gives (.headLinkReady h) s fun t => link t h = lsTRAIN) ∧
  (∀ (h : Fin 16) (s : State), link s h = lsPOWER → s.on (LH.PRESENT h) = true → Gives (.linkReadyTimeout h) s fun t => faulted s t h) ∧
  (∀ (h : Fin 16) (gear : Fin 3) (s : State), linksRun s = true → link s h = lsTRAIN → Gives (.linkTrainDone h gear) s fun t =>
    if gear = 0 then faulted s t h
    else link t h = lsIDENT ∧ t.on (LH.LINK_UP h) = true ∧ t.get (LH.GEAR h) = gear ∧ tallied s t (LH.TRAIN_CNT h)) ∧
  (∀ (h : Fin 16) (id : List Nat) (fmt : Bool) (s : State), linksRun s = true → link s h = lsIDENT → Gives (.identDone h id fmt) s fun t =>
    t.get (LH.REJ_CODE h) = idReject (idBlock id) fmt ∧ t.get (LH.HEAD_VENDOR h) = idNum (idBlock id) 0 2 % 2 ^ 16 ∧
    (if idReject (idBlock id) fmt = 0 then link t h = lsCALIB ∧ t.on (LH.ID_OK h) = true ∧ t.get (LH.HVER h) = idVersion (idBlock id)
      else link t h = lsREJECT)) ∧
  (∀ (h : Fin 16) (s : State), linksRun s = true → link s h = lsCALIB → Gives (.calibReadDone h .failed) s (calibAgain s · h)) ∧
  (∀ (h : Fin 16) (s : State), linksRun s = true → link s h = lsCALIB → (s.head h).calHave = true → (s.head h).calFor = calKey s h → (s.head h).full = false →
    Gives (.calibReadDone h .cached) s fun t =>
      if calCrcOk s h then
        link t h = lsRUN ∧ t.on (LH.RUN h) = true ∧ t.on (LH.CAL_OK h) = true ∧ t.on (LH.GEAR_LOW h) = decide (s.get (LH.GEAR h) = 1)
      else link t h = lsCALIB ∧ (t.head h).calHave = false ∧ ∀ k, t.get (LH.LINK_STATE k) = s.get (LH.LINK_STATE k)) ∧
  (∀ (h : Fin 16) (ws : List (Nat × Nat)) (s : State), linksRun s = true → link s h = lsCALIB → Gives (.calibReadDone h (.read ws)) s fun t =>
    if calCrcOk (calStore s h ws) h && calRaysOk (calStore s h ws) h then
      link t h = lsRUN ∧ t.on (LH.RUN h) = true ∧ t.on (LH.CAL_OK h) = true ∧ (t.head h).calHave = true ∧ (t.head h).calFor = calKey s h ∧
      (t.head h).next = 0 ∧ (t.head h).ran = true
    else calibAgain s t h)

/-- A port goes down and its power (R144, R146, R156, R161, R391): a link loss is counted, ends the calibration in force and goes back to POWER
after RUN, else to FAULT; RETRAIN and the end of the waiting time go to POWER, RECAL in RUN to CALIB, else it is carried; a trip switches the port
off for good at the third within 60 s; above 96 W the port of highest power is shed, and restored where the sum leaves room. -/
def Obligations.LinksGoDown : Prop :=
  (∀ (h : Fin 16) (gone : Bool) (s : State), lsTRAIN ≤ link s h → link s h ≤ lsRUN → Gives (.headLinkLoss h gone) s fun t =>
    faulted s t h ∧ t.on (LH.LINK_UP h) = false ∧ t.on (LH.CAL_OK h) = false ∧ t.on (LH.RUN h) = false ∧
    tallied s t (LH.LINK_LOSS_CNT h) ∧ t.on (LH.PRESENT h) = (s.on (LH.PRESENT h) && !gone)) ∧
  (∀ (h : Fin 16) (s : State), link s h = lsREJECT → Gives (.headLinkLoss h true) s fun t =>
    link t h = lsPOWER ∧ t.on (LH.PRESENT h) = false ∧ tallied s t (LH.LINK_LOSS_CNT h)) ∧
  (∀ (h : Fin 16) (s : State), link s h = lsREJECT → s.on (LH.LINK_UP h) = true → Gives (.headLinkLoss h false) s fun t =>
    link t h = lsREJECT ∧ t.on (LH.LINK_UP h) = false ∧ tallied s t (LH.LINK_LOSS_CNT h)) ∧
  (∀ (h : Fin 16) (s : State), link s h = lsFAULT → Gives (.portFaultWaitEnd h) s fun t => link t h = lsPOWER) ∧
  (∀ (src : Src) (h : Fin 16) (s : State), hears s src (pgLH h) 0x044 = true → Gives (.retrain src h) s fun t =>
    (t.head h).dead = false ∧
    (lsTRAIN ≤ link s h → link s h ≤ lsRUN → faulted s t h ∧ tallied s t (LH.LINK_LOSS_CNT h)) ∧
    ((link s h = lsREJECT ∨ link s h = lsFAULT ∨ (link s h = lsTRIP ∧ s.on (LH.HP_SHED h) = false)) → link t h = lsPOWER)) ∧
  (∀ (src : Src) (h : Fin 16) (s : State), hears s src (pgLH h) 0x044 = true → link s h = lsRUN → Gives (.recal src h) s fun t =>
    link t h = lsCALIB ∧ t.on (LH.CAL_OK h) = false ∧ t.on (LH.RUN h) = false ∧ (t.head h).full = true ∧ (t.head h).recal = false) ∧
  (∀ (src : Src) (h : Fin 16) (s : State), hears s src (pgLH h) 0x044 = true → link s h ≠ lsRUN → Gives (.recal src h) s fun t =>
    (t.head h).recal = true ∧ link t h = link s h) ∧
  (∀ (h : Fin 16) (s : State), s.hasHead h = true → link s h ≠ lsOFF → link s h ≠ lsTRIP → Gives (.headPowerTrip h) s fun t =>
    link t h = lsTRIP ∧ t.on (LH.PWR_TRIP h) = true ∧ t.on (LH.PRESENT h) = false ∧ t.get (LH.HP_MW h) = 0 ∧ tallied s t (LH.PWR_TRIP_CNT h) ∧
    (s.on (LH.LINK_UP h) = true → tallied s t (LH.LINK_LOSS_CNT h)) ∧
    (t.head h).dead = decide (2 ≤ ((s.head h).trips.filter (fun x => s.tick < x + 60 * 32768)).length)) ∧
  (∀ (h : Fin 16) (s : State), link s h = lsTRIP → s.on (LH.PWR_TRIP h) = true → (s.head h).dead = false → Gives (.headPowerRetry h) s fun t =>
    link t h = lsPOWER ∧ t.on (LH.PWR_TRIP h) = false) ∧
  (∀ (mw : List Nat) (h : Nat) (s : State), s.domOn 6 = true → 960 < powerSum mw → powerTop s mw = some h → Gives (.headBudgetShed mw) s fun t =>
    link t h = lsTRIP ∧ t.on (LH.HP_SHED h) = true ∧ tallied s t LANT.HP_SHED_CNT ∧ tallied s t (LH.PWR_TRIP_CNT h)) ∧
  (∀ (h : Fin 16) (mw : List Nat) (s : State), s.on (LH.HP_SHED h) = true → powerSum mw ≤ 960 → Gives (.headShedRestore h mw) s fun t =>
    link t h = (if link s h = lsOFF then lsOFF else lsPOWER) ∧ t.on (LH.HP_SHED h) = false)

/-- Frames and the Glowworm check (R152 to R160, R176, R179, R182): a trigger on the grid, 4 ms after the one before, numbers its frame and takes the
mode in effect, and none happens elsewhere or while the links stand still; the pixels of a line stand at their place in the ring of the partition; a complete frame is counted good
or bad; a processed frame frees its slot and the waiting one is taken next; a check is good, a mismatch or unresolved, and the next code is drawn;
silence ends good standing. -/
def Obligations.FramesAndChecks : Prop :=
  (∀ (h : Fin 16) (us : Nat) (s : State), linksRun s = true → link s h = lsRUN → onGrid s h us (nextBurst s h) = true →
    (s.head h).next = 0 ∨ (s.head h).trig + 4000 ≤ us → Gives (.frameTrigger h us) s fun t =>
    (t.head h).next = ((s.head h).next + 1) % 2 ^ 32 ∧ (t.head h).trig = us ∧ t.on (LH.BURST h) = nextBurst s h ∧
    t.get (LH.MODE h) = (if nextBurst s h then 1 else 0) ∧ (t.head h).shots = (s.head h).shots ++ [⟨(s.head h).next,
      (us + s.rd32 (pgLH h) 2 0x18) % 2 ^ 32, nextBurst s h,
      (s.ax (h / 2)).upd + (s.rd32 (pgLH h) 2 0x18 + 25) / 50, (s.ax (h / 2)).vel, (s.ax (h / 2)).atRest && s.on (AX.SW_OPEN (h / 2))⟩]) ∧
  (∀ (h : Fin 16) (us : Nat) (s : State), linksRun s = false ∨ link s h ≠ lsRUN ∨ onGrid s h us (nextBurst s h) = false ∨
    ((s.head h).next ≠ 0 ∧ us < (s.head h).trig + 4000) → Gives (.frameTrigger h us) s fun t => t = s) ∧
  (∀ (h : Fin 16) (k num line us i j : Nat) (ok : Bool) (px : List Nat) (s : State), linksRun s = true → link s h = lsRUN → slotOf (s.head h) num = some k →
    line < frameLines ((s.head h).slots.getD k Slot.free).burst → i < frameWidth ((s.head h).slots.getD k Slot.free).burst → j < 3 →
    Gives (.frameLineRx h num line us ok px) s fun t =>
      t.rd8 pgLANT spPart (partRing h k + (line * frameWidth ((s.head h).slots.getD k Slot.free).burst + i) * 3 + j) = px.getD i 0 / 256 ^ j % 256) ∧
  (∀ (h : Fin 16) (k num line us : Nat) (ok : Bool) (px : List Nat) (s : State), linksRun s = true → link s h = lsRUN → slotOf (s.head h) num = some k →
    line < frameLines ((s.head h).slots.getD k Slot.free).burst →
    putBit ((s.head h).slots.getD k Slot.free).lines line true = 2 ^ frameLines ((s.head h).slots.getD k Slot.free).burst - 1 →
    Gives (.frameLineRx h num line us ok px) s fun t =>
      if ok && !((s.head h).slots.getD k Slot.free).bad then
        tallied s t (LH.FRM_OK_CNT h) ∧ t.get (LH.FRAME_NO h) = num % 2 ^ 32 ∧ t.on (LH.FRAME_STALE h) = false
      else tallied s t (LH.FRM_CRC_CNT h) ∧ t.get (LH.FRM_OK_CNT h) = s.get (LH.FRM_OK_CNT h)) ∧
  (∀ (h : Fin 16) (s : State), link s h = lsRUN → Gives (.frameStale h) s fun t => t.on (LH.FRAME_STALE h) = true) ∧
  (∀ (h : Fin 16) (us k : Nat) (ts : List (List Nat)) (s : State), s.works pgLANT = true →
    (List.range 8).find? (fun k => ((s.head h).slots.getD k Slot.free).state = 3) = some k → Gives (.frameProcessed h us ts) s fun t =>
      (t.head h).slots = ((s.head h).slots.set k ((s.head h).slots.getD k Slot.free).release).map (fun q => if q.state = 2 then { q with state := 3 } else q) ∧
      (((s.head h).slots.getD k Slot.free).num % 16 ≠ 0 → s.on (HDR.EN pgLVOL) = true →
        (t.head h).toSafety.length = (s.head h).toSafety.length + 1 ∧
        (h.val % 2 = 1 → (t.head h).toTraverse.length = (s.head h).toTraverse.length + 1) ∧
        (if (s.head h).lq.length < 16 then (t.head h).lq.length = (s.head h).lq.length + 1
          else (t.head h).lq = (s.head h).lq ∧ tallied s t LVOL.LQ_DROP_CNT))) ∧
  (∀ (h : Fin 16) (us c : Nat) (s : State), (s.head h).code = some c → glowDue s h = true →
    Gives (.glowwormDecision h us) s fun t =>
      t.get (LH.GW_SENT h) = c % 2 ^ (LH.GW_SENT h).w ∧ (t.head h).code = some (Config.glowCode s.freeCtr).toNat ∧ t.freeCtr = s.freeCtr + 1 ∧
      (if glowFound (s.head h) = [] then t.get (LH.GW_RESULT h) = 3
        else if ∀ g ∈ glowFound (s.head h), g = (c : Int) then t.get (LH.GW_RESULT h) = 1 ∧ tallied s t (LH.GW_RUN h)
        else t.get (LH.GW_RESULT h) = 2 ∧ t.on (LH.GW_GOOD h) = false ∧ (t.head h).need = 64 ∧ tallied s t (LH.GW_FAIL_CNT h))) ∧
  (∀ (h : Fin 16) (s : State), s.hasHead h = true → s.domOn 6 = true → (s.head h).silent = false → Gives (.glowwormSilence h) s fun t =>
    t.get (LH.GW_RESULT h) = 4 ∧ t.get (LH.GW_RUN h) = 0 ∧ t.on (LH.GW_GOOD h) = false ∧ tallied s t (LH.GW_SIL_CNT h))

/-- Poses, backgrounds, records and trust (R165, R167, R168, R177, R178, R180, R181, R198): a pose word is stored under the DEPOT key and
voids the background; a learning begins, is aborted, or ends valid or failed; a record is acknowledged, or reaches the safety processor; a head
without a record is stale and its doorway untrusted; holds end. -/
def Obligations.VolumesAndTrust : Prop :=
  (∀ (src : Src) (h k : Fin 16) (v : Word) (s : State), s.domOn 5 = true → s.hwLock pgLVOL = false → s.hasHead h = true → lvl s .saf 13 = true →
    s.on (AX.MOVING (h / 2)) = false → Gives (.poseWrite src h k v) s fun t =>
      t.rd32 pgLVOL 3 (h * 0x40 + 4 * k) = (if 8 ≤ k.val then 0 else if k.val = 4 then v.toNat % 0x10000 else v.toNat) ∧
      bgState t (h / 2) = 0 ∧ t.bit LVOL.BG_VALID_MASK (h / 2) = false ∧ t.rd8 pgLVOL 14 (h / 2) = 0) ∧
  (∀ (src : Src) (n : Fin 8) (s : State), hears s src pgLVOL 0x04C = true → bgReady s n = true → Gives (.bgLearn src n) s fun t =>
    if poseOk s (2 * n) && poseOk s (2 * n + 1) then
      bgState t n = 1 ∧ (t.head (2 * n)).learn = some (0, []) ∧ (t.head (2 * n + 1)).learn = some (0, [])
    else bgState t n = 5 ∧ tallied s t LVOL.BG_FAIL_CNT) ∧
  (∀ (src : Src) (n : Fin 8) (s : State), hears s src pgLVOL 0x04C = true → s.hasDw n = true → bgState s n = 1 → Gives (.bgAbort src n) s fun t =>
    bgState t n = 3 ∧ tallied s t LVOL.BG_FAIL_CNT ∧ (t.head (2 * n)).learn = none ∧ (t.head (2 * n + 1)).learn = none) ∧
  (∀ (n : Fin 8) (s : State), bgState s n = 1 → bgTaken s n = true → Gives (.bgLearnDone n) s fun t =>
    if (learned s (2 * n)).2 || (learned s (2 * n + 1)).2 then bgState t n = 4 ∧ tallied s t LVOL.BG_FAIL_CNT
    else bgState t n = 2 ∧ t.bit LVOL.BG_VALID_MASK n = true ∧ t.rd8 pgLVOL 14 n = 1) ∧
  (∀ (src : Src) (h : Fin 16) (s : State), hears s src pgLVOL 0x048 = true → s.hasHead h = true → (s.head h).lq ≠ [] → Gives (.lqAck src h) s fun t =>
    (t.head h).lq = (s.head h).lq.tail) ∧
  (∀ (h : Fin 16) (rcd : Record) (closed : Bool) (rest : List (Record × Bool)) (s : State), (s.head h).toSafety = (rcd, closed) :: rest → Gives (.recordAtSafety h) s fun t =>
    (t.head h).toSafety = rest ∧ (t.head h).flags = some (rcd.getD 2 0) ∧ (t.head h).stale = false ∧ PermitsShown t ∧ CoilsShown t) ∧
  (∀ (h : Fin 16) (s : State), s.hasHead h = true → (s.head h).stale = false → Gives (.visionStale h) s fun t =>
    (t.head h).stale = true ∧ bitAt t.saf.trust (h / 2) = false ∧ bitAt t.saf.sqz (h / 2) = true ∧
    (bitAt s.saf.trust (h / 2) = true → tallied s t LVOL.STALE_CNT)) ∧
  (∀ (n : Fin 8) (s : State), burstWanted s n = false → Gives (.burstReqHoldEnd n) s fun t => t.on (LVOLD.BURST_REQ n) = false) ∧
  (∀ (n : Fin 8) (s : State), Gives (.thinAdclHoldEnd n) s fun t => bitAt t.saf.thin n = false ∧ PermitsShown t ∧ CoilsShown t)

/-! The door cycle (R188 to R209). -/

/-- Requests and the tick of the supervisor (R188, R193 to R195): a written request waits for the tick and anything else is discarded; at the tick
an operated egress device forces EMERGENCY whatever is requested; a request of the table whose conditions hold is made, one that is not in
the table is refused with code 1, and one whose first failing condition is Active not ready with code 7; otherwise the state stays. -/
def Obligations.DoorwayRequests : Prop :=
  (∀ (src : Src) (n : Fin 8) (v : Word) (s : State), hears s src pgCYC (0x204 + n.val * 0x80) = true → Gives (.cycReqWrite src n v) s fun t =>
    t = if v.toNat / 16 = 0x530 then s.setDw n { s.dw n with req := some (v.toNat % 16) } else s.count (HDR.PG_ADJ_CNT pgCYC)) ∧
  (∀ s : State, supervising s = true → Gives .cycleTick s fun t => PermitsShown t ∧ CoilsShown t) ∧
  (∀ (n : Nat) (s : State), n < 8 → s.hasDw n = true → supervising s = true → egrOp s .saf n = true → s.get (CYCD.STATE n) ≠ stOUT →
    s.get (CYCD.STATE n) ≠ stEMERGENCY → Gives .cycleTick s fun t =>
      t.get (CYCD.STATE n) = stEMERGENCY ∧ t.get (CYCD.PREV_STATE n) = s.get (CYCD.STATE n) ∧ tallied s t (CYCD.FORCED_CNT n) ∧
      t.bit CYC.EMG n = true) ∧
  (∀ (n : Nat) (s : State), n < 8 → closedWith s n (some stLOCKING) = true → Gives .cycleTick s fun t =>
    t.get (CYCD.STATE n) = stLOCKING ∧ t.get (CYCD.PREV_STATE n) = stCLOSED ∧ t.get (CYCD.T_IN_STATE_MS n) = 0 ∧ (t.dw n).req = none) ∧
  (∀ (n k : Nat) (s : State), n < 8 → k ≠ stOPENING → k ≠ stLOCKING → closedWith s n (some k) = true → Gives .cycleTick s fun t =>
    t.get (CYCD.STATE n) = stCLOSED ∧ t.get (CYCD.LAST_REFUSE n) = 1 ∧ tallied s t (CYCD.REFUSE_CNT n) ∧ (t.dw n).req = none) ∧
  (∀ (n : Nat) (s : State), n < 8 → closedWith s n none = true → Gives .cycleTick s fun t =>
    t.get (CYCD.STATE n) = stCLOSED ∧ t.get (CYCD.REFUSE_CNT n) = s.get (CYCD.REFUSE_CNT n) ∧ tallied s t (CYCD.T_IN_STATE_MS n)) ∧
  (∀ (n k : Nat) (s : State), n < 8 → supervising s = true → s.inSvc n = true → s.on (HDR.EN pgCYC) = true → s.get (CYCD.STATE n) = stLOCKED →
    egrOp s .saf n = false → isolMade s n = false → (s.dw n).req = some k → k = stSTEP_OUT ∨ k = stUNLOCKING → s.on PWR.ACT_RDY = false →
    Gives .cycleTick s fun t =>
      t.get (CYCD.STATE n) = stLOCKED ∧ t.get (CYCD.LAST_REFUSE n) = 7 ∧ tallied s t (CYCD.REFUSE_CNT n))

/-- Timers of the supervisor (R194, R196, R197): a state that lasts past its timer without its completion sets TMO and is counted, and stays;
DWELL_DONE and PAUSE_DONE set when their times have passed, and at the retry limit OBSTRUCTED is forced; RECOVER ends in LOCKED after 100 ms closed
and locked, and goes on to ISOLATED where the isolation switch is made. -/
def Obligations.SupervisionTimers : Prop :=
  (∀ (n : Fin 8) (ms : Nat) (s : State), supervising s = true → stateTimer s n = some ms → (s.dw n).done = false → s.on (CYCD.TMO n) = false →
    ms ≤ s.get (CYCD.T_IN_STATE_MS n) → Gives (.supervisionTimeout n) s fun t =>
      t.on (CYCD.TMO n) = true ∧ t.bit CYC.TMO n = true ∧ tallied s t (CYCD.TMO_CNT n) ∧ t.get (CYCD.STATE n) = s.get (CYCD.STATE n)) ∧
  (∀ (n : Fin 8) (s : State), supervising s = true → s.get (CYCD.STATE n) = stOPEN → s.get (CYCD.DWELL_MS n) ≤ s.get (CYCD.T_IN_STATE_MS n) →
    Gives (.dwellDoneSet n) s fun t => t = s.set (CYCD.DWELL_DONE n) 1) ∧
  (∀ (n : Fin 8) (s : State), supervising s = true → s.get (CYCD.STATE n) = stREVERSING → atRest s n = true →
    s.get (CYCD.CYC_REPAUSE_MS n) ≤ (s.dw n).restMs → Gives (.pauseDoneSet n) s fun t =>
      if s.get (CYCD.CYC_RETRY_MAX n) ≤ s.get (CYCD.RETRY n) then
        t.get (CYCD.STATE n) = stOBSTRUCTED ∧ tallied s t (CYCD.OBSTR_CNT n) ∧ tallied s t (CYCD.FORCED_CNT n)
      else t = s.set (CYCD.PAUSE_DONE n) 1) ∧
  (∀ (n : Fin 8) (s : State), supervising s = true → s.get (CYCD.STATE n) = stRECOVER → 100 ≤ (s.dw n).clokMs → Gives (.recoverSettle n) s fun t =>
    t.get (CYCD.STATE n) = if isolMade s n then stISOLATED else stLOCKED)

/-! The safety channels (R205 to R235). -/

/-- Inputs of the safety channels (R190 to R192, R205, R210, R216 to R219, R224): an accepted level stands in its channel alone and everything formed
from it follows, and an input of a doorway that the member does not have is not read (R390); an e-stop input that opens latches; a discrepancy of an
input between the channels latches in both and both use its restrictive level; a discrepancy of a pair latches in the channel that reads it, of the
EDM pair in both; a faulty two-hand button ends the report, and an expired window asks for both buttons released. -/
def Obligations.SafetyInputs : Prop :=
  (∀ (c : Channel) (i : Input) (l : Level) (s : State), chanReads s c = true → s.inputHere i = true → Gives (.inputAccepted c i l) s fun t =>
    (t.chan c).lv = accept (s.chan c).lv i l ∧ (∀ d, d ≠ c → (t.chan d).lv = (s.chan d).lv) ∧ PermitsShown t ∧ CoilsShown t) ∧
  (∀ (c : Channel) (i : Input) (l : Level) (s : State), chanReads s c = false ∨ s.inputHere i = false →
    Gives (.inputAccepted c i l) s fun t => t = s) ∧
  (∀ (c : Channel) (i : Input) (s : State), chanUp s c = true → i = .estop1 ∨ i = .estop2 → Gives (.inputAccepted c i .off) s fun t =>
    latched t c 0 = true ∧ (c = .saf → estopMade s .saf = true → tallied s t SAFM.ESTOP_CNT)) ∧
  (∀ s : State, bothRead s = true → Gives .channelExchange s fun t =>
    PermitsShown t ∧ CoilsShown t ∧ ∀ c, (t.chan c).lv = (s.chan c).lv) ∧
  (∀ (i : Input) (s : State), bothRead s = true → inputDiffers s i = true → bitAt s.saf.disc (inputIdx i) = false →
    Gives (.inputDiscLatch i) s fun t =>
      (∀ c, latched t c 6 = true ∧ lvl t c (inputIdx i) = restrictive (inputIdx i) ∧ tallied s t (discReg c)) ∧ PermitsShown t ∧ CoilsShown t) ∧
  (∀ (c : Channel) (p : Pairing) (s : State), chanUp s c = true → pairBad s c p = true → Gives (.pairDiscrepancyLatch c p) s fun t =>
    latched t c (pairBit p) = true ∧ (p = .edm → ∀ d, latched t d 3 = true) ∧ tallied s t (discReg c) ∧ PermitsShown t ∧ CoilsShown t) ∧
  (∀ (c : Channel) (k : Bool) (s : State), chanReads s c = true → bitAt s.saf.sealA 10 = true → thPattern s c k true = false →
    thPattern s c k false = false → bitAt (s.chan c).faulty (bit1 k) = false → Gives (.twoHandButtonFault c k) s fun t =>
      bitAt (t.chan c).faulty (bit1 k) = true ∧ (t.chan c).report = false ∧ tallied s t (discReg c)) ∧
  (∀ (c : Channel) (s : State), (s.chan c).first = true → (s.chan c).report = false → Gives (.twoHandWindowExpiry c) s fun t =>
    t = s.setChan c { s.chan c with
      first := false
      ready := false })

/-- Mutual checks (R41, R212, R223, R224, R226, R229): a lost heartbeat, a guided contact that does not follow, a failed self-test and a failed check
of Column bring Refuge with their causes, but for a power-down, which runs to its end, and a module that is off; a reversal that does not come takes
torque from its axis and latches; EDM inputs that contradict their contactors or that do not allow a closing latch in both channels and open both
contacts, counted once a fault. -/
def Obligations.MutualChecks : Prop :=
  (∀ s : State, mayRefuge s = true → bothRead s = true → Gives (.heartbeatLost .col) s fun t => RefugeFor t 1 0x14 0) ∧
  (∀ s : State, mayRefuge s = true → bothRead s = true → Gives (.heartbeatLost .saf) s fun t => RefugeFor t 2 0x27 0) ∧
  (∀ (n : Fin 8) (s : State), bitAt s.saf.watch n = true → s.on (AX.DIR_OPEN n) = false → Gives (.reversalWatchFail n) s fun t =>
    latched t .col 7 = true ∧ t.bit COLM.RW_MASK n = true ∧ t.bit COLM.TEN_MASK n = false ∧ bitAt t.saf.watch n = false ∧ tallied s t COLM.RW_TRIP_CNT) ∧
  (∀ (k : Bool) (s : State), mayRefuge s = true → bothRead s = true → Gives (.guidedContactFault k) s fun t =>
    RefugeFor t 3 0x33 (bit1 k) ∧ t.on (if k then COLM.ADCL_B_RB else SAFM.ADCL_A_RB) = !coilNow s (if k then .col else .saf)) ∧
  (∀ (c : Channel) (k : Bool) (s : State), chanUp s c = true → edmWrong s c k = true → Gives (.edmCheckFail c k) s fun t =>
    (∀ d, latched t d 3 = true) ∧ t.on SAFM.ADCL_A_ON = false ∧ t.on COLM.ADCL_B_ON = false ∧
    t.get COLM.EDM_FAULT_CNT = if latched s .saf 3 && latched s .col 3 then s.get COLM.EDM_FAULT_CNT else min (s.get COLM.EDM_FAULT_CNT + 1) (2 ^ 32 - 1)) ∧
  (∀ (sram : Bool) (d : Fin 65536) (s : State), mayRefuge s = true → s.on SAFM.SP_RUN = true → Gives (.spPeriodicTestFail sram d) s fun t =>
    RefugeFor t 2 (if sram then 0x22 else 0x21) d) ∧
  (∀ (gates : Bool) (d : Fin 65536) (s : State), mayRefuge s = true → s.on COLM.COL_OK = true → Gives (.columnCheckFail gates d) s fun t =>
    RefugeFor t 1 (if gates then 0x13 else 0x11) d ∧ t.on COLM.COL_OK = false) ∧
  (∀ (c : Channel) (k : Bool) (d : Fin 65536) (s : State), s.pwr.phase = .off ∨ s.pwr.phase = .powerDown →
    Gives (.heartbeatLost c) s (SamePhase s) ∧ Gives (.guidedContactFault k) s (SamePhase s) ∧
    Gives (.spPeriodicTestFail k d) s (SamePhase s) ∧ Gives (.columnCheckFail k d) s (SamePhase s)) ∧
  (∀ s : State, s.on COLM.COL_OK = true → Gives .testDueSet s fun t => t = s.set COLM.TEST_DUE 1)

/-- Reset, seal and parameters (R138, R214, R215, R227, R228, R230): a reset pressed from 50 ms to 3 s after 200 ms inactive clears in its channel
every latch bit whose cause has ended, any other clears none; a button held too long is stuck; the seal registers show the sampled poles, a
disagreement and a change bring Refuge; every mirror of the safety parameter block holds its value, and what did not is counted; a parameter is staged
only within its range. -/
def Obligations.ResetSealParameters : Prop :=
  (∀ (c : Channel) (idle ms : Nat) (s : State), chanReads s c = true → (s.chan c).pressed = true → 200 ≤ idle → 50 ≤ ms → ms ≤ 3000 →
    Gives (.resetRelease c idle ms) s fun t =>
      (∀ k < 8, latched t c k = (latched s c k && !causeEnded (letGo s c) c k)) ∧ (t.chan c).pressed = false ∧ PermitsShown t ∧
      (c = .col → tallied s t COLM.RESET_OK_CNT)) ∧
  (∀ (c : Channel) (idle ms : Nat) (s : State), chanReads s c = true → (s.chan c).pressed = true → idle < 200 ∨ ms < 50 → ms ≤ 3000 →
    Gives (.resetRelease c idle ms) s fun t =>
      t.get (latchReg c) = s.get (latchReg c) ∧ (t.chan c).pressed = false ∧ (c = .col → tallied s t COLM.RESET_REJ_CNT)) ∧
  (∀ (c : Channel) (idle ms : Nat) (s : State), chanReads s c = true → (s.chan c).pressed = true → 3000 < ms →
    Gives (.resetRelease c idle ms) s fun t =>
      t.get (latchReg c) = s.get (latchReg c) ∧ (c = .col → t.on COLM.RESET_STUCK = false) ∧
      t.get COLM.RESET_OK_CNT = s.get COLM.RESET_OK_CNT ∧ t.get COLM.RESET_REJ_CNT = s.get COLM.RESET_REJ_CNT) ∧
  (∀ s : State, s.saf.col.pressed = true → chanReads s .col = true → s.on COLM.RESET_STUCK = false → Gives (.resetStuck .col) s fun t =>
    t.on COLM.RESET_STUCK = true ∧ tallied s t COLM.RESET_STUCK_CNT) ∧
  (∀ (aS aC bS bC : Fin 65536) (s : State), sealCompared s = true → Gives (.sealSample aS aC bS bC) s fun t =>
    t.get SEAL.A_SAF = aS ∧ t.get SEAL.A_COL = aC ∧ t.get SEAL.B_SAF = bS ∧ t.get SEAL.B_COL = bC ∧
    t.on SEAL.POLE_DIS = decide (aS ≠ aC ∨ bS ≠ bC) ∧ t.on SEAL.CHANGED = decide (polesChanged t ≠ 0)) ∧
  (∀ (aS aC bS bC : Fin 65536) (s : State), Gives (.sealSample aS aC bS bC) s fun t =>
    (chanReads s .saf = true → t.get SEAL.A_SAF = aS ∧ t.get SEAL.B_SAF = bS) ∧
    (chanReads s .col = true → t.get SEAL.A_COL = aC ∧ t.get SEAL.B_COL = bC)) ∧
  (∀ (k : Fin 32) (s : State), sealCompared s = true → mayRefuge s = true → bitAt (polesDiffer s) k = true → Gives (.sealPoleDisagree k) s fun t =>
    RefugeFor t 2 0x24 (k.val + 1)) ∧
  (∀ (k : Fin 32) (s : State), sealCompared s = true → mayRefuge s = true → bitAt (polesChanged s) k = true → Gives (.sealChange k) s fun t =>
    RefugeFor t 2 0x26 (k.val + 1)) ∧
  (∀ s : State, chanUp s .saf = true → Gives .mirrorCheck s fun t =>
    (∀ n < 8, s.hasDw n = true → ∀ m ∈ doorMirrors s n, t.get m.1 = m.2) ∧
    t.get SAFM.MIRROR_FIX_CNT = min (s.get SAFM.MIRROR_FIX_CNT + ((mirrorsWrite s).2 + safmDiffer s)) (2 ^ 32 - 1) ∧
    ((∀ n < 8, s.hasDw n = true → ∀ m ∈ doorMirrors s n, s.get m.1 = m.2) → safmDiffer s = 0 → t = s)) ∧
  (∀ (off : Fin 128) (v : Word) (size lo hi : Nat) (s : State), served s 2 = true → s.lc = lcCOMMISSION → paramField off = some (size, lo, hi) →
    Gives (.slatiParamWr off v) s fun t =>
      if lo ≤ v.toNat ∧ v.toNat ≤ hi then replied s t 0 [] ∧ t.svc.params = fieldBytes s.svc.params off size v.toNat
      else replied s t 6 [] ∧ t.svc.params = s.svc.params)

/-! Safe data on two networks (R236 to R251, R296). -/

/-- Copies of safe telegrams (R64, R239, R241 to R249): a copy that fails a check is dropped with its code, counted, and changes no value; a valid copy
counts, marks its network, and restricts at once; the matching copy of the other network puts the values in force; in Refuge a
RELEASE is answered with the Refuge status where the stored configuration lets one go out (the model's reading, log 89), and nothing else is. -/
def Obligations.SafeCopies : Prop :=
  (∀ (can : Bool) (b : List Nat) (typ code : Nat) (s : State), telegramsUp s = true → firstChecks s b = (typ, some code) →
    Gives (.safeCopyRx can b) s fun t =>
      t.get DST.LAST_DROP = code ∧ t.get DST.LAST_DROP_TYPE = typ ∧ tallied s t (dropReg code) ∧ t.dst = s.dst) ∧
  (∀ (can : Bool) (b : List Nat) (typ code : Nat) (s : State), telegramsUp s = true → firstChecks s b = (typ, none) →
    streamChecks (judged s typ) ((judged s typ).stream (typ - 1)) can b = some code → Gives (.safeCopyRx can b) s fun t =>
      t.get DST.LAST_DROP = code ∧ t.get DST.LAST_DROP_TYPE = typ ∧ tallied s t (dropReg code) ∧ t.dst = (judged s typ).dst) ∧
  (∀ (can : Bool) (b : List Nat) (typ : Nat) (s : State), copyValid s can b typ = true → Gives (.safeCopyRx can b) s fun t =>
    tallied s t DST.RX_OK_CNT ∧ t.on (if can then DST.CAN_OK else DST.ECN_OK) = true ∧ t.on (if can then DST.CAN_LOST else DST.ECN_LOST) = false ∧
    onlyPermitted t typ b ∧ PermitsShown t) ∧
  (∀ (can : Bool) (b : List Nat) (typ : Nat) (p : Pair) (s : State), copyValid s can b typ = true →
    completes (judged s typ) ((judged s typ).stream (typ - 1)) can b = true → ((judged s typ).stream (typ - 1)).pair = some p →
    p.bytes.take 28 = b.take 28 → s.on DST.NET_RESTR = false → Gives (.safeCopyRx can b) s fun t =>
      tallied s t DST.PAIR_CNT ∧ (t.stream (typ - 1)).sync = true ∧ allInForce t typ b) ∧
  (∀ (can : Bool) (b : List Nat) (s : State), s.inRefuge = true → isRelease b = true → mayAnswer s can = true → Gives (.safeCopyRx can b) s fun t =>
    t.dst.outSeq = (s.dst.outSeq + 1) % 2 ^ 32 ∧
    mapFind [] (if can then 1 + s.rd8 pgDST 2 4 % 4 else 0) t.nets.sent = s.rd32 pgDST 2 (if can then 0x40 else 0x3C) ::
      statusTelegram { s with dst := { s.dst with outSeq := (s.dst.outSeq + 1) % 2 ^ 32 } } (s.rd16 pgDST 2 2) (refugeStatus s)) ∧
  (∀ (can : Bool) (b : List Nat) (s : State), s.inRefuge = true → isRelease b = false ∨ mayAnswer s can = false →
    Gives (.safeCopyRx can b) s fun t => t = s)

/-- What time does to streams and networks, and the telegram of the module (R239, R240, R242, R247 to R249, R296): an unmatched copy is closed as
single; a lapsed stream has nothing permissive in force; a lost network is counted, and with both lost and a type configured no door may open; permits
return once every stream is matched again; DOOR_STATUS goes out numbered, and is counted lost where a network cannot take it; the controller of safe
telegrams is set up and locked; the configuration is staged only within its ranges. -/
def Obligations.StreamsAndNetworks : Prop :=
  (∀ (k : Fin 3) (p : Pair) (s : State), telegramsUp s = true → (s.stream k).pair = some p → p.isOpen = true → Gives (.pairTimeout k) s fun t =>
    (t.stream k).pair = some { p with isOpen := false } ∧ tallied s t DST.SINGLE_CNT ∧ t.get DST.LAST_DROP = 0xA ∧ t.get DST.LAST_DROP_TYPE = k.val + 1) ∧
  (∀ (k : Fin 3) (s : State), telegramsUp s = true → configured s k = true → inForce s k ≠ 0 → Gives (.permissiveLapse k) s fun t =>
    inForce t k = 0 ∧ t.get DST.LAPSE_CNT = min (s.get DST.LAPSE_CNT + inForce s k) (2 ^ 32 - 1) ∧ PermitsShown t ∧ CoilsShown t) ∧
  (∀ (k : Fin 3) (s : State), telegramsUp s = true → Gives (.streamUnsync k) s fun t =>
    (t.stream k).sync = false ∧ (configured s k = true → t.on DST.ANY_UNSYNC = true)) ∧
  (∀ (can : Bool) (s : State), telegramsUp s = true → s.on (if can then DST.CAN_LOST else DST.ECN_LOST) = false →
    Gives (.networkLost can) s fun t =>
      t.on (if can then DST.CAN_LOST else DST.ECN_LOST) = true ∧ t.on (if can then DST.CAN_OK else DST.ECN_OK) = false ∧ tallied s t DST.NET_LOSS_CNT ∧
      t.on DST.ONE_NET = !s.on (if can then DST.ECN_LOST else DST.CAN_LOST) ∧
      (if s.on (if can then DST.ECN_LOST else DST.CAN_LOST) = true ∧ anyConfigured s = true then
        t.on SAFM.NET_RESTR = true ∧ t.get SAFM.OP_SAF_M = 0 ∧ PermitsShown t ∧ ∀ k < 3, configured s k = true → inForce t k = 0
      else t.on DST.NET_RESTR = s.on DST.NET_RESTR ∧ ∀ k < 3, inForce t k = inForce s k)) ∧
  (∀ s : State, telegramsUp s = true → s.on DST.NET_RESTR = true → s.on DST.ECN_LOST = false → s.on DST.CAN_LOST = false →
    (∀ k < 3, configured s k = true → bitAt s.dst.paired k = true) → Gives .netRestrEnd s fun t =>
      t.on DST.NET_RESTR = false ∧ t.on SAFM.NET_RESTR = false ∧ PermitsShown t ∧ CoilsShown t) ∧
  (∀ s : State, telegramsUp s = true → s.on DST.CFG_OK = true → s.get DST.OWN_UNIT ≠ 0 → tcfg32 s 0x3C ≠ 0 ∨ tcfg32 s 0x40 ≠ 0 →
    Gives .doorStatusSend s fun t =>
      tallied s t DST.TX_CNT ∧ t.dst.outSeq = (s.dst.outSeq + 1) % 2 ^ 32 ∧
      (tcfg32 s 0x3C ≠ 0 → ecnUp s = true → mapFind [] 0 t.nets.sent = tcfg32 s 0x3C ::
        statusTelegram { s with dst := { s.dst with outSeq := (s.dst.outSeq + 1) % 2 ^ 32 } } (s.get DST.OWN_UNIT) (doorStatus s) ∧
        t.nets.prio = 6) ∧
      (tcfg32 s 0x3C ≠ 0 → ecnUp s = false → tcfg32 s 0x40 = 0 → tallied s t DST.TX_LOST_CNT) ∧
      (tcfg32 s 0x3C = 0 → safeEntry s = none → tallied s t DST.TX_LOST_CNT)) ∧
  (∀ s : State, telegramsUp s = true → s.on DST.CFG_OK = true → s.domOn 8 = true → s.hasCan (s.get DST.CAN_SEL) = true →
    s.on (CAN.SAFE_CH (s.get DST.CAN_SEL)) = false → Gives .safeCanConfigure s fun t =>
      let n := s.get DST.CAN_SEL
      t.on (CAN.SAFE_CH n) = true ∧ t.on (HDR.SAFE_LOCK (pgCAN n)) = true ∧ t.on (HDR.EN (pgCAN n)) = true ∧ t.on (HDR.LP_REQ (pgCAN n)) = false ∧
      t.get (CAN.MODE n) = 0 ∧ t.on (CAN.FD_EN n) = true ∧ t.on (CAN.XL_EN n) = bitAt (tcfg8 s 5) 0 ∧ t.on (CAN.AUTO_REC n) = bitAt (tcfg8 s 5) 2 ∧
      t.on (CAN.TERM n) = bitAt (tcfg8 s 5) 4 ∧ t.get (CAN.TX_AREA_BLK n) = 0x80) ∧
  (∀ (off : Fin 128) (v : Word) (size lo hi : Nat) (s : State), served s 2 = true → s.lc = lcCOMMISSION → tcfgField off = some (size, lo, hi) →
    Gives (.slatiTcfgWr off v) s fun t =>
      if lo ≤ v.toNat ∧ v.toNat ≤ hi then replied s t 0 [] ∧ t.svc.tcfg = fieldBytes s.svc.tcfg off size v.toNat
      else replied s t 6 [] ∧ t.svc.tcfg = s.svc.tcfg)

/-! The Gallery and Crawl (R252 to R271). -/

/-- Commands to the Gallery (R255, R256, R261, R263, R265, R268): a command bit is taken only where it may be set; FOLLOW claims its pin, is clamped
where the claim is refused, and gives the pin up with the last channel; an edge of a pin switches the channels that act on it; a clamp lock is
removed only with the energy below a quarter of the budget; a map word is taken while Crawl is off, and kept by Drip. -/
def Obligations.GalleryCommands : Prop :=
  (∀ (src : Src) (hi : Bool) (v : Word) (s : State), hears s src pgGAL (if hi then 0x048 else 0x044) = true → s.on TEST.TEST_RUN = false →
    Gives (.gcOnWrite src hi v) s fun t =>
      GalleryShown t ∧ ∀ i < (if hi then 16 else 32), gcBit t (if hi then 32 + i else i) = (bitAt v.toNat i && gcAllowed s (if hi then 32 + i else i))) ∧
  (∀ (src : Src) (c : Fin 48) (v : Word) (s : State), hears s src pgGAL (0x100 + c.val * 0x20) = true → bitAt v.toNat 4 = true →
    s.on (GALC.FOLLOW c) = false → s.on (HDR.EN pgGAL) = true → s.on CRAWL.CR_WD = false → Gives (.followWrite src c v) s fun t =>
      (s.owner 0 (v.toNat % 16) = 0 → t.on (GALC.FOLLOW c) = true ∧ t.get (GALC.FOLLOW_PIN c) = v.toNat % 16 ∧
        t.owner 0 (v.toNat % 16) = 4 ∧ chShown t c) ∧
      (s.owner 0 (v.toNat % 16) = 3 → t.on (GALC.FOLLOW c) = false ∧ gcBit t c = false ∧ t.owner 0 (v.toNat % 16) = 3 ∧ chShown t c)) ∧
  (∀ (src : Src) (c : Fin 48) (v : Word) (s : State), hears s src pgGAL (0x100 + c.val * 0x20) = true → bitAt v.toNat 4 = false →
    s.on (GALC.FOLLOW c) = true → s.owner 0 (s.get (GALC.FOLLOW_PIN c)) = 4 →
    (∀ k < 48, k ≠ c.val → s.on (GALC.FOLLOW k) = true → s.get (GALC.FOLLOW_PIN k) ≠ s.get (GALC.FOLLOW_PIN c)) →
    Gives (.followWrite src c v) s fun t =>
      t.on (GALC.FOLLOW c) = false ∧ t.owner 0 (s.get (GALC.FOLLOW_PIN c)) = 0 ∧ chShown t c) ∧
  (∀ (p : Fin 16) (active : Bool) (s : State), pinOn s p = !active → Gives (.directEdge p active) s fun t =>
    pinOn t p = active ∧ t.bit CRAWL.CR_PINS p = active ∧ ∀ c < 48, onPin s c p = true → chShown t c) ∧
  (∀ (src : Src) (c : Fin 48) (v : Word) (s : State), hears s src pgGAL 0x064 = true → v.toNat = 0x6C00 + c.val → s.hasCh c = true →
    s.on (GALC.TH_LATCH c) = false → s.on (GALC.OUT c) = false → Gives (.clampUnlock src v) s fun t =>
      (4 * clampSum s c ≤ clampBudget c → t.on (GALC.CLAMP_LOCK c) = false ∧ chShown t c) ∧
      (clampBudget c < 4 * clampSum s c → t = s.count (HDR.PG_ADJ_CNT pgGAL))) ∧
  (∀ (c : Fin 48) (s : State), s.on CRAWL.CRAWL_ON = true → mapped s c = true → clampSum s c = 0 → s.on (GALC.OUT c) = false →
    Gives (.crawlClampUnlock c) s fun t => t.on (GALC.CLAMP_LOCK c) = false ∧ t.get (GALC.CLAMP_SUM c) = 0 ∧ chShown t c) ∧
  (∀ (src : Src) (k : Fin 12) (v : Word) (s : State), hears s src pgCRAWL (0x044 + k.val * 4) = true → s.on (HDR.HOST_LOCK pgCRAWL) = false →
    Gives (.crawlMapWrite src k v) s fun t =>
      if s.on CRAWL.CRAWL_ON then t.get (CRAWL.CRAWL_MAP k) = s.get (CRAWL.CRAWL_MAP k) ∧ t.gal = s.gal
      else mapFind 0 k.val t.gal.mapCopies = t.get (CRAWL.CRAWL_MAP k) ∧
        ∀ i < 4, mapEntry t (4 * k.val + i) = if s.hasCh (4 * k.val + i) then Nat.land (bitsOf v.toNat (8 * i) 8) 0x8F else 0)

/-- Overcurrent, heat and the inrush window (R252, R253, R257 to R260): a current above the limit in force, the inrush limit in the window, trips: it
turns the channel off at once, waits a backoff up to RETRY_MAX trips and locks it beyond; the end of the backoff retries or leaves the retry waiting, with its trip shown while something keeps it off;
conduction and a settled command clear what they clear; the latch of heat sets and clears at its limits. -/
def Obligations.GalleryProtection : Prop :=
  (∀ (c : Fin 48) (ma : Nat) (s : State), s.hasCh c = true → s.on (GALC.OUT c) = true → limitNow s c < ma → Gives (.ocTrip c ma) s fun t =>
    t.on (GALC.OUT c) = false ∧ t.get (GALC.RETRY_N c) = min 31 (s.get (GALC.RETRY_N c) + 1) ∧ tallied s t GAL.OC_TRIP_CNT ∧
    tallied s t (GALC.CH_TRIP_CNT c) ∧ tallied s t (GALC.CH_CLAMP_CNT c) ∧
    (if min 31 (s.get (GALC.RETRY_N c) + 1) ≤ s.get (GALC.RETRY_MAX c) then t.on (GALC.OC_TRIP c) = true
      else t.on (GALC.OC_LOCK c) = true ∧ tallied s t GAL.OC_LOCK_CNT)) ∧
  (∀ (c : Fin 48) (ma : Nat) (s : State), ma ≤ limitNow s c → Gives (.ocTrip c ma) s fun t => t = s) ∧
  (∀ (c : Fin 48) (s : State), s.on (GALC.OC_TRIP c) = true → chSince s s.gal.tripAt c (backoffMs (s.get (GALC.RETRY_N c))) = true → s.hasCh c = true → s.on (GALC.OUT c) = false →
    Gives (.retryBackoffEnd c) s fun t =>
    t.on (GALC.OC_TRIP c) = (retryWaits s c && retryKept s c) ∧ chShown t c ∧
    (if t.on (GALC.OUT c) then tallied s t GAL.RETRY_CNT ∧ t.on (GALC.INRUSH c) = true ∧ bitAt t.gal.retryPend c = false
      else bitAt t.gal.retryPend c = retryWaits s c)) ∧
  (∀ (c : Fin 48) (s : State), s.on (GALC.OUT c) = true → chSince s s.gal.onAt c 10000 = true → Gives (.retryNReset c) s fun t => t = s.set (GALC.RETRY_N c) 0) ∧
  (∀ (c : Fin 48) (s : State), effCmd s c = false → chSince s s.gal.offAt c 10 = true → Gives (.commandOffSettled c) s fun t =>
    t.get (GALC.RETRY_N c) = 0 ∧ t.on (GALC.OC_LOCK c) = false ∧ t.on (GALC.OC_TRIP c) = false ∧ bitAt t.gal.retryPend c = false ∧ chShown t c) ∧
  (∀ (c : Fin 48) (s : State), Gives (.inrushWindowEnd c) s fun t =>
    t = if chSince s s.gal.onAt c (s.get (GALC.INRUSH_MS c)) then s.set (GALC.INRUSH c) 0 else s) ∧
  (∀ (c : Fin 48) (dt tj : Int) (s : State), s.hasCh c = true → 500 ≤ dt ∨ 175 ≤ tj → s.on (GALC.TH_LATCH c) = false →
    Gives (.thermalLatch c dt tj) s fun t => t.on (GALC.TH_LATCH c) = true ∧ t.on (GALC.OUT c) = false ∧ tallied s t GAL.TH_CNT) ∧
  (∀ (c : Fin 48) (dt tj : Int) (s : State), dt ≤ 250 → tj < 150 → Gives (.thermalLatchClear c dt tj) s fun t =>
    t.on (GALC.TH_LATCH c) = false ∧ chShown t c)

/-- Banks (R192, R256, R262, R266, R267): above its budget a bank sheds the channel it picks, and restores the one shed last below nine tenths
of it; overvoltage, reversal, ground loss and a failed switch turn a whole bank off; each condition ends by itself, and when the bank is sound again its commanded channels wait for
their turns, one at a time; a lock gate that has shut clears the command of its channel. -/
def Obligations.GalleryBanks : Prop :=
  (∀ (k : Bank) (now mean c : Nat) (s : State), bankBudget s k < mean → shedPick s k = some c → Gives (.shedStep k now mean) s fun t =>
    t.on (GALC.OUT c) = false ∧ tallied s t GAL.SHED_CNT ∧
    (effCmd s c = true → t.on (GALC.SHED c) = true ∧ t.gal.shedOrder = c :: s.gal.shedOrder)) ∧
  (∀ (k : Bank) (now mean c : Nat) (s : State), mean * 10 < bankBudget s k * 9 → s.gal.shedOrder.find? (inBank k) = some c →
    Gives (.shedRestoreStep k now mean) s fun t =>
      t.on (GALC.SHED c) = false ∧ t.gal.shedOrder = s.gal.shedOrder.filter (· != c) ∧ chShown t c) ∧
  (∀ (n : Fin 8) (s : State), bitAt s.gal.cut n = true → Gives (.gateCutBitClear n) s fun t =>
    gcBit t (32 + n.val) = false ∧ bitAt t.gal.cut n = false ∧ tallied s t GAL.GATE_CUT_CNT ∧ GalleryShown t) ∧
  (∀ (k : Bank) (s : State), s.on (ovReg k) = false → Gives (.bankOvervoltage k) s fun t =>
    t.on (ovReg k) = true ∧ tallied s t GAL.SURGE_CNT ∧ GalleryShown t ∧ bankDark t k) ∧
  (∀ (k : Bank) (s : State), Gives (.bankReverse k) s fun t => t.on (revReg k) = true ∧ GalleryShown t ∧ bankDark t k) ∧
  (∀ (k : Bank) (s : State), Gives (.bankGroundLoss k) s fun t => t.on (gndReg k) = true ∧ GalleryShown t ∧ bankDark t k) ∧
  (∀ (e : BankEnd) (s : State), Gives (.bankReturn e) s fun t =>
    t.on (endReg e) = false ∧ (∀ x : BankEnd, x ≠ e → t.on (endReg x) = s.on (endReg x)) ∧ GalleryShown t ∧
    (bankSound s (endBank e = .b) = false → bankSound t (endBank e = .b) = true →
      ∀ c < 48, s.hasCh c = true → inBank (endBank e) c = true → effCmd s c = true → bitAt t.gal.waiting c = true)) ∧
  (∀ (k : Bank) (c : Nat) (s : State), (List.range 48).find? (fun c => bitAt s.gal.waiting c && inBank k c) = some c →
    Gives (.bankChannelRestore k) s fun t => (∀ i, bitAt t.gal.waiting i = (bitAt s.gal.waiting i && i != c)) ∧ chShown t c) ∧
  (∀ (k : Bank) (c : Fin 48) (s : State), s.hasCh c = true → effCmd s c = false → chSince s s.gal.offAt c 20 = true → inBank k c = true → s.on (fltReg k) = false →
    Gives (.bankSwitchFault c) s fun t => t.on (fltReg k) = true ∧ tallied s t GAL.BANK_FLT_CNT ∧ GalleryShown t ∧ bankDark t k)

/-! The isolated field inputs and outputs (R272 to R280). -/

/-- Field inputs and outputs (R272 to R276, R278): with the barrier supply lost the inputs read inactive and the fault is up, and it returns with its
hysteresis; its filters restart; an input that has held a voltage for its filter time stands in its bit alone, active from the upper level of its
threshold, inactive up to the lower one, switching between them at a free point with 2 V of hysteresis; FO_OUT and the thresholds are stored under their rules; a switch that shuts down or
stays in current limit brings the fault, and closes again when cooled; the fault ends once its causes have. -/
def Obligations.FieldInputsOutputs : Prop :=
  (∀ s : State, s.on FIO.BARRIER_OK = true → fieldFed s 15000 = false → Gives .barrierLoss s fun t =>
    t.on FIO.BARRIER_OK = false ∧ t.get FIO.FI_LO = 0 ∧ t.get FIO.FI_HI = 0 ∧ tallied s t FIO.SAG_CNT ∧ fioFaulted s t ∧
    (∀ n < 32, foClosed t n = false) ∧ t.get FIO.FO_OUT = s.get FIO.FO_OUT) ∧
  (∀ s : State, s.on FIO.BARRIER_OK = false → fieldFed s 15500 = true → Gives .barrierReturn s fun t =>
    t = { s.set FIO.BARRIER_OK 1 with fio := t.fio } ∧ t.fio.shut = s.fio.shut ∧ ∀ g < 8, mapFind 0 g t.fio.since = s.tick) ∧
  (∀ (i : Fin 64) (dv : Int) (s : State), s.on FIO.BARRIER_OK = true → s.domOn 8 = true → filterRan s i = true → Gives (.fiAccepted i dv) s fun t =>
    (∀ k < 64, k ≠ i.val → fieldBit t k = fieldBit s k) ∧
    (dv ≤ (fieldLevels s i).2 → fieldBit t i = false) ∧ ((fieldLevels s i).1 ≤ dv → fieldBit t i = true) ∧
    fieldBit t i = fiReads i (fieldCode s i) dv (fieldBit s i) ∧
    (fieldBit s i = true → fieldBit t i = false → fiReads i (fieldCode s i) (dv + 19) false = false)) ∧
  (∀ (src : Src) (v : Word) (s : State), hears s src pgFIO 0x04C = true → Gives (.foOutWrite src v) s fun t =>
    t.get FIO.FO_OUT = if s.on FIO.WD_OPEN then s.get FIO.FO_OUT else if s.on (HDR.EN pgFIO) then v.toNat else 0) ∧
  (∀ (src : Src) (v : Word) (s : State), hears s src pgFIO 0x050 = true → unlocked s src pgFIO 0x050 = true → Gives (.thrWrite src v) s fun t =>
    ∀ d ∈ rowsAt (pgFIO * 0x1000 + 0x050), (t.get d.reg = limited (pageRules pgFIO 0x050) s d (bitsOf v.toNat d.reg.lo d.reg.w)) ∧
      ∀ g < 8, mapFind 0 g t.fio.since =
        if bitsOf (t.get FIO.THR) (2 * g) 2 ≠ bitsOf (s.get FIO.THR) (2 * g) 2 then s.tick else mapFind 0 g s.fio.since) ∧
  (∀ (n : Fin 32) (s : State), foClosed s n = true → Gives (.foCurrentLimit n) s fun t => fioFaulted s t ∧ t.fio = s.fio) ∧
  (∀ (n : Fin 32) (s : State), foClosed s n = true → Gives (.foThermalShutdown n) s fun t => fioFaulted s t ∧ foClosed t n = false) ∧
  (∀ (n : Fin 32) (s : State), Gives (.foThermalRestart n) s fun t => ∀ k, foClosed t k = if k = n.val then s.bit FIO.FO_OUT n && s.on FIO.BARRIER_OK else foClosed s k) ∧
  (∀ s : State, s.on FIO.BARRIER_OK = true → s.fio.shut = 0 ∨ s.on FIO.WD_OPEN = true → Gives .fioFaultClear s fun t => t = s.set FIO.FIO_FAULT 0)

/-! The CAN controllers (R281 to R301). -/

/-- Frames, entries and buffers (R284 to R293): a frame goes where the filters say, into a new entry of the FIFO, into its buffer or nowhere, each
counted; a PUSH, CANCEL, RELEASE or acknowledgement that is not allowed is discarded and counted, an allowed one moves its entry on; the offered
entry starts with one more attempt; an entry won is being sent, a lost one waits; a sent one is done with its result and time. -/
def Obligations.CanQueues : Prop :=
  (∀ (n : Fin 4) (f : CanFrame) (us : Nat) (s : State), frameTaken s n f = true → Gives (.canFrameRx n f us) s fun t =>
    ((filterFrame s n f).1 = 3 → tallied s t (CAN.REJECT_CNT n) ∧ t.can n = s.can n) ∧
    ((filterFrame s n f).1 = 1 → (s.can n).rx.length < 64 → dataBlks f.data.length = 0 → tallied s t (CAN.RX_OK_CNT n) ∧
      (t.can n).rx = (s.can n).rx ++ [⟨(s.can n).rxNext, (s.can n).rxWp, 0⟩] ∧ (t.can n).rxNext = ((s.can n).rxNext + 1) % 64) ∧
    (∀ p, (filterFrame s n f).1 = 1 → (s.can n).rx.length < 64 → dataBlks f.data.length ≠ 0 → ringPlace s n (dataBlks f.data.length) = some p →
      tallied s t (CAN.RX_OK_CNT n) ∧ (t.can n).rx = (s.can n).rx ++ [⟨(s.can n).rxNext, p, dataBlks f.data.length⟩] ∧
      (t.can n).rxNext = ((s.can n).rxNext + 1) % 64) ∧
    ((filterFrame s n f).1 = 1 → 64 ≤ (s.can n).rx.length → tallied s t (CAN.RX_OVF_CNT n) ∧ t.can n = s.can n) ∧
    ((filterFrame s n f).1 = 2 → s.bit (CAN.HPB_FULL n) (filterFrame s n f).2.1 = false → f.data.length ≤ 64 →
      tallied s t (CAN.RX_OK_CNT n) ∧ t.bit (CAN.HPB_FULL n) (filterFrame s n f).2.1 = true ∧ t.can n = s.can n)) ∧
  (∀ (src : Src) (n : Fin 4) (i : Fin 32) (s : State), hears s src (pgCAN n) 0x064 = true → Gives (.canTxPush src n i) s fun t =>
    if pushTaken s n i then (∀ k < 32, t.bit (CAN.TX_PEND n) k = (s.bit (CAN.TX_PEND n) k || k == i.val)) ∧ txResult t n i = 0
    else t = s.count (HDR.PG_ADJ_CNT (pgCAN n))) ∧
  (∀ (src : Src) (n : Fin 4) (i : Fin 32) (s : State), hears s src (pgCAN n) 0x064 = true → Gives (.canTxCancel src n i) s fun t =>
    if s.bit (CAN.TX_PEND n) i && !reserved s n i then
      (if s.on (CAN.TX_ACT_V n) && s.get (CAN.TX_ACT n) = i.val then t.bit (CAN.TX_PEND n) i = true ∧ bitAt (t.can n).held i = true ∧
          ((s.can n).sending = true → tallied s t (CAN.LATE_CNT n))
        else t.bit (CAN.TX_PEND n) i = false ∧ t.bit (CAN.TX_DONE n) i = true ∧ txResult t n i = 2 ∧ tallied s t (CAN.CANCEL_CNT n))
    else t = s.count (HDR.PG_ADJ_CNT (pgCAN n))) ∧
  (∀ (src : Src) (n : Fin 4) (i : Fin 32) (s : State), hears s src (pgCAN n) 0x064 = true → Gives (.canTxRelease src n i) s fun t =>
    if s.bit (CAN.TX_DONE n) i && !reserved s n i then t.bit (CAN.TX_DONE n) i = false
    else t = s.count (HDR.PG_ADJ_CNT (pgCAN n))) ∧
  (∀ (src : Src) (n : Fin 4) (k : Fin 256) (s : State), hears s src (pgCAN n) 0x068 = true → Gives (.canRxAck src n k) s fun t =>
    if k.val = 0 ∨ (s.can n).rx.length < k.val then t = s.count (HDR.PG_ADJ_CNT (pgCAN n))
    else (t.can n).rx = (s.can n).rx.drop k.val ∧ t.on (CAN.RX_NE n) = decide (k.val < (s.can n).rx.length)) ∧
  (∀ (src : Src) (n : Fin 4) (h : Fin 8) (s : State), hears s src (pgCAN n) 0x068 = true → Gives (.canHpbRelease src n h) s fun t =>
    if s.bit (CAN.HPB_FULL n) h then ∀ k, t.bit (CAN.HPB_FULL n) k = (s.bit (CAN.HPB_FULL n) k && k != h.val)
    else t = s.count (HDR.PG_ADJ_CNT (pgCAN n))) ∧
  (∀ (n : Fin 4) (i : Nat) (s : State), canOn s n = true → s.get (CAN.ESTATE n) ≠ 2 → s.get (CAN.MODE n) ≠ 1 → s.on (CAN.TX_ACT_V n) = false →
    s.on (HDR.LP_REQ (pgCAN n)) = false → offered s n = some i → Gives (.canTxStart n .begin) s fun t =>
      t.on (CAN.TX_ACT_V n) = true ∧ t.get (CAN.TX_ACT n) = i ∧
      bitsOf (ramRd t n (i * 0x20 + 0x14)) 8 8 = min 255 (bitsOf (ramRd s n (i * 0x20 + 0x14)) 8 8 + 1)) ∧
  (∀ (n : Fin 4) (s : State), arbitrating s n = true → Gives (.canTxStart n .won) s fun t =>
    (t.can n).sending = true ∧ (t.can n).fast = bitAt (ramRd s n (s.get (CAN.TX_ACT n) * 0x20)) 31 ∧ (bitAt (s.can n).held (s.get (CAN.TX_ACT n)) = true → tallied s t (CAN.LATE_CNT n))) ∧
  (∀ (n : Fin 4) (s : State), arbitrating s n = true → Gives (.canTxStart n .lost) s fun t =>
    t.on (CAN.TX_ACT_V n) = false ∧ tallied s t (CAN.ARB_LOST_CNT n) ∧
    (if bitAt (s.can n).held (s.get (CAN.TX_ACT n)) then t.bit (CAN.TX_DONE n) (s.get (CAN.TX_ACT n)) = true ∧ txResult t n (s.get (CAN.TX_ACT n)) = 2
      else t.get (CAN.TX_PEND n) = s.get (CAN.TX_PEND n))) ∧
  (∀ (n : Fin 4) (us tdc : Nat) (s : State), canPresent s n = true → (s.can n).sending = true → s.get (CAN.MODE n) ≠ 2 →
    Gives (.canTxComplete n us tdc) s fun t =>
      t.on (CAN.TX_ACT_V n) = false ∧ (t.can n).fast = false ∧ t.bit (CAN.TX_PEND n) (s.get (CAN.TX_ACT n)) = false ∧ t.bit (CAN.TX_DONE n) (s.get (CAN.TX_ACT n)) = true ∧
      txResult t n (s.get (CAN.TX_ACT n)) = (if bitAt (s.can n).held (s.get (CAN.TX_ACT n)) then 3 else 1) ∧
      ramRd t n (s.get (CAN.TX_ACT n) * 0x20 + 0x10) = us % 2 ^ 32 ∧ tallied s t (CAN.TX_OK_CNT n) ∧ t.get (CAN.TEC n) = s.get (CAN.TEC n) - 1)

/-- Errors, bus-off, sleep and enable (R285, R294, R295, R297 to R300): an error is counted by its kind and moves the counters; at 256 the controller
is bus-off, and a recovery clears the counters; a request for sleep is stored, sleep leaves every entry as it is, what the transceiver finds to be a
wake event is shown; neither request changes a controller of safe telegrams. -/
def Obligations.CanErrorsAndSleep : Prop :=
  (∀ (n : Fin 4) (k : CanError) (big : Bool) (s : State), canOn s n = true → s.get (CAN.ESTATE n) ≠ 2 → s.get (CAN.TEC n) < 256 →
    Gives (.canBusError n k .rx big) s fun t =>
      tallied s t (errReg n k) ∧ t.get (CAN.LEC n) = errCode k ∧ t.get (CAN.TEC n) = s.get (CAN.TEC n) ∧
      t.get (CAN.REC n) = min (s.get (CAN.REC n) + if big then 8 else 1) (2 ^ (CAN.REC n).w - 1)) ∧
  (∀ (n : Fin 4) (k : CanError) (tdc : Option Nat) (big : Bool) (s : State), canOn s n = true → s.get (CAN.ESTATE n) ≠ 2 →
    s.on (CAN.TX_ACT_V n) = true → Gives (.canBusError n k (.tx tdc) big) s fun t =>
      tallied s t (errReg n k) ∧ t.get (CAN.LEC n) = errCode k ∧ t.on (CAN.TX_ACT_V n) = false ∧
      (if s.get (CAN.TEC n) + errStep s n k big < 256 then t.get (CAN.TEC n) = s.get (CAN.TEC n) + errStep s n k big ∧
          t.get (CAN.ESTATE n) = if 128 ≤ s.get (CAN.TEC n) + errStep s n k big ∨ 128 ≤ s.get (CAN.REC n) then 1 else 0
        else t.get (CAN.ESTATE n) = 2 ∧ t.on (CAN.BUS_OFF n) = true ∧ t.on (CAN.RECOVERING n) = s.on (CAN.AUTO_REC n) ∧ tallied s t (CAN.BUSOFF_CNT n))) ∧
  (∀ (src : Src) (n : Fin 4) (s : State), hears s src (pgCAN n) 0x060 = true → Gives (.canRecover src n) s fun t =>
    if s.get (CAN.ESTATE n) = 2 ∧ s.on (CAN.AUTO_REC n) = false then t.on (CAN.RECOVERING n) = true ∧ t.get (CAN.REC_SEQ n) = 0
    else t = s.count (HDR.PG_ADJ_CNT (pgCAN n))) ∧
  (∀ (n : Fin 4) (s : State), canOn s n = true → s.on (CAN.RECOVERING n) = true → Gives (.canRecoveryDone n) s fun t =>
    t.get (CAN.TEC n) = 0 ∧ t.get (CAN.REC n) = 0 ∧ t.get (CAN.ESTATE n) = 0 ∧ t.on (CAN.BUS_OFF n) = false ∧ t.on (CAN.RECOVERING n) = false ∧
    t.get (CAN.REC_SEQ n) = 128) ∧
  (∀ (src : Src) (n : Fin 4) (b : Bool) (s : State), hears s src (pgCAN n) 0x00C = true → Gives (.lpReqWrite src n b) s fun t =>
    if s.on (CAN.SAFE_CH n) && s.on (HDR.SAFE_LOCK (pgCAN n)) then t.get (HDR.LP_REQ (pgCAN n)) = s.get (HDR.LP_REQ (pgCAN n))
    else t.on (HDR.LP_REQ (pgCAN n)) = b ∧
      (b = false → t.on (CAN.SLEEP n) = false ∧ t.on (CAN.WAKE_EV n) = false ∧ t.on (HDR.LP (pgCAN n)) = false)) ∧
  (∀ (src : Src) (n : Fin 4) (b : Bool) (s : State), hears s src (pgCAN n) 0x00C = true → Gives (.canEnWrite src n b) s fun t =>
    if s.on (CAN.SAFE_CH n) && s.on (HDR.SAFE_LOCK (pgCAN n)) then t.get (HDR.EN (pgCAN n)) = s.get (HDR.EN (pgCAN n))
    else t.on (HDR.EN (pgCAN n)) = b ∧
      (b = true → s.on (HDR.EN (pgCAN n)) = false → t.get (CAN.REC_SEQ n) = 0 ∧
        t.on (CAN.RECOVERING n) = (s.on (CAN.RECOVERING n) || (s.get (CAN.ESTATE n) = 2 && s.on (CAN.AUTO_REC n))))) ∧
  (∀ (n : Fin 4) (s : State), s.hasCan n = true → s.on (HDR.LP_REQ (pgCAN n)) = true → s.on (CAN.SLEEP n) = false → s.on (CAN.TX_ACT_V n) = false →
    s.get (CAN.ESTATE n) ≠ 2 ∨ s.on (CAN.AUTO_REC n) = false → Gives (.canSleepEnter n) s fun t =>
      t.on (CAN.SLEEP n) = true ∧ t.on (HDR.LP (pgCAN n)) = true ∧ t.mem = s.mem ∧
        t.get (CAN.TX_PEND n) = s.get (CAN.TX_PEND n) ∧ (t.can n).rx = (s.can n).rx) ∧
  (∀ (n : Fin 4) (w : CanWake) (s : State), s.on (CAN.SLEEP n) = true → Gives (.canLocalWake n w) s fun t =>
    (t.can n).undec = (transceiver (wakeCfg s n) (s.can n).undec w).1 ∧
    match (transceiver (wakeCfg s n) (s.can n).undec w).2 with
    | some v => t.on (CAN.WAKE_EV n) = true ∧ t.get (CAN.WAKE_SRC n) = v % 2 ^ (CAN.WAKE_SRC n).w ∧ tallied s t (CAN.LWAKE_CNT n)
    | none => t.on (CAN.WAKE_EV n) = s.on (CAN.WAKE_EV n) ∧ t.get (CAN.LWAKE_CNT n) = s.get (CAN.LWAKE_CNT n))

/-! The train networks (R302 to R310, R313). -/

/-- The ECN switch, MVB and the legacy link (R302 to R310, R313): a frame with a bad FCS is counted, another unit's leaves at the other port or is dropped, an own
one goes into the ring of its priority where it has room; TAIL never passes HEAD; a host frame goes out of TXQ1 before TXQ0 at its priority, its descriptor stamped; the
bypass follows P7, opens 20 ms after it and breaks both links; MVB answers with what the host wrote and with the device status (its 16 bits are a free
value, log 9); a sink takes a slave frame whole; a poll goes to the next unit due, a buffer of the host first; three polls unanswered lose a unit; a
Dvorud message goes to the host's queues as any other frame, and a malformed ANNOUNCE or CONSIST counts. -/
def Obligations.TrainNetworks : Prop :=
  (∀ (port : Fin 2) (f : EcnFrame) (buf : Word) (full : Bool) (s : State), ecnUp s = true → s.on (linkReg port) = true → f.pd = none →
    Gives (.ecnFrameRx port f buf full) s fun t =>
      (f.fcsOk = false → tallied s t ECN.CRC_ERR_CNT ∧ t.nets = s.nets ∧ t.mem = s.mem) ∧
      (f.fcsOk = true → sizeOk f = false → t = s) ∧
      (f.fcsOk = true → sizeOk f = true → grouped f = false → macOf f ≠ ownMac s → t.mem = s.mem ∧
        if s.on (linkReg (1 - port.val)) = false then t = s
        else if full then tallied s t ECN.EGR_DROP_CNT ∧ t.nets = s.nets
        else tallied s t ECN.FWD_CNT ∧ mapFind [] (9 - port.val) t.nets.sent = egrQueue (prioOf f) :: f.bytes)) ∧
  (∀ (port : Fin 2) (f : EcnFrame) (buf : Word) (full : Bool) (s : State), ownFrame s port f = true → s.on (HDR.EN pgECN) = true →
    Gives (.ecnFrameRx port f buf full) s fun t =>
      t.get ECN.FWD_CNT = s.get ECN.FWD_CNT ∧ t.get ECN.EGR_DROP_CNT = s.get ECN.EGR_DROP_CNT ∧
      if txReady s (rxRing f) then t.get (ECN.Q_HEAD (rxRing f)) = (s.get (ECN.Q_HEAD (rxRing f)) + 1) % 256 ∧ tallied s t ECN.RX_CNT
      else t.get (ECN.Q_HEAD (rxRing f)) = s.get (ECN.Q_HEAD (rxRing f)) ∧ tallied s t ECN.RX_DROP_CNT ∧ t.mem = s.mem) ∧
  (∀ (src : Src) (k : Fin 4) (v : Word) (s : State), hears s src pgECN (0x064 + k * 8) = true → unlocked s src pgECN (0x064 + k * 8) = true →
    Gives (.ecnTailWrite src k v) s fun t =>
      t.get (ECN.Q_TAIL k) = tailLimit s k (v.toNat % 256) ∧ t.get (ECN.Q_HEAD k) = s.get (ECN.Q_HEAD k)) ∧
  (∀ (frame : HostFrame) (full : Bool) (s : State), ecnUp s = true → s.on (HDR.EN pgECN) = true → txReady s 0 = true ∨ txReady s 1 = true →
    Gives (.ecnFrameTx frame full) s fun t =>
      let k := if txReady s 1 then 1 else 0
      t.get (ECN.Q_HEAD k) = (s.get (ECN.Q_HEAD k) + 1) % 256 ∧ t.get (ECN.Q_HEAD (1 - k)) = s.get (ECN.Q_HEAD (1 - k)) ∧
      t.rd32 pgECN 12 (s.get (ECN.Q_BASE k) + 16 * s.get (ECN.Q_HEAD k) + 8) = frame.us % 2 ^ 32 ∧
      if full then tallied s t ECN.EGR_DROP_CNT ∧ t.nets = s.nets
      else tallied s t ECN.TX_CNT ∧ mapFind [] 0 t.nets.sent = 0 :: frame.bytes ∧ t.nets.prio = frame.prio.val) ∧
  (∀ s : State, s.on ECN.BYPASS = s.domOn 7 → (s.domOn 7 = true → s.nets.p7At + msTicks 20 ≤ s.tick) → Gives .bypassRelayChange s fun t =>
    t.on ECN.BYPASS = !s.domOn 7 ∧ t.on ECN.A_LINK = false ∧ t.on ECN.B_LINK = false ∧
    if s.domOn 7 then t.get ECN.BYPASS_CNT = s.get ECN.BYPASS_CNT else tallied s t ECN.BYPASS_CNT) ∧
  (∀ (port : Fin 2) (gig : Bool) (s : State), ecnUp s = true → Gives (.ecnLinkChange port true gig) s fun t =>
    t.on (linkReg port) = true ∧ t.on (gigReg port) = gig ∧ t.get ECN.LINK_DOWN_CNT = s.get ECN.LINK_DOWN_CNT) ∧
  (∀ (port : Fin 2) (gig : Bool) (s : State), ecnUp s = true → s.on (linkReg port) = true → Gives (.ecnLinkChange port false gig) s fun t =>
    t.on (linkReg port) = false ∧ t.on (gigReg port) = false ∧ tallied s t ECN.LINK_DOWN_CNT) ∧
  (∀ (p : BitVec 12) (a b : MvbLine) (k : Nat) (s : State), s.works pgMVB = true → mvbGood a b = true → s.get MVB.MVB_ADDR ≠ 0 →
    (List.range 32).find? (fun j => mvbOn s j && mvbSource s j && mvbAddr s j = p.toNat) = some k → Gives (.mvbMasterFrame (.port p) a b) s fun t =>
      tallied s t MVB.MF_CNT ∧ mapFind [] 6 t.nets.sent = p.toNat :: s.rdBytes pgMVB 2 (32 * k) (mvbSize s k)) ∧
  (∀ (d : BitVec 12) (a b : MvbLine) (s : State), s.works pgMVB = true → mvbGood a b = true → s.get MVB.MVB_ADDR ≠ 0 → s.get MVB.MVB_ADDR = d.toNat →
    Gives (.mvbMasterFrame (.status d) a b) s fun t => tallied s t MVB.MF_CNT ∧ t.freeCtr ≠ s.freeCtr ∧
      ∃ w : BitVec 16, mapFind [] 6 t.nets.sent = d.toNat :: beBytes w.toNat 2) ∧
  (∀ (addr : BitVec 12) (data : List Nat) (a b : MvbLine) (s : State), s.works pgMVB = true → mvbGood a b = true → (∀ x ∈ data, x < 256) →
    Gives (.mvbSlaveFrame addr data a b) s fun t =>
      ∀ k < 32, if sinkTakes s k addr data then t.rdBytes pgMVB 2 (32 * k) data.length = data ∧ t.bit MVB.STALE_MASK k = false ∧
          mapFind 0 k t.nets.sinkAt = s.tick
        else t.rdBytes pgMVB 2 (32 * k) 32 = s.rdBytes pgMVB 2 (32 * k) 32 ∧ t.bit MVB.STALE_MASK k = s.bit MVB.STALE_MASK k) ∧
  (∀ (line : Fin 2) (s : State), s.works pgMVB = true → s.on (lineReg (1 - line.val)) = true →
    mapFind 0 line.val s.nets.lineAt + msTicks 32 ≤ s.tick → s.tick ≤ mapFind 0 (1 - line.val) s.nets.lineAt + msTicks 32 → Gives (.mvbLineFault line) s fun t =>
    t = s.setB (lineReg line) false) ∧
  (∀ (k : Fin 32) (s : State), s.works pgMVB = true → mvbOn s k = true → mvbSource s k = false → mvbFresh s k ≠ 0 → s.bit MVB.STALE_MASK k = false →
    mapFind 0 k.val s.nets.sinkAt + msTicks (mvbFresh s k) ≤ s.tick → Gives (.mvbPortStale k) s fun t => t.bit MVB.STALE_MASK k = true ∧ tallied s t MVB.STALE_CNT) ∧
  (∀ (k : Fin 32) (s : State), mvbOn s k = true → mvbSource s k = false → Gives (.mvbSinkWord0Read k) s fun t =>
    ∀ a, 4 ≤ a → a < 32 → mvbByte t .host (32 * k + a) = s.rd8 pgMVB 2 (32 * k + a) ∧ (mapFind [] k.val t.nets.mvbRead)[a]? = some (s.rd8 pgMVB 2 (32 * k + a))) ∧
  (∀ (b : Nat) (rest : List Nat) (s : State), lglMaster s = true → s.nets.lglWait = none → s.nets.lglFree ≤ s.tick → s.nets.lglQ = b :: rest → Gives .lglPoll s fun t =>
    let f := s.rdBytes pgLGL 2 (b * 0x48) (5 + min 64 (s.rd8 pgLGL 2 (b * 0x48 + 2)))
    t.nets.lglQ = rest ∧ t.nets.lglWait = some (f.getD 0 0, false, s.tick) ∧ mapFind [] 5 t.nets.sent = 0 :: f) ∧
  (∀ (a : Nat) (s : State), lglMaster s = true → s.nets.lglWait = none → s.nets.lglFree ≤ s.tick → s.nets.lglQ = [] → lglNext s = some a → Gives .lglPoll s fun t =>
    tallied s t LGL.POLL_CNT ∧ t.nets.lglWait = some (a, true, s.tick) ∧ mapFind [] 5 t.nets.sent = 0 :: lglFrame a 1 []) ∧
  (∀ (bytes : List Nat) (a sent : Nat) (s : State), lglMaster s = true → s.nets.lglWait = some (a, true, sent) → a < 32 → answersPoll bytes = true →
    bytes.getD 0 0 = a → (∀ x ∈ bytes, x < 256) → Gives (.lglReplyRx bytes true) s fun t =>
      t.bit LGL.LGL_PRESENT a = true ∧ mapFind 0 a t.nets.lglMiss = 0 ∧ t.nets.lglWait = none ∧ t.nets.lglFree = s.tick + msTicks 2 ∧ t.rdBytes pgLGL 1 (a * 0x48) bytes.length = bytes) ∧
  (∀ (bytes : List Nat) (parityOk : Bool) (s : State), lglMaster s = true → lglGood bytes parityOk = false →
    Gives (.lglReplyRx bytes parityOk) s fun t => tallied s t LGL.LGL_ERR_CNT ∧ t.nets = s.nets ∧ t.mem = s.mem) ∧
  (∀ (a sent : Nat) (s : State), s.nets.lglWait = some (a, true, sent) → a < 32 → sent + msTicks (s.get LGL.REPLY_TMO_MS) ≤ s.tick → Gives .lglReplyTimeout s fun t =>
    t.nets.lglWait = none ∧ tallied s t LGL.NOREPLY_CNT ∧ mapFind 0 a t.nets.lglMiss = mapFind 0 a s.nets.lglMiss + 1 ∧
    t.bit LGL.LGL_PRESENT a = (s.bit LGL.LGL_PRESENT a && decide (mapFind 0 a s.nets.lglMiss < 2))) ∧
  (∀ (src : Src) (v : Word) (s : State), hears s src pgLGL 0x054 = true → Gives (.lglSendBuffer src v) s fun t =>
    if v.toNat / 4 = 0x11C0 ∧ v.toNat % 4 ∉ s.nets.lglQ then t.nets.lglQ = s.nets.lglQ ++ [v.toNat % 4] ∧ t.regs = s.regs
    else t = s.count (HDR.PG_ADJ_CNT pgLGL)) ∧
  (∀ (bytes : List Nat) (parityOk : Bool) (s : State), s.works pgLGL = true → s.on LGL.ROLE = true → Gives (.lglSlaveReply bytes parityOk) s fun t =>
    (lglGood bytes parityOk = false → tallied s t LGL.LGL_ERR_CNT ∧ t.nets = s.nets) ∧
    (lglGood bytes parityOk = true → bytes.getD 0 0 = s.get LGL.OWN_ADDR → bytes.getD 1 0 = 1 → bytes.getD 2 0 = 0 →
      mapFind [] 5 t.nets.sent = 0 :: lglFrame (s.get LGL.OWN_ADDR) 0x81 ([1] ++ beBytes (s.get SYS.SERIAL_LO) 4 ++ doorInfo8 s))) ∧
  (∀ (f : DvrFrame) (malformed : Bool) (s : State), Gives (.dvrMessageRx f malformed) s fun t =>
    t = if queuedOk s f && examined (dvrOf s f) && (malformed || badMessage (dvrOf s f)) && s.pageOn pgECHO && !s.inRefuge
      then (queuedFrame s f).count DVR.DVR_BAD_CNT else queuedFrame s f)

/-! Echo (R313 to R322). -/

/-- The partner registry (R313 to R322): the module announces itself on every carrier it may; a well-formed announcement of a newcomer takes a
free slot and makes it PRESENT, or FOREIGN where the train's list leaves it out, in a new generation only for PRESENT; without room it is
counted; a known partner keeps its generation, its own announcement makes none; a CONSIST, which its ComId names, sets the list, and a new topology loses who is no longer listed (one that announced in
the same millisecond ends FOREIGN, R322) and expects who is; 1600 ms of silence lose a partner and a carrier, a missing CONSIST the train's list; a
slot lost for 10 s becomes FREE; an expected unit silent for 1600 ms is counted once; none of these happens before its time; DOOR_INFO goes out on
every carrier it is asked on. -/
def Obligations.PartnerRegistry : Prop :=
  (∀ s : State, echoOn s = true → Gives .announceSend s fun t =>
    t.get ECHO.ANN_TX_CNT = min (s.get ECHO.ANN_TX_CNT + ((List.range 5).filter (announces s)).length) (2 ^ ECHO.ANN_TX_CNT.w - 1) ∧
    (canSend s 0 = true → mapFind [] 0 t.nets.sent = s.get ECHO.ECHO_COMID :: dvrHeader s 4 0x10 24 ++ announceLong s ∧
      t.nets.udp = udpPD ∧ t.nets.group = some (s.get ECHO.ECHO_GROUP) ∧ t.nets.prio = 5 ∧
      t.nets.ip = s.get ECN.IP_ADDR) ∧
    ∀ c < 5, c ≠ 0 → announces s c = true → mapFind false c t.nets.brs = decide (castVersion s c = 3) ∧
      ∃ id p, mapFind [] c t.nets.sent = id :: p ∧ p.length = if castVersion s c ≤ 2 then 8 else 32) ∧
  (∀ (c : Fin 5) (unit : Nat) (p : List Nat) (h : Heard) (s : State), echoHears s c = true → heardOf p = some h → ownHeard s h = true →
    Gives (.announceRx c unit p) s fun t => t = s.count ECHO.ANN_RX_CNT) ∧
  (∀ (c : Fin 5) (unit : Nat) (p : List Nat) (s : State), echoHears s c = true → heardOf p = none → Gives (.announceRx c unit p) s fun t =>
    t = s.count DVR.DVR_BAD_CNT) ∧
  (∀ (c : Fin 5) (unit : Nat) (p : List Nat) (h : Heard) (k : Nat) (s : State), echoHears s c = true → heardOf p = some h → echoOn s = true →
    newcomer s h unit = true → roomFor s 1 = some k → Gives (.announceRx c unit p) s fun t =>
      (t.slot k).typ = 1 ∧ (t.slot k).unit = unit % 0x10000 ∧ (t.slot k).serial = h.serial ∧ bitAt (t.slot k).carriers c = true ∧
      (t.slot k).mask = h.mask ∧ (t.slot k).tick = s.tick ∧ mapFind 0 c.val (t.slot k).heard = s.tick ∧ tallied s t ECHO.ANN_RX_CNT ∧
      if unlisted s (unit % 0x10000) then (t.slot k).st = esFOREIGN ∧ (t.slot k).gen = (s.slot k).gen ∧ tallied s t ECHO.FOREIGN_CNT
      else (t.slot k).st = esPRESENT ∧ (t.slot k).gen = ((s.slot k).gen + 1) % 256 ∧ tallied s t ECHO.NEW_CNT) ∧
  (∀ (c : Fin 5) (unit : Nat) (p : List Nat) (h : Heard) (s : State), echoHears s c = true → heardOf p = some h → echoOn s = true →
    newcomer s h unit = true → roomFor s 1 = none → Gives (.announceRx c unit p) s fun t =>
      tallied s t ECHO.ANN_RX_CNT ∧ tallied s t ECHO.FULL_CNT ∧ t.echo = s.echo) ∧
  (∀ (c : Fin 5) (unit : Nat) (p : List Nat) (h : Heard) (k : Nat) (s : State), echoHears s c = true → heardOf p = some h → ownHeard s h = false → echoOn s = true →
    findUnit s h.serial h.short = some k → (s.slot k).st = esPRESENT → unlisted s (unit % 0x10000) = false → Gives (.announceRx c unit p) s fun t =>
      (t.slot k).st = esPRESENT ∧ (t.slot k).gen = (s.slot k).gen ∧ (t.slot k).unit = unit % 0x10000 ∧ (t.slot k).tick = s.tick ∧ mapFind 0 c.val (t.slot k).heard = s.tick ∧
      bitAt (t.slot k).carriers c = true ∧ t.get ECHO.NEW_CNT = s.get ECHO.NEW_CNT ∧ t.get ECHO.CHG_WR = s.get ECHO.CHG_WR) ∧
  (∀ (id : Nat) (p : List Nat) (s : State), id ≠ s.get ECHO.CONSIST_COMID → Gives (.consistRx ⟨id, p⟩) s fun t => t = s) ∧
  (∀ (p : List Nat) (s : State), echoHears s 0 = true → p.length ≠ 6 + 2 * p.getD 5 0 ∨ 64 < p.getD 5 0 →
    Gives (.consistRx ⟨s.get ECHO.CONSIST_COMID, p⟩) s fun t =>
    t = s.count DVR.DVR_BAD_CNT) ∧
  (∀ (p : List Nat) (s : State), echoHears s 0 = true → echoOn s = true → p.length = 6 + 2 * p.getD 5 0 → p.getD 5 0 ≤ 64 →
    Gives (.consistRx ⟨s.get ECHO.CONSIST_COMID, p⟩) s fun t =>
    t.on ECHO.CONSIST_VALID = true ∧ t.echo.listed = unitsOf (p.drop 6) (p.getD 5 0) ∧ t.get ECHO.TOPO_CNT = beNum (p.take 4) % 2 ^ 32 ∧
    (beNum (p.take 4) = s.get ECHO.TOPO_CNT → t.get ECHO.CONSIST_CNT = s.get ECHO.CONSIST_CNT) ∧
    (beNum (p.take 4) ≠ s.get ECHO.TOPO_CNT → tallied s t ECHO.CONSIST_CNT ∧
      (∀ k < 256, k ≠ 0 → k ≠ 0x12 → (s.slot k).typ = 1 → (s.slot k).st = esPRESENT → (s.slot k).unit ∉ t.echo.listed →
        (t.slot k).st = if s.tick < (s.slot k).tick + msTicks 1 then esFOREIGN else esLOST) ∧
      (∀ u ∈ t.echo.listed, u ≠ s.get DST.OWN_UNIT → hasSlot t u ∨ s.get ECHO.FULL_CNT < t.get ECHO.FULL_CNT ∨
        t.get ECHO.FULL_CNT = 2 ^ ECHO.FULL_CNT.w - 1))) ∧
  (∀ (k : Fin 256) (s : State), echoOn s = true → k.val ≠ 0 → (s.slot k).typ = 1 → (s.slot k).st = esPRESENT ∨ (s.slot k).st = esFOREIGN →
    (s.slot k).tick + msTicks 1600 ≤ s.tick → Gives (.partnerLost k) s fun t =>
      (t.slot k).st = esLOST ∧ (t.slot k).carriers = 0 ∧ (t.slot k).gen = (s.slot k).gen ∧ tallied s t ECHO.LOST_CNT) ∧
  (∀ (k : Fin 256) (c : Fin 5) (s : State), echoOn s = true → (s.slot k).typ = 1 → bitAt (s.slot k).carriers c = true →
    mapFind 0 c.val (s.slot k).heard + msTicks 1600 ≤ s.tick → Gives (.carrierTimeout k c) s fun t =>
      (t.slot k).carriers = putBit (s.slot k).carriers c false ∧ (t.slot k).st = (s.slot k).st) ∧
  (∀ s : State, echoOn s = true → s.on ECHO.CONSIST_VALID = true → (s.slot 0x12).tick + msTicks (3 * s.get ECHO.TCMS_PERIOD_MS + 100) ≤ s.tick →
    Gives .tcmsLost s fun t =>
      t.on ECHO.CONSIST_VALID = false ∧ ∀ k < 256, k ≠ 0x12 → (t.slot k).st = if (s.slot k).st = esEXPECTED then esFREE else (s.slot k).st) ∧
  (∀ (k : Fin 256) (s : State), echoOn s = true → (s.slot k).st = esLOST → (s.slot k).since + msTicks 10000 ≤ s.tick →
    Gives (.slotHoldExpiry k) s fun t => (t.slot k).st = esFREE ∧ (t.slot k).gen = (s.slot k).gen) ∧
  (∀ (k : Fin 256) (s : State), echoOn s = true → (s.slot k).st = esEXPECTED → (s.slot k).missed = false →
    (s.slot k).since + msTicks 1600 ≤ s.tick → Gives (.expectedMissing k) s fun t =>
      (t.slot k).missed = true ∧ (t.slot k).st = esEXPECTED ∧ tallied s t ECHO.MISSING_CNT) ∧
  (∀ (k : Fin 256) (s : State), s.tick < (s.slot k).tick + msTicks 1600 → Gives (.partnerLost k) s fun t => t = s) ∧
  (∀ (k : Fin 256) (c : Fin 5) (s : State), s.tick < mapFind 0 c.val (s.slot k).heard + msTicks 1600 → Gives (.carrierTimeout k c) s fun t => t = s) ∧
  (∀ s : State, s.tick < (s.slot 0x12).tick + msTicks (3 * s.get ECHO.TCMS_PERIOD_MS + 100) → Gives .tcmsLost s fun t => t = s) ∧
  (∀ (k : Fin 256) (s : State), s.tick < (s.slot k).since + msTicks 10000 → Gives (.slotHoldExpiry k) s fun t => t = s) ∧
  (∀ (k : Fin 256) (s : State), s.tick < (s.slot k).since + msTicks 1600 → Gives (.expectedMissing k) s fun t => t = s) ∧
  (∀ s : State, s.works pgDVR = true → s.inRefuge = false → Gives .doorInfoSend s fun t =>
    t.get DVR.INFO_TX_CNT = min (s.get DVR.INFO_TX_CNT + ((List.range 6).filter (informs s)).length) (2 ^ DVR.INFO_TX_CNT.w - 1) ∧
    (informs s 0 = true → mapFind [] 0 t.nets.sent = (s.get DVR.MD_COMID_BASE + 0x20) :: dvrHeader s 4 0x20 12 ++ doorStatus s ∧
      t.nets.udp = udpMD ∧ t.nets.group = none ∧ t.nets.prio = 5))

/-! Flowstone (R328 to R350). -/

/-- Records and the memories (R329 to R344): the front entry of a queue becomes a record under the next SEQ, unless a hold keeps its place or its
read-back fails; a cycle end's TRACE is sealed before its CYCLE, which names it; a page due goes to NAND with P11 on, past a bad block, or takes
its area out of use; a trace thins out at 505 samples; a clip, a
snapshot and the pages gathered without MRAM are recorded; recovery starts above the mark; P11 goes off 1 s
after its last need; the failure flags are sent at a change and every 10 s. -/
def Obligations.RecordsAndMemories : Prop :=
  (∀ (e : EventReq) (l : List EventReq) (s : State), s.fq0 = e :: l → sealsWell s none = true → Gives (.recordSeal false none) s fun t =>
    t.fq0 = l ∧ if holdStops s arEVENT 1 then t.flow.recs = s.flow.recs ∧ tallied s t (HDR.PG_DROP_CNT pgFLOW)
      else recorded s t arEVENT 2 64 (wpOf s arEVENT) (eventBody e)) ∧
  (∀ (c : CycleEnd) (l : List CycleEnd) (s : State), s.flow.fq1 = c :: l → (∀ e ∈ c :: l, e.trace = none ∧ e.lost = false) → sealsWell s none = true → holdStops s arCYCLE 1 = false →
    Gives (.recordSeal true none) s fun t =>
      t.flow.fq1 = l ∧ recorded s t arCYCLE 1 128 (wpOf s arCYCLE) (fitBytes 0x38 c.body ++ leBytes c.tseq 8 ++ leBytes c.clip 8)) ∧
  (∀ (c : CycleEnd) (x : Trace) (s : State), s.flow.fq1 = [c] → c.trace = some x → c.lost = false → sealsWell s none = true →
    stageOpen s arTRACE = true → holdStops s arCYCLE 1 = false → Gives (.recordSeal true none) s fun t =>
      t.flow.fq1 = [] ∧ t.flow.seq = s.flow.seq + 2 ∧
      (∃ b, t.flow.staged = s.flow.staged ++ [(arTRACE, s.flow.seq + 1, b)] ∧ recType b = 3 ∧ b.length = 4096) ∧
      ∃ r ∈ t.flow.recs, r.area = arCYCLE ∧ r.seq = s.flow.seq + 2 ∧ recType r.bytes = 1 ∧ (r.bytes.drop 0x58).take 8 = leBytes (s.flow.seq + 1) 8) ∧
  (∀ (a : Nat) (e : EventReq) (l : List EventReq) (s : State), s.fq0 = e :: l → sealsWell s none = true → Gives (.recordSeal false (some a)) s fun t =>
    t.flow.seq = s.flow.seq ∧ tallied s t FLOW.MEM_ERR_CNT ∧
    t.on FLOW.MRAM_FAIL = s.flow.badAt.any (fun b => decide (s.tick < b.2 + 3600 * 32768) && b.1 != a)) ∧
  (∀ (a : NandArea) (seq : Nat) (bytes : List Nat) (s : State), a ≠ .archive → programs s (nandNum a) = true → s.on FLOW.EVID_HOLD = false →
    pageDue s (nandNum a) = [(seq, bytes)] → Gives (.archivePageCopy a .good) s fun t =>
      t.domOn 11 = true ∧ t.on FLOW.NAND_ON = true ∧
      (∃ r ∈ t.flow.recs, r.area = nandNum a ∧ r.seq = seq ∧ r.bytes = bytes ∧
        (a ≠ .system → r.pos = putAt s (nandNum a) ((bytes.length + 4095) / 4096))) ∧
      ∀ x ∈ t.flow.staged, ¬ (x.1 = nandNum a ∧ x.2.1 = seq)) ∧
  (∀ s : State, programs s arARCHIVE = true → s.on FLOW.EVID_HOLD = false → mramOk s = true → pageDue s arARCHIVE ≠ [] →
    Gives (.archivePageCopy .archive .good) s fun t =>
      let l := onePage 3968 (pageDue s arARCHIVE)
      t.domOn 11 = true ∧ wpOf t arARCHIVE = (putAt s arARCHIVE 1 + 1) % areaCap arARCHIVE ∧ t.flow.copied = (l.getLastD (0, [])).1 ∧
      ∀ r ∈ l, ⟨arARCHIVE, r.1, putAt s arARCHIVE 1, r.2⟩ ∈ t.flow.recs) ∧
  (∀ (a : NandArea) (s : State), programs s (nandNum a) = true → pageDue s (nandNum a) ≠ [] → Gives (.archivePageCopy a .blockBad) s fun t =>
    tallied s t FLOW.NAND_ERR_CNT ∧ tallied s t FLOW.BAD_BLK ∧ (nandNum a, putAt s (nandNum a) 1 / 64) ∈ t.flow.badBlk ∧
    nandOk t (nandNum a) = decide (guaranteed (nandNum a) ≤ usable t (nandNum a))) ∧
  (∀ (a : NandArea) (s : State), programs s (nandNum a) = true → pageDue s (nandNum a) ≠ [] → Gives (.archivePageCopy a .areaBad) s fun t =>
    areaLost s t (nandNum a)) ∧
  (∀ (n : Fin 8) (x : Trace) (s : State), mapFind none n.val s.flow.traces = some x → s.domOn 3 = true → Gives (.traceSample n) s fun t =>
    if s.on (HDR.EN pgFLOW) = false ∨ 1024 ≤ s.flow.fq2.length then tallied s t FLOW.FQ2_DROP_CNT ∧ t.flow = s.flow
    else if flowUp s = false then t.flow = { s.flow with fq2 := s.flow.fq2 ++ [(n.val, traceSample s n)] }
    else t.flow.fq2 = [] ∧ (s.flow.fq2 = [] → ∃ y, mapFind none n.val t.flow.traces = some y ∧
      if x.samples.length < 504 then y.samples = traceSample s n :: x.samples ∧ y.period = x.period
      else y.samples = everySecond (traceSample s n :: x.samples) ∧ y.period = min 1280 (2 * x.period))) ∧
  (∀ (n : Fin 8) (c : Clip) (s : State), s.flow.clips.find? (fun c => c.door = n.val) = some c → flowUp s = true → stageOpen s arCLIP = true →
    Gives (.clipComplete n) s fun t => t.flow.clips = s.flow.clips.erase c ∧ stagedNow s t arCLIP 4 (fun _ => True)) ∧
  (∀ s : State, flowUp s = true → stageOpen s arSYSTEM = true → Gives .snapshotTimer s fun t => snapped s t) ∧
  (∀ (agree : Bool) (torn : List (Fin 7)) (crcBad : List (Nat × Nat)) (s : State), s.domOn 3 = true → s.on FLOW.FLOW_RDY = false →
    s.on PWR.PF_WARN = false → Gives (.flowRecovery agree torn crcBad) s fun t =>
    t.on FLOW.FLOW_RDY = true ∧ t.flow.clips = [] ∧ t.flow.traces = [] ∧
    t.get FLOW.CRC_BAD_CNT = min (s.get FLOW.CRC_BAD_CNT +
      (crcBad.filter (fun b => s.flow.recs.any (fun r => (r.area, r.seq) = b))).length) (2 ^ 32 - 1) ∧
    (∀ r ∈ s.flow.recs, (r.area, r.seq) ∈ crcBad → ∀ c, r ∉ classRecs t c) ∧
    (agree = false → t.on FLOW.MRAM_FAIL = true) ∧
    (agree = true → s.flow.mark - 1 ≤ t.flow.seq ∧
      t.get FLOW.DISCARD_CNT = min (s.get FLOW.DISCARD_CNT + tornCount s torn + s.flow.clips.length) (2 ^ 32 - 1))) ∧
  (∀ s : State, s.on FLOW.NAND_HOLD = false → s.flow.need + 32768 ≤ s.tick → Gives .nandPowerOff s fun t =>
    t.on FLOW.NAND_ON = false ∧ ∀ d, t.domOn d = (s.domOn d && d != 11)) ∧
  (∀ s : State, programs s arARCHIVE = true → mramOk s = false → s.flow.buf ≠ [] → s.on FLOW.EVID_HOLD = false →
    flushDue s = true → Gives (.nandOnlyFlush .good) s fun t =>
      let l := onePage 3968 s.flow.buf
      t.domOn 11 = true ∧ t.flow.buf = s.flow.buf.drop l.length ∧ ∀ r ∈ l, ⟨arARCHIVE, r.1, putAt s arARCHIVE 1, r.2⟩ ∈ t.flow.recs) ∧
  (∀ s : State, programs s arARCHIVE = true → mramOk s = false → s.flow.buf ≠ [] → flushDue s = true → Gives (.nandOnlyFlush .areaBad) s fun t =>
    areaLost s t arARCHIVE ∧ t.on FLOW.CTR_ONLY = true) ∧
  (∀ s : State, s.pageOn pgFLOW = true → s.inRefuge = false →
    recorderFlags s ≠ s.flow.sent ∨ (recorderFlags s ≠ 0 ∧ s.flow.sentAt + msTicks 10000 ≤ s.tick) → Gives .recorderSend s fun t =>
    t.flow.sent = recorderFlags s ∧ t.flow.sentAt = s.tick ∧ (informs s 0 = true →
      (mapFind [] 0 t.nets.sent).take 10 = (s.get DVR.MD_COMID_BASE + 0x21) :: dvrHeader s 4 0x21 4 ++ [recorderFlags s]))

/-- Reading and export (R334, R336, R342, R343, R347): SNAP, HEV, FIND and its end, RD_CLASS, and an export from its start over its
acknowledgements to its end, by the host and by the service tool; what cannot start or has no chunk is refused and counted. -/
def Obligations.ReadingAndExport : Prop :=
  (∀ (src : Src) (s : State), hears s src pgFLOW 0x078 = true → Gives (.snap src) s fun t =>
    if snapRecent s || !flowUp s then t = s.count (HDR.PG_ADJ_CNT pgFLOW) else stageOpen s arSYSTEM = true → snapped s t) ∧
  (∀ (src : Src) (s : State), hears s src pgFLOW 0x078 = true → Gives (.hev src) s fun t =>
    if s.on (HDR.EN pgFLOW) ∧ s.fq0.length < 512 then
      t.fq0 = s.fq0 ++ [⟨0x60, 0xFF, s.get FLOW.HEV_CODE, s.get FLOW.HEV_A, s.get FLOW.HEV_B, s.get64 FLOW.HEV_C_HI FLOW.HEV_C_LO⟩] ∧ t.regs = s.regs
    else t.fq0 = s.fq0 ∧ tallied s t FLOW.FQ0_DROP_CNT) ∧
  (∀ (src : Src) (s : State), hears s src pgFLOW 0x078 = true → Gives (.find src) s fun t =>
    if s.on FLOW.FIND_BUSY then t = s.count (HDR.PG_ADJ_CNT pgFLOW)
    else t.on FLOW.FIND_BUSY = true ∧ t.get FLOW.FIND_CODE = 0 ∧ t.flow.findSeq = s.get64 FLOW.FIND_SEQ_HI FLOW.FIND_SEQ_LO) ∧
  (∀ s : State, s.on FLOW.FIND_BUSY = true → Gives .findDone s fun t =>
    let l := classRecs s (s.get FLOW.RD_CLASS)
    t.on FLOW.FIND_BUSY = false ∧ t.get FLOW.FIND_CODE = findAnswer s l ∧
    ∀ r, l.find? (fun r => r.seq = s.flow.findSeq) = some r → t.get FLOW.FIND_POS = r.pos % 2 ^ 24 ∧
      (3 ≤ s.get FLOW.RD_CLASS → t.get FLOW.NAREA = s.get FLOW.RD_CLASS ∧ t.get FLOW.NPAGE = r.pos % 2 ^ 24)) ∧
  (∀ (src : Src) (v : Word) (s : State), hears s src pgFLOW 0x04C = true → unlocked s src pgFLOW 0x04C = true → Gives (.rdClassWrite src v) s fun t =>
    let c := if 1 ≤ v.toNat % 16 ∧ v.toNat % 16 ≤ 6 then v.toNat % 16 else 1
    t.get FLOW.RD_CLASS = c ∧ t.get FLOW.CL_CAP = areaCap c ∧
    t.get64 FLOW.CL_FIRST_SEQ_HI FLOW.CL_FIRST_SEQ_LO = ((classRecs s c).headD ⟨c, 0, 0, []⟩).seq % 2 ^ 64 ∧
    t.get64 FLOW.CL_LAST_SEQ_HI FLOW.CL_LAST_SEQ_LO = ((classRecs s c).getLastD ⟨c, 0, 0, []⟩).seq % 2 ^ 64) ∧
  (∀ (src : Src) (s : State), hears s src pgFLOW 0x078 = true → Gives (.expStart src) s fun t =>
    if s.on FLOW.EXP_RUN || !flowUp s then t = s.count (HDR.PG_ADJ_CNT pgFLOW) else exportBegun s t src) ∧
  (∀ (src : Src) (s : State), hears s src pgFLOW 0x078 = true → s.on FLOW.EXP_RUN = true → Gives (.expAbort src) s fun t =>
    t.on FLOW.EXP_RUN = false ∧ t.get FLOW.EXP_CHUNK = 0 ∧ t.flow.exp = none ∧ t.on FLOW.EXP_DONE = s.on FLOW.EXP_DONE) ∧
  (∀ (src : Src) (v : Word) (s : State), hears s src pgFLOW 0x098 = true → Gives (.expAckWrite src v) s fun t =>
    (s.flow.exp = none → t = s.count (HDR.PG_ADJ_CNT pgFLOW)) ∧ ∀ e, s.flow.exp = some e → exportMoved s t e v.toNat s.flow.ackCrc) ∧
  (∀ s : State, served s 1 = true → Gives .slatiExport s fun t =>
    if s.on FLOW.EXP_RUN then replied s t 8 [] ∧ tallied s t (HDR.PG_ADJ_CNT pgFLOW)
    else if s.on TEST.TEST_RUN then replied s t 8 []
    else if flowUp s then exportBegun s t .tool ∧ replied s t (chunkCode s) (chunkFull t)
    else replied s t 5 []) ∧
  (∀ (k crc : Word) (e : Export) (s : State), served s 1 = true → s.flow.exp = some e → Gives (.slatiAck k crc) s fun t =>
    if toolExport s then exportMoved s t e k.toNat crc.toNat ∧
      (if toolExport t then replied s t (chunkCode s) (chunkFull t) else replied s t 0 [])
    else replied s t 5 [] ∧ t.flow = s.flow) ∧
  (∀ s : State, served s 1 = true → Gives .slatiExpabort s fun t =>
    if toolExport s then replied s t 0 [] ∧ t.flow.exp = none ∧ t.on FLOW.EXP_RUN = false else replied s t 5 [] ∧ t.flow = s.flow)

/-! The service link and the tests (R362 to R377). -/

/-- Line and session (R362 to R368): a bad line; HELLO and what else the link tells; the language and the rate with its return; a break; a login by
challenge (the nonce is a free value, log 9; it serves one response, within 30 s) and its lockout; the end of a session. Each reply is 0 or the code
of R369. -/
def Obligations.ServiceSession : Prop :=
  (∀ s : State, slatiUp s = true → Gives .slatiLineError s fun t =>
    tallied s t SVC.FRAME_ERR_CNT ∧ t.get SVC.CMD_CNT = s.get SVC.CMD_CNT ∧ t.svc.reply = (if s.lc = lcSCRAP then 0x200 else 1) ∧ t.svc.words = []) ∧
  (∀ s : State, slatiUp s = true → Gives .slatiHello s fun t =>
    replied s t 0 [s.get SVC.CAP_VER, partNumber s, s.get SYS.SERIAL_HI, s.get SYS.SERIAL_LO]) ∧
  (∀ s : State, slatiUp s = true → Gives .slatiId s fun t =>
    replied s t 0 ([s.get SYS.SERIAL_HI, s.get SYS.SERIAL_LO, s.lc, s.get BOOT.IMG_A_VER, s.get BOOT.IMG_B_VER] ++
      (List.range s.nH).flatMap (fun h => [s.get (LH.HEAD_SER_HI h), s.get (LH.HEAD_SER_LO h)]))) ∧
  (∀ s : State, slatiUp s = true → Gives .slatiStatus s fun t =>
    replied s t 0 ([s.get PWR.MODE, s.get SYS.RF_STEP * 2 ^ 24 + s.get SYS.RF_CODE * 2 ^ 16 + s.get SYS.RF_DETAIL, s.get SAFM.LATCH_SAF,
      s.get COLM.LATCH_COL] ++ (List.range s.nD).map (fun n => s.get (CYCD.STATE n)) ++ [s.get SVC.HOST_NOTE])) ∧
  (∀ s : State, served s 0 = true → Gives .slatiCairn s fun t => replied s t 0 ((List.range 16).map (fun k => s.get (FLOW.CAIRN k)))) ∧
  (∀ (v : Fin 256) (s : State), served s 0 = true → Gives (.slatiVer v) s fun t =>
    if v.val = 1 ∨ v.val = 2 then replied s t 0 [] ∧ t.get SVC.PROTO = v.val
    else replied s t 2 [] ∧ t.get SVC.PROTO = s.get SVC.PROTO ∧ tallied s t SVC.CMD_ERR_CNT) ∧
  (∀ (rate : Word) (c : Nat) (s : State), served s 0 = true → c < 4 → rate.toNat = 115200 * 2 ^ c → Gives (.slatiBaud rate) s fun t =>
    replied s t 0 [] ∧ t.get SVC.BAUD_NOW = c ∧ t.svc.newRate = true) ∧
  (∀ (rate : Word) (s : State), served s 0 = true → (∀ c < 4, rate.toNat ≠ 115200 * 2 ^ c) → Gives (.slatiBaud rate) s fun t =>
    replied s t 2 [] ∧ t.get SVC.BAUD_NOW = s.get SVC.BAUD_NOW) ∧
  (∀ s : State, slatiUp s = true → s.svc.newRate = true → Gives .baudRevert s fun t => t.get SVC.BAUD_NOW = 0 ∧ t.svc.newRate = false) ∧
  (∀ (active : Bool) (s : State), slatiUp s = true → Gives (.slatiBreak active) s fun t =>
    t.on SVC.BREAK = active ∧ (active = true → t.on SVC.SESSION = false ∧ t.get SVC.BAUD_NOW = 0 ∧ t.get SVC.PROTO = 1) ∧
    (active = true → s.on SVC.SESSION = true → SessionOver t)) ∧
  (∀ (role : Fin 256) (s : State), served s 0 = true → Gives (.slatiLogin role) s fun t =>
    if s.on SVC.LOCKOUT then replied s t 7 []
    else if role.val = 0 ∨ 3 < role.val then replied s t 2 []
    else if role.val = 3 ∧ s.lc ≠ lcFACTORY ∧ s.lc ≠ lcRETURN then replied s t 4 []
    else ∃ n : BitVec 32, replied s t 0 [n.toNat] ∧ t.svc.nonce = some (role.val, n.toNat, s.tick)) ∧
  (∀ (resp : Word) (s : State), served s 0 = true → s.on SVC.LOCKOUT = true → Gives (.slatiResp resp) s fun t => replied s t 7 [] ∧ t.svc.nonce = s.svc.nonce) ∧
  (∀ (resp : Word) (s : State), served s 0 = true → s.on SVC.LOCKOUT = false → Gives (.slatiResp resp) s fun t =>
    t.svc.nonce = none ∧ (s.svc.nonce = none → replied s t 5 []) ∧
    ∀ role n at_, s.svc.nonce = some (role, n, at_) →
      if at_ + 30 * 32768 ≤ s.tick then replied s t 5 [] ∧ t.get SVC.ROLE = s.get SVC.ROLE
      else if resp.toNat = loginResponse s role n then replied s t 0 [] ∧ loggedIn s t role else replied s t 3 [] ∧ loginFailed s t) ∧
  (∀ (role n at_ : Nat) (s : State), s.svc.nonce = some (role, n, at_) → Gives .nonceExpiry s fun t =>
    t = if at_ + 30 * 32768 ≤ s.tick then { s with svc := { s.svc with nonce := none } } else s) ∧
  (∀ s : State, s.svc.nonce = none → Gives .nonceExpiry s fun t => t = s) ∧
  (∀ s : State, Gives .lockoutEnd s fun t => t = if s.svc.lockAt ≤ s.tick then s.setB SVC.LOCKOUT false else s) ∧
  (∀ s : State, served s 0 = true → Gives .slatiLogout s fun t => replied s t 0 [] ∧ (s.on SVC.SESSION = true → SessionOver t)) ∧
  (∀ s : State, slatiUp s = true → s.on SVC.SESSION = true → Gives .sessionTimeout s fun t =>
    if s.svc.lastCmd + 600 * 32768 ≤ s.tick then SessionOver t else t = s)

/-- What the tool reads, writes and starts (R65, R72, R357, R368, R372 to R377): register and indirect words, the clock, a restart, a monitor, a
test with its end, reported on the link, and its abort, the parameter block and the telegram configuration; each reply is 0, 0x100 for a clamped write or the code of
R369. -/
def Obligations.ServiceCommands : Prop :=
  (∀ (pg : Fin 256) (off : Fin 4096) (n : Fin 1025) (s : State), served s 0 = true → Gives (.slatiRd pg off n) s fun t =>
    if off.val % 4 ≠ 0 ∨ n.val = 0 ∨ 0x1000 < off.val + 4 * n.val then replied s t 6 []
    else (0x03C ≤ off.val ∨ off.val + 4 * n.val ≤ 0x030) →
      replied s t 0 ((List.range n.val).map (fun i => (taken s).readWord (pg.val * 0x1000 + (off.val + 4 * i))))) ∧
  (∀ (pg : Fin 256) (sp : Fin 16) (a : Word) (n : Fin 1025) (s : State), served s 0 = true → Gives (.slatiRdi pg sp a n) s fun t =>
    (n.val = 0 → replied s t 6 []) ∧ (n.val ≠ 0 → indPage pg.val = false → replied s t 0 (List.replicate n.val 0)) ∧
    (n.val ≠ 0 → plainSpace pg.val sp.val = true → s.domOn (spaceDom pg.val sp.val) = true → pairIdle s pg.val .tool = true →
      replied s t 0 ((List.range n.val).map (fun i => if a.toNat / 4 * 4 + 4 * i < spaceLen s pg.val sp.val then
        s.rd32 pg.val sp.val (a.toNat / 4 * 4 + 4 * i) else 0)))) ∧
  (∀ (pg : Fin 256) (off : Fin 4096) (v : Word) (s : State), served s 1 = true → Gives (.slatiWr pg off v) s fun t =>
    (s.inRefuge = true → replied s t 9 []) ∧ (s.inRefuge = false → off.val % 4 ≠ 0 → replied s t 6 []) ∧
    (s.inRefuge = false → off.val % 4 = 0 → s.hasPage pg.val = false → replied s t 0x100 [] ∧ tallied s t (HDR.PG_ADJ_CNT pgSYS)) ∧
    (hears s .tool pg.val off.val = true → plainRegister pg.val off.val = true → (replied s t 0 [] ∨ replied s t 0x100 []) ∧
      ∀ d ∈ rowsAt (pg.val * 0x1000 + off.val),
        t.get d.reg = if d.acc = .ro || (taken s).frozen .tool d || !pageTakes (taken s) pg.val off.val d.reg then (taken s).get d.reg
          else limited (pageRules pg.val off.val) (taken s) d (bitsOf v.toNat d.reg.lo d.reg.w))) ∧
  (∀ (pg : Fin 256) (sp : Fin 16) (a v : Word) (s : State), served s 1 = true → Gives (.slatiWri pg sp a v) s fun t =>
    (s.inRefuge = true → replied s t 9 []) ∧
    (s.hwLock pg.val = false → plainSpace pg.val sp.val = true → s.domOn (spaceDom pg.val sp.val) = true → pairIdle s pg.val .tool = true →
      a.toNat < spaceLen s pg.val sp.val → replied s t 0 [] ∧ t.rd32 pg.val sp.val (a.toNat / 4 * 4) = v.toNat)) ∧
  (∀ (y : Fin 10000) (m d h mi sec : Fin 100) (s : State), served s 1 = true → Gives (.slatiClock y m d h mi sec) s fun t =>
    if dateOk y.val m.val d.val h.val mi.val sec.val = false then replied s t 6 [] ∧ t.drip = s.drip
    else replied s t 0 [] ∧ (s.on PWR.PF_WARN = false →
      let cal := calOf ⟨y.val - 2000, m.val, d.val, h.val, mi.val, sec.val, 0⟩
      t.drip.sets = s.drip.sets ++ [(calHi cal, calLo cal, true)])) ∧
  (∀ s : State, served s 1 = true → Gives .slatiRestart s fun t =>
    if s.pwr.phase ≠ .powerDown ∧ (s.inRefuge || (axesRest s && allLocked s)) then
      Restarted (taken s) t ∧ (∀ c ∈ startCauses, t.on c = decide (c = SYS.SVC_RST)) ∧ t.svc.reply = 0 ∧ t.svc.words = []
    else replied s t 5 [] ∧ tallied s t SYS.RST_REFUSE_CNT) ∧
  (∀ (tp : Fin 32) (cls : Fin 16) (idx : Fin 64) (s : State), served s 1 = true → Gives (.slatiMon tp cls idx) s fun t =>
    if tp.val < 9 ∨ 24 < tp.val ∨ 8 < cls.val ∨ monIndexOk s cls.val idx.val = false then replied s t 6 []
    else if cls.val = 0 ∧ s.owner 2 (tp.val - 9) ≠ 1 then replied s t 0 [] ∧ (s.owner 2 (tp.val - 9) = 6 → t.owner 2 (tp.val - 9) = 0 ∧ tpSel t (tp.val - 9) = 0)
    else if 1 ≤ s.owner 2 (tp.val - 9) ∧ s.owner 2 (tp.val - 9) ≤ 4 then
      replied s t 5 [] ∧ t.owner 2 (tp.val - 9) = s.owner 2 (tp.val - 9) ∧ tpSel t (tp.val - 9) = tpSel s (tp.val - 9)
    else replied s t 0 [] ∧ t.owner 2 (tp.val - 9) = 6 ∧ tpSel t (tp.val - 9) = cls.val * 4096 + idx.val) ∧
  (∀ (x : TestName) (s : State), served s 1 = true → testRefusal (taken s) x = none → Gives (.slatiTest x) s fun t =>
    replied s t 0 [] ∧ t.on TEST.TEST_RUN = true ∧ t.get TEST.TEST_CODE = testCode x ∧ t.get TEST.TEST_ARG = testArg x ∧ t.get TEST.TEST_STEP = 1 ∧
    t.get TEST.TEST_RESULT = 0 ∧ t.on TEST.TEST_PASS = false ∧ t.on TEST.TEST_FAIL = false ∧ tallied s t TEST.TEST_RUN_CNT ∧
    t.on TEST.M_TEST = testMoving s x ∧ ∀ n, testDoor x = some n → t.bit TEST.TEST_OWN_DW n = true) ∧
  (∀ (x : TestName) (c : Nat) (s : State), served s 1 = true → testRefusal (taken s) x = some c → Gives (.slatiTest x) s fun t =>
    replied s t c [] ∧ t.on TEST.TEST_RUN = s.on TEST.TEST_RUN ∧
    if c = 8 ∨ c = 2 then t.get TEST.TEST_RESULT = s.get TEST.TEST_RESULT
    else t.get TEST.TEST_RESULT = 4 ∧ t.get TEST.TEST_CODE = testCode x ∧ t.get TEST.TEST_ARG = testArg x) ∧
  (∀ (pass : Bool) (v1 v2 : Int) (e : Option (Fin 4096)) (s : State), s.on TEST.TEST_RUN = true → Gives (.testComplete pass v1 v2 e) s fun t =>
    let ok := pass && testMeets s
    t.on TEST.TEST_RUN = false ∧ t.on TEST.TEST_PASS = ok ∧ t.on TEST.TEST_FAIL = !ok ∧ t.get TEST.TEST_RESULT = (if ok then 1 else 2) ∧
    t.getS TEST.TEST_VAL1 = satS 32 v1 ∧ t.getS TEST.TEST_VAL2 = satS 32 v2 ∧ t.get TEST.TEST_OWN_DW = 0 ∧ t.on TEST.M_TEST = false ∧
    t.svc.reply = 0x300 ∧ t.svc.words.drop 3 = ([(bit1 ok : Int), v1, v2] ++ s.svc.notes).map (un 32) ∧
    (ok = false → tallied s t TEST.TEST_FAIL_CNT) ∧ (ok = true → s.get TEST.TEST_CODE = 5 → t.on COLM.TEST_DUE = false) ∧
    (s.get TEST.TEST_CODE = 6 → ∀ o, e = some o → t.get (AX.EL_OFS (s.get TEST.TEST_ARG % 16)) = o.val)) ∧
  (∀ s : State, served s 0 = true → Gives .slatiStop s fun t =>
    replied s t 0 [] ∧ t.on TEST.TEST_RUN = false ∧
    if s.on TEST.TEST_RUN then t.get TEST.TEST_RESULT = 3 ∧ tallied s t TEST.TEST_ABORT_CNT ∧ t.get TEST.TEST_OWN_DW = 0
    else t.get TEST.TEST_RESULT = s.get TEST.TEST_RESULT ∧ t.get TEST.TEST_ABORT_CNT = s.get TEST.TEST_ABORT_CNT) ∧
  (∀ s : State, commissions s = true → Gives .slatiParamRd s fun t => replied s t 0 (s.rdBytes pgSAFM 1 0 0x80)) ∧
  (∀ s : State, commissions s = true → Gives .slatiTcfgRd s fun t => replied s t 0 (s.rdBytes pgDST 2 0 0x80)) ∧
  (∀ s : State, commissions s = true → Gives .slatiParamCommit s fun t =>
    replied s t 0 [signature t, signature t] ∧ t.svc.params = [] ∧ t.get SEAL.SIG_CRC = signature t % 2 ^ SEAL.SIG_CRC.w ∧
    t.on SEAL.SIG_OK = decide (signature t = s.saf.sealB) ∧ ∀ a < 0x80, t.rd8 pgSAFM 1 a = stagedByte s pgSAFM 1 s.svc.params a) ∧
  (∀ s : State, commissions s = true → Gives .slatiTcfgCommit s fun t =>
    replied s t 0 [] ∧ t.svc.tcfg = [] ∧ t.rd32 pgDST 2 0x7C = crc32 (t.rdBytes pgDST 2 0 0x7C) % 2 ^ 32 ∧
    ∀ a < 0x7C, t.rd8 pgDST 2 a = stagedByte s pgDST 2 s.svc.tcfg a) ∧
  (∀ (src : Src) (tp : Fin 16) (v : Fin 65536) (s : State), busUp s = true → s.hwLock pgTEST = false → Gives (.tpSelWrite src tp v) s fun t =>
    if s.owner 2 tp = (match src with | .host => 5 | .tool => 6) then tpSel t tp = monSel s v.val
    else tpSel t tp = tpSel s tp ∧ (tpLive v.val ≠ tpSel s tp → tallied s t (HDR.PG_ADJ_CNT pgTEST)))
end

