-- ==== Sys2Proof/Laws/Store.lean ====
section
/-! SUPPORT. Laws of sparse storage and of the register file and the storage built on it: a read after a write, what a write
leaves alone, and that every write keeps the one form. -/

set_option Elab.async false

namespace Sys2Proof.Machine

variable {V : Type}

theorem mapFind_del_self (d : V) (k : Nat) (m : List (Nat × V)) : mapFind d k (mapDel k m) = d := by
  induction m with
  | nil => rfl
  | cons e m ih =>
    obtain ⟨j, w⟩ := e
    by_cases h : j = k
    · simp [mapDel, h, ih]
    · simp [mapDel, mapFind, h, ih]

theorem mapFind_del_other (d : V) {k j : Nat} (h : j ≠ k) (m : List (Nat × V)) :
    mapFind d k (mapDel j m) = mapFind d k m := by
  induction m with
  | nil => rfl
  | cons e m ih =>
    obtain ⟨i, w⟩ := e
    by_cases h1 : i = j
    · subst h1; simp [mapDel, mapFind, h, ih]
    · by_cases h2 : i = k
      · subst h2; simp [mapDel, mapFind, h1]
      · simp [mapDel, mapFind, h1, h2, ih]

theorem mapFind_ins_self (d : V) (k : Nat) (v : V) (m : List (Nat × V)) : mapFind d k (mapIns k v m) = v := by
  induction m with
  | nil => simp [mapIns, mapFind]
  | cons e m ih =>
    obtain ⟨j, w⟩ := e
    by_cases h1 : k < j
    · simp [mapIns, mapFind, h1]
    · by_cases h2 : k = j
      · simp [mapIns, mapFind, h2]
      · simp [mapIns, mapFind, h1, h2, Ne.symm h2, ih]

theorem mapFind_ins_other (d : V) {k j : Nat} (h : j ≠ k) (v : V) (m : List (Nat × V)) :
    mapFind d k (mapIns j v m) = mapFind d k m := by
  induction m with
  | nil => simp [mapIns, mapFind, h]
  | cons e m ih =>
    obtain ⟨i, w⟩ := e
    by_cases h1 : j < i
    · simp [mapIns, mapFind, h1, h]
    · by_cases h2 : j = i
      · subst h2; simp [mapIns, mapFind, h]
      · by_cases h3 : i = k
        · subst h3; simp [mapIns, mapFind, h1, h2]
        · simp [mapIns, mapFind, h1, h2, h3, ih]

/-- A read after a write to the same key. -/
theorem mapFind_put_self [DecidableEq V] (d : V) (k : Nat) (v : V) (m : List (Nat × V)) :
    mapFind d k (mapPut d k v m) = v := by
  unfold mapPut
  split
  · rw [mapFind_del_self]; exact Eq.symm ‹_›
  · exact mapFind_ins_self d k v m

/-- A write leaves every other key alone. -/
theorem mapFind_put_other [DecidableEq V] (d e : V) {k j : Nat} (h : j ≠ k) (v : V) (m : List (Nat × V)) :
    mapFind d k (mapPut e j v m) = mapFind d k m := by
  unfold mapPut
  split
  · exact mapFind_del_other d h m
  · exact mapFind_ins_other d h v m

theorem keysAbove_del {j k : Nat} {m : List (Nat × V)} (h : keysAbove j m = true) : keysAbove j (mapDel k m) = true := by
  induction m with
  | nil => rfl
  | cons e m ih =>
    obtain ⟨i, w⟩ := e
    simp only [keysAbove, Bool.and_eq_true, decide_eq_true_eq] at h
    by_cases h1 : i = k
    · simp [mapDel, h1, ih h.2]
    · simp [mapDel, h1, keysAbove, h.1, ih h.2]

theorem keysAbove_ins {j k : Nat} {v : V} {m : List (Nat × V)} (hk : j < k) (h : keysAbove j m = true) :
    keysAbove j (mapIns k v m) = true := by
  induction m with
  | nil => simp [mapIns, keysAbove, hk]
  | cons e m ih =>
    obtain ⟨i, w⟩ := e
    simp only [keysAbove, Bool.and_eq_true, decide_eq_true_eq] at h
    unfold mapIns
    split
    · simp [keysAbove, hk, h.1, h.2]
    · split
      · simp [keysAbove, hk, h.2]
      · simp [keysAbove, h.1, ih h.2]

theorem keysAbove_trans {i j : Nat} {m : List (Nat × V)} (hij : i < j) (h : keysAbove j m = true) :
    keysAbove i m = true := by
  induction m with
  | nil => rfl
  | cons e m ih =>
    obtain ⟨k, w⟩ := e
    simp only [keysAbove, Bool.and_eq_true, decide_eq_true_eq] at h ⊢
    exact ⟨by omega, ih h.2⟩

theorem mapSorted_del {k : Nat} {m : List (Nat × V)} (h : mapSorted m = true) : mapSorted (mapDel k m) = true := by
  induction m with
  | nil => rfl
  | cons e m ih =>
    obtain ⟨i, w⟩ := e
    simp only [mapSorted, Bool.and_eq_true] at h
    by_cases h1 : i = k
    · simp [mapDel, h1, ih h.2]
    · simp [mapDel, h1, mapSorted, keysAbove_del h.1, ih h.2]

theorem mapSorted_ins {k : Nat} {v : V} {m : List (Nat × V)} (h : mapSorted m = true) :
    mapSorted (mapIns k v m) = true := by
  induction m with
  | nil => rfl
  | cons e m ih =>
    obtain ⟨i, w⟩ := e
    simp only [mapSorted, Bool.and_eq_true] at h
    unfold mapIns
    split
    · rename_i hk
      simp [mapSorted, keysAbove, hk, h.1, h.2, keysAbove_trans hk h.1]
    · split
      · rename_i h1 h2
        subst h2; simp [mapSorted, h.1, h.2]
      · rename_i h1 h2
        simp [mapSorted, keysAbove_ins (by omega : i < k) h.1, ih h.2]

/-- A write keeps the rising order. -/
theorem mapSorted_put [DecidableEq V] {d : V} {k : Nat} {v : V} {m : List (Nat × V)} (h : mapSorted m = true) :
    mapSorted (mapPut d k v m) = true := by
  unfold mapPut
  split
  · exact mapSorted_del h
  · exact mapSorted_ins h

theorem keysAbove_filter {j : Nat} {p : Nat × V → Bool} {m : List (Nat × V)} (h : keysAbove j m = true) :
    keysAbove j (m.filter p) = true := by
  induction m with
  | nil => rfl
  | cons e m ih =>
    obtain ⟨i, w⟩ := e
    simp only [keysAbove, Bool.and_eq_true, decide_eq_true_eq] at h
    rw [List.filter_cons]
    split
    · simp [keysAbove, h.1, ih h.2]
    · exact ih h.2

theorem mapSorted_filter {p : Nat × V → Bool} {m : List (Nat × V)} (h : mapSorted m = true) :
    mapSorted (m.filter p) = true := by
  induction m with
  | nil => rfl
  | cons e m ih =>
    obtain ⟨i, w⟩ := e
    simp only [mapSorted, Bool.and_eq_true] at h
    rw [List.filter_cons]
    split
    · simp [mapSorted, keysAbove_filter h.1, ih h.2]
    · exact ih h.2

theorem all_mapDel {p : Nat × V → Bool} {k : Nat} {m : List (Nat × V)} (h : m.all p = true) :
    (mapDel k m).all p = true := by
  induction m with
  | nil => rfl
  | cons e m ih =>
    obtain ⟨i, w⟩ := e
    simp only [List.all_cons, Bool.and_eq_true] at h
    by_cases h1 : i = k
    · simpa [mapDel, h1] using ih h.2
    · simp [mapDel, h1, h.1, ih h.2]

theorem all_mapIns {p : Nat × V → Bool} {k : Nat} {v : V} {m : List (Nat × V)} (hv : p (k, v) = true)
    (h : m.all p = true) : (mapIns k v m).all p = true := by
  induction m with
  | nil => simpa [mapIns] using hv
  | cons e m ih =>
    obtain ⟨i, w⟩ := e
    simp only [List.all_cons, Bool.and_eq_true] at h
    unfold mapIns
    split
    · simp [hv, h.1, h.2]
    · split
      · simp [hv, h.2]
      · simp [h.1, ih h.2]

/-- A stored byte keeps the form of the storage. -/
theorem Memory.wf_put {m : List Host.Cell} {k : Nat} {v : Byte} (h : Memory.wf m = true) :
    Memory.wf (mapPut (memReset k) k v m) = true := by
  simp only [Memory.wf, Bool.and_eq_true] at h ⊢
  refine ⟨mapSorted_put h.1, ?_⟩
  unfold mapPut
  split
  · exact all_mapDel h.2
  · exact all_mapIns (by simpa using ‹_›) h.2

/-- Bytes going back to what nothing written reads as keep the form of the storage. -/
theorem Memory.wf_filter {m : List Host.Cell} {p : Host.Cell → Bool} (h : Memory.wf m = true) :
    Memory.wf (m.filter p) = true := by
  simp only [Memory.wf, Bool.and_eq_true] at h ⊢
  exact ⟨mapSorted_filter h.1, by simp only [List.all_filter, List.all_eq_true] at h ⊢; intro x hx; simp [h.2 x hx]⟩

/-- A field just written holds the value reduced to its width. -/
@[simp] theorem State.get_set_self (s : State) (r : Reg) (v : Nat) : (s.set r v).get r = v % 2 ^ r.w := by
  simp [State.get, State.set, mapFind_put_self]

/-- A write leaves every field stored elsewhere alone. -/
theorem State.get_set_other (s : State) {r q : Reg} (h : r.key ≠ q.key) (v : Nat) : (s.set r v).get q = s.get q := by
  simp [State.get, State.set, mapFind_put_other _ _ h]

/-- The key of a byte in storage. -/
theorem memKey_inj {pg sp a pg' sp' a' : Nat} (h1 : sp < 16) (h2 : sp' < 16) (h : memKey pg sp a = memKey pg' sp' a') :
    pg = pg' ∧ sp = sp' ∧ a % 2 ^ 32 = a' % 2 ^ 32 := by
  unfold memKey at h; omega

/-- A byte just stored reads back. -/
theorem State.rd8_wr8_self (s : State) (pg sp a v : Nat) : (s.wr8 pg sp a v).rd8 pg sp a = v % 256 := by
  simp [State.rd8, State.wr8, mapFind_put_self]

/-- A stored byte leaves every other byte alone. -/
theorem State.rd8_wr8_other (s : State) {pg sp a pg' sp' a' : Nat} (v : Nat) (h : memKey pg sp a ≠ memKey pg' sp' a') :
    (s.wr8 pg sp a v).rd8 pg' sp' a' = s.rd8 pg' sp' a' := by
  simp [State.rd8, State.wr8, mapFind_put_other _ _ h]

theorem Inv.set {s : State} (h : Inv s) (r : Reg) (v : Nat) : Inv (s.set r v) := ⟨mapSorted_put h.1, h.2⟩
theorem Inv.wr8 {s : State} (h : Inv s) (pg sp a v : Nat) : Inv (s.wr8 pg sp a v) := by
  unfold State.wr8
  exact ⟨h.1, Memory.wf_put h.2.1, h.2.2⟩

theorem Inv.memFilter {s : State} (h : Inv s) (p : Host.Cell → Bool) : Inv { s with mem := s.mem.filter p } :=
  ⟨h.1, Memory.wf_filter h.2.1, h.2.2⟩

end Sys2Proof.Machine
end

