-- ==== Sys2Proof/Laws/Fams.lean ====
section
/-! SUPPORT. The register fields by number: each name of RegNames.lean is one family of keys (a base, a stride, a count, a
lowest bit), so that a set of fields is one natural number, a bit per name. -/

set_option Elab.async false

namespace Sys2Proof.Machine

/-- The keys of one name of the register file. -/
structure Fam where
  base   : Nat
  stride : Nat
  count  : Nat
  lo     : Nat
  deriving DecidableEq, Repr

/-- Whether a key belongs to a family. -/
def Fam.has (f : Fam) (k : Nat) : Prop := ∃ n, n < f.count ∧ k = (f.base + n * f.stride) * 32 + f.lo

/-- Families 0 to 31. -/
def famBits0 : Nat := 0x100010000000008018001000000000801C00100000000080000801000000038008080100000003801D080100000003801E080100000003801F080100000003800008010000000340020801000000030000080100000002C0000801000000028001080100000002801F080100000002800008010000000240000801000000020000080100000001C0000801000000018000080100000001400008010000000100010801000000010002080100000001000308010000000100040801000000010000080100000000C001080100000000C000080100000000800008010000000040100801000000004000080100000000000808010000000000100801000000000

/-- Families 32 to 63. -/
def famBits1 : Nat := 0x100000000740000010000000070000001000000006C000001000000006800000100000000640000010000000060000001000000005C0000010000000058010001000000005800000100000000540000010000000050000001000000004C0000010000000048001001000000004800200100000000480030010000000048004001000000004800500100000000480060010000000048000001000000004401000100000000440180010000000044000001000000004000500100000000400110010000000040012001000000004001300100000000400140010000000040015001000000004001C001000000004000400100000000080080010000000008

/-- Families 64 to 95. -/
def famBits2 : Nat := 0x8001000000105C009001000000105C00000100000010580040010000001058005001000000105800600100000010580070010000001058000001000000105400000100000010500100010000001050000001000000104C010001000000104C00000100000010480100010000001048000001000000104400100100000010440020010000001044003001000000104400400100000010440050010000001044006001000000104400700100000010440080010000001044009001000000104400A001000000104400B001000000104400C001000000104400000100000010400080010000001040010001000000104000000100000010080080010000001008

/-- Families 96 to 127. -/
def famBits3 : Nat := 0x1000000305800000100000030540000010000003050000001000000304C000001000000304800000100000030440000010000003040001001000000304000200100000030400030010000003040004001000000304000000100000020540000010000002050000001000000204C000001000000204800000100000020440040010000002044000001000000204000000100000020080000010000001080000001000000107C000001000000107800000100000010740000010000001070000001000000106C010001000000106C00000100000010680100010000001068000001000000106401000100000010640000010000001060000001000000105C

/-- Families 128 to 159. -/
def famBits4 : Nat := 0x100010000005048000001000000504401000100000050440000010000005040001001000000504000200100000050400030010000005040004001000000504001000100000050080180010000005008000001000000406C0000010000004068000001000000406400000100000040600100010000004060000001000000405C000001000000405800000100000040540000010000004050000001000000404C00000100000040480000010000004044000001000000404000100100000040400020010000004040003001000000404000400100000040400050010000004040010001000000400801800100000040080000010000003060000001000000305C

/-- Families 160 to 191. -/
def famBits5 : Nat := 0x10001000000604C018001000000604C0000010000006048010001000000604800000100000060440080010000006044010001000000604401800100000060440000010000006040001001000000604000200100000060400030010000006040004001000000604000500100000060400060010000006040007001000000604000800100000060400080010000006008010001000000600801800100000060080000010000005058000001000000505400000100000050500100010000005050000001000000504C008001000000504C00A001000000504C00B001000000504C00C001000000504C00F001000000504C010001000000504C0000010000005048

/-- Families 192 to 223. -/
def famBits6 : Nat := 0xD001000000704C00E001000000704C00F001000000704C00000100000070480080010000007048010001000000704801800100000070480000010000007044010001000000704400000100000070400010010000007040002001000000704000300100000070400040010000007040005001000000704000600100000070400070010000007040008001000000704001000100000070080180010000007008000001000000606800000100000060640000010000006060000001000000605C000001000000605801800100000060580000010000006054010001000000605401800100000060540000010000006050000001000000604C008001000000604C

/-- Families 224 to 255. -/
def famBits7 : Nat := 0x70010000008044008001000000804401000100000080440180010000008044000001000000804000800100000080400100010000008040018001000000804001000100000080080180010000008008000001000000706C000001000000706800000100000070640000010000007060000001000000705C000001000000705800000100000070540100010000007054000001000000705001000100000070500180010000007050002001000000704C003001000000704C004001000000704C005001000000704C006001000000704C007001000000704C008001000000704C009001000000704C00A001000000704C00B001000000704C00C001000000704C

/-- Families 256 to 287. -/
def famBits8 : Nat := 0x1100800800082080120080080008208013008008000820801400800800082080150080080008208016008008000820801700800800082080180080080008208019008008000820801A008008000820801B008008000820801C008008000820801D008008000820801E008008000820801F0080080008208000008008000820400800800800082000100080080008200018008008000820001C00800800082000000010000008050000001000000804C00000100000080480080010000008048010001000000804801A001000000804801B001000000804801C001000000804801D001000000804801E001000000804801F00100000080480060010000008044

/-- Families 288 to 319. -/
def famBits9 : Nat := 0x10100001000800801010000100080100101000010008018010100001000800000800800082540000080080008250000008008000824C000008008000824800000800800082440000080080008240000008008000823C000008008000823800000800800082340000080080008230000008008000822C000008008000822800000800800082240100080080008220000008008000821C010008008000821C0000080080008218010008008000821800000800800082140100080080008214000008008000821000800800800082100100080080008210000008008000820C00D008008000820800E008008000820800F00800800082080100080080008208

/-- Families 320 to 351. -/
def famBits10 : Nat := 0x100101000010058018010100001005800001010000100540000101000010050000010100001004C008010100001004C00C010100001004C010010100001004C000010100001004800001010000100440040101000010044008010100001004400C01010000100440100101000010044000010100001004000101010000100400020101000010040003010100001004000401010000100400050101000010040006010100001004000701010000100400080101000010040009010100001004001001010000100400110101000010040012010100001004001301010000100400140101000010040015010100001004001601010000100400170101000010040

/-- Families 352 to 383. -/
def famBits11 : Nat := 0x1010000100BC00001010000100B800001010000100B400001010000100B000001010000100AC00001010000100A800001010000100A400801010000100A401001010000100A400001010000100A0000010100001009C00001010000100980080101000010098000010100001009401001010000100940000101000010090000010100001008C000010100001008800001010000100840000101000010080000010100001007C000010100001007800001010000100740000101000010070000010100001006C000010100001006800001010000100640000101000010060000010100001005C004010100001005C00001010000100580080101000010058

/-- Families 384 to 415. -/
def famBits12 : Nat := 0x1010000101140000101000010110001010100001011000401010000101100080101000010110000010100001010C00001010000101080100101000010104000010100001010000001010000100FC00001010000100F800001010000100F401001010000100F400001010000100F000801010000100F001001010000100F000001010000100EC00001010000100E801001010000100E801801010000100E800001010000100E400001010000100E000001010000100DC01001010000100DC00001010000100D800001010000100D400001010000100D000001010000100CC00001010000100C800001010000100C400801010000100C400001010000100C0

/-- Families 416 to 447. -/
def famBits13 : Nat := 0x10010100001015C0000101000010158010010100001015800001010000101540000101000010150000010100001014C00001010000101480100101000010148018010100001014800101010000101440020101000010144003010100001014400401010000101440000101000010140000010100001013C010010100001013C0000101000010138010010100001013800001010000101340100101000010134000010100001013001001010000101300180101000010130000010100001012C010010100001012C01001010000101280000101000010124010010100001012400001010000101200100101000010120000010100001011C0000101000010118

/-- Families 448 to 479. -/
def famBits14 : Nat := 0x701010000280400080101000028040009010100002804000A010100002804000B0101000028040018010100002804001C010100002804000001010000280080080101000028008010010100002800801801010000280080000010000020060000001000002005C000001000002005800000100000200540000010000020050000001000002004C0000010000020048000001000002004400000100000200400010010000020040002001000002004000300100000200400000010000020008010001000002000801800100000200080000101000010170000010100001016C000010100001016800001010000101640000101000010160000010100001015C

/-- Families 480 to 511. -/
def famBits15 : Nat := 0x1010000280840000101000028080000010100002807C000010100002807800001010000280740100101000028070000010100002806C010010100002806C018010100002806C01C010100002806C0000101000028068010010100002806800001010000280640000101000028060000010100002805C0000101000028058000010100002805400001010000280500100101000028050000010100002804C010010100002804C00001010000280480080101000028048010010100002804801801010000280480000101000028044001010100002804000201010000280400030101000028040004010100002804000501010000280400060101000028040

/-- Families 512 to 543. -/
def famBits16 : Nat := 0x1000003904400800100000390440100010000039044018001000003904400000100000390400100010000039040018001000003904000800100000390080100010000039008018001000003900800000100000380540000010000038050000001000003804C010001000003804C000001000003804801000100000380480000010000038044010001000003804400000100000380400010010000038040002001000003804000300100000380400040010000038040000001000003800801000100000380080180010000038008000010100002809C000010100002809800001010000280940000101000028090000010100002808C0000101000028088

/-- Families 544 to 575. -/
def famBits17 : Nat := 0x800800400391200100080040039120000008004003911C010008004003911C00000800400391180100080040039118000008004003911401000800400391140000080040039110000008004003910C000008004003910800000800400391040000080040039100008008004003910001000800400391000000010000039080000001000003907C000001000003907800000100000390740000010000039070000001000003906C000001000003906800000100000390640000010000039060000001000003905C00000100000390580080010000039054010001000003905401800100000390540000010000039050000001000003904C0000010000039048

/-- Families 576 to 607. -/
def famBits18 : Nat := 0x9001000004004000A001000004004000B001000004004000C001000004004000D001000004004000E00100000400400000010000040008008001000004000801000100000400080180010000040008000008004003913C010008004003913C00000800400391380100080040039138000008004003913401000800400391340080080040039130009008004003913000A008004003913000B008004003913000C008004003913000D008004003913000E008004003913000F00800400391300180080040039130000008004003912C010008004003912C00000800400391280100080040039128000008004003912401000800400391240000080040039120

/-- Families 608 to 639. -/
def famBits19 : Nat := 0xC03000200401000100300020040100000001000004008C000001000004008800000100000400840000010000040080000001000004007C000001000004007800000100000400740000010000040070000001000004006C0000010000040068000001000004006400000100000400600100010000040060000001000004005C010001000004005C000001000004005800000100000400540000010000040050000001000004004C00000100000400480000010000040044000001000004004000100100000400400020010000040040003001000004004000400100000400400050010000040040006001000004004000700100000400400080010000040040

/-- Families 640 to 671. -/
def famBits20 : Nat := 0x1800100000480080000010000041078000001000004107400000C0004041044000001000004104000100100000410400020010000041040003001000004104001000100000410080180010000041008000030002004011C0000300020040118010030002004011400003000200401100100300020040110000030002004010C010030002004010C000030002004010800103000200401080020300020040108003030002004010800403000200401080050300020040108006030002004010800703000200401080080300020040108009030002004010801B03000200401080000300020040104000030002004010000403000200401000080300020040100

/-- Families 672 to 703. -/
def famBits21 : Nat := 0x410000500400010041000050040003004100005004000400410000500400050041000050040006004100005004000700410000500400080041000050040009004100005004000A004100005004000B0041000050040010004100005004000000410000500080080041000050008010004100005000801800410000500080000010000048068000001000004806400000100000480600070010000048060000001000004805C000001000004805800000100000480540000010000048050000001000004804C0000010000048048000001000004804400000100000480400010010000048040002001000004804000800100000480080100010000048008

/-- Families 704 to 735. -/
def famBits22 : Nat := 0x4100005006C000004100005006800000410000500640000041000050060000004100005005C004004100005005C008004100005005C010004100005005C00800410000500580100041000050058018004100005005800000410000500540000041000050050008004100005005001000410000500500180041000050050000004100005004C008004100005004C010004100005004C018004100005004C00000410000500480040041000050048005004100005004800600410000500480080041000050048009004100005004800A004100005004800C00410000500480100041000050048008004100005004401000410000500440180041000050044

/-- Families 736 to 767. -/
def famBits23 : Nat := 0x410000500C400000410000500C000000410000500BC00000410000500B800000410000500B400000410000500B000000410000500AC00000410000500A800000410000500A400000410000500A0000004100005009C000004100005009800000410000500940000041000050090000004100005008C000004100005008800000410000500840000041000050080000004100005007C004004100005007C008004100005007C00C004100005007C01C004100005007C000004100005007801800410000500780000041000050074008004100005007401000410000500740170041000050074018004100005007401F00410000500740000041000050070

/-- Families 768 to 799. -/
def famBits24 : Nat := 0x100000590440000010000059040001001000005904000200100000590400180010000059008000001000005809C000001000005809800000100000580940000010000058090000001000005808C000001000005808800000100000580840000010000058080000004000805806401000400080580640000040008058060000001000005804C0000010000058048000001000005804400000100000580400010010000058040002001000005804000300100000580400040010000058040005001000005804000800100000580080100010000058008018001000005800800000410000500D400000410000500D000000410000500CC00000410000500C8

/-- Families 800 to 831. -/
def famBits25 : Nat := 0x10001000005B048000001000005B044008001000005B044010001000005B044018001000005B044000001000005B040001001000005B040002001000005B040003001000005B040004001000005B040000001000005B008008001000005B008010001000005B008000001000005A060000001000005A05C000001000005A058000001000005A054000001000005A050000001000005A04C000001000005A048000001000005A044004001000005A044007001000005A044008001000005A044000001000005A040001001000005A040018001000005A008000001000005905800000100000590540000010000059050000001000005904C0000010000059048

/-- Families 832 to 863. -/
def famBits26 : Nat := 0x1000005C060000001000005C05C000001000005C058000001000005C054018001000005C054000001000005C050000001000005C04C010001000005C04C000001000005C048004001000005C048014001000005C048000001000005C044000001000005C040018001000005C008000001000005B088000001000005B084000001000005B080000001000005B07C000001000005B078000001000005B074000001000005B070000001000005B06C000001000005B068000001000005B064000001000005B060008001000005B060000001000005B05C000001000005B058000001000005B054000001000005B050000001000005B04C000001000005B048

/-- Families 864 to 895. -/
def famBits27 : Nat := 0x1000005D06C000001000005D068000001000005D064000001000005D060000001000005D05C000001000005D058000001000005D054004001000005D054000001000005D050000001000005D04C008001000005D04C010001000005D04C018001000005D04C000001000005D048010001000005D048000001000005D044008001000005D044010001000005D04401D001000005D04401E001000005D04401F001000005D044000001000005D040001001000005D040002001000005D040003001000005D040004001000005D040005001000005D040006001000005D040007001000005D040008001000005D008010001000005D008018001000005D008

/-- Families 896 to 927. -/
def famBits28 : Nat := 0x1000006005C000001000006005800000100000600540000010000060050000001000006004C00000100000600480100010000060048000001000006004400100100000600440080010000060044000001000006004000100100000600400020010000060040003001000006004000400100000600400050010000060040006001000006004000700100000600400080010000060040009001000006004000A00100000600400000010000060008008001000006000801000100000600080180010000060008000001000005D088000001000005D084000001000005D080000001000005D07C000001000005D078000001000005D074000001000005D070

/-- Families 928 to 959. -/
def famBits29 : Nat := 0x10000060104000001000006010000001000040600C000000100000600B800000100000600B400000100000600B000600100000600B001100100000600B001600100000600B000000100000600AC01000100000600AC00000100000600A800000100000600A400000100000600A0000001000006009C000001000006009800000100000600940000010000060090000001000006008C000001000006008800000100000600840000010000060080000001000006007C01C001000006007C000001000006007800000100000600740000010000060070000001000006006C01C001000006006C000001000006006800000100000600640000010000060060

/-- Families 960 to 991. -/
def famBits30 : Nat := 0x3001000006904001000100000690080180010000069008000001000006806800000100000680640000010000068060000001000006805C000001000006805800000100000680540000010000068050000001000006804C00000100000680480000010000068044010001000006804401800100000680440000010000068040001001000006804000200100000680400030010000068040008001000006800801000100000680080180010000068008000001000006012C000001000006012800000100000601240000010000060120000001000006011C000001000006011800000100000601140000010000060110000001000006010C0000010000060108

/-- Families 992 to 1021. -/
def famBits31 : Nat := 0x10000070064010001000007006001400100000700600180010000070060000001000007005C000001000007005800000100000700540000010000070050000001000007004C0000010000070048000001000007004400000100000700400080010000070008010001000007000801800100000700080000010000069080000001000006907C0000010000069078000001000006907400000100000690700000080004069050000001000006904C00000100000690480000010000069044008001000006904401000100000690440180010000069044000001000006904000100100000690400020010000069040

/-- 32 families, 64 bits each, the first lowest: base in bits 23:0, stride in 39:24, count in 51:40, lowest bit in 56:52. -/
def famWord (k : Nat) : Nat :=
  bif Nat.blt k 32 then (bif Nat.blt k 16 then (bif Nat.blt k 8 then (bif Nat.blt k 4 then (bif Nat.blt k 2 then (bif Nat.blt k
  1 then famBits0 else famBits1) else (bif Nat.blt k 3 then famBits2 else famBits3)) else (bif Nat.blt k 6 then (bif Nat.blt k
  5 then famBits4 else famBits5) else (bif Nat.blt k 7 then famBits6 else famBits7))) else (bif Nat.blt k 12 then (bif Nat.blt
  k 10 then (bif Nat.blt k 9 then famBits8 else famBits9) else (bif Nat.blt k 11 then famBits10 else famBits11)) else (bif
  Nat.blt k 14 then (bif Nat.blt k 13 then famBits12 else famBits13) else (bif Nat.blt k 15 then famBits14 else famBits15))))
  else (bif Nat.blt k 24 then (bif Nat.blt k 20 then (bif Nat.blt k 18 then (bif Nat.blt k 17 then famBits16 else famBits17)
  else (bif Nat.blt k 19 then famBits18 else famBits19)) else (bif Nat.blt k 22 then (bif Nat.blt k 21 then famBits20 else
  famBits21) else (bif Nat.blt k 23 then famBits22 else famBits23))) else (bif Nat.blt k 28 then (bif Nat.blt k 26 then (bif
  Nat.blt k 25 then famBits24 else famBits25) else (bif Nat.blt k 27 then famBits26 else famBits27)) else (bif Nat.blt k 30
  then (bif Nat.blt k 29 then famBits28 else famBits29) else (bif Nat.blt k 31 then famBits30 else famBits31))))) else 0

/-- Family `i`. -/
def famAt (i : Nat) : Fam :=
  ⟨(famWord (i / 32) >>> (64 * (i % 32))) % 2 ^ 24, (famWord (i / 32) >>> (64 * (i % 32) + 24)) % 2 ^ 16,
    (famWord (i / 32) >>> (64 * (i % 32) + 40)) % 2 ^ 12, (famWord (i / 32) >>> (64 * (i % 32) + 52)) % 2 ^ 5⟩

/-- The fields a mask names: bit 31 every field, bit 32 + i family i. -/
def InRegs (m k : Nat) : Prop := m.testBit 31 = true ∨ ∃ i, m.testBit (32 + i) = true ∧ (famAt i).has k

/-- One space of a group of pages, of the storage behind the indirect pairs. -/
structure MemFam where
  base  : Nat
  count : Nat
  sp    : Nat
  deriving DecidableEq, Repr

/-- Whether a page and space (16 × page + space) belong to it. -/
def MemFam.has (f : MemFam) (q : Nat) : Prop := ∃ n, n < f.count ∧ q = (f.base + n) * 16 + f.sp

/-- The spaces that commands write. -/
def memTable : List MemFam := [⟨pgTRV, 1, 1⟩, ⟨0x10, 16, 2⟩, ⟨0x10, 16, 15⟩, ⟨pgLANT, 1, 15⟩, ⟨0x28, 16, 2⟩, ⟨pgLVOL, 1, 13⟩, ⟨pgDST, 1, 3⟩, ⟨pgLVOL, 1, 3⟩, ⟨pgLVOL, 1, 14⟩, ⟨0x50, 4, 1⟩, ⟨pgECN, 1, 12⟩, ⟨pgMVB, 1, 1⟩, ⟨pgMVB, 1, 2⟩, ⟨pgLGL, 1, 1⟩, ⟨pgDRIP, 1, 1⟩, ⟨pgSAFM, 1, 1⟩, ⟨pgDST, 1, 2⟩]

/-- Space family `j`. -/
def memAt (j : Nat) : MemFam := memTable.getD j ⟨0, 0, 0⟩

/-- The bytes a mask names: bit 5 every byte, bit 1056 + j space family j. -/
def InMem (m k : Nat) : Prop := m.testBit 5 = true ∨ ∃ j, m.testBit (1056 + j) = true ∧ (memAt j).has (k / 2 ^ 32)

/-- Whether every bit of one mask is in another. -/
def sub (a b : Nat) : Bool := decide (a &&& b = a)

theorem sub_testBit {a b i : Nat} (h : sub a b = true) (hi : a.testBit i = true) : b.testBit i = true := by
  have h1 : a &&& b = a := of_decide_eq_true h
  have h2 : (a &&& b).testBit i = a.testBit i := by rw [h1]
  rw [Nat.testBit_and, hi, Bool.true_and] at h2
  exact h2

theorem sub_testBit_false {a b i : Nat} (h : sub a b = true) (hi : b.testBit i = false) : a.testBit i = false := by
  cases h1 : a.testBit i
  · rfl
  · rw [sub_testBit h h1] at hi; cases hi

theorem InMem.mono {a b k : Nat} (h : sub a b = true) (hk : InMem a k) : InMem b k := by
  obtain h1 | ⟨i, h1, h2⟩ := hk
  · exact .inl (sub_testBit h h1)
  · exact .inr ⟨i, sub_testBit h h1, h2⟩

theorem InRegs.mono {a b k : Nat} (h : sub a b = true) (hk : InRegs a k) : InRegs b k := by
  obtain h1 | ⟨i, h1, h2⟩ := hk
  · exact .inl (sub_testBit h h1)
  · exact .inr ⟨i, sub_testBit h h1, h2⟩


theorem key_HDR_BLK_CODE (pg : Nat) : (famAt 0).has (HDR.BLK_CODE pg).key := ⟨pg % 128, Nat.mod_lt _ (by decide), rfl⟩
theorem key_HDR_INST (pg : Nat) : (famAt 1).has (HDR.INST pg).key := ⟨pg % 128, Nat.mod_lt _ (by decide), rfl⟩
theorem key_HDR_PAGE (pg : Nat) : (famAt 2).has (HDR.PAGE pg).key := ⟨pg % 128, Nat.mod_lt _ (by decide), rfl⟩
theorem key_HDR_VER_MAJ (pg : Nat) : (famAt 3).has (HDR.VER_MAJ pg).key := ⟨pg % 128, Nat.mod_lt _ (by decide), rfl⟩
theorem key_HDR_VER_MIN (pg : Nat) : (famAt 4).has (HDR.VER_MIN pg).key := ⟨pg % 128, Nat.mod_lt _ (by decide), rfl⟩
theorem key_HDR_PG_CAP (pg : Nat) : (famAt 5).has (HDR.PG_CAP pg).key := ⟨pg % 128, Nat.mod_lt _ (by decide), rfl⟩
theorem key_HDR_LP_REQ (pg : Nat) : (famAt 6).has (HDR.LP_REQ pg).key := ⟨pg % 128, Nat.mod_lt _ (by decide), rfl⟩
theorem key_HDR_EN (pg : Nat) : (famAt 7).has (HDR.EN pg).key := ⟨pg % 128, Nat.mod_lt _ (by decide), rfl⟩
theorem key_HDR_LOCKED (pg : Nat) : (famAt 8).has (HDR.LOCKED pg).key := ⟨pg % 128, Nat.mod_lt _ (by decide), rfl⟩
theorem key_HDR_FAULT (pg : Nat) : (famAt 9).has (HDR.FAULT pg).key := ⟨pg % 128, Nat.mod_lt _ (by decide), rfl⟩
theorem key_HDR_DOM_OFF (pg : Nat) : (famAt 10).has (HDR.DOM_OFF pg).key := ⟨pg % 128, Nat.mod_lt _ (by decide), rfl⟩
theorem key_HDR_LP (pg : Nat) : (famAt 11).has (HDR.LP pg).key := ⟨pg % 128, Nat.mod_lt _ (by decide), rfl⟩
theorem key_HDR_RUN (pg : Nat) : (famAt 12).has (HDR.RUN pg).key := ⟨pg % 128, Nat.mod_lt _ (by decide), rfl⟩
theorem key_HDR_PG_IRQ_EN (pg : Nat) : (famAt 13).has (HDR.PG_IRQ_EN pg).key := ⟨pg % 128, Nat.mod_lt _ (by decide), rfl⟩
theorem key_HDR_PG_IRQ_PEND (pg : Nat) : (famAt 14).has (HDR.PG_IRQ_PEND pg).key := ⟨pg % 128, Nat.mod_lt _ (by decide), rfl⟩
theorem key_HDR_PG_FAULT_CNT (pg : Nat) : (famAt 15).has (HDR.PG_FAULT_CNT pg).key := ⟨pg % 128, Nat.mod_lt _ (by decide), rfl⟩
theorem key_HDR_PG_DROP_CNT (pg : Nat) : (famAt 16).has (HDR.PG_DROP_CNT pg).key := ⟨pg % 128, Nat.mod_lt _ (by decide), rfl⟩
theorem key_HDR_PG_ADJ_CNT (pg : Nat) : (famAt 17).has (HDR.PG_ADJ_CNT pg).key := ⟨pg % 128, Nat.mod_lt _ (by decide), rfl⟩
theorem key_HDR_HW_LOCK (pg : Nat) : (famAt 18).has (HDR.HW_LOCK pg).key := ⟨pg % 128, Nat.mod_lt _ (by decide), rfl⟩
theorem key_HDR_SAFE_LOCK (pg : Nat) : (famAt 19).has (HDR.SAFE_LOCK pg).key := ⟨pg % 128, Nat.mod_lt _ (by decide), rfl⟩
theorem key_HDR_HOST_LOCK (pg : Nat) : (famAt 20).has (HDR.HOST_LOCK pg).key := ⟨pg % 128, Nat.mod_lt _ (by decide), rfl⟩
theorem key_HDR_PG_VOTE_CNT (pg : Nat) : (famAt 21).has (HDR.PG_VOTE_CNT pg).key := ⟨pg % 128, Nat.mod_lt _ (by decide), rfl⟩
theorem key_HDR_IND_ADDR (pg : Nat) : (famAt 22).has (HDR.IND_ADDR pg).key := ⟨pg % 128, Nat.mod_lt _ (by decide), rfl⟩
theorem key_HDR_IND_DATA (pg : Nat) : (famAt 23).has (HDR.IND_DATA pg).key := ⟨pg % 128, Nat.mod_lt _ (by decide), rfl⟩
theorem key_HDR_IND_BUSY (pg : Nat) : (famAt 24).has (HDR.IND_BUSY pg).key := ⟨pg % 128, Nat.mod_lt _ (by decide), rfl⟩
theorem key_HDR_IND_END (pg : Nat) : (famAt 25).has (HDR.IND_END pg).key := ⟨pg % 128, Nat.mod_lt _ (by decide), rfl⟩
theorem key_HDR_IND_OFF (pg : Nat) : (famAt 26).has (HDR.IND_OFF pg).key := ⟨pg % 128, Nat.mod_lt _ (by decide), rfl⟩
theorem key_HDR_INC_DIS (pg : Nat) : (famAt 27).has (HDR.INC_DIS pg).key := ⟨pg % 128, Nat.mod_lt _ (by decide), rfl⟩
theorem key_HDR_SPACE (pg : Nat) : (famAt 28).has (HDR.SPACE pg).key := ⟨pg % 128, Nat.mod_lt _ (by decide), rfl⟩
theorem key_SYS_CAP_D : (famAt 29).has SYS.CAP_D.key := ⟨0, by decide, rfl⟩
theorem key_SYS_CAP_S : (famAt 30).has SYS.CAP_S.key := ⟨0, by decide, rfl⟩
theorem key_SYS_CAP_H : (famAt 31).has SYS.CAP_H.key := ⟨0, by decide, rfl⟩
theorem key_SYS_CAP_G : (famAt 32).has SYS.CAP_G.key := ⟨0, by decide, rfl⟩
theorem key_SYS_CAP_C : (famAt 33).has SYS.CAP_C.key := ⟨0, by decide, rfl⟩
theorem key_SYS_LC_STATE : (famAt 34).has SYS.LC_STATE.key := ⟨0, by decide, rfl⟩
theorem key_SYS_LC_WIPE_PEND : (famAt 35).has SYS.LC_WIPE_PEND.key := ⟨0, by decide, rfl⟩
theorem key_SYS_EVID_HOLD : (famAt 36).has SYS.EVID_HOLD.key := ⟨0, by decide, rfl⟩
theorem key_SYS_VISION_FULL : (famAt 37).has SYS.VISION_FULL.key := ⟨0, by decide, rfl⟩
theorem key_SYS_OPERABLE : (famAt 38).has SYS.OPERABLE.key := ⟨0, by decide, rfl⟩
theorem key_SYS_REFUGE : (famAt 39).has SYS.REFUGE.key := ⟨0, by decide, rfl⟩
theorem key_SYS_REFUGE_STEP : (famAt 40).has SYS.REFUGE_STEP.key := ⟨0, by decide, rfl⟩
theorem key_SYS_ST_DONE : (famAt 41).has SYS.ST_DONE.key := ⟨0, by decide, rfl⟩
theorem key_SYS_RF_STEP : (famAt 42).has SYS.RF_STEP.key := ⟨0, by decide, rfl⟩
theorem key_SYS_RF_CODE : (famAt 43).has SYS.RF_CODE.key := ⟨0, by decide, rfl⟩
theorem key_SYS_RF_DETAIL : (famAt 44).has SYS.RF_DETAIL.key := ⟨0, by decide, rfl⟩
theorem key_SYS_LC_CHANGE : (famAt 45).has SYS.LC_CHANGE.key := ⟨0, by decide, rfl⟩
theorem key_SYS_WD_EXP : (famAt 46).has SYS.WD_EXP.key := ⟨0, by decide, rfl⟩
theorem key_SYS_SVC_RST : (famAt 47).has SYS.SVC_RST.key := ⟨0, by decide, rfl⟩
theorem key_SYS_HOST_RST : (famAt 48).has SYS.HOST_RST.key := ⟨0, by decide, rfl⟩
theorem key_SYS_WAKE : (famAt 49).has SYS.WAKE.key := ⟨0, by decide, rfl⟩
theorem key_SYS_BROWN : (famAt 50).has SYS.BROWN.key := ⟨0, by decide, rfl⟩
theorem key_SYS_PWR_ON : (famAt 51).has SYS.PWR_ON.key := ⟨0, by decide, rfl⟩
theorem key_SYS_RST_REQ : (famAt 52).has SYS.RST_REQ.key := ⟨0, by decide, rfl⟩
theorem key_SYS_HOST_HB : (famAt 53).has SYS.HOST_HB.key := ⟨0, by decide, rfl⟩
theorem key_SYS_HOST_RDY : (famAt 54).has SYS.HOST_RDY.key := ⟨0, by decide, rfl⟩
theorem key_SYS_WD_RESTART : (famAt 55).has SYS.WD_RESTART.key := ⟨0, by decide, rfl⟩
theorem key_SYS_HOST_WD_MS : (famAt 56).has SYS.HOST_WD_MS.key := ⟨0, by decide, rfl⟩
theorem key_SYS_HOST_WD_KICK : (famAt 57).has SYS.HOST_WD_KICK.key := ⟨0, by decide, rfl⟩
theorem key_SYS_ST_TIME_MS : (famAt 58).has SYS.ST_TIME_MS.key := ⟨0, by decide, rfl⟩
theorem key_SYS_REFUGE_CNT : (famAt 59).has SYS.REFUGE_CNT.key := ⟨0, by decide, rfl⟩
theorem key_SYS_RST_REFUSE_CNT : (famAt 60).has SYS.RST_REFUSE_CNT.key := ⟨0, by decide, rfl⟩
theorem key_SYS_LC_REFUSE_CNT : (famAt 61).has SYS.LC_REFUSE_CNT.key := ⟨0, by decide, rfl⟩
theorem key_SYS_SERIAL_HI : (famAt 62).has SYS.SERIAL_HI.key := ⟨0, by decide, rfl⟩
theorem key_SYS_SERIAL_LO : (famAt 63).has SYS.SERIAL_LO.key := ⟨0, by decide, rfl⟩
theorem key_PWR_CAP_PDOM : (famAt 64).has PWR.CAP_PDOM.key := ⟨0, by decide, rfl⟩
theorem key_PWR_CAP_SUP : (famAt 65).has PWR.CAP_SUP.key := ⟨0, by decide, rfl⟩
theorem key_PWR_MODE : (famAt 66).has PWR.MODE.key := ⟨0, by decide, rfl⟩
theorem key_PWR_MODE_REQ : (famAt 67).has PWR.MODE_REQ.key := ⟨0, by decide, rfl⟩
theorem key_PWR_ACT_RDY : (famAt 68).has PWR.ACT_RDY.key := ⟨0, by decide, rfl⟩
theorem key_PWR_CELL_LOW : (famAt 69).has PWR.CELL_LOW.key := ⟨0, by decide, rfl⟩
theorem key_PWR_BK_CELL : (famAt 70).has PWR.BK_CELL.key := ⟨0, by decide, rfl⟩
theorem key_PWR_DRV_LIMITING : (famAt 71).has PWR.DRV_LIMITING.key := ⟨0, by decide, rfl⟩
theorem key_PWR_CHOP_SPENT : (famAt 72).has PWR.CHOP_SPENT.key := ⟨0, by decide, rfl⟩
theorem key_PWR_CHOP_ON : (famAt 73).has PWR.CHOP_ON.key := ⟨0, by decide, rfl⟩
theorem key_PWR_GB_OK : (famAt 74).has PWR.GB_OK.key := ⟨0, by decide, rfl⟩
theorem key_PWR_GA_OK : (famAt 75).has PWR.GA_OK.key := ⟨0, by decide, rfl⟩
theorem key_PWR_BUS_OV : (famAt 76).has PWR.BUS_OV.key := ⟨0, by decide, rfl⟩
theorem key_PWR_BATTD_OV : (famAt 77).has PWR.BATTD_OV.key := ⟨0, by decide, rfl⟩
theorem key_PWR_BATTD_OK : (famAt 78).has PWR.BATTD_OK.key := ⟨0, by decide, rfl⟩
theorem key_PWR_PF_WARN : (famAt 79).has PWR.PF_WARN.key := ⟨0, by decide, rfl⟩
theorem key_PWR_BATTL_LOW : (famAt 80).has PWR.BATTL_LOW.key := ⟨0, by decide, rfl⟩
theorem key_PWR_BATTL_OK : (famAt 81).has PWR.BATTL_OK.key := ⟨0, by decide, rfl⟩
theorem key_PWR_VL : (famAt 82).has PWR.VL.key := ⟨0, by decide, rfl⟩
theorem key_PWR_VD : (famAt 83).has PWR.VD.key := ⟨0, by decide, rfl⟩
theorem key_PWR_VGA : (famAt 84).has PWR.VGA.key := ⟨0, by decide, rfl⟩
theorem key_PWR_VGB : (famAt 85).has PWR.VGB.key := ⟨0, by decide, rfl⟩
theorem key_PWR_IL : (famAt 86).has PWR.IL.key := ⟨0, by decide, rfl⟩
theorem key_PWR_ID : (famAt 87).has PWR.ID.key := ⟨0, by decide, rfl⟩
theorem key_PWR_DOM_ON : (famAt 88).has PWR.DOM_ON.key := ⟨0, by decide, rfl⟩
theorem key_PWR_WK_DRIP : (famAt 89).has PWR.WK_DRIP.key := ⟨0, by decide, rfl⟩
theorem key_PWR_WK_FI : (famAt 90).has PWR.WK_FI.key := ⟨0, by decide, rfl⟩
theorem key_PWR_WK_REL_R : (famAt 91).has PWR.WK_REL_R.key := ⟨0, by decide, rfl⟩
theorem key_PWR_WK_REL_L : (famAt 92).has PWR.WK_REL_L.key := ⟨0, by decide, rfl⟩
theorem key_PWR_WK_CAN : (famAt 93).has PWR.WK_CAN.key := ⟨0, by decide, rfl⟩
theorem key_PWR_PARK_LATE : (famAt 94).has PWR.PARK_LATE.key := ⟨0, by decide, rfl⟩
theorem key_PWR_POWER_ON : (famAt 95).has PWR.POWER_ON.key := ⟨0, by decide, rfl⟩
theorem key_PWR_CAUSE : (famAt 96).has PWR.CAUSE.key := ⟨0, by decide, rfl⟩
theorem key_PWR_IDLE_DELAY_S : (famAt 97).has PWR.IDLE_DELAY_S.key := ⟨0, by decide, rfl⟩
theorem key_PWR_DRV_P_LIM : (famAt 98).has PWR.DRV_P_LIM.key := ⟨0, by decide, rfl⟩
theorem key_PWR_DRV_I_LIM : (famAt 99).has PWR.DRV_I_LIM.key := ⟨0, by decide, rfl⟩
theorem key_PWR_CHOP_E : (famAt 100).has PWR.CHOP_E.key := ⟨0, by decide, rfl⟩
theorem key_PWR_CHOP_ON_V : (famAt 101).has PWR.CHOP_ON_V.key := ⟨0, by decide, rfl⟩
theorem key_PWR_VCAP : (famAt 102).has PWR.VCAP.key := ⟨0, by decide, rfl⟩
theorem key_PWR_VCELL : (famAt 103).has PWR.VCELL.key := ⟨0, by decide, rfl⟩
theorem key_PWR_PF_CNT : (famAt 104).has PWR.PF_CNT.key := ⟨0, by decide, rfl⟩
theorem key_PWR_PARK_ABORT_CNT : (famAt 105).has PWR.PARK_ABORT_CNT.key := ⟨0, by decide, rfl⟩
theorem key_PWR_DRV_LIM_CNT : (famAt 106).has PWR.DRV_LIM_CNT.key := ⟨0, by decide, rfl⟩
theorem key_PWR_BUS_OV_CNT : (famAt 107).has PWR.BUS_OV_CNT.key := ⟨0, by decide, rfl⟩
theorem key_PWR_WAKE_CNT : (famAt 108).has PWR.WAKE_CNT.key := ⟨0, by decide, rfl⟩
theorem key_CLK_CAP_CDOM : (famAt 109).has CLK.CAP_CDOM.key := ⟨0, by decide, rfl⟩
theorem key_CLK_CLK_ON : (famAt 110).has CLK.CLK_ON.key := ⟨0, by decide, rfl⟩
theorem key_CLK_APP_NOW : (famAt 111).has CLK.APP_NOW.key := ⟨0, by decide, rfl⟩
theorem key_CLK_APP_SEL : (famAt 112).has CLK.APP_SEL.key := ⟨0, by decide, rfl⟩
theorem key_CLK_CLK_FAIL : (famAt 113).has CLK.CLK_FAIL.key := ⟨0, by decide, rfl⟩
theorem key_CLK_CLK_FAIL_CNT : (famAt 114).has CLK.CLK_FAIL_CNT.key := ⟨0, by decide, rfl⟩
theorem key_CLK_MEAS_SEL : (famAt 115).has CLK.MEAS_SEL.key := ⟨0, by decide, rfl⟩
theorem key_CLK_MEAS_HZ : (famAt 116).has CLK.MEAS_HZ.key := ⟨0, by decide, rfl⟩
theorem key_BOOT_TRIAL : (famAt 117).has BOOT.TRIAL.key := ⟨0, by decide, rfl⟩
theorem key_BOOT_FALLBACK : (famAt 118).has BOOT.FALLBACK.key := ⟨0, by decide, rfl⟩
theorem key_BOOT_B_OK : (famAt 119).has BOOT.B_OK.key := ⟨0, by decide, rfl⟩
theorem key_BOOT_A_OK : (famAt 120).has BOOT.A_OK.key := ⟨0, by decide, rfl⟩
theorem key_BOOT_RUN_SLOT : (famAt 121).has BOOT.RUN_SLOT.key := ⟨0, by decide, rfl⟩
theorem key_BOOT_BOOT_NEXT : (famAt 122).has BOOT.BOOT_NEXT.key := ⟨0, by decide, rfl⟩
theorem key_BOOT_BOOT_CONFIRM : (famAt 123).has BOOT.BOOT_CONFIRM.key := ⟨0, by decide, rfl⟩
theorem key_BOOT_IMG_A_VER : (famAt 124).has BOOT.IMG_A_VER.key := ⟨0, by decide, rfl⟩
theorem key_BOOT_IMG_B_VER : (famAt 125).has BOOT.IMG_B_VER.key := ⟨0, by decide, rfl⟩
theorem key_BOOT_ROLLBACK_MIN : (famAt 126).has BOOT.ROLLBACK_MIN.key := ⟨0, by decide, rfl⟩
theorem key_BOOT_BOOT_FAIL_CNT : (famAt 127).has BOOT.BOOT_FAIL_CNT.key := ⟨0, by decide, rfl⟩
theorem key_BOOT_BOOT_TIME_MS : (famAt 128).has BOOT.BOOT_TIME_MS.key := ⟨0, by decide, rfl⟩
theorem key_BOOT_SLOT_SIZE : (famAt 129).has BOOT.SLOT_SIZE.key := ⟨0, by decide, rfl⟩
theorem key_DRIP_CAP_ALM : (famAt 130).has DRIP.CAP_ALM.key := ⟨0, by decide, rfl⟩
theorem key_DRIP_CAP_TICK : (famAt 131).has DRIP.CAP_TICK.key := ⟨0, by decide, rfl⟩
theorem key_DRIP_ALM_MISSED : (famAt 132).has DRIP.ALM_MISSED.key := ⟨0, by decide, rfl⟩
theorem key_DRIP_TC_FAULT : (famAt 133).has DRIP.TC_FAULT.key := ⟨0, by decide, rfl⟩
theorem key_DRIP_ALM_DLY_HIT : (famAt 134).has DRIP.ALM_DLY_HIT.key := ⟨0, by decide, rfl⟩
theorem key_DRIP_ALM_CAL_HIT : (famAt 135).has DRIP.ALM_CAL_HIT.key := ⟨0, by decide, rfl⟩
theorem key_DRIP_BK_LOST : (famAt 136).has DRIP.BK_LOST.key := ⟨0, by decide, rfl⟩
theorem key_DRIP_CAL_VALID : (famAt 137).has DRIP.CAL_VALID.key := ⟨0, by decide, rfl⟩
theorem key_DRIP_CAL_HI : (famAt 138).has DRIP.CAL_HI.key := ⟨0, by decide, rfl⟩
theorem key_DRIP_CAL_LO : (famAt 139).has DRIP.CAL_LO.key := ⟨0, by decide, rfl⟩
theorem key_DRIP_WALL_S : (famAt 140).has DRIP.WALL_S.key := ⟨0, by decide, rfl⟩
theorem key_DRIP_WALL_SUB : (famAt 141).has DRIP.WALL_SUB.key := ⟨0, by decide, rfl⟩
theorem key_DRIP_TICK_HI : (famAt 142).has DRIP.TICK_HI.key := ⟨0, by decide, rfl⟩
theorem key_DRIP_TICK_LO : (famAt 143).has DRIP.TICK_LO.key := ⟨0, by decide, rfl⟩
theorem key_DRIP_EPOCH : (famAt 144).has DRIP.EPOCH.key := ⟨0, by decide, rfl⟩
theorem key_DRIP_TC_CORR : (famAt 145).has DRIP.TC_CORR.key := ⟨0, by decide, rfl⟩
theorem key_DRIP_XTAL_T : (famAt 146).has DRIP.XTAL_T.key := ⟨0, by decide, rfl⟩
theorem key_DRIP_SET_CNT : (famAt 147).has DRIP.SET_CNT.key := ⟨0, by decide, rfl⟩
theorem key_DRIP_ALM_CNT : (famAt 148).has DRIP.ALM_CNT.key := ⟨0, by decide, rfl⟩
theorem key_DRIP_BK_LOSS_CNT : (famAt 149).has DRIP.BK_LOSS_CNT.key := ⟨0, by decide, rfl⟩
theorem key_SEAL_CAP_SW_A : (famAt 150).has SEAL.CAP_SW_A.key := ⟨0, by decide, rfl⟩
theorem key_SEAL_CAP_SW_B : (famAt 151).has SEAL.CAP_SW_B.key := ⟨0, by decide, rfl⟩
theorem key_SEAL_SRC_CONFLICT : (famAt 152).has SEAL.SRC_CONFLICT.key := ⟨0, by decide, rfl⟩
theorem key_SEAL_SIG_OK : (famAt 153).has SEAL.SIG_OK.key := ⟨0, by decide, rfl⟩
theorem key_SEAL_CHANGED : (famAt 154).has SEAL.CHANGED.key := ⟨0, by decide, rfl⟩
theorem key_SEAL_POLE_DIS : (famAt 155).has SEAL.POLE_DIS.key := ⟨0, by decide, rfl⟩
theorem key_SEAL_CFG_ERR : (famAt 156).has SEAL.CFG_ERR.key := ⟨0, by decide, rfl⟩
theorem key_SEAL_A_SAF : (famAt 157).has SEAL.A_SAF.key := ⟨0, by decide, rfl⟩
theorem key_SEAL_A_COL : (famAt 158).has SEAL.A_COL.key := ⟨0, by decide, rfl⟩
theorem key_SEAL_B_SAF : (famAt 159).has SEAL.B_SAF.key := ⟨0, by decide, rfl⟩
theorem key_SEAL_B_COL : (famAt 160).has SEAL.B_COL.key := ⟨0, by decide, rfl⟩
theorem key_SEAL_DEPOT_PERMIT : (famAt 161).has SEAL.DEPOT_PERMIT.key := ⟨0, by decide, rfl⟩
theorem key_SEAL_SRC_SW : (famAt 162).has SEAL.SRC_SW.key := ⟨0, by decide, rfl⟩
theorem key_SEAL_PST_CLASS : (famAt 163).has SEAL.PST_CLASS.key := ⟨0, by decide, rfl⟩
theorem key_SEAL_LC_EN : (famAt 164).has SEAL.LC_EN.key := ⟨0, by decide, rfl⟩
theorem key_SEAL_TH_EN : (famAt 165).has SEAL.TH_EN.key := ⟨0, by decide, rfl⟩
theorem key_SEAL_LOOP_VAR : (famAt 166).has SEAL.LOOP_VAR.key := ⟨0, by decide, rfl⟩
theorem key_SEAL_INSVC : (famAt 167).has SEAL.INSVC.key := ⟨0, by decide, rfl⟩
theorem key_SEAL_SIG_CRC : (famAt 168).has SEAL.SIG_CRC.key := ⟨0, by decide, rfl⟩
theorem key_SEAL_SIG_SW : (famAt 169).has SEAL.SIG_SW.key := ⟨0, by decide, rfl⟩
theorem key_SEAL_DISC_MS : (famAt 170).has SEAL.DISC_MS.key := ⟨0, by decide, rfl⟩
theorem key_SEAL_POLE_DIS_CNT : (famAt 171).has SEAL.POLE_DIS_CNT.key := ⟨0, by decide, rfl⟩
theorem key_SAFM_CAP_AX : (famAt 172).has SAFM.CAP_AX.key := ⟨0, by decide, rfl⟩
theorem key_SAFM_CAP_DW : (famAt 173).has SAFM.CAP_DW.key := ⟨0, by decide, rfl⟩
theorem key_SAFM_CAP_LC : (famAt 174).has SAFM.CAP_LC.key := ⟨0, by decide, rfl⟩
theorem key_SAFM_NET_RESTR : (famAt 175).has SAFM.NET_RESTR.key := ⟨0, by decide, rfl⟩
theorem key_SAFM_HOST_WD : (famAt 176).has SAFM.HOST_WD.key := ⟨0, by decide, rfl⟩
theorem key_SAFM_TH_ACT : (famAt 177).has SAFM.TH_ACT.key := ⟨0, by decide, rfl⟩
theorem key_SAFM_ZS : (famAt 178).has SAFM.ZS.key := ⟨0, by decide, rfl⟩
theorem key_SAFM_ESTOP : (famAt 179).has SAFM.ESTOP.key := ⟨0, by decide, rfl⟩
theorem key_SAFM_LATCH : (famAt 180).has SAFM.LATCH.key := ⟨0, by decide, rfl⟩
theorem key_SAFM_ADCL_A_RB : (famAt 181).has SAFM.ADCL_A_RB.key := ⟨0, by decide, rfl⟩
theorem key_SAFM_ADCL_A_ON : (famAt 182).has SAFM.ADCL_A_ON.key := ⟨0, by decide, rfl⟩
theorem key_SAFM_SP_RUN : (famAt 183).has SAFM.SP_RUN.key := ⟨0, by decide, rfl⟩
theorem key_SAFM_CL_OK_SAF : (famAt 184).has SAFM.CL_OK_SAF.key := ⟨0, by decide, rfl⟩
theorem key_SAFM_EGR_OP_SAF : (famAt 185).has SAFM.EGR_OP_SAF.key := ⟨0, by decide, rfl⟩
theorem key_SAFM_LOCK_EN_SAF : (famAt 186).has SAFM.LOCK_EN_SAF.key := ⟨0, by decide, rfl⟩
theorem key_SAFM_OP_SAF_M : (famAt 187).has SAFM.OP_SAF_M.key := ⟨0, by decide, rfl⟩
theorem key_SAFM_TQ_PERMIT : (famAt 188).has SAFM.TQ_PERMIT.key := ⟨0, by decide, rfl⟩
theorem key_SAFM_MOT_PERMIT : (famAt 189).has SAFM.MOT_PERMIT.key := ⟨0, by decide, rfl⟩
theorem key_SAFM_EDGE_FLT : (famAt 190).has SAFM.EDGE_FLT.key := ⟨0, by decide, rfl⟩
theorem key_SAFM_EDGE_R_ACT : (famAt 191).has SAFM.EDGE_R_ACT.key := ⟨0, by decide, rfl⟩
theorem key_SAFM_EDGE_L_ACT : (famAt 192).has SAFM.EDGE_L_ACT.key := ⟨0, by decide, rfl⟩
theorem key_SAFM_LC_INT : (famAt 193).has SAFM.LC_INT.key := ⟨0, by decide, rfl⟩
theorem key_SAFM_LATCH_SAF : (famAt 194).has SAFM.LATCH_SAF.key := ⟨0, by decide, rfl⟩
theorem key_SAFM_EGR_DISC_M : (famAt 195).has SAFM.EGR_DISC_M.key := ⟨0, by decide, rfl⟩
theorem key_SAFM_LC_DISC_M : (famAt 196).has SAFM.LC_DISC_M.key := ⟨0, by decide, rfl⟩
theorem key_SAFM_ENC_HOLD : (famAt 197).has SAFM.ENC_HOLD.key := ⟨0, by decide, rfl⟩
theorem key_SAFM_SAF_STATE : (famAt 198).has SAFM.SAF_STATE.key := ⟨0, by decide, rfl⟩
theorem key_SAFM_SRC : (famAt 199).has SAFM.SRC.key := ⟨0, by decide, rfl⟩
theorem key_SAFM_REV_REQ_CNT : (famAt 200).has SAFM.REV_REQ_CNT.key := ⟨0, by decide, rfl⟩
theorem key_SAFM_ESTOP_CNT : (famAt 201).has SAFM.ESTOP_CNT.key := ⟨0, by decide, rfl⟩
theorem key_SAFM_DISC_SAF_CNT : (famAt 202).has SAFM.DISC_SAF_CNT.key := ⟨0, by decide, rfl⟩
theorem key_SAFM_MIRROR_FIX_CNT : (famAt 203).has SAFM.MIRROR_FIX_CNT.key := ⟨0, by decide, rfl⟩
theorem key_COLM_CAP_AX : (famAt 204).has COLM.CAP_AX.key := ⟨0, by decide, rfl⟩
theorem key_COLM_CAP_DW : (famAt 205).has COLM.CAP_DW.key := ⟨0, by decide, rfl⟩
theorem key_COLM_TEST_DUE : (famAt 206).has COLM.TEST_DUE.key := ⟨0, by decide, rfl⟩
theorem key_COLM_RESET_STUCK : (famAt 207).has COLM.RESET_STUCK.key := ⟨0, by decide, rfl⟩
theorem key_COLM_SP_HB_OK : (famAt 208).has COLM.SP_HB_OK.key := ⟨0, by decide, rfl⟩
theorem key_COLM_ADCL_ALLOW : (famAt 209).has COLM.ADCL_ALLOW.key := ⟨0, by decide, rfl⟩
theorem key_COLM_ESTOP : (famAt 210).has COLM.ESTOP.key := ⟨0, by decide, rfl⟩
theorem key_COLM_LATCH : (famAt 211).has COLM.LATCH.key := ⟨0, by decide, rfl⟩
theorem key_COLM_ADCL_B_RB : (famAt 212).has COLM.ADCL_B_RB.key := ⟨0, by decide, rfl⟩
theorem key_COLM_ADCL_B_ON : (famAt 213).has COLM.ADCL_B_ON.key := ⟨0, by decide, rfl⟩
theorem key_COLM_COL_OK : (famAt 214).has COLM.COL_OK.key := ⟨0, by decide, rfl⟩
theorem key_COLM_RW_MASK : (famAt 215).has COLM.RW_MASK.key := ⟨0, by decide, rfl⟩
theorem key_COLM_TEN_MASK : (famAt 216).has COLM.TEN_MASK.key := ⟨0, by decide, rfl⟩
theorem key_COLM_CL_OK_COL : (famAt 217).has COLM.CL_OK_COL.key := ⟨0, by decide, rfl⟩
theorem key_COLM_EGR_OP_COL : (famAt 218).has COLM.EGR_OP_COL.key := ⟨0, by decide, rfl⟩
theorem key_COLM_LOCK_EN_COL : (famAt 219).has COLM.LOCK_EN_COL.key := ⟨0, by decide, rfl⟩
theorem key_COLM_OP_COL_M : (famAt 220).has COLM.OP_COL_M.key := ⟨0, by decide, rfl⟩
theorem key_COLM_ESTOP_1 : (famAt 221).has COLM.ESTOP_1.key := ⟨0, by decide, rfl⟩
theorem key_COLM_ESTOP_2 : (famAt 222).has COLM.ESTOP_2.key := ⟨0, by decide, rfl⟩
theorem key_COLM_ZS_A : (famAt 223).has COLM.ZS_A.key := ⟨0, by decide, rfl⟩
theorem key_COLM_ZS_B : (famAt 224).has COLM.ZS_B.key := ⟨0, by decide, rfl⟩
theorem key_COLM_REL_LEFT : (famAt 225).has COLM.REL_LEFT.key := ⟨0, by decide, rfl⟩
theorem key_COLM_REL_RIGHT : (famAt 226).has COLM.REL_RIGHT.key := ⟨0, by decide, rfl⟩
theorem key_COLM_EDM_A : (famAt 227).has COLM.EDM_A.key := ⟨0, by decide, rfl⟩
theorem key_COLM_EDM_B : (famAt 228).has COLM.EDM_B.key := ⟨0, by decide, rfl⟩
theorem key_COLM_TH_A_NO : (famAt 229).has COLM.TH_A_NO.key := ⟨0, by decide, rfl⟩
theorem key_COLM_TH_A_NC : (famAt 230).has COLM.TH_A_NC.key := ⟨0, by decide, rfl⟩
theorem key_COLM_TH_B_NO : (famAt 231).has COLM.TH_B_NO.key := ⟨0, by decide, rfl⟩
theorem key_COLM_TH_B_NC : (famAt 232).has COLM.TH_B_NC.key := ⟨0, by decide, rfl⟩
theorem key_COLM_RESET : (famAt 233).has COLM.RESET.key := ⟨0, by decide, rfl⟩
theorem key_COLM_DEPOT : (famAt 234).has COLM.DEPOT.key := ⟨0, by decide, rfl⟩
theorem key_COLM_LC_B : (famAt 235).has COLM.LC_B.key := ⟨0, by decide, rfl⟩
theorem key_COLM_LC_A : (famAt 236).has COLM.LC_A.key := ⟨0, by decide, rfl⟩
theorem key_COLM_LATCH_COL : (famAt 237).has COLM.LATCH_COL.key := ⟨0, by decide, rfl⟩
theorem key_COLM_EDM_A_MS : (famAt 238).has COLM.EDM_A_MS.key := ⟨0, by decide, rfl⟩
theorem key_COLM_EDM_B_MS : (famAt 239).has COLM.EDM_B_MS.key := ⟨0, by decide, rfl⟩
theorem key_COLM_RESET_OK_CNT : (famAt 240).has COLM.RESET_OK_CNT.key := ⟨0, by decide, rfl⟩
theorem key_COLM_RESET_REJ_CNT : (famAt 241).has COLM.RESET_REJ_CNT.key := ⟨0, by decide, rfl⟩
theorem key_COLM_RESET_STUCK_CNT : (famAt 242).has COLM.RESET_STUCK_CNT.key := ⟨0, by decide, rfl⟩
theorem key_COLM_RW_TRIP_CNT : (famAt 243).has COLM.RW_TRIP_CNT.key := ⟨0, by decide, rfl⟩
theorem key_COLM_EDM_FAULT_CNT : (famAt 244).has COLM.EDM_FAULT_CNT.key := ⟨0, by decide, rfl⟩
theorem key_COLM_DISC_COL_CNT : (famAt 245).has COLM.DISC_COL_CNT.key := ⟨0, by decide, rfl⟩
theorem key_CYC_CAP_DW : (famAt 246).has CYC.CAP_DW.key := ⟨0, by decide, rfl⟩
theorem key_CYC_CAP_STATES : (famAt 247).has CYC.CAP_STATES.key := ⟨0, by decide, rfl⟩
theorem key_CYC_TMO : (famAt 248).has CYC.TMO.key := ⟨0, by decide, rfl⟩
theorem key_CYC_OBS : (famAt 249).has CYC.OBS.key := ⟨0, by decide, rfl⟩
theorem key_CYC_EMG : (famAt 250).has CYC.EMG.key := ⟨0, by decide, rfl⟩
theorem key_CYC_DRAG : (famAt 251).has CYC.DRAG.key := ⟨0, by decide, rfl⟩
theorem key_CYC_CLOK_MASK : (famAt 252).has CYC.CLOK_MASK.key := ⟨0, by decide, rfl⟩
theorem key_CYC_INSVC_MASK : (famAt 253).has CYC.INSVC_MASK.key := ⟨0, by decide, rfl⟩
theorem key_CYC_ISOL_MASK : (famAt 254).has CYC.ISOL_MASK.key := ⟨0, by decide, rfl⟩
theorem key_CYC_ADCL_SAF : (famAt 255).has CYC.ADCL_SAF.key := ⟨0, by decide, rfl⟩
theorem key_CYC_ADCL_COL : (famAt 256).has CYC.ADCL_COL.key := ⟨0, by decide, rfl⟩
theorem key_CYC_REL_L_HW : (famAt 257).has CYC.REL_L_HW.key := ⟨0, by decide, rfl⟩
theorem key_CYC_REL_R_HW : (famAt 258).has CYC.REL_R_HW.key := ⟨0, by decide, rfl⟩
theorem key_CYC_REL_L_TG : (famAt 259).has CYC.REL_L_TG.key := ⟨0, by decide, rfl⟩
theorem key_CYC_REL_R_TG : (famAt 260).has CYC.REL_R_TG.key := ⟨0, by decide, rfl⟩
theorem key_CYC_ZS_HW : (famAt 261).has CYC.ZS_HW.key := ⟨0, by decide, rfl⟩
theorem key_CYC_ZS_TG : (famAt 262).has CYC.ZS_TG.key := ⟨0, by decide, rfl⟩
theorem key_CYC_OP_SAF_MASK : (famAt 263).has CYC.OP_SAF_MASK.key := ⟨0, by decide, rfl⟩
theorem key_CYC_OP_COL_MASK : (famAt 264).has CYC.OP_COL_MASK.key := ⟨0, by decide, rfl⟩
theorem key_CYC_SIDE_MASK : (famAt 265).has CYC.SIDE_MASK.key := ⟨0, by decide, rfl⟩
theorem key_CYC_REFUSE_TOTAL_CNT : (famAt 266).has CYC.REFUSE_TOTAL_CNT.key := ⟨0, by decide, rfl⟩
theorem key_CYC_FORCED_TOTAL_CNT : (famAt 267).has CYC.FORCED_TOTAL_CNT.key := ⟨0, by decide, rfl⟩
theorem key_CYCD_STATE (n : Nat) : (famAt 268).has (CYCD.STATE n).key := ⟨n % 8, Nat.mod_lt _ (by decide), rfl⟩
theorem key_CYCD_PREV_STATE (n : Nat) : (famAt 269).has (CYCD.PREV_STATE n).key := ⟨n % 8, Nat.mod_lt _ (by decide), rfl⟩
theorem key_CYCD_LAST_REFUSE (n : Nat) : (famAt 270).has (CYCD.LAST_REFUSE n).key := ⟨n % 8, Nat.mod_lt _ (by decide), rfl⟩
theorem key_CYCD_RETRY (n : Nat) : (famAt 271).has (CYCD.RETRY n).key := ⟨n % 8, Nat.mod_lt _ (by decide), rfl⟩
theorem key_CYCD_CYC_REQ (n : Nat) : (famAt 272).has (CYCD.CYC_REQ n).key := ⟨n % 8, Nat.mod_lt _ (by decide), rfl⟩
theorem key_CYCD_IN_SVC (n : Nat) : (famAt 273).has (CYCD.IN_SVC n).key := ⟨n % 8, Nat.mod_lt _ (by decide), rfl⟩
theorem key_CYCD_STEP_FIT (n : Nat) : (famAt 274).has (CYCD.STEP_FIT n).key := ⟨n % 8, Nat.mod_lt _ (by decide), rfl⟩
theorem key_CYCD_SIDE (n : Nat) : (famAt 275).has (CYCD.SIDE n).key := ⟨n % 8, Nat.mod_lt _ (by decide), rfl⟩
theorem key_CYCD_OP_SAF (n : Nat) : (famAt 276).has (CYCD.OP_SAF n).key := ⟨n % 8, Nat.mod_lt _ (by decide), rfl⟩
theorem key_CYCD_OP_COL (n : Nat) : (famAt 277).has (CYCD.OP_COL n).key := ⟨n % 8, Nat.mod_lt _ (by decide), rfl⟩
theorem key_CYCD_LOCK_GATE (n : Nat) : (famAt 278).has (CYCD.LOCK_GATE n).key := ⟨n % 8, Nat.mod_lt _ (by decide), rfl⟩
theorem key_CYCD_CL_OK (n : Nat) : (famAt 279).has (CYCD.CL_OK n).key := ⟨n % 8, Nat.mod_lt _ (by decide), rfl⟩
theorem key_CYCD_DCL_L (n : Nat) : (famAt 280).has (CYCD.DCL_L n).key := ⟨n % 8, Nat.mod_lt _ (by decide), rfl⟩
theorem key_CYCD_DCL_R (n : Nat) : (famAt 281).has (CYCD.DCL_R n).key := ⟨n % 8, Nat.mod_lt _ (by decide), rfl⟩
theorem key_CYCD_LOCKFB (n : Nat) : (famAt 282).has (CYCD.LOCKFB n).key := ⟨n % 8, Nat.mod_lt _ (by decide), rfl⟩
theorem key_CYCD_STOWED (n : Nat) : (famAt 283).has (CYCD.STOWED n).key := ⟨n % 8, Nat.mod_lt _ (by decide), rfl⟩
theorem key_CYCD_EGR_OP (n : Nat) : (famAt 284).has (CYCD.EGR_OP n).key := ⟨n % 8, Nat.mod_lt _ (by decide), rfl⟩
theorem key_CYCD_ISOL (n : Nat) : (famAt 285).has (CYCD.ISOL n).key := ⟨n % 8, Nat.mod_lt _ (by decide), rfl⟩
theorem key_CYCD_ISOL_PEND (n : Nat) : (famAt 286).has (CYCD.ISOL_PEND n).key := ⟨n % 8, Nat.mod_lt _ (by decide), rfl⟩
theorem key_CYCD_DRAG (n : Nat) : (famAt 287).has (CYCD.DRAG n).key := ⟨n % 8, Nat.mod_lt _ (by decide), rfl⟩
theorem key_CYCD_TMO (n : Nat) : (famAt 288).has (CYCD.TMO n).key := ⟨n % 8, Nat.mod_lt _ (by decide), rfl⟩
theorem key_CYCD_PAUSE_DONE (n : Nat) : (famAt 289).has (CYCD.PAUSE_DONE n).key := ⟨n % 8, Nat.mod_lt _ (by decide), rfl⟩
theorem key_CYCD_TH_ACTIVE (n : Nat) : (famAt 290).has (CYCD.TH_ACTIVE n).key := ⟨n % 8, Nat.mod_lt _ (by decide), rfl⟩
theorem key_CYCD_DWELL_DONE (n : Nat) : (famAt 291).has (CYCD.DWELL_DONE n).key := ⟨n % 8, Nat.mod_lt _ (by decide), rfl⟩
theorem key_CYCD_T_IN_STATE_MS (n : Nat) : (famAt 292).has (CYCD.T_IN_STATE_MS n).key := ⟨n % 8, Nat.mod_lt _ (by decide), rfl⟩
theorem key_CYCD_CYC_REV_MM (n : Nat) : (famAt 293).has (CYCD.CYC_REV_MM n).key := ⟨n % 8, Nat.mod_lt _ (by decide), rfl⟩
theorem key_CYCD_CYC_RETRY_MAX (n : Nat) : (famAt 294).has (CYCD.CYC_RETRY_MAX n).key := ⟨n % 8, Nat.mod_lt _ (by decide), rfl⟩
theorem key_CYCD_TH_CLOSE (n : Nat) : (famAt 295).has (CYCD.TH_CLOSE n).key := ⟨n % 8, Nat.mod_lt _ (by decide), rfl⟩
theorem key_CYCD_CYC_REPAUSE_MS (n : Nat) : (famAt 296).has (CYCD.CYC_REPAUSE_MS n).key := ⟨n % 8, Nat.mod_lt _ (by decide), rfl⟩
theorem key_CYCD_DWELL_MS (n : Nat) : (famAt 297).has (CYCD.DWELL_MS n).key := ⟨n % 8, Nat.mod_lt _ (by decide), rfl⟩
theorem key_CYCD_T_STEP_MS (n : Nat) : (famAt 298).has (CYCD.T_STEP_MS n).key := ⟨n % 8, Nat.mod_lt _ (by decide), rfl⟩
theorem key_CYCD_T_UNLOCK_MS (n : Nat) : (famAt 299).has (CYCD.T_UNLOCK_MS n).key := ⟨n % 8, Nat.mod_lt _ (by decide), rfl⟩
theorem key_CYCD_T_OPEN_MS (n : Nat) : (famAt 300).has (CYCD.T_OPEN_MS n).key := ⟨n % 8, Nat.mod_lt _ (by decide), rfl⟩
theorem key_CYCD_T_CLOSE_MS (n : Nat) : (famAt 301).has (CYCD.T_CLOSE_MS n).key := ⟨n % 8, Nat.mod_lt _ (by decide), rfl⟩
theorem key_CYCD_T_LOCK_MS (n : Nat) : (famAt 302).has (CYCD.T_LOCK_MS n).key := ⟨n % 8, Nat.mod_lt _ (by decide), rfl⟩
theorem key_CYCD_CYC_CNT (n : Nat) : (famAt 303).has (CYCD.CYC_CNT n).key := ⟨n % 8, Nat.mod_lt _ (by decide), rfl⟩
theorem key_CYCD_LIFE_CYC (n : Nat) : (famAt 304).has (CYCD.LIFE_CYC n).key := ⟨n % 8, Nat.mod_lt _ (by decide), rfl⟩
theorem key_CYCD_CYC_T_LAST_MS (n : Nat) : (famAt 305).has (CYCD.CYC_T_LAST_MS n).key := ⟨n % 8, Nat.mod_lt _ (by decide), rfl⟩
theorem key_CYCD_CYC_FLAGS (n : Nat) : (famAt 306).has (CYCD.CYC_FLAGS n).key := ⟨n % 8, Nat.mod_lt _ (by decide), rfl⟩
theorem key_CYCD_REVERSE_CNT (n : Nat) : (famAt 307).has (CYCD.REVERSE_CNT n).key := ⟨n % 8, Nat.mod_lt _ (by decide), rfl⟩
theorem key_CYCD_OBSTR_CNT (n : Nat) : (famAt 308).has (CYCD.OBSTR_CNT n).key := ⟨n % 8, Nat.mod_lt _ (by decide), rfl⟩
theorem key_CYCD_EMERG_CNT (n : Nat) : (famAt 309).has (CYCD.EMERG_CNT n).key := ⟨n % 8, Nat.mod_lt _ (by decide), rfl⟩
theorem key_CYCD_REFUSE_CNT (n : Nat) : (famAt 310).has (CYCD.REFUSE_CNT n).key := ⟨n % 8, Nat.mod_lt _ (by decide), rfl⟩
theorem key_CYCD_TMO_CNT (n : Nat) : (famAt 311).has (CYCD.TMO_CNT n).key := ⟨n % 8, Nat.mod_lt _ (by decide), rfl⟩
theorem key_CYCD_DRAG_CNT (n : Nat) : (famAt 312).has (CYCD.DRAG_CNT n).key := ⟨n % 8, Nat.mod_lt _ (by decide), rfl⟩
theorem key_CYCD_ISOL_CNT (n : Nat) : (famAt 313).has (CYCD.ISOL_CNT n).key := ⟨n % 8, Nat.mod_lt _ (by decide), rfl⟩
theorem key_CYCD_DEPOT_CNT (n : Nat) : (famAt 314).has (CYCD.DEPOT_CNT n).key := ⟨n % 8, Nat.mod_lt _ (by decide), rfl⟩
theorem key_CYCD_FORCED_CNT (n : Nat) : (famAt 315).has (CYCD.FORCED_CNT n).key := ⟨n % 8, Nat.mod_lt _ (by decide), rfl⟩
theorem key_AX_CAP_MQ (n : Nat) : (famAt 316).has (AX.CAP_MQ n).key := ⟨n % 16, Nat.mod_lt _ (by decide), rfl⟩
theorem key_AX_CAP_PRF (n : Nat) : (famAt 317).has (AX.CAP_PRF n).key := ⟨n % 16, Nat.mod_lt _ (by decide), rfl⟩
theorem key_AX_CAP_SEG (n : Nat) : (famAt 318).has (AX.CAP_SEG n).key := ⟨n % 16, Nat.mod_lt _ (by decide), rfl⟩
theorem key_AX_AX_KIND (n : Nat) : (famAt 319).has (AX.AX_KIND n).key := ⟨n % 16, Nat.mod_lt _ (by decide), rfl⟩
theorem key_AX_LEARN (n : Nat) : (famAt 320).has (AX.LEARN n).key := ⟨n % 16, Nat.mod_lt _ (by decide), rfl⟩
theorem key_AX_FORCE_TRIP (n : Nat) : (famAt 321).has (AX.FORCE_TRIP n).key := ⟨n % 16, Nat.mod_lt _ (by decide), rfl⟩
theorem key_AX_SW_CLOSED (n : Nat) : (famAt 322).has (AX.SW_CLOSED n).key := ⟨n % 16, Nat.mod_lt _ (by decide), rfl⟩
theorem key_AX_SW_OPEN (n : Nat) : (famAt 323).has (AX.SW_OPEN n).key := ⟨n % 16, Nat.mod_lt _ (by decide), rfl⟩
theorem key_AX_DEV_FAULT (n : Nat) : (famAt 324).has (AX.DEV_FAULT n).key := ⟨n % 16, Nat.mod_lt _ (by decide), rfl⟩
theorem key_AX_SLIP (n : Nat) : (famAt 325).has (AX.SLIP n).key := ⟨n % 16, Nat.mod_lt _ (by decide), rfl⟩
theorem key_AX_HOMING (n : Nat) : (famAt 326).has (AX.HOMING n).key := ⟨n % 16, Nat.mod_lt _ (by decide), rfl⟩
theorem key_AX_HOMED (n : Nat) : (famAt 327).has (AX.HOMED n).key := ⟨n % 16, Nat.mod_lt _ (by decide), rfl⟩
theorem key_AX_GO_WAIT (n : Nat) : (famAt 328).has (AX.GO_WAIT n).key := ⟨n % 16, Nat.mod_lt _ (by decide), rfl⟩
theorem key_AX_COARSE (n : Nat) : (famAt 329).has (AX.COARSE n).key := ⟨n % 16, Nat.mod_lt _ (by decide), rfl⟩
theorem key_AX_STO (n : Nat) : (famAt 330).has (AX.STO n).key := ⟨n % 16, Nat.mod_lt _ (by decide), rfl⟩
theorem key_AX_AT_TARGET (n : Nat) : (famAt 331).has (AX.AT_TARGET n).key := ⟨n % 16, Nat.mod_lt _ (by decide), rfl⟩
theorem key_AX_Q_FULL (n : Nat) : (famAt 332).has (AX.Q_FULL n).key := ⟨n % 16, Nat.mod_lt _ (by decide), rfl⟩
theorem key_AX_Q_EMPTY (n : Nat) : (famAt 333).has (AX.Q_EMPTY n).key := ⟨n % 16, Nat.mod_lt _ (by decide), rfl⟩
theorem key_AX_STOPPING (n : Nat) : (famAt 334).has (AX.STOPPING n).key := ⟨n % 16, Nat.mod_lt _ (by decide), rfl⟩
theorem key_AX_HOLD (n : Nat) : (famAt 335).has (AX.HOLD n).key := ⟨n % 16, Nat.mod_lt _ (by decide), rfl⟩
theorem key_AX_MOVING (n : Nat) : (famAt 336).has (AX.MOVING n).key := ⟨n % 16, Nat.mod_lt _ (by decide), rfl⟩
theorem key_AX_TORQUE (n : Nat) : (famAt 337).has (AX.TORQUE n).key := ⟨n % 16, Nat.mod_lt _ (by decide), rfl⟩
theorem key_AX_EL_OFS (n : Nat) : (famAt 338).has (AX.EL_OFS n).key := ⟨n % 16, Nat.mod_lt _ (by decide), rfl⟩
theorem key_AX_TBL_SEL (n : Nat) : (famAt 339).has (AX.TBL_SEL n).key := ⟨n % 16, Nat.mod_lt _ (by decide), rfl⟩
theorem key_AX_STEPPER (n : Nat) : (famAt 340).has (AX.STEPPER n).key := ⟨n % 16, Nat.mod_lt _ (by decide), rfl⟩
theorem key_AX_MODE (n : Nat) : (famAt 341).has (AX.MODE n).key := ⟨n % 16, Nat.mod_lt _ (by decide), rfl⟩
theorem key_AX_TORQUE_REQ (n : Nat) : (famAt 342).has (AX.TORQUE_REQ n).key := ⟨n % 16, Nat.mod_lt _ (by decide), rfl⟩
theorem key_AX_AX_CMD (n : Nat) : (famAt 343).has (AX.AX_CMD n).key := ⟨n % 16, Nat.mod_lt _ (by decide), rfl⟩
theorem key_AX_SPEED (n : Nat) : (famAt 344).has (AX.SPEED n).key := ⟨n % 16, Nat.mod_lt _ (by decide), rfl⟩
theorem key_AX_MQ_GO_WAIT (n : Nat) : (famAt 345).has (AX.MQ_GO_WAIT n).key := ⟨n % 16, Nat.mod_lt _ (by decide), rfl⟩
theorem key_AX_BLEND (n : Nat) : (famAt 346).has (AX.BLEND n).key := ⟨n % 16, Nat.mod_lt _ (by decide), rfl⟩
theorem key_AX_PROFILE (n : Nat) : (famAt 347).has (AX.PROFILE n).key := ⟨n % 16, Nat.mod_lt _ (by decide), rfl⟩
theorem key_AX_MQ_TGT_HI (n : Nat) : (famAt 348).has (AX.MQ_TGT_HI n).key := ⟨n % 16, Nat.mod_lt _ (by decide), rfl⟩
theorem key_AX_MQ_TGT_LO (n : Nat) : (famAt 349).has (AX.MQ_TGT_LO n).key := ⟨n % 16, Nat.mod_lt _ (by decide), rfl⟩
theorem key_AX_RUN_SEG (n : Nat) : (famAt 350).has (AX.RUN_SEG n).key := ⟨n % 16, Nat.mod_lt _ (by decide), rfl⟩
theorem key_AX_RUN_PRF (n : Nat) : (famAt 351).has (AX.RUN_PRF n).key := ⟨n % 16, Nat.mod_lt _ (by decide), rfl⟩
theorem key_AX_RUN_KIND (n : Nat) : (famAt 352).has (AX.RUN_KIND n).key := ⟨n % 16, Nat.mod_lt _ (by decide), rfl⟩
theorem key_AX_MQ_COUNT (n : Nat) : (famAt 353).has (AX.MQ_COUNT n).key := ⟨n % 16, Nat.mod_lt _ (by decide), rfl⟩
theorem key_AX_STOP_RAMP (n : Nat) : (famAt 354).has (AX.STOP_RAMP n).key := ⟨n % 16, Nat.mod_lt _ (by decide), rfl⟩
theorem key_AX_STOP_CAUSE (n : Nat) : (famAt 355).has (AX.STOP_CAUSE n).key := ⟨n % 16, Nat.mod_lt _ (by decide), rfl⟩
theorem key_AX_POS_HI (n : Nat) : (famAt 356).has (AX.POS_HI n).key := ⟨n % 16, Nat.mod_lt _ (by decide), rfl⟩
theorem key_AX_POS_LO (n : Nat) : (famAt 357).has (AX.POS_LO n).key := ⟨n % 16, Nat.mod_lt _ (by decide), rfl⟩
theorem key_AX_VEL (n : Nat) : (famAt 358).has (AX.VEL n).key := ⟨n % 16, Nat.mod_lt _ (by decide), rfl⟩
theorem key_AX_TGT_HI (n : Nat) : (famAt 359).has (AX.TGT_HI n).key := ⟨n % 16, Nat.mod_lt _ (by decide), rfl⟩
theorem key_AX_TGT_LO (n : Nat) : (famAt 360).has (AX.TGT_LO n).key := ⟨n % 16, Nat.mod_lt _ (by decide), rfl⟩
theorem key_AX_POS_UM (n : Nat) : (famAt 361).has (AX.POS_UM n).key := ⟨n % 16, Nat.mod_lt _ (by decide), rfl⟩
theorem key_AX_AX_SCALE (n : Nat) : (famAt 362).has (AX.AX_SCALE n).key := ⟨n % 16, Nat.mod_lt _ (by decide), rfl⟩
theorem key_AX_AX_VMAX (n : Nat) : (famAt 363).has (AX.AX_VMAX n).key := ⟨n % 16, Nat.mod_lt _ (by decide), rfl⟩
theorem key_AX_AX_VLIM_LO_HI (n : Nat) : (famAt 364).has (AX.AX_VLIM_LO_HI n).key := ⟨n % 16, Nat.mod_lt _ (by decide), rfl⟩
theorem key_AX_AX_VLIM_LO_LO (n : Nat) : (famAt 365).has (AX.AX_VLIM_LO_LO n).key := ⟨n % 16, Nat.mod_lt _ (by decide), rfl⟩
theorem key_AX_AX_VLIM_HI_HI (n : Nat) : (famAt 366).has (AX.AX_VLIM_HI_HI n).key := ⟨n % 16, Nat.mod_lt _ (by decide), rfl⟩
theorem key_AX_AX_VLIM_HI_LO (n : Nat) : (famAt 367).has (AX.AX_VLIM_HI_LO n).key := ⟨n % 16, Nat.mod_lt _ (by decide), rfl⟩
theorem key_AX_I_RUN (n : Nat) : (famAt 368).has (AX.I_RUN n).key := ⟨n % 16, Nat.mod_lt _ (by decide), rfl⟩
theorem key_AX_AX_HOLD_DELAY (n : Nat) : (famAt 369).has (AX.AX_HOLD_DELAY n).key := ⟨n % 16, Nat.mod_lt _ (by decide), rfl⟩
theorem key_AX_AX_HOLD_PCT (n : Nat) : (famAt 370).has (AX.AX_HOLD_PCT n).key := ⟨n % 16, Nat.mod_lt _ (by decide), rfl⟩
theorem key_AX_REV_PRF (n : Nat) : (famAt 371).has (AX.REV_PRF n).key := ⟨n % 16, Nat.mod_lt _ (by decide), rfl⟩
theorem key_AX_STOP_PRF (n : Nat) : (famAt 372).has (AX.STOP_PRF n).key := ⟨n % 16, Nat.mod_lt _ (by decide), rfl⟩
theorem key_AX_PRF_VALID (n : Nat) : (famAt 373).has (AX.PRF_VALID n).key := ⟨n % 16, Nat.mod_lt _ (by decide), rfl⟩
theorem key_AX_PRF_COMMIT (n : Nat) : (famAt 374).has (AX.PRF_COMMIT n).key := ⟨n % 16, Nat.mod_lt _ (by decide), rfl⟩
theorem key_AX_ERR_SEG (n : Nat) : (famAt 375).has (AX.ERR_SEG n).key := ⟨n % 16, Nat.mod_lt _ (by decide), rfl⟩
theorem key_AX_ERR_REASON (n : Nat) : (famAt 376).has (AX.ERR_REASON n).key := ⟨n % 16, Nat.mod_lt _ (by decide), rfl⟩
theorem key_AX_ERR_PRF (n : Nat) : (famAt 377).has (AX.ERR_PRF n).key := ⟨n % 16, Nat.mod_lt _ (by decide), rfl⟩
theorem key_AX_AX_INTERP (n : Nat) : (famAt 378).has (AX.AX_INTERP n).key := ⟨n % 16, Nat.mod_lt _ (by decide), rfl⟩
theorem key_AX_MQ_DROP_CNT (n : Nat) : (famAt 379).has (AX.MQ_DROP_CNT n).key := ⟨n % 16, Nat.mod_lt _ (by decide), rfl⟩
theorem key_AX_MQ_FLUSH_CNT (n : Nat) : (famAt 380).has (AX.MQ_FLUSH_CNT n).key := ⟨n % 16, Nat.mod_lt _ (by decide), rfl⟩
theorem key_AX_CLAMP_CNT (n : Nat) : (famAt 381).has (AX.CLAMP_CNT n).key := ⟨n % 16, Nat.mod_lt _ (by decide), rfl⟩
theorem key_AX_BLEND_MISS_CNT (n : Nat) : (famAt 382).has (AX.BLEND_MISS_CNT n).key := ⟨n % 16, Nat.mod_lt _ (by decide), rfl⟩
theorem key_AX_CS_DROP_CNT (n : Nat) : (famAt 383).has (AX.CS_DROP_CNT n).key := ⟨n % 16, Nat.mod_lt _ (by decide), rfl⟩
theorem key_AX_ENC_RATIO (n : Nat) : (famAt 384).has (AX.ENC_RATIO n).key := ⟨n % 16, Nat.mod_lt _ (by decide), rfl⟩
theorem key_AX_MOT_PP (n : Nat) : (famAt 385).has (AX.MOT_PP n).key := ⟨n % 16, Nat.mod_lt _ (by decide), rfl⟩
theorem key_AX_ENC_INV (n : Nat) : (famAt 386).has (AX.ENC_INV n).key := ⟨n % 16, Nat.mod_lt _ (by decide), rfl⟩
theorem key_AX_MEAS_HI (n : Nat) : (famAt 387).has (AX.MEAS_HI n).key := ⟨n % 16, Nat.mod_lt _ (by decide), rfl⟩
theorem key_AX_MEAS_LO (n : Nat) : (famAt 388).has (AX.MEAS_LO n).key := ⟨n % 16, Nat.mod_lt _ (by decide), rfl⟩
theorem key_AX_MEAS_VEL (n : Nat) : (famAt 389).has (AX.MEAS_VEL n).key := ⟨n % 16, Nat.mod_lt _ (by decide), rfl⟩
theorem key_AX_ZCAP_HI (n : Nat) : (famAt 390).has (AX.ZCAP_HI n).key := ⟨n % 16, Nat.mod_lt _ (by decide), rfl⟩
theorem key_AX_ZCAP_LO (n : Nat) : (famAt 391).has (AX.ZCAP_LO n).key := ⟨n % 16, Nat.mod_lt _ (by decide), rfl⟩
theorem key_AX_AX_DEV_WIN (n : Nat) : (famAt 392).has (AX.AX_DEV_WIN n).key := ⟨n % 16, Nat.mod_lt _ (by decide), rfl⟩
theorem key_AX_AX_DEV_N (n : Nat) : (famAt 393).has (AX.AX_DEV_N n).key := ⟨n % 16, Nat.mod_lt _ (by decide), rfl⟩
theorem key_AX_AX_RECAP_WIN (n : Nat) : (famAt 394).has (AX.AX_RECAP_WIN n).key := ⟨n % 16, Nat.mod_lt _ (by decide), rfl⟩
theorem key_AX_AX_SLIP_VMAX (n : Nat) : (famAt 395).has (AX.AX_SLIP_VMAX n).key := ⟨n % 16, Nat.mod_lt _ (by decide), rfl⟩
theorem key_AX_DEV_STATE (n : Nat) : (famAt 396).has (AX.DEV_STATE n).key := ⟨n % 16, Nat.mod_lt _ (by decide), rfl⟩
theorem key_AX_DEV_CAUSE (n : Nat) : (famAt 397).has (AX.DEV_CAUSE n).key := ⟨n % 16, Nat.mod_lt _ (by decide), rfl⟩
theorem key_AX_DEV_LAST (n : Nat) : (famAt 398).has (AX.DEV_LAST n).key := ⟨n % 16, Nat.mod_lt _ (by decide), rfl⟩
theorem key_AX_DEV_E (n : Nat) : (famAt 399).has (AX.DEV_E n).key := ⟨n % 16, Nat.mod_lt _ (by decide), rfl⟩
theorem key_AX_HOME_SPEED (n : Nat) : (famAt 400).has (AX.HOME_SPEED n).key := ⟨n % 16, Nat.mod_lt _ (by decide), rfl⟩
theorem key_AX_HOME_PRF (n : Nat) : (famAt 401).has (AX.HOME_PRF n).key := ⟨n % 16, Nat.mod_lt _ (by decide), rfl⟩
theorem key_AX_HOME_MODE (n : Nat) : (famAt 402).has (AX.HOME_MODE n).key := ⟨n % 16, Nat.mod_lt _ (by decide), rfl⟩
theorem key_AX_HOME_FORCE (n : Nat) : (famAt 403).has (AX.HOME_FORCE n).key := ⟨n % 16, Nat.mod_lt _ (by decide), rfl⟩
theorem key_AX_HOME_I (n : Nat) : (famAt 404).has (AX.HOME_I n).key := ⟨n % 16, Nat.mod_lt _ (by decide), rfl⟩
theorem key_AX_HOME_POS_HI (n : Nat) : (famAt 405).has (AX.HOME_POS_HI n).key := ⟨n % 16, Nat.mod_lt _ (by decide), rfl⟩
theorem key_AX_HOME_POS_LO (n : Nat) : (famAt 406).has (AX.HOME_POS_LO n).key := ⟨n % 16, Nat.mod_lt _ (by decide), rfl⟩
theorem key_AX_HOME_BACKOFF (n : Nat) : (famAt 407).has (AX.HOME_BACKOFF n).key := ⟨n % 16, Nat.mod_lt _ (by decide), rfl⟩
theorem key_AX_HOME_RESULT (n : Nat) : (famAt 408).has (AX.HOME_RESULT n).key := ⟨n % 16, Nat.mod_lt _ (by decide), rfl⟩
theorem key_AX_CAP_HI (n : Nat) : (famAt 409).has (AX.CAP_HI n).key := ⟨n % 16, Nat.mod_lt _ (by decide), rfl⟩
theorem key_AX_CAP_LO (n : Nat) : (famAt 410).has (AX.CAP_LO n).key := ⟨n % 16, Nat.mod_lt _ (by decide), rfl⟩
theorem key_AX_SW_BOTH (n : Nat) : (famAt 411).has (AX.SW_BOTH n).key := ⟨n % 16, Nat.mod_lt _ (by decide), rfl⟩
theorem key_AX_CAP_SW (n : Nat) : (famAt 412).has (AX.CAP_SW n).key := ⟨n % 16, Nat.mod_lt _ (by decide), rfl⟩
theorem key_AX_RAW_OPEN (n : Nat) : (famAt 413).has (AX.RAW_OPEN n).key := ⟨n % 16, Nat.mod_lt _ (by decide), rfl⟩
theorem key_AX_RAW_CLOSED (n : Nat) : (famAt 414).has (AX.RAW_CLOSED n).key := ⟨n % 16, Nat.mod_lt _ (by decide), rfl⟩
theorem key_AX_SW_MARGIN (n : Nat) : (famAt 415).has (AX.SW_MARGIN n).key := ⟨n % 16, Nat.mod_lt _ (by decide), rfl⟩
theorem key_AX_CHATTER_CNT (n : Nat) : (famAt 416).has (AX.CHATTER_CNT n).key := ⟨n % 16, Nat.mod_lt _ (by decide), rfl⟩
theorem key_AX_LIMIT_CNT (n : Nat) : (famAt 417).has (AX.LIMIT_CNT n).key := ⟨n % 16, Nat.mod_lt _ (by decide), rfl⟩
theorem key_AX_MOT_KT (n : Nat) : (famAt 418).has (AX.MOT_KT n).key := ⟨n % 16, Nat.mod_lt _ (by decide), rfl⟩
theorem key_AX_MOT_R (n : Nat) : (famAt 419).has (AX.MOT_R n).key := ⟨n % 16, Nat.mod_lt _ (by decide), rfl⟩
theorem key_AX_MOT_L (n : Nat) : (famAt 420).has (AX.MOT_L n).key := ⟨n % 16, Nat.mod_lt _ (by decide), rfl⟩
theorem key_AX_MECH_EFF (n : Nat) : (famAt 421).has (AX.MECH_EFF n).key := ⟨n % 16, Nat.mod_lt _ (by decide), rfl⟩
theorem key_AX_KT_EST (n : Nat) : (famAt 422).has (AX.KT_EST n).key := ⟨n % 16, Nat.mod_lt _ (by decide), rfl⟩
theorem key_AX_FORCE_EST (n : Nat) : (famAt 423).has (AX.FORCE_EST n).key := ⟨n % 16, Nat.mod_lt _ (by decide), rfl⟩
theorem key_AX_FORCE_THR (n : Nat) : (famAt 424).has (AX.FORCE_THR n).key := ⟨n % 16, Nat.mod_lt _ (by decide), rfl⟩
theorem key_AX_ENV_LEARN_N (n : Nat) : (famAt 425).has (AX.ENV_LEARN_N n).key := ⟨n % 16, Nat.mod_lt _ (by decide), rfl⟩
theorem key_AX_LEARN_RUNS (n : Nat) : (famAt 426).has (AX.LEARN_RUNS n).key := ⟨n % 16, Nat.mod_lt _ (by decide), rfl⟩
theorem key_AX_ENV_MARGIN (n : Nat) : (famAt 427).has (AX.ENV_MARGIN n).key := ⟨n % 16, Nat.mod_lt _ (by decide), rfl⟩
theorem key_AX_FLIM_ABS (n : Nat) : (famAt 428).has (AX.FLIM_ABS n).key := ⟨n % 16, Nat.mod_lt _ (by decide), rfl⟩
theorem key_AX_SQZ_FABS (n : Nat) : (famAt 429).has (AX.SQZ_FABS n).key := ⟨n % 16, Nat.mod_lt _ (by decide), rfl⟩
theorem key_AX_E_LIM (n : Nat) : (famAt 430).has (AX.E_LIM n).key := ⟨n % 16, Nat.mod_lt _ (by decide), rfl⟩
theorem key_AX_SQZ_VMAX (n : Nat) : (famAt 431).has (AX.SQZ_VMAX n).key := ⟨n % 16, Nat.mod_lt _ (by decide), rfl⟩
theorem key_AX_REV_MM (n : Nat) : (famAt 432).has (AX.REV_MM n).key := ⟨n % 16, Nat.mod_lt _ (by decide), rfl⟩
theorem key_AX_V_LIM (n : Nat) : (famAt 433).has (AX.V_LIM n).key := ⟨n % 16, Nat.mod_lt _ (by decide), rfl⟩
theorem key_AX_MASS_G (n : Nat) : (famAt 434).has (AX.MASS_G n).key := ⟨n % 16, Nat.mod_lt _ (by decide), rfl⟩
theorem key_AX_DIR_OPEN (n : Nat) : (famAt 435).has (AX.DIR_OPEN n).key := ⟨n % 16, Nat.mod_lt _ (by decide), rfl⟩
theorem key_AX_SQZ (n : Nat) : (famAt 436).has (AX.SQZ n).key := ⟨n % 16, Nat.mod_lt _ (by decide), rfl⟩
theorem key_AX_MASS_VALID (n : Nat) : (famAt 437).has (AX.MASS_VALID n).key := ⟨n % 16, Nat.mod_lt _ (by decide), rfl⟩
theorem key_AX_ENV_VALID (n : Nat) : (famAt 438).has (AX.ENV_VALID n).key := ⟨n % 16, Nat.mod_lt _ (by decide), rfl⟩
theorem key_AX_TRIP_CAUSE (n : Nat) : (famAt 439).has (AX.TRIP_CAUSE n).key := ⟨n % 16, Nat.mod_lt _ (by decide), rfl⟩
theorem key_AX_TRIP_BIN (n : Nat) : (famAt 440).has (AX.TRIP_BIN n).key := ⟨n % 16, Nat.mod_lt _ (by decide), rfl⟩
theorem key_AX_TRIP_F (n : Nat) : (famAt 441).has (AX.TRIP_F n).key := ⟨n % 16, Nat.mod_lt _ (by decide), rfl⟩
theorem key_AX_REV_AMAX (n : Nat) : (famAt 442).has (AX.REV_AMAX n).key := ⟨n % 16, Nat.mod_lt _ (by decide), rfl⟩
theorem key_AX_FORCE_TRIP_CNT (n : Nat) : (famAt 443).has (AX.FORCE_TRIP_CNT n).key := ⟨n % 16, Nat.mod_lt _ (by decide), rfl⟩
theorem key_AX_REV_CNT (n : Nat) : (famAt 444).has (AX.REV_CNT n).key := ⟨n % 16, Nat.mod_lt _ (by decide), rfl⟩
theorem key_AX_GAP_MM (n : Nat) : (famAt 445).has (AX.GAP_MM n).key := ⟨n % 16, Nat.mod_lt _ (by decide), rfl⟩
theorem key_AX_GAP_AGE_MS (n : Nat) : (famAt 446).has (AX.GAP_AGE_MS n).key := ⟨n % 16, Nat.mod_lt _ (by decide), rfl⟩
theorem key_AX_STEP_MAX_MM (n : Nat) : (famAt 447).has (AX.STEP_MAX_MM n).key := ⟨n % 16, Nat.mod_lt _ (by decide), rfl⟩
theorem key_AX_STEP_GAP_MM (n : Nat) : (famAt 448).has (AX.STEP_GAP_MM n).key := ⟨n % 16, Nat.mod_lt _ (by decide), rfl⟩
theorem key_AX_STEP_INFO (n : Nat) : (famAt 449).has (AX.STEP_INFO n).key := ⟨n % 16, Nat.mod_lt _ (by decide), rfl⟩
theorem key_AX_GAP_STALE_CNT (n : Nat) : (famAt 450).has (AX.GAP_STALE_CNT n).key := ⟨n % 16, Nat.mod_lt _ (by decide), rfl⟩
theorem key_AX_SLIP_CNT (n : Nat) : (famAt 451).has (AX.SLIP_CNT n).key := ⟨n % 16, Nat.mod_lt _ (by decide), rfl⟩
theorem key_AX_DEV_FAULT_CNT (n : Nat) : (famAt 452).has (AX.DEV_FAULT_CNT n).key := ⟨n % 16, Nat.mod_lt _ (by decide), rfl⟩
theorem key_AX_ENC_ERR_CNT (n : Nat) : (famAt 453).has (AX.ENC_ERR_CNT n).key := ⟨n % 16, Nat.mod_lt _ (by decide), rfl⟩
theorem key_TRV_CAP_AX : (famAt 454).has TRV.CAP_AX.key := ⟨0, by decide, rfl⟩
theorem key_TRV_CAP_TBL : (famAt 455).has TRV.CAP_TBL.key := ⟨0, by decide, rfl⟩
theorem key_TRV_CAP_TBL_LEN : (famAt 456).has TRV.CAP_TBL_LEN.key := ⟨0, by decide, rfl⟩
theorem key_TRV_GO_PENDING : (famAt 457).has TRV.GO_PENDING.key := ⟨0, by decide, rfl⟩
theorem key_TRV_ANY_FAULT : (famAt 458).has TRV.ANY_FAULT.key := ⟨0, by decide, rfl⟩
theorem key_TRV_ANY_STO : (famAt 459).has TRV.ANY_STO.key := ⟨0, by decide, rfl⟩
theorem key_TRV_ANY_MOVING : (famAt 460).has TRV.ANY_MOVING.key := ⟨0, by decide, rfl⟩
theorem key_TRV_MOVING_MASK : (famAt 461).has TRV.MOVING_MASK.key := ⟨0, by decide, rfl⟩
theorem key_TRV_STO_MASK : (famAt 462).has TRV.STO_MASK.key := ⟨0, by decide, rfl⟩
theorem key_TRV_TRV_GO : (famAt 463).has TRV.TRV_GO.key := ⟨0, by decide, rfl⟩
theorem key_TRV_TBL_INUSE : (famAt 464).has TRV.TBL_INUSE.key := ⟨0, by decide, rfl⟩
theorem key_TRV_TBL_CRC0 : (famAt 465).has TRV.TBL_CRC0.key := ⟨0, by decide, rfl⟩
theorem key_TRV_TBL_CRC1 : (famAt 466).has TRV.TBL_CRC1.key := ⟨0, by decide, rfl⟩
theorem key_TRV_TBL_CRC2 : (famAt 467).has TRV.TBL_CRC2.key := ⟨0, by decide, rfl⟩
theorem key_TRV_TBL_CRC3 : (famAt 468).has TRV.TBL_CRC3.key := ⟨0, by decide, rfl⟩
theorem key_LH_CAP_RING (n : Nat) : (famAt 469).has (LH.CAP_RING n).key := ⟨n % 16, Nat.mod_lt _ (by decide), rfl⟩
theorem key_LH_CAP_VER (n : Nat) : (famAt 470).has (LH.CAP_VER n).key := ⟨n % 16, Nat.mod_lt _ (by decide), rfl⟩
theorem key_LH_CAP_GEAR (n : Nat) : (famAt 471).has (LH.CAP_GEAR n).key := ⟨n % 16, Nat.mod_lt _ (by decide), rfl⟩
theorem key_LH_HEAD_ROLE (n : Nat) : (famAt 472).has (LH.HEAD_ROLE n).key := ⟨n % 16, Nat.mod_lt _ (by decide), rfl⟩
theorem key_LH_LINK_STATE (n : Nat) : (famAt 473).has (LH.LINK_STATE n).key := ⟨n % 16, Nat.mod_lt _ (by decide), rfl⟩
theorem key_LH_REJ_CODE (n : Nat) : (famAt 474).has (LH.REJ_CODE n).key := ⟨n % 16, Nat.mod_lt _ (by decide), rfl⟩
theorem key_LH_GW_GOOD (n : Nat) : (famAt 475).has (LH.GW_GOOD n).key := ⟨n % 16, Nat.mod_lt _ (by decide), rfl⟩
theorem key_LH_HP_SHED (n : Nat) : (famAt 476).has (LH.HP_SHED n).key := ⟨n % 16, Nat.mod_lt _ (by decide), rfl⟩
theorem key_LH_PWR_TRIP (n : Nat) : (famAt 477).has (LH.PWR_TRIP n).key := ⟨n % 16, Nat.mod_lt _ (by decide), rfl⟩
theorem key_LH_PRESENT (n : Nat) : (famAt 478).has (LH.PRESENT n).key := ⟨n % 16, Nat.mod_lt _ (by decide), rfl⟩
theorem key_LH_GEAR_LOW (n : Nat) : (famAt 479).has (LH.GEAR_LOW n).key := ⟨n % 16, Nat.mod_lt _ (by decide), rfl⟩
theorem key_LH_BURST (n : Nat) : (famAt 480).has (LH.BURST n).key := ⟨n % 16, Nat.mod_lt _ (by decide), rfl⟩
theorem key_LH_CAL_OK (n : Nat) : (famAt 481).has (LH.CAL_OK n).key := ⟨n % 16, Nat.mod_lt _ (by decide), rfl⟩
theorem key_LH_ID_OK (n : Nat) : (famAt 482).has (LH.ID_OK n).key := ⟨n % 16, Nat.mod_lt _ (by decide), rfl⟩
theorem key_LH_LINK_UP (n : Nat) : (famAt 483).has (LH.LINK_UP n).key := ⟨n % 16, Nat.mod_lt _ (by decide), rfl⟩
theorem key_LH_RUN (n : Nat) : (famAt 484).has (LH.RUN n).key := ⟨n % 16, Nat.mod_lt _ (by decide), rfl⟩
theorem key_LH_FRAME_STALE (n : Nat) : (famAt 485).has (LH.FRAME_STALE n).key := ⟨n % 16, Nat.mod_lt _ (by decide), rfl⟩
theorem key_LH_LH_CMD (n : Nat) : (famAt 486).has (LH.LH_CMD n).key := ⟨n % 16, Nat.mod_lt _ (by decide), rfl⟩
theorem key_LH_SLOT (n : Nat) : (famAt 487).has (LH.SLOT n).key := ⟨n % 16, Nat.mod_lt _ (by decide), rfl⟩
theorem key_LH_HVER (n : Nat) : (famAt 488).has (LH.HVER n).key := ⟨n % 16, Nat.mod_lt _ (by decide), rfl⟩
theorem key_LH_GEAR (n : Nat) : (famAt 489).has (LH.GEAR n).key := ⟨n % 16, Nat.mod_lt _ (by decide), rfl⟩
theorem key_LH_MODE (n : Nat) : (famAt 490).has (LH.MODE n).key := ⟨n % 16, Nat.mod_lt _ (by decide), rfl⟩
theorem key_LH_HP_MW (n : Nat) : (famAt 491).has (LH.HP_MW n).key := ⟨n % 16, Nat.mod_lt _ (by decide), rfl⟩
theorem key_LH_HP_V (n : Nat) : (famAt 492).has (LH.HP_V n).key := ⟨n % 16, Nat.mod_lt _ (by decide), rfl⟩
theorem key_LH_HEAD_VENDOR (n : Nat) : (famAt 493).has (LH.HEAD_VENDOR n).key := ⟨n % 16, Nat.mod_lt _ (by decide), rfl⟩
theorem key_LH_HEAD_MODEL (n : Nat) : (famAt 494).has (LH.HEAD_MODEL n).key := ⟨n % 16, Nat.mod_lt _ (by decide), rfl⟩
theorem key_LH_HEAD_SER_HI (n : Nat) : (famAt 495).has (LH.HEAD_SER_HI n).key := ⟨n % 16, Nat.mod_lt _ (by decide), rfl⟩
theorem key_LH_HEAD_SER_LO (n : Nat) : (famAt 496).has (LH.HEAD_SER_LO n).key := ⟨n % 16, Nat.mod_lt _ (by decide), rfl⟩
theorem key_LH_CAL_CRC (n : Nat) : (famAt 497).has (LH.CAL_CRC n).key := ⟨n % 16, Nat.mod_lt _ (by decide), rfl⟩
theorem key_LH_FRAME_NO (n : Nat) : (famAt 498).has (LH.FRAME_NO n).key := ⟨n % 16, Nat.mod_lt _ (by decide), rfl⟩
theorem key_LH_FRAME_TIME (n : Nat) : (famAt 499).has (LH.FRAME_TIME n).key := ⟨n % 16, Nat.mod_lt _ (by decide), rfl⟩
theorem key_LH_FRAME_AGE_MS (n : Nat) : (famAt 500).has (LH.FRAME_AGE_MS n).key := ⟨n % 16, Nat.mod_lt _ (by decide), rfl⟩
theorem key_LH_FRAME_LAT (n : Nat) : (famAt 501).has (LH.FRAME_LAT n).key := ⟨n % 16, Nat.mod_lt _ (by decide), rfl⟩
theorem key_LH_GW_SENT (n : Nat) : (famAt 502).has (LH.GW_SENT n).key := ⟨n % 16, Nat.mod_lt _ (by decide), rfl⟩
theorem key_LH_GW_REP (n : Nat) : (famAt 503).has (LH.GW_REP n).key := ⟨n % 16, Nat.mod_lt _ (by decide), rfl⟩
theorem key_LH_GW_RESULT (n : Nat) : (famAt 504).has (LH.GW_RESULT n).key := ⟨n % 16, Nat.mod_lt _ (by decide), rfl⟩
theorem key_LH_GW_RUN (n : Nat) : (famAt 505).has (LH.GW_RUN n).key := ⟨n % 16, Nat.mod_lt _ (by decide), rfl⟩
theorem key_LH_GW_MS (n : Nat) : (famAt 506).has (LH.GW_MS n).key := ⟨n % 16, Nat.mod_lt _ (by decide), rfl⟩
theorem key_LH_FRM_OK_CNT (n : Nat) : (famAt 507).has (LH.FRM_OK_CNT n).key := ⟨n % 16, Nat.mod_lt _ (by decide), rfl⟩
theorem key_LH_FRM_CRC_CNT (n : Nat) : (famAt 508).has (LH.FRM_CRC_CNT n).key := ⟨n % 16, Nat.mod_lt _ (by decide), rfl⟩
theorem key_LH_FRM_INC_CNT (n : Nat) : (famAt 509).has (LH.FRM_INC_CNT n).key := ⟨n % 16, Nat.mod_lt _ (by decide), rfl⟩
theorem key_LH_FRM_FULL_CNT (n : Nat) : (famAt 510).has (LH.FRM_FULL_CNT n).key := ⟨n % 16, Nat.mod_lt _ (by decide), rfl⟩
theorem key_LH_FRM_SKIP_CNT (n : Nat) : (famAt 511).has (LH.FRM_SKIP_CNT n).key := ⟨n % 16, Nat.mod_lt _ (by decide), rfl⟩
theorem key_LH_LINK_LOSS_CNT (n : Nat) : (famAt 512).has (LH.LINK_LOSS_CNT n).key := ⟨n % 16, Nat.mod_lt _ (by decide), rfl⟩
theorem key_LH_TRAIN_CNT (n : Nat) : (famAt 513).has (LH.TRAIN_CNT n).key := ⟨n % 16, Nat.mod_lt _ (by decide), rfl⟩
theorem key_LH_PWR_TRIP_CNT (n : Nat) : (famAt 514).has (LH.PWR_TRIP_CNT n).key := ⟨n % 16, Nat.mod_lt _ (by decide), rfl⟩
theorem key_LH_GW_FAIL_CNT (n : Nat) : (famAt 515).has (LH.GW_FAIL_CNT n).key := ⟨n % 16, Nat.mod_lt _ (by decide), rfl⟩
theorem key_LH_GW_SIL_CNT (n : Nat) : (famAt 516).has (LH.GW_SIL_CNT n).key := ⟨n % 16, Nat.mod_lt _ (by decide), rfl⟩
theorem key_LH_BURST_CNT (n : Nat) : (famAt 517).has (LH.BURST_CNT n).key := ⟨n % 16, Nat.mod_lt _ (by decide), rfl⟩
theorem key_LANT_CAP_HEADS : (famAt 518).has LANT.CAP_HEADS.key := ⟨0, by decide, rfl⟩
theorem key_LANT_CAP_LQ : (famAt 519).has LANT.CAP_LQ.key := ⟨0, by decide, rfl⟩
theorem key_LANT_CAP_PART_MB : (famAt 520).has LANT.CAP_PART_MB.key := ⟨0, by decide, rfl⟩
theorem key_LANT_ANY_SHED : (famAt 521).has LANT.ANY_SHED.key := ⟨0, by decide, rfl⟩
theorem key_LANT_ANY_DOWN : (famAt 522).has LANT.ANY_DOWN.key := ⟨0, by decide, rfl⟩
theorem key_LANT_ANY_BURST : (famAt 523).has LANT.ANY_BURST.key := ⟨0, by decide, rfl⟩
theorem key_LANT_HP_OK : (famAt 524).has LANT.HP_OK.key := ⟨0, by decide, rfl⟩
theorem key_LANT_ENG_OK : (famAt 525).has LANT.ENG_OK.key := ⟨0, by decide, rfl⟩
theorem key_LANT_RUN_MASK : (famAt 526).has LANT.RUN_MASK.key := ⟨0, by decide, rfl⟩
theorem key_LANT_UP_MASK : (famAt 527).has LANT.UP_MASK.key := ⟨0, by decide, rfl⟩
theorem key_LANT_GOOD_MASK : (famAt 528).has LANT.GOOD_MASK.key := ⟨0, by decide, rfl⟩
theorem key_LANT_BURST_MASK : (famAt 529).has LANT.BURST_MASK.key := ⟨0, by decide, rfl⟩
theorem key_LANT_HP_TOTAL : (famAt 530).has LANT.HP_TOTAL.key := ⟨0, by decide, rfl⟩
theorem key_LANT_ING_MBPS : (famAt 531).has LANT.ING_MBPS.key := ⟨0, by decide, rfl⟩
theorem key_LANT_ENG_FAULT_STAGE : (famAt 532).has LANT.ENG_FAULT_STAGE.key := ⟨0, by decide, rfl⟩
theorem key_LANT_HP_SHED_CNT : (famAt 533).has LANT.HP_SHED_CNT.key := ⟨0, by decide, rfl⟩
theorem key_LVOL_CAP_DW : (famAt 534).has LVOL.CAP_DW.key := ⟨0, by decide, rfl⟩
theorem key_LVOL_CAP_VOX_MM : (famAt 535).has LVOL.CAP_VOX_MM.key := ⟨0, by decide, rfl⟩
theorem key_LVOL_CAP_LQ_DEPTH : (famAt 536).has LVOL.CAP_LQ_DEPTH.key := ⟨0, by decide, rfl⟩
theorem key_LVOL_UNTRUST : (famAt 537).has LVOL.UNTRUST.key := ⟨0, by decide, rfl⟩
theorem key_LVOL_THIN : (famAt 538).has LVOL.THIN.key := ⟨0, by decide, rfl⟩
theorem key_LVOL_LQ_NE : (famAt 539).has LVOL.LQ_NE.key := ⟨0, by decide, rfl⟩
theorem key_LVOL_PINCH_MASK : (famAt 540).has LVOL.PINCH_MASK.key := ⟨0, by decide, rfl⟩
theorem key_LVOL_BURST_REQ_MASK : (famAt 541).has LVOL.BURST_REQ_MASK.key := ⟨0, by decide, rfl⟩
theorem key_LVOL_BG_VALID_MASK : (famAt 542).has LVOL.BG_VALID_MASK.key := ⟨0, by decide, rfl⟩
theorem key_LVOL_SQZ_MASK : (famAt 543).has LVOL.SQZ_MASK.key := ⟨0, by decide, rfl⟩
theorem key_LVOL_LQ_ACK : (famAt 544).has LVOL.LQ_ACK.key := ⟨0, by decide, rfl⟩
theorem key_LVOL_BG_CMD : (famAt 545).has LVOL.BG_CMD.key := ⟨0, by decide, rfl⟩
theorem key_LVOL_BG_STATE : (famAt 546).has LVOL.BG_STATE.key := ⟨0, by decide, rfl⟩
theorem key_LVOL_BG_LEARN_N : (famAt 547).has LVOL.BG_LEARN_N.key := ⟨0, by decide, rfl⟩
theorem key_LVOL_BG_STATIC_THR : (famAt 548).has LVOL.BG_STATIC_THR.key := ⟨0, by decide, rfl⟩
theorem key_LVOL_OCC_MIN : (famAt 549).has LVOL.OCC_MIN.key := ⟨0, by decide, rfl⟩
theorem key_LVOL_LQ_FILL0 : (famAt 550).has LVOL.LQ_FILL0.key := ⟨0, by decide, rfl⟩
theorem key_LVOL_LQ_FILL1 : (famAt 551).has LVOL.LQ_FILL1.key := ⟨0, by decide, rfl⟩
theorem key_LVOL_LQ_FILL2 : (famAt 552).has LVOL.LQ_FILL2.key := ⟨0, by decide, rfl⟩
theorem key_LVOL_LQ_FILL3 : (famAt 553).has LVOL.LQ_FILL3.key := ⟨0, by decide, rfl⟩
theorem key_LVOL_LQ_DROP_CNT : (famAt 554).has LVOL.LQ_DROP_CNT.key := ⟨0, by decide, rfl⟩
theorem key_LVOL_PROC_SKIP_CNT : (famAt 555).has LVOL.PROC_SKIP_CNT.key := ⟨0, by decide, rfl⟩
theorem key_LVOL_STALE_CNT : (famAt 556).has LVOL.STALE_CNT.key := ⟨0, by decide, rfl⟩
theorem key_LVOL_SQZ_CNT : (famAt 557).has LVOL.SQZ_CNT.key := ⟨0, by decide, rfl⟩
theorem key_LVOL_PINCH_CNT : (famAt 558).has LVOL.PINCH_CNT.key := ⟨0, by decide, rfl⟩
theorem key_LVOL_THIN_CNT : (famAt 559).has LVOL.THIN_CNT.key := ⟨0, by decide, rfl⟩
theorem key_LVOL_BG_FAIL_CNT : (famAt 560).has LVOL.BG_FAIL_CNT.key := ⟨0, by decide, rfl⟩
theorem key_LVOLD_LEAF_Y_MM (n : Nat) : (famAt 561).has (LVOLD.LEAF_Y_MM n).key := ⟨n % 8, Nat.mod_lt _ (by decide), rfl⟩
theorem key_LVOLD_LEAF_MARGIN_MM (n : Nat) : (famAt 562).has (LVOLD.LEAF_MARGIN_MM n).key := ⟨n % 8, Nat.mod_lt _ (by decide), rfl⟩
theorem key_LVOLD_LEAF_CFG (n : Nat) : (famAt 563).has (LVOLD.LEAF_CFG n).key := ⟨n % 8, Nat.mod_lt _ (by decide), rfl⟩
theorem key_LVOLD_LEAF_ZERO_HI (n : Nat) : (famAt 564).has (LVOLD.LEAF_ZERO_HI n).key := ⟨n % 8, Nat.mod_lt _ (by decide), rfl⟩
theorem key_LVOLD_LEAF_ZERO_LO (n : Nat) : (famAt 565).has (LVOLD.LEAF_ZERO_LO n).key := ⟨n % 8, Nat.mod_lt _ (by decide), rfl⟩
theorem key_LVOLD_STEP_ZERO_HI (n : Nat) : (famAt 566).has (LVOLD.STEP_ZERO_HI n).key := ⟨n % 8, Nat.mod_lt _ (by decide), rfl⟩
theorem key_LVOLD_STEP_ZERO_LO (n : Nat) : (famAt 567).has (LVOLD.STEP_ZERO_LO n).key := ⟨n % 8, Nat.mod_lt _ (by decide), rfl⟩
theorem key_LVOLD_SLAB_AHEAD_MM (n : Nat) : (famAt 568).has (LVOLD.SLAB_AHEAD_MM n).key := ⟨n % 8, Nat.mod_lt _ (by decide), rfl⟩
theorem key_LVOLD_SLAB_BEHIND_MM (n : Nat) : (famAt 569).has (LVOLD.SLAB_BEHIND_MM n).key := ⟨n % 8, Nat.mod_lt _ (by decide), rfl⟩
theorem key_LVOLD_SLAB_Y_MM (n : Nat) : (famAt 570).has (LVOLD.SLAB_Y_MM n).key := ⟨n % 8, Nat.mod_lt _ (by decide), rfl⟩
theorem key_LVOLD_PINCH_VOX (n : Nat) : (famAt 571).has (LVOLD.PINCH_VOX n).key := ⟨n % 8, Nat.mod_lt _ (by decide), rfl⟩
theorem key_LVOLD_SLAB_Z_LO (n : Nat) : (famAt 572).has (LVOLD.SLAB_Z_LO n).key := ⟨n % 8, Nat.mod_lt _ (by decide), rfl⟩
theorem key_LVOLD_SLAB_Z_HI (n : Nat) : (famAt 573).has (LVOLD.SLAB_Z_HI n).key := ⟨n % 8, Nat.mod_lt _ (by decide), rfl⟩
theorem key_LVOLD_THIN_ARM_MM (n : Nat) : (famAt 574).has (LVOLD.THIN_ARM_MM n).key := ⟨n % 8, Nat.mod_lt _ (by decide), rfl⟩
theorem key_LVOLD_THIN_Y_MM (n : Nat) : (famAt 575).has (LVOLD.THIN_Y_MM n).key := ⟨n % 8, Nat.mod_lt _ (by decide), rfl⟩
theorem key_LVOLD_THIN_N (n : Nat) : (famAt 576).has (LVOLD.THIN_N n).key := ⟨n % 8, Nat.mod_lt _ (by decide), rfl⟩
theorem key_LVOLD_THIN_X_MM (n : Nat) : (famAt 577).has (LVOLD.THIN_X_MM n).key := ⟨n % 8, Nat.mod_lt _ (by decide), rfl⟩
theorem key_LVOLD_THIN_MIN_PTS (n : Nat) : (famAt 578).has (LVOLD.THIN_MIN_PTS n).key := ⟨n % 8, Nat.mod_lt _ (by decide), rfl⟩
theorem key_LVOLD_GAP_X_MM (n : Nat) : (famAt 579).has (LVOLD.GAP_X_MM n).key := ⟨n % 8, Nat.mod_lt _ (by decide), rfl⟩
theorem key_LVOLD_NOSE_Y0_MM (n : Nat) : (famAt 580).has (LVOLD.NOSE_Y0_MM n).key := ⟨n % 8, Nat.mod_lt _ (by decide), rfl⟩
theorem key_LVOLD_GAP_Z_LO (n : Nat) : (famAt 581).has (LVOLD.GAP_Z_LO n).key := ⟨n % 8, Nat.mod_lt _ (by decide), rfl⟩
theorem key_LVOLD_GAP_Z_HI (n : Nat) : (famAt 582).has (LVOLD.GAP_Z_HI n).key := ⟨n % 8, Nat.mod_lt _ (by decide), rfl⟩
theorem key_LVOLD_UNT_WHY (n : Nat) : (famAt 583).has (LVOLD.UNT_WHY n).key := ⟨n % 8, Nat.mod_lt _ (by decide), rfl⟩
theorem key_LVOLD_TRUSTED (n : Nat) : (famAt 584).has (LVOLD.TRUSTED n).key := ⟨n % 8, Nat.mod_lt _ (by decide), rfl⟩
theorem key_LVOLD_SQZ (n : Nat) : (famAt 585).has (LVOLD.SQZ n).key := ⟨n % 8, Nat.mod_lt _ (by decide), rfl⟩
theorem key_LVOLD_BURST_REQ (n : Nat) : (famAt 586).has (LVOLD.BURST_REQ n).key := ⟨n % 8, Nat.mod_lt _ (by decide), rfl⟩
theorem key_LVOLD_THIN (n : Nat) : (famAt 587).has (LVOLD.THIN n).key := ⟨n % 8, Nat.mod_lt _ (by decide), rfl⟩
theorem key_LVOLD_PINCH_R (n : Nat) : (famAt 588).has (LVOLD.PINCH_R n).key := ⟨n % 8, Nat.mod_lt _ (by decide), rfl⟩
theorem key_LVOLD_PINCH_L (n : Nat) : (famAt 589).has (LVOLD.PINCH_L n).key := ⟨n % 8, Nat.mod_lt _ (by decide), rfl⟩
theorem key_LVOLD_GAP_VALID (n : Nat) : (famAt 590).has (LVOLD.GAP_VALID n).key := ⟨n % 8, Nat.mod_lt _ (by decide), rfl⟩
theorem key_LVOLD_THIN_ARMED (n : Nat) : (famAt 591).has (LVOLD.THIN_ARMED n).key := ⟨n % 8, Nat.mod_lt _ (by decide), rfl⟩
theorem key_LVOLD_CLEAR_L (n : Nat) : (famAt 592).has (LVOLD.CLEAR_L n).key := ⟨n % 8, Nat.mod_lt _ (by decide), rfl⟩
theorem key_LVOLD_CLEAR_R (n : Nat) : (famAt 593).has (LVOLD.CLEAR_R n).key := ⟨n % 8, Nat.mod_lt _ (by decide), rfl⟩
theorem key_LVOLD_GAP_MM (n : Nat) : (famAt 594).has (LVOLD.GAP_MM n).key := ⟨n % 8, Nat.mod_lt _ (by decide), rfl⟩
theorem key_LVOLD_GAP_COLS (n : Nat) : (famAt 595).has (LVOLD.GAP_COLS n).key := ⟨n % 8, Nat.mod_lt _ (by decide), rfl⟩
theorem key_LVOLD_NOISE_J (n : Nat) : (famAt 596).has (LVOLD.NOISE_J n).key := ⟨n % 8, Nat.mod_lt _ (by decide), rfl⟩
theorem key_LVOLD_NOISE_S (n : Nat) : (famAt 597).has (LVOLD.NOISE_S n).key := ⟨n % 8, Nat.mod_lt _ (by decide), rfl⟩
theorem key_GAL_CAP_LIGHT : (famAt 598).has GAL.CAP_LIGHT.key := ⟨0, by decide, rfl⟩
theorem key_GAL_CAP_HEAVY : (famAt 599).has GAL.CAP_HEAVY.key := ⟨0, by decide, rfl⟩
theorem key_GAL_CAP_LOCK : (famAt 600).has GAL.CAP_LOCK.key := ⟨0, by decide, rfl⟩
theorem key_GAL_CAP_DIRECT : (famAt 601).has GAL.CAP_DIRECT.key := ⟨0, by decide, rfl⟩
theorem key_GAL_ANY_CLAMP_LOCK : (famAt 602).has GAL.ANY_CLAMP_LOCK.key := ⟨0, by decide, rfl⟩
theorem key_GAL_ANY_TH : (famAt 603).has GAL.ANY_TH.key := ⟨0, by decide, rfl⟩
theorem key_GAL_ANY_OC : (famAt 604).has GAL.ANY_OC.key := ⟨0, by decide, rfl⟩
theorem key_GAL_B_SHED : (famAt 605).has GAL.B_SHED.key := ⟨0, by decide, rfl⟩
theorem key_GAL_A_SHED : (famAt 606).has GAL.A_SHED.key := ⟨0, by decide, rfl⟩
theorem key_GAL_B_FAULT : (famAt 607).has GAL.B_FAULT.key := ⟨0, by decide, rfl⟩
theorem key_GAL_A_FAULT : (famAt 608).has GAL.A_FAULT.key := ⟨0, by decide, rfl⟩
theorem key_GAL_B_GND : (famAt 609).has GAL.B_GND.key := ⟨0, by decide, rfl⟩
theorem key_GAL_A_GND : (famAt 610).has GAL.A_GND.key := ⟨0, by decide, rfl⟩
theorem key_GAL_B_OV : (famAt 611).has GAL.B_OV.key := ⟨0, by decide, rfl⟩
theorem key_GAL_A_OV : (famAt 612).has GAL.A_OV.key := ⟨0, by decide, rfl⟩
theorem key_GAL_B_REV : (famAt 613).has GAL.B_REV.key := ⟨0, by decide, rfl⟩
theorem key_GAL_A_REV : (famAt 614).has GAL.A_REV.key := ⟨0, by decide, rfl⟩
theorem key_GAL_B_OK : (famAt 615).has GAL.B_OK.key := ⟨0, by decide, rfl⟩
theorem key_GAL_A_OK : (famAt 616).has GAL.A_OK.key := ⟨0, by decide, rfl⟩
theorem key_GAL_GC_ON_LO : (famAt 617).has GAL.GC_ON_LO.key := ⟨0, by decide, rfl⟩
theorem key_GAL_GC_ON_HI : (famAt 618).has GAL.GC_ON_HI.key := ⟨0, by decide, rfl⟩
theorem key_GAL_OUT_LO : (famAt 619).has GAL.OUT_LO.key := ⟨0, by decide, rfl⟩
theorem key_GAL_OUT_HI : (famAt 620).has GAL.OUT_HI.key := ⟨0, by decide, rfl⟩
theorem key_GAL_BLK_LO : (famAt 621).has GAL.BLK_LO.key := ⟨0, by decide, rfl⟩
theorem key_GAL_BLK_HI : (famAt 622).has GAL.BLK_HI.key := ⟨0, by decide, rfl⟩
theorem key_GAL_IA : (famAt 623).has GAL.IA.key := ⟨0, by decide, rfl⟩
theorem key_GAL_IB : (famAt 624).has GAL.IB.key := ⟨0, by decide, rfl⟩
theorem key_GAL_IA_MEAN : (famAt 625).has GAL.IA_MEAN.key := ⟨0, by decide, rfl⟩
theorem key_GAL_IB_MEAN : (famAt 626).has GAL.IB_MEAN.key := ⟨0, by decide, rfl⟩
theorem key_GAL_GAL_CMD : (famAt 627).has GAL.GAL_CMD.key := ⟨0, by decide, rfl⟩
theorem key_GAL_OC_TRIP_CNT : (famAt 628).has GAL.OC_TRIP_CNT.key := ⟨0, by decide, rfl⟩
theorem key_GAL_RETRY_CNT : (famAt 629).has GAL.RETRY_CNT.key := ⟨0, by decide, rfl⟩
theorem key_GAL_OC_LOCK_CNT : (famAt 630).has GAL.OC_LOCK_CNT.key := ⟨0, by decide, rfl⟩
theorem key_GAL_TH_CNT : (famAt 631).has GAL.TH_CNT.key := ⟨0, by decide, rfl⟩
theorem key_GAL_CLAMP_LOCK_CNT : (famAt 632).has GAL.CLAMP_LOCK_CNT.key := ⟨0, by decide, rfl⟩
theorem key_GAL_CLAMP_OVER_CNT : (famAt 633).has GAL.CLAMP_OVER_CNT.key := ⟨0, by decide, rfl⟩
theorem key_GAL_SHED_CNT : (famAt 634).has GAL.SHED_CNT.key := ⟨0, by decide, rfl⟩
theorem key_GAL_GATE_CUT_CNT : (famAt 635).has GAL.GATE_CUT_CNT.key := ⟨0, by decide, rfl⟩
theorem key_GAL_SURGE_CNT : (famAt 636).has GAL.SURGE_CNT.key := ⟨0, by decide, rfl⟩
theorem key_GAL_BANK_FLT_CNT : (famAt 637).has GAL.BANK_FLT_CNT.key := ⟨0, by decide, rfl⟩
theorem key_GALC_INRUSH_MS (n : Nat) : (famAt 638).has (GALC.INRUSH_MS n).key := ⟨n % 48, Nat.mod_lt _ (by decide), rfl⟩
theorem key_GALC_SHED_PRI (n : Nat) : (famAt 639).has (GALC.SHED_PRI n).key := ⟨n % 48, Nat.mod_lt _ (by decide), rfl⟩
theorem key_GALC_RETRY_MAX (n : Nat) : (famAt 640).has (GALC.RETRY_MAX n).key := ⟨n % 48, Nat.mod_lt _ (by decide), rfl⟩
theorem key_GALC_FOLLOW (n : Nat) : (famAt 641).has (GALC.FOLLOW n).key := ⟨n % 48, Nat.mod_lt _ (by decide), rfl⟩
theorem key_GALC_FOLLOW_PIN (n : Nat) : (famAt 642).has (GALC.FOLLOW_PIN n).key := ⟨n % 48, Nat.mod_lt _ (by decide), rfl⟩
theorem key_GALC_ILIM (n : Nat) : (famAt 643).has (GALC.ILIM n).key := ⟨n % 48, Nat.mod_lt _ (by decide), rfl⟩
theorem key_GALC_RETRY_N (n : Nat) : (famAt 644).has (GALC.RETRY_N n).key := ⟨n % 48, Nat.mod_lt _ (by decide), rfl⟩
theorem key_GALC_IN_CRAWL (n : Nat) : (famAt 645).has (GALC.IN_CRAWL n).key := ⟨n % 48, Nat.mod_lt _ (by decide), rfl⟩
theorem key_GALC_GATE_SHUT (n : Nat) : (famAt 646).has (GALC.GATE_SHUT n).key := ⟨n % 48, Nat.mod_lt _ (by decide), rfl⟩
theorem key_GALC_SHED (n : Nat) : (famAt 647).has (GALC.SHED n).key := ⟨n % 48, Nat.mod_lt _ (by decide), rfl⟩
theorem key_GALC_CLAMP_LOCK (n : Nat) : (famAt 648).has (GALC.CLAMP_LOCK n).key := ⟨n % 48, Nat.mod_lt _ (by decide), rfl⟩
theorem key_GALC_TH_LATCH (n : Nat) : (famAt 649).has (GALC.TH_LATCH n).key := ⟨n % 48, Nat.mod_lt _ (by decide), rfl⟩
theorem key_GALC_OC_LOCK (n : Nat) : (famAt 650).has (GALC.OC_LOCK n).key := ⟨n % 48, Nat.mod_lt _ (by decide), rfl⟩
theorem key_GALC_OC_TRIP (n : Nat) : (famAt 651).has (GALC.OC_TRIP n).key := ⟨n % 48, Nat.mod_lt _ (by decide), rfl⟩
theorem key_GALC_INRUSH (n : Nat) : (famAt 652).has (GALC.INRUSH n).key := ⟨n % 48, Nat.mod_lt _ (by decide), rfl⟩
theorem key_GALC_OUT (n : Nat) : (famAt 653).has (GALC.OUT n).key := ⟨n % 48, Nat.mod_lt _ (by decide), rfl⟩
theorem key_GALC_CMD (n : Nat) : (famAt 654).has (GALC.CMD n).key := ⟨n % 48, Nat.mod_lt _ (by decide), rfl⟩
theorem key_GALC_I_MA (n : Nat) : (famAt 655).has (GALC.I_MA n).key := ⟨n % 48, Nat.mod_lt _ (by decide), rfl⟩
theorem key_GALC_DT (n : Nat) : (famAt 656).has (GALC.DT n).key := ⟨n % 48, Nat.mod_lt _ (by decide), rfl⟩
theorem key_GALC_TJ (n : Nat) : (famAt 657).has (GALC.TJ n).key := ⟨n % 48, Nat.mod_lt _ (by decide), rfl⟩
theorem key_GALC_CLAMP_SUM (n : Nat) : (famAt 658).has (GALC.CLAMP_SUM n).key := ⟨n % 48, Nat.mod_lt _ (by decide), rfl⟩
theorem key_GALC_CLAMP_LAST (n : Nat) : (famAt 659).has (GALC.CLAMP_LAST n).key := ⟨n % 48, Nat.mod_lt _ (by decide), rfl⟩
theorem key_GALC_CH_TRIP_CNT (n : Nat) : (famAt 660).has (GALC.CH_TRIP_CNT n).key := ⟨n % 48, Nat.mod_lt _ (by decide), rfl⟩
theorem key_GALC_CH_CLAMP_CNT (n : Nat) : (famAt 661).has (GALC.CH_CLAMP_CNT n).key := ⟨n % 48, Nat.mod_lt _ (by decide), rfl⟩
theorem key_CRAWL_CAP_MAP : (famAt 662).has CRAWL.CAP_MAP.key := ⟨0, by decide, rfl⟩
theorem key_CRAWL_CAP_DIRECT : (famAt 663).has CRAWL.CAP_DIRECT.key := ⟨0, by decide, rfl⟩
theorem key_CRAWL_MAP_LOADED : (famAt 664).has CRAWL.MAP_LOADED.key := ⟨0, by decide, rfl⟩
theorem key_CRAWL_CR_WD : (famAt 665).has CRAWL.CR_WD.key := ⟨0, by decide, rfl⟩
theorem key_CRAWL_CR_PIN : (famAt 666).has CRAWL.CR_PIN.key := ⟨0, by decide, rfl⟩
theorem key_CRAWL_CRAWL_ON : (famAt 667).has CRAWL.CRAWL_ON.key := ⟨0, by decide, rfl⟩
theorem key_CRAWL_CRAWL_MAP (k : Nat) : (famAt 668).has (CRAWL.CRAWL_MAP k).key := ⟨k % 12, Nat.mod_lt _ (by decide), rfl⟩
theorem key_CRAWL_CR_PINS : (famAt 669).has CRAWL.CR_PINS.key := ⟨0, by decide, rfl⟩
theorem key_CRAWL_CRAWL_CNT : (famAt 670).has CRAWL.CRAWL_CNT.key := ⟨0, by decide, rfl⟩
theorem key_FIO_CAP_FI : (famAt 671).has FIO.CAP_FI.key := ⟨0, by decide, rfl⟩
theorem key_FIO_CAP_FO : (famAt 672).has FIO.CAP_FO.key := ⟨0, by decide, rfl⟩
theorem key_FIO_CAP_GRP : (famAt 673).has FIO.CAP_GRP.key := ⟨0, by decide, rfl⟩
theorem key_FIO_WD_OPEN : (famAt 674).has FIO.WD_OPEN.key := ⟨0, by decide, rfl⟩
theorem key_FIO_BARRIER_OK : (famAt 675).has FIO.BARRIER_OK.key := ⟨0, by decide, rfl⟩
theorem key_FIO_FIO_FAULT : (famAt 676).has FIO.FIO_FAULT.key := ⟨0, by decide, rfl⟩
theorem key_FIO_FI_LO : (famAt 677).has FIO.FI_LO.key := ⟨0, by decide, rfl⟩
theorem key_FIO_FI_HI : (famAt 678).has FIO.FI_HI.key := ⟨0, by decide, rfl⟩
theorem key_FIO_FO_OUT : (famAt 679).has FIO.FO_OUT.key := ⟨0, by decide, rfl⟩
theorem key_FIO_THR : (famAt 680).has FIO.THR.key := ⟨0, by decide, rfl⟩
theorem key_FIO_FILT : (famAt 681).has FIO.FILT.key := ⟨0, by decide, rfl⟩
theorem key_FIO_WAKE_LO : (famAt 682).has FIO.WAKE_LO.key := ⟨0, by decide, rfl⟩
theorem key_FIO_WAKE_HI : (famAt 683).has FIO.WAKE_HI.key := ⟨0, by decide, rfl⟩
theorem key_FIO_WAKE_FI_V : (famAt 684).has FIO.WAKE_FI_V.key := ⟨0, by decide, rfl⟩
theorem key_FIO_WAKE_FI : (famAt 685).has FIO.WAKE_FI.key := ⟨0, by decide, rfl⟩
theorem key_FIO_FAULT_ON_CNT : (famAt 686).has FIO.FAULT_ON_CNT.key := ⟨0, by decide, rfl⟩
theorem key_FIO_SAG_CNT : (famAt 687).has FIO.SAG_CNT.key := ⟨0, by decide, rfl⟩
theorem key_CAN_CAP_TXQ (n : Nat) : (famAt 688).has (CAN.CAP_TXQ n).key := ⟨n % 4, Nat.mod_lt _ (by decide), rfl⟩
theorem key_CAN_CAP_RXF (n : Nat) : (famAt 689).has (CAN.CAP_RXF n).key := ⟨n % 4, Nat.mod_lt _ (by decide), rfl⟩
theorem key_CAN_CAP_HPB (n : Nat) : (famAt 690).has (CAN.CAP_HPB n).key := ⟨n % 4, Nat.mod_lt _ (by decide), rfl⟩
theorem key_CAN_CAP_RAM_KB (n : Nat) : (famAt 691).has (CAN.CAP_RAM_KB n).key := ⟨n % 4, Nat.mod_lt _ (by decide), rfl⟩
theorem key_CAN_HPB_FULL (n : Nat) : (famAt 692).has (CAN.HPB_FULL n).key := ⟨n % 4, Nat.mod_lt _ (by decide), rfl⟩
theorem key_CAN_SAFE_CH (n : Nat) : (famAt 693).has (CAN.SAFE_CH n).key := ⟨n % 4, Nat.mod_lt _ (by decide), rfl⟩
theorem key_CAN_WAKE_EV (n : Nat) : (famAt 694).has (CAN.WAKE_EV n).key := ⟨n % 4, Nat.mod_lt _ (by decide), rfl⟩
theorem key_CAN_SLEEP (n : Nat) : (famAt 695).has (CAN.SLEEP n).key := ⟨n % 4, Nat.mod_lt _ (by decide), rfl⟩
theorem key_CAN_RECOVERING (n : Nat) : (famAt 696).has (CAN.RECOVERING n).key := ⟨n % 4, Nat.mod_lt _ (by decide), rfl⟩
theorem key_CAN_BUS_OFF (n : Nat) : (famAt 697).has (CAN.BUS_OFF n).key := ⟨n % 4, Nat.mod_lt _ (by decide), rfl⟩
theorem key_CAN_ERR_PASSIVE (n : Nat) : (famAt 698).has (CAN.ERR_PASSIVE n).key := ⟨n % 4, Nat.mod_lt _ (by decide), rfl⟩
theorem key_CAN_WARN (n : Nat) : (famAt 699).has (CAN.WARN n).key := ⟨n % 4, Nat.mod_lt _ (by decide), rfl⟩
theorem key_CAN_TX_FULL (n : Nat) : (famAt 700).has (CAN.TX_FULL n).key := ⟨n % 4, Nat.mod_lt _ (by decide), rfl⟩
theorem key_CAN_TX_DONE_NE (n : Nat) : (famAt 701).has (CAN.TX_DONE_NE n).key := ⟨n % 4, Nat.mod_lt _ (by decide), rfl⟩
theorem key_CAN_RX_FULL (n : Nat) : (famAt 702).has (CAN.RX_FULL n).key := ⟨n % 4, Nat.mod_lt _ (by decide), rfl⟩
theorem key_CAN_RX_NE (n : Nat) : (famAt 703).has (CAN.RX_NE n).key := ⟨n % 4, Nat.mod_lt _ (by decide), rfl⟩
theorem key_CAN_CAP_FSTD (n : Nat) : (famAt 704).has (CAN.CAP_FSTD n).key := ⟨n % 4, Nat.mod_lt _ (by decide), rfl⟩
theorem key_CAN_CAP_FEXT (n : Nat) : (famAt 705).has (CAN.CAP_FEXT n).key := ⟨n % 4, Nat.mod_lt _ (by decide), rfl⟩
theorem key_CAN_CAP_FXL (n : Nat) : (famAt 706).has (CAN.CAP_FXL n).key := ⟨n % 4, Nat.mod_lt _ (by decide), rfl⟩
theorem key_CAN_TX_AREA_BLK (n : Nat) : (famAt 707).has (CAN.TX_AREA_BLK n).key := ⟨n % 4, Nat.mod_lt _ (by decide), rfl⟩
theorem key_CAN_TERM (n : Nat) : (famAt 708).has (CAN.TERM n).key := ⟨n % 4, Nat.mod_lt _ (by decide), rfl⟩
theorem key_CAN_TDC_EN (n : Nat) : (famAt 709).has (CAN.TDC_EN n).key := ⟨n % 4, Nat.mod_lt _ (by decide), rfl⟩
theorem key_CAN_NOMATCH (n : Nat) : (famAt 710).has (CAN.NOMATCH n).key := ⟨n % 4, Nat.mod_lt _ (by decide), rfl⟩
theorem key_CAN_AUTO_REC (n : Nat) : (famAt 711).has (CAN.AUTO_REC n).key := ⟨n % 4, Nat.mod_lt _ (by decide), rfl⟩
theorem key_CAN_PEX (n : Nat) : (famAt 712).has (CAN.PEX n).key := ⟨n % 4, Nat.mod_lt _ (by decide), rfl⟩
theorem key_CAN_XL_EN (n : Nat) : (famAt 713).has (CAN.XL_EN n).key := ⟨n % 4, Nat.mod_lt _ (by decide), rfl⟩
theorem key_CAN_FD_EN (n : Nat) : (famAt 714).has (CAN.FD_EN n).key := ⟨n % 4, Nat.mod_lt _ (by decide), rfl⟩
theorem key_CAN_MODE (n : Nat) : (famAt 715).has (CAN.MODE n).key := ⟨n % 4, Nat.mod_lt _ (by decide), rfl⟩
theorem key_CAN_N_BRP (n : Nat) : (famAt 716).has (CAN.N_BRP n).key := ⟨n % 4, Nat.mod_lt _ (by decide), rfl⟩
theorem key_CAN_N_TSEG1 (n : Nat) : (famAt 717).has (CAN.N_TSEG1 n).key := ⟨n % 4, Nat.mod_lt _ (by decide), rfl⟩
theorem key_CAN_N_TSEG2 (n : Nat) : (famAt 718).has (CAN.N_TSEG2 n).key := ⟨n % 4, Nat.mod_lt _ (by decide), rfl⟩
theorem key_CAN_N_SJW (n : Nat) : (famAt 719).has (CAN.N_SJW n).key := ⟨n % 4, Nat.mod_lt _ (by decide), rfl⟩
theorem key_CAN_D_BRP (n : Nat) : (famAt 720).has (CAN.D_BRP n).key := ⟨n % 4, Nat.mod_lt _ (by decide), rfl⟩
theorem key_CAN_D_TSEG1 (n : Nat) : (famAt 721).has (CAN.D_TSEG1 n).key := ⟨n % 4, Nat.mod_lt _ (by decide), rfl⟩
theorem key_CAN_D_TSEG2 (n : Nat) : (famAt 722).has (CAN.D_TSEG2 n).key := ⟨n % 4, Nat.mod_lt _ (by decide), rfl⟩
theorem key_CAN_D_SJW (n : Nat) : (famAt 723).has (CAN.D_SJW n).key := ⟨n % 4, Nat.mod_lt _ (by decide), rfl⟩
theorem key_CAN_X_TIMING (n : Nat) : (famAt 724).has (CAN.X_TIMING n).key := ⟨n % 4, Nat.mod_lt _ (by decide), rfl⟩
theorem key_CAN_TDC_OFS_X (n : Nat) : (famAt 725).has (CAN.TDC_OFS_X n).key := ⟨n % 4, Nat.mod_lt _ (by decide), rfl⟩
theorem key_CAN_TDC_OFS_D (n : Nat) : (famAt 726).has (CAN.TDC_OFS_D n).key := ⟨n % 4, Nat.mod_lt _ (by decide), rfl⟩
theorem key_CAN_TDC_MEAS (n : Nat) : (famAt 727).has (CAN.TDC_MEAS n).key := ⟨n % 4, Nat.mod_lt _ (by decide), rfl⟩
theorem key_CAN_TEC (n : Nat) : (famAt 728).has (CAN.TEC n).key := ⟨n % 4, Nat.mod_lt _ (by decide), rfl⟩
theorem key_CAN_REC (n : Nat) : (famAt 729).has (CAN.REC n).key := ⟨n % 4, Nat.mod_lt _ (by decide), rfl⟩
theorem key_CAN_LEC (n : Nat) : (famAt 730).has (CAN.LEC n).key := ⟨n % 4, Nat.mod_lt _ (by decide), rfl⟩
theorem key_CAN_ESTATE (n : Nat) : (famAt 731).has (CAN.ESTATE n).key := ⟨n % 4, Nat.mod_lt _ (by decide), rfl⟩
theorem key_CAN_CAN_CMD (n : Nat) : (famAt 732).has (CAN.CAN_CMD n).key := ⟨n % 4, Nat.mod_lt _ (by decide), rfl⟩
theorem key_CAN_TX_CMD (n : Nat) : (famAt 733).has (CAN.TX_CMD n).key := ⟨n % 4, Nat.mod_lt _ (by decide), rfl⟩
theorem key_CAN_RX_ACK (n : Nat) : (famAt 734).has (CAN.RX_ACK n).key := ⟨n % 4, Nat.mod_lt _ (by decide), rfl⟩
theorem key_CAN_TX_PEND (n : Nat) : (famAt 735).has (CAN.TX_PEND n).key := ⟨n % 4, Nat.mod_lt _ (by decide), rfl⟩
theorem key_CAN_TX_DONE (n : Nat) : (famAt 736).has (CAN.TX_DONE n).key := ⟨n % 4, Nat.mod_lt _ (by decide), rfl⟩
theorem key_CAN_TX_ACT_V (n : Nat) : (famAt 737).has (CAN.TX_ACT_V n).key := ⟨n % 4, Nat.mod_lt _ (by decide), rfl⟩
theorem key_CAN_TX_ACT (n : Nat) : (famAt 738).has (CAN.TX_ACT n).key := ⟨n % 4, Nat.mod_lt _ (by decide), rfl⟩
theorem key_CAN_HEAD_V (n : Nat) : (famAt 739).has (CAN.HEAD_V n).key := ⟨n % 4, Nat.mod_lt _ (by decide), rfl⟩
theorem key_CAN_HEAD_IDX (n : Nat) : (famAt 740).has (CAN.HEAD_IDX n).key := ⟨n % 4, Nat.mod_lt _ (by decide), rfl⟩
theorem key_CAN_RX_LEVEL (n : Nat) : (famAt 741).has (CAN.RX_LEVEL n).key := ⟨n % 4, Nat.mod_lt _ (by decide), rfl⟩
theorem key_CAN_RX_GET (n : Nat) : (famAt 742).has (CAN.RX_GET n).key := ⟨n % 4, Nat.mod_lt _ (by decide), rfl⟩
theorem key_CAN_REC_SEQ (n : Nat) : (famAt 743).has (CAN.REC_SEQ n).key := ⟨n % 4, Nat.mod_lt _ (by decide), rfl⟩
theorem key_CAN_RX_FREE_BLK (n : Nat) : (famAt 744).has (CAN.RX_FREE_BLK n).key := ⟨n % 4, Nat.mod_lt _ (by decide), rfl⟩
theorem key_CAN_WAKE_SRC (n : Nat) : (famAt 745).has (CAN.WAKE_SRC n).key := ⟨n % 4, Nat.mod_lt _ (by decide), rfl⟩
theorem key_CAN_WUF_RATE (n : Nat) : (famAt 746).has (CAN.WUF_RATE n).key := ⟨n % 4, Nat.mod_lt _ (by decide), rfl⟩
theorem key_CAN_WUF_DLC (n : Nat) : (famAt 747).has (CAN.WUF_DLC n).key := ⟨n % 4, Nat.mod_lt _ (by decide), rfl⟩
theorem key_CAN_WUF_IDE (n : Nat) : (famAt 748).has (CAN.WUF_IDE n).key := ⟨n % 4, Nat.mod_lt _ (by decide), rfl⟩
theorem key_CAN_WAKE_MODE (n : Nat) : (famAt 749).has (CAN.WAKE_MODE n).key := ⟨n % 4, Nat.mod_lt _ (by decide), rfl⟩
theorem key_CAN_WUF_ID (n : Nat) : (famAt 750).has (CAN.WUF_ID n).key := ⟨n % 4, Nat.mod_lt _ (by decide), rfl⟩
theorem key_CAN_WUF_MASK (n : Nat) : (famAt 751).has (CAN.WUF_MASK n).key := ⟨n % 4, Nat.mod_lt _ (by decide), rfl⟩
theorem key_CAN_WUF_DATA_HI (n : Nat) : (famAt 752).has (CAN.WUF_DATA_HI n).key := ⟨n % 4, Nat.mod_lt _ (by decide), rfl⟩
theorem key_CAN_WUF_DATA_LO (n : Nat) : (famAt 753).has (CAN.WUF_DATA_LO n).key := ⟨n % 4, Nat.mod_lt _ (by decide), rfl⟩
theorem key_CAN_TX_OK_CNT (n : Nat) : (famAt 754).has (CAN.TX_OK_CNT n).key := ⟨n % 4, Nat.mod_lt _ (by decide), rfl⟩
theorem key_CAN_RX_OK_CNT (n : Nat) : (famAt 755).has (CAN.RX_OK_CNT n).key := ⟨n % 4, Nat.mod_lt _ (by decide), rfl⟩
theorem key_CAN_RX_OVF_CNT (n : Nat) : (famAt 756).has (CAN.RX_OVF_CNT n).key := ⟨n % 4, Nat.mod_lt _ (by decide), rfl⟩
theorem key_CAN_RX_SPACE_CNT (n : Nat) : (famAt 757).has (CAN.RX_SPACE_CNT n).key := ⟨n % 4, Nat.mod_lt _ (by decide), rfl⟩
theorem key_CAN_HPB_SPILL_CNT (n : Nat) : (famAt 758).has (CAN.HPB_SPILL_CNT n).key := ⟨n % 4, Nat.mod_lt _ (by decide), rfl⟩
theorem key_CAN_REJECT_CNT (n : Nat) : (famAt 759).has (CAN.REJECT_CNT n).key := ⟨n % 4, Nat.mod_lt _ (by decide), rfl⟩
theorem key_CAN_CANCEL_CNT (n : Nat) : (famAt 760).has (CAN.CANCEL_CNT n).key := ⟨n % 4, Nat.mod_lt _ (by decide), rfl⟩
theorem key_CAN_LATE_CNT (n : Nat) : (famAt 761).has (CAN.LATE_CNT n).key := ⟨n % 4, Nat.mod_lt _ (by decide), rfl⟩
theorem key_CAN_ARB_LOST_CNT (n : Nat) : (famAt 762).has (CAN.ARB_LOST_CNT n).key := ⟨n % 4, Nat.mod_lt _ (by decide), rfl⟩
theorem key_CAN_BUSOFF_CNT (n : Nat) : (famAt 763).has (CAN.BUSOFF_CNT n).key := ⟨n % 4, Nat.mod_lt _ (by decide), rfl⟩
theorem key_CAN_PASSIVE_CNT (n : Nat) : (famAt 764).has (CAN.PASSIVE_CNT n).key := ⟨n % 4, Nat.mod_lt _ (by decide), rfl⟩
theorem key_CAN_BIT_ERR_CNT (n : Nat) : (famAt 765).has (CAN.BIT_ERR_CNT n).key := ⟨n % 4, Nat.mod_lt _ (by decide), rfl⟩
theorem key_CAN_STUFF_ERR_CNT (n : Nat) : (famAt 766).has (CAN.STUFF_ERR_CNT n).key := ⟨n % 4, Nat.mod_lt _ (by decide), rfl⟩
theorem key_CAN_FORM_ERR_CNT (n : Nat) : (famAt 767).has (CAN.FORM_ERR_CNT n).key := ⟨n % 4, Nat.mod_lt _ (by decide), rfl⟩
theorem key_CAN_ACK_ERR_CNT (n : Nat) : (famAt 768).has (CAN.ACK_ERR_CNT n).key := ⟨n % 4, Nat.mod_lt _ (by decide), rfl⟩
theorem key_CAN_CRC_ERR_CNT (n : Nat) : (famAt 769).has (CAN.CRC_ERR_CNT n).key := ⟨n % 4, Nat.mod_lt _ (by decide), rfl⟩
theorem key_CAN_PEX_CNT (n : Nat) : (famAt 770).has (CAN.PEX_CNT n).key := ⟨n % 4, Nat.mod_lt _ (by decide), rfl⟩
theorem key_CAN_LWAKE_CNT (n : Nat) : (famAt 771).has (CAN.LWAKE_CNT n).key := ⟨n % 4, Nat.mod_lt _ (by decide), rfl⟩
theorem key_ECN_CAP_PORTS : (famAt 772).has ECN.CAP_PORTS.key := ⟨0, by decide, rfl⟩
theorem key_ECN_CAP_TXQ : (famAt 773).has ECN.CAP_TXQ.key := ⟨0, by decide, rfl⟩
theorem key_ECN_CAP_RXQ : (famAt 774).has ECN.CAP_RXQ.key := ⟨0, by decide, rfl⟩
theorem key_ECN_B_1G : (famAt 775).has ECN.B_1G.key := ⟨0, by decide, rfl⟩
theorem key_ECN_A_1G : (famAt 776).has ECN.A_1G.key := ⟨0, by decide, rfl⟩
theorem key_ECN_B_LINK : (famAt 777).has ECN.B_LINK.key := ⟨0, by decide, rfl⟩
theorem key_ECN_A_LINK : (famAt 778).has ECN.A_LINK.key := ⟨0, by decide, rfl⟩
theorem key_ECN_RX_NE : (famAt 779).has ECN.RX_NE.key := ⟨0, by decide, rfl⟩
theorem key_ECN_BYPASS : (famAt 780).has ECN.BYPASS.key := ⟨0, by decide, rfl⟩
theorem key_ECN_IP_ADDR : (famAt 781).has ECN.IP_ADDR.key := ⟨0, by decide, rfl⟩
theorem key_ECN_MAC_HI : (famAt 782).has ECN.MAC_HI.key := ⟨0, by decide, rfl⟩
theorem key_ECN_MAC_LO : (famAt 783).has ECN.MAC_LO.key := ⟨0, by decide, rfl⟩
theorem key_ECN_Q_BASE (k : Nat) : (famAt 784).has (ECN.Q_BASE k).key := ⟨k % 4, Nat.mod_lt _ (by decide), rfl⟩
theorem key_ECN_Q_HEAD (k : Nat) : (famAt 785).has (ECN.Q_HEAD k).key := ⟨k % 4, Nat.mod_lt _ (by decide), rfl⟩
theorem key_ECN_Q_TAIL (k : Nat) : (famAt 786).has (ECN.Q_TAIL k).key := ⟨k % 4, Nat.mod_lt _ (by decide), rfl⟩
theorem key_ECN_TX_CNT : (famAt 787).has ECN.TX_CNT.key := ⟨0, by decide, rfl⟩
theorem key_ECN_RX_CNT : (famAt 788).has ECN.RX_CNT.key := ⟨0, by decide, rfl⟩
theorem key_ECN_RX_DROP_CNT : (famAt 789).has ECN.RX_DROP_CNT.key := ⟨0, by decide, rfl⟩
theorem key_ECN_EGR_DROP_CNT : (famAt 790).has ECN.EGR_DROP_CNT.key := ⟨0, by decide, rfl⟩
theorem key_ECN_CRC_ERR_CNT : (famAt 791).has ECN.CRC_ERR_CNT.key := ⟨0, by decide, rfl⟩
theorem key_ECN_FWD_CNT : (famAt 792).has ECN.FWD_CNT.key := ⟨0, by decide, rfl⟩
theorem key_ECN_LINK_DOWN_CNT : (famAt 793).has ECN.LINK_DOWN_CNT.key := ⟨0, by decide, rfl⟩
theorem key_ECN_BYPASS_CNT : (famAt 794).has ECN.BYPASS_CNT.key := ⟨0, by decide, rfl⟩
theorem key_MVB_CAP_PORTS : (famAt 795).has MVB.CAP_PORTS.key := ⟨0, by decide, rfl⟩
theorem key_MVB_ANY_STALE : (famAt 796).has MVB.ANY_STALE.key := ⟨0, by decide, rfl⟩
theorem key_MVB_LINE_B_OK : (famAt 797).has MVB.LINE_B_OK.key := ⟨0, by decide, rfl⟩
theorem key_MVB_LINE_A_OK : (famAt 798).has MVB.LINE_A_OK.key := ⟨0, by decide, rfl⟩
theorem key_MVB_MVB_ADDR : (famAt 799).has MVB.MVB_ADDR.key := ⟨0, by decide, rfl⟩
theorem key_MVB_STALE_MASK : (famAt 800).has MVB.STALE_MASK.key := ⟨0, by decide, rfl⟩
theorem key_MVB_MF_CNT : (famAt 801).has MVB.MF_CNT.key := ⟨0, by decide, rfl⟩
theorem key_MVB_LINE_A_ERR_CNT : (famAt 802).has MVB.LINE_A_ERR_CNT.key := ⟨0, by decide, rfl⟩
theorem key_MVB_LINE_B_ERR_CNT : (famAt 803).has MVB.LINE_B_ERR_CNT.key := ⟨0, by decide, rfl⟩
theorem key_MVB_STALE_CNT : (famAt 804).has MVB.STALE_CNT.key := ⟨0, by decide, rfl⟩
theorem key_LGL_CAP_ADDR : (famAt 805).has LGL.CAP_ADDR.key := ⟨0, by decide, rfl⟩
theorem key_LGL_ANY_LOST : (famAt 806).has LGL.ANY_LOST.key := ⟨0, by decide, rfl⟩
theorem key_LGL_BUSY : (famAt 807).has LGL.BUSY.key := ⟨0, by decide, rfl⟩
theorem key_LGL_OWN_ADDR : (famAt 808).has LGL.OWN_ADDR.key := ⟨0, by decide, rfl⟩
theorem key_LGL_TERM : (famAt 809).has LGL.TERM.key := ⟨0, by decide, rfl⟩
theorem key_LGL_BAUD : (famAt 810).has LGL.BAUD.key := ⟨0, by decide, rfl⟩
theorem key_LGL_ROLE : (famAt 811).has LGL.ROLE.key := ⟨0, by decide, rfl⟩
theorem key_LGL_POLL_MASK : (famAt 812).has LGL.POLL_MASK.key := ⟨0, by decide, rfl⟩
theorem key_LGL_LGL_PRESENT : (famAt 813).has LGL.LGL_PRESENT.key := ⟨0, by decide, rfl⟩
theorem key_LGL_REPLY_TMO_MS : (famAt 814).has LGL.REPLY_TMO_MS.key := ⟨0, by decide, rfl⟩
theorem key_LGL_LGL_CMD : (famAt 815).has LGL.LGL_CMD.key := ⟨0, by decide, rfl⟩
theorem key_LGL_POLL_CNT : (famAt 816).has LGL.POLL_CNT.key := ⟨0, by decide, rfl⟩
theorem key_LGL_NOREPLY_CNT : (famAt 817).has LGL.NOREPLY_CNT.key := ⟨0, by decide, rfl⟩
theorem key_LGL_LGL_ERR_CNT : (famAt 818).has LGL.LGL_ERR_CNT.key := ⟨0, by decide, rfl⟩
theorem key_ECHO_CAP_SLOTS : (famAt 819).has ECHO.CAP_SLOTS.key := ⟨0, by decide, rfl⟩
theorem key_ECHO_CAP_PALOFT : (famAt 820).has ECHO.CAP_PALOFT.key := ⟨0, by decide, rfl⟩
theorem key_ECHO_CAP_LOG : (famAt 821).has ECHO.CAP_LOG.key := ⟨0, by decide, rfl⟩
theorem key_ECHO_REG_FULL : (famAt 822).has ECHO.REG_FULL.key := ⟨0, by decide, rfl⟩
theorem key_ECHO_OWN_CONFLICT : (famAt 823).has ECHO.OWN_CONFLICT.key := ⟨0, by decide, rfl⟩
theorem key_ECHO_ANY_CONFLICT : (famAt 824).has ECHO.ANY_CONFLICT.key := ⟨0, by decide, rfl⟩
theorem key_ECHO_CONSIST_VALID : (famAt 825).has ECHO.CONSIST_VALID.key := ⟨0, by decide, rfl⟩
theorem key_ECHO_CHG_PENDING : (famAt 826).has ECHO.CHG_PENDING.key := ⟨0, by decide, rfl⟩
theorem key_ECHO_N_PRESENT : (famAt 827).has ECHO.N_PRESENT.key := ⟨0, by decide, rfl⟩
theorem key_ECHO_N_PALOFT : (famAt 828).has ECHO.N_PALOFT.key := ⟨0, by decide, rfl⟩
theorem key_ECHO_N_LEGACY : (famAt 829).has ECHO.N_LEGACY.key := ⟨0, by decide, rfl⟩
theorem key_ECHO_N_EXPECTED : (famAt 830).has ECHO.N_EXPECTED.key := ⟨0, by decide, rfl⟩
theorem key_ECHO_OWN_UNIT : (famAt 831).has ECHO.OWN_UNIT.key := ⟨0, by decide, rfl⟩
theorem key_ECHO_ANN_CAN : (famAt 832).has ECHO.ANN_CAN.key := ⟨0, by decide, rfl⟩
theorem key_ECHO_TOPO_CNT : (famAt 833).has ECHO.TOPO_CNT.key := ⟨0, by decide, rfl⟩
theorem key_ECHO_ECHO_COMID : (famAt 834).has ECHO.ECHO_COMID.key := ⟨0, by decide, rfl⟩
theorem key_ECHO_ECHO_GROUP : (famAt 835).has ECHO.ECHO_GROUP.key := ⟨0, by decide, rfl⟩
theorem key_ECHO_CONSIST_COMID : (famAt 836).has ECHO.CONSIST_COMID.key := ⟨0, by decide, rfl⟩
theorem key_ECHO_TCMS_PERIOD_MS : (famAt 837).has ECHO.TCMS_PERIOD_MS.key := ⟨0, by decide, rfl⟩
theorem key_ECHO_CHG_WR : (famAt 838).has ECHO.CHG_WR.key := ⟨0, by decide, rfl⟩
theorem key_ECHO_CHG_RD : (famAt 839).has ECHO.CHG_RD.key := ⟨0, by decide, rfl⟩
theorem key_ECHO_ANN_TX_CNT : (famAt 840).has ECHO.ANN_TX_CNT.key := ⟨0, by decide, rfl⟩
theorem key_ECHO_ANN_RX_CNT : (famAt 841).has ECHO.ANN_RX_CNT.key := ⟨0, by decide, rfl⟩
theorem key_ECHO_NEW_CNT : (famAt 842).has ECHO.NEW_CNT.key := ⟨0, by decide, rfl⟩
theorem key_ECHO_LOST_CNT : (famAt 843).has ECHO.LOST_CNT.key := ⟨0, by decide, rfl⟩
theorem key_ECHO_FULL_CNT : (famAt 844).has ECHO.FULL_CNT.key := ⟨0, by decide, rfl⟩
theorem key_ECHO_CONFLICT_CNT : (famAt 845).has ECHO.CONFLICT_CNT.key := ⟨0, by decide, rfl⟩
theorem key_ECHO_CONSIST_CNT : (famAt 846).has ECHO.CONSIST_CNT.key := ⟨0, by decide, rfl⟩
theorem key_ECHO_MISSING_CNT : (famAt 847).has ECHO.MISSING_CNT.key := ⟨0, by decide, rfl⟩
theorem key_ECHO_FOREIGN_CNT : (famAt 848).has ECHO.FOREIGN_CNT.key := ⟨0, by decide, rfl⟩
theorem key_ECHO_CHG_DROP_CNT : (famAt 849).has ECHO.CHG_DROP_CNT.key := ⟨0, by decide, rfl⟩
theorem key_DVR_CAP_VER : (famAt 850).has DVR.CAP_VER.key := ⟨0, by decide, rfl⟩
theorem key_DVR_ANY_NOVER : (famAt 851).has DVR.ANY_NOVER.key := ⟨0, by decide, rfl⟩
theorem key_DVR_VER_EN : (famAt 852).has DVR.VER_EN.key := ⟨0, by decide, rfl⟩
theorem key_DVR_MAX_LGL : (famAt 853).has DVR.MAX_LGL.key := ⟨0, by decide, rfl⟩
theorem key_DVR_MAX_CAN : (famAt 854).has DVR.MAX_CAN.key := ⟨0, by decide, rfl⟩
theorem key_DVR_MAX_ECN : (famAt 855).has DVR.MAX_ECN.key := ⟨0, by decide, rfl⟩
theorem key_DVR_INFO_MS : (famAt 856).has DVR.INFO_MS.key := ⟨0, by decide, rfl⟩
theorem key_DVR_INFO_EN : (famAt 857).has DVR.INFO_EN.key := ⟨0, by decide, rfl⟩
theorem key_DVR_MD_COMID_BASE : (famAt 858).has DVR.MD_COMID_BASE.key := ⟨0, by decide, rfl⟩
theorem key_DVR_DVR_SDT : (famAt 859).has DVR.DVR_SDT.key := ⟨0, by decide, rfl⟩
theorem key_DVR_XL_PRIO : (famAt 860).has DVR.XL_PRIO.key := ⟨0, by decide, rfl⟩
theorem key_DVR_INFO_TX_CNT : (famAt 861).has DVR.INFO_TX_CNT.key := ⟨0, by decide, rfl⟩
theorem key_DVR_DVR_BAD_CNT : (famAt 862).has DVR.DVR_BAD_CNT.key := ⟨0, by decide, rfl⟩
theorem key_DVR_NOVER_CNT : (famAt 863).has DVR.NOVER_CNT.key := ⟨0, by decide, rfl⟩
theorem key_DST_CAP_RX : (famAt 864).has DST.CAP_RX.key := ⟨0, by decide, rfl⟩
theorem key_DST_CAP_TX : (famAt 865).has DST.CAP_TX.key := ⟨0, by decide, rfl⟩
theorem key_DST_CAP_NET : (famAt 866).has DST.CAP_NET.key := ⟨0, by decide, rfl⟩
theorem key_DST_ANY_UNSYNC : (famAt 867).has DST.ANY_UNSYNC.key := ⟨0, by decide, rfl⟩
theorem key_DST_ONE_NET : (famAt 868).has DST.ONE_NET.key := ⟨0, by decide, rfl⟩
theorem key_DST_NET_RESTR : (famAt 869).has DST.NET_RESTR.key := ⟨0, by decide, rfl⟩
theorem key_DST_CAN_LOST : (famAt 870).has DST.CAN_LOST.key := ⟨0, by decide, rfl⟩
theorem key_DST_ECN_LOST : (famAt 871).has DST.ECN_LOST.key := ⟨0, by decide, rfl⟩
theorem key_DST_CAN_OK : (famAt 872).has DST.CAN_OK.key := ⟨0, by decide, rfl⟩
theorem key_DST_ECN_OK : (famAt 873).has DST.ECN_OK.key := ⟨0, by decide, rfl⟩
theorem key_DST_CFG_OK : (famAt 874).has DST.CFG_OK.key := ⟨0, by decide, rfl⟩
theorem key_DST_REL_L_TG : (famAt 875).has DST.REL_L_TG.key := ⟨0, by decide, rfl⟩
theorem key_DST_REL_R_TG : (famAt 876).has DST.REL_R_TG.key := ⟨0, by decide, rfl⟩
theorem key_DST_ZS_TG : (famAt 877).has DST.ZS_TG.key := ⟨0, by decide, rfl⟩
theorem key_DST_OPEN_EN_TG : (famAt 878).has DST.OPEN_EN_TG.key := ⟨0, by decide, rfl⟩
theorem key_DST_INHIBIT_TG : (famAt 879).has DST.INHIBIT_TG.key := ⟨0, by decide, rfl⟩
theorem key_DST_CLOSE_TG : (famAt 880).has DST.CLOSE_TG.key := ⟨0, by decide, rfl⟩
theorem key_DST_OWN_UNIT : (famAt 881).has DST.OWN_UNIT.key := ⟨0, by decide, rfl⟩
theorem key_DST_CAN_SEL : (famAt 882).has DST.CAN_SEL.key := ⟨0, by decide, rfl⟩
theorem key_DST_SEQ_WIN : (famAt 883).has DST.SEQ_WIN.key := ⟨0, by decide, rfl⟩
theorem key_DST_AGE_MAX_MS : (famAt 884).has DST.AGE_MAX_MS.key := ⟨0, by decide, rfl⟩
theorem key_DST_PERM_HOLD_MS : (famAt 885).has DST.PERM_HOLD_MS.key := ⟨0, by decide, rfl⟩
theorem key_DST_NET_TMO_MS : (famAt 886).has DST.NET_TMO_MS.key := ⟨0, by decide, rfl⟩
theorem key_DST_TCFG_CRC : (famAt 887).has DST.TCFG_CRC.key := ⟨0, by decide, rfl⟩
theorem key_DST_LAST_DROP_TYPE : (famAt 888).has DST.LAST_DROP_TYPE.key := ⟨0, by decide, rfl⟩
theorem key_DST_LAST_DROP : (famAt 889).has DST.LAST_DROP.key := ⟨0, by decide, rfl⟩
theorem key_DST_RX_OK_CNT : (famAt 890).has DST.RX_OK_CNT.key := ⟨0, by decide, rfl⟩
theorem key_DST_PAIR_CNT : (famAt 891).has DST.PAIR_CNT.key := ⟨0, by decide, rfl⟩
theorem key_DST_CRC_ERR_CNT : (famAt 892).has DST.CRC_ERR_CNT.key := ⟨0, by decide, rfl⟩
theorem key_DST_FOREIGN_CNT : (famAt 893).has DST.FOREIGN_CNT.key := ⟨0, by decide, rfl⟩
theorem key_DST_STALE_CNT : (famAt 894).has DST.STALE_CNT.key := ⟨0, by decide, rfl⟩
theorem key_DST_JUMP_CNT : (famAt 895).has DST.JUMP_CNT.key := ⟨0, by decide, rfl⟩
theorem key_DST_LATE_CNT : (famAt 896).has DST.LATE_CNT.key := ⟨0, by decide, rfl⟩
theorem key_DST_SINGLE_CNT : (famAt 897).has DST.SINGLE_CNT.key := ⟨0, by decide, rfl⟩
theorem key_DST_MISMATCH_CNT : (famAt 898).has DST.MISMATCH_CNT.key := ⟨0, by decide, rfl⟩
theorem key_DST_LAPSE_CNT : (famAt 899).has DST.LAPSE_CNT.key := ⟨0, by decide, rfl⟩
theorem key_DST_NET_LOSS_CNT : (famAt 900).has DST.NET_LOSS_CNT.key := ⟨0, by decide, rfl⟩
theorem key_DST_TX_CNT : (famAt 901).has DST.TX_CNT.key := ⟨0, by decide, rfl⟩
theorem key_DST_TX_LOST_CNT : (famAt 902).has DST.TX_LOST_CNT.key := ⟨0, by decide, rfl⟩
theorem key_FLOW_CAP_FQ : (famAt 903).has FLOW.CAP_FQ.key := ⟨0, by decide, rfl⟩
theorem key_FLOW_CAP_CAIRN : (famAt 904).has FLOW.CAP_CAIRN.key := ⟨0, by decide, rfl⟩
theorem key_FLOW_CAP_NAND_GIB : (famAt 905).has FLOW.CAP_NAND_GIB.key := ⟨0, by decide, rfl⟩
theorem key_FLOW_CAP_MRAM : (famAt 906).has FLOW.CAP_MRAM.key := ⟨0, by decide, rfl⟩
theorem key_FLOW_EXP_RUN : (famAt 907).has FLOW.EXP_RUN.key := ⟨0, by decide, rfl⟩
theorem key_FLOW_EXP_DONE : (famAt 908).has FLOW.EXP_DONE.key := ⟨0, by decide, rfl⟩
theorem key_FLOW_EVID_HOLD : (famAt 909).has FLOW.EVID_HOLD.key := ⟨0, by decide, rfl⟩
theorem key_FLOW_WIPE_RUN : (famAt 910).has FLOW.WIPE_RUN.key := ⟨0, by decide, rfl⟩
theorem key_FLOW_CTR_ONLY : (famAt 911).has FLOW.CTR_ONLY.key := ⟨0, by decide, rfl⟩
theorem key_FLOW_NAND_FAIL : (famAt 912).has FLOW.NAND_FAIL.key := ⟨0, by decide, rfl⟩
theorem key_FLOW_MRAM_FAIL : (famAt 913).has FLOW.MRAM_FAIL.key := ⟨0, by decide, rfl⟩
theorem key_FLOW_NAND_ON : (famAt 914).has FLOW.NAND_ON.key := ⟨0, by decide, rfl⟩
theorem key_FLOW_FQ_FULL : (famAt 915).has FLOW.FQ_FULL.key := ⟨0, by decide, rfl⟩
theorem key_FLOW_FIND_BUSY : (famAt 916).has FLOW.FIND_BUSY.key := ⟨0, by decide, rfl⟩
theorem key_FLOW_FLOW_RDY : (famAt 917).has FLOW.FLOW_RDY.key := ⟨0, by decide, rfl⟩
theorem key_FLOW_NAND_HOLD : (famAt 918).has FLOW.NAND_HOLD.key := ⟨0, by decide, rfl⟩
theorem key_FLOW_CLIP_EN : (famAt 919).has FLOW.CLIP_EN.key := ⟨0, by decide, rfl⟩
theorem key_FLOW_TRACE_EN : (famAt 920).has FLOW.TRACE_EN.key := ⟨0, by decide, rfl⟩
theorem key_FLOW_CLIP_PRE_MS : (famAt 921).has FLOW.CLIP_PRE_MS.key := ⟨0, by decide, rfl⟩
theorem key_FLOW_CLIP_POST_MS : (famAt 922).has FLOW.CLIP_POST_MS.key := ⟨0, by decide, rfl⟩
theorem key_FLOW_RD_CLASS : (famAt 923).has FLOW.RD_CLASS.key := ⟨0, by decide, rfl⟩
theorem key_FLOW_CL_FIRST_SEQ_HI : (famAt 924).has FLOW.CL_FIRST_SEQ_HI.key := ⟨0, by decide, rfl⟩
theorem key_FLOW_CL_FIRST_SEQ_LO : (famAt 925).has FLOW.CL_FIRST_SEQ_LO.key := ⟨0, by decide, rfl⟩
theorem key_FLOW_CL_LAST_SEQ_HI : (famAt 926).has FLOW.CL_LAST_SEQ_HI.key := ⟨0, by decide, rfl⟩
theorem key_FLOW_CL_LAST_SEQ_LO : (famAt 927).has FLOW.CL_LAST_SEQ_LO.key := ⟨0, by decide, rfl⟩
theorem key_FLOW_CL_FIRST_POS : (famAt 928).has FLOW.CL_FIRST_POS.key := ⟨0, by decide, rfl⟩
theorem key_FLOW_CL_LAST_POS : (famAt 929).has FLOW.CL_LAST_POS.key := ⟨0, by decide, rfl⟩
theorem key_FLOW_CL_CAP : (famAt 930).has FLOW.CL_CAP.key := ⟨0, by decide, rfl⟩
theorem key_FLOW_NAREA : (famAt 931).has FLOW.NAREA.key := ⟨0, by decide, rfl⟩
theorem key_FLOW_NPAGE : (famAt 932).has FLOW.NPAGE.key := ⟨0, by decide, rfl⟩
theorem key_FLOW_FIND_SEQ_HI : (famAt 933).has FLOW.FIND_SEQ_HI.key := ⟨0, by decide, rfl⟩
theorem key_FLOW_FIND_SEQ_LO : (famAt 934).has FLOW.FIND_SEQ_LO.key := ⟨0, by decide, rfl⟩
theorem key_FLOW_FLOW_CMD : (famAt 935).has FLOW.FLOW_CMD.key := ⟨0, by decide, rfl⟩
theorem key_FLOW_FIND_CODE : (famAt 936).has FLOW.FIND_CODE.key := ⟨0, by decide, rfl⟩
theorem key_FLOW_FIND_POS : (famAt 937).has FLOW.FIND_POS.key := ⟨0, by decide, rfl⟩
theorem key_FLOW_HEV_CODE : (famAt 938).has FLOW.HEV_CODE.key := ⟨0, by decide, rfl⟩
theorem key_FLOW_HEV_A : (famAt 939).has FLOW.HEV_A.key := ⟨0, by decide, rfl⟩
theorem key_FLOW_HEV_B : (famAt 940).has FLOW.HEV_B.key := ⟨0, by decide, rfl⟩
theorem key_FLOW_HEV_C_HI : (famAt 941).has FLOW.HEV_C_HI.key := ⟨0, by decide, rfl⟩
theorem key_FLOW_HEV_C_LO : (famAt 942).has FLOW.HEV_C_LO.key := ⟨0, by decide, rfl⟩
theorem key_FLOW_EXP_ACK_CRC : (famAt 943).has FLOW.EXP_ACK_CRC.key := ⟨0, by decide, rfl⟩
theorem key_FLOW_EXP_ACK : (famAt 944).has FLOW.EXP_ACK.key := ⟨0, by decide, rfl⟩
theorem key_FLOW_EXP_CHUNK : (famAt 945).has FLOW.EXP_CHUNK.key := ⟨0, by decide, rfl⟩
theorem key_FLOW_EXP_TOTAL : (famAt 946).has FLOW.EXP_TOTAL.key := ⟨0, by decide, rfl⟩
theorem key_FLOW_SEQ_NOW_HI : (famAt 947).has FLOW.SEQ_NOW_HI.key := ⟨0, by decide, rfl⟩
theorem key_FLOW_SEQ_NOW_LO : (famAt 948).has FLOW.SEQ_NOW_LO.key := ⟨0, by decide, rfl⟩
theorem key_FLOW_EPOCH_NOW : (famAt 949).has FLOW.EPOCH_NOW.key := ⟨0, by decide, rfl⟩
theorem key_FLOW_BAD_BLK : (famAt 950).has FLOW.BAD_BLK.key := ⟨0, by decide, rfl⟩
theorem key_FLOW_FQ0_LEVEL : (famAt 951).has FLOW.FQ0_LEVEL.key := ⟨0, by decide, rfl⟩
theorem key_FLOW_FQ1_LEVEL : (famAt 952).has FLOW.FQ1_LEVEL.key := ⟨0, by decide, rfl⟩
theorem key_FLOW_FQ2_LEVEL : (famAt 953).has FLOW.FQ2_LEVEL.key := ⟨0, by decide, rfl⟩
theorem key_FLOW_FQ3_LEVEL : (famAt 954).has FLOW.FQ3_LEVEL.key := ⟨0, by decide, rfl⟩
theorem key_FLOW_HOLD_SEQ_HI : (famAt 955).has FLOW.HOLD_SEQ_HI.key := ⟨0, by decide, rfl⟩
theorem key_FLOW_HOLD_SEQ_LO : (famAt 956).has FLOW.HOLD_SEQ_LO.key := ⟨0, by decide, rfl⟩
theorem key_FLOW_CAIRN (k : Nat) : (famAt 957).has (FLOW.CAIRN k).key := ⟨k % 16, Nat.mod_lt _ (by decide), rfl⟩
theorem key_FLOW_REC_CNT : (famAt 958).has FLOW.REC_CNT.key := ⟨0, by decide, rfl⟩
theorem key_FLOW_DISCARD_CNT : (famAt 959).has FLOW.DISCARD_CNT.key := ⟨0, by decide, rfl⟩
theorem key_FLOW_CRC_BAD_CNT : (famAt 960).has FLOW.CRC_BAD_CNT.key := ⟨0, by decide, rfl⟩
theorem key_FLOW_FQ0_DROP_CNT : (famAt 961).has FLOW.FQ0_DROP_CNT.key := ⟨0, by decide, rfl⟩
theorem key_FLOW_FQ1_DROP_CNT : (famAt 962).has FLOW.FQ1_DROP_CNT.key := ⟨0, by decide, rfl⟩
theorem key_FLOW_FQ2_DROP_CNT : (famAt 963).has FLOW.FQ2_DROP_CNT.key := ⟨0, by decide, rfl⟩
theorem key_FLOW_FQ3_DROP_CNT : (famAt 964).has FLOW.FQ3_DROP_CNT.key := ⟨0, by decide, rfl⟩
theorem key_FLOW_MEM_ERR_CNT : (famAt 965).has FLOW.MEM_ERR_CNT.key := ⟨0, by decide, rfl⟩
theorem key_FLOW_NAND_ERR_CNT : (famAt 966).has FLOW.NAND_ERR_CNT.key := ⟨0, by decide, rfl⟩
theorem key_FLOW_EXP_RETRY_CNT : (famAt 967).has FLOW.EXP_RETRY_CNT.key := ⟨0, by decide, rfl⟩
theorem key_FLOW_EXP_LOST_CNT : (famAt 968).has FLOW.EXP_LOST_CNT.key := ⟨0, by decide, rfl⟩
theorem key_FLOW_PARTIAL_CNT : (famAt 969).has FLOW.PARTIAL_CNT.key := ⟨0, by decide, rfl⟩
theorem key_SVC_CAP_ROLES : (famAt 970).has SVC.CAP_ROLES.key := ⟨0, by decide, rfl⟩
theorem key_SVC_CAP_VER : (famAt 971).has SVC.CAP_VER.key := ⟨0, by decide, rfl⟩
theorem key_SVC_CAP_BAUD : (famAt 972).has SVC.CAP_BAUD.key := ⟨0, by decide, rfl⟩
theorem key_SVC_BREAK : (famAt 973).has SVC.BREAK.key := ⟨0, by decide, rfl⟩
theorem key_SVC_TOOL_EXP : (famAt 974).has SVC.TOOL_EXP.key := ⟨0, by decide, rfl⟩
theorem key_SVC_LOCKOUT : (famAt 975).has SVC.LOCKOUT.key := ⟨0, by decide, rfl⟩
theorem key_SVC_SESSION : (famAt 976).has SVC.SESSION.key := ⟨0, by decide, rfl⟩
theorem key_SVC_BAUD_NOW : (famAt 977).has SVC.BAUD_NOW.key := ⟨0, by decide, rfl⟩
theorem key_SVC_PROTO : (famAt 978).has SVC.PROTO.key := ⟨0, by decide, rfl⟩
theorem key_SVC_ROLE : (famAt 979).has SVC.ROLE.key := ⟨0, by decide, rfl⟩
theorem key_SVC_SESS_S : (famAt 980).has SVC.SESS_S.key := ⟨0, by decide, rfl⟩
theorem key_SVC_HOST_NOTE : (famAt 981).has SVC.HOST_NOTE.key := ⟨0, by decide, rfl⟩
theorem key_SVC_LOCK_S : (famAt 982).has SVC.LOCK_S.key := ⟨0, by decide, rfl⟩
theorem key_SVC_LOGIN_OK_CNT : (famAt 983).has SVC.LOGIN_OK_CNT.key := ⟨0, by decide, rfl⟩
theorem key_SVC_LOGIN_FAIL_CNT : (famAt 984).has SVC.LOGIN_FAIL_CNT.key := ⟨0, by decide, rfl⟩
theorem key_SVC_CMD_CNT : (famAt 985).has SVC.CMD_CNT.key := ⟨0, by decide, rfl⟩
theorem key_SVC_CMD_ERR_CNT : (famAt 986).has SVC.CMD_ERR_CNT.key := ⟨0, by decide, rfl⟩
theorem key_SVC_FRAME_ERR_CNT : (famAt 987).has SVC.FRAME_ERR_CNT.key := ⟨0, by decide, rfl⟩
theorem key_SVC_SESSION_CNT : (famAt 988).has SVC.SESSION_CNT.key := ⟨0, by decide, rfl⟩
theorem key_TEST_CAP_MON : (famAt 989).has TEST.CAP_MON.key := ⟨0, by decide, rfl⟩
theorem key_TEST_CAP_TESTS : (famAt 990).has TEST.CAP_TESTS.key := ⟨0, by decide, rfl⟩
theorem key_TEST_M_TEST : (famAt 991).has TEST.M_TEST.key := ⟨0, by decide, rfl⟩
theorem key_TEST_TEST_FAIL : (famAt 992).has TEST.TEST_FAIL.key := ⟨0, by decide, rfl⟩
theorem key_TEST_TEST_PASS : (famAt 993).has TEST.TEST_PASS.key := ⟨0, by decide, rfl⟩
theorem key_TEST_TEST_RUN : (famAt 994).has TEST.TEST_RUN.key := ⟨0, by decide, rfl⟩
theorem key_TEST_TEST_CODE : (famAt 995).has TEST.TEST_CODE.key := ⟨0, by decide, rfl⟩
theorem key_TEST_TEST_ARG : (famAt 996).has TEST.TEST_ARG.key := ⟨0, by decide, rfl⟩
theorem key_TEST_TEST_STEP : (famAt 997).has TEST.TEST_STEP.key := ⟨0, by decide, rfl⟩
theorem key_TEST_TEST_RESULT : (famAt 998).has TEST.TEST_RESULT.key := ⟨0, by decide, rfl⟩
theorem key_TEST_TEST_VAL1 : (famAt 999).has TEST.TEST_VAL1.key := ⟨0, by decide, rfl⟩
theorem key_TEST_TEST_VAL2 : (famAt 1000).has TEST.TEST_VAL2.key := ⟨0, by decide, rfl⟩
theorem key_TEST_TP_SEL (k : Nat) : (famAt 1001).has (TEST.TP_SEL k).key := ⟨k % 8, Nat.mod_lt _ (by decide), rfl⟩
theorem key_TEST_TEST_OWN_DW : (famAt 1002).has TEST.TEST_OWN_DW.key := ⟨0, by decide, rfl⟩
theorem key_TEST_TEST_RUN_CNT : (famAt 1003).has TEST.TEST_RUN_CNT.key := ⟨0, by decide, rfl⟩
theorem key_TEST_TEST_FAIL_CNT : (famAt 1004).has TEST.TEST_FAIL_CNT.key := ⟨0, by decide, rfl⟩
theorem key_TEST_TEST_ABORT_CNT : (famAt 1005).has TEST.TEST_ABORT_CNT.key := ⟨0, by decide, rfl⟩
theorem key_TEST_HOST_DISC_CNT : (famAt 1006).has TEST.HOST_DISC_CNT.key := ⟨0, by decide, rfl⟩
theorem key_RES_CAP_DIRECT : (famAt 1007).has RES.CAP_DIRECT.key := ⟨0, by decide, rfl⟩
theorem key_RES_CAP_CSTEP : (famAt 1008).has RES.CAP_CSTEP.key := ⟨0, by decide, rfl⟩
theorem key_RES_CAP_MON : (famAt 1009).has RES.CAP_MON.key := ⟨0, by decide, rfl⟩
theorem key_RES_OWN_DIR_LO : (famAt 1010).has RES.OWN_DIR_LO.key := ⟨0, by decide, rfl⟩
theorem key_RES_OWN_DIR_HI : (famAt 1011).has RES.OWN_DIR_HI.key := ⟨0, by decide, rfl⟩
theorem key_RES_OWN_CSTEP : (famAt 1012).has RES.OWN_CSTEP.key := ⟨0, by decide, rfl⟩
theorem key_RES_OWN_MON_LO : (famAt 1013).has RES.OWN_MON_LO.key := ⟨0, by decide, rfl⟩
theorem key_RES_OWN_MON_HI : (famAt 1014).has RES.OWN_MON_HI.key := ⟨0, by decide, rfl⟩
theorem key_RES_HOST_DIR : (famAt 1015).has RES.HOST_DIR.key := ⟨0, by decide, rfl⟩
theorem key_RES_HOST_CSTEP : (famAt 1016).has RES.HOST_CSTEP.key := ⟨0, by decide, rfl⟩
theorem key_RES_HOST_MON : (famAt 1017).has RES.HOST_MON.key := ⟨0, by decide, rfl⟩
theorem key_RES_LAST_RES : (famAt 1018).has RES.LAST_RES.key := ⟨0, by decide, rfl⟩
theorem key_RES_LAST_WIN : (famAt 1019).has RES.LAST_WIN.key := ⟨0, by decide, rfl⟩
theorem key_RES_LAST_LOSE : (famAt 1020).has RES.LAST_LOSE.key := ⟨0, by decide, rfl⟩
theorem key_RES_RES_CONFLICT_CNT : (famAt 1021).has RES.RES_CONFLICT_CNT.key := ⟨0, by decide, rfl⟩
theorem mem_TRV_1 : (memAt 0).has (pgTRV * 16 + 1) := ⟨0, by decide, rfl⟩
theorem mem_AX_2 (n : Nat) : (memAt 1).has (pgAX (n % 16) * 16 + 2) := ⟨n % 16, Nat.mod_lt _ (by decide), rfl⟩
theorem mem_AX_15 (n : Nat) : (memAt 2).has (pgAX (n % 16) * 16 + 15) := ⟨n % 16, Nat.mod_lt _ (by decide), rfl⟩
theorem mem_LANT_15 : (memAt 3).has (pgLANT * 16 + 15) := ⟨0, by decide, rfl⟩
theorem mem_LH_2 (n : Nat) : (memAt 4).has (pgLH (n % 16) * 16 + 2) := ⟨n % 16, Nat.mod_lt _ (by decide), rfl⟩
theorem mem_LVOL_13 : (memAt 5).has (pgLVOL * 16 + 13) := ⟨0, by decide, rfl⟩
theorem mem_DST_3 : (memAt 6).has (pgDST * 16 + 3) := ⟨0, by decide, rfl⟩
theorem mem_LVOL_3 : (memAt 7).has (pgLVOL * 16 + 3) := ⟨0, by decide, rfl⟩
theorem mem_LVOL_14 : (memAt 8).has (pgLVOL * 16 + 14) := ⟨0, by decide, rfl⟩
theorem mem_CAN_1 (n : Nat) : (memAt 9).has (pgCAN (n % 4) * 16 + 1) := ⟨n % 4, Nat.mod_lt _ (by decide), rfl⟩
theorem mem_ECN_12 : (memAt 10).has (pgECN * 16 + 12) := ⟨0, by decide, rfl⟩
theorem mem_MVB_1 : (memAt 11).has (pgMVB * 16 + 1) := ⟨0, by decide, rfl⟩
theorem mem_MVB_2 : (memAt 12).has (pgMVB * 16 + 2) := ⟨0, by decide, rfl⟩
theorem mem_LGL_1 : (memAt 13).has (pgLGL * 16 + 1) := ⟨0, by decide, rfl⟩
theorem mem_DRIP_1 : (memAt 14).has (pgDRIP * 16 + 1) := ⟨0, by decide, rfl⟩
theorem mem_SAFM_1 : (memAt 15).has (pgSAFM * 16 + 1) := ⟨0, by decide, rfl⟩
theorem mem_DST_2 : (memAt 16).has (pgDST * 16 + 2) := ⟨0, by decide, rfl⟩

end Sys2Proof.Machine
end

