-- ==== Sys2Proof/Laws/State.lean ====
section
/-! SUPPORT. One lemma per field of State and named update: the update leaves the field as it is. -/

set_option Elab.async false

namespace Sys2Proof.Machine

@[simp] theorem State.set_member (s : State) (r : Reg) (v : Nat) : (s.set r v).member = s.member := rfl
@[simp] theorem State.set_tick (s : State) (r : Reg) (v : Nat) : (s.set r v).tick = s.tick := rfl
@[simp] theorem State.set_fixed (s : State) (r : Reg) (v : Nat) : (s.set r v).fixed = s.fixed := rfl
@[simp] theorem State.set_stage (s : State) (r : Reg) (v : Nat) : (s.set r v).stage = s.stage := rfl
@[simp] theorem State.set_inds (s : State) (r : Reg) (v : Nat) : (s.set r v).inds = s.inds := rfl
@[simp] theorem State.set_deferred (s : State) (r : Reg) (v : Nat) : (s.set r v).deferred = s.deferred := rfl
@[simp] theorem State.set_mem (s : State) (r : Reg) (v : Nat) : (s.set r v).mem = s.mem := rfl
@[simp] theorem State.set_rdata (s : State) (r : Reg) (v : Nat) : (s.set r v).rdata = s.rdata := rfl
@[simp] theorem State.set_scrubLog (s : State) (r : Reg) (v : Nat) : (s.set r v).scrubLog = s.scrubLog := rfl
@[simp] theorem State.set_freeCtr (s : State) (r : Reg) (v : Nat) : (s.set r v).freeCtr = s.freeCtr := rfl
@[simp] theorem State.set_pwr (s : State) (r : Reg) (v : Nat) : (s.set r v).pwr = s.pwr := rfl
@[simp] theorem State.set_axes (s : State) (r : Reg) (v : Nat) : (s.set r v).axes = s.axes := rfl
@[simp] theorem State.set_gal (s : State) (r : Reg) (v : Nat) : (s.set r v).gal = s.gal := rfl
@[simp] theorem State.set_saf (s : State) (r : Reg) (v : Nat) : (s.set r v).saf = s.saf := rfl
@[simp] theorem State.set_doors (s : State) (r : Reg) (v : Nat) : (s.set r v).doors = s.doors := rfl
@[simp] theorem State.set_voteBad (s : State) (r : Reg) (v : Nat) : (s.set r v).voteBad = s.voteBad := rfl
@[simp] theorem State.set_fq0 (s : State) (r : Reg) (v : Nat) : (s.set r v).fq0 = s.fq0 := rfl
@[simp] theorem State.set_heads (s : State) (r : Reg) (v : Nat) : (s.set r v).heads = s.heads := rfl
@[simp] theorem State.set_ingest (s : State) (r : Reg) (v : Nat) : (s.set r v).ingest = s.ingest := rfl
@[simp] theorem State.set_drip (s : State) (r : Reg) (v : Nat) : (s.set r v).drip = s.drip := rfl
@[simp] theorem State.set_flow (s : State) (r : Reg) (v : Nat) : (s.set r v).flow = s.flow := rfl
@[simp] theorem State.set_fio (s : State) (r : Reg) (v : Nat) : (s.set r v).fio = s.fio := rfl
@[simp] theorem State.set_cans (s : State) (r : Reg) (v : Nat) : (s.set r v).cans = s.cans := rfl
@[simp] theorem State.set_nets (s : State) (r : Reg) (v : Nat) : (s.set r v).nets = s.nets := rfl
@[simp] theorem State.set_echo (s : State) (r : Reg) (v : Nat) : (s.set r v).echo = s.echo := rfl
@[simp] theorem State.set_dst (s : State) (r : Reg) (v : Nat) : (s.set r v).dst = s.dst := rfl
@[simp] theorem State.set_svc (s : State) (r : Reg) (v : Nat) : (s.set r v).svc = s.svc := rfl
@[simp] theorem State.set_pending (s : State) (r : Reg) (v : Nat) : (s.set r v).pending = s.pending := rfl

@[simp] theorem State.setAx_member (s : State) (n : Nat) (a : Axis) : (s.setAx n a).member = s.member := rfl
@[simp] theorem State.setAx_tick (s : State) (n : Nat) (a : Axis) : (s.setAx n a).tick = s.tick := rfl
@[simp] theorem State.setAx_regs (s : State) (n : Nat) (a : Axis) : (s.setAx n a).regs = s.regs := rfl
@[simp] theorem State.setAx_fixed (s : State) (n : Nat) (a : Axis) : (s.setAx n a).fixed = s.fixed := rfl
@[simp] theorem State.setAx_stage (s : State) (n : Nat) (a : Axis) : (s.setAx n a).stage = s.stage := rfl
@[simp] theorem State.setAx_inds (s : State) (n : Nat) (a : Axis) : (s.setAx n a).inds = s.inds := rfl
@[simp] theorem State.setAx_deferred (s : State) (n : Nat) (a : Axis) : (s.setAx n a).deferred = s.deferred := rfl
@[simp] theorem State.setAx_mem (s : State) (n : Nat) (a : Axis) : (s.setAx n a).mem = s.mem := rfl
@[simp] theorem State.setAx_rdata (s : State) (n : Nat) (a : Axis) : (s.setAx n a).rdata = s.rdata := rfl
@[simp] theorem State.setAx_scrubLog (s : State) (n : Nat) (a : Axis) : (s.setAx n a).scrubLog = s.scrubLog := rfl
@[simp] theorem State.setAx_freeCtr (s : State) (n : Nat) (a : Axis) : (s.setAx n a).freeCtr = s.freeCtr := rfl
@[simp] theorem State.setAx_pwr (s : State) (n : Nat) (a : Axis) : (s.setAx n a).pwr = s.pwr := rfl
@[simp] theorem State.setAx_gal (s : State) (n : Nat) (a : Axis) : (s.setAx n a).gal = s.gal := rfl
@[simp] theorem State.setAx_saf (s : State) (n : Nat) (a : Axis) : (s.setAx n a).saf = s.saf := rfl
@[simp] theorem State.setAx_doors (s : State) (n : Nat) (a : Axis) : (s.setAx n a).doors = s.doors := rfl
@[simp] theorem State.setAx_voteBad (s : State) (n : Nat) (a : Axis) : (s.setAx n a).voteBad = s.voteBad := rfl
@[simp] theorem State.setAx_fq0 (s : State) (n : Nat) (a : Axis) : (s.setAx n a).fq0 = s.fq0 := rfl
@[simp] theorem State.setAx_heads (s : State) (n : Nat) (a : Axis) : (s.setAx n a).heads = s.heads := rfl
@[simp] theorem State.setAx_ingest (s : State) (n : Nat) (a : Axis) : (s.setAx n a).ingest = s.ingest := rfl
@[simp] theorem State.setAx_drip (s : State) (n : Nat) (a : Axis) : (s.setAx n a).drip = s.drip := rfl
@[simp] theorem State.setAx_flow (s : State) (n : Nat) (a : Axis) : (s.setAx n a).flow = s.flow := rfl
@[simp] theorem State.setAx_fio (s : State) (n : Nat) (a : Axis) : (s.setAx n a).fio = s.fio := rfl
@[simp] theorem State.setAx_cans (s : State) (n : Nat) (a : Axis) : (s.setAx n a).cans = s.cans := rfl
@[simp] theorem State.setAx_nets (s : State) (n : Nat) (a : Axis) : (s.setAx n a).nets = s.nets := rfl
@[simp] theorem State.setAx_echo (s : State) (n : Nat) (a : Axis) : (s.setAx n a).echo = s.echo := rfl
@[simp] theorem State.setAx_dst (s : State) (n : Nat) (a : Axis) : (s.setAx n a).dst = s.dst := rfl
@[simp] theorem State.setAx_svc (s : State) (n : Nat) (a : Axis) : (s.setAx n a).svc = s.svc := rfl
@[simp] theorem State.setAx_pending (s : State) (n : Nat) (a : Axis) : (s.setAx n a).pending = s.pending := rfl

@[simp] theorem State.setDw_member (s : State) (n : Nat) (d : Doorway) : (s.setDw n d).member = s.member := rfl
@[simp] theorem State.setDw_tick (s : State) (n : Nat) (d : Doorway) : (s.setDw n d).tick = s.tick := rfl
@[simp] theorem State.setDw_regs (s : State) (n : Nat) (d : Doorway) : (s.setDw n d).regs = s.regs := rfl
@[simp] theorem State.setDw_fixed (s : State) (n : Nat) (d : Doorway) : (s.setDw n d).fixed = s.fixed := rfl
@[simp] theorem State.setDw_stage (s : State) (n : Nat) (d : Doorway) : (s.setDw n d).stage = s.stage := rfl
@[simp] theorem State.setDw_inds (s : State) (n : Nat) (d : Doorway) : (s.setDw n d).inds = s.inds := rfl
@[simp] theorem State.setDw_deferred (s : State) (n : Nat) (d : Doorway) : (s.setDw n d).deferred = s.deferred := rfl
@[simp] theorem State.setDw_mem (s : State) (n : Nat) (d : Doorway) : (s.setDw n d).mem = s.mem := rfl
@[simp] theorem State.setDw_rdata (s : State) (n : Nat) (d : Doorway) : (s.setDw n d).rdata = s.rdata := rfl
@[simp] theorem State.setDw_scrubLog (s : State) (n : Nat) (d : Doorway) : (s.setDw n d).scrubLog = s.scrubLog := rfl
@[simp] theorem State.setDw_freeCtr (s : State) (n : Nat) (d : Doorway) : (s.setDw n d).freeCtr = s.freeCtr := rfl
@[simp] theorem State.setDw_pwr (s : State) (n : Nat) (d : Doorway) : (s.setDw n d).pwr = s.pwr := rfl
@[simp] theorem State.setDw_axes (s : State) (n : Nat) (d : Doorway) : (s.setDw n d).axes = s.axes := rfl
@[simp] theorem State.setDw_gal (s : State) (n : Nat) (d : Doorway) : (s.setDw n d).gal = s.gal := rfl
@[simp] theorem State.setDw_saf (s : State) (n : Nat) (d : Doorway) : (s.setDw n d).saf = s.saf := rfl
@[simp] theorem State.setDw_voteBad (s : State) (n : Nat) (d : Doorway) : (s.setDw n d).voteBad = s.voteBad := rfl
@[simp] theorem State.setDw_fq0 (s : State) (n : Nat) (d : Doorway) : (s.setDw n d).fq0 = s.fq0 := rfl
@[simp] theorem State.setDw_heads (s : State) (n : Nat) (d : Doorway) : (s.setDw n d).heads = s.heads := rfl
@[simp] theorem State.setDw_ingest (s : State) (n : Nat) (d : Doorway) : (s.setDw n d).ingest = s.ingest := rfl
@[simp] theorem State.setDw_drip (s : State) (n : Nat) (d : Doorway) : (s.setDw n d).drip = s.drip := rfl
@[simp] theorem State.setDw_flow (s : State) (n : Nat) (d : Doorway) : (s.setDw n d).flow = s.flow := rfl
@[simp] theorem State.setDw_fio (s : State) (n : Nat) (d : Doorway) : (s.setDw n d).fio = s.fio := rfl
@[simp] theorem State.setDw_cans (s : State) (n : Nat) (d : Doorway) : (s.setDw n d).cans = s.cans := rfl
@[simp] theorem State.setDw_nets (s : State) (n : Nat) (d : Doorway) : (s.setDw n d).nets = s.nets := rfl
@[simp] theorem State.setDw_echo (s : State) (n : Nat) (d : Doorway) : (s.setDw n d).echo = s.echo := rfl
@[simp] theorem State.setDw_dst (s : State) (n : Nat) (d : Doorway) : (s.setDw n d).dst = s.dst := rfl
@[simp] theorem State.setDw_svc (s : State) (n : Nat) (d : Doorway) : (s.setDw n d).svc = s.svc := rfl
@[simp] theorem State.setDw_pending (s : State) (n : Nat) (d : Doorway) : (s.setDw n d).pending = s.pending := rfl

@[simp] theorem State.draw_member (s : State) : (s.draw).member = s.member := rfl
@[simp] theorem State.draw_tick (s : State) : (s.draw).tick = s.tick := rfl
@[simp] theorem State.draw_regs (s : State) : (s.draw).regs = s.regs := rfl
@[simp] theorem State.draw_fixed (s : State) : (s.draw).fixed = s.fixed := rfl
@[simp] theorem State.draw_stage (s : State) : (s.draw).stage = s.stage := rfl
@[simp] theorem State.draw_inds (s : State) : (s.draw).inds = s.inds := rfl
@[simp] theorem State.draw_deferred (s : State) : (s.draw).deferred = s.deferred := rfl
@[simp] theorem State.draw_mem (s : State) : (s.draw).mem = s.mem := rfl
@[simp] theorem State.draw_rdata (s : State) : (s.draw).rdata = s.rdata := rfl
@[simp] theorem State.draw_scrubLog (s : State) : (s.draw).scrubLog = s.scrubLog := rfl
@[simp] theorem State.draw_pwr (s : State) : (s.draw).pwr = s.pwr := rfl
@[simp] theorem State.draw_axes (s : State) : (s.draw).axes = s.axes := rfl
@[simp] theorem State.draw_gal (s : State) : (s.draw).gal = s.gal := rfl
@[simp] theorem State.draw_saf (s : State) : (s.draw).saf = s.saf := rfl
@[simp] theorem State.draw_doors (s : State) : (s.draw).doors = s.doors := rfl
@[simp] theorem State.draw_voteBad (s : State) : (s.draw).voteBad = s.voteBad := rfl
@[simp] theorem State.draw_fq0 (s : State) : (s.draw).fq0 = s.fq0 := rfl
@[simp] theorem State.draw_heads (s : State) : (s.draw).heads = s.heads := rfl
@[simp] theorem State.draw_ingest (s : State) : (s.draw).ingest = s.ingest := rfl
@[simp] theorem State.draw_drip (s : State) : (s.draw).drip = s.drip := rfl
@[simp] theorem State.draw_flow (s : State) : (s.draw).flow = s.flow := rfl
@[simp] theorem State.draw_fio (s : State) : (s.draw).fio = s.fio := rfl
@[simp] theorem State.draw_cans (s : State) : (s.draw).cans = s.cans := rfl
@[simp] theorem State.draw_nets (s : State) : (s.draw).nets = s.nets := rfl
@[simp] theorem State.draw_echo (s : State) : (s.draw).echo = s.echo := rfl
@[simp] theorem State.draw_dst (s : State) : (s.draw).dst = s.dst := rfl
@[simp] theorem State.draw_svc (s : State) : (s.draw).svc = s.svc := rfl
@[simp] theorem State.draw_pending (s : State) : (s.draw).pending = s.pending := rfl

@[simp] theorem State.wr8_member (s : State) (pg sp a v : Nat) : (s.wr8 pg sp a v).member = s.member := by unfold State.wr8; rfl
@[simp] theorem State.wr8_tick (s : State) (pg sp a v : Nat) : (s.wr8 pg sp a v).tick = s.tick := by unfold State.wr8; rfl
@[simp] theorem State.wr8_regs (s : State) (pg sp a v : Nat) : (s.wr8 pg sp a v).regs = s.regs := by unfold State.wr8; rfl
@[simp] theorem State.wr8_fixed (s : State) (pg sp a v : Nat) : (s.wr8 pg sp a v).fixed = s.fixed := by unfold State.wr8; rfl
@[simp] theorem State.wr8_stage (s : State) (pg sp a v : Nat) : (s.wr8 pg sp a v).stage = s.stage := by unfold State.wr8; rfl
@[simp] theorem State.wr8_inds (s : State) (pg sp a v : Nat) : (s.wr8 pg sp a v).inds = s.inds := by unfold State.wr8; rfl
@[simp] theorem State.wr8_deferred (s : State) (pg sp a v : Nat) : (s.wr8 pg sp a v).deferred = s.deferred := by unfold State.wr8; rfl
@[simp] theorem State.wr8_rdata (s : State) (pg sp a v : Nat) : (s.wr8 pg sp a v).rdata = s.rdata := by unfold State.wr8; rfl
@[simp] theorem State.wr8_scrubLog (s : State) (pg sp a v : Nat) : (s.wr8 pg sp a v).scrubLog = s.scrubLog := by unfold State.wr8; rfl
@[simp] theorem State.wr8_freeCtr (s : State) (pg sp a v : Nat) : (s.wr8 pg sp a v).freeCtr = s.freeCtr := by unfold State.wr8; rfl
@[simp] theorem State.wr8_pwr (s : State) (pg sp a v : Nat) : (s.wr8 pg sp a v).pwr = s.pwr := by unfold State.wr8; rfl
@[simp] theorem State.wr8_axes (s : State) (pg sp a v : Nat) : (s.wr8 pg sp a v).axes = s.axes := by unfold State.wr8; rfl
@[simp] theorem State.wr8_gal (s : State) (pg sp a v : Nat) : (s.wr8 pg sp a v).gal = s.gal := by unfold State.wr8; rfl
@[simp] theorem State.wr8_saf (s : State) (pg sp a v : Nat) : (s.wr8 pg sp a v).saf = s.saf := by unfold State.wr8; rfl
@[simp] theorem State.wr8_doors (s : State) (pg sp a v : Nat) : (s.wr8 pg sp a v).doors = s.doors := by unfold State.wr8; rfl
@[simp] theorem State.wr8_voteBad (s : State) (pg sp a v : Nat) : (s.wr8 pg sp a v).voteBad = s.voteBad := by unfold State.wr8; rfl
@[simp] theorem State.wr8_fq0 (s : State) (pg sp a v : Nat) : (s.wr8 pg sp a v).fq0 = s.fq0 := by unfold State.wr8; rfl
@[simp] theorem State.wr8_heads (s : State) (pg sp a v : Nat) : (s.wr8 pg sp a v).heads = s.heads := by unfold State.wr8; rfl
@[simp] theorem State.wr8_ingest (s : State) (pg sp a v : Nat) : (s.wr8 pg sp a v).ingest = s.ingest := by unfold State.wr8; rfl
@[simp] theorem State.wr8_drip (s : State) (pg sp a v : Nat) : (s.wr8 pg sp a v).drip = s.drip := by unfold State.wr8; rfl
@[simp] theorem State.wr8_flow (s : State) (pg sp a v : Nat) : (s.wr8 pg sp a v).flow = s.flow := by unfold State.wr8; rfl
@[simp] theorem State.wr8_fio (s : State) (pg sp a v : Nat) : (s.wr8 pg sp a v).fio = s.fio := by unfold State.wr8; rfl
@[simp] theorem State.wr8_cans (s : State) (pg sp a v : Nat) : (s.wr8 pg sp a v).cans = s.cans := by unfold State.wr8; rfl
@[simp] theorem State.wr8_nets (s : State) (pg sp a v : Nat) : (s.wr8 pg sp a v).nets = s.nets := by unfold State.wr8; rfl
@[simp] theorem State.wr8_echo (s : State) (pg sp a v : Nat) : (s.wr8 pg sp a v).echo = s.echo := by unfold State.wr8; rfl
@[simp] theorem State.wr8_dst (s : State) (pg sp a v : Nat) : (s.wr8 pg sp a v).dst = s.dst := by unfold State.wr8; rfl
@[simp] theorem State.wr8_svc (s : State) (pg sp a v : Nat) : (s.wr8 pg sp a v).svc = s.svc := by unfold State.wr8; rfl
@[simp] theorem State.wr8_pending (s : State) (pg sp a v : Nat) : (s.wr8 pg sp a v).pending = s.pending := by unfold State.wr8; rfl

@[simp] theorem State.wipeSpace_member (s : State) (pg sp : Nat) : (s.wipeSpace pg sp).member = s.member := by unfold State.wipeSpace; rfl
@[simp] theorem State.wipeSpace_tick (s : State) (pg sp : Nat) : (s.wipeSpace pg sp).tick = s.tick := by unfold State.wipeSpace; rfl
@[simp] theorem State.wipeSpace_regs (s : State) (pg sp : Nat) : (s.wipeSpace pg sp).regs = s.regs := by unfold State.wipeSpace; rfl
@[simp] theorem State.wipeSpace_fixed (s : State) (pg sp : Nat) : (s.wipeSpace pg sp).fixed = s.fixed := by unfold State.wipeSpace; rfl
@[simp] theorem State.wipeSpace_stage (s : State) (pg sp : Nat) : (s.wipeSpace pg sp).stage = s.stage := by unfold State.wipeSpace; rfl
@[simp] theorem State.wipeSpace_inds (s : State) (pg sp : Nat) : (s.wipeSpace pg sp).inds = s.inds := by unfold State.wipeSpace; rfl
@[simp] theorem State.wipeSpace_deferred (s : State) (pg sp : Nat) : (s.wipeSpace pg sp).deferred = s.deferred := by unfold State.wipeSpace; rfl
@[simp] theorem State.wipeSpace_rdata (s : State) (pg sp : Nat) : (s.wipeSpace pg sp).rdata = s.rdata := by unfold State.wipeSpace; rfl
@[simp] theorem State.wipeSpace_scrubLog (s : State) (pg sp : Nat) : (s.wipeSpace pg sp).scrubLog = s.scrubLog := by unfold State.wipeSpace; rfl
@[simp] theorem State.wipeSpace_freeCtr (s : State) (pg sp : Nat) : (s.wipeSpace pg sp).freeCtr = s.freeCtr := by unfold State.wipeSpace; rfl
@[simp] theorem State.wipeSpace_pwr (s : State) (pg sp : Nat) : (s.wipeSpace pg sp).pwr = s.pwr := by unfold State.wipeSpace; rfl
@[simp] theorem State.wipeSpace_axes (s : State) (pg sp : Nat) : (s.wipeSpace pg sp).axes = s.axes := by unfold State.wipeSpace; rfl
@[simp] theorem State.wipeSpace_gal (s : State) (pg sp : Nat) : (s.wipeSpace pg sp).gal = s.gal := by unfold State.wipeSpace; rfl
@[simp] theorem State.wipeSpace_saf (s : State) (pg sp : Nat) : (s.wipeSpace pg sp).saf = s.saf := by unfold State.wipeSpace; rfl
@[simp] theorem State.wipeSpace_doors (s : State) (pg sp : Nat) : (s.wipeSpace pg sp).doors = s.doors := by unfold State.wipeSpace; rfl
@[simp] theorem State.wipeSpace_voteBad (s : State) (pg sp : Nat) : (s.wipeSpace pg sp).voteBad = s.voteBad := by unfold State.wipeSpace; rfl
@[simp] theorem State.wipeSpace_fq0 (s : State) (pg sp : Nat) : (s.wipeSpace pg sp).fq0 = s.fq0 := by unfold State.wipeSpace; rfl
@[simp] theorem State.wipeSpace_heads (s : State) (pg sp : Nat) : (s.wipeSpace pg sp).heads = s.heads := by unfold State.wipeSpace; rfl
@[simp] theorem State.wipeSpace_ingest (s : State) (pg sp : Nat) : (s.wipeSpace pg sp).ingest = s.ingest := by unfold State.wipeSpace; rfl
@[simp] theorem State.wipeSpace_drip (s : State) (pg sp : Nat) : (s.wipeSpace pg sp).drip = s.drip := by unfold State.wipeSpace; rfl
@[simp] theorem State.wipeSpace_flow (s : State) (pg sp : Nat) : (s.wipeSpace pg sp).flow = s.flow := by unfold State.wipeSpace; rfl
@[simp] theorem State.wipeSpace_fio (s : State) (pg sp : Nat) : (s.wipeSpace pg sp).fio = s.fio := by unfold State.wipeSpace; rfl
@[simp] theorem State.wipeSpace_cans (s : State) (pg sp : Nat) : (s.wipeSpace pg sp).cans = s.cans := by unfold State.wipeSpace; rfl
@[simp] theorem State.wipeSpace_nets (s : State) (pg sp : Nat) : (s.wipeSpace pg sp).nets = s.nets := by unfold State.wipeSpace; rfl
@[simp] theorem State.wipeSpace_echo (s : State) (pg sp : Nat) : (s.wipeSpace pg sp).echo = s.echo := by unfold State.wipeSpace; rfl
@[simp] theorem State.wipeSpace_dst (s : State) (pg sp : Nat) : (s.wipeSpace pg sp).dst = s.dst := by unfold State.wipeSpace; rfl
@[simp] theorem State.wipeSpace_svc (s : State) (pg sp : Nat) : (s.wipeSpace pg sp).svc = s.svc := by unfold State.wipeSpace; rfl
@[simp] theorem State.wipeSpace_pending (s : State) (pg sp : Nat) : (s.wipeSpace pg sp).pending = s.pending := by unfold State.wipeSpace; rfl

@[simp] theorem State.wipeBytes_member (s : State) (pg sp a n : Nat) : (s.wipeBytes pg sp a n).member = s.member := by unfold State.wipeBytes; rfl
@[simp] theorem State.wipeBytes_tick (s : State) (pg sp a n : Nat) : (s.wipeBytes pg sp a n).tick = s.tick := by unfold State.wipeBytes; rfl
@[simp] theorem State.wipeBytes_regs (s : State) (pg sp a n : Nat) : (s.wipeBytes pg sp a n).regs = s.regs := by unfold State.wipeBytes; rfl
@[simp] theorem State.wipeBytes_fixed (s : State) (pg sp a n : Nat) : (s.wipeBytes pg sp a n).fixed = s.fixed := by unfold State.wipeBytes; rfl
@[simp] theorem State.wipeBytes_stage (s : State) (pg sp a n : Nat) : (s.wipeBytes pg sp a n).stage = s.stage := by unfold State.wipeBytes; rfl
@[simp] theorem State.wipeBytes_inds (s : State) (pg sp a n : Nat) : (s.wipeBytes pg sp a n).inds = s.inds := by unfold State.wipeBytes; rfl
@[simp] theorem State.wipeBytes_deferred (s : State) (pg sp a n : Nat) : (s.wipeBytes pg sp a n).deferred = s.deferred := by unfold State.wipeBytes; rfl
@[simp] theorem State.wipeBytes_rdata (s : State) (pg sp a n : Nat) : (s.wipeBytes pg sp a n).rdata = s.rdata := by unfold State.wipeBytes; rfl
@[simp] theorem State.wipeBytes_scrubLog (s : State) (pg sp a n : Nat) : (s.wipeBytes pg sp a n).scrubLog = s.scrubLog := by unfold State.wipeBytes; rfl
@[simp] theorem State.wipeBytes_freeCtr (s : State) (pg sp a n : Nat) : (s.wipeBytes pg sp a n).freeCtr = s.freeCtr := by unfold State.wipeBytes; rfl
@[simp] theorem State.wipeBytes_pwr (s : State) (pg sp a n : Nat) : (s.wipeBytes pg sp a n).pwr = s.pwr := by unfold State.wipeBytes; rfl
@[simp] theorem State.wipeBytes_axes (s : State) (pg sp a n : Nat) : (s.wipeBytes pg sp a n).axes = s.axes := by unfold State.wipeBytes; rfl
@[simp] theorem State.wipeBytes_gal (s : State) (pg sp a n : Nat) : (s.wipeBytes pg sp a n).gal = s.gal := by unfold State.wipeBytes; rfl
@[simp] theorem State.wipeBytes_saf (s : State) (pg sp a n : Nat) : (s.wipeBytes pg sp a n).saf = s.saf := by unfold State.wipeBytes; rfl
@[simp] theorem State.wipeBytes_doors (s : State) (pg sp a n : Nat) : (s.wipeBytes pg sp a n).doors = s.doors := by unfold State.wipeBytes; rfl
@[simp] theorem State.wipeBytes_voteBad (s : State) (pg sp a n : Nat) : (s.wipeBytes pg sp a n).voteBad = s.voteBad := by unfold State.wipeBytes; rfl
@[simp] theorem State.wipeBytes_fq0 (s : State) (pg sp a n : Nat) : (s.wipeBytes pg sp a n).fq0 = s.fq0 := by unfold State.wipeBytes; rfl
@[simp] theorem State.wipeBytes_heads (s : State) (pg sp a n : Nat) : (s.wipeBytes pg sp a n).heads = s.heads := by unfold State.wipeBytes; rfl
@[simp] theorem State.wipeBytes_ingest (s : State) (pg sp a n : Nat) : (s.wipeBytes pg sp a n).ingest = s.ingest := by unfold State.wipeBytes; rfl
@[simp] theorem State.wipeBytes_drip (s : State) (pg sp a n : Nat) : (s.wipeBytes pg sp a n).drip = s.drip := by unfold State.wipeBytes; rfl
@[simp] theorem State.wipeBytes_flow (s : State) (pg sp a n : Nat) : (s.wipeBytes pg sp a n).flow = s.flow := by unfold State.wipeBytes; rfl
@[simp] theorem State.wipeBytes_fio (s : State) (pg sp a n : Nat) : (s.wipeBytes pg sp a n).fio = s.fio := by unfold State.wipeBytes; rfl
@[simp] theorem State.wipeBytes_cans (s : State) (pg sp a n : Nat) : (s.wipeBytes pg sp a n).cans = s.cans := by unfold State.wipeBytes; rfl
@[simp] theorem State.wipeBytes_nets (s : State) (pg sp a n : Nat) : (s.wipeBytes pg sp a n).nets = s.nets := by unfold State.wipeBytes; rfl
@[simp] theorem State.wipeBytes_echo (s : State) (pg sp a n : Nat) : (s.wipeBytes pg sp a n).echo = s.echo := by unfold State.wipeBytes; rfl
@[simp] theorem State.wipeBytes_dst (s : State) (pg sp a n : Nat) : (s.wipeBytes pg sp a n).dst = s.dst := by unfold State.wipeBytes; rfl
@[simp] theorem State.wipeBytes_svc (s : State) (pg sp a n : Nat) : (s.wipeBytes pg sp a n).svc = s.svc := by unfold State.wipeBytes; rfl
@[simp] theorem State.wipeBytes_pending (s : State) (pg sp a n : Nat) : (s.wipeBytes pg sp a n).pending = s.pending := by unfold State.wipeBytes; rfl

@[simp] theorem State.setPair_member (s : State) (pg : Nat) (src : Src) (p : IndPair) : (s.setPair pg src p).member = s.member := rfl
@[simp] theorem State.setPair_tick (s : State) (pg : Nat) (src : Src) (p : IndPair) : (s.setPair pg src p).tick = s.tick := rfl
@[simp] theorem State.setPair_regs (s : State) (pg : Nat) (src : Src) (p : IndPair) : (s.setPair pg src p).regs = s.regs := rfl
@[simp] theorem State.setPair_fixed (s : State) (pg : Nat) (src : Src) (p : IndPair) : (s.setPair pg src p).fixed = s.fixed := rfl
@[simp] theorem State.setPair_stage (s : State) (pg : Nat) (src : Src) (p : IndPair) : (s.setPair pg src p).stage = s.stage := rfl
@[simp] theorem State.setPair_deferred (s : State) (pg : Nat) (src : Src) (p : IndPair) : (s.setPair pg src p).deferred = s.deferred := rfl
@[simp] theorem State.setPair_mem (s : State) (pg : Nat) (src : Src) (p : IndPair) : (s.setPair pg src p).mem = s.mem := rfl
@[simp] theorem State.setPair_rdata (s : State) (pg : Nat) (src : Src) (p : IndPair) : (s.setPair pg src p).rdata = s.rdata := rfl
@[simp] theorem State.setPair_scrubLog (s : State) (pg : Nat) (src : Src) (p : IndPair) : (s.setPair pg src p).scrubLog = s.scrubLog := rfl
@[simp] theorem State.setPair_freeCtr (s : State) (pg : Nat) (src : Src) (p : IndPair) : (s.setPair pg src p).freeCtr = s.freeCtr := rfl
@[simp] theorem State.setPair_pwr (s : State) (pg : Nat) (src : Src) (p : IndPair) : (s.setPair pg src p).pwr = s.pwr := rfl
@[simp] theorem State.setPair_axes (s : State) (pg : Nat) (src : Src) (p : IndPair) : (s.setPair pg src p).axes = s.axes := rfl
@[simp] theorem State.setPair_gal (s : State) (pg : Nat) (src : Src) (p : IndPair) : (s.setPair pg src p).gal = s.gal := rfl
@[simp] theorem State.setPair_saf (s : State) (pg : Nat) (src : Src) (p : IndPair) : (s.setPair pg src p).saf = s.saf := rfl
@[simp] theorem State.setPair_doors (s : State) (pg : Nat) (src : Src) (p : IndPair) : (s.setPair pg src p).doors = s.doors := rfl
@[simp] theorem State.setPair_voteBad (s : State) (pg : Nat) (src : Src) (p : IndPair) : (s.setPair pg src p).voteBad = s.voteBad := rfl
@[simp] theorem State.setPair_fq0 (s : State) (pg : Nat) (src : Src) (p : IndPair) : (s.setPair pg src p).fq0 = s.fq0 := rfl
@[simp] theorem State.setPair_heads (s : State) (pg : Nat) (src : Src) (p : IndPair) : (s.setPair pg src p).heads = s.heads := rfl
@[simp] theorem State.setPair_ingest (s : State) (pg : Nat) (src : Src) (p : IndPair) : (s.setPair pg src p).ingest = s.ingest := rfl
@[simp] theorem State.setPair_drip (s : State) (pg : Nat) (src : Src) (p : IndPair) : (s.setPair pg src p).drip = s.drip := rfl
@[simp] theorem State.setPair_flow (s : State) (pg : Nat) (src : Src) (p : IndPair) : (s.setPair pg src p).flow = s.flow := rfl
@[simp] theorem State.setPair_fio (s : State) (pg : Nat) (src : Src) (p : IndPair) : (s.setPair pg src p).fio = s.fio := rfl
@[simp] theorem State.setPair_cans (s : State) (pg : Nat) (src : Src) (p : IndPair) : (s.setPair pg src p).cans = s.cans := rfl
@[simp] theorem State.setPair_nets (s : State) (pg : Nat) (src : Src) (p : IndPair) : (s.setPair pg src p).nets = s.nets := rfl
@[simp] theorem State.setPair_echo (s : State) (pg : Nat) (src : Src) (p : IndPair) : (s.setPair pg src p).echo = s.echo := rfl
@[simp] theorem State.setPair_dst (s : State) (pg : Nat) (src : Src) (p : IndPair) : (s.setPair pg src p).dst = s.dst := rfl
@[simp] theorem State.setPair_svc (s : State) (pg : Nat) (src : Src) (p : IndPair) : (s.setPair pg src p).svc = s.svc := rfl
@[simp] theorem State.setPair_pending (s : State) (pg : Nat) (src : Src) (p : IndPair) : (s.setPair pg src p).pending = s.pending := rfl

@[simp] theorem State.setHead_member (s : State) (h : Nat) (x : Head) : (s.setHead h x).member = s.member := rfl
@[simp] theorem State.setHead_tick (s : State) (h : Nat) (x : Head) : (s.setHead h x).tick = s.tick := rfl
@[simp] theorem State.setHead_regs (s : State) (h : Nat) (x : Head) : (s.setHead h x).regs = s.regs := rfl
@[simp] theorem State.setHead_fixed (s : State) (h : Nat) (x : Head) : (s.setHead h x).fixed = s.fixed := rfl
@[simp] theorem State.setHead_stage (s : State) (h : Nat) (x : Head) : (s.setHead h x).stage = s.stage := rfl
@[simp] theorem State.setHead_inds (s : State) (h : Nat) (x : Head) : (s.setHead h x).inds = s.inds := rfl
@[simp] theorem State.setHead_deferred (s : State) (h : Nat) (x : Head) : (s.setHead h x).deferred = s.deferred := rfl
@[simp] theorem State.setHead_mem (s : State) (h : Nat) (x : Head) : (s.setHead h x).mem = s.mem := rfl
@[simp] theorem State.setHead_rdata (s : State) (h : Nat) (x : Head) : (s.setHead h x).rdata = s.rdata := rfl
@[simp] theorem State.setHead_scrubLog (s : State) (h : Nat) (x : Head) : (s.setHead h x).scrubLog = s.scrubLog := rfl
@[simp] theorem State.setHead_freeCtr (s : State) (h : Nat) (x : Head) : (s.setHead h x).freeCtr = s.freeCtr := rfl
@[simp] theorem State.setHead_pwr (s : State) (h : Nat) (x : Head) : (s.setHead h x).pwr = s.pwr := rfl
@[simp] theorem State.setHead_axes (s : State) (h : Nat) (x : Head) : (s.setHead h x).axes = s.axes := rfl
@[simp] theorem State.setHead_gal (s : State) (h : Nat) (x : Head) : (s.setHead h x).gal = s.gal := rfl
@[simp] theorem State.setHead_saf (s : State) (h : Nat) (x : Head) : (s.setHead h x).saf = s.saf := rfl
@[simp] theorem State.setHead_doors (s : State) (h : Nat) (x : Head) : (s.setHead h x).doors = s.doors := rfl
@[simp] theorem State.setHead_voteBad (s : State) (h : Nat) (x : Head) : (s.setHead h x).voteBad = s.voteBad := rfl
@[simp] theorem State.setHead_fq0 (s : State) (h : Nat) (x : Head) : (s.setHead h x).fq0 = s.fq0 := rfl
@[simp] theorem State.setHead_ingest (s : State) (h : Nat) (x : Head) : (s.setHead h x).ingest = s.ingest := rfl
@[simp] theorem State.setHead_drip (s : State) (h : Nat) (x : Head) : (s.setHead h x).drip = s.drip := rfl
@[simp] theorem State.setHead_flow (s : State) (h : Nat) (x : Head) : (s.setHead h x).flow = s.flow := rfl
@[simp] theorem State.setHead_fio (s : State) (h : Nat) (x : Head) : (s.setHead h x).fio = s.fio := rfl
@[simp] theorem State.setHead_cans (s : State) (h : Nat) (x : Head) : (s.setHead h x).cans = s.cans := rfl
@[simp] theorem State.setHead_nets (s : State) (h : Nat) (x : Head) : (s.setHead h x).nets = s.nets := rfl
@[simp] theorem State.setHead_echo (s : State) (h : Nat) (x : Head) : (s.setHead h x).echo = s.echo := rfl
@[simp] theorem State.setHead_dst (s : State) (h : Nat) (x : Head) : (s.setHead h x).dst = s.dst := rfl
@[simp] theorem State.setHead_svc (s : State) (h : Nat) (x : Head) : (s.setHead h x).svc = s.svc := rfl
@[simp] theorem State.setHead_pending (s : State) (h : Nat) (x : Head) : (s.setHead h x).pending = s.pending := rfl

@[simp] theorem State.setFlow_member (s : State) (f : Flow) : (s.setFlow f).member = s.member := rfl
@[simp] theorem State.setFlow_tick (s : State) (f : Flow) : (s.setFlow f).tick = s.tick := rfl
@[simp] theorem State.setFlow_regs (s : State) (f : Flow) : (s.setFlow f).regs = s.regs := rfl
@[simp] theorem State.setFlow_fixed (s : State) (f : Flow) : (s.setFlow f).fixed = s.fixed := rfl
@[simp] theorem State.setFlow_stage (s : State) (f : Flow) : (s.setFlow f).stage = s.stage := rfl
@[simp] theorem State.setFlow_inds (s : State) (f : Flow) : (s.setFlow f).inds = s.inds := rfl
@[simp] theorem State.setFlow_deferred (s : State) (f : Flow) : (s.setFlow f).deferred = s.deferred := rfl
@[simp] theorem State.setFlow_mem (s : State) (f : Flow) : (s.setFlow f).mem = s.mem := rfl
@[simp] theorem State.setFlow_rdata (s : State) (f : Flow) : (s.setFlow f).rdata = s.rdata := rfl
@[simp] theorem State.setFlow_scrubLog (s : State) (f : Flow) : (s.setFlow f).scrubLog = s.scrubLog := rfl
@[simp] theorem State.setFlow_freeCtr (s : State) (f : Flow) : (s.setFlow f).freeCtr = s.freeCtr := rfl
@[simp] theorem State.setFlow_pwr (s : State) (f : Flow) : (s.setFlow f).pwr = s.pwr := rfl
@[simp] theorem State.setFlow_axes (s : State) (f : Flow) : (s.setFlow f).axes = s.axes := rfl
@[simp] theorem State.setFlow_gal (s : State) (f : Flow) : (s.setFlow f).gal = s.gal := rfl
@[simp] theorem State.setFlow_saf (s : State) (f : Flow) : (s.setFlow f).saf = s.saf := rfl
@[simp] theorem State.setFlow_doors (s : State) (f : Flow) : (s.setFlow f).doors = s.doors := rfl
@[simp] theorem State.setFlow_voteBad (s : State) (f : Flow) : (s.setFlow f).voteBad = s.voteBad := rfl
@[simp] theorem State.setFlow_fq0 (s : State) (f : Flow) : (s.setFlow f).fq0 = s.fq0 := rfl
@[simp] theorem State.setFlow_heads (s : State) (f : Flow) : (s.setFlow f).heads = s.heads := rfl
@[simp] theorem State.setFlow_ingest (s : State) (f : Flow) : (s.setFlow f).ingest = s.ingest := rfl
@[simp] theorem State.setFlow_drip (s : State) (f : Flow) : (s.setFlow f).drip = s.drip := rfl
@[simp] theorem State.setFlow_fio (s : State) (f : Flow) : (s.setFlow f).fio = s.fio := rfl
@[simp] theorem State.setFlow_cans (s : State) (f : Flow) : (s.setFlow f).cans = s.cans := rfl
@[simp] theorem State.setFlow_nets (s : State) (f : Flow) : (s.setFlow f).nets = s.nets := rfl
@[simp] theorem State.setFlow_echo (s : State) (f : Flow) : (s.setFlow f).echo = s.echo := rfl
@[simp] theorem State.setFlow_dst (s : State) (f : Flow) : (s.setFlow f).dst = s.dst := rfl
@[simp] theorem State.setFlow_svc (s : State) (f : Flow) : (s.setFlow f).svc = s.svc := rfl
@[simp] theorem State.setFlow_pending (s : State) (f : Flow) : (s.setFlow f).pending = s.pending := rfl

@[simp] theorem State.setCan_member (s : State) (n : Nat) (c : CanCtl) : (s.setCan n c).member = s.member := rfl
@[simp] theorem State.setCan_tick (s : State) (n : Nat) (c : CanCtl) : (s.setCan n c).tick = s.tick := rfl
@[simp] theorem State.setCan_regs (s : State) (n : Nat) (c : CanCtl) : (s.setCan n c).regs = s.regs := rfl
@[simp] theorem State.setCan_fixed (s : State) (n : Nat) (c : CanCtl) : (s.setCan n c).fixed = s.fixed := rfl
@[simp] theorem State.setCan_stage (s : State) (n : Nat) (c : CanCtl) : (s.setCan n c).stage = s.stage := rfl
@[simp] theorem State.setCan_inds (s : State) (n : Nat) (c : CanCtl) : (s.setCan n c).inds = s.inds := rfl
@[simp] theorem State.setCan_deferred (s : State) (n : Nat) (c : CanCtl) : (s.setCan n c).deferred = s.deferred := rfl
@[simp] theorem State.setCan_mem (s : State) (n : Nat) (c : CanCtl) : (s.setCan n c).mem = s.mem := rfl
@[simp] theorem State.setCan_rdata (s : State) (n : Nat) (c : CanCtl) : (s.setCan n c).rdata = s.rdata := rfl
@[simp] theorem State.setCan_scrubLog (s : State) (n : Nat) (c : CanCtl) : (s.setCan n c).scrubLog = s.scrubLog := rfl
@[simp] theorem State.setCan_freeCtr (s : State) (n : Nat) (c : CanCtl) : (s.setCan n c).freeCtr = s.freeCtr := rfl
@[simp] theorem State.setCan_pwr (s : State) (n : Nat) (c : CanCtl) : (s.setCan n c).pwr = s.pwr := rfl
@[simp] theorem State.setCan_axes (s : State) (n : Nat) (c : CanCtl) : (s.setCan n c).axes = s.axes := rfl
@[simp] theorem State.setCan_gal (s : State) (n : Nat) (c : CanCtl) : (s.setCan n c).gal = s.gal := rfl
@[simp] theorem State.setCan_saf (s : State) (n : Nat) (c : CanCtl) : (s.setCan n c).saf = s.saf := rfl
@[simp] theorem State.setCan_doors (s : State) (n : Nat) (c : CanCtl) : (s.setCan n c).doors = s.doors := rfl
@[simp] theorem State.setCan_voteBad (s : State) (n : Nat) (c : CanCtl) : (s.setCan n c).voteBad = s.voteBad := rfl
@[simp] theorem State.setCan_fq0 (s : State) (n : Nat) (c : CanCtl) : (s.setCan n c).fq0 = s.fq0 := rfl
@[simp] theorem State.setCan_heads (s : State) (n : Nat) (c : CanCtl) : (s.setCan n c).heads = s.heads := rfl
@[simp] theorem State.setCan_ingest (s : State) (n : Nat) (c : CanCtl) : (s.setCan n c).ingest = s.ingest := rfl
@[simp] theorem State.setCan_drip (s : State) (n : Nat) (c : CanCtl) : (s.setCan n c).drip = s.drip := rfl
@[simp] theorem State.setCan_flow (s : State) (n : Nat) (c : CanCtl) : (s.setCan n c).flow = s.flow := rfl
@[simp] theorem State.setCan_fio (s : State) (n : Nat) (c : CanCtl) : (s.setCan n c).fio = s.fio := rfl
@[simp] theorem State.setCan_nets (s : State) (n : Nat) (c : CanCtl) : (s.setCan n c).nets = s.nets := rfl
@[simp] theorem State.setCan_echo (s : State) (n : Nat) (c : CanCtl) : (s.setCan n c).echo = s.echo := rfl
@[simp] theorem State.setCan_dst (s : State) (n : Nat) (c : CanCtl) : (s.setCan n c).dst = s.dst := rfl
@[simp] theorem State.setCan_svc (s : State) (n : Nat) (c : CanCtl) : (s.setCan n c).svc = s.svc := rfl
@[simp] theorem State.setCan_pending (s : State) (n : Nat) (c : CanCtl) : (s.setCan n c).pending = s.pending := rfl

@[simp] theorem State.unstage_member (s : State) (addr : Nat) : (s.unstage addr).member = s.member := rfl
@[simp] theorem State.unstage_tick (s : State) (addr : Nat) : (s.unstage addr).tick = s.tick := rfl
@[simp] theorem State.unstage_regs (s : State) (addr : Nat) : (s.unstage addr).regs = s.regs := rfl
@[simp] theorem State.unstage_fixed (s : State) (addr : Nat) : (s.unstage addr).fixed = s.fixed := rfl
@[simp] theorem State.unstage_inds (s : State) (addr : Nat) : (s.unstage addr).inds = s.inds := rfl
@[simp] theorem State.unstage_deferred (s : State) (addr : Nat) : (s.unstage addr).deferred = s.deferred := rfl
@[simp] theorem State.unstage_mem (s : State) (addr : Nat) : (s.unstage addr).mem = s.mem := rfl
@[simp] theorem State.unstage_rdata (s : State) (addr : Nat) : (s.unstage addr).rdata = s.rdata := rfl
@[simp] theorem State.unstage_scrubLog (s : State) (addr : Nat) : (s.unstage addr).scrubLog = s.scrubLog := rfl
@[simp] theorem State.unstage_freeCtr (s : State) (addr : Nat) : (s.unstage addr).freeCtr = s.freeCtr := rfl
@[simp] theorem State.unstage_pwr (s : State) (addr : Nat) : (s.unstage addr).pwr = s.pwr := rfl
@[simp] theorem State.unstage_axes (s : State) (addr : Nat) : (s.unstage addr).axes = s.axes := rfl
@[simp] theorem State.unstage_gal (s : State) (addr : Nat) : (s.unstage addr).gal = s.gal := rfl
@[simp] theorem State.unstage_saf (s : State) (addr : Nat) : (s.unstage addr).saf = s.saf := rfl
@[simp] theorem State.unstage_doors (s : State) (addr : Nat) : (s.unstage addr).doors = s.doors := rfl
@[simp] theorem State.unstage_voteBad (s : State) (addr : Nat) : (s.unstage addr).voteBad = s.voteBad := rfl
@[simp] theorem State.unstage_fq0 (s : State) (addr : Nat) : (s.unstage addr).fq0 = s.fq0 := rfl
@[simp] theorem State.unstage_heads (s : State) (addr : Nat) : (s.unstage addr).heads = s.heads := rfl
@[simp] theorem State.unstage_ingest (s : State) (addr : Nat) : (s.unstage addr).ingest = s.ingest := rfl
@[simp] theorem State.unstage_drip (s : State) (addr : Nat) : (s.unstage addr).drip = s.drip := rfl
@[simp] theorem State.unstage_flow (s : State) (addr : Nat) : (s.unstage addr).flow = s.flow := rfl
@[simp] theorem State.unstage_fio (s : State) (addr : Nat) : (s.unstage addr).fio = s.fio := rfl
@[simp] theorem State.unstage_cans (s : State) (addr : Nat) : (s.unstage addr).cans = s.cans := rfl
@[simp] theorem State.unstage_nets (s : State) (addr : Nat) : (s.unstage addr).nets = s.nets := rfl
@[simp] theorem State.unstage_echo (s : State) (addr : Nat) : (s.unstage addr).echo = s.echo := rfl
@[simp] theorem State.unstage_dst (s : State) (addr : Nat) : (s.unstage addr).dst = s.dst := rfl
@[simp] theorem State.unstage_svc (s : State) (addr : Nat) : (s.unstage addr).svc = s.svc := rfl
@[simp] theorem State.unstage_pending (s : State) (addr : Nat) : (s.unstage addr).pending = s.pending := rfl
@[simp] theorem State.undefer_member (s : State) (addr : Nat) : (s.undefer addr).member = s.member := rfl
@[simp] theorem State.undefer_tick (s : State) (addr : Nat) : (s.undefer addr).tick = s.tick := rfl
@[simp] theorem State.undefer_regs (s : State) (addr : Nat) : (s.undefer addr).regs = s.regs := rfl
@[simp] theorem State.undefer_fixed (s : State) (addr : Nat) : (s.undefer addr).fixed = s.fixed := rfl
@[simp] theorem State.undefer_inds (s : State) (addr : Nat) : (s.undefer addr).inds = s.inds := rfl
@[simp] theorem State.undefer_stage (s : State) (addr : Nat) : (s.undefer addr).stage = s.stage := rfl
@[simp] theorem State.undefer_mem (s : State) (addr : Nat) : (s.undefer addr).mem = s.mem := rfl
@[simp] theorem State.undefer_rdata (s : State) (addr : Nat) : (s.undefer addr).rdata = s.rdata := rfl
@[simp] theorem State.undefer_scrubLog (s : State) (addr : Nat) : (s.undefer addr).scrubLog = s.scrubLog := rfl
@[simp] theorem State.undefer_freeCtr (s : State) (addr : Nat) : (s.undefer addr).freeCtr = s.freeCtr := rfl
@[simp] theorem State.undefer_pwr (s : State) (addr : Nat) : (s.undefer addr).pwr = s.pwr := rfl
@[simp] theorem State.undefer_axes (s : State) (addr : Nat) : (s.undefer addr).axes = s.axes := rfl
@[simp] theorem State.undefer_gal (s : State) (addr : Nat) : (s.undefer addr).gal = s.gal := rfl
@[simp] theorem State.undefer_saf (s : State) (addr : Nat) : (s.undefer addr).saf = s.saf := rfl
@[simp] theorem State.undefer_doors (s : State) (addr : Nat) : (s.undefer addr).doors = s.doors := rfl
@[simp] theorem State.undefer_voteBad (s : State) (addr : Nat) : (s.undefer addr).voteBad = s.voteBad := rfl
@[simp] theorem State.undefer_fq0 (s : State) (addr : Nat) : (s.undefer addr).fq0 = s.fq0 := rfl
@[simp] theorem State.undefer_heads (s : State) (addr : Nat) : (s.undefer addr).heads = s.heads := rfl
@[simp] theorem State.undefer_ingest (s : State) (addr : Nat) : (s.undefer addr).ingest = s.ingest := rfl
@[simp] theorem State.undefer_drip (s : State) (addr : Nat) : (s.undefer addr).drip = s.drip := rfl
@[simp] theorem State.undefer_flow (s : State) (addr : Nat) : (s.undefer addr).flow = s.flow := rfl
@[simp] theorem State.undefer_fio (s : State) (addr : Nat) : (s.undefer addr).fio = s.fio := rfl
@[simp] theorem State.undefer_cans (s : State) (addr : Nat) : (s.undefer addr).cans = s.cans := rfl
@[simp] theorem State.undefer_nets (s : State) (addr : Nat) : (s.undefer addr).nets = s.nets := rfl
@[simp] theorem State.undefer_echo (s : State) (addr : Nat) : (s.undefer addr).echo = s.echo := rfl
@[simp] theorem State.undefer_dst (s : State) (addr : Nat) : (s.undefer addr).dst = s.dst := rfl
@[simp] theorem State.undefer_svc (s : State) (addr : Nat) : (s.undefer addr).svc = s.svc := rfl
@[simp] theorem State.undefer_pending (s : State) (addr : Nat) : (s.undefer addr).pending = s.pending := rfl

@[simp] theorem State.setChan_member (s : State) (c : Channel) (x : Chan) : (s.setChan c x).member = s.member := by cases c <;> rfl
@[simp] theorem State.setChan_tick (s : State) (c : Channel) (x : Chan) : (s.setChan c x).tick = s.tick := by cases c <;> rfl
@[simp] theorem State.setChan_regs (s : State) (c : Channel) (x : Chan) : (s.setChan c x).regs = s.regs := by cases c <;> rfl
@[simp] theorem State.setChan_fixed (s : State) (c : Channel) (x : Chan) : (s.setChan c x).fixed = s.fixed := by cases c <;> rfl
@[simp] theorem State.setChan_stage (s : State) (c : Channel) (x : Chan) : (s.setChan c x).stage = s.stage := by cases c <;> rfl
@[simp] theorem State.setChan_inds (s : State) (c : Channel) (x : Chan) : (s.setChan c x).inds = s.inds := by cases c <;> rfl
@[simp] theorem State.setChan_deferred (s : State) (c : Channel) (x : Chan) : (s.setChan c x).deferred = s.deferred := by cases c <;> rfl
@[simp] theorem State.setChan_mem (s : State) (c : Channel) (x : Chan) : (s.setChan c x).mem = s.mem := by cases c <;> rfl
@[simp] theorem State.setChan_rdata (s : State) (c : Channel) (x : Chan) : (s.setChan c x).rdata = s.rdata := by cases c <;> rfl
@[simp] theorem State.setChan_scrubLog (s : State) (c : Channel) (x : Chan) : (s.setChan c x).scrubLog = s.scrubLog := by cases c <;> rfl
@[simp] theorem State.setChan_freeCtr (s : State) (c : Channel) (x : Chan) : (s.setChan c x).freeCtr = s.freeCtr := by cases c <;> rfl
@[simp] theorem State.setChan_pwr (s : State) (c : Channel) (x : Chan) : (s.setChan c x).pwr = s.pwr := by cases c <;> rfl
@[simp] theorem State.setChan_axes (s : State) (c : Channel) (x : Chan) : (s.setChan c x).axes = s.axes := by cases c <;> rfl
@[simp] theorem State.setChan_gal (s : State) (c : Channel) (x : Chan) : (s.setChan c x).gal = s.gal := by cases c <;> rfl
@[simp] theorem State.setChan_doors (s : State) (c : Channel) (x : Chan) : (s.setChan c x).doors = s.doors := by cases c <;> rfl
@[simp] theorem State.setChan_voteBad (s : State) (c : Channel) (x : Chan) : (s.setChan c x).voteBad = s.voteBad := by cases c <;> rfl
@[simp] theorem State.setChan_fq0 (s : State) (c : Channel) (x : Chan) : (s.setChan c x).fq0 = s.fq0 := by cases c <;> rfl
@[simp] theorem State.setChan_heads (s : State) (c : Channel) (x : Chan) : (s.setChan c x).heads = s.heads := by cases c <;> rfl
@[simp] theorem State.setChan_ingest (s : State) (c : Channel) (x : Chan) : (s.setChan c x).ingest = s.ingest := by cases c <;> rfl
@[simp] theorem State.setChan_drip (s : State) (c : Channel) (x : Chan) : (s.setChan c x).drip = s.drip := by cases c <;> rfl
@[simp] theorem State.setChan_flow (s : State) (c : Channel) (x : Chan) : (s.setChan c x).flow = s.flow := by cases c <;> rfl
@[simp] theorem State.setChan_fio (s : State) (c : Channel) (x : Chan) : (s.setChan c x).fio = s.fio := by cases c <;> rfl
@[simp] theorem State.setChan_cans (s : State) (c : Channel) (x : Chan) : (s.setChan c x).cans = s.cans := by cases c <;> rfl
@[simp] theorem State.setChan_nets (s : State) (c : Channel) (x : Chan) : (s.setChan c x).nets = s.nets := by cases c <;> rfl
@[simp] theorem State.setChan_echo (s : State) (c : Channel) (x : Chan) : (s.setChan c x).echo = s.echo := by cases c <;> rfl
@[simp] theorem State.setChan_dst (s : State) (c : Channel) (x : Chan) : (s.setChan c x).dst = s.dst := by cases c <;> rfl
@[simp] theorem State.setChan_svc (s : State) (c : Channel) (x : Chan) : (s.setChan c x).svc = s.svc := by cases c <;> rfl
@[simp] theorem State.setChan_pending (s : State) (c : Channel) (x : Chan) : (s.setChan c x).pending = s.pending := by cases c <;> rfl

@[simp] theorem State.setSlot_member (s : State) (k : Nat) (x : EchoSlot) : (s.setSlot k x).member = s.member := rfl
@[simp] theorem State.setSlot_tick (s : State) (k : Nat) (x : EchoSlot) : (s.setSlot k x).tick = s.tick := rfl
@[simp] theorem State.setSlot_regs (s : State) (k : Nat) (x : EchoSlot) : (s.setSlot k x).regs = s.regs := rfl
@[simp] theorem State.setSlot_fixed (s : State) (k : Nat) (x : EchoSlot) : (s.setSlot k x).fixed = s.fixed := rfl
@[simp] theorem State.setSlot_stage (s : State) (k : Nat) (x : EchoSlot) : (s.setSlot k x).stage = s.stage := rfl
@[simp] theorem State.setSlot_inds (s : State) (k : Nat) (x : EchoSlot) : (s.setSlot k x).inds = s.inds := rfl
@[simp] theorem State.setSlot_deferred (s : State) (k : Nat) (x : EchoSlot) : (s.setSlot k x).deferred = s.deferred := rfl
@[simp] theorem State.setSlot_mem (s : State) (k : Nat) (x : EchoSlot) : (s.setSlot k x).mem = s.mem := rfl
@[simp] theorem State.setSlot_rdata (s : State) (k : Nat) (x : EchoSlot) : (s.setSlot k x).rdata = s.rdata := rfl
@[simp] theorem State.setSlot_scrubLog (s : State) (k : Nat) (x : EchoSlot) : (s.setSlot k x).scrubLog = s.scrubLog := rfl
@[simp] theorem State.setSlot_freeCtr (s : State) (k : Nat) (x : EchoSlot) : (s.setSlot k x).freeCtr = s.freeCtr := rfl
@[simp] theorem State.setSlot_pwr (s : State) (k : Nat) (x : EchoSlot) : (s.setSlot k x).pwr = s.pwr := rfl
@[simp] theorem State.setSlot_axes (s : State) (k : Nat) (x : EchoSlot) : (s.setSlot k x).axes = s.axes := rfl
@[simp] theorem State.setSlot_gal (s : State) (k : Nat) (x : EchoSlot) : (s.setSlot k x).gal = s.gal := rfl
@[simp] theorem State.setSlot_saf (s : State) (k : Nat) (x : EchoSlot) : (s.setSlot k x).saf = s.saf := rfl
@[simp] theorem State.setSlot_doors (s : State) (k : Nat) (x : EchoSlot) : (s.setSlot k x).doors = s.doors := rfl
@[simp] theorem State.setSlot_voteBad (s : State) (k : Nat) (x : EchoSlot) : (s.setSlot k x).voteBad = s.voteBad := rfl
@[simp] theorem State.setSlot_fq0 (s : State) (k : Nat) (x : EchoSlot) : (s.setSlot k x).fq0 = s.fq0 := rfl
@[simp] theorem State.setSlot_heads (s : State) (k : Nat) (x : EchoSlot) : (s.setSlot k x).heads = s.heads := rfl
@[simp] theorem State.setSlot_ingest (s : State) (k : Nat) (x : EchoSlot) : (s.setSlot k x).ingest = s.ingest := rfl
@[simp] theorem State.setSlot_drip (s : State) (k : Nat) (x : EchoSlot) : (s.setSlot k x).drip = s.drip := rfl
@[simp] theorem State.setSlot_flow (s : State) (k : Nat) (x : EchoSlot) : (s.setSlot k x).flow = s.flow := rfl
@[simp] theorem State.setSlot_fio (s : State) (k : Nat) (x : EchoSlot) : (s.setSlot k x).fio = s.fio := rfl
@[simp] theorem State.setSlot_cans (s : State) (k : Nat) (x : EchoSlot) : (s.setSlot k x).cans = s.cans := rfl
@[simp] theorem State.setSlot_nets (s : State) (k : Nat) (x : EchoSlot) : (s.setSlot k x).nets = s.nets := rfl
@[simp] theorem State.setSlot_dst (s : State) (k : Nat) (x : EchoSlot) : (s.setSlot k x).dst = s.dst := rfl
@[simp] theorem State.setSlot_svc (s : State) (k : Nat) (x : EchoSlot) : (s.setSlot k x).svc = s.svc := rfl
@[simp] theorem State.setSlot_pending (s : State) (k : Nat) (x : EchoSlot) : (s.setSlot k x).pending = s.pending := rfl

@[simp] theorem State.setStream_member (s : State) (t : Nat) (x : Stream) : (s.setStream t x).member = s.member := rfl
@[simp] theorem State.setStream_tick (s : State) (t : Nat) (x : Stream) : (s.setStream t x).tick = s.tick := rfl
@[simp] theorem State.setStream_regs (s : State) (t : Nat) (x : Stream) : (s.setStream t x).regs = s.regs := rfl
@[simp] theorem State.setStream_fixed (s : State) (t : Nat) (x : Stream) : (s.setStream t x).fixed = s.fixed := rfl
@[simp] theorem State.setStream_stage (s : State) (t : Nat) (x : Stream) : (s.setStream t x).stage = s.stage := rfl
@[simp] theorem State.setStream_inds (s : State) (t : Nat) (x : Stream) : (s.setStream t x).inds = s.inds := rfl
@[simp] theorem State.setStream_deferred (s : State) (t : Nat) (x : Stream) : (s.setStream t x).deferred = s.deferred := rfl
@[simp] theorem State.setStream_mem (s : State) (t : Nat) (x : Stream) : (s.setStream t x).mem = s.mem := rfl
@[simp] theorem State.setStream_rdata (s : State) (t : Nat) (x : Stream) : (s.setStream t x).rdata = s.rdata := rfl
@[simp] theorem State.setStream_scrubLog (s : State) (t : Nat) (x : Stream) : (s.setStream t x).scrubLog = s.scrubLog := rfl
@[simp] theorem State.setStream_freeCtr (s : State) (t : Nat) (x : Stream) : (s.setStream t x).freeCtr = s.freeCtr := rfl
@[simp] theorem State.setStream_pwr (s : State) (t : Nat) (x : Stream) : (s.setStream t x).pwr = s.pwr := rfl
@[simp] theorem State.setStream_axes (s : State) (t : Nat) (x : Stream) : (s.setStream t x).axes = s.axes := rfl
@[simp] theorem State.setStream_gal (s : State) (t : Nat) (x : Stream) : (s.setStream t x).gal = s.gal := rfl
@[simp] theorem State.setStream_saf (s : State) (t : Nat) (x : Stream) : (s.setStream t x).saf = s.saf := rfl
@[simp] theorem State.setStream_doors (s : State) (t : Nat) (x : Stream) : (s.setStream t x).doors = s.doors := rfl
@[simp] theorem State.setStream_voteBad (s : State) (t : Nat) (x : Stream) : (s.setStream t x).voteBad = s.voteBad := rfl
@[simp] theorem State.setStream_fq0 (s : State) (t : Nat) (x : Stream) : (s.setStream t x).fq0 = s.fq0 := rfl
@[simp] theorem State.setStream_heads (s : State) (t : Nat) (x : Stream) : (s.setStream t x).heads = s.heads := rfl
@[simp] theorem State.setStream_ingest (s : State) (t : Nat) (x : Stream) : (s.setStream t x).ingest = s.ingest := rfl
@[simp] theorem State.setStream_drip (s : State) (t : Nat) (x : Stream) : (s.setStream t x).drip = s.drip := rfl
@[simp] theorem State.setStream_flow (s : State) (t : Nat) (x : Stream) : (s.setStream t x).flow = s.flow := rfl
@[simp] theorem State.setStream_fio (s : State) (t : Nat) (x : Stream) : (s.setStream t x).fio = s.fio := rfl
@[simp] theorem State.setStream_cans (s : State) (t : Nat) (x : Stream) : (s.setStream t x).cans = s.cans := rfl
@[simp] theorem State.setStream_nets (s : State) (t : Nat) (x : Stream) : (s.setStream t x).nets = s.nets := rfl
@[simp] theorem State.setStream_echo (s : State) (t : Nat) (x : Stream) : (s.setStream t x).echo = s.echo := rfl
@[simp] theorem State.setStream_svc (s : State) (t : Nat) (x : Stream) : (s.setStream t x).svc = s.svc := rfl
@[simp] theorem State.setStream_pending (s : State) (t : Nat) (x : Stream) : (s.setStream t x).pending = s.pending := rfl

@[simp] theorem State.setHeld_member (s : State) (n : Nat) (h : Held) : (s.setHeld n h).member = s.member := rfl
@[simp] theorem State.setHeld_tick (s : State) (n : Nat) (h : Held) : (s.setHeld n h).tick = s.tick := rfl
@[simp] theorem State.setHeld_regs (s : State) (n : Nat) (h : Held) : (s.setHeld n h).regs = s.regs := rfl
@[simp] theorem State.setHeld_fixed (s : State) (n : Nat) (h : Held) : (s.setHeld n h).fixed = s.fixed := rfl
@[simp] theorem State.setHeld_stage (s : State) (n : Nat) (h : Held) : (s.setHeld n h).stage = s.stage := rfl
@[simp] theorem State.setHeld_inds (s : State) (n : Nat) (h : Held) : (s.setHeld n h).inds = s.inds := rfl
@[simp] theorem State.setHeld_deferred (s : State) (n : Nat) (h : Held) : (s.setHeld n h).deferred = s.deferred := rfl
@[simp] theorem State.setHeld_mem (s : State) (n : Nat) (h : Held) : (s.setHeld n h).mem = s.mem := rfl
@[simp] theorem State.setHeld_rdata (s : State) (n : Nat) (h : Held) : (s.setHeld n h).rdata = s.rdata := rfl
@[simp] theorem State.setHeld_scrubLog (s : State) (n : Nat) (h : Held) : (s.setHeld n h).scrubLog = s.scrubLog := rfl
@[simp] theorem State.setHeld_freeCtr (s : State) (n : Nat) (h : Held) : (s.setHeld n h).freeCtr = s.freeCtr := rfl
@[simp] theorem State.setHeld_pwr (s : State) (n : Nat) (h : Held) : (s.setHeld n h).pwr = s.pwr := rfl
@[simp] theorem State.setHeld_axes (s : State) (n : Nat) (h : Held) : (s.setHeld n h).axes = s.axes := rfl
@[simp] theorem State.setHeld_gal (s : State) (n : Nat) (h : Held) : (s.setHeld n h).gal = s.gal := rfl
@[simp] theorem State.setHeld_saf (s : State) (n : Nat) (h : Held) : (s.setHeld n h).saf = s.saf := rfl
@[simp] theorem State.setHeld_doors (s : State) (n : Nat) (h : Held) : (s.setHeld n h).doors = s.doors := rfl
@[simp] theorem State.setHeld_voteBad (s : State) (n : Nat) (h : Held) : (s.setHeld n h).voteBad = s.voteBad := rfl
@[simp] theorem State.setHeld_fq0 (s : State) (n : Nat) (h : Held) : (s.setHeld n h).fq0 = s.fq0 := rfl
@[simp] theorem State.setHeld_heads (s : State) (n : Nat) (h : Held) : (s.setHeld n h).heads = s.heads := rfl
@[simp] theorem State.setHeld_ingest (s : State) (n : Nat) (h : Held) : (s.setHeld n h).ingest = s.ingest := rfl
@[simp] theorem State.setHeld_flow (s : State) (n : Nat) (h : Held) : (s.setHeld n h).flow = s.flow := rfl
@[simp] theorem State.setHeld_fio (s : State) (n : Nat) (h : Held) : (s.setHeld n h).fio = s.fio := rfl
@[simp] theorem State.setHeld_cans (s : State) (n : Nat) (h : Held) : (s.setHeld n h).cans = s.cans := rfl
@[simp] theorem State.setHeld_nets (s : State) (n : Nat) (h : Held) : (s.setHeld n h).nets = s.nets := rfl
@[simp] theorem State.setHeld_echo (s : State) (n : Nat) (h : Held) : (s.setHeld n h).echo = s.echo := rfl
@[simp] theorem State.setHeld_dst (s : State) (n : Nat) (h : Held) : (s.setHeld n h).dst = s.dst := rfl
@[simp] theorem State.setHeld_svc (s : State) (n : Nat) (h : Held) : (s.setHeld n h).svc = s.svc := rfl
@[simp] theorem State.setHeld_pending (s : State) (n : Nat) (h : Held) : (s.setHeld n h).pending = s.pending := rfl

@[simp] theorem State.sendOn_member (s : State) (c ident : Nat) (bytes : List Nat) : (s.sendOn c ident bytes).member = s.member := rfl
@[simp] theorem State.sendOn_tick (s : State) (c ident : Nat) (bytes : List Nat) : (s.sendOn c ident bytes).tick = s.tick := rfl
@[simp] theorem State.sendOn_regs (s : State) (c ident : Nat) (bytes : List Nat) : (s.sendOn c ident bytes).regs = s.regs := rfl
@[simp] theorem State.sendOn_fixed (s : State) (c ident : Nat) (bytes : List Nat) : (s.sendOn c ident bytes).fixed = s.fixed := rfl
@[simp] theorem State.sendOn_stage (s : State) (c ident : Nat) (bytes : List Nat) : (s.sendOn c ident bytes).stage = s.stage := rfl
@[simp] theorem State.sendOn_inds (s : State) (c ident : Nat) (bytes : List Nat) : (s.sendOn c ident bytes).inds = s.inds := rfl
@[simp] theorem State.sendOn_deferred (s : State) (c ident : Nat) (bytes : List Nat) : (s.sendOn c ident bytes).deferred = s.deferred := rfl
@[simp] theorem State.sendOn_mem (s : State) (c ident : Nat) (bytes : List Nat) : (s.sendOn c ident bytes).mem = s.mem := rfl
@[simp] theorem State.sendOn_rdata (s : State) (c ident : Nat) (bytes : List Nat) : (s.sendOn c ident bytes).rdata = s.rdata := rfl
@[simp] theorem State.sendOn_scrubLog (s : State) (c ident : Nat) (bytes : List Nat) : (s.sendOn c ident bytes).scrubLog = s.scrubLog := rfl
@[simp] theorem State.sendOn_freeCtr (s : State) (c ident : Nat) (bytes : List Nat) : (s.sendOn c ident bytes).freeCtr = s.freeCtr := rfl
@[simp] theorem State.sendOn_pwr (s : State) (c ident : Nat) (bytes : List Nat) : (s.sendOn c ident bytes).pwr = s.pwr := rfl
@[simp] theorem State.sendOn_axes (s : State) (c ident : Nat) (bytes : List Nat) : (s.sendOn c ident bytes).axes = s.axes := rfl
@[simp] theorem State.sendOn_gal (s : State) (c ident : Nat) (bytes : List Nat) : (s.sendOn c ident bytes).gal = s.gal := rfl
@[simp] theorem State.sendOn_saf (s : State) (c ident : Nat) (bytes : List Nat) : (s.sendOn c ident bytes).saf = s.saf := rfl
@[simp] theorem State.sendOn_doors (s : State) (c ident : Nat) (bytes : List Nat) : (s.sendOn c ident bytes).doors = s.doors := rfl
@[simp] theorem State.sendOn_voteBad (s : State) (c ident : Nat) (bytes : List Nat) : (s.sendOn c ident bytes).voteBad = s.voteBad := rfl
@[simp] theorem State.sendOn_fq0 (s : State) (c ident : Nat) (bytes : List Nat) : (s.sendOn c ident bytes).fq0 = s.fq0 := rfl
@[simp] theorem State.sendOn_heads (s : State) (c ident : Nat) (bytes : List Nat) : (s.sendOn c ident bytes).heads = s.heads := rfl
@[simp] theorem State.sendOn_ingest (s : State) (c ident : Nat) (bytes : List Nat) : (s.sendOn c ident bytes).ingest = s.ingest := rfl
@[simp] theorem State.sendOn_drip (s : State) (c ident : Nat) (bytes : List Nat) : (s.sendOn c ident bytes).drip = s.drip := rfl
@[simp] theorem State.sendOn_flow (s : State) (c ident : Nat) (bytes : List Nat) : (s.sendOn c ident bytes).flow = s.flow := rfl
@[simp] theorem State.sendOn_fio (s : State) (c ident : Nat) (bytes : List Nat) : (s.sendOn c ident bytes).fio = s.fio := rfl
@[simp] theorem State.sendOn_cans (s : State) (c ident : Nat) (bytes : List Nat) : (s.sendOn c ident bytes).cans = s.cans := rfl
@[simp] theorem State.sendOn_echo (s : State) (c ident : Nat) (bytes : List Nat) : (s.sendOn c ident bytes).echo = s.echo := rfl
@[simp] theorem State.sendOn_dst (s : State) (c ident : Nat) (bytes : List Nat) : (s.sendOn c ident bytes).dst = s.dst := rfl
@[simp] theorem State.sendOn_svc (s : State) (c ident : Nat) (bytes : List Nat) : (s.sendOn c ident bytes).svc = s.svc := rfl
@[simp] theorem State.sendOn_pending (s : State) (c ident : Nat) (bytes : List Nat) : (s.sendOn c ident bytes).pending = s.pending := rfl

@[simp] theorem State.sendEcn_member (s : State) (prio udp : Nat) (group : Option Nat) (ident : Nat) (bytes : List Nat) : (s.sendEcn prio udp group ident bytes).member = s.member := rfl
@[simp] theorem State.sendEcn_tick (s : State) (prio udp : Nat) (group : Option Nat) (ident : Nat) (bytes : List Nat) : (s.sendEcn prio udp group ident bytes).tick = s.tick := rfl
@[simp] theorem State.sendEcn_regs (s : State) (prio udp : Nat) (group : Option Nat) (ident : Nat) (bytes : List Nat) : (s.sendEcn prio udp group ident bytes).regs = s.regs := rfl
@[simp] theorem State.sendEcn_fixed (s : State) (prio udp : Nat) (group : Option Nat) (ident : Nat) (bytes : List Nat) : (s.sendEcn prio udp group ident bytes).fixed = s.fixed := rfl
@[simp] theorem State.sendEcn_stage (s : State) (prio udp : Nat) (group : Option Nat) (ident : Nat) (bytes : List Nat) : (s.sendEcn prio udp group ident bytes).stage = s.stage := rfl
@[simp] theorem State.sendEcn_inds (s : State) (prio udp : Nat) (group : Option Nat) (ident : Nat) (bytes : List Nat) : (s.sendEcn prio udp group ident bytes).inds = s.inds := rfl
@[simp] theorem State.sendEcn_deferred (s : State) (prio udp : Nat) (group : Option Nat) (ident : Nat) (bytes : List Nat) : (s.sendEcn prio udp group ident bytes).deferred = s.deferred := rfl
@[simp] theorem State.sendEcn_mem (s : State) (prio udp : Nat) (group : Option Nat) (ident : Nat) (bytes : List Nat) : (s.sendEcn prio udp group ident bytes).mem = s.mem := rfl
@[simp] theorem State.sendEcn_rdata (s : State) (prio udp : Nat) (group : Option Nat) (ident : Nat) (bytes : List Nat) : (s.sendEcn prio udp group ident bytes).rdata = s.rdata := rfl
@[simp] theorem State.sendEcn_scrubLog (s : State) (prio udp : Nat) (group : Option Nat) (ident : Nat) (bytes : List Nat) : (s.sendEcn prio udp group ident bytes).scrubLog = s.scrubLog := rfl
@[simp] theorem State.sendEcn_freeCtr (s : State) (prio udp : Nat) (group : Option Nat) (ident : Nat) (bytes : List Nat) : (s.sendEcn prio udp group ident bytes).freeCtr = s.freeCtr := rfl
@[simp] theorem State.sendEcn_pwr (s : State) (prio udp : Nat) (group : Option Nat) (ident : Nat) (bytes : List Nat) : (s.sendEcn prio udp group ident bytes).pwr = s.pwr := rfl
@[simp] theorem State.sendEcn_axes (s : State) (prio udp : Nat) (group : Option Nat) (ident : Nat) (bytes : List Nat) : (s.sendEcn prio udp group ident bytes).axes = s.axes := rfl
@[simp] theorem State.sendEcn_gal (s : State) (prio udp : Nat) (group : Option Nat) (ident : Nat) (bytes : List Nat) : (s.sendEcn prio udp group ident bytes).gal = s.gal := rfl
@[simp] theorem State.sendEcn_saf (s : State) (prio udp : Nat) (group : Option Nat) (ident : Nat) (bytes : List Nat) : (s.sendEcn prio udp group ident bytes).saf = s.saf := rfl
@[simp] theorem State.sendEcn_doors (s : State) (prio udp : Nat) (group : Option Nat) (ident : Nat) (bytes : List Nat) : (s.sendEcn prio udp group ident bytes).doors = s.doors := rfl
@[simp] theorem State.sendEcn_voteBad (s : State) (prio udp : Nat) (group : Option Nat) (ident : Nat) (bytes : List Nat) : (s.sendEcn prio udp group ident bytes).voteBad = s.voteBad := rfl
@[simp] theorem State.sendEcn_fq0 (s : State) (prio udp : Nat) (group : Option Nat) (ident : Nat) (bytes : List Nat) : (s.sendEcn prio udp group ident bytes).fq0 = s.fq0 := rfl
@[simp] theorem State.sendEcn_heads (s : State) (prio udp : Nat) (group : Option Nat) (ident : Nat) (bytes : List Nat) : (s.sendEcn prio udp group ident bytes).heads = s.heads := rfl
@[simp] theorem State.sendEcn_ingest (s : State) (prio udp : Nat) (group : Option Nat) (ident : Nat) (bytes : List Nat) : (s.sendEcn prio udp group ident bytes).ingest = s.ingest := rfl
@[simp] theorem State.sendEcn_drip (s : State) (prio udp : Nat) (group : Option Nat) (ident : Nat) (bytes : List Nat) : (s.sendEcn prio udp group ident bytes).drip = s.drip := rfl
@[simp] theorem State.sendEcn_flow (s : State) (prio udp : Nat) (group : Option Nat) (ident : Nat) (bytes : List Nat) : (s.sendEcn prio udp group ident bytes).flow = s.flow := rfl
@[simp] theorem State.sendEcn_fio (s : State) (prio udp : Nat) (group : Option Nat) (ident : Nat) (bytes : List Nat) : (s.sendEcn prio udp group ident bytes).fio = s.fio := rfl
@[simp] theorem State.sendEcn_cans (s : State) (prio udp : Nat) (group : Option Nat) (ident : Nat) (bytes : List Nat) : (s.sendEcn prio udp group ident bytes).cans = s.cans := rfl
@[simp] theorem State.sendEcn_echo (s : State) (prio udp : Nat) (group : Option Nat) (ident : Nat) (bytes : List Nat) : (s.sendEcn prio udp group ident bytes).echo = s.echo := rfl
@[simp] theorem State.sendEcn_dst (s : State) (prio udp : Nat) (group : Option Nat) (ident : Nat) (bytes : List Nat) : (s.sendEcn prio udp group ident bytes).dst = s.dst := rfl
@[simp] theorem State.sendEcn_svc (s : State) (prio udp : Nat) (group : Option Nat) (ident : Nat) (bytes : List Nat) : (s.sendEcn prio udp group ident bytes).svc = s.svc := rfl
@[simp] theorem State.sendEcn_pending (s : State) (prio udp : Nat) (group : Option Nat) (ident : Nat) (bytes : List Nat) : (s.sendEcn prio udp group ident bytes).pending = s.pending := rfl

end Sys2Proof.Machine
end

