-- ==== Sys2Proof/Laws/Uniq.lean ====
section
/-! SUPPORT. No two names of the register file share a key, HDR.PG_CAP apart (it names the whole word whose fields the blocks
name). The names stand in rising order of their places, and the place of a name's first instance can be told from any key. -/

set_option Elab.async false

namespace Sys2Proof.Machine

/-- The address of the first instance of whatever name holds address `a`. -/
def root (a : Nat) : Nat :=
  if a % 0x1000 < 0x40 ∧ a % 0x1000 ≠ 8 then a % 0x1000
  else if 0x10000 ≤ a ∧ a < 0x20000 then 0x10000 + a % 0x1000
  else if 0x28000 ≤ a ∧ a < 0x38000 then 0x28000 + a % 0x1000
  else if 0x50000 ≤ a ∧ a < 0x54000 then 0x50000 + a % 0x1000
  else if 0x8200 ≤ a ∧ a < 0x8600 then 0x8200 + (a - 0x8200) % 0x80
  else if 0x39100 ≤ a ∧ a < 0x39300 then 0x39100 + (a - 0x39100) % 0x40
  else if 0x40100 ≤ a ∧ a < 0x40700 then 0x40100 + (a - 0x40100) % 0x20
  else if 0x41044 ≤ a ∧ a < 0x41074 then 0x41044
  else if 0x58060 ≤ a ∧ a < 0x58080 then (if a % 8 = 0 then 0x58060 else 0x58064)
  else if 0x600C0 ≤ a ∧ a < 0x60100 then 0x600C0
  else if 0x69050 ≤ a ∧ a < 0x69070 then 0x69050
  else a

/-- Whether the place of a family's first instance can be told from any of its keys. -/
def Fam.rooted (f : Fam) : Bool :=
  (f.count ≤ 1 && root f.base = f.base) ||
  (f.base < 0x40 && f.base != 8 && f.stride = 0x1000) ||
  (f.stride = 0x1000 && 0x40 ≤ f.base % 0x1000 && ((f.base / 0x1000 = 0x10 && f.count ≤ 16) ||
    (f.base / 0x1000 = 0x28 && f.count ≤ 16) || (f.base / 0x1000 = 0x50 && f.count ≤ 4))) ||
  (f.stride = 0x1000 && f.base % 0x1000 = 8 && ((f.base / 0x1000 = 0x10 && f.count ≤ 16) ||
    (f.base / 0x1000 = 0x28 && f.count ≤ 16) || (f.base / 0x1000 = 0x50 && f.count ≤ 4))) ||
  (f.stride = 0x80 && 0x8200 ≤ f.base && f.base < 0x8280 && f.count ≤ 8) ||
  (f.stride = 0x40 && 0x39100 ≤ f.base && f.base < 0x39140 && f.count ≤ 8) ||
  (f.stride = 0x20 && 0x40100 ≤ f.base && f.base < 0x40120 && f.count ≤ 48) ||
  (List.range f.count).all fun n => root (f.base + n * f.stride) = f.base

theorem Fam.root_eq {f : Fam} {n : Nat} (h : f.rooted = true) (hn : n < f.count) : root (f.base + n * f.stride) = f.base := by
  simp only [Fam.rooted, Bool.or_eq_true, Bool.and_eq_true, decide_eq_true_eq, bne_iff_ne, List.all_eq_true, List.mem_range] at h
  rcases h with ((((((⟨h1, h2⟩ | ⟨⟨h1, h2⟩, h3⟩) | ⟨⟨h1, h2⟩, h3⟩) | ⟨⟨h1, h2⟩, h3⟩) | ⟨⟨⟨h1, h2⟩, h3⟩, h4⟩) | ⟨⟨⟨h1, h2⟩, h3⟩, h4⟩) |
    ⟨⟨⟨h1, h2⟩, h3⟩, h4⟩) | h
  · have : n = 0 := by omega
    subst this
    simpa using h2
  · rw [h3]; unfold root
    rw [if_pos (by omega)]; omega
  · rw [h1]; unfold root
    rcases h3 with (⟨h3, h4⟩ | ⟨h3, h4⟩) | ⟨h3, h4⟩
    · rw [if_neg (by omega), if_pos (by omega)]; omega
    · rw [if_neg (by omega), if_neg (by omega), if_pos (by omega)]; omega
    · rw [if_neg (by omega), if_neg (by omega), if_neg (by omega), if_pos (by omega)]; omega
  · rw [h1]; unfold root
    rcases h3 with (⟨h3, h4⟩ | ⟨h3, h4⟩) | ⟨h3, h4⟩
    · rw [if_neg (by omega), if_pos (by omega)]; omega
    · rw [if_neg (by omega), if_neg (by omega), if_pos (by omega)]; omega
    · rw [if_neg (by omega), if_neg (by omega), if_neg (by omega), if_pos (by omega)]; omega
  · rw [h1]; unfold root
    rw [if_neg (by omega), if_neg (by omega), if_neg (by omega), if_neg (by omega), if_pos (by omega)]; omega
  · rw [h1]; unfold root
    rw [if_neg (by omega), if_neg (by omega), if_neg (by omega), if_neg (by omega), if_neg (by omega), if_pos (by omega)]; omega
  · rw [h1]; unfold root
    rw [if_neg (by omega), if_neg (by omega), if_neg (by omega), if_neg (by omega), if_neg (by omega), if_neg (by omega), if_pos (by omega)]; omega
  · exact h n hn

/-- The place of a family: its first address and its lowest bit, high bits of a register first; the common header before all. -/
def place (i : Nat) : Nat := (bif Nat.blt i 29 then 0 else 2 ^ 40) + (famAt i).base * 32 + 31 - (famAt i).lo

theorem rooted_all : ∀ i : Fin 1022, i.val = 5 ∨ (famAt i).rooted = true := by decide +kernel

theorem place_rises : ∀ i : Fin 1021, place i < place (i.val + 1) := by decide +kernel

/-- The common header lies below 0x40 of a page, every other name at 0x008 or from 0x40 up. -/
theorem header_apart : ∀ i : Fin 1022, i.val = 5 ∨
    (Nat.blt i 29 = true ∧ (famAt i).base < 0x40 ∧ (famAt i).base ≠ 8) ∨ (Nat.blt i 29 = false ∧ (0x40 ≤ (famAt i).base ∨ (famAt i).base = 8)) := by
  decide +kernel

theorem place_lt {i j : Nat} (hij : i < j) (hj : j < 1022) : place i < place j := by
  induction j with
  | zero => exact absurd hij (Nat.not_lt_zero i)
  | succ j ih =>
    have h := place_rises ⟨j, by omega⟩
    rcases Nat.lt_or_eq_of_le (Nat.le_of_lt_succ hij) with h1 | h1
    · exact Nat.lt_trans (ih h1 (by omega)) h
    · subst h1; exact h

theorem famAt_lo (i : Nat) : (famAt i).lo < 32 := Nat.mod_lt _ (by decide)

/-- A number without a family has no key. -/
theorem famAt_empty {i : Nat} (h : 1022 ≤ i) (k : Nat) : ¬ (famAt i).has k := by
  have h2 : (famAt i).count = 0 := by
    by_cases h3 : i < 1024
    · have h4 : i = 1022 ∨ i = 1023 := by omega
      rcases h4 with rfl | rfl <;> rfl
    · have h0 : Nat.blt (i / 32) 32 = false := by
        cases hb : Nat.blt (i / 32) 32
        · rfl
        · have : i / 32 < 32 := Nat.le_of_ble_eq_true hb
          omega
      have h1 : famWord (i / 32) = 0 := by
        unfold famWord
        rw [h0]; rfl
      show (famWord (i / 32) >>> _) % 2 ^ 12 = 0
      simp only [h1, Nat.zero_shiftRight, Nat.zero_mod]
  rintro ⟨n, hn, -⟩
  rw [h2] at hn
  exact Nat.not_lt_zero n hn

/-- A key belongs to one family only, HDR.PG_CAP apart. -/
theorem fam_uniq {i j k : Nat} (hi : (famAt i).has k) (hj : (famAt j).has k) (hi5 : i ≠ 5) (hj5 : j ≠ 5) : i = j := by
  have hi' : i < 1022 := Nat.lt_of_not_le fun h => famAt_empty h k hi
  have hj' : j < 1022 := Nat.lt_of_not_le fun h => famAt_empty h k hj
  obtain ⟨n, hn, e1⟩ := hi
  obtain ⟨m, hm, e2⟩ := hj
  have li := famAt_lo i
  have lj := famAt_lo j
  have ea : (famAt i).base + n * (famAt i).stride = (famAt j).base + m * (famAt j).stride := by omega
  have el : (famAt i).lo = (famAt j).lo := by omega
  have r1 := Fam.root_eq ((rooted_all ⟨i, hi'⟩).resolve_left hi5) hn
  have r2 := Fam.root_eq ((rooted_all ⟨j, hj'⟩).resolve_left hj5) hm
  have eb : (famAt i).base = (famAt j).base := by
    rw [← r1, ← r2]
    exact congrArg root ea
  have ep : place i = place j := by
    have hs : Nat.blt i 29 = Nat.blt j 29 := by
      rcases (header_apart ⟨i, hi'⟩).resolve_left hi5 with h1 | h1 <;> rcases (header_apart ⟨j, hj'⟩).resolve_left hj5 with h2 | h2
      · exact h1.1.trans h2.1.symm
      · have a1 : (famAt i).base < 0x40 := h1.2.1
        have a2 : (famAt i).base ≠ 8 := h1.2.2
        have a3 : 0x40 ≤ (famAt j).base ∨ (famAt j).base = 8 := h2.2
        omega
      · have a1 : (famAt j).base < 0x40 := h2.2.1
        have a2 : (famAt j).base ≠ 8 := h2.2.2
        have a3 : 0x40 ≤ (famAt i).base ∨ (famAt i).base = 8 := h1.2
        omega
      · exact h1.1.trans h2.1.symm
    unfold place; rw [hs, eb, el]
  rcases Nat.lt_trichotomy i j with h | h | h
  · have := place_lt h hj'; omega
  · exact h
  · have := place_lt h hi'; omega

end Sys2Proof.Machine
end

