-- ==== Sys2Proof/Laws/Within.lean ====
section
/-! SUPPORT. What an operation leaves alone: Within m s t says that t differs from s at most in what the mask m names (bits 0 to
25 the components of State in its order, bit 31 every register field, bit 32 + i family i of Fams.lean), that the queue and the member
are the same, and that the canonical form is kept. One rule per way of building a state. -/

set_option Elab.async false

namespace Sys2Proof.Machine

/-- `t` differs from `s` at most in what `m` names. -/
structure Within (m : Nat) (s t : State) : Prop where
  inv : Inv s → Inv t
  member : t.member = s.member
  pending : t.pending = s.pending
  regs : ∀ d k, ¬ InRegs m k → mapFind d k t.regs = mapFind d k s.regs
  mem : ∀ d k, ¬ InMem m k → mapFind d k t.mem = mapFind d k s.mem
  tick : m.testBit 0 = false → t.tick = s.tick
  fixed : m.testBit 1 = false → t.fixed = s.fixed
  stage : m.testBit 2 = false → t.stage = s.stage
  inds : m.testBit 3 = false → t.inds = s.inds
  deferred : m.testBit 4 = false → t.deferred = s.deferred
  rdata : m.testBit 6 = false → t.rdata = s.rdata
  scrubLog : m.testBit 7 = false → t.scrubLog = s.scrubLog
  freeCtr : m.testBit 8 = false → t.freeCtr = s.freeCtr
  pwr : m.testBit 9 = false → t.pwr = s.pwr
  axes : m.testBit 10 = false → t.axes = s.axes
  gal : m.testBit 11 = false → t.gal = s.gal
  saf : m.testBit 12 = false → t.saf = s.saf
  doors : m.testBit 13 = false → t.doors = s.doors
  voteBad : m.testBit 14 = false → t.voteBad = s.voteBad
  fq0 : m.testBit 15 = false → t.fq0 = s.fq0
  heads : m.testBit 16 = false → t.heads = s.heads
  ingest : m.testBit 17 = false → t.ingest = s.ingest
  drip : m.testBit 18 = false → t.drip = s.drip
  flow : m.testBit 19 = false → t.flow = s.flow
  fio : m.testBit 20 = false → t.fio = s.fio
  cans : m.testBit 21 = false → t.cans = s.cans
  nets : m.testBit 22 = false → t.nets = s.nets
  echo : m.testBit 23 = false → t.echo = s.echo
  dst : m.testBit 24 = false → t.dst = s.dst
  svc : m.testBit 25 = false → t.svc = s.svc

/-- The same of the state a write answers. -/
def WithinP {β : Type} (m : Nat) (s : State) (p : State × β) : Prop := Within m s p.1

/-- A command answers a next state, and that is within the mask. -/
def WithinO (m : Nat) (s : State) (o : Out State) : Prop := ∃ t, o = .next t ∧ Within m s t

variable {M m i : Nat} {s0 s t : State}

theorem Within.refl (m : Nat) (s : State) : Within m s s where
  inv := id
  member := rfl
  pending := rfl
  regs _ _ _ := rfl
  mem _ _ _ := rfl
  tick _ := rfl
  fixed _ := rfl
  stage _ := rfl
  inds _ := rfl
  deferred _ := rfl
  rdata _ := rfl
  scrubLog _ := rfl
  freeCtr _ := rfl
  pwr _ := rfl
  axes _ := rfl
  gal _ := rfl
  saf _ := rfl
  doors _ := rfl
  voteBad _ := rfl
  fq0 _ := rfl
  heads _ := rfl
  ingest _ := rfl
  drip _ := rfl
  flow _ := rfl
  fio _ := rfl
  cans _ := rfl
  nets _ := rfl
  echo _ := rfl
  dst _ := rfl
  svc _ := rfl

theorem Within.step (h : Within M s0 s) (h' : Within m s t) (hm : sub m M = true) : Within M s0 t where
  inv hi := h'.inv (h.inv hi)
  member := h'.member.trans h.member
  pending := h'.pending.trans h.pending
  regs d k hk := (h'.regs d k fun hc => hk (hc.mono hm)).trans (h.regs d k hk)
  mem d k hk := (h'.mem d k fun hc => hk (hc.mono hm)).trans (h.mem d k hk)
  tick hb := (h'.tick (sub_testBit_false hm hb)).trans (h.tick hb)
  fixed hb := (h'.fixed (sub_testBit_false hm hb)).trans (h.fixed hb)
  stage hb := (h'.stage (sub_testBit_false hm hb)).trans (h.stage hb)
  inds hb := (h'.inds (sub_testBit_false hm hb)).trans (h.inds hb)
  deferred hb := (h'.deferred (sub_testBit_false hm hb)).trans (h.deferred hb)
  rdata hb := (h'.rdata (sub_testBit_false hm hb)).trans (h.rdata hb)
  scrubLog hb := (h'.scrubLog (sub_testBit_false hm hb)).trans (h.scrubLog hb)
  freeCtr hb := (h'.freeCtr (sub_testBit_false hm hb)).trans (h.freeCtr hb)
  pwr hb := (h'.pwr (sub_testBit_false hm hb)).trans (h.pwr hb)
  axes hb := (h'.axes (sub_testBit_false hm hb)).trans (h.axes hb)
  gal hb := (h'.gal (sub_testBit_false hm hb)).trans (h.gal hb)
  saf hb := (h'.saf (sub_testBit_false hm hb)).trans (h.saf hb)
  doors hb := (h'.doors (sub_testBit_false hm hb)).trans (h.doors hb)
  voteBad hb := (h'.voteBad (sub_testBit_false hm hb)).trans (h.voteBad hb)
  fq0 hb := (h'.fq0 (sub_testBit_false hm hb)).trans (h.fq0 hb)
  heads hb := (h'.heads (sub_testBit_false hm hb)).trans (h.heads hb)
  ingest hb := (h'.ingest (sub_testBit_false hm hb)).trans (h.ingest hb)
  drip hb := (h'.drip (sub_testBit_false hm hb)).trans (h.drip hb)
  flow hb := (h'.flow (sub_testBit_false hm hb)).trans (h.flow hb)
  fio hb := (h'.fio (sub_testBit_false hm hb)).trans (h.fio hb)
  cans hb := (h'.cans (sub_testBit_false hm hb)).trans (h.cans hb)
  nets hb := (h'.nets (sub_testBit_false hm hb)).trans (h.nets hb)
  echo hb := (h'.echo (sub_testBit_false hm hb)).trans (h.echo hb)
  dst hb := (h'.dst (sub_testBit_false hm hb)).trans (h.dst hb)
  svc hb := (h'.svc (sub_testBit_false hm hb)).trans (h.svc hb)

theorem Within.stepP {β : Type} {p : State × β} (h : Within M s0 s) (h' : WithinP m s p) (hm : sub m M = true) :
    WithinP M s0 p := Within.step h h' hm

theorem Within.stepO {o : Out State} (h : Within M s0 s) (h' : WithinO m s o) (hm : sub m M = true) : WithinO M s0 o :=
  let ⟨t, e, w⟩ := h'
  ⟨t, e, h.step w hm⟩

theorem Within.mono (h : Within m s t) (hm : sub m M = true) : Within M s t := (Within.refl M s).step h hm

theorem sub_refl (m : Nat) : sub m m = true := decide_eq_true (Nat.and_self m)

theorem sub_trans {a b c : Nat} (h : sub a b = true) (h' : sub b c = true) : sub a c = true := by
  have h1 : a &&& b = a := of_decide_eq_true h
  have h2 : b &&& c = b := of_decide_eq_true h'
  exact decide_eq_true (by rw [← h1, Nat.and_assoc, h2])

/-- One field within a set of fields. -/
theorem Within.setIn (h : Within M s0 s) {r : Reg} {v : Nat} (hr : InRegs m r.key) (hm : sub m M = true) :
    Within M s0 (s.set r v) where
  inv hi := (h.inv hi).set r v
  member := h.member
  pending := h.pending
  regs d k hk := (mapFind_put_other _ _ (fun e => hk (by rw [← e]; exact hr.mono hm)) _ _).trans (h.regs d k hk)
  mem d k hk := h.mem d k hk
  tick hb := h.tick hb
  fixed hb := h.fixed hb
  stage hb := h.stage hb
  inds hb := h.inds hb
  deferred hb := h.deferred hb
  rdata hb := h.rdata hb
  scrubLog hb := h.scrubLog hb
  freeCtr hb := h.freeCtr hb
  pwr hb := h.pwr hb
  axes hb := h.axes hb
  gal hb := h.gal hb
  saf hb := h.saf hb
  doors hb := h.doors hb
  voteBad hb := h.voteBad hb
  fq0 hb := h.fq0 hb
  heads hb := h.heads hb
  ingest hb := h.ingest hb
  drip hb := h.drip hb
  flow hb := h.flow hb
  fio hb := h.fio hb
  cans hb := h.cans hb
  nets hb := h.nets hb
  echo hb := h.echo hb
  dst hb := h.dst hb
  svc hb := h.svc hb

theorem Within.set (h : Within M s0 s) {r : Reg} {v : Nat} (hr : (famAt i).has r.key) (hm : M.testBit (32 + i) = true) :
    Within M s0 (s.set r v) :=
  h.setIn (m := M) (.inr ⟨i, hm, hr⟩) (sub_refl M)

theorem Within.setB (h : Within M s0 s) {r : Reg} {b : Bool} (hr : (famAt i).has r.key) (hm : M.testBit (32 + i) = true) :
    Within M s0 (s.setB r b) := h.set hr hm

theorem Within.setBIn (h : Within M s0 s) {r : Reg} {b : Bool} (hr : InRegs m r.key) (hm : sub m M = true) :
    Within M s0 (s.setB r b) := h.setIn hr hm

theorem Within.setS (h : Within M s0 s) {r : Reg} {x : Int} (hr : (famAt i).has r.key) (hm : M.testBit (32 + i) = true) :
    Within M s0 (s.setS r x) := h.set hr hm

theorem Within.setSIn (h : Within M s0 s) {r : Reg} {x : Int} (hr : InRegs m r.key) (hm : sub m M = true) :
    Within M s0 (s.setS r x) := h.setIn hr hm

theorem Within.setSat (h : Within M s0 s) {r : Reg} {v : Nat} (hr : (famAt i).has r.key) (hm : M.testBit (32 + i) = true) :
    Within M s0 (s.setSat r v) := h.set hr hm

theorem Within.setSatIn (h : Within M s0 s) {r : Reg} {v : Nat} (hr : InRegs m r.key) (hm : sub m M = true) :
    Within M s0 (s.setSat r v) := h.setIn hr hm

theorem Within.setBit (h : Within M s0 s) {r : Reg} {n : Nat} {b : Bool} (hr : (famAt i).has r.key) (hm : M.testBit (32 + i) = true) :
    Within M s0 (s.setBit r n b) := h.set hr hm

theorem Within.setBitIn (h : Within M s0 s) {r : Reg} {n : Nat} {b : Bool} (hr : InRegs m r.key) (hm : sub m M = true) :
    Within M s0 (s.setBit r n b) := h.setIn hr hm

theorem Within.countBy (h : Within M s0 s) {r : Reg} {k : Nat} (hr : (famAt i).has r.key) (hm : M.testBit (32 + i) = true) :
    Within M s0 (s.countBy r k) := h.set hr hm

theorem Within.countByIn (h : Within M s0 s) {r : Reg} {k : Nat} (hr : InRegs m r.key) (hm : sub m M = true) :
    Within M s0 (s.countBy r k) := h.setIn hr hm

theorem Within.count (h : Within M s0 s) {r : Reg}  (hr : (famAt i).has r.key) (hm : M.testBit (32 + i) = true) :
    Within M s0 (s.count r) := h.set hr hm

theorem Within.countIn (h : Within M s0 s) {r : Reg}  (hr : InRegs m r.key) (hm : sub m M = true) :
    Within M s0 (s.count r) := h.setIn hr hm

theorem Within.set64 (h : Within M s0 s) {hi lo : Reg} {x : Int} {j : Nat} (hr : (famAt i).has hi.key)
    (hm : M.testBit (32 + i) = true) (hr' : (famAt j).has lo.key) (hm' : M.testBit (32 + j) = true) :
    Within M s0 (s.set64 hi lo x) := (h.set hr hm).set hr' hm'

theorem Within.countFault (h : Within M s0 s) {r : Reg} {pg : Nat} (hr : (famAt i).has r.key)
    (hm : M.testBit (32 + i) = true) (hf : M.testBit (32 + 15) = true) :
    Within M s0 (s.countFault pg r) := (h.count hr hm).count (key_HDR_PG_FAULT_CNT pg) hf

theorem Within.countDrop (h : Within M s0 s) {r : Reg} {pg : Nat} (hr : (famAt i).has r.key)
    (hm : M.testBit (32 + i) = true) (hf : M.testBit (32 + 16) = true) :
    Within M s0 (s.countDrop pg r) := (h.count hr hm).count (key_HDR_PG_DROP_CNT pg) hf

theorem Within.upd_tick (h : Within M s0 s) {v : Nat} (hm : M.testBit 0 = true) (hv : v < 2 ^ 48) : Within M s0 { s with tick := v } where
  inv hi := ⟨(h.inv hi).1, (h.inv hi).2.1, (h.inv hi).2.2.1, hv⟩
  member := h.member
  pending := h.pending
  regs d k hk := h.regs d k hk
  mem d k hk := h.mem d k hk
  tick hb := absurd hb (by simp [hm])
  fixed hb := h.fixed hb
  stage hb := h.stage hb
  inds hb := h.inds hb
  deferred hb := h.deferred hb
  rdata hb := h.rdata hb
  scrubLog hb := h.scrubLog hb
  freeCtr hb := h.freeCtr hb
  pwr hb := h.pwr hb
  axes hb := h.axes hb
  gal hb := h.gal hb
  saf hb := h.saf hb
  doors hb := h.doors hb
  voteBad hb := h.voteBad hb
  fq0 hb := h.fq0 hb
  heads hb := h.heads hb
  ingest hb := h.ingest hb
  drip hb := h.drip hb
  flow hb := h.flow hb
  fio hb := h.fio hb
  cans hb := h.cans hb
  nets hb := h.nets hb
  echo hb := h.echo hb
  dst hb := h.dst hb
  svc hb := h.svc hb

theorem Within.upd_fixed (h : Within M s0 s) {v : List Nat} (hm : M.testBit 1 = true) : Within M s0 { s with fixed := v } where
  inv hi := h.inv hi
  member := h.member
  pending := h.pending
  regs d k hk := h.regs d k hk
  mem d k hk := h.mem d k hk
  tick hb := h.tick hb
  fixed hb := absurd hb (by simp [hm])
  stage hb := h.stage hb
  inds hb := h.inds hb
  deferred hb := h.deferred hb
  rdata hb := h.rdata hb
  scrubLog hb := h.scrubLog hb
  freeCtr hb := h.freeCtr hb
  pwr hb := h.pwr hb
  axes hb := h.axes hb
  gal hb := h.gal hb
  saf hb := h.saf hb
  doors hb := h.doors hb
  voteBad hb := h.voteBad hb
  fq0 hb := h.fq0 hb
  heads hb := h.heads hb
  ingest hb := h.ingest hb
  drip hb := h.drip hb
  flow hb := h.flow hb
  fio hb := h.fio hb
  cans hb := h.cans hb
  nets hb := h.nets hb
  echo hb := h.echo hb
  dst hb := h.dst hb
  svc hb := h.svc hb

theorem Within.upd_stage (h : Within M s0 s) {v : List (Nat × Option Nat)} (hm : M.testBit 2 = true) : Within M s0 { s with stage := v } where
  inv hi := h.inv hi
  member := h.member
  pending := h.pending
  regs d k hk := h.regs d k hk
  mem d k hk := h.mem d k hk
  tick hb := h.tick hb
  fixed hb := h.fixed hb
  stage hb := absurd hb (by simp [hm])
  inds hb := h.inds hb
  deferred hb := h.deferred hb
  rdata hb := h.rdata hb
  scrubLog hb := h.scrubLog hb
  freeCtr hb := h.freeCtr hb
  pwr hb := h.pwr hb
  axes hb := h.axes hb
  gal hb := h.gal hb
  saf hb := h.saf hb
  doors hb := h.doors hb
  voteBad hb := h.voteBad hb
  fq0 hb := h.fq0 hb
  heads hb := h.heads hb
  ingest hb := h.ingest hb
  drip hb := h.drip hb
  flow hb := h.flow hb
  fio hb := h.fio hb
  cans hb := h.cans hb
  nets hb := h.nets hb
  echo hb := h.echo hb
  dst hb := h.dst hb
  svc hb := h.svc hb

theorem Within.upd_inds (h : Within M s0 s) {v : List (Nat × IndPair)} (hm : M.testBit 3 = true) : Within M s0 { s with inds := v } where
  inv hi := h.inv hi
  member := h.member
  pending := h.pending
  regs d k hk := h.regs d k hk
  mem d k hk := h.mem d k hk
  tick hb := h.tick hb
  fixed hb := h.fixed hb
  stage hb := h.stage hb
  inds hb := absurd hb (by simp [hm])
  deferred hb := h.deferred hb
  rdata hb := h.rdata hb
  scrubLog hb := h.scrubLog hb
  freeCtr hb := h.freeCtr hb
  pwr hb := h.pwr hb
  axes hb := h.axes hb
  gal hb := h.gal hb
  saf hb := h.saf hb
  doors hb := h.doors hb
  voteBad hb := h.voteBad hb
  fq0 hb := h.fq0 hb
  heads hb := h.heads hb
  ingest hb := h.ingest hb
  drip hb := h.drip hb
  flow hb := h.flow hb
  fio hb := h.fio hb
  cans hb := h.cans hb
  nets hb := h.nets hb
  echo hb := h.echo hb
  dst hb := h.dst hb
  svc hb := h.svc hb

theorem Within.upd_deferred (h : Within M s0 s) {v : List Stored} (hm : M.testBit 4 = true) : Within M s0 { s with deferred := v } where
  inv hi := h.inv hi
  member := h.member
  pending := h.pending
  regs d k hk := h.regs d k hk
  mem d k hk := h.mem d k hk
  tick hb := h.tick hb
  fixed hb := h.fixed hb
  stage hb := h.stage hb
  inds hb := h.inds hb
  deferred hb := absurd hb (by simp [hm])
  rdata hb := h.rdata hb
  scrubLog hb := h.scrubLog hb
  freeCtr hb := h.freeCtr hb
  pwr hb := h.pwr hb
  axes hb := h.axes hb
  gal hb := h.gal hb
  saf hb := h.saf hb
  doors hb := h.doors hb
  voteBad hb := h.voteBad hb
  fq0 hb := h.fq0 hb
  heads hb := h.heads hb
  ingest hb := h.ingest hb
  drip hb := h.drip hb
  flow hb := h.flow hb
  fio hb := h.fio hb
  cans hb := h.cans hb
  nets hb := h.nets hb
  echo hb := h.echo hb
  dst hb := h.dst hb
  svc hb := h.svc hb

theorem Within.upd_rdata (h : Within M s0 s) {v : Word} (hm : M.testBit 6 = true) : Within M s0 { s with rdata := v } where
  inv hi := h.inv hi
  member := h.member
  pending := h.pending
  regs d k hk := h.regs d k hk
  mem d k hk := h.mem d k hk
  tick hb := h.tick hb
  fixed hb := h.fixed hb
  stage hb := h.stage hb
  inds hb := h.inds hb
  deferred hb := h.deferred hb
  rdata hb := absurd hb (by simp [hm])
  scrubLog hb := h.scrubLog hb
  freeCtr hb := h.freeCtr hb
  pwr hb := h.pwr hb
  axes hb := h.axes hb
  gal hb := h.gal hb
  saf hb := h.saf hb
  doors hb := h.doors hb
  voteBad hb := h.voteBad hb
  fq0 hb := h.fq0 hb
  heads hb := h.heads hb
  ingest hb := h.ingest hb
  drip hb := h.drip hb
  flow hb := h.flow hb
  fio hb := h.fio hb
  cans hb := h.cans hb
  nets hb := h.nets hb
  echo hb := h.echo hb
  dst hb := h.dst hb
  svc hb := h.svc hb

theorem Within.upd_scrubLog (h : Within M s0 s) {v : List (Nat × Nat)} (hm : M.testBit 7 = true) : Within M s0 { s with scrubLog := v } where
  inv hi := h.inv hi
  member := h.member
  pending := h.pending
  regs d k hk := h.regs d k hk
  mem d k hk := h.mem d k hk
  tick hb := h.tick hb
  fixed hb := h.fixed hb
  stage hb := h.stage hb
  inds hb := h.inds hb
  deferred hb := h.deferred hb
  rdata hb := h.rdata hb
  scrubLog hb := absurd hb (by simp [hm])
  freeCtr hb := h.freeCtr hb
  pwr hb := h.pwr hb
  axes hb := h.axes hb
  gal hb := h.gal hb
  saf hb := h.saf hb
  doors hb := h.doors hb
  voteBad hb := h.voteBad hb
  fq0 hb := h.fq0 hb
  heads hb := h.heads hb
  ingest hb := h.ingest hb
  drip hb := h.drip hb
  flow hb := h.flow hb
  fio hb := h.fio hb
  cans hb := h.cans hb
  nets hb := h.nets hb
  echo hb := h.echo hb
  dst hb := h.dst hb
  svc hb := h.svc hb

theorem Within.upd_freeCtr (h : Within M s0 s) {v : Nat} (hm : M.testBit 8 = true) : Within M s0 { s with freeCtr := v } where
  inv hi := h.inv hi
  member := h.member
  pending := h.pending
  regs d k hk := h.regs d k hk
  mem d k hk := h.mem d k hk
  tick hb := h.tick hb
  fixed hb := h.fixed hb
  stage hb := h.stage hb
  inds hb := h.inds hb
  deferred hb := h.deferred hb
  rdata hb := h.rdata hb
  scrubLog hb := h.scrubLog hb
  freeCtr hb := absurd hb (by simp [hm])
  pwr hb := h.pwr hb
  axes hb := h.axes hb
  gal hb := h.gal hb
  saf hb := h.saf hb
  doors hb := h.doors hb
  voteBad hb := h.voteBad hb
  fq0 hb := h.fq0 hb
  heads hb := h.heads hb
  ingest hb := h.ingest hb
  drip hb := h.drip hb
  flow hb := h.flow hb
  fio hb := h.fio hb
  cans hb := h.cans hb
  nets hb := h.nets hb
  echo hb := h.echo hb
  dst hb := h.dst hb
  svc hb := h.svc hb

theorem Within.upd_pwr (h : Within M s0 s) {v : Power} (hm : M.testBit 9 = true) : Within M s0 { s with pwr := v } where
  inv hi := h.inv hi
  member := h.member
  pending := h.pending
  regs d k hk := h.regs d k hk
  mem d k hk := h.mem d k hk
  tick hb := h.tick hb
  fixed hb := h.fixed hb
  stage hb := h.stage hb
  inds hb := h.inds hb
  deferred hb := h.deferred hb
  rdata hb := h.rdata hb
  scrubLog hb := h.scrubLog hb
  freeCtr hb := h.freeCtr hb
  pwr hb := absurd hb (by simp [hm])
  axes hb := h.axes hb
  gal hb := h.gal hb
  saf hb := h.saf hb
  doors hb := h.doors hb
  voteBad hb := h.voteBad hb
  fq0 hb := h.fq0 hb
  heads hb := h.heads hb
  ingest hb := h.ingest hb
  drip hb := h.drip hb
  flow hb := h.flow hb
  fio hb := h.fio hb
  cans hb := h.cans hb
  nets hb := h.nets hb
  echo hb := h.echo hb
  dst hb := h.dst hb
  svc hb := h.svc hb

theorem Within.upd_axes (h : Within M s0 s) {v : List (Nat × Axis)} (hm : M.testBit 10 = true) : Within M s0 { s with axes := v } where
  inv hi := h.inv hi
  member := h.member
  pending := h.pending
  regs d k hk := h.regs d k hk
  mem d k hk := h.mem d k hk
  tick hb := h.tick hb
  fixed hb := h.fixed hb
  stage hb := h.stage hb
  inds hb := h.inds hb
  deferred hb := h.deferred hb
  rdata hb := h.rdata hb
  scrubLog hb := h.scrubLog hb
  freeCtr hb := h.freeCtr hb
  pwr hb := h.pwr hb
  axes hb := absurd hb (by simp [hm])
  gal hb := h.gal hb
  saf hb := h.saf hb
  doors hb := h.doors hb
  voteBad hb := h.voteBad hb
  fq0 hb := h.fq0 hb
  heads hb := h.heads hb
  ingest hb := h.ingest hb
  drip hb := h.drip hb
  flow hb := h.flow hb
  fio hb := h.fio hb
  cans hb := h.cans hb
  nets hb := h.nets hb
  echo hb := h.echo hb
  dst hb := h.dst hb
  svc hb := h.svc hb

theorem Within.upd_gal (h : Within M s0 s) {v : Gallery} (hm : M.testBit 11 = true) : Within M s0 { s with gal := v } where
  inv hi := h.inv hi
  member := h.member
  pending := h.pending
  regs d k hk := h.regs d k hk
  mem d k hk := h.mem d k hk
  tick hb := h.tick hb
  fixed hb := h.fixed hb
  stage hb := h.stage hb
  inds hb := h.inds hb
  deferred hb := h.deferred hb
  rdata hb := h.rdata hb
  scrubLog hb := h.scrubLog hb
  freeCtr hb := h.freeCtr hb
  pwr hb := h.pwr hb
  axes hb := h.axes hb
  gal hb := absurd hb (by simp [hm])
  saf hb := h.saf hb
  doors hb := h.doors hb
  voteBad hb := h.voteBad hb
  fq0 hb := h.fq0 hb
  heads hb := h.heads hb
  ingest hb := h.ingest hb
  drip hb := h.drip hb
  flow hb := h.flow hb
  fio hb := h.fio hb
  cans hb := h.cans hb
  nets hb := h.nets hb
  echo hb := h.echo hb
  dst hb := h.dst hb
  svc hb := h.svc hb

theorem Within.upd_saf (h : Within M s0 s) {v : Safety} (hm : M.testBit 12 = true) : Within M s0 { s with saf := v } where
  inv hi := h.inv hi
  member := h.member
  pending := h.pending
  regs d k hk := h.regs d k hk
  mem d k hk := h.mem d k hk
  tick hb := h.tick hb
  fixed hb := h.fixed hb
  stage hb := h.stage hb
  inds hb := h.inds hb
  deferred hb := h.deferred hb
  rdata hb := h.rdata hb
  scrubLog hb := h.scrubLog hb
  freeCtr hb := h.freeCtr hb
  pwr hb := h.pwr hb
  axes hb := h.axes hb
  gal hb := h.gal hb
  saf hb := absurd hb (by simp [hm])
  doors hb := h.doors hb
  voteBad hb := h.voteBad hb
  fq0 hb := h.fq0 hb
  heads hb := h.heads hb
  ingest hb := h.ingest hb
  drip hb := h.drip hb
  flow hb := h.flow hb
  fio hb := h.fio hb
  cans hb := h.cans hb
  nets hb := h.nets hb
  echo hb := h.echo hb
  dst hb := h.dst hb
  svc hb := h.svc hb

theorem Within.upd_doors (h : Within M s0 s) {v : List (Nat × Doorway)} (hm : M.testBit 13 = true) : Within M s0 { s with doors := v } where
  inv hi := h.inv hi
  member := h.member
  pending := h.pending
  regs d k hk := h.regs d k hk
  mem d k hk := h.mem d k hk
  tick hb := h.tick hb
  fixed hb := h.fixed hb
  stage hb := h.stage hb
  inds hb := h.inds hb
  deferred hb := h.deferred hb
  rdata hb := h.rdata hb
  scrubLog hb := h.scrubLog hb
  freeCtr hb := h.freeCtr hb
  pwr hb := h.pwr hb
  axes hb := h.axes hb
  gal hb := h.gal hb
  saf hb := h.saf hb
  doors hb := absurd hb (by simp [hm])
  voteBad hb := h.voteBad hb
  fq0 hb := h.fq0 hb
  heads hb := h.heads hb
  ingest hb := h.ingest hb
  drip hb := h.drip hb
  flow hb := h.flow hb
  fio hb := h.fio hb
  cans hb := h.cans hb
  nets hb := h.nets hb
  echo hb := h.echo hb
  dst hb := h.dst hb
  svc hb := h.svc hb

theorem Within.upd_voteBad (h : Within M s0 s) {v : Nat} (hm : M.testBit 14 = true) : Within M s0 { s with voteBad := v } where
  inv hi := h.inv hi
  member := h.member
  pending := h.pending
  regs d k hk := h.regs d k hk
  mem d k hk := h.mem d k hk
  tick hb := h.tick hb
  fixed hb := h.fixed hb
  stage hb := h.stage hb
  inds hb := h.inds hb
  deferred hb := h.deferred hb
  rdata hb := h.rdata hb
  scrubLog hb := h.scrubLog hb
  freeCtr hb := h.freeCtr hb
  pwr hb := h.pwr hb
  axes hb := h.axes hb
  gal hb := h.gal hb
  saf hb := h.saf hb
  doors hb := h.doors hb
  voteBad hb := absurd hb (by simp [hm])
  fq0 hb := h.fq0 hb
  heads hb := h.heads hb
  ingest hb := h.ingest hb
  drip hb := h.drip hb
  flow hb := h.flow hb
  fio hb := h.fio hb
  cans hb := h.cans hb
  nets hb := h.nets hb
  echo hb := h.echo hb
  dst hb := h.dst hb
  svc hb := h.svc hb

theorem Within.upd_fq0 (h : Within M s0 s) {v : List EventReq} (hm : M.testBit 15 = true) (hv : v.length ≤ fq0Depth ∨ v.length ≤ s.fq0.length) : Within M s0 { s with fq0 := v } where
  inv hi := ⟨(h.inv hi).1, (h.inv hi).2.1, hv.elim id (fun hl => Nat.le_trans hl (h.inv hi).2.2.1), (h.inv hi).2.2.2⟩
  member := h.member
  pending := h.pending
  regs d k hk := h.regs d k hk
  mem d k hk := h.mem d k hk
  tick hb := h.tick hb
  fixed hb := h.fixed hb
  stage hb := h.stage hb
  inds hb := h.inds hb
  deferred hb := h.deferred hb
  rdata hb := h.rdata hb
  scrubLog hb := h.scrubLog hb
  freeCtr hb := h.freeCtr hb
  pwr hb := h.pwr hb
  axes hb := h.axes hb
  gal hb := h.gal hb
  saf hb := h.saf hb
  doors hb := h.doors hb
  voteBad hb := h.voteBad hb
  fq0 hb := absurd hb (by simp [hm])
  heads hb := h.heads hb
  ingest hb := h.ingest hb
  drip hb := h.drip hb
  flow hb := h.flow hb
  fio hb := h.fio hb
  cans hb := h.cans hb
  nets hb := h.nets hb
  echo hb := h.echo hb
  dst hb := h.dst hb
  svc hb := h.svc hb

theorem Within.upd_heads (h : Within M s0 s) {v : List (Nat × Head)} (hm : M.testBit 16 = true) : Within M s0 { s with heads := v } where
  inv hi := h.inv hi
  member := h.member
  pending := h.pending
  regs d k hk := h.regs d k hk
  mem d k hk := h.mem d k hk
  tick hb := h.tick hb
  fixed hb := h.fixed hb
  stage hb := h.stage hb
  inds hb := h.inds hb
  deferred hb := h.deferred hb
  rdata hb := h.rdata hb
  scrubLog hb := h.scrubLog hb
  freeCtr hb := h.freeCtr hb
  pwr hb := h.pwr hb
  axes hb := h.axes hb
  gal hb := h.gal hb
  saf hb := h.saf hb
  doors hb := h.doors hb
  voteBad hb := h.voteBad hb
  fq0 hb := h.fq0 hb
  heads hb := absurd hb (by simp [hm])
  ingest hb := h.ingest hb
  drip hb := h.drip hb
  flow hb := h.flow hb
  fio hb := h.fio hb
  cans hb := h.cans hb
  nets hb := h.nets hb
  echo hb := h.echo hb
  dst hb := h.dst hb
  svc hb := h.svc hb

theorem Within.upd_ingest (h : Within M s0 s) {v : List (Nat × Nat)} (hm : M.testBit 17 = true) : Within M s0 { s with ingest := v } where
  inv hi := h.inv hi
  member := h.member
  pending := h.pending
  regs d k hk := h.regs d k hk
  mem d k hk := h.mem d k hk
  tick hb := h.tick hb
  fixed hb := h.fixed hb
  stage hb := h.stage hb
  inds hb := h.inds hb
  deferred hb := h.deferred hb
  rdata hb := h.rdata hb
  scrubLog hb := h.scrubLog hb
  freeCtr hb := h.freeCtr hb
  pwr hb := h.pwr hb
  axes hb := h.axes hb
  gal hb := h.gal hb
  saf hb := h.saf hb
  doors hb := h.doors hb
  voteBad hb := h.voteBad hb
  fq0 hb := h.fq0 hb
  heads hb := h.heads hb
  ingest hb := absurd hb (by simp [hm])
  drip hb := h.drip hb
  flow hb := h.flow hb
  fio hb := h.fio hb
  cans hb := h.cans hb
  nets hb := h.nets hb
  echo hb := h.echo hb
  dst hb := h.dst hb
  svc hb := h.svc hb

theorem Within.upd_drip (h : Within M s0 s) {v : Drip} (hm : M.testBit 18 = true) : Within M s0 { s with drip := v } where
  inv hi := h.inv hi
  member := h.member
  pending := h.pending
  regs d k hk := h.regs d k hk
  mem d k hk := h.mem d k hk
  tick hb := h.tick hb
  fixed hb := h.fixed hb
  stage hb := h.stage hb
  inds hb := h.inds hb
  deferred hb := h.deferred hb
  rdata hb := h.rdata hb
  scrubLog hb := h.scrubLog hb
  freeCtr hb := h.freeCtr hb
  pwr hb := h.pwr hb
  axes hb := h.axes hb
  gal hb := h.gal hb
  saf hb := h.saf hb
  doors hb := h.doors hb
  voteBad hb := h.voteBad hb
  fq0 hb := h.fq0 hb
  heads hb := h.heads hb
  ingest hb := h.ingest hb
  drip hb := absurd hb (by simp [hm])
  flow hb := h.flow hb
  fio hb := h.fio hb
  cans hb := h.cans hb
  nets hb := h.nets hb
  echo hb := h.echo hb
  dst hb := h.dst hb
  svc hb := h.svc hb

theorem Within.upd_flow (h : Within M s0 s) {v : Flow} (hm : M.testBit 19 = true) : Within M s0 { s with flow := v } where
  inv hi := h.inv hi
  member := h.member
  pending := h.pending
  regs d k hk := h.regs d k hk
  mem d k hk := h.mem d k hk
  tick hb := h.tick hb
  fixed hb := h.fixed hb
  stage hb := h.stage hb
  inds hb := h.inds hb
  deferred hb := h.deferred hb
  rdata hb := h.rdata hb
  scrubLog hb := h.scrubLog hb
  freeCtr hb := h.freeCtr hb
  pwr hb := h.pwr hb
  axes hb := h.axes hb
  gal hb := h.gal hb
  saf hb := h.saf hb
  doors hb := h.doors hb
  voteBad hb := h.voteBad hb
  fq0 hb := h.fq0 hb
  heads hb := h.heads hb
  ingest hb := h.ingest hb
  drip hb := h.drip hb
  flow hb := absurd hb (by simp [hm])
  fio hb := h.fio hb
  cans hb := h.cans hb
  nets hb := h.nets hb
  echo hb := h.echo hb
  dst hb := h.dst hb
  svc hb := h.svc hb

theorem Within.upd_fio (h : Within M s0 s) {v : Fio} (hm : M.testBit 20 = true) : Within M s0 { s with fio := v } where
  inv hi := h.inv hi
  member := h.member
  pending := h.pending
  regs d k hk := h.regs d k hk
  mem d k hk := h.mem d k hk
  tick hb := h.tick hb
  fixed hb := h.fixed hb
  stage hb := h.stage hb
  inds hb := h.inds hb
  deferred hb := h.deferred hb
  rdata hb := h.rdata hb
  scrubLog hb := h.scrubLog hb
  freeCtr hb := h.freeCtr hb
  pwr hb := h.pwr hb
  axes hb := h.axes hb
  gal hb := h.gal hb
  saf hb := h.saf hb
  doors hb := h.doors hb
  voteBad hb := h.voteBad hb
  fq0 hb := h.fq0 hb
  heads hb := h.heads hb
  ingest hb := h.ingest hb
  drip hb := h.drip hb
  flow hb := h.flow hb
  fio hb := absurd hb (by simp [hm])
  cans hb := h.cans hb
  nets hb := h.nets hb
  echo hb := h.echo hb
  dst hb := h.dst hb
  svc hb := h.svc hb

theorem Within.upd_cans (h : Within M s0 s) {v : List (Nat × CanCtl)} (hm : M.testBit 21 = true) : Within M s0 { s with cans := v } where
  inv hi := h.inv hi
  member := h.member
  pending := h.pending
  regs d k hk := h.regs d k hk
  mem d k hk := h.mem d k hk
  tick hb := h.tick hb
  fixed hb := h.fixed hb
  stage hb := h.stage hb
  inds hb := h.inds hb
  deferred hb := h.deferred hb
  rdata hb := h.rdata hb
  scrubLog hb := h.scrubLog hb
  freeCtr hb := h.freeCtr hb
  pwr hb := h.pwr hb
  axes hb := h.axes hb
  gal hb := h.gal hb
  saf hb := h.saf hb
  doors hb := h.doors hb
  voteBad hb := h.voteBad hb
  fq0 hb := h.fq0 hb
  heads hb := h.heads hb
  ingest hb := h.ingest hb
  drip hb := h.drip hb
  flow hb := h.flow hb
  fio hb := h.fio hb
  cans hb := absurd hb (by simp [hm])
  nets hb := h.nets hb
  echo hb := h.echo hb
  dst hb := h.dst hb
  svc hb := h.svc hb

theorem Within.upd_nets (h : Within M s0 s) {v : Nets} (hm : M.testBit 22 = true) : Within M s0 { s with nets := v } where
  inv hi := h.inv hi
  member := h.member
  pending := h.pending
  regs d k hk := h.regs d k hk
  mem d k hk := h.mem d k hk
  tick hb := h.tick hb
  fixed hb := h.fixed hb
  stage hb := h.stage hb
  inds hb := h.inds hb
  deferred hb := h.deferred hb
  rdata hb := h.rdata hb
  scrubLog hb := h.scrubLog hb
  freeCtr hb := h.freeCtr hb
  pwr hb := h.pwr hb
  axes hb := h.axes hb
  gal hb := h.gal hb
  saf hb := h.saf hb
  doors hb := h.doors hb
  voteBad hb := h.voteBad hb
  fq0 hb := h.fq0 hb
  heads hb := h.heads hb
  ingest hb := h.ingest hb
  drip hb := h.drip hb
  flow hb := h.flow hb
  fio hb := h.fio hb
  cans hb := h.cans hb
  nets hb := absurd hb (by simp [hm])
  echo hb := h.echo hb
  dst hb := h.dst hb
  svc hb := h.svc hb

theorem Within.upd_echo (h : Within M s0 s) {v : Echo} (hm : M.testBit 23 = true) : Within M s0 { s with echo := v } where
  inv hi := h.inv hi
  member := h.member
  pending := h.pending
  regs d k hk := h.regs d k hk
  mem d k hk := h.mem d k hk
  tick hb := h.tick hb
  fixed hb := h.fixed hb
  stage hb := h.stage hb
  inds hb := h.inds hb
  deferred hb := h.deferred hb
  rdata hb := h.rdata hb
  scrubLog hb := h.scrubLog hb
  freeCtr hb := h.freeCtr hb
  pwr hb := h.pwr hb
  axes hb := h.axes hb
  gal hb := h.gal hb
  saf hb := h.saf hb
  doors hb := h.doors hb
  voteBad hb := h.voteBad hb
  fq0 hb := h.fq0 hb
  heads hb := h.heads hb
  ingest hb := h.ingest hb
  drip hb := h.drip hb
  flow hb := h.flow hb
  fio hb := h.fio hb
  cans hb := h.cans hb
  nets hb := h.nets hb
  echo hb := absurd hb (by simp [hm])
  dst hb := h.dst hb
  svc hb := h.svc hb

theorem Within.upd_dst (h : Within M s0 s) {v : Telegrams} (hm : M.testBit 24 = true) : Within M s0 { s with dst := v } where
  inv hi := h.inv hi
  member := h.member
  pending := h.pending
  regs d k hk := h.regs d k hk
  mem d k hk := h.mem d k hk
  tick hb := h.tick hb
  fixed hb := h.fixed hb
  stage hb := h.stage hb
  inds hb := h.inds hb
  deferred hb := h.deferred hb
  rdata hb := h.rdata hb
  scrubLog hb := h.scrubLog hb
  freeCtr hb := h.freeCtr hb
  pwr hb := h.pwr hb
  axes hb := h.axes hb
  gal hb := h.gal hb
  saf hb := h.saf hb
  doors hb := h.doors hb
  voteBad hb := h.voteBad hb
  fq0 hb := h.fq0 hb
  heads hb := h.heads hb
  ingest hb := h.ingest hb
  drip hb := h.drip hb
  flow hb := h.flow hb
  fio hb := h.fio hb
  cans hb := h.cans hb
  nets hb := h.nets hb
  echo hb := h.echo hb
  dst hb := absurd hb (by simp [hm])
  svc hb := h.svc hb

theorem Within.upd_svc (h : Within M s0 s) {v : Service} (hm : M.testBit 25 = true) : Within M s0 { s with svc := v } where
  inv hi := h.inv hi
  member := h.member
  pending := h.pending
  regs d k hk := h.regs d k hk
  mem d k hk := h.mem d k hk
  tick hb := h.tick hb
  fixed hb := h.fixed hb
  stage hb := h.stage hb
  inds hb := h.inds hb
  deferred hb := h.deferred hb
  rdata hb := h.rdata hb
  scrubLog hb := h.scrubLog hb
  freeCtr hb := h.freeCtr hb
  pwr hb := h.pwr hb
  axes hb := h.axes hb
  gal hb := h.gal hb
  saf hb := h.saf hb
  doors hb := h.doors hb
  voteBad hb := h.voteBad hb
  fq0 hb := h.fq0 hb
  heads hb := h.heads hb
  ingest hb := h.ingest hb
  drip hb := h.drip hb
  flow hb := h.flow hb
  fio hb := h.fio hb
  cans hb := h.cans hb
  nets hb := h.nets hb
  echo hb := h.echo hb
  dst hb := h.dst hb
  svc hb := absurd hb (by simp [hm])

/-- The bytes of one space. -/
theorem memKey_space (pg sp a : Nat) : memKey pg sp a / 2 ^ 32 = pg * 16 + sp := by unfold memKey; omega

theorem mapFind_filter {V : Type} {d : V} {k : Nat} {p : Nat × V → Bool} {l : List (Nat × V)} (h : ∀ e, e.1 = k → p e = true) :
    mapFind d k (l.filter p) = mapFind d k l := by
  induction l with
  | nil => rfl
  | cons e l ih =>
    obtain ⟨i, w⟩ := e
    rw [List.filter_cons]
    by_cases hi : i = k
    · rw [if_pos (h (i, w) hi)]
      simp [mapFind, hi]
    · by_cases hp : p (i, w) = true
      · simp [hp, mapFind, hi, ih]
      · simp [hp, mapFind, hi, ih]

theorem Within.wr8In (h : Within M s0 s) {pg sp a v : Nat} (hm : InMem M (memKey pg sp a)) : Within M s0 (s.wr8 pg sp a v) where
  inv hi := (h.inv hi).wr8 pg sp a v
  mem d k hk := by
    unfold State.wr8
    exact (mapFind_put_other _ _ (fun e => hk (by rw [← e]; exact hm)) _ _).trans (h.mem d k hk)
  member := by rw [State.wr8_member]; exact h.member
  pending := by rw [State.wr8_pending]; exact h.pending
  regs d k hk := by rw [State.wr8_regs]; exact h.regs d k hk
  tick hb := by rw [State.wr8_tick]; exact h.tick hb
  fixed hb := by rw [State.wr8_fixed]; exact h.fixed hb
  stage hb := by rw [State.wr8_stage]; exact h.stage hb
  inds hb := by rw [State.wr8_inds]; exact h.inds hb
  deferred hb := by rw [State.wr8_deferred]; exact h.deferred hb
  rdata hb := by rw [State.wr8_rdata]; exact h.rdata hb
  scrubLog hb := by rw [State.wr8_scrubLog]; exact h.scrubLog hb
  freeCtr hb := by rw [State.wr8_freeCtr]; exact h.freeCtr hb
  pwr hb := by rw [State.wr8_pwr]; exact h.pwr hb
  axes hb := by rw [State.wr8_axes]; exact h.axes hb
  gal hb := by rw [State.wr8_gal]; exact h.gal hb
  saf hb := by rw [State.wr8_saf]; exact h.saf hb
  doors hb := by rw [State.wr8_doors]; exact h.doors hb
  voteBad hb := by rw [State.wr8_voteBad]; exact h.voteBad hb
  fq0 hb := by rw [State.wr8_fq0]; exact h.fq0 hb
  heads hb := by rw [State.wr8_heads]; exact h.heads hb
  ingest hb := by rw [State.wr8_ingest]; exact h.ingest hb
  drip hb := by rw [State.wr8_drip]; exact h.drip hb
  flow hb := by rw [State.wr8_flow]; exact h.flow hb
  fio hb := by rw [State.wr8_fio]; exact h.fio hb
  cans hb := by rw [State.wr8_cans]; exact h.cans hb
  nets hb := by rw [State.wr8_nets]; exact h.nets hb
  echo hb := by rw [State.wr8_echo]; exact h.echo hb
  dst hb := by rw [State.wr8_dst]; exact h.dst hb
  svc hb := by rw [State.wr8_svc]; exact h.svc hb

theorem Within.wipeSpaceIn (h : Within M s0 s) {pg sp : Nat} (hm : ∀ k, k / 2 ^ 32 = pg * 16 + sp → InMem M k) : Within M s0 (s.wipeSpace pg sp) where
  inv hi := by unfold State.wipeSpace; exact (h.inv hi).memFilter _
  mem d k hk := by
    unfold State.wipeSpace
    refine (mapFind_filter fun e he => ?_).trans (h.mem d k hk)
    have : ¬ k / 2 ^ 32 = pg * 16 + sp := fun e => hk (hm k e)
    subst he
    simp only [bne_iff_ne, ne_eq, this, decide_false, Bool.false_and, Bool.not_false, not_false_eq_true]
  member := by rw [State.wipeSpace_member]; exact h.member
  pending := by rw [State.wipeSpace_pending]; exact h.pending
  regs d k hk := by rw [State.wipeSpace_regs]; exact h.regs d k hk
  tick hb := by rw [State.wipeSpace_tick]; exact h.tick hb
  fixed hb := by rw [State.wipeSpace_fixed]; exact h.fixed hb
  stage hb := by rw [State.wipeSpace_stage]; exact h.stage hb
  inds hb := by rw [State.wipeSpace_inds]; exact h.inds hb
  deferred hb := by rw [State.wipeSpace_deferred]; exact h.deferred hb
  rdata hb := by rw [State.wipeSpace_rdata]; exact h.rdata hb
  scrubLog hb := by rw [State.wipeSpace_scrubLog]; exact h.scrubLog hb
  freeCtr hb := by rw [State.wipeSpace_freeCtr]; exact h.freeCtr hb
  pwr hb := by rw [State.wipeSpace_pwr]; exact h.pwr hb
  axes hb := by rw [State.wipeSpace_axes]; exact h.axes hb
  gal hb := by rw [State.wipeSpace_gal]; exact h.gal hb
  saf hb := by rw [State.wipeSpace_saf]; exact h.saf hb
  doors hb := by rw [State.wipeSpace_doors]; exact h.doors hb
  voteBad hb := by rw [State.wipeSpace_voteBad]; exact h.voteBad hb
  fq0 hb := by rw [State.wipeSpace_fq0]; exact h.fq0 hb
  heads hb := by rw [State.wipeSpace_heads]; exact h.heads hb
  ingest hb := by rw [State.wipeSpace_ingest]; exact h.ingest hb
  drip hb := by rw [State.wipeSpace_drip]; exact h.drip hb
  flow hb := by rw [State.wipeSpace_flow]; exact h.flow hb
  fio hb := by rw [State.wipeSpace_fio]; exact h.fio hb
  cans hb := by rw [State.wipeSpace_cans]; exact h.cans hb
  nets hb := by rw [State.wipeSpace_nets]; exact h.nets hb
  echo hb := by rw [State.wipeSpace_echo]; exact h.echo hb
  dst hb := by rw [State.wipeSpace_dst]; exact h.dst hb
  svc hb := by rw [State.wipeSpace_svc]; exact h.svc hb

theorem Within.wipeBytesIn (h : Within M s0 s) {pg sp a n : Nat} (hm : ∀ k, k / 2 ^ 32 = pg * 16 + sp → InMem M k) : Within M s0 (s.wipeBytes pg sp a n) where
  inv hi := by unfold State.wipeBytes; exact (h.inv hi).memFilter _
  mem d k hk := by
    unfold State.wipeBytes
    refine (mapFind_filter fun e he => ?_).trans (h.mem d k hk)
    have : ¬ k / 2 ^ 32 = pg * 16 + sp := fun e => hk (hm k e)
    subst he
    simp only [bne_iff_ne, ne_eq, this, decide_false, Bool.false_and, Bool.not_false, not_false_eq_true]
  member := by rw [State.wipeBytes_member]; exact h.member
  pending := by rw [State.wipeBytes_pending]; exact h.pending
  regs d k hk := by rw [State.wipeBytes_regs]; exact h.regs d k hk
  tick hb := by rw [State.wipeBytes_tick]; exact h.tick hb
  fixed hb := by rw [State.wipeBytes_fixed]; exact h.fixed hb
  stage hb := by rw [State.wipeBytes_stage]; exact h.stage hb
  inds hb := by rw [State.wipeBytes_inds]; exact h.inds hb
  deferred hb := by rw [State.wipeBytes_deferred]; exact h.deferred hb
  rdata hb := by rw [State.wipeBytes_rdata]; exact h.rdata hb
  scrubLog hb := by rw [State.wipeBytes_scrubLog]; exact h.scrubLog hb
  freeCtr hb := by rw [State.wipeBytes_freeCtr]; exact h.freeCtr hb
  pwr hb := by rw [State.wipeBytes_pwr]; exact h.pwr hb
  axes hb := by rw [State.wipeBytes_axes]; exact h.axes hb
  gal hb := by rw [State.wipeBytes_gal]; exact h.gal hb
  saf hb := by rw [State.wipeBytes_saf]; exact h.saf hb
  doors hb := by rw [State.wipeBytes_doors]; exact h.doors hb
  voteBad hb := by rw [State.wipeBytes_voteBad]; exact h.voteBad hb
  fq0 hb := by rw [State.wipeBytes_fq0]; exact h.fq0 hb
  heads hb := by rw [State.wipeBytes_heads]; exact h.heads hb
  ingest hb := by rw [State.wipeBytes_ingest]; exact h.ingest hb
  drip hb := by rw [State.wipeBytes_drip]; exact h.drip hb
  flow hb := by rw [State.wipeBytes_flow]; exact h.flow hb
  fio hb := by rw [State.wipeBytes_fio]; exact h.fio hb
  cans hb := by rw [State.wipeBytes_cans]; exact h.cans hb
  nets hb := by rw [State.wipeBytes_nets]; exact h.nets hb
  echo hb := by rw [State.wipeBytes_echo]; exact h.echo hb
  dst hb := by rw [State.wipeBytes_dst]; exact h.dst hb
  svc hb := by rw [State.wipeBytes_svc]; exact h.svc hb

theorem InMem.one {m j pg sp k : Nat} (hk : (memAt j).has (pg * 16 + sp)) (hm : m.testBit (1056 + j) = true) (e : k / 2 ^ 32 = pg * 16 + sp) :
    InMem m k := .inr ⟨j, hm, by rw [e]; exact hk⟩

theorem Within.wr8To {j : Nat} (h : Within M s0 s) {pg sp a v : Nat} (hk : (memAt j).has (pg * 16 + sp)) (hm : M.testBit (1056 + j) = true) :
    Within M s0 (s.wr8 pg sp a v) := h.wr8In (.one hk hm (memKey_space pg sp a))

theorem Within.wr16To {j : Nat} (h : Within M s0 s) {pg sp a v : Nat} (hk : (memAt j).has (pg * 16 + sp)) (hm : M.testBit (1056 + j) = true) :
    Within M s0 (s.wr16 pg sp a v) := (h.wr8To hk hm).wr8To hk hm

theorem Within.wr32To {j : Nat} (h : Within M s0 s) {pg sp a v : Nat} (hk : (memAt j).has (pg * 16 + sp)) (hm : M.testBit (1056 + j) = true) :
    Within M s0 (s.wr32 pg sp a v) := (h.wr16To hk hm).wr16To hk hm

theorem Within.wrBytesTo {j : Nat} (h : Within M s0 s) {pg sp a : Nat} {l : List Nat} (hk : (memAt j).has (pg * 16 + sp))
    (hm : M.testBit (1056 + j) = true) : Within M s0 (s.wrBytes pg sp a l) := by
  induction l generalizing s a with
  | nil => exact h
  | cons b l ih => exact ih (h.wr8To hk hm)

theorem Within.wipeSpaceTo {j : Nat} (h : Within M s0 s) {pg sp : Nat} (hk : (memAt j).has (pg * 16 + sp)) (hm : M.testBit (1056 + j) = true) :
    Within M s0 (s.wipeSpace pg sp) := h.wipeSpaceIn fun _ e => .one hk hm e

theorem Within.wipeBytesTo {j : Nat} (h : Within M s0 s) {pg sp a n : Nat} (hk : (memAt j).has (pg * 16 + sp))
    (hm : M.testBit (1056 + j) = true) : Within M s0 (s.wipeBytes pg sp a n) := h.wipeBytesIn fun _ e => .one hk hm e

theorem Within.copyBytesTo {j : Nat} (h : Within M s0 s) {pg sp a pg' sp' a' n : Nat} (hk : (memAt j).has (pg' * 16 + sp'))
    (hm : M.testBit (1056 + j) = true) : Within M s0 (s.copyBytes pg sp a pg' sp' a' n) := by
  unfold State.copyBytes
  generalize s.listed pg sp a n = l
  have h1 := h.wipeBytesTo (a := a') (n := n) hk hm
  generalize s.wipeBytes pg' sp' a' n = t at h1
  induction l generalizing t with
  | nil => exact h1
  | cons e l ih => exact ih _ (h1.wr8To hk hm)

theorem Within.storeBytesTo {j : Nat} (h : Within M s0 s) {pg sp : Nat} {l : List (Nat × Nat)} (hk : (memAt j).has (pg * 16 + sp))
    (hm : M.testBit (1056 + j) = true) : Within M s0 (storeBytes s pg sp l) := by
  unfold storeBytes
  induction l with
  | nil => exact h
  | cons x l ih => exact ih.wr8To hk hm

/-- Any byte at all. -/
theorem Within.wr8 (h : Within M s0 s) {pg sp a v : Nat} (hm : M.testBit 5 = true) : Within M s0 (s.wr8 pg sp a v) := h.wr8In (.inl hm)

theorem Within.memFilter (h : Within M s0 s) {p : Host.Cell → Bool} (hm : M.testBit 5 = true) :
    Within M s0 { s with mem := s.mem.filter p } where
  inv hi := (h.inv hi).memFilter p
  mem d k hk := absurd (.inl hm) hk
  member := h.member
  pending := h.pending
  regs d k hk := h.regs d k hk
  tick hb := h.tick hb
  fixed hb := h.fixed hb
  stage hb := h.stage hb
  inds hb := h.inds hb
  deferred hb := h.deferred hb
  rdata hb := h.rdata hb
  scrubLog hb := h.scrubLog hb
  freeCtr hb := h.freeCtr hb
  pwr hb := h.pwr hb
  axes hb := h.axes hb
  gal hb := h.gal hb
  saf hb := h.saf hb
  doors hb := h.doors hb
  voteBad hb := h.voteBad hb
  fq0 hb := h.fq0 hb
  heads hb := h.heads hb
  ingest hb := h.ingest hb
  drip hb := h.drip hb
  flow hb := h.flow hb
  fio hb := h.fio hb
  cans hb := h.cans hb
  nets hb := h.nets hb
  echo hb := h.echo hb
  dst hb := h.dst hb
  svc hb := h.svc hb
theorem Within.upd_drip_flow (h : Within M s0 s) {v0 : Drip} {v1 : Flow} (hm0 : M.testBit 18 = true) (hm1 : M.testBit 19 = true) :
    Within M s0 { s with drip := v0, flow := v1 } := ((h.upd_drip (v := v0) hm0).upd_flow (v := v1) hm1)

theorem Within.upd_mem_heads (h : Within M s0 s) {p : Host.Cell → Bool} {v1 : List (Nat × Head)} (hm0 : M.testBit 5 = true) (hm1 : M.testBit 16 = true) :
    Within M s0 { s with mem := s.mem.filter p, heads := v1 } := ((h.memFilter (p := p) hm0).upd_heads (v := v1) hm1)

theorem Within.upd_pwr_fio (h : Within M s0 s) {v0 : Power} {v1 : Fio} (hm0 : M.testBit 9 = true) (hm1 : M.testBit 20 = true) :
    Within M s0 { s with pwr := v0, fio := v1 } := ((h.upd_pwr (v := v0) hm0).upd_fio (v := v1) hm1)

theorem Within.upd_pwr_saf (h : Within M s0 s) {v0 : Power} {v1 : Safety} (hm0 : M.testBit 9 = true) (hm1 : M.testBit 12 = true) :
    Within M s0 { s with pwr := v0, saf := v1 } := ((h.upd_pwr (v := v0) hm0).upd_saf (v := v1) hm1)

theorem Within.upd_tick_drip (h : Within M s0 s) {v0 : Nat} {v1 : Drip} (hm0 : M.testBit 0 = true) (hm1 : M.testBit 18 = true) (hv : v0 < 2 ^ 48) :
    Within M s0 { s with tick := v0, drip := v1 } := ((h.upd_tick (v := v0) hm0 hv).upd_drip (v := v1) hm1)


/-! Choices and loops. -/

theorem Within.ite {c : Prop} [Decidable c] {a b : State} (ha : Within M s0 a) (hb : Within M s0 b) :
    Within M s0 (if c then a else b) := by split <;> assumption

theorem WithinP.ite {β : Type} {c : Prop} [Decidable c] {a b : State × β} (ha : WithinP M s0 a) (hb : WithinP M s0 b) :
    WithinP M s0 (if c then a else b) := by split <;> assumption

theorem WithinO.ite {c : Prop} [Decidable c] {a b : Out State} (ha : WithinO M s0 a) (hb : WithinO M s0 b) :
    WithinO M s0 (if c then a else b) := by split <;> assumption

theorem WithinP.mk {β : Type} {b : β} (h : Within M s0 s) : WithinP M s0 (s, b) := h

theorem WithinP.fst {β : Type} {p : State × β} (h : WithinP M s0 p) : Within M s0 p.1 := h

theorem Within.of_eq {β : Type} {p : State × β} {b : β} (e : p = (s, b)) (h : WithinP M s0 p) : Within M s0 s := by
  rw [e] at h; exact h

theorem WithinO.next (h : Within M s0 s) : WithinO M s0 (.next s) := ⟨s, rfl, h⟩

theorem Within.dite {c : Prop} [Decidable c] {a : c → State} {b : ¬ c → State} (ha : ∀ h, Within M s0 (a h)) (hb : ∀ h, Within M s0 (b h)) :
    Within M s0 (if h : c then a h else b h) := by split <;> simp_all

theorem WithinP.dite {ω : Type} {c : Prop} [Decidable c] {a : c → State × ω} {b : ¬ c → State × ω} (ha : ∀ h, WithinP M s0 (a h)) (hb : ∀ h, WithinP M s0 (b h)) :
    WithinP M s0 (if h : c then a h else b h) := by split <;> simp_all

theorem WithinO.dite {c : Prop} [Decidable c] {a : c → Out State} {b : ¬ c → Out State} (ha : ∀ h, WithinO M s0 (a h)) (hb : ∀ h, WithinO M s0 (b h)) :
    WithinO M s0 (if h : c then a h else b h) := by split <;> simp_all

theorem Within.foldl {α : Type} {f : State → α → State} {l : List α} (h : Within M s0 s)
    (hf : ∀ t x, Within M s0 t → Within M s0 (f t x)) : Within M s0 (l.foldl f s) := by
  induction l generalizing s with
  | nil => exact h
  | cons x l ih => exact ih (hf s x h)

theorem WithinP.foldl {α β : Type} {f : State × β → α → State × β} {l : List α} {p : State × β} (h : WithinP M s0 p)
    (hf : ∀ q x, WithinP M s0 q → WithinP M s0 (f q x)) : WithinP M s0 (l.foldl f p) := by
  induction l generalizing p with
  | nil => exact h
  | cons x l ih => exact ih (hf p x h)

theorem Within.foldr {α : Type} {f : α → State → State} {l : List α} (h : Within M s0 s)
    (hf : ∀ x t, Within M s0 t → Within M s0 (f x t)) : Within M s0 (l.foldr f s) := by
  induction l with
  | nil => exact h
  | cons x l ih => exact hf x _ ih

/-- A field of one family, as a set. -/
theorem InRegs.of1 {r : Nat} (i : Nat) (hr : (famAt i).has r) (hm : m.testBit (32 + i) = true) : InRegs m r := .inr ⟨i, hm, hr⟩

theorem InRegs.ite {c : Prop} [Decidable c] {a b : Reg} (ha : InRegs m a.key) (hb : InRegs m b.key) :
    InRegs m (if c then a else b).key := by split <;> assumption

theorem Within.countFaultIn (h : Within M s0 s) {r : Reg} {pg : Nat} (hr : InRegs m r.key) (hm : sub m M = true)
    (hf : M.testBit (32 + 15) = true) : Within M s0 (s.countFault pg r) := (h.countIn hr hm).count (key_HDR_PG_FAULT_CNT pg) hf

theorem Within.countDropIn (h : Within M s0 s) {r : Reg} {pg : Nat} (hr : InRegs m r.key) (hm : sub m M = true)
    (hf : M.testBit (32 + 16) = true) : Within M s0 (s.countDrop pg r) := (h.countIn hr hm).count (key_HDR_PG_DROP_CNT pg) hf

theorem Within.eachUpTo {f : State → Nat → State} {n : Nat} (h : Within M s0 s)
    (hf : ∀ t k, Within M s0 t → Within M s0 (f t k)) : Within M s0 (eachUpTo n f s) := by
  induction n with
  | zero => exact h
  | succ n ih => exact hf _ n ih

theorem Within.eachAx {f : State → Nat → State} (h : Within M s0 s)
    (hf : ∀ t k, Within M s0 t → Within M s0 (f t k)) : Within M s0 (eachAx f s) :=
  h.eachUpTo fun t k ht => .ite (hf t k ht) ht

theorem Within.eachDw {f : State → Nat → State} (h : Within M s0 s)
    (hf : ∀ t k, Within M s0 t → Within M s0 (f t k)) : Within M s0 (eachDw f s) :=
  h.eachUpTo fun t k ht => .ite (hf t k ht) ht

theorem Within.eachHead {f : State → Nat → State} (h : Within M s0 s)
    (hf : ∀ t k, Within M s0 t → Within M s0 (f t k)) : Within M s0 (eachHead f s) :=
  h.eachUpTo fun t k ht => .ite (hf t k ht) ht

/-! What a mask lets through. -/

/-- Whether a mask names no field of family `i`. -/
def keeps (m i : Nat) : Bool := !m.testBit 31 && !m.testBit (32 + 5) && !m.testBit (32 + i) && !Nat.beq i 5

/-- A field of family `i` lies outside a mask that does not name the family. -/
theorem not_inRegs {i m k : Nat} (hk : (famAt i).has k) (hf : keeps m i = true) : ¬ InRegs m k := by
  simp only [keeps, Bool.and_eq_true, Bool.not_eq_true'] at hf
  obtain ⟨⟨⟨h31, h5⟩, hi⟩, hi5⟩ := hf
  have hi5 : i ≠ 5 := by
    intro e; rw [e] at hi5; cases hi5
  rintro (h | ⟨j, hj, hj2⟩)
  · rw [h31] at h; cases h
  · by_cases hj5 : j = 5
    · subst hj5; rw [h5] at hj; cases hj
    · rw [← fam_uniq hk hj2 hi5 hj5, hi] at hj; cases hj

/-- A field outside the mask keeps its value. -/
theorem Within.get (h : Within m s t) {r : Reg} (hk : (famAt i).has r.key) (hf : keeps m i = true) : t.get r = s.get r := by
  simp only [State.get, h.regs _ _ (not_inRegs hk hf)]

theorem Within.on (h : Within m s t) {r : Reg} (hk : (famAt i).has r.key) (hf : keeps m i = true) : t.on r = s.on r := by
  simp only [State.on, h.get hk hf]

/-- Whether a mask names no byte of a space. -/
def memFree (m q : Nat) : Bool :=
  !m.testBit 5 && (List.range memTable.length).all fun j => !m.testBit (1056 + j) ||
    (List.range (memAt j).count).all fun n => (memAt j |>.base) * 16 + n * 16 + (memAt j).sp != q

theorem not_inMem {m q k : Nat} (h : memFree m q = true) (e : k / 2 ^ 32 = q) : ¬ InMem m k := by
  simp only [memFree, Bool.and_eq_true, Bool.not_eq_true', List.all_eq_true, List.mem_range, Bool.or_eq_true, bne_iff_ne] at h
  rintro (h5 | ⟨j, hj, n, hn, hq⟩)
  · rw [h.1] at h5; cases h5
  · by_cases hl : j < memTable.length
    · rcases h.2 j hl with h1 | h1
      · rw [hj] at h1; cases h1
      · exact h1 n hn (by rw [← e, hq]; omega)
    · have : memAt j = ⟨0, 0, 0⟩ := by
        unfold memAt
        rw [List.getD_eq_getElem?_getD, List.getElem?_eq_none (by omega)]; rfl
      rw [this] at hn
      exact Nat.not_lt_zero n hn

/-- A byte of a space outside the mask keeps its value. -/
theorem Within.rd8 (h : Within m s t) {pg sp : Nat} (hb : memFree m (pg * 16 + sp) = true) (a : Nat) : t.rd8 pg sp a = s.rd8 pg sp a := by
  simp only [State.rd8, h.mem _ _ (not_inMem hb (memKey_space pg sp a))]

end Sys2Proof.Machine
end

