-- ==== Sys2Proof/Laws/FrameOps.lean ====
section
/-! SUPPORT. What each operation and meaning of Machine/Ops.lean can change: one mask and one lemma each. -/

set_option Elab.async false

namespace Sys2Proof.Machine

def mask_State_adj : Nat := 0x2000000000000

theorem within_State_adj {s : State} {b1 : Nat} : Within mask_State_adj s (State.adj s b1) := by
  unfold State.adj
  exact ((Within.refl mask_State_adj s).count (key_HDR_PG_ADJ_CNT _) rfl)

def mask_clkSync : Nat := 0x2000000000000000000000000000000000000

theorem within_clkSync {s : State} : Within mask_clkSync s (clkSync s) := by
  unfold clkSync
  exact ((Within.refl mask_clkSync s).set key_CLK_CLK_FAIL rfl)

def mask_State_setAx : Nat := 0x400

theorem within_State_setAx {s : State} {b1 : Nat} {b2 : Axis} : Within mask_State_setAx s (State.setAx s b1 b2) := by
  unfold State.setAx
  exact ((Within.refl mask_State_setAx s).upd_axes rfl)

def mask_State_setDw : Nat := 0x2000

theorem within_State_setDw {s : State} {b1 : Nat} {b2 : Doorway} : Within mask_State_setDw s (State.setDw s b1 b2) := by
  unfold State.setDw
  exact ((Within.refl mask_State_setDw s).upd_doors rfl)

def mask_State_event : Nat := 0x200000000000000000000000000000000000000000000000000000000000000000000000000000000000000000000000000000000000000000000000000000000000000000000000000000000000000000000000000000000000000000000000000000000000000000000000000000000000000000001000000008000

theorem within_State_event {s : State} {b1 b2 b3 b4 b5 b6 : Nat} : Within mask_State_event s (State.event s b1 b2 b3 b4 b5 b6) := by
  unfold State.event
  split
  · rename_i h
    refine (Within.refl mask_State_event s).upd_fq0 rfl (.inl ?_)
    simp only [Bool.and_eq_true, decide_eq_true_eq] at h
    simp only [List.length_append, List.length_cons, List.length_nil]
    omega
  · exact (Within.refl mask_State_event s).countDrop key_FLOW_FQ0_DROP_CNT rfl rfl

def mask_State_source : Nat := 0x2000

theorem within_State_source {s : State} {b1 : Nat} {b2 : Nat} : Within mask_State_source s (State.source s b1 b2) := by
  unfold State.source
  extract_lets -merge -useContext -underBinder v0
  exact (Within.ite
    ((Within.refl mask_State_source s).step within_State_setDw rfl)
    (Within.refl mask_State_source s))

def mask_vrefFold : Nat := 0x200

theorem within_vrefFold {s : State} {b1 : Bool} : Within mask_vrefFold s (vrefFold s b1) := by
  unfold vrefFold
  extract_lets -merge -useContext -underBinder v0
  exact ((Within.refl mask_vrefFold s).upd_pwr rfl)

def mask_State_draw : Nat := 0x100

theorem within_State_draw {s : State} : Within mask_State_draw s (State.draw s) := by
  unfold State.draw
  exact ((Within.refl mask_State_draw s).upd_freeCtr rfl)

end Sys2Proof.Machine
end

