-- ==== Sys2Proof/Laws/FrameMem.lean ====
section
/-! SUPPORT. What each operation and meaning of Machine/Mem.lean can change: one mask and one lemma each. -/

set_option Elab.async false

namespace Sys2Proof.Machine

def mask_State_wr8 : Nat := 0x20

theorem within_State_wr8 {s : State} {pg sp a v : Nat} : Within mask_State_wr8 s (s.wr8 pg sp a v) := (Within.refl _ s).wr8 rfl

def mask_State_wrBytes : Nat := 0x20

theorem within_State_wrBytes {s : State} {pg sp a : Nat} {l : List Nat} : Within mask_State_wrBytes s (s.wrBytes pg sp a l) := by
  induction l generalizing s a with
  | nil => exact .refl _ _
  | cons b l ih => exact ((Within.refl _ s).wr8 rfl).step ih rfl

def mask_State_wr16 : Nat := 0x20

theorem within_State_wr16 {s : State} {b1 : Nat} {b2 : Nat} {b3 : Nat} {b4 : Nat} : Within mask_State_wr16 s (State.wr16 s b1 b2 b3 b4) := by
  unfold State.wr16
  exact (((Within.refl mask_State_wr16 s).step within_State_wr8 rfl).step within_State_wr8 rfl)

def mask_State_wr32 : Nat := 0x20

theorem within_State_wr32 {s : State} {b1 : Nat} {b2 : Nat} {b3 : Nat} {b4 : Nat} : Within mask_State_wr32 s (State.wr32 s b1 b2 b3 b4) := by
  unfold State.wr32
  exact (((Within.refl mask_State_wr32 s).step within_State_wr16 rfl).step within_State_wr16 rfl)

def mask_State_wipeSpace : Nat := 0x20

theorem within_State_wipeSpace {s : State} {pg sp : Nat} : Within mask_State_wipeSpace s (s.wipeSpace pg sp) := (Within.refl _ s).wipeSpaceIn fun _ _ => .inl rfl

def mask_State_wipeBytes : Nat := 0x20

theorem within_State_wipeBytes {s : State} {pg sp a n : Nat} : Within mask_State_wipeBytes s (s.wipeBytes pg sp a n) := (Within.refl _ s).wipeBytesIn fun _ _ => .inl rfl

end Sys2Proof.Machine
end

