-- ==== Sys2Proof/Laws/FrameCalendar.lean ====
section
/-! SUPPORT. What each operation and meaning of Machine/Calendar.lean can change: one mask and one lemma each. -/

set_option Elab.async false

namespace Sys2Proof.Machine

def mask_State_setHeld : Nat := 0x40000

theorem within_State_setHeld {s : State} {b1 : Nat} {b2 : Held} : Within mask_State_setHeld s (State.setHeld s b1 b2) := by
  unfold State.setHeld
  extract_lets -merge -useContext -underBinder v0
  exact ((Within.refl mask_State_setHeld s).upd_drip rfl)

end Sys2Proof.Machine
end

