-- ==== Sys2Proof/Laws/FrameRegistry.lean ====
section
/-! SUPPORT. What each operation and meaning of Machine/Registry.lean can change: one mask and one lemma each. -/

set_option Elab.async false

namespace Sys2Proof.Machine

def mask_State_setSlot : Nat := 0x800000

theorem within_State_setSlot {s : State} {b1 : Nat} {b2 : EchoSlot} : Within mask_State_setSlot s (State.setSlot s b1 b2) := by
  unfold State.setSlot
  extract_lets -merge -useContext -underBinder v0
  exact ((Within.refl mask_State_setSlot s).upd_echo rfl)

def mask_logChange : Nat := 0x20040000000000000000000000000000000000000000000000000000000000000000000000000000000000000000000000000000000000000000000000000000000000000000000000000000000000000000000000000000000000000000000000000000000000001000000800000

theorem within_logChange {s : State} {b1 : Nat} {b2 : Nat} {b3 : Nat} {b4 : Nat} {b5 : Nat} : Within mask_logChange s (logChange s b1 b2 b3 b4 b5) := by
  unfold logChange
  extract_lets -merge -useContext -underBinder v0 v1 s2 v3
  have hs2 : Within mask_logChange s s2 :=
    ((Within.refl mask_logChange s).set key_ECHO_CHG_WR rfl)
  exact (Within.ite
    ((Within.refl mask_logChange s).countDrop key_ECHO_CHG_DROP_CNT rfl rfl)
    (hs2.upd_echo rfl))

def mask_slotState : Nat := 0x30c40000000000000000000000000000000000000000000000000000000000000000000000000000000000000000000000000000000000000000000000000000000000000000000000000000000000000000000000000000000000000000000000000000000000001000000800000

theorem within_slotState {s : State} {b1 : Nat} {b2 : Nat} {b3 : Nat} : Within mask_slotState s (slotState s b1 b2 b3) := by
  unfold slotState
  extract_lets -merge -useContext -underBinder v0 v1 v2 s3 s4
  have hs3 : Within mask_slotState s s3 :=
    ((Within.refl mask_slotState s).step within_State_setSlot rfl)
  have hs4 : Within mask_slotState s s4 :=
    (Within.ite
      (hs3.count key_ECHO_NEW_CNT rfl)
      (Within.ite
        (hs3.count key_ECHO_LOST_CNT rfl)
        (Within.ite
          (hs3.count key_ECHO_FOREIGN_CNT rfl)
          hs3)))
  exact (Within.ite
    (Within.refl mask_slotState s)
    (hs4.step within_logChange rfl))

def mask_chooseVersion : Nat := 0x80000000000000000000000000000000000000000000000000000000000000000000000000000000000000000000000000000000000000000000000000000000000000000000000000000000000000000000000000000000000000000000000000000000000000000000000000800000

theorem within_chooseVersion {s : State} {b1 : Nat} : Within mask_chooseVersion s (chooseVersion s b1) := by
  unfold chooseVersion
  extract_lets -merge -useContext -underBinder v0 v1
  split
  · rename_i w2 w3 w4 e5
    extract_lets -merge -useContext -underBinder v6 v7 s8
    have hs8 : Within mask_chooseVersion s s8 :=
      ((Within.refl mask_chooseVersion s).countBy key_DVR_NOVER_CNT rfl)
    exact (hs8.step within_State_setSlot rfl)

def mask_versionsAgain : Nat := 0x80000000000000000000000000000000000000000000000000000000000000000000000000000000000000000000000000000000000000000000000000000000000000000000000000000000000000000000000000000000000000000000000000000000000000000000000000800000

theorem within_versionsAgain {s : State} : Within mask_versionsAgain s (versionsAgain s) := by
  unfold versionsAgain
  exact (Within.ite
    ((Within.refl mask_versionsAgain s).eachUpTo fun t0 x0 hl0 =>
      (Within.ite
        (hl0.step within_chooseVersion rfl)
        hl0))
    (Within.refl mask_versionsAgain s))

def mask_conflictEval : Nat := 0x2000008000000000000000000000000000000000000000000000000000000000000000000000000000000000000000000000000000000000000000000000000000000000000000000000000000000000000000000000000000000000000000000000000000000000000000800000

theorem within_conflictEval {s : State} {b1 : Nat} : Within mask_conflictEval s (conflictEval s b1) := by
  unfold conflictEval
  extract_lets -merge -useContext -underBinder f0 v1 s2 s3 s4
  have hs2 : Within mask_conflictEval s s2 :=
    (Within.refl mask_conflictEval s)
  have hs3 : Within mask_conflictEval s s3 :=
    ((Within.refl mask_conflictEval s).eachUpTo fun t5 x5 hl5 =>
      (Within.ite
        hl5
        (hl5.step within_State_setSlot rfl)))
  have hs4 : Within mask_conflictEval s s4 :=
    (Within.ite
      (hs3.count key_ECHO_CONFLICT_CNT rfl)
      hs3)
  exact (hs4.setB key_ECHO_OWN_CONFLICT rfl)

def mask_slotLost : Nat := 0x32c40008000000000000000000000000000000000000000000000000000000000000000000000000000000000000000000000000000000000000000000000000000000000000000000000000000000000000000000000000000000000000000000000000000000001000000800000

theorem within_slotLost {s : State} {b1 : Nat} {b2 : Nat} : Within mask_slotLost s (slotLost s b1 b2) := by
  unfold slotLost
  extract_lets -merge -useContext -underBinder v0
  exact (Within.ite
    (((Within.refl mask_slotLost s).step within_slotState rfl).step within_conflictEval rfl)
    (Within.refl mask_slotLost s))

def mask_slotLink : Nat := 0x32c40008000000000000000000000000000000000000000000000000000000000000000000000000000000000000000000000000000000000000000000000000000000000000000000000000000000000000000000000000000000000000000000000000000000001000000800000

theorem within_slotLink {s : State} {b1 : Nat} {b2 : Nat} {b3 : Nat} {b4 : Nat} {b5 : Nat} {b6 : Bool} {b7 : Nat} : Within mask_slotLink s (slotLink s b1 b2 b3 b4 b5 b6 b7) := by
  unfold slotLink
  extract_lets -merge -useContext -underBinder v0 s1 v2 s3
  have hs1 : Within mask_slotLink s s1 :=
    (Within.ite
      ((Within.refl mask_slotLink s).step within_slotState rfl)
      (Within.refl mask_slotLink s))
  have hs3 : Within mask_slotLink s s3 :=
    (hs1.step within_State_setSlot rfl)
  exact (Within.ite
    (Within.refl mask_slotLink s)
    (Within.ite
      (hs3.step within_slotState rfl)
      ((Within.refl mask_slotLink s).step within_slotLost rfl)))

def mask_notEntered : Nat := 0x1000000000000000000000000000000000000000000000000000000000000000000000000000000000000000000000000000000000000000000000000000000000000000000000000000000000000000000000000000000000000000000000000000000000000001000000000000

theorem within_notEntered {s : State} : Within mask_notEntered s (notEntered s) := by
  unfold notEntered
  exact ((Within.refl mask_notEntered s).countDrop key_ECHO_FULL_CNT rfl rfl)

def mask_echoHead : Nat := 0x32c40008000000000000000000000000000000000000000000000000000000000000000000000000000000000000000000000000000000000000000000000000000000000000000000000000000000000000000000000000000000000000000000000000000000001000000800000

theorem within_echoHead {s : State} {b1 : Nat} : Within mask_echoHead s (echoHead s b1) := by
  unfold echoHead
  exact ((Within.refl mask_echoHead s).step within_slotLink rfl)

def mask_echoTool : Nat := 0x32c40008000000000000000000000000000000000000000000000000000000000000000000000000000000000000000000000000000000000000000000000000000000000000000000000000000000000000000000000000000000000000000000000000000000001000000800000

theorem within_echoTool {s : State} {b1 : Bool} : Within mask_echoTool s (echoTool s b1) := by
  unfold echoTool
  exact ((Within.refl mask_echoTool s).step within_slotLink rfl)

end Sys2Proof.Machine
end

