-- ==== Sys2Proof/Laws/FrameRegs.lean ====
section
/-! SUPPORT. What each operation and meaning of Machine/Regs.lean can change: one mask and one lemma each. -/

set_option Elab.async false

namespace Sys2Proof.Machine

def mask_storeField : Nat := 0x80000002

theorem within_storeField {b0 : Rules} {b1 : Src} {b2 : State} {b3 : Desc} {b4 : Nat} {s : State} : WithinP mask_storeField s (storeField b0 b1 b2 b3 b4 s) := by
  unfold storeField
  extract_lets -merge -useContext -underBinder v0 v1
  exact (WithinP.ite
    (WithinP.mk (Within.refl mask_storeField s))
    (by
      split
      · rename_i w2 w3 w4 e5
        extract_lets -merge -useContext -underBinder v6 s7
        have hs7 : Within mask_storeField s s7 :=
          ((Within.refl mask_storeField s).setIn (m := 0x80000000) (.inl rfl) rfl)
        exact (WithinP.mk (Within.ite
          (hs7.upd_fixed rfl)
          hs7)) : WithinP mask_storeField s _))

def mask_storeFields : Nat := 0x80000002

theorem within_storeFields {ru : Rules} {w : Wr} {full : Nat} {s0 : State} {l : List Desc} {p : Wrote} :
    WithinP mask_storeFields p.1 (storeFields ru w full s0 l p) := by
  induction l generalizing p with
  | nil => exact .refl _ _
  | cons d ds ih =>
    obtain ⟨s, adj⟩ := p
    unfold storeFields
    extract_lets -merge -useContext -underBinder v
    have h : WithinP mask_storeFields s (if d.acc = .ro || d.acc = .wo then (s, false) else storeField ru w.src s0 d v s) :=
      .ite (.mk (.refl _ _)) ((Within.refl _ s).stepP within_storeField rfl)
    generalize (if d.acc = .ro || d.acc = .wo then (s, false) else storeField ru w.src s0 d v s) = q at h ⊢
    obtain ⟨s1, a1⟩ := q
    exact Within.step h (ih (p := (s1, adj || a1))) rfl

def mask_storeWord : Nat := 0x80000002

theorem within_storeWord {b0 : Rules} {s : State} {b2 : Wr} : WithinP mask_storeWord s (storeWord b0 s b2) := by
  unfold storeWord
  extract_lets -merge -useContext -underBinder v0
  exact (WithinP.ite
    (WithinP.mk (Within.refl mask_storeWord s))
    (WithinP.ite
      (WithinP.mk (Within.refl mask_storeWord s))
      (WithinP.ite
        (WithinP.mk (Within.refl mask_storeWord s))
        (by
          split
          · rename_i p1 q2 w3 e4
            have hq2 : Within mask_storeWord s q2 := .of_eq e4 (Within.stepP (WithinP.fst (WithinP.mk (Within.refl mask_storeWord s))) within_storeFields rfl)
            exact (WithinP.mk hq2) : WithinP mask_storeWord s _))))

def mask_counted : Nat := 0x2000000000000

theorem within_counted_from {s : State} {b0 : Nat} {r : Wrote} (h0 : WithinP mask_counted s r) : Within mask_counted s (counted b0 r) := by
  unfold counted
  exact (Within.ite
    ((WithinP.fst h0).step within_State_adj rfl)
    (WithinP.fst h0))

theorem within_counted {b0 : Nat} {r : Wrote} : Within mask_counted r.1 (counted b0 r) := within_counted_from (Within.refl _ _)

def mask_State_unstage : Nat := 0x4

theorem within_State_unstage {s : State} {b1 : Nat} : Within mask_State_unstage s (State.unstage s b1) := by
  unfold State.unstage
  exact ((Within.refl mask_State_unstage s).upd_stage rfl)

def mask_State_undefer : Nat := 0x10

theorem within_State_undefer {s : State} {b1 : Nat} : Within mask_State_undefer s (State.undefer s b1) := by
  unfold State.undefer
  exact ((Within.refl mask_State_undefer s).upd_deferred rfl)

def mask_wideHigh : Nat := 0x4

theorem within_wideHigh {b0 : Rules} {s : State} {b2 : Src} {b3 : Desc} {b4 : Nat} : WithinP mask_wideHigh s (wideHigh b0 s b2 b3 b4) := by
  unfold wideHigh
  exact (WithinP.ite
    (WithinP.mk (Within.refl mask_wideHigh s))
    (WithinP.mk ((Within.refl mask_wideHigh s).upd_stage rfl)))

def mask_wideLow : Nat := 0x80000004

theorem within_wideLow {b0 : Rules} {s : State} {b2 : Src} {b3 : Desc} {b4 : Desc} {b5 : Nat} : WithinP mask_wideLow s (wideLow b0 s b2 b3 b4 b5) := by
  unfold wideLow
  extract_lets -merge -useContext -underBinder v0 s1
  have hs1 : Within mask_wideLow s s1 :=
    ((Within.refl mask_wideLow s).step within_State_unstage rfl)
  exact (WithinP.ite
    (WithinP.mk hs1)
    (WithinP.mk ((hs1.setIn (m := 0x80000000) (.inl rfl) rfl).setIn (m := 0x80000000) (.inl rfl) rfl)))

def mask_State_setPair : Nat := 0x8

theorem within_State_setPair {s : State} {b1 : Nat} {b2 : Src} {b3 : IndPair} : Within mask_State_setPair s (State.setPair s b1 b2 b3) := by
  unfold State.setPair
  exact ((Within.refl mask_State_setPair s).upd_inds rfl)

def mask_ownReg : Nat := 0x7c00000000000000000000000000000000000000000000000000000000000000000000000000000000000000000000000000000000000000000000000000000000000000000000000000000000000000000000000000000000000000000000000000000000000000000000000000000000000000000000000000000000000000000000

theorem inregs_ownReg {b0 : Nat} {b1 : Nat} : InRegs mask_ownReg (ownReg b0 b1).key := by
  unfold ownReg
  repeat' split
  · exact .of1 1010 key_RES_OWN_DIR_LO rfl
  · exact .of1 1011 key_RES_OWN_DIR_HI rfl
  · exact .of1 1012 key_RES_OWN_CSTEP rfl
  · exact .of1 1013 key_RES_OWN_MON_LO rfl
  · exact .of1 1014 key_RES_OWN_MON_HI rfl

def mask_State_setOwner : Nat := 0x7c00000000000000000000000000000000000000000000000000000000000000000000000000000000000000000000000000000000000000000000000000000000000000000000000000000000000000000000000000000000000000000000000000000000000000000000000000000000000000000000000000000000000000000000

theorem within_State_setOwner {s : State} {b1 : Nat} {b2 : Nat} {b3 : Nat} : Within mask_State_setOwner s (State.setOwner s b1 b2 b3) := by
  unfold State.setOwner
  extract_lets -merge -useContext -underBinder v0
  exact ((Within.refl mask_State_setOwner s).setIn (m := 0x7c00000000000000000000000000000000000000000000000000000000000000000000000000000000000000000000000000000000000000000000000000000000000000000000000000000000000000000000000000000000000000000000000000000000000000000000000000000000000000000000000000000000000000000000) inregs_ownReg rfl)

def mask_State_conflict : Nat := 0x3c0000000000000000000000000000000000000000000000000000000000000000000000000000000000000000000000000000000000000000000000000000000000000000000000000000000000000000000000000000000000000000000000000000000000000000000000000000000000000000000000000000000002000000000000

theorem within_State_conflict {s : State} {b1 : Nat} {b2 : Nat} {b3 : Nat} {b4 : Nat} {b5 : Nat} : Within mask_State_conflict s (State.conflict s b1 b2 b3 b4 b5) := by
  unfold State.conflict
  exact ((((((Within.refl mask_State_conflict s).set key_RES_LAST_RES rfl).set key_RES_LAST_WIN rfl).set key_RES_LAST_LOSE rfl).count key_RES_RES_CONFLICT_CNT rfl).step within_State_adj rfl)

def mask_State_claim : Nat := 0x3c7c00000000000000000000000000000000000000000000000000000000000000000000000000000000000000000000000000000000000000000000000000000000000000000000000000000000000000000000000000000000000000000000000000000000000000000000000000000000000000000000000000000002000000000000

theorem within_State_claim {s : State} {b1 : Nat} {b2 : Nat} {b3 : Nat} : WithinP mask_State_claim s (State.claim s b1 b2 b3) := by
  unfold State.claim
  extract_lets -merge -useContext -underBinder v0
  exact (WithinP.ite
    (WithinP.mk ((Within.refl mask_State_claim s).step within_State_setOwner rfl))
    (WithinP.ite
      (WithinP.mk (Within.refl mask_State_claim s))
      (WithinP.ite
        (WithinP.mk (((Within.refl mask_State_claim s).step within_State_setOwner rfl).step within_State_conflict rfl))
        (WithinP.mk ((Within.refl mask_State_claim s).step within_State_conflict rfl)))))

def mask_State_release : Nat := 0x7c00000000000000000000000000000000000000000000000000000000000000000000000000000000000000000000000000000000000000000000000000000000000000000000000000000000000000000000000000000000000000000000000000000000000000000000000000000000000000000000000000000000000000000000

theorem within_State_release {s : State} {b1 : Nat} {b2 : Nat} {b3 : Nat} : Within mask_State_release s (State.release s b1 b2 b3) := by
  unfold State.release
  exact (Within.ite
    ((Within.refl mask_State_release s).step within_State_setOwner rfl)
    (Within.refl mask_State_release s))

end Sys2Proof.Machine
end

