-- ==== Sys2Proof/Laws/FrameFieldIo.lean ====
section
/-! SUPPORT. What each operation and meaning of Machine/FieldIo.lean can change: one mask and one lemma each. -/

set_option Elab.async false

namespace Sys2Proof.Machine

def mask_fioFault : Nat := 0x200000000000000000000000000000000000000000000000000000000000000000000401000000000000000000000000000000000000000000000000000000000000000000000000000000000000000000000000000000000000000000000000000000000000000000000000000000000000000000001800000008000

theorem within_fioFault {s : State} : Within mask_fioFault s (fioFault s) := by
  unfold fioFault
  extract_lets -merge -useContext -underBinder s0
  have hs0 : Within mask_fioFault s s0 :=
    (((Within.refl mask_fioFault s).setB key_FIO_FIO_FAULT rfl).countFault key_FIO_FAULT_ON_CNT rfl rfl)
  exact (Within.ite
    (Within.refl mask_fioFault s)
    (hs0.step within_State_event rfl))

def mask_barrierLoss : Nat := 0x200000000000000000000000000000000000000000000000000000000000000000000c07800000000000000000000000000000000000000000000000000000000000000000000000000000000000000000000000000000000000000000000000000000000000000000000000000000000000000000001800000008000

theorem within_barrierLoss {s : State} : Within mask_barrierLoss s (barrierLoss s) := by
  unfold barrierLoss
  extract_lets -merge -useContext -underBinder s0
  have hs0 : Within mask_barrierLoss s s0 :=
    (((Within.refl mask_barrierLoss s).setB key_FIO_BARRIER_OK rfl).count key_FIO_SAG_CNT rfl)
  exact (Within.ite
    (Within.refl mask_barrierLoss s)
    (((hs0.set key_FIO_FI_LO rfl).set key_FIO_FI_HI rfl).step within_fioFault rfl))

def mask_fioEnWritten : Nat := 0x8000000000000000000000000000000000000000000000000000000000000000000000000000000000000000000000000000000000000000000000000000000000000000000000000000000000000000000000000000000000

theorem within_fioEnWritten {s : State} : Within mask_fioEnWritten s (fioEnWritten s) := by
  unfold fioEnWritten
  exact (Within.ite
    (Within.refl mask_fioEnWritten s)
    ((Within.refl mask_fioEnWritten s).set key_FIO_FO_OUT rfl))

def mask_fioWatchdog : Nat := 0x8400000000000000000000000000000000000000000000000000000000000000000000000000000000000000000000000000000000000000000000000000000000000000000000000000000000000000000000000000000000

theorem within_fioWatchdog {s : State} : Within mask_fioWatchdog s (fioWatchdog s) := by
  unfold fioWatchdog
  exact (((Within.refl mask_fioWatchdog s).set key_FIO_FO_OUT rfl).setB key_FIO_WD_OPEN rfl)

def mask_execBarrierLoss : Nat := 0x200000000000000000000000000000000000000000000000000000000000000000000c07800000000000000000000000000000000000000000000000000000000000000000000000000000000000000000000000000000000000000000000000000000000000000000000000000000000000000000001800000008000

theorem within_execBarrierLoss {s : State} : WithinO mask_execBarrierLoss s (execBarrierLoss s) := by
  unfold execBarrierLoss
  exact (WithinO.next (Within.ite
    (Within.refl mask_execBarrierLoss s)
    ((Within.refl mask_execBarrierLoss s).step within_barrierLoss rfl)))

def mask_filtersRestart : Nat := 0x100000

theorem within_filtersRestart {s : State} {b1 : Nat} : Within mask_filtersRestart s (filtersRestart s b1) := by
  unfold filtersRestart
  exact ((Within.refl mask_filtersRestart s).eachUpTo fun t0 x0 hl0 =>
    (Within.ite
      (hl0.upd_fio rfl)
      hl0))

def mask_thrWritten : Nat := 0x100000

theorem within_thrWritten {b0 : State} {s : State} : Within mask_thrWritten s (thrWritten b0 s) := by
  unfold thrWritten
  exact ((Within.refl mask_thrWritten s).step within_filtersRestart rfl)

def mask_execBarrierReturn : Nat := 0x800000000000000000000000000000000000000000000000000000000000000000000000000000000000000000000000000000000000000000000000000000000000000000000000000000000000000000000000000100000

theorem within_execBarrierReturn {s : State} : WithinO mask_execBarrierReturn s (execBarrierReturn s) := by
  unfold execBarrierReturn
  exact (WithinO.next (Within.ite
    (Within.refl mask_execBarrierReturn s)
    (((Within.refl mask_execBarrierReturn s).setB key_FIO_BARRIER_OK rfl).step within_filtersRestart rfl)))

def mask_execFiAccepted : Nat := 0x6000000000000000000000000000000000000000000000000000000000000000000000000000000000000000000000000000000000000000000000000000000000000000000000000000000000000000000000000000000000

theorem within_execFiAccepted {b0 : Fin 64} {b1 : Int} {s : State} : WithinO mask_execFiAccepted s (execFiAccepted b0 b1 s) := by
  unfold execFiAccepted
  extract_lets -merge -useContext -underBinder v0 v1 v2
  exact (WithinO.ite
    (WithinO.next (Within.refl mask_execFiAccepted s))
    (WithinO.next (Within.ite
      ((Within.refl mask_execFiAccepted s).setBit key_FIO_FI_LO rfl)
      ((Within.refl mask_execFiAccepted s).setBit key_FIO_FI_HI rfl))))

def mask_execFoThermalShutdown : Nat := 0x200000000000000000000000000000000000000000000000000000000000000000000401000000000000000000000000000000000000000000000000000000000000000000000000000000000000000000000000000000000000000000000000000000000000000000000000000000000000000000001800000108000

theorem within_execFoThermalShutdown {b0 : Fin 32} {s : State} : WithinO mask_execFoThermalShutdown s (execFoThermalShutdown b0 s) := by
  unfold execFoThermalShutdown
  extract_lets -merge -useContext -underBinder v0
  exact (WithinO.ite
    (WithinO.next (Within.refl mask_execFoThermalShutdown s))
    (WithinO.next (((Within.refl mask_execFoThermalShutdown s).upd_fio rfl).step within_fioFault rfl)))

def mask_execFoThermalRestart : Nat := 0x100000

theorem within_execFoThermalRestart {b0 : Fin 32} {s : State} : WithinO mask_execFoThermalRestart s (execFoThermalRestart b0 s) := by
  unfold execFoThermalRestart
  extract_lets -merge -useContext -underBinder v0
  exact (WithinO.next ((Within.refl mask_execFoThermalRestart s).upd_fio rfl))

def mask_execFoCurrentLimit : Nat := 0x200000000000000000000000000000000000000000000000000000000000000000000401000000000000000000000000000000000000000000000000000000000000000000000000000000000000000000000000000000000000000000000000000000000000000000000000000000000000000000001800000008000

theorem within_execFoCurrentLimit {b0 : Fin 32} {s : State} : WithinO mask_execFoCurrentLimit s (execFoCurrentLimit b0 s) := by
  unfold execFoCurrentLimit
  exact (WithinO.next (Within.ite
    ((Within.refl mask_execFoCurrentLimit s).step within_fioFault rfl)
    (Within.refl mask_execFoCurrentLimit s)))

def mask_execFioFaultClear : Nat := 0x1000000000000000000000000000000000000000000000000000000000000000000000000000000000000000000000000000000000000000000000000000000000000000000000000000000000000000000000000000000000

theorem within_execFioFaultClear {s : State} : WithinO mask_execFioFaultClear s (execFioFaultClear s) := by
  unfold execFioFaultClear
  exact (WithinO.next (Within.ite
    ((Within.refl mask_execFioFaultClear s).setB key_FIO_FIO_FAULT rfl)
    (Within.refl mask_execFioFaultClear s)))

end Sys2Proof.Machine
end

