-- ==== Sys2Proof/Laws/FrameAxis.lean ====
section
/-! SUPPORT. What each operation and meaning of Machine/Axis.lean can change: one mask and one lemma each. -/

set_option Elab.async false

namespace Sys2Proof.Machine

def mask_axShow : Nat := 0x17e00000800000000000000000273c00139000000000000000000000000000000000000000000000000000000000000000000000000000000020000000000

theorem within_axShow {s : State} {b1 : Nat} : Within mask_axShow s (axShow s b1) := by
  unfold axShow
  extract_lets -merge -useContext -underBinder v0 v1 v2 v3 s4 s5 s6 s7 s8 s9 s10 s11 s12 s13 s14 s15 s16 s17 s18 s19 s20 s21 s22 s23
  have hs4 : Within mask_axShow s s4 :=
    ((Within.refl mask_axShow s).set64 (key_AX_POS_HI _) rfl (key_AX_POS_LO _) rfl)
  have hs5 : Within mask_axShow s s5 :=
    (hs4.setS (key_AX_VEL _) rfl)
  have hs6 : Within mask_axShow s s6 :=
    (hs5.set (key_AX_POS_UM _) rfl)
  have hs7 : Within mask_axShow s s7 :=
    (hs6.setB (key_AX_MOVING _) rfl)
  have hs8 : Within mask_axShow s s8 :=
    (hs7.setB (key_AX_AT_TARGET _) rfl)
  have hs9 : Within mask_axShow s s9 :=
    (hs8.set (key_AX_MQ_COUNT _) rfl)
  have hs10 : Within mask_axShow s s10 :=
    (hs9.setB (key_AX_Q_EMPTY _) rfl)
  have hs11 : Within mask_axShow s s11 :=
    (hs10.setB (key_AX_Q_FULL _) rfl)
  have hs12 : Within mask_axShow s s12 :=
    (hs11.setB (key_AX_GO_WAIT _) rfl)
  have hs13 : Within mask_axShow s s13 :=
    (hs12.set (key_AX_RUN_KIND _) rfl)
  have hs14 : Within mask_axShow s s14 :=
    (hs13.set (key_AX_RUN_PRF _) rfl)
  have hs15 : Within mask_axShow s s15 :=
    (hs14.set (key_AX_RUN_SEG _) rfl)
  have hs16 : Within mask_axShow s s16 :=
    (hs15.setB (key_AX_DIR_OPEN _) rfl)
  have hs17 : Within mask_axShow s s17 :=
    (hs16.setB (key_HDR_FAULT _) rfl)
  have hs18 : Within mask_axShow s s18 :=
    (hs17.setBit key_TRV_MOVING_MASK rfl)
  have hs19 : Within mask_axShow s s19 :=
    (hs18.setBit key_TRV_STO_MASK rfl)
  have hs20 : Within mask_axShow s s20 :=
    (hs19.setB key_TRV_ANY_MOVING rfl)
  have hs21 : Within mask_axShow s s21 :=
    (hs20.setB key_TRV_ANY_STO rfl)
  have hs22 : Within mask_axShow s s22 :=
    (hs21.setB key_TRV_ANY_FAULT rfl)
  have hs23 : Within mask_axShow s s23 :=
    (hs22.setB key_TRV_GO_PENDING rfl)
  exact (hs23.set key_TRV_TBL_INUSE rfl)

def mask_putAx : Nat := 0x17e00000800000000000000000273c00139000000000000000000000000000000000000000000000000000000000000000000000000000000020000000400

theorem within_putAx {s : State} {b1 : Nat} {b2 : Axis} : Within mask_putAx s (putAx s b1 b2) := by
  unfold putAx
  exact (((Within.refl mask_putAx s).step within_State_setAx rfl).step within_axShow rfl)

def mask_axAsk : Nat := 0x400

theorem within_axAsk {s : State} {b1 : Nat} {b2 : Req} : Within mask_axAsk s (axAsk s b1 b2) := by
  unfold axAsk
  extract_lets -merge -useContext -underBinder v0
  exact ((Within.refl mask_axAsk s).step within_State_setAx rfl)

def mask_axFlush : Nat := 0x17e00000800000000000010000273c00139000000000000000000000000000000000000000000000000000000000000000000000000000001020000000400

theorem within_axFlush {s : State} {b1 : Nat} : Within mask_axFlush s (axFlush s b1) := by
  unfold axFlush
  extract_lets -merge -useContext -underBinder v0 s1
  have hs1 : Within mask_axFlush s s1 :=
    (((Within.refl mask_axFlush s).countBy (key_AX_MQ_FLUSH_CNT _) rfl).countBy (key_HDR_PG_DROP_CNT _) rfl)
  exact (hs1.step within_putAx rfl)

def mask_axTarget : Nat := 0x20000000000000000000000000000000000000000000000000000000000000000000000000000000000000000000000000000000

theorem within_axTarget {s : State} {b1 : Nat} {b2 : Int} : WithinP mask_axTarget s (axTarget s b1 b2) := by
  unfold axTarget
  extract_lets -merge -useContext -underBinder v0 s1 v2 v3
  have hs1 : Within mask_axTarget s s1 :=
    (Within.ite
      (Within.refl mask_axTarget s)
      ((Within.refl mask_axTarget s).count (key_AX_CLAMP_CNT _) rfl))
  exact (WithinP.mk (Within.ite
    hs1
    (hs1.count (key_AX_CLAMP_CNT _) rfl)))

def mask_axPush : Nat := 0x17e00000800000000000038000273c00139000000000000000000000000000000000000000000000000000000000000000000000000000001020000000400

theorem within_axPush {s : State} {b1 : Nat} {b2 : Entry} : WithinP mask_axPush s (axPush s b1 b2) := by
  unfold axPush
  extract_lets -merge -useContext -underBinder s0 v1
  have hs0 : Within mask_axPush s s0 :=
    (Within.ite
      ((Within.refl mask_axPush s).step within_axFlush rfl)
      (Within.refl mask_axPush s))
  exact (WithinP.ite
    (WithinP.mk (Within.refl mask_axPush s))
    (WithinP.ite
      (WithinP.mk (hs0.countDrop (key_AX_MQ_DROP_CNT _) rfl rfl))
      (by
        split
        · rename_i p2 q3 w4 w5 e6
          have hq3 : Within mask_axPush s q3 := .of_eq e6 (hs0.stepP within_axTarget rfl)
          extract_lets -merge -useContext -underBinder v7
          exact (WithinP.mk (hq3.step within_putAx rfl)) : WithinP mask_axPush s _)))

def mask_axReverse : Nat := 0x20000000000000000000000000000000000000000000000000000000000000000000000000000000000000000000000000000400

theorem within_axReverse {s : State} {b1 : Nat} : WithinP mask_axReverse s (axReverse s b1) := by
  unfold axReverse
  exact (WithinP.ite
    (WithinP.mk (Within.refl mask_axReverse s))
    (by
      split
      · rename_i p0 q1 w2 w3 e4
        have hq1 : Within mask_axReverse s q1 := .of_eq e4 ((Within.refl mask_axReverse s).stepP within_axTarget rfl)
        exact (WithinP.mk (hq1.step within_axAsk rfl)) : WithinP mask_axReverse s _))

def mask_stopInfo : Nat := 0xc000040000000000000000000000000000000000000000000000000000000000000000000000000000000000000000000

theorem within_stopInfo {s : State} {b1 : Nat} {b2 : Nat} {b3 : Nat} : Within mask_stopInfo s (stopInfo s b1 b2 b3) := by
  unfold stopInfo
  exact ((((Within.refl mask_stopInfo s).set (key_AX_STOP_CAUSE _) rfl).set (key_AX_STOP_RAMP _) rfl).setB (key_AX_STOPPING _) rfl)

def mask_stoPut : Nat := 0x17e00000800000000000000000273c0013d000000000000000000000000000000000000000000000000000000000000000000000000000000020000000400

theorem within_stoPut {s : State} {b1 : Nat} {b2 : Bool} : Within mask_stoPut s (stoPut s b1 b2) := by
  unfold stoPut
  extract_lets -merge -useContext -underBinder v0 s1
  have hs1 : Within mask_stoPut s s1 :=
    (Within.ite
      ((Within.refl mask_stoPut s).step within_State_setAx rfl)
      (Within.refl mask_stoPut s))
  exact ((hs1.setB (key_AX_STO _) rfl).step within_axShow rfl)

def mask_stoSync : Nat := 0x17e00000800000000000000000273c0013d000000000000000000000000000000000000000000000000000000000000000000000000000000020000000400

theorem within_stoSync {s : State} : Within mask_stoSync s (stoSync s) := by
  unfold stoSync
  exact ((Within.refl mask_stoSync s).eachAx fun t0 x0 hl0 =>
    (hl0.step within_stoPut rfl))

def mask_homeEnd : Nat := 0x100000000000000000000400000000000000000000000000000000000000000000000000000000000000000000000000000000000000400

theorem within_homeEnd {s : State} {b1 : Nat} {b2 : Nat} : Within mask_homeEnd s (homeEnd s b1 b2) := by
  unfold homeEnd
  extract_lets -merge -useContext -underBinder v0
  exact ((((Within.refl mask_homeEnd s).setB (key_AX_HOMING _) rfl).set (key_AX_HOME_RESULT _) rfl).step within_State_setAx rfl)

def mask_stepEnd : Nat := 0x20000000000000000000000000000000000000000000000000000000000000000000000000000000000000000000000000000000000000000000000000000000600000000000000000000000000000000000000000000000000000000000000000000000000000000000000000000000000000000000100000000a400

theorem within_stepEnd {s : State} {b1 : Nat} {b2 : Nat} : Within mask_stepEnd s (stepEnd s b1 b2) := by
  unfold stepEnd
  extract_lets -merge -useContext -underBinder v0 s1 s2 v3 s4
  have hs1 : Within mask_stepEnd s s1 :=
    (Within.ite
      ((Within.refl mask_stepEnd s).count (key_AX_GAP_STALE_CNT _) rfl)
      (Within.refl mask_stepEnd s))
  have hs2 : Within mask_stepEnd s s2 :=
    ((hs1.set (key_AX_STEP_INFO _) rfl).step within_State_setAx rfl)
  have hs4 : Within mask_stepEnd s s4 :=
    (hs2.step within_State_setDw rfl)
  exact (Within.ite
    (hs4.step within_State_event rfl)
    hs4)

def mask_devFault : Nat := 0x200000000000000000000000000000000000000000000000000000000000000000000000000000000000000000000000000000000000000000000000000017e10000800000000700000000273c00139100000000000000000000000000000000000000000000000000000000000000000000000000001820000008400

theorem within_devFault {s : State} {b1 : Nat} {b2 : Nat} {b3 : Int} : Within mask_devFault s (devFault s b1 b2 b3) := by
  unfold devFault
  extract_lets -merge -useContext -underBinder v0 s1 s2 s3 s4 v5 s6
  have hs1 : Within mask_devFault s s1 :=
    ((((Within.refl mask_devFault s).setB (key_AX_DEV_FAULT _) rfl).set (key_AX_DEV_CAUSE _) rfl).set (key_AX_DEV_STATE _) rfl)
  have hs2 : Within mask_devFault s s2 :=
    (hs1.setSat (key_AX_DEV_LAST _) rfl)
  have hs3 : Within mask_devFault s s3 :=
    (hs2.countFault (key_AX_DEV_FAULT_CNT _) rfl rfl)
  have hs4 : Within mask_devFault s s4 :=
    (hs3.step within_State_event rfl)
  have hs6 : Within mask_devFault s s6 :=
    (hs4.step within_State_setAx rfl)
  exact ((hs6.step within_axAsk rfl).step within_axShow rfl)

def mask_encoderLost : Nat := 0x200000000000000000000000000000000000000000000000000000000000000000000000000000000000000000000000000000000000000000000000000017e10000800800000700000000273c00139900000000000000000000000000000002000000000000000000000000000000000000000000001820000008400

theorem within_encoderLost {s : State} {b1 : Nat} : Within mask_encoderLost s (encoderLost s b1) := by
  unfold encoderLost
  extract_lets -merge -useContext -underBinder v0 s1 s2
  have hs1 : Within mask_encoderLost s s1 :=
    ((Within.refl mask_encoderLost s).step within_State_setAx rfl)
  have hs2 : Within mask_encoderLost s s2 :=
    ((hs1.setB (key_AX_HOMED _) rfl).set (key_AX_FORCE_EST _) rfl)
  exact (Within.ite
    (Within.refl mask_encoderLost s)
    ((hs2.setBit key_SAFM_ENC_HOLD rfl).step within_devFault rfl))

def mask_envPut : Nat := 0x2000000000000000000000000000000000000000000000000000000000000000000000000000000000000000000000000000000000000000000000000000000000000000000000000000000000000000000000000000000000000000000000000000000000000000000000000000000000000000000000000000000000000000000000000

theorem within_envPut {s : State} {b1 : Nat} {b2 : Nat} {b3 : Nat} {b4 : Int} {b5 : Int} : Within mask_envPut s (envPut s b1 b2 b3 b4 b5) := by
  unfold envPut
  exact (((Within.refl mask_envPut s).wr16To (mem_AX_2 _) rfl).wr16To (mem_AX_2 _) rfl)

def mask_axModels : Nat := 0x40201000000000000000000000000000000000000000000000000000000000000000000000000000000000000000000000000000000000000000000

theorem within_axModels {s : State} {b1 : Nat} : Within mask_axModels s (axModels s b1) := by
  unfold axModels
  extract_lets -merge -useContext -underBinder s0 s1
  have hs0 : Within mask_axModels s s0 :=
    ((Within.refl mask_axModels s).set (key_AX_FORCE_THR _) rfl)
  have hs1 : Within mask_axModels s s1 :=
    (hs0.setSat (key_AX_V_LIM _) rfl)
  exact (hs1.setSat (key_AX_REV_AMAX _) rfl)

def mask_envClear : Nat := 0x46601000000000000000000000000000000000000000000000000000000000000000000000000000000000000000000000000000000000000000000

theorem within_envClear {s : State} {b1 : Nat} : Within mask_envClear s (envClear s b1) := by
  unfold envClear
  exact (((((Within.refl mask_envClear s).setB (key_AX_ENV_VALID _) rfl).setB (key_AX_MASS_VALID _) rfl).set (key_AX_MASS_G _) rfl).step within_axModels rfl)

def mask_askReversal : Nat := 0x38000000000000000000000000000000000000000000000000000000000000000000000000000000000000000000000000000000000000000000400

theorem within_askReversal {s : State} {b1 : Nat} {b2 : Nat} {b3 : optParam Bool false} : Within mask_askReversal s (askReversal s b1 b2 b3) := by
  unfold askReversal
  extract_lets -merge -useContext -underBinder v0 s1
  have hs1 : Within mask_askReversal s s1 :=
    (((Within.refl mask_askReversal s).set (key_AX_TRIP_CAUSE _) rfl).set (key_AX_TRIP_BIN _) rfl)
  exact (Within.ite
    (Within.refl mask_askReversal s)
    ((hs1.set (key_AX_TRIP_F _) rfl).step within_axAsk rfl))

end Sys2Proof.Machine
end

