-- ==== Sys2Proof/Laws/FrameGallery.lean ====
section
/-! SUPPORT. What each operation and meaning of Machine/Gallery.lean can change: one mask and one lemma each. -/

set_option Elab.async false

namespace Sys2Proof.Machine

def mask_gcReg : Nat := 0x6000000000000000000000000000000000000000000000000000000000000000000000000000000000000000000000000000000000000000000000000000000000000000000000000000000000000000000

theorem inregs_gcReg {b0 : Nat} : InRegs mask_gcReg (gcReg b0).key := by
  unfold gcReg
  repeat' split
  · exact .of1 617 key_GAL_GC_ON_LO rfl
  · exact .of1 618 key_GAL_GC_ON_HI rfl

def mask_setGcBit : Nat := 0x6000000000000000000000000000000000000000000000000000000000000000000000000000000000000000000000000000000000000000000000000000000000000000000000000000000000000000000

theorem within_setGcBit {s : State} {b1 : Nat} {b2 : Bool} : Within mask_setGcBit s (setGcBit s b1 b2) := by
  unfold setGcBit
  exact ((Within.refl mask_setGcBit s).setBitIn (m := 0x6000000000000000000000000000000000000000000000000000000000000000000000000000000000000000000000000000000000000000000000000000000000000000000000000000000000000000000) inregs_gcReg rfl)

def mask_clampEvent : Nat := 0x2c0100030000000000000000000000000000000000000000000000000000000000000000000000000000000000000000000000000000000000000000000000000000000000000000000000000000000000800000000900

theorem within_clampEvent {s : State} {b1 : Nat} : Within mask_clampEvent s (clampEvent s b1) := by
  unfold clampEvent
  extract_lets -merge -useContext -underBinder v0 s1 v2 v3 s4 s5 v6 s7 v8 s9 v10 s11
  have hs1 : Within mask_clampEvent s s1 :=
    ((Within.refl mask_clampEvent s).step within_State_draw rfl)
  have hs4 : Within mask_clampEvent s s4 :=
    (hs1.upd_gal rfl)
  have hs5 : Within mask_clampEvent s s5 :=
    ((hs4.setSat (key_GALC_CLAMP_LAST _) rfl).count (key_GALC_CH_CLAMP_CNT _) rfl)
  have hs7 : Within mask_clampEvent s s7 :=
    (hs5.setSat (key_GALC_CLAMP_SUM _) rfl)
  have hs9 : Within mask_clampEvent s s9 :=
    (Within.ite
      (hs7.count key_GAL_CLAMP_LOCK_CNT rfl)
      hs7)
  have hs11 : Within mask_clampEvent s s11 :=
    (Within.ite
      (hs9.countFault key_GAL_CLAMP_OVER_CNT rfl rfl)
      hs9)
  exact (Within.ite
    (hs11.setB (key_GALC_CLAMP_LOCK _) rfl)
    hs11)

def mask_galShow : Nat := 0x40000079807c00000000000000000000000000000000000000000000000000000000000000000000000000000000000000000000000000000000000000000000000000000000000000000000000000000000000000

theorem within_galShow {s : State} : Within mask_galShow s (galShow s) := by
  unfold galShow
  extract_lets -merge -useContext -underBinder f0 s1 s2 f3 s4 s5 s6 s7 s8 s9 s10
  have hs1 : Within mask_galShow s s1 :=
    ((Within.refl mask_galShow s).eachUpTo fun t11 x11 hl11 =>
      (hl11.setB (key_GALC_GATE_SHUT _) rfl))
  have hs2 : Within mask_galShow s s2 :=
    ((hs1.set key_GAL_OUT_LO rfl).set key_GAL_OUT_HI rfl)
  have hs4 : Within mask_galShow s s4 :=
    ((hs2.set key_GAL_BLK_LO rfl).set key_GAL_BLK_HI rfl)
  have hs5 : Within mask_galShow s s5 :=
    (hs4.setB key_GAL_ANY_CLAMP_LOCK rfl)
  have hs6 : Within mask_galShow s s6 :=
    (hs5.setB key_GAL_ANY_TH rfl)
  have hs7 : Within mask_galShow s s7 :=
    (hs6.setB key_GAL_ANY_OC rfl)
  have hs8 : Within mask_galShow s s8 :=
    (hs7.setB key_GAL_A_SHED rfl)
  have hs9 : Within mask_galShow s s9 :=
    (hs8.setB key_GAL_B_SHED rfl)
  have hs10 : Within mask_galShow s s10 :=
    (hs9.setB key_GAL_A_OK rfl)
  exact (hs10.setB key_GAL_B_OK rfl)

def mask_chanMark : Nat := 0x40a0000000000000000000000000000000000000000000000000000000000000000000000000000000000000000000000000000000000000000000000000000000000000000000000000000000000000000000000800

theorem within_chanMark {s : State} {b1 : Nat} : Within mask_chanMark s (chanMark s b1) := by
  unfold chanMark
  extract_lets -merge -useContext -underBinder v0 v1 s2 s3 s4 v5
  have hs2 : Within mask_chanMark s s2 :=
    (Within.ite
      ((Within.refl mask_chanMark s).upd_gal rfl)
      (Within.refl mask_chanMark s))
  have hs3 : Within mask_chanMark s s3 :=
    ((hs2.setB (key_GALC_CMD _) rfl).setB (key_GALC_IN_CRAWL _) rfl)
  have hs4 : Within mask_chanMark s s4 :=
    (hs3.setB (key_GALC_SHED _) rfl)
  exact (Within.ite
    (hs4.upd_gal rfl)
    hs3)

def mask_chanSwitch : Nat := 0x2c3900032000000000000000000000000000000000000000000000000000000000000000000000000000000000000000000000000000000000000000000000000000000000000000000000000000000000800000000900

theorem within_chanSwitch {b0 : Bool} {b1 : Bool} {s : State} {b3 : Nat} : Within mask_chanSwitch s (chanSwitch b0 b1 s b3) := by
  unfold chanSwitch
  extract_lets -merge -useContext -underBinder v0 s1 v2 s3 v4 s5
  have hs1 : Within mask_chanSwitch s s1 :=
    (((Within.refl mask_chanSwitch s).count key_GAL_RETRY_CNT rfl).setB (key_GALC_OC_TRIP _) rfl)
  have hs3 : Within mask_chanSwitch s s3 :=
    (Within.ite
      (hs1.upd_gal rfl)
      (Within.refl mask_chanSwitch s))
  have hs5 : Within mask_chanSwitch s s5 :=
    (hs3.upd_gal rfl)
  exact (Within.ite
    ((hs5.setB (key_GALC_OUT _) rfl).setB (key_GALC_INRUSH _) rfl)
    (Within.ite
      ((((Within.refl mask_chanSwitch s).setB (key_GALC_OUT _) rfl).setB (key_GALC_INRUSH _) rfl).step within_clampEvent rfl)
      (Within.refl mask_chanSwitch s)))

def mask_chanEval : Nat := 0x2c79a0032000000000000000000000000000000000000000000000000000000000000000000000000000000000000000000000000000000000000000000000000000000000000000000000000000000000800000000900

theorem within_chanEval {b0 : Bool} {s : State} {b2 : Nat} : Within mask_chanEval s (chanEval b0 s b2) := by
  unfold chanEval
  exact (Within.ite
    (Within.refl mask_chanEval s)
    (((Within.refl mask_chanEval s).step within_chanMark rfl).step within_chanSwitch rfl))

def mask_galEval : Nat := 0x2c79e0032079807c00000000000000000000000000000000000000000000000000000000000000000000000000000000000000000000000000000000000000000000000000000000000000000000000000800000000900

theorem within_galEval {s : State} : Within mask_galEval s (galEval s) := by
  unfold galEval
  exact (((Within.refl mask_galEval s).eachUpTo fun t0 x0 hl0 =>
    (hl0.step within_chanEval rfl)).step within_galShow rfl)

def mask_galEval1 : Nat := 0x2c79e0032079807c00000000000000000000000000000000000000000000000000000000000000000000000000000000000000000000000000000000000000000000000000000000000000000000000000800000000900

theorem within_galEval1 {s : State} {b1 : Nat} : Within mask_galEval1 s (galEval1 s b1) := by
  unfold galEval1
  exact (((Within.refl mask_galEval1 s).step within_chanEval rfl).step within_galShow rfl)

def mask_galOff : Nat := 0x2c79e0032079807c00000000000000000000000000000000000000000000000000000000000000000000000000000000000000000000000000000000000000000000000000000000000000000000000000800000000900

theorem within_galOff {s : State} : Within mask_galOff s (galOff s) := by
  unfold galOff
  exact ((Within.refl mask_galOff s).step within_galEval rfl)

def mask_followLost : Nat := 0x2000006000000000000000000000000000000000000000000000000000000000000000000000000000000000000000000000000000000000000000000000000000000000000000000000000000000000000000000

theorem within_followLost {s : State} {b1 : Nat} : Within mask_followLost s (followLost s b1) := by
  unfold followLost
  exact ((Within.refl mask_followLost s).eachUpTo fun t0 x0 hl0 =>
    (Within.ite
      ((hl0.setB (key_GALC_FOLLOW _) rfl).step within_setGcBit rfl)
      hl0))

def mask_crawlClaim : Nat := 0x3cfc00000000000000000000000000000000000000000000000000000000000000000000000000000000000000000002000006000000000000000000000000000000000000000000000000000000000000000000000000000000000000000000000000000000000000000000000000000000000000000000000000000002000000000000

theorem within_crawlClaim {s : State} {b1 : Nat} : Within mask_crawlClaim s (crawlClaim s b1) := by
  unfold crawlClaim
  split
  · rename_i p0 q1 w2 w3 e4
    have hq1 : Within mask_crawlClaim s q1 := .of_eq e4 ((Within.refl mask_crawlClaim s).stepP within_State_claim rfl)
    exact (Within.ite
      (hq1.step within_followLost rfl)
      (Within.ite
        (hq1.setBit key_RES_HOST_DIR rfl)
        hq1))

def mask_crawlSync : Nat := 0x3cfc000000000000000000000000000000000000000000000000000000000000000000000000000000000000482c79e203207f807c00000000000000000000000000000000000000000000000000000000000000000000000000000000000000000000000000000000000000000000000000000000000000000000000002800000000900

theorem within_crawlSync {s : State} : Within mask_crawlSync s (crawlSync s) := by
  unfold crawlSync
  extract_lets -merge -useContext -underBinder v0 s1 s2 s3 s4 s5 s6
  have hs1 : Within mask_crawlSync s s1 :=
    (((Within.refl mask_crawlSync s).setB key_CRAWL_CRAWL_ON rfl).count key_CRAWL_CRAWL_CNT rfl)
  have hs2 : Within mask_crawlSync s s2 :=
    (((Within.refl mask_crawlSync s).setB key_CRAWL_CRAWL_ON rfl).eachUpTo fun t7 x7 hl7 =>
      (hl7.step within_State_release rfl))
  have hs3 : Within mask_crawlSync s s3 :=
    (hs2.eachUpTo fun t8 x8 hl8 =>
      (Within.ite
        (hl8.setB (key_GALC_FOLLOW _) rfl)
        hl8))
  have hs4 : Within mask_crawlSync s s4 :=
    (Within.ite
      (hs1.eachUpTo fun t9 x9 hl9 =>
        (Within.ite
          ((hl9.step within_crawlClaim rfl).step within_setGcBit rfl)
          hl9))
      (Within.ite
        (hs3.eachUpTo fun t10 x10 hl10 =>
          (Within.ite
            hl10
            (hl10.step within_State_release rfl)))
        (Within.refl mask_crawlSync s)))
  have hs5 : Within mask_crawlSync s s5 :=
    (hs4.eachUpTo fun t11 x11 hl11 =>
      (by
        extract_lets -merge -useContext -underBinder s12
        have hs12 : Within mask_crawlSync s s12 :=
          (hl11.setB (key_GALC_FOLLOW _) rfl)
        exact (Within.ite
          hs12
          (hs12.step within_setGcBit rfl)) : Within mask_crawlSync s _))
  have hs6 : Within mask_crawlSync s s6 :=
    (Within.ite
      (hs5.eachUpTo fun t13 x13 hl13 =>
        (hl13.step within_State_release rfl))
      hs4)
  exact (hs6.step within_galEval rfl)

def mask_crawlLoad : Nat := 0x3cfc000000000000000000000000000000000000000000000000000000000000000000000000000000000000592c79e203207f807c00000000000000000000000000000000000000000000000000000000000000000000000000000000000000000000000000000000000000000000000000000000000000000000000002800000000900

theorem within_crawlLoad {s : State} : Within mask_crawlLoad s (crawlLoad s) := by
  unfold crawlLoad
  extract_lets -merge -useContext -underBinder s0
  have hs0 : Within mask_crawlLoad s s0 :=
    ((Within.refl mask_crawlLoad s).eachUpTo fun t1 x1 hl1 =>
      (hl1.set (key_CRAWL_CRAWL_MAP _) rfl))
  exact ((hs0.setB key_CRAWL_MAP_LOADED rfl).step within_crawlSync rfl)

def mask_followWritten : Nat := 0x3cfc000000000000000000000000000000000000000000000000000000000000000000000000000000000000002c79e203207f807c00000000000000000000000000000000000000000000000000000000000000000000000000000000000000000000000000000000000000000000000000000000000000000000000002800000000900

theorem within_followWritten {s : State} {b1 : Nat} {b2 : Bool} : Within mask_followWritten s (followWritten s b1 b2) := by
  unfold followWritten
  extract_lets -merge -useContext -underBinder v0 v1
  exact (Within.ite
    (by
      split
      · rename_i p2 q3 w4 w5 e6
        have hq3 : Within mask_followWritten s q3 := .of_eq e6 ((Within.refl mask_followWritten s).stepP within_State_claim rfl)
        extract_lets -merge -useContext -underBinder s7
        have hs7 : Within mask_followWritten s s7 :=
          (Within.ite
            (hq3.setBit key_RES_HOST_DIR rfl)
            hq3)
        exact ((Within.ite
          hs7
          ((hs7.setB (key_GALC_FOLLOW _) rfl).step within_setGcBit rfl)).step within_galEval1 rfl) : Within mask_followWritten s _)
    (Within.ite
      ((Within.ite
        (Within.refl mask_followWritten s)
        ((Within.refl mask_followWritten s).step within_State_release rfl)).step within_galEval1 rfl)
      ((Within.refl mask_followWritten s).step within_galEval1 rfl)))

def mask_galEnWritten : Nat := 0x7c000000000000000000000000000000000000000000000000000000000000000000000000000000000000002c79e203207f807c00000000000000000000000000000000000000000000000000000000000000000000000000000000000000000000000000000000000000000000000000000000000000000000000000800000000900

theorem within_galEnWritten {s : State} : Within mask_galEnWritten s (galEnWritten s) := by
  unfold galEnWritten
  extract_lets -merge -useContext -underBinder s0
  have hs0 : Within mask_galEnWritten s s0 :=
    ((((Within.refl mask_galEnWritten s).set key_GAL_GC_ON_LO rfl).set key_GAL_GC_ON_HI rfl).eachUpTo fun t1 x1 hl1 =>
      (hl1.setB (key_GALC_FOLLOW _) rfl))
  exact (Within.ite
    (Within.refl mask_galEnWritten s)
    ((hs0.eachUpTo fun t2 x2 hl2 =>
      (hl2.step within_State_release rfl)).step within_galEval rfl))

def mask_galCommand : Nat := 0x2c79e0032079807c00000000000000000000000000000000000000000000000000000000000000000000000000000000000000000000000000000000000000000000000000000000000000000000000000800000000900

theorem within_galCommand {s : State} {b1 : Nat} : WithinP mask_galCommand s (galCommand s b1) := by
  unfold galCommand
  extract_lets -merge -useContext -underBinder v0
  exact (WithinP.ite
    (WithinP.mk (Within.refl mask_galCommand s))
    (WithinP.mk (((Within.refl mask_galCommand s).setB (key_GALC_CLAMP_LOCK _) rfl).step within_galEval1 rfl)))

def mask_mapWritten : Nat := 0x800

theorem within_mapWritten {s : State} {b1 : Nat} : Within mask_mapWritten s (mapWritten s b1) := by
  unfold mapWritten
  extract_lets -merge -useContext -underBinder v0
  exact ((Within.refl mask_mapWritten s).upd_gal rfl)

def mask_ovReg : Nat := 0x180000000000000000000000000000000000000000000000000000000000000000000000000000000000000000000000000000000000000000000000000000000000000000000000000000000000000000

theorem inregs_ovReg {b0 : Bank} : InRegs mask_ovReg (ovReg b0).key := by
  unfold ovReg
  repeat' split
  · exact .of1 612 key_GAL_A_OV rfl
  · exact .of1 611 key_GAL_B_OV rfl

def mask_revReg : Nat := 0x600000000000000000000000000000000000000000000000000000000000000000000000000000000000000000000000000000000000000000000000000000000000000000000000000000000000000000

theorem inregs_revReg {b0 : Bank} : InRegs mask_revReg (revReg b0).key := by
  unfold revReg
  repeat' split
  · exact .of1 614 key_GAL_A_REV rfl
  · exact .of1 613 key_GAL_B_REV rfl

def mask_gndReg : Nat := 0x60000000000000000000000000000000000000000000000000000000000000000000000000000000000000000000000000000000000000000000000000000000000000000000000000000000000000000

theorem inregs_gndReg {b0 : Bank} : InRegs mask_gndReg (gndReg b0).key := by
  unfold gndReg
  repeat' split
  · exact .of1 610 key_GAL_A_GND rfl
  · exact .of1 609 key_GAL_B_GND rfl

def mask_fltReg : Nat := 0x18000000000000000000000000000000000000000000000000000000000000000000000000000000000000000000000000000000000000000000000000000000000000000000000000000000000000000

theorem inregs_fltReg {b0 : Bank} : InRegs mask_fltReg (fltReg b0).key := by
  unfold fltReg
  repeat' split
  · exact .of1 608 key_GAL_A_FAULT rfl
  · exact .of1 607 key_GAL_B_FAULT rfl

def mask_meanReg : Nat := 0x600000000000000000000000000000000000000000000000000000000000000000000000000000000000000000000000000000000000000000000000000000000000000000000000000000000000000000000

theorem inregs_meanReg {b0 : Bank} : InRegs mask_meanReg (meanReg b0).key := by
  unfold meanReg
  repeat' split
  · exact .of1 625 key_GAL_IA_MEAN rfl
  · exact .of1 626 key_GAL_IB_MEAN rfl

def mask_instReg : Nat := 0x180000000000000000000000000000000000000000000000000000000000000000000000000000000000000000000000000000000000000000000000000000000000000000000000000000000000000000000

theorem inregs_instReg {b0 : Bank} : InRegs mask_instReg (instReg b0).key := by
  unfold instReg
  repeat' split
  · exact .of1 623 key_GAL_IA rfl
  · exact .of1 624 key_GAL_IB rfl

def mask_bankQueue : Nat := 0x800

theorem within_bankQueue {s : State} {b1 : Bank} : Within mask_bankQueue s (bankQueue s b1) := by
  unfold bankQueue
  extract_lets -merge -useContext -underBinder v0 v1
  exact ((Within.refl mask_bankQueue s).upd_gal rfl)

def mask_gateSync : Nat := 0x2c79e0032079807c00000000000000000000000000000000000000000000000000000000000000000000000000000000000000000000000000000000000000000000000000000000000000000000000000800000000900

theorem within_gateSync {s : State} : Within mask_gateSync s (gateSync s) := by
  unfold gateSync
  extract_lets -merge -useContext -underBinder v0 v1
  exact (((Within.refl mask_gateSync s).upd_gal rfl).step within_galEval rfl)

def mask_execDirectEdge : Nat := 0x202c79e0032079807c00000000000000000000000000000000000000000000000000000000000000000000000000000000000000000000000000000000000000000000000000000000000000000000000000800000000900

theorem within_execDirectEdge {b0 : Fin 16} {b1 : Bool} {s : State} : WithinO mask_execDirectEdge s (execDirectEdge b0 b1 s) := by
  unfold execDirectEdge
  extract_lets -merge -useContext -underBinder v0 s1 s2
  have hs1 : Within mask_execDirectEdge s s1 :=
    ((Within.refl mask_execDirectEdge s).upd_gal rfl)
  have hs2 : Within mask_execDirectEdge s s2 :=
    (hs1.set key_CRAWL_CR_PINS rfl)
  exact (WithinO.ite
    (WithinO.next (Within.refl mask_execDirectEdge s))
    (WithinO.next ((hs2.eachUpTo fun t3 x3 hl3 =>
      (Within.ite
        (hl3.step within_chanEval rfl)
        hl3)).step within_galShow rfl)))

def mask_execOcTrip : Nat := 0x3c7df0037079807c00000000000000000000000000000000000000000000000000000000000000000000000000000000000000000000000000000000000000000000000000000000000000000000000000800000000900

theorem within_execOcTrip {b0 : Fin 48} {b1 : Nat} {s : State} : WithinO mask_execOcTrip s (execOcTrip b0 b1 s) := by
  unfold execOcTrip
  extract_lets -merge -useContext -underBinder v0 s1 v2 s3 s4
  have hs1 : Within mask_execOcTrip s s1 :=
    ((((Within.refl mask_execOcTrip s).set (key_GALC_RETRY_N _) rfl).countFault key_GAL_OC_TRIP_CNT rfl rfl).count (key_GALC_CH_TRIP_CNT _) rfl)
  have hs3 : Within mask_execOcTrip s s3 :=
    (hs1.upd_gal rfl)
  have hs4 : Within mask_execOcTrip s s4 :=
    (Within.ite
      (hs3.setB (key_GALC_OC_TRIP _) rfl)
      ((hs3.setB (key_GALC_OC_LOCK _) rfl).count key_GAL_OC_LOCK_CNT rfl))
  exact (WithinO.ite
    (WithinO.next (Within.refl mask_execOcTrip s))
    (WithinO.next (hs4.step within_galEval1 rfl)))

def mask_execRetryBackoffEnd : Nat := 0x2c79e0032079807c00000000000000000000000000000000000000000000000000000000000000000000000000000000000000000000000000000000000000000000000000000000000000000000000000800000000900

theorem within_execRetryBackoffEnd {b0 : Fin 48} {s : State} : WithinO mask_execRetryBackoffEnd s (execRetryBackoffEnd b0 s) := by
  unfold execRetryBackoffEnd
  extract_lets -merge -useContext -underBinder v0 v1 s2 v3
  have hs2 : Within mask_execRetryBackoffEnd s s2 :=
    ((Within.refl mask_execRetryBackoffEnd s).setB (key_GALC_OC_TRIP _) rfl)
  exact (WithinO.ite
    (WithinO.next (Within.refl mask_execRetryBackoffEnd s))
    (WithinO.next ((hs2.upd_gal rfl).step within_galEval1 rfl)))

def mask_execRetryNReset : Nat := 0x10000000000000000000000000000000000000000000000000000000000000000000000000000000000000000000000000000000000000000000000000000000000000000000000000000000000000000000000000

theorem within_execRetryNReset {b0 : Fin 48} {s : State} : WithinO mask_execRetryNReset s (execRetryNReset b0 s) := by
  unfold execRetryNReset
  exact (WithinO.next (Within.ite
    ((Within.refl mask_execRetryNReset s).set (key_GALC_RETRY_N _) rfl)
    (Within.refl mask_execRetryNReset s)))

def mask_execCommandOffSettled : Nat := 0x2c7df0032079807c00000000000000000000000000000000000000000000000000000000000000000000000000000000000000000000000000000000000000000000000000000000000000000000000000800000000900

theorem within_execCommandOffSettled {b0 : Fin 48} {s : State} : WithinO mask_execCommandOffSettled s (execCommandOffSettled b0 s) := by
  unfold execCommandOffSettled
  extract_lets -merge -useContext -underBinder s0 v1
  have hs0 : Within mask_execCommandOffSettled s s0 :=
    ((((Within.refl mask_execCommandOffSettled s).set (key_GALC_RETRY_N _) rfl).setB (key_GALC_OC_LOCK _) rfl).setB (key_GALC_OC_TRIP _) rfl)
  exact (WithinO.ite
    (WithinO.next (Within.refl mask_execCommandOffSettled s))
    (WithinO.next ((hs0.upd_gal rfl).step within_galEval1 rfl)))

def mask_execInrushWindowEnd : Nat := 0x1000000000000000000000000000000000000000000000000000000000000000000000000000000000000000000000000000000000000000000000000000000000000000000000000000000000000000000000000000

theorem within_execInrushWindowEnd {b0 : Fin 48} {s : State} : WithinO mask_execInrushWindowEnd s (execInrushWindowEnd b0 s) := by
  unfold execInrushWindowEnd
  exact (WithinO.next (Within.ite
    ((Within.refl mask_execInrushWindowEnd s).setB (key_GALC_INRUSH _) rfl)
    (Within.refl mask_execInrushWindowEnd s)))

def mask_execThermalLatch : Nat := 0x2f7be003a079807c00000000000000000000000000000000000000000000000000000000000000000000000000000000000000000000000000000000000000000000000000000000000000000000000000800000000900

theorem within_execThermalLatch {b0 : Fin 48} {b1 : Int} {b2 : Int} {s : State} : WithinO mask_execThermalLatch s (execThermalLatch b0 b1 b2 s) := by
  unfold execThermalLatch
  extract_lets -merge -useContext -underBinder s0
  have hs0 : Within mask_execThermalLatch s s0 :=
    (((Within.refl mask_execThermalLatch s).setS (key_GALC_DT _) rfl).setS (key_GALC_TJ _) rfl)
  exact (WithinO.ite
    (WithinO.next hs0)
    (WithinO.next (((hs0.setB (key_GALC_TH_LATCH _) rfl).countFault key_GAL_TH_CNT rfl rfl).step within_galEval1 rfl)))

def mask_execThermalLatchClear : Nat := 0x2f7be0032079807c00000000000000000000000000000000000000000000000000000000000000000000000000000000000000000000000000000000000000000000000000000000000000000000000000800000000900

theorem within_execThermalLatchClear {b0 : Fin 48} {b1 : Int} {b2 : Int} {s : State} : WithinO mask_execThermalLatchClear s (execThermalLatchClear b0 b1 b2 s) := by
  unfold execThermalLatchClear
  extract_lets -merge -useContext -underBinder s0
  have hs0 : Within mask_execThermalLatchClear s s0 :=
    (((Within.refl mask_execThermalLatchClear s).setS (key_GALC_DT _) rfl).setS (key_GALC_TJ _) rfl)
  exact (WithinO.ite
    (WithinO.next hs0)
    (WithinO.next ((hs0.setB (key_GALC_TH_LATCH _) rfl).step within_galEval1 rfl)))

def mask_execCrawlClampUnlock : Nat := 0x2c79e0032079807c00000000000000000000000000000000000000000000000000000000000000000000000000000000000000000000000000000000000000000000000000000000000000000000000000800000000900

theorem within_execCrawlClampUnlock {b0 : Fin 48} {s : State} : WithinO mask_execCrawlClampUnlock s (execCrawlClampUnlock b0 s) := by
  unfold execCrawlClampUnlock
  exact (WithinO.ite
    (WithinO.next ((((Within.refl mask_execCrawlClampUnlock s).setB (key_GALC_CLAMP_LOCK _) rfl).set (key_GALC_CLAMP_SUM _) rfl).step within_galEval1 rfl))
    (WithinO.next (Within.refl mask_execCrawlClampUnlock s)))

def mask_execShedStep : Nat := 0x2c79e00727f9807c00000000000000000000000000000000000000000000000000000000000000000000000000000000000000000000000000000000000000000000000000000000000000000000000000800000000900

theorem within_execShedStep {b0 : Bank} {b1 : Nat} {b2 : Nat} {s : State} : WithinO mask_execShedStep s (execShedStep b0 b1 b2 s) := by
  unfold execShedStep
  extract_lets -merge -useContext -underBinder s0
  have hs0 : Within mask_execShedStep s s0 :=
    (((Within.refl mask_execShedStep s).setSatIn (m := 0x180000000000000000000000000000000000000000000000000000000000000000000000000000000000000000000000000000000000000000000000000000000000000000000000000000000000000000000) inregs_instReg rfl).setSatIn (m := 0x600000000000000000000000000000000000000000000000000000000000000000000000000000000000000000000000000000000000000000000000000000000000000000000000000000000000000000000) inregs_meanReg rfl)
  exact (WithinO.ite
    (WithinO.next hs0)
    (by
      split
      · rename_i w1 e2
        exact (WithinO.next hs0)
      · rename_i w3 w4 e5
        extract_lets -merge -useContext -underBinder s6 v7
        have hs6 : Within mask_execShedStep s s6 :=
          ((hs0.setB (key_GALC_SHED _) rfl).count key_GAL_SHED_CNT rfl)
        exact (WithinO.next ((hs6.upd_gal rfl).step within_galEval1 rfl)) : WithinO mask_execShedStep s _))

def mask_execShedRestoreStep : Nat := 0x2c79e00327f9807c00000000000000000000000000000000000000000000000000000000000000000000000000000000000000000000000000000000000000000000000000000000000000000000000000800000000900

theorem within_execShedRestoreStep {b0 : Bank} {b1 : Nat} {b2 : Nat} {s : State} : WithinO mask_execShedRestoreStep s (execShedRestoreStep b0 b1 b2 s) := by
  unfold execShedRestoreStep
  extract_lets -merge -useContext -underBinder s0
  have hs0 : Within mask_execShedRestoreStep s s0 :=
    (((Within.refl mask_execShedRestoreStep s).setSatIn (m := 0x180000000000000000000000000000000000000000000000000000000000000000000000000000000000000000000000000000000000000000000000000000000000000000000000000000000000000000000) inregs_instReg rfl).setSatIn (m := 0x600000000000000000000000000000000000000000000000000000000000000000000000000000000000000000000000000000000000000000000000000000000000000000000000000000000000000000000) inregs_meanReg rfl)
  exact (WithinO.ite
    (WithinO.next hs0)
    (by
      split
      · rename_i w1 e2
        exact (WithinO.next hs0)
      · rename_i w3 w4 e5
        extract_lets -merge -useContext -underBinder v6 s7
        have hs7 : Within mask_execShedRestoreStep s s7 :=
          (hs0.upd_gal rfl)
        exact (WithinO.next ((hs7.setB (key_GALC_SHED _) rfl).step within_galEval1 rfl)) : WithinO mask_execShedRestoreStep s _))

def mask_execGateCutBitClear : Nat := 0x2c79e00b207f807c00000000000000000000000000000000000000000000000000000000000000000000000000000000000000000000000000000000000000000000000000000000000000000000000000800000000900

theorem within_execGateCutBitClear {b0 : Fin 8} {s : State} : WithinO mask_execGateCutBitClear s (execGateCutBitClear b0 s) := by
  unfold execGateCutBitClear
  extract_lets -merge -useContext -underBinder s0 v1
  have hs0 : Within mask_execGateCutBitClear s s0 :=
    (((Within.refl mask_execGateCutBitClear s).step within_setGcBit rfl).count key_GAL_GATE_CUT_CNT rfl)
  exact (WithinO.ite
    (WithinO.next (Within.refl mask_execGateCutBitClear s))
    (WithinO.next ((hs0.upd_gal rfl).step within_galEval rfl)))

def mask_execBankOvervoltage : Nat := 0x2c79e0132079987c00000000000000000000000000000000000000000000000000000000000000000000000000000000000000000000000000000000000000000000000000000000000000000000000000800000000900

theorem within_execBankOvervoltage {b0 : Bank} {s : State} : WithinO mask_execBankOvervoltage s (execBankOvervoltage b0 s) := by
  unfold execBankOvervoltage
  exact (WithinO.ite
    (WithinO.next (Within.refl mask_execBankOvervoltage s))
    (WithinO.next ((((Within.refl mask_execBankOvervoltage s).setBIn (m := 0x180000000000000000000000000000000000000000000000000000000000000000000000000000000000000000000000000000000000000000000000000000000000000000000000000000000000000000) inregs_ovReg rfl).count key_GAL_SURGE_CNT rfl).step within_galEval rfl)))

def mask_execBankReverse : Nat := 0x2c79e0032079e07c00000000000000000000000000000000000000000000000000000000000000000000000000000000000000000000000000000000000000000000000000000000000000000000000000800000000900

theorem within_execBankReverse {b0 : Bank} {s : State} : WithinO mask_execBankReverse s (execBankReverse b0 s) := by
  unfold execBankReverse
  exact (WithinO.next (((Within.refl mask_execBankReverse s).setBIn (m := 0x600000000000000000000000000000000000000000000000000000000000000000000000000000000000000000000000000000000000000000000000000000000000000000000000000000000000000000) inregs_revReg rfl).step within_galEval rfl))

def mask_execBankGroundLoss : Nat := 0x2c79e0032079867c00000000000000000000000000000000000000000000000000000000000000000000000000000000000000000000000000000000000000000000000000000000000000000000000000800000000900

theorem within_execBankGroundLoss {b0 : Bank} {s : State} : WithinO mask_execBankGroundLoss s (execBankGroundLoss b0 s) := by
  unfold execBankGroundLoss
  exact (WithinO.next (((Within.refl mask_execBankGroundLoss s).setBIn (m := 0x60000000000000000000000000000000000000000000000000000000000000000000000000000000000000000000000000000000000000000000000000000000000000000000000000000000000000000) inregs_gndReg rfl).step within_galEval rfl))

def mask_endReg : Nat := 0x7e0000000000000000000000000000000000000000000000000000000000000000000000000000000000000000000000000000000000000000000000000000000000000000000000000000000000000000

theorem inregs_endReg {b0 : BankEnd} : InRegs mask_endReg (endReg b0).key := by
  unfold endReg
  repeat' split
  · exact .mono rfl inregs_ovReg
  · exact .mono rfl inregs_revReg
  · exact .mono rfl inregs_gndReg

def mask_execBankReturn : Nat := 0x2c79e0032079fe7c00000000000000000000000000000000000000000000000000000000000000000000000000000000000000000000000000000000000000000000000000000000000000000000000000800000000900

theorem within_execBankReturn {b0 : BankEnd} {s : State} : WithinO mask_execBankReturn s (execBankReturn b0 s) := by
  unfold execBankReturn
  extract_lets -merge -useContext -underBinder v0 v1 s2
  have hs2 : Within mask_execBankReturn s s2 :=
    ((Within.refl mask_execBankReturn s).setBIn (m := 0x7e0000000000000000000000000000000000000000000000000000000000000000000000000000000000000000000000000000000000000000000000000000000000000000000000000000000000000000) inregs_endReg rfl)
  exact (WithinO.next ((Within.ite
    hs2
    (hs2.step within_bankQueue rfl)).step within_galEval rfl))

def mask_execBankChannelRestore : Nat := 0x2c79e0032079807c00000000000000000000000000000000000000000000000000000000000000000000000000000000000000000000000000000000000000000000000000000000000000000000000000800000000900

theorem within_execBankChannelRestore {b0 : Bank} {s : State} : WithinO mask_execBankChannelRestore s (execBankChannelRestore b0 s) := by
  unfold execBankChannelRestore
  split
  · rename_i w0 e1
    exact (WithinO.next (Within.refl mask_execBankChannelRestore s))
  · rename_i w2 w3 e4
    extract_lets -merge -useContext -underBinder v5
    exact (WithinO.next (((Within.refl mask_execBankChannelRestore s).upd_gal rfl).step within_galEval1 rfl))

def mask_execBankSwitchFault : Nat := 0x2c79e023207981fc00000000000000000000000000000000000000000000000000000000000000000000000000000000000000000000000000000000000000000000000000000000000000000000000000800000000900

theorem within_execBankSwitchFault {b0 : Fin 48} {s : State} : WithinO mask_execBankSwitchFault s (execBankSwitchFault b0 s) := by
  unfold execBankSwitchFault
  extract_lets -merge -useContext -underBinder v0
  exact (WithinO.ite
    (WithinO.next (Within.refl mask_execBankSwitchFault s))
    (WithinO.ite
      (WithinO.next (Within.refl mask_execBankSwitchFault s))
      (WithinO.next ((((Within.refl mask_execBankSwitchFault s).setBIn (m := 0x18000000000000000000000000000000000000000000000000000000000000000000000000000000000000000000000000000000000000000000000000000000000000000000000000000000000000000) inregs_fltReg rfl).countFault key_GAL_BANK_FLT_CNT rfl rfl).step within_galEval rfl))))

end Sys2Proof.Machine
end

