-- ==== Sys2Proof/Laws/FrameCan.lean ====
section
/-! SUPPORT. What each operation and meaning of Machine/Can.lean can change: one mask and one lemma each. -/

set_option Elab.async false

namespace Sys2Proof.Machine

def mask_State_setCan : Nat := 0x200000

theorem within_State_setCan {s : State} {b1 : Nat} {b2 : CanCtl} : Within mask_State_setCan s (State.setCan s b1 b2) := by
  unfold State.setCan
  exact ((Within.refl mask_State_setCan s).upd_cans rfl)

def mask_ramWr : Nat := 0x200000000000000000000000000000000000000000000000000000000000000000000000000000000000000000000000000000000000000000000000000000000000000000000000000000000000000000000000000000000000000000000000000000000000000000000000000000000000000000000000000000000000000000000000000

theorem within_ramWr {s : State} {b1 : Nat} {b2 : Nat} {b3 : Nat} : Within mask_ramWr s (ramWr s b1 b2 b3) := by
  unfold ramWr
  exact ((Within.refl mask_ramWr s).wr32To (mem_CAN_1 _) rfl)

def mask_canShow : Nat := 0x1000016008000000fe00000000000000000000000000000000000000000000000000000000000000000000000000000000000000000000000000000000000000000000000000000000000000000000000000000000000000000000000000000000000000

theorem within_canShow {s : State} {b1 : Nat} : Within mask_canShow s (canShow s b1) := by
  unfold canShow
  extract_lets -merge -useContext -underBinder v0 v1 v2 v3 s4 v5 s6 s7 s8 s9 s10 s11
  have hs4 : Within mask_canShow s s4 :=
    (Within.ite
      (Within.refl mask_canShow s)
      ((Within.refl mask_canShow s).set (key_CAN_ESTATE _) rfl))
  have hs6 : Within mask_canShow s s6 :=
    (Within.ite
      (hs4.count (key_CAN_PASSIVE_CNT _) rfl)
      hs4)
  have hs7 : Within mask_canShow s s7 :=
    (((hs6.setB (key_CAN_ERR_PASSIVE _) rfl).setB (key_CAN_BUS_OFF _) rfl).setB (key_CAN_WARN _) rfl)
  have hs8 : Within mask_canShow s s8 :=
    (hs7.setB (key_CAN_TX_FULL _) rfl)
  have hs9 : Within mask_canShow s s9 :=
    (hs8.setB (key_CAN_TX_DONE_NE _) rfl)
  have hs10 : Within mask_canShow s s10 :=
    ((hs9.set (key_CAN_RX_LEVEL _) rfl).set (key_CAN_RX_GET _) rfl)
  have hs11 : Within mask_canShow s s11 :=
    ((hs10.setB (key_CAN_RX_NE _) rfl).setB (key_CAN_RX_FULL _) rfl)
  exact (hs11.set (key_CAN_RX_FREE_BLK _) rfl)

def mask_nominalFix : Nat := 0xb0000000000000000000000000000000000000000000000000000000000000000000000000000000000000000000000000000000000000000000000000000000000000000000000000000000000000000000000000000000000000000000

theorem within_nominalFix {s : State} {b1 : Nat} : WithinP mask_nominalFix s (nominalFix s b1) := by
  unfold nominalFix
  extract_lets -merge -useContext -underBinder v0 v1 v2 v3 v4
  exact (WithinP.mk ((((Within.refl mask_nominalFix s).set (key_CAN_N_TSEG1 _) rfl).set (key_CAN_N_SJW _) rfl).set (key_CAN_N_BRP _) rfl))

def mask_fdFix : Nat := 0x900000000000000000000000000000000000000000000000000000000000000000000000000000000000000000000000000000000000000000000000000000000000000000000000000000000000000000000000000000000000000000000

theorem within_fdFix {s : State} {b1 : Nat} : WithinP mask_fdFix s (fdFix s b1) := by
  unfold fdFix
  extract_lets -merge -useContext -underBinder v0 v1
  exact (WithinP.mk (((Within.refl mask_fdFix s).set (key_CAN_D_BRP _) rfl).set (key_CAN_D_SJW _) rfl))

def mask_xlFix : Nat := 0x1000000000000000000000000000000000000000000000000000000000000000000000000000000000000000000000000000000000000000000000000000000000000000000000000000000000000000000000000000000000000000000000

theorem within_xlFix {s : State} {b1 : Nat} : WithinP mask_xlFix s (xlFix s b1) := by
  unfold xlFix
  extract_lets -merge -useContext -underBinder v0 v1
  exact (WithinP.mk ((Within.refl mask_xlFix s).set (key_CAN_X_TIMING _) rfl))

def mask_formatFix : Nat := 0x2000000000000000000000000000000000000000000000000000000000000000000000000000000000000000000000000000000000000000000000000000000000000000000000000000000000000000000000000000000000000000000

theorem within_formatFix {s : State} {b1 : Nat} : WithinP mask_formatFix s (formatFix s b1) := by
  unfold formatFix
  exact (WithinP.ite
    (WithinP.mk ((Within.refl mask_formatFix s).setB (key_CAN_XL_EN _) rfl))
    (WithinP.mk (Within.refl mask_formatFix s)))

def mask_putFrame : Nat := 0x200000000000000000000000000000000000000000000000000000000000000000000000000000000000000000000000000000000000000000000000000000000000000000000000000000000000000000000000000000000000000000000000000000000000000000000000000000000000000000000000000000000000000000000000000

theorem within_putFrame {s : State} {b1 : Nat} {b2 : Nat} {b3 : Sys2Proof.CanFrame} {b4 : Nat} {b5 : Nat} {b6 : Nat} : Within mask_putFrame s (putFrame s b1 b2 b3 b4 b5 b6) := by
  unfold putFrame
  extract_lets -merge -useContext -underBinder v0 s1
  have hs1 : Within mask_putFrame s s1 :=
    ((Within.refl mask_putFrame s).wrBytesTo (mem_CAN_1 _) rfl)
  exact (hs1.wrBytesTo (mem_CAN_1 _) rfl)

def mask_toFifo : Nat := 0x20000000000000000000000000000000000000000000000000000000000000000001038016008000000fe00000000000000000000000000000000000000000000000000000000000000000000000000000000000000000000000000000000000000000000000000000000000000000000000000000000000000000000000001000000200000

theorem within_toFifo {s : State} {b1 : Nat} {b2 : Sys2Proof.CanFrame} {b3 : Nat} {b4 : Nat} : Within mask_toFifo s (toFifo s b1 b2 b3 b4) := by
  unfold toFifo
  extract_lets -merge -useContext -underBinder v0 v1
  exact (Within.ite
    ((Within.refl mask_toFifo s).countDrop (key_CAN_RX_OVF_CNT _) rfl rfl)
    (by
      split
      · rename_i w2 e3
        exact ((Within.refl mask_toFifo s).countDrop (key_CAN_RX_SPACE_CNT _) rfl rfl)
      · rename_i w4 w5 e6
        extract_lets -merge -useContext -underBinder v7 s8 s9
        have hs8 : Within mask_toFifo s s8 :=
          ((Within.refl mask_toFifo s).step within_putFrame rfl)
        have hs9 : Within mask_toFifo s s9 :=
          (hs8.step within_State_setCan rfl)
        exact ((hs9.count (key_CAN_RX_OK_CNT _) rfl).step within_canShow rfl) : Within mask_toFifo s _))

def mask_storeFrame : Nat := 0x200000000000000000000000000000000000000000000000000000000000000000010f8016008000000fe10000000000000000000000000000000000000000000000000000000000000000000000000000000000000000000000000000000000000000000000000000000000000000000000000000000000000000000000001000000200000

theorem within_storeFrame {s : State} {b1 : Nat} {b2 : Sys2Proof.CanFrame} {b3 : Nat} {b4 : Bool} : Within mask_storeFrame s (storeFrame s b1 b2 b3 b4) := by
  unfold storeFrame
  split
  · rename_i w0 w1 w2 w3 w4 e5
    extract_lets -merge -useContext -underBinder v6 s7
    have hs7 : Within mask_storeFrame s s7 :=
      ((Within.refl mask_storeFrame s).step within_putFrame rfl)
    exact (Within.ite
      ((Within.refl mask_storeFrame s).count (key_CAN_REJECT_CNT _) rfl)
      (Within.ite
        ((Within.refl mask_storeFrame s).step within_toFifo rfl)
        (Within.ite
          (Within.ite
            ((Within.refl mask_storeFrame s).countDrop (key_CAN_RX_OVF_CNT _) rfl rfl)
            (((Within.refl mask_storeFrame s).count (key_CAN_HPB_SPILL_CNT _) rfl).step within_toFifo rfl))
          (((hs7.setBit (key_CAN_HPB_FULL _) rfl).count (key_CAN_RX_OK_CNT _) rfl).step within_canShow rfl))))

def mask_errReg : Nat := 0x3e0000000000000000000000000000000000000000000000000000000000000000000000000000000000000000000000000000000000000000000000000000000000000000000000000000000000000000000000000000000000000000000000000000000

theorem inregs_errReg {b0 : Nat} {b1 : Sys2Proof.CanError} : InRegs mask_errReg (errReg b0 b1).key := by
  unfold errReg
  repeat' split
  · exact .of1 766 (key_CAN_STUFF_ERR_CNT _) rfl
  · exact .of1 767 (key_CAN_FORM_ERR_CNT _) rfl
  · exact .of1 768 (key_CAN_ACK_ERR_CNT _) rfl
  · exact .of1 765 (key_CAN_BIT_ERR_CNT _) rfl
  · exact .of1 765 (key_CAN_BIT_ERR_CNT _) rfl
  · exact .of1 769 (key_CAN_CRC_ERR_CNT _) rfl

def mask_txEnd : Nat := 0x200000000000000000000000000000000000000000000000000000000000000000001000009800000000000000000000000000000000000000000000000000000000000000000000000000000000000000000000000000000000000000000000000000000000000000000000000000000000000000000000000000000000000000000200000

theorem within_txEnd {s : State} {b1 : Nat} {b2 : Nat} {b3 : Nat} : Within mask_txEnd s (txEnd s b1 b2 b3) := by
  unfold txEnd
  extract_lets -merge -useContext -underBinder v0 v1 s2 s3 v4 s5 s6
  have hs2 : Within mask_txEnd s s2 :=
    ((Within.refl mask_txEnd s).step within_ramWr rfl)
  have hs3 : Within mask_txEnd s s3 :=
    ((hs2.setBit (key_CAN_TX_PEND _) rfl).setBit (key_CAN_TX_DONE _) rfl)
  have hs5 : Within mask_txEnd s s5 :=
    (hs3.step within_State_setCan rfl)
  have hs6 : Within mask_txEnd s s6 :=
    (Within.ite
      (hs5.count (key_CAN_CANCEL_CNT _) rfl)
      hs5)
  exact (Within.ite
    (hs6.setB (key_CAN_HEAD_V _) rfl)
    hs6)

def mask_txFailed : Nat := 0x20000000000000000000000000000000000000000000000000000000000000000000100000b800000000000000000000000000000000000000000000000000000000000000000000000000000000000000000000000000000000000000000000000000000000000000000000000000000000000000000000000000000000000000000200000

theorem within_txFailed {s : State} {b1 : Nat} : Within mask_txFailed s (txFailed s b1) := by
  unfold txFailed
  extract_lets -merge -useContext -underBinder v0 v1 s2
  have hs2 : Within mask_txFailed s s2 :=
    (((Within.refl mask_txFailed s).setB (key_CAN_TX_ACT_V _) rfl).step within_State_setCan rfl)
  exact (Within.ite
    (Within.refl mask_txFailed s)
    (Within.ite
      (hs2.step within_txEnd rfl)
      hs2))

def mask_busOff : Nat := 0x2000000000000000000000000000000000000000000000000000000000000000000190001fb89000000ff00000000000000000000000000000000000000000000000000000000000000000000000000000000000000000000000000000000000000000000000000000000000000000000000000000000000000000000000000000000200000

theorem within_busOff {s : State} {b1 : Nat} : Within mask_busOff s (busOff s b1) := by
  unfold busOff
  extract_lets -merge -useContext -underBinder s0 v1 v2 s3 s4 s5
  have hs0 : Within mask_busOff s s0 :=
    ((((Within.refl mask_busOff s).set (key_CAN_ESTATE _) rfl).set (key_CAN_TEC _) rfl).count (key_CAN_BUSOFF_CNT _) rfl)
  have hs3 : Within mask_busOff s s3 :=
    (hs0.step within_txFailed rfl)
  have hs4 : Within mask_busOff s s4 :=
    (Within.ite
      ((hs3.setB (key_CAN_HEAD_V _) rfl).set (key_CAN_HEAD_IDX _) rfl)
      hs3)
  have hs5 : Within mask_busOff s s5 :=
    ((hs4.setB (key_CAN_RECOVERING _) rfl).set (key_CAN_REC_SEQ _) rfl)
  exact (hs5.step within_canShow rfl)

def mask_errCounts : Nat := 0x30000000000000000000000000000000000000000000000000000000000000000000000000000000000000000000000000000000000000000000000000000000000000000000000000000000000000000000000000000000000000000000000

theorem within_errCounts {s : State} {b1 : Nat} {b2 : Sys2Proof.CanError} {b3 : Bool} {b4 : Bool} : Within mask_errCounts s (errCounts s b1 b2 b3 b4) := by
  unfold errCounts
  exact (Within.ite
    (Within.ite
      (Within.refl mask_errCounts s)
      ((Within.refl mask_errCounts s).set (key_CAN_TEC _) rfl))
    ((Within.refl mask_errCounts s).setSat (key_CAN_REC _) rfl))

def mask_canError : Nat := 0x2000000000000000000000000000000000000000000000000000000000000000003f90001fb8f000000ff00000000000000000000000000000000000000000000000000000000000000000000000000000000000000000000000000000000000000000000000000000000000000000000000000000000000000000000000000800000200000

theorem within_canError {s : State} {b1 : Nat} {b2 : Sys2Proof.CanError} {b3 : Bool} {b4 : Bool} : Within mask_canError s (canError s b1 b2 b3 b4) := by
  unfold canError
  extract_lets -merge -useContext -underBinder s0 s1
  have hs0 : Within mask_canError s s0 :=
    (((Within.refl mask_canError s).countFaultIn (m := 0x3e0000000000000000000000000000000000000000000000000000000000000000000000000000000000000000000000000000000000000000000000000000000000000000000000000000000000000000000000000000000000000000000000000000000) inregs_errReg rfl rfl).set (key_CAN_LEC _) rfl)
  have hs1 : Within mask_canError s s1 :=
    (hs0.step within_errCounts rfl)
  exact (Within.ite
    (hs1.step within_busOff rfl)
    ((Within.ite
      (hs1.step within_txFailed rfl)
      hs1).step within_canShow rfl))

def mask_recGood : Nat := 0x20000000000000000000000000000000000000000000000000000000000000000000000000000000000000000000000000000000000000000000000000000000000000000000000000000000000000000000000000000000000000000000100

theorem within_recGood {s : State} {b1 : Nat} : Within mask_recGood s (recGood s b1) := by
  unfold recGood
  extract_lets -merge -useContext -underBinder v0
  exact (Within.ite
    (((Within.refl mask_recGood s).step within_State_draw rfl).set (key_CAN_REC _) rfl)
    ((Within.refl mask_recGood s).set (key_CAN_REC _) rfl))

def mask_canReceive : Nat := 0x2000000000000000000000000000000000000000000000000000000000000000007f9f801fb8f000000ff10000000000000000000000000000000000000000000000000000000000000000000000000000000000000000000000000000000000000000000000000000000000000000000000000000000000000000000000001800000200100

theorem within_canReceive {s : State} {b1 : Nat} {b2 : Sys2Proof.CanFrame} {b3 : Nat} : WithinP mask_canReceive s (canReceive s b1 b2 b3) := by
  unfold canReceive
  exact (WithinP.ite
    (WithinP.mk (Within.refl mask_canReceive s))
    (WithinP.ite
      (WithinP.ite
        (WithinP.mk ((Within.refl mask_canReceive s).count (key_CAN_PEX_CNT _) rfl))
        (WithinP.mk ((Within.refl mask_canReceive s).step within_canError rfl)))
      (WithinP.mk ((((Within.refl mask_canReceive s).step within_recGood rfl).step within_canShow rfl).step within_storeFrame rfl))))

def mask_txPush : Nat := 0x20000000000000000000000000000000000000000000000000000000000000000001000016088000000fe00000000000000000000000000000000000000000000000000000000000000000000000000000000000000000000000000000000000000000000000000000000000000000000000000000000000000000000000000000000200000

theorem within_txPush {s : State} {b1 : Nat} {b2 : Nat} {b3 : Bool} : WithinP mask_txPush s (txPush s b1 b2 b3) := by
  unfold txPush
  extract_lets -merge -useContext -underBinder v0 v1 v2 v3 v4 v5 v6 s7 s8
  have hs7 : Within mask_txPush s s7 :=
    ((Within.refl mask_txPush s).step within_ramWr rfl)
  have hs8 : Within mask_txPush s s8 :=
    (hs7.step within_State_setCan rfl)
  exact (WithinP.ite
    (WithinP.mk (Within.refl mask_txPush s))
    (WithinP.mk ((hs8.setBit (key_CAN_TX_PEND _) rfl).step within_canShow rfl)))

def mask_txRelease : Nat := 0x1000016108000000fe00000000000000000000000000000000000000000000000000000000000000000000000000000000000000000000000000000000000000000000000000000000000000000000000000000000000000000000000000000000000000

theorem within_txRelease {s : State} {b1 : Nat} {b2 : Nat} {b3 : Bool} : WithinP mask_txRelease s (txRelease s b1 b2 b3) := by
  unfold txRelease
  exact (WithinP.ite
    (WithinP.mk (Within.refl mask_txRelease s))
    (WithinP.mk (((Within.refl mask_txRelease s).setBit (key_CAN_TX_DONE _) rfl).step within_canShow rfl)))

def mask_txCancel : Nat := 0x20000000000000000000000000000000000000000000000000000000000000000001300016988000000fe00000000000000000000000000000000000000000000000000000000000000000000000000000000000000000000000000000000000000000000000000000000000000000000000000000000000000000000000000000000200000

theorem within_txCancel {s : State} {b1 : Nat} {b2 : Nat} : WithinP mask_txCancel s (txCancel s b1 b2) := by
  unfold txCancel
  extract_lets -merge -useContext -underBinder v0 v1 s2
  have hs2 : Within mask_txCancel s s2 :=
    ((Within.refl mask_txCancel s).step within_State_setCan rfl)
  exact (WithinP.ite
    (WithinP.mk (Within.refl mask_txCancel s))
    (WithinP.ite
      (WithinP.mk (((Within.refl mask_txCancel s).step within_txEnd rfl).step within_canShow rfl))
      (WithinP.mk (Within.ite
        (hs2.count (key_CAN_LATE_CNT _) rfl)
        hs2))))

def mask_attempt : Nat := 0x200000000000000000000000000000000000000000000000000000000000000000000000000000000000000000000000000000000000000000000000000000000000000000000000000000000000000000000000000000000000000000000000000000000000000000000000000000000000000000000000000000000000000000000000000

theorem within_attempt {s : State} {b1 : Nat} {b2 : Nat} : Within mask_attempt s (attempt s b1 b2) := by
  unfold attempt
  extract_lets -merge -useContext -underBinder v0 v1
  exact ((Within.refl mask_attempt s).step within_ramWr rfl)

def mask_tdcMeasured : Nat := 0x8000000000000000000000000000000000000000000000000000000000000000000000000000000000000000000000000000000000000000000000000000000000000000000000000000000000000000000000000000000000000000000000

theorem within_tdcMeasured {s : State} {b1 : Nat} {b2 : Nat} {b3 : Option Nat} : Within mask_tdcMeasured s (tdcMeasured s b1 b2 b3) := by
  unfold tdcMeasured
  extract_lets -merge -useContext -underBinder v0
  split
  · rename_i w1 w2
    exact (Within.ite
      ((Within.refl mask_tdcMeasured s).setSat (key_CAN_TDC_MEAS _) rfl)
      (Within.refl mask_tdcMeasured s))
  · rename_i w3
    exact (Within.refl mask_tdcMeasured s)

def mask_txCommand : Nat := 0x20000000000000000000000000000000000000000000000000000000000000000001300016988000000fe00000000000000000000000000000000000000000000000000000000000000000000000000000000000000000000000000000000000000000000000000000000000000000000000000000000000000000000000000000000200000

theorem within_txCommand {s : State} {b1 : Nat} {b2 : Nat} : WithinP mask_txCommand s (txCommand s b1 b2) := by
  unfold txCommand
  exact (WithinP.ite
    ((Within.refl mask_txCommand s).stepP within_txPush rfl)
    (WithinP.ite
      ((Within.refl mask_txCommand s).stepP within_txCancel rfl)
      (WithinP.ite
        ((Within.refl mask_txCommand s).stepP within_txRelease rfl)
        (WithinP.mk (Within.refl mask_txCommand s)))))

def mask_canCommand : Nat := 0x80000000000100000000000000000000000000000000000000000000000000000000000000000000000000000000000000000000000000000000000000000000000000000000000000000000000000000000000000000000000000000000000000

theorem within_canCommand {s : State} {b1 : Nat} {b2 : Nat} : WithinP mask_canCommand s (canCommand s b1 b2) := by
  unfold canCommand
  exact (WithinP.ite
    (WithinP.mk (Within.refl mask_canCommand s))
    (WithinP.mk (((Within.refl mask_canCommand s).setB (key_CAN_RECOVERING _) rfl).set (key_CAN_REC_SEQ _) rfl)))

def mask_rxAck : Nat := 0x1000016008000000fe10000000000000000000000000000000000000000000000000000000000000000000000000000000000000000000000000000000000000000000000000000000000000000000000000000000000000000000000000000000200000

theorem within_rxAck {s : State} {b1 : Nat} {b2 : Nat} : WithinP mask_rxAck s (rxAck s b1 b2) := by
  unfold rxAck
  extract_lets -merge -useContext -underBinder v0 v1 v2
  exact (WithinP.ite
    (WithinP.ite
      (WithinP.mk (Within.refl mask_rxAck s))
      (WithinP.mk (((Within.refl mask_rxAck s).step within_State_setCan rfl).step within_canShow rfl)))
    (WithinP.ite
      (WithinP.ite
        (WithinP.mk (Within.refl mask_rxAck s))
        (WithinP.mk ((Within.refl mask_rxAck s).setBit (key_CAN_HPB_FULL _) rfl)))
      (WithinP.mk (Within.refl mask_rxAck s))))

def mask_canLpWritten : Nat := 0xc0000000000000000000000000000000000000000000000000000000000000000000000000000000000000000000000000000000000000000000000000000000000000000000000000000000000000000000000000080000000000

theorem within_canLpWritten {s : State} {b1 : Nat} : Within mask_canLpWritten s (canLpWritten s b1) := by
  unfold canLpWritten
  exact (Within.ite
    (Within.refl mask_canLpWritten s)
    ((((Within.refl mask_canLpWritten s).setB (key_CAN_SLEEP _) rfl).setB (key_CAN_WAKE_EV _) rfl).setB (key_HDR_LP _) rfl))

def mask_canEnWritten : Nat := 0x80000000000100000000000000000000000000000000000000000000000000000000000000000000000000000000000000000000000000000000000000000000000000000000000000000000000000000000000000000000000000000000000000

theorem within_canEnWritten {b0 : Bool} {s : State} {b2 : Nat} : Within mask_canEnWritten s (canEnWritten b0 s b2) := by
  unfold canEnWritten
  extract_lets -merge -useContext -underBinder s0
  have hs0 : Within mask_canEnWritten s s0 :=
    ((Within.refl mask_canEnWritten s).set (key_CAN_REC_SEQ _) rfl)
  exact (Within.ite
    (Within.refl mask_canEnWritten s)
    (Within.ite
      (hs0.setB (key_CAN_RECOVERING _) rfl)
      hs0))

def mask_recessiveCount : Nat := 0x80000000000000000000000000000000000000000000000000000000000000000000000000000000000000000000000000000000000000000000000000000000000000000000000000000000000000000000000000000000000000000000000000

theorem within_recessiveCount {s : State} : Within mask_recessiveCount s (recessiveCount s) := by
  unfold recessiveCount
  exact ((Within.refl mask_recessiveCount s).eachUpTo fun t0 x0 hl0 =>
    (Within.ite
      (hl0.set (key_CAN_REC_SEQ _) rfl)
      hl0))

def mask_ramWipe : Nat := 0x200000000000000000000000000000000000000000000000000000000000000000000000000000000000000000000000000000000000000000000000000000000000000000000000000000000000000000000000000000000000000000000000000000000000000000000000000000000000000000000000000000000000000000000000000

theorem within_ramWipe {s : State} {b1 : Nat} : Within mask_ramWipe s (ramWipe s b1) := by
  unfold ramWipe
  exact ((Within.refl mask_ramWipe s).wipeSpaceTo (mem_CAN_1 _) rfl)

def mask_execCanTxStart : Nat := 0x20000000000000000000000000000000000000000000000000000000000000000001700016f88000000fe00000000000000000000000000000000000000000000000000000000000000000000000000000000000000000000000000000000000000000000000000000000000000000000000000000000000000000000000000000000200000

theorem within_execCanTxStart {b0 : Fin 4} {b1 : Sys2Proof.ArbStep} {s : State} : WithinO mask_execCanTxStart s (execCanTxStart b0 b1 s) := by
  unfold execCanTxStart
  extract_lets -merge -useContext -underBinder v0 v1 v2
  exact (WithinO.ite
    (WithinO.next (Within.refl mask_execCanTxStart s))
    (by
      split
      · rename_i w3
        exact (WithinO.ite
          (WithinO.next (Within.refl mask_execCanTxStart s))
          (by
            split
            · rename_i w4 e5
              exact (WithinO.next (Within.refl mask_execCanTxStart s))
            · rename_i w6 w7 e8
              exact (WithinO.next ((((Within.refl mask_execCanTxStart s).setB (key_CAN_TX_ACT_V _) rfl).set (key_CAN_TX_ACT _) rfl).step within_attempt rfl)) : WithinO mask_execCanTxStart s _))
      · rename_i w9
        extract_lets -merge -useContext -underBinder s10
        have hs10 : Within mask_execCanTxStart s s10 :=
          ((Within.refl mask_execCanTxStart s).step within_State_setCan rfl)
        exact (WithinO.ite
          (WithinO.next (Within.refl mask_execCanTxStart s))
          (WithinO.next (Within.ite
            (hs10.count (key_CAN_LATE_CNT _) rfl)
            hs10)))
      · rename_i w11
        exact (WithinO.ite
          (WithinO.next (Within.refl mask_execCanTxStart s))
          (WithinO.next ((((Within.refl mask_execCanTxStart s).count (key_CAN_ARB_LOST_CNT _) rfl).step within_txFailed rfl).step within_canShow rfl))) : WithinO mask_execCanTxStart s _))

def mask_execCanTxComplete : Nat := 0x200000000000000000000000000000000000000000000000000000000000000000011fc016b89800000fe10000000000000000000000000000000000000000000000000000000000000000000000000000000000000000000000000000000000000000000000000000000000000000000000000000000000000000000000001000000200000

theorem within_execCanTxComplete {b0 : Fin 4} {b1 : Nat} {b2 : Nat} {s : State} : WithinO mask_execCanTxComplete s (execCanTxComplete b0 b1 b2 s) := by
  unfold execCanTxComplete
  extract_lets -merge -useContext -underBinder v0 v1 v2 v3 s4 s5 s6 s7 s8 s9
  have hs4 : Within mask_execCanTxComplete s s4 :=
    (Within.ite
      ((Within.refl mask_execCanTxComplete s).setB (key_CAN_HEAD_V _) rfl)
      (Within.refl mask_execCanTxComplete s))
  have hs5 : Within mask_execCanTxComplete s s5 :=
    ((hs4.setB (key_CAN_TX_ACT_V _) rfl).step within_State_setCan rfl)
  have hs6 : Within mask_execCanTxComplete s s6 :=
    (hs5.step within_ramWr rfl)
  have hs7 : Within mask_execCanTxComplete s s7 :=
    ((hs6.step within_txEnd rfl).count (key_CAN_TX_OK_CNT _) rfl)
  have hs8 : Within mask_execCanTxComplete s s8 :=
    (hs7.set (key_CAN_TEC _) rfl)
  have hs9 : Within mask_execCanTxComplete s s9 :=
    ((hs8.step within_tdcMeasured rfl).step within_canShow rfl)
  exact (WithinO.ite
    (WithinO.next (Within.refl mask_execCanTxComplete s))
    (WithinO.next (Within.ite
      (hs9.step within_storeFrame rfl)
      hs9)))

def mask_execCanBusError : Nat := 0x2000000000000000000000000000000000000000000000000000000000000000003f90001fb8f800000ff00000000000000000000000000000000000000000000000000000000000000000000000000000000000000000000000000000000000000000000000000000000000000000000000000000000000000000000000000800000200000

theorem within_execCanBusError {b0 : Fin 4} {b1 : Sys2Proof.CanError} {b2 : Sys2Proof.CanSide} {b3 : Bool} {s : State} : WithinO mask_execCanBusError s (execCanBusError b0 b1 b2 b3 s) := by
  unfold execCanBusError
  extract_lets -merge -useContext -underBinder v0 s1
  have hs1 : Within mask_execCanBusError s s1 := by
    unfold s1
    split
    · rename_i w2 w3
      exact (Within.ite
        ((Within.refl mask_execCanBusError s).step within_tdcMeasured rfl)
        (Within.refl mask_execCanBusError s))
    · rename_i w4
      exact (Within.refl mask_execCanBusError s)
  exact (WithinO.ite
    (WithinO.next (Within.refl mask_execCanBusError s))
    (WithinO.next (hs1.step within_canError rfl)))

def mask_execCanRecoveryDone : Nat := 0x100001e00b000000ff00000000000000000000000000000000000000000000000000000000000000000000000000000000000000000000000000000000000000000000000000000000000000000000000000000000000000000000000000000000000000

theorem within_execCanRecoveryDone {b0 : Fin 4} {s : State} : WithinO mask_execCanRecoveryDone s (execCanRecoveryDone b0 s) := by
  unfold execCanRecoveryDone
  extract_lets -merge -useContext -underBinder s0
  have hs0 : Within mask_execCanRecoveryDone s s0 :=
    ((((Within.refl mask_execCanRecoveryDone s).set (key_CAN_TEC _) rfl).set (key_CAN_REC _) rfl).set (key_CAN_ESTATE _) rfl)
  exact (WithinO.ite
    (WithinO.next (Within.refl mask_execCanRecoveryDone s))
    (WithinO.next (((hs0.setB (key_CAN_RECOVERING _) rfl).set (key_CAN_REC_SEQ _) rfl).step within_canShow rfl)))

def mask_execCanSleepEnter : Nat := 0x80000000000000000000000000000000000000000000000000000000000000000000000000000000000000000000000000000000000000000000000000000000000000000000000000000000000000000000000000080000200000

theorem within_execCanSleepEnter {b0 : Fin 4} {s : State} : WithinO mask_execCanSleepEnter s (execCanSleepEnter b0 s) := by
  unfold execCanSleepEnter
  extract_lets -merge -useContext -underBinder v0 s1
  have hs1 : Within mask_execCanSleepEnter s s1 :=
    ((Within.refl mask_execCanSleepEnter s).step within_State_setCan rfl)
  exact (WithinO.ite
    (WithinO.next (Within.refl mask_execCanSleepEnter s))
    (WithinO.next ((hs1.setB (key_CAN_SLEEP _) rfl).setB (key_HDR_LP _) rfl)))

def mask_execCanLocalWake : Nat := 0x800000200000000000040000000000000000000000000000000000000000000000000000000000000000000000000000000000000000000000000000000000000000000000000000000000000000000000000000000000000000000000000000000200000

theorem within_execCanLocalWake {b0 : Fin 4} {b1 : Sys2Proof.CanWake} {s : State} : WithinO mask_execCanLocalWake s (execCanLocalWake b0 b1 s) := by
  unfold execCanLocalWake
  exact (WithinO.ite
    (WithinO.next (Within.refl mask_execCanLocalWake s))
    (by
      split
      · rename_i w0 w1 w2 e3
        extract_lets -merge -useContext -underBinder v4 s5
        have hs5 : Within mask_execCanLocalWake s s5 :=
          ((Within.refl mask_execCanLocalWake s).step within_State_setCan rfl)
        split
        · rename_i w6
          exact (WithinO.next hs5)
        · rename_i w7 w8
          exact (WithinO.next (((hs5.setB (key_CAN_WAKE_EV _) rfl).count (key_CAN_LWAKE_CNT _) rfl).set (key_CAN_WAKE_SRC _) rfl)) : WithinO mask_execCanLocalWake s _))

end Sys2Proof.Machine
end

