-- ==== Sys2Proof/Laws/FrameSafetyEval.lean ====
section
/-! SUPPORT. What each operation and meaning of Machine/SafetyEval.lean can change: one mask and one lemma each. -/

set_option Elab.async false

namespace Sys2Proof.Machine

def mask_State_setChan : Nat := 0x1000

theorem within_State_setChan {s : State} {b1 : Sys2Proof.Channel} {b2 : Chan} : Within mask_State_setChan s (State.setChan s b1 b2) := by
  unfold State.setChan
  split
  · rename_i w0
    extract_lets -merge -useContext -underBinder v1
    exact ((Within.refl mask_State_setChan s).upd_saf rfl)
  · rename_i w2
    extract_lets -merge -useContext -underBinder v3
    exact ((Within.refl mask_State_setChan s).upd_saf rfl)

def mask_latchReg : Nat := 0x20000000000400000000000000000000000000000000000000000000000000000000

theorem inregs_latchReg {b0 : Sys2Proof.Channel} : InRegs mask_latchReg (latchReg b0).key := by
  unfold latchReg
  repeat' split
  · exact .of1 194 key_SAFM_LATCH_SAF rfl
  · exact .of1 237 key_COLM_LATCH_COL rfl

def mask_setLatch : Nat := 0x20000000000400000000000000000000000000000000000000000000000000000000

theorem within_setLatch {s : State} {b1 : Sys2Proof.Channel} {b2 : Nat} : Within mask_setLatch s (setLatch s b1 b2) := by
  unfold setLatch
  exact ((Within.refl mask_setLatch s).setBitIn (m := 0x20000000000400000000000000000000000000000000000000000000000000000000) inregs_latchReg rfl)

def mask_safetyShow : Nat := 0x27e30001fffe60c008bc31e0000000000000000000000000000000000000000000000000000

theorem within_safetyShow {s : State} : Within mask_safetyShow s (safetyShow s) := by
  unfold safetyShow
  extract_lets -merge -useContext -underBinder s0 s1 s2 s3 s4 s5 s6 s7 s8 s9 s10 s11 s12 s13 s14 s15 s16 s17 s18 s19 s20 s21 s22 s23 s24 s25 s26 s27 s28 s29 s30 s31 s32 s33 s34 s35 s36 s37 s38 s39
  have hs0 : Within mask_safetyShow s s0 :=
    ((Within.refl mask_safetyShow s).set key_SAFM_CL_OK_SAF rfl)
  have hs1 : Within mask_safetyShow s s1 :=
    (hs0.set key_COLM_CL_OK_COL rfl)
  have hs2 : Within mask_safetyShow s s2 :=
    (hs1.set key_SAFM_EGR_OP_SAF rfl)
  have hs3 : Within mask_safetyShow s s3 :=
    (hs2.set key_COLM_EGR_OP_COL rfl)
  have hs4 : Within mask_safetyShow s s4 :=
    (hs3.setB key_SAFM_ZS rfl)
  have hs5 : Within mask_safetyShow s s5 :=
    (hs4.setB key_SAFM_TH_ACT rfl)
  have hs6 : Within mask_safetyShow s s6 :=
    (hs5.setB key_SAFM_ESTOP rfl)
  have hs7 : Within mask_safetyShow s s7 :=
    (hs6.setB key_SAFM_LATCH rfl)
  have hs8 : Within mask_safetyShow s s8 :=
    (hs7.set key_SAFM_SRC rfl)
  have hs9 : Within mask_safetyShow s s9 :=
    (hs8.set key_SAFM_EGR_DISC_M rfl)
  have hs10 : Within mask_safetyShow s s10 :=
    (hs9.set key_SAFM_EDGE_FLT rfl)
  have hs11 : Within mask_safetyShow s s11 :=
    (hs10.set key_SAFM_EDGE_L_ACT rfl)
  have hs12 : Within mask_safetyShow s s12 :=
    (hs11.set key_SAFM_EDGE_R_ACT rfl)
  have hs13 : Within mask_safetyShow s s13 :=
    (hs12.set key_SAFM_LC_INT rfl)
  have hs14 : Within mask_safetyShow s s14 :=
    (hs13.setB key_COLM_ESTOP rfl)
  have hs15 : Within mask_safetyShow s s15 :=
    (hs14.setB key_COLM_LATCH rfl)
  have hs16 : Within mask_safetyShow s s16 :=
    (hs15.setB key_COLM_ESTOP_1 rfl)
  have hs17 : Within mask_safetyShow s s17 :=
    (hs16.setB key_COLM_ESTOP_2 rfl)
  have hs18 : Within mask_safetyShow s s18 :=
    (hs17.setB key_COLM_ZS_A rfl)
  have hs19 : Within mask_safetyShow s s19 :=
    (hs18.setB key_COLM_ZS_B rfl)
  have hs20 : Within mask_safetyShow s s20 :=
    (hs19.setB key_COLM_REL_LEFT rfl)
  have hs21 : Within mask_safetyShow s s21 :=
    (hs20.setB key_COLM_REL_RIGHT rfl)
  have hs22 : Within mask_safetyShow s s22 :=
    (hs21.setB key_COLM_EDM_A rfl)
  have hs23 : Within mask_safetyShow s s23 :=
    (hs22.setB key_COLM_EDM_B rfl)
  have hs24 : Within mask_safetyShow s s24 :=
    (hs23.setB key_COLM_TH_A_NO rfl)
  have hs25 : Within mask_safetyShow s s25 :=
    (hs24.setB key_COLM_TH_A_NC rfl)
  have hs26 : Within mask_safetyShow s s26 :=
    (hs25.setB key_COLM_TH_B_NO rfl)
  have hs27 : Within mask_safetyShow s s27 :=
    (hs26.setB key_COLM_TH_B_NC rfl)
  have hs28 : Within mask_safetyShow s s28 :=
    (hs27.setB key_COLM_RESET rfl)
  have hs29 : Within mask_safetyShow s s29 :=
    (hs28.setB key_COLM_DEPOT rfl)
  have hs30 : Within mask_safetyShow s s30 :=
    (hs29.set key_COLM_LC_A rfl)
  have hs31 : Within mask_safetyShow s s31 :=
    (hs30.set key_COLM_LC_B rfl)
  have hs32 : Within mask_safetyShow s s32 :=
    (hs31.setB key_CYC_REL_L_HW rfl)
  have hs33 : Within mask_safetyShow s s33 :=
    (hs32.setB key_CYC_REL_R_HW rfl)
  have hs34 : Within mask_safetyShow s s34 :=
    (hs33.setB key_CYC_ZS_HW rfl)
  have hs35 : Within mask_safetyShow s s35 :=
    (hs34.setB key_CYC_REL_L_TG rfl)
  have hs36 : Within mask_safetyShow s s36 :=
    (hs35.setB key_CYC_REL_R_TG rfl)
  have hs37 : Within mask_safetyShow s s37 :=
    (hs36.setB key_CYC_ZS_TG rfl)
  have hs38 : Within mask_safetyShow s s38 :=
    (hs37.set key_CYC_CLOK_MASK rfl)
  have hs39 : Within mask_safetyShow s s39 :=
    (hs38.set key_CYC_INSVC_MASK rfl)
  exact (hs39.set key_CYC_SIDE_MASK rfl)

def mask_doorShow : Nat := 0x47ffe0000000000000000000000000000000000000000000000000000000000000000000000000000

theorem within_doorShow {s : State} {b1 : Nat} : Within mask_doorShow s (doorShow s b1) := by
  unfold doorShow
  extract_lets -merge -useContext -underBinder s0 s1 s2 s3 s4 s5 s6 s7 s8 s9 s10 s11 s12 v13 s14
  have hs0 : Within mask_doorShow s s0 :=
    ((Within.refl mask_doorShow s).setB (key_CYCD_IN_SVC _) rfl)
  have hs1 : Within mask_doorShow s s1 :=
    (hs0.setB (key_CYCD_STEP_FIT _) rfl)
  have hs2 : Within mask_doorShow s s2 :=
    (hs1.setB (key_CYCD_SIDE _) rfl)
  have hs3 : Within mask_doorShow s s3 :=
    (hs2.setB (key_CYCD_OP_SAF _) rfl)
  have hs4 : Within mask_doorShow s s4 :=
    (hs3.setB (key_CYCD_OP_COL _) rfl)
  have hs5 : Within mask_doorShow s s5 :=
    (hs4.setB (key_CYCD_LOCK_GATE _) rfl)
  have hs6 : Within mask_doorShow s s6 :=
    (hs5.setB (key_CYCD_CL_OK _) rfl)
  have hs7 : Within mask_doorShow s s7 :=
    (hs6.setB (key_CYCD_DCL_L _) rfl)
  have hs8 : Within mask_doorShow s s8 :=
    (hs7.setB (key_CYCD_DCL_R _) rfl)
  have hs9 : Within mask_doorShow s s9 :=
    (hs8.setB (key_CYCD_LOCKFB _) rfl)
  have hs10 : Within mask_doorShow s s10 :=
    (hs9.setB (key_CYCD_STOWED _) rfl)
  have hs11 : Within mask_doorShow s s11 :=
    (hs10.setB (key_CYCD_EGR_OP _) rfl)
  have hs12 : Within mask_doorShow s s12 :=
    (hs11.setB (key_CYCD_ISOL _) rfl)
  have hs14 : Within mask_doorShow s s14 :=
    (hs12.setB (key_CYCD_ISOL_PEND _) rfl)
  exact (hs14.setB (key_CYCD_TH_ACTIVE _) rfl)

def mask_chanFollow : Nat := 0x1000

theorem within_chanFollow {s : State} {b1 : Sys2Proof.Channel} {b2 : Bool} {b3 : Bool} : Within mask_chanFollow s (chanFollow s b1 b2 b3) := by
  unfold chanFollow
  extract_lets -merge -useContext -underBinder v0
  exact ((Within.refl mask_chanFollow s).step within_State_setChan rfl)

def mask_edmFollow : Nat := 0x1000

theorem within_edmFollow {b0 : State} {s : State} : Within mask_edmFollow s (edmFollow b0 s) := by
  unfold edmFollow
  extract_lets -merge -useContext -underBinder v0 v1 v2 s3 v4 s5
  have hs3 : Within mask_edmFollow s s3 :=
    (Within.ite
      ((Within.refl mask_edmFollow s).upd_saf rfl)
      (Within.refl mask_edmFollow s))
  have hs5 : Within mask_edmFollow s s5 :=
    (Within.ite
      (hs3.upd_saf rfl)
      hs3)
  exact ((hs5.step within_chanFollow rfl).step within_chanFollow rfl)

def mask_adclDrive : Nat := 0x1800000000032000000600000000000000000000000000000000000000000000000001000

theorem within_adclDrive {s : State} : Within mask_adclDrive s (adclDrive s) := by
  unfold adclDrive
  extract_lets -merge -useContext -underBinder s0 s1 v2 v3 s4 s5
  have hs0 : Within mask_adclDrive s s0 :=
    (((Within.refl mask_adclDrive s).setB key_CYC_ADCL_SAF rfl).setB key_CYC_ADCL_COL rfl)
  have hs1 : Within mask_adclDrive s s1 :=
    hs0
  have hs4 : Within mask_adclDrive s s4 :=
    ((hs0.setB key_SAFM_ADCL_A_ON rfl).setB key_SAFM_ADCL_A_RB rfl)
  have hs5 : Within mask_adclDrive s s5 :=
    (((hs4.setB key_COLM_ADCL_B_ON rfl).setB key_COLM_ADCL_B_RB rfl).setB key_COLM_ADCL_ALLOW rfl)
  exact (hs5.step within_edmFollow rfl)

def mask_permitStop : Nat := 0x400

theorem within_permitStop {b0 : Nat} {s : State} {b2 : Nat} : Within mask_permitStop s (permitStop b0 s b2) := by
  unfold permitStop
  extract_lets -merge -useContext -underBinder v0 v1 v2
  exact (Within.ite
    ((Within.refl mask_permitStop s).step within_axAsk rfl)
    (Within.refl mask_permitStop s))

def mask_sendReversal : Nat := 0x10000000000000000000000000000000000000000000000000000001000

theorem within_sendReversal {s : State} {b1 : Nat} : Within mask_sendReversal s (sendReversal s b1) := by
  unfold sendReversal
  extract_lets -merge -useContext -underBinder s0 v1
  have hs0 : Within mask_sendReversal s s0 :=
    ((Within.refl mask_sendReversal s).count key_SAFM_REV_REQ_CNT rfl)
  exact (Within.ite
    (Within.refl mask_sendReversal s)
    (hs0.upd_saf rfl))

def mask_obstacles : Nat := 0x10000000000000000000000000000000000000000000000000000003000

theorem within_obstacles {s : State} {b1 : Nat} : Within mask_obstacles s (obstacles s b1) := by
  unfold obstacles
  extract_lets -merge -useContext -underBinder v0 v1 v2 v3 s4 s5 s6
  have hs4 : Within mask_obstacles s s4 :=
    (Within.ite
      ((Within.refl mask_obstacles s).step within_State_source rfl)
      (Within.refl mask_obstacles s))
  have hs5 : Within mask_obstacles s s5 :=
    (Within.ite
      (hs4.step within_State_source rfl)
      hs4)
  have hs6 : Within mask_obstacles s s6 :=
    (Within.ite
      (hs5.step within_State_source rfl)
      hs5)
  exact (Within.ite
    (Within.refl mask_obstacles s)
    (Within.ite
      (hs6.step within_sendReversal rfl)
      hs6))

def mask_watchSync : Nat := 0x1000

theorem within_watchSync {s : State} {b1 : Nat} : Within mask_watchSync s (watchSync s b1) := by
  unfold watchSync
  extract_lets -merge -useContext -underBinder v0
  exact (Within.ite
    ((Within.refl mask_watchSync s).upd_saf rfl)
    (Within.refl mask_watchSync s))

def mask_safetyPermits : Nat := 0x18000000000190000203c000000000000000000000000000000000000000000000000001000

theorem within_safetyPermits {s : State} : Within mask_safetyPermits s (safetyPermits s) := by
  unfold safetyPermits
  extract_lets -merge -useContext -underBinder v0 s1 v2 s3 s4 s5 s6 s7 s8 s9 s10 s11
  have hs1 : Within mask_safetyPermits s s1 :=
    ((Within.refl mask_safetyPermits s).step within_State_setChan rfl)
  have hs3 : Within mask_safetyPermits s s3 :=
    (hs1.step within_State_setChan rfl)
  have hs4 : Within mask_safetyPermits s s4 :=
    (hs3.set key_SAFM_OP_SAF_M rfl)
  have hs5 : Within mask_safetyPermits s s5 :=
    (hs4.set key_COLM_OP_COL_M rfl)
  have hs6 : Within mask_safetyPermits s s6 :=
    ((hs5.set key_CYC_OP_SAF_MASK rfl).set key_CYC_OP_COL_MASK rfl)
  have hs7 : Within mask_safetyPermits s s7 :=
    (hs6.set key_SAFM_LOCK_EN_SAF rfl)
  have hs8 : Within mask_safetyPermits s s8 :=
    (hs7.set key_COLM_LOCK_EN_COL rfl)
  have hs9 : Within mask_safetyPermits s s9 :=
    (hs8.eachAx fun t12 x12 hl12 =>
      (Within.ite
        (hl12.setBit key_SAFM_ENC_HOLD rfl)
        hl12))
  have hs10 : Within mask_safetyPermits s s10 :=
    (hs9.set key_SAFM_MOT_PERMIT rfl)
  have hs11 : Within mask_safetyPermits s s11 :=
    (hs10.set key_SAFM_TQ_PERMIT rfl)
  exact (hs11.set key_COLM_TEN_MASK rfl)

def mask_safetyEval : Nat := 0x2c79e0032079807c00000000000000000000000000000000017e00000800000000000000000273c0013d00000000047ffe03ffb0001fffff3e01ebff7e0000000000000000000000000000000000000000820000003d00

theorem within_safetyEval {s : State} : Within mask_safetyEval s (safetyEval s) := by
  unfold safetyEval
  extract_lets -merge -useContext -underBinder f0 v1 v2 s3 s4 s5 s6 s7 s8 s9 s10 s11
  have hs3 : Within mask_safetyEval s s3 :=
    ((Within.refl mask_safetyEval s).step within_safetyPermits rfl)
  have hs4 : Within mask_safetyEval s s4 :=
    (hs3.step within_safetyShow rfl)
  have hs5 : Within mask_safetyEval s s5 :=
    (hs4.eachDw fun t12 x12 hl12 =>
      (hl12.step within_doorShow rfl))
  have hs6 : Within mask_safetyEval s s6 :=
    (hs5.set key_SAFM_SAF_STATE rfl)
  have hs7 : Within mask_safetyEval s s7 :=
    (hs6.step within_stoSync rfl)
  have hs8 : Within mask_safetyEval s s8 :=
    (hs7.eachAx fun t13 x13 hl13 =>
      (hl13.step within_permitStop rfl))
  have hs9 : Within mask_safetyEval s s9 :=
    (hs8.eachAx fun t14 x14 hl14 =>
      (hl14.step within_obstacles rfl))
  have hs10 : Within mask_safetyEval s s10 :=
    (hs9.eachAx fun t15 x15 hl15 =>
      (hl15.step within_watchSync rfl))
  have hs11 : Within mask_safetyEval s s11 :=
    (hs10.step within_adclDrive rfl)
  exact (Within.ite
    hs11
    (hs11.step within_gateSync rfl))

end Sys2Proof.Machine
end

