-- ==== Sys2Proof/Laws/FrameModes.lean ====
section
/-! SUPPORT. What each operation and meaning of Machine/Modes.lean can change: one mask and one lemma each. -/

set_option Elab.async false

namespace Sys2Proof.Machine

def mask_parkSync : Nat := 0x20000000000000000000000000000000200

theorem within_parkSync {s : State} : Within mask_parkSync s (parkSync s) := by
  unfold parkSync
  extract_lets -merge -useContext -underBinder v0 v1 s2 v3
  have hs2 : Within mask_parkSync s s2 :=
    ((Within.refl mask_parkSync s).count key_PWR_PARK_ABORT_CNT rfl)
  exact (Within.ite
    ((Within.refl mask_parkSync s).upd_pwr rfl)
    (Within.ite
      ((Within.refl mask_parkSync s).upd_pwr rfl)
      (Within.ite
        (hs2.upd_pwr rfl)
        (Within.refl mask_parkSync s))))

end Sys2Proof.Machine
end

