-- ==== Sys2Proof/Laws/FrameTraverse.lean ====
section
/-! SUPPORT. What each operation and meaning of Machine/Traverse.lean can change: one mask and one lemma each. -/

set_option Elab.async false

namespace Sys2Proof.Machine

def mask_axSample : Nat := 0x200000000000000000000000000000000000000000000000000000000000000000000000000000000000000000000000000000000000000000000000000017e3000080081600070f800000273c00139900000000000000000000000000000002000000000000000000000000000000000000000000001820000008400

theorem within_axSample {s : State} {b1 : Nat} {b2 : Sys2Proof.AxSample} : Within mask_axSample s (axSample s b1 b2) := by
  unfold axSample
  extract_lets -merge -useContext -underBinder v0 v1 v2 v3 s4 v5 v6 v7
  have hs4 : Within mask_axSample s s4 :=
    (Within.ite
      ((Within.refl mask_axSample s).countFault (key_AX_ENC_ERR_CNT _) rfl rfl)
      (Within.refl mask_axSample s))
  split
  · rename_i w8 w9 w10 e11
    split
    · rename_i w12 w13 w14 e15
      extract_lets -merge -useContext -underBinder s16 s17 v18 s19 s20 s21 s22
      have hs16 : Within mask_axSample s s16 :=
        (hs4.countBy (key_AX_CHATTER_CNT _) rfl)
      have hs17 : Within mask_axSample s s17 :=
        ((hs16.setB (key_AX_RAW_CLOSED _) rfl).setB (key_AX_RAW_OPEN _) rfl)
      have hs19 : Within mask_axSample s s19 :=
        (hs17.step within_State_setAx rfl)
      have hs20 : Within mask_axSample s s20 :=
        (hs19.set64 (key_AX_MEAS_HI _) rfl (key_AX_MEAS_LO _) rfl)
      have hs21 : Within mask_axSample s s21 :=
        (hs20.setS (key_AX_MEAS_VEL _) rfl)
      have hs22 : Within mask_axSample s s22 :=
        (Within.ite
          (hs21.set64 (key_AX_ZCAP_HI _) rfl (key_AX_ZCAP_LO _) rfl)
          hs21)
      exact (Within.ite
        (hs22.step within_encoderLost rfl)
        hs22)

def mask_axDeviation : Nat := 0x900000000000000000000000000000000000000000000000000000000000000000000000000000000000000000000000000000000400

theorem within_axDeviation {s : State} {b1 : Nat} : Within mask_axDeviation s (axDeviation s b1) := by
  unfold axDeviation
  extract_lets -merge -useContext -underBinder v0 v1 s2 v3
  have hs2 : Within mask_axDeviation s s2 :=
    ((Within.refl mask_axDeviation s).setS (key_AX_DEV_E _) rfl)
  exact (Within.ite
    (hs2.set (key_AX_DEV_STATE _) rfl)
    (Within.ite
      ((hs2.step within_State_setAx rfl).set (key_AX_DEV_STATE _) rfl)
      ((hs2.step within_State_setAx rfl).set (key_AX_DEV_STATE _) rfl)))

def mask_axForce : Nat := 0xc00000000000000000000000000000000000000000000000000000000000000000000000000000000000000000000000000000000000000400

theorem within_axForce {s : State} {b1 : Nat} {b2 : Sys2Proof.AxSample} : Within mask_axForce s (axForce s b1 b2) := by
  unfold axForce
  extract_lets -merge -useContext -underBinder v0
  split
  · rename_i w1 w2 w3 w4 e5
    extract_lets -merge -useContext -underBinder v6 v7 v8 v9 v10 v11 v12 v13 v14 s15 v16 v17 v18 v19 v20 v21 v22 v23 v24 v25 v26 v27 v28 v29 v30
    have hs15 : Within mask_axForce s s15 :=
      ((Within.refl mask_axForce s).set (key_AX_KT_EST _) rfl)
    exact (Within.ite
      ((hs15.set (key_AX_FORCE_EST _) rfl).step within_State_setAx rfl)
      ((hs15.set (key_AX_FORCE_EST _) rfl).step within_State_setAx rfl))

def mask_axBegin : Nat := 0x20000180000080000000000000000000000000000000000000000000000000000000000000000000000000000000000000000400

theorem within_axBegin {s : State} {b1 : Nat} {b2 : Axis} {b3 : Traj} {b4 : Bool} : Within mask_axBegin s (axBegin s b1 b2 b3 b4) := by
  unfold axBegin
  extract_lets -merge -useContext -underBinder s0 s1 s2
  have hs0 : Within mask_axBegin s s0 :=
    (Within.ite
      ((Within.refl mask_axBegin s).count (key_AX_CLAMP_CNT _) rfl)
      (Within.refl mask_axBegin s))
  have hs1 : Within mask_axBegin s s1 :=
    (hs0.set64 (key_AX_TGT_HI _) rfl (key_AX_TGT_LO _) rfl)
  have hs2 : Within mask_axBegin s s2 :=
    (hs1.setB (key_AX_HOLD _) rfl)
  exact (hs2.step within_State_setAx rfl)

def mask_learnBin : Nat := 0x6000000000000000000000000000000000000000000000000000000000000000000000000000000000000000000000000000000000000000000000000000000000000000000000000000000000000000000000000000000000000000000000000000000000000000000000000000000000000000000000000000000000000000000000000

theorem within_learnBin {b0 : Int} {b1 : List ForceSample} {s : State} {b3 : Nat} {b4 : Nat} {b5 : Nat} : Within mask_learnBin s (learnBin b0 b1 s b3 b4 b5) := by
  unfold learnBin
  extract_lets -merge -useContext -underBinder v0 f1 v2 v3
  split
  · rename_i w4 w5 w6 e7
    extract_lets -merge -useContext -underBinder s8 s9
    have hs8 : Within mask_learnBin s s8 :=
      ((Within.refl mask_learnBin s).step within_envPut rfl)
    have hs9 : Within mask_learnBin s s9 :=
      (hs8.wr16To (mem_AX_15 _) rfl)
    exact (hs9.wr16To (mem_AX_15 _) rfl)

def mask_learnComplete : Nat := 0x6000000000000000000000000000000000000000000000000000000000000000000000000000000000000000000000000000000000000000000000000000000000000000000000000046601000000000000000000000000010000000000000000000000000000000000000000000000000000000000000000000000000000000000000400

theorem within_learnComplete {s : State} {b1 : Nat} : Within mask_learnComplete s (learnComplete s b1) := by
  unfold learnComplete
  extract_lets -merge -useContext -underBinder v0 v1 v2 s3 s4 s5 v6
  have hs3 : Within mask_learnComplete s s3 :=
    ((Within.refl mask_learnComplete s).eachUpTo fun t7 x7 hl7 =>
      (hl7.step within_learnBin rfl))
  have hs4 : Within mask_learnComplete s s4 :=
    (((hs3.setB (key_AX_ENV_VALID _) rfl).setB (key_AX_MASS_VALID _) rfl).setB (key_AX_LEARN _) rfl)
  have hs5 : Within mask_learnComplete s s5 :=
    (hs4.setSat (key_AX_MASS_G _) rfl)
  exact ((hs5.step within_State_setAx rfl).step within_axModels rfl)

def mask_adaptBin : Nat := 0x2000000000000000000000000000000000000000000000000000000000000000000000000000000000000000000000000000000000000000000000000000000000000000000000000000000000000000000000000000000000000000000000000000000000000000000000000000000000000000000000000000000000000000000000000

theorem within_adaptBin {s : State} {b1 : Nat} {b2 : List ForceSample} {b3 : Nat} {b4 : Nat} : Within mask_adaptBin s (adaptBin s b1 b2 b3 b4) := by
  unfold adaptBin
  extract_lets -merge -useContext -underBinder v0 v1 v2 v3 f4 v5 v6 v7
  exact (Within.ite
    (Within.refl mask_adaptBin s)
    ((Within.refl mask_adaptBin s).step within_envPut rfl))

def mask_axLearned : Nat := 0x6000000000000000000000000000000000000000000000000000000000000000000000000000000000000000000000000000000000000000000000000000000000000000000000000046605000000000000000000000000010000000000000000000000000000000000000000000000000000000000000000000000000000000000000400

theorem within_axLearned {s : State} {b1 : Nat} : Within mask_axLearned s (axLearned s b1) := by
  unfold axLearned
  extract_lets -merge -useContext -underBinder v0 v1 v2 v3 s4
  have hs4 : Within mask_axLearned s s4 :=
    (((Within.refl mask_axLearned s).step within_State_setAx rfl).setSat (key_AX_LEARN_RUNS _) rfl)
  exact (Within.ite
    (Within.refl mask_axLearned s)
    (Within.ite
      (Within.ite
        (Within.refl mask_axLearned s)
        (Within.ite
          (hs4.step within_learnComplete rfl)
          hs4))
      (Within.ite
        ((Within.refl mask_axLearned s).eachUpTo fun t5 x5 hl5 =>
          (hl5.step within_adaptBin rfl))
        (Within.refl mask_axLearned s))))

def mask_homeApply : Nat := 0x700001800000180000000c00000000000000000000000000000000000000000000000000000000000000000000000000000000000000400

theorem within_homeApply {s : State} {b1 : Nat} : Within mask_homeApply s (homeApply s b1) := by
  unfold homeApply
  extract_lets -merge -useContext -underBinder v0
  split
  · rename_i w1 e2
    exact ((Within.refl mask_homeApply s).step within_homeEnd rfl)
  · rename_i w3 w4 w5 e6
    extract_lets -merge -useContext -underBinder v7 v8 s9 s10 v11 v12 s13 s14
    have hs9 : Within mask_homeApply s s9 :=
      ((Within.refl mask_homeApply s).set64 (key_AX_TGT_HI _) rfl (key_AX_TGT_LO _) rfl)
    have hs10 : Within mask_homeApply s s10 :=
      (hs9.set64 (key_AX_CAP_HI _) rfl (key_AX_CAP_LO _) rfl)
    have hs13 : Within mask_homeApply s s13 :=
      (hs10.step within_State_setAx rfl)
    have hs14 : Within mask_homeApply s s14 :=
      (hs13.set64 (key_AX_MEAS_HI _) rfl (key_AX_MEAS_LO _) rfl)
    exact ((hs14.step within_homeEnd rfl).setB (key_AX_HOMED _) rfl)

def mask_homeAtRest : Nat := 0x100000000000000000000400000000000000000000000000000000000000000000000000000000000000000000000000000000000000400

theorem within_homeAtRest {s : State} {b1 : Nat} : Within mask_homeAtRest s (homeAtRest s b1) := by
  unfold homeAtRest
  extract_lets -merge -useContext -underBinder v0
  split
  · rename_i w1 e2
    exact (Within.refl mask_homeAtRest s)
  · rename_i w3 e4
    exact (Within.ite
      ((Within.refl mask_homeAtRest s).step within_homeEnd rfl)
      ((Within.refl mask_homeAtRest s).step within_State_setAx rfl))
  · rename_i w5 e6
    exact ((Within.refl mask_homeAtRest s).step within_homeEnd rfl)
  · rename_i w7 e8
    exact ((Within.refl mask_homeAtRest s).step within_State_setAx rfl)
  · rename_i w9 e10
    exact ((Within.refl mask_homeAtRest s).step within_State_setAx rfl)
  · rename_i w11 e12
    exact (Within.refl mask_homeAtRest s)
  · rename_i w13 w14 e15
    exact ((Within.refl mask_homeAtRest s).step within_homeEnd rfl)

def mask_axRest : Nat := 0x20000000000000000000000000000000000000000000000000000000000000000000000000000000000000000000000000000000000000000000000000000000600000000010000000000000000000040000000000000000000000000000000000000000000000000000000000000000000000000000100000000a400

theorem within_axRest {s : State} {b1 : Nat} : Within mask_axRest s (axRest s b1) := by
  unfold axRest
  extract_lets -merge -useContext -underBinder v0 s1 v2 s3
  have hs1 : Within mask_axRest s s1 :=
    (Within.ite
      ((Within.refl mask_axRest s).step within_stepEnd rfl)
      (Within.refl mask_axRest s))
  have hs3 : Within mask_axRest s s3 :=
    (hs1.step within_State_setAx rfl)
  exact (Within.ite
    (hs3.step within_homeAtRest rfl)
    hs3)

def mask_axEnd : Nat := 0x600000000000000020000000000000000000000000000000000000000000000000000000000000000000000000000000000000000000000000000000000000000000000000000000604660500010000004000000000004063000000000000000000000000000000000000000000000000000000000000000000000000000100000000a400

theorem within_axEnd {s : State} {b1 : Nat} {b2 : Axis} {b3 : Traj} : Within mask_axEnd s (axEnd s b1 b2 b3) := by
  unfold axEnd
  extract_lets -merge -useContext -underBinder v0 v1 v2 v3 s4 s5 s6 s7 s8
  have hs4 : Within mask_axEnd s s4 :=
    (Within.ite
      ((Within.refl mask_axEnd s).count (key_AX_BLEND_MISS_CNT _) rfl)
      (Within.refl mask_axEnd s))
  have hs5 : Within mask_axEnd s s5 :=
    (hs4.step within_State_setAx rfl)
  have hs6 : Within mask_axEnd s s6 :=
    ((hs5.setB (key_AX_STOPPING _) rfl).setB (key_AX_FORCE_TRIP _) rfl)
  have hs7 : Within mask_axEnd s s7 :=
    (Within.ite
      hs6
      (hs6.setB (key_AX_SLIP _) rfl))
  have hs8 : Within mask_axEnd s s8 :=
    (Within.ite
      (hs7.step within_axLearned rfl)
      hs7)
  exact (hs8.step within_axRest rfl)

def mask_axStart : Nat := 0x20000000000000000000000000000000000000000000000000000000000000000000000000000000000000000000000000000000000000000000000000000000600000000010000002000018000008060000000000000000000000000000000000000000000000000000000000000000000000000000100000000a400

theorem within_axStart {s : State} {b1 : Nat} {b2 : Axis} {b3 : Entry} : Within mask_axStart s (axStart s b1 b2 b3) := by
  unfold axStart
  split
  · rename_i w0 w1 w2 e3
    extract_lets -merge -useContext -underBinder s4 s5 v6
    have hs4 : Within mask_axStart s s4 :=
      ((Within.refl mask_axStart s).step within_axBegin rfl)
    have hs5 : Within mask_axStart s s5 :=
      (hs4.setB (key_AX_SLIP _) rfl)
    exact (Within.ite
      ((hs5.step within_State_setAx rfl).step within_axRest rfl)
      hs4)

def mask_axSlow : Nat := 0x600000000000000020000000000000000000000000000000000000000000000000000000000000000000000000000000000000000000000000000000000000000000000000000000604660500010000004000000000004063000000000000000000000000000000000000000000000000000000000000000000000000000100000000a400

theorem within_axSlow {s : State} {b1 : Nat} {b2 : Axis} {b3 : Traj} : Within mask_axSlow s (axSlow s b1 b2 b3) := by
  unfold axSlow
  exact (Within.ite
    ((Within.refl mask_axSlow s).step within_axEnd rfl)
    ((Within.refl mask_axSlow s).step within_State_setAx rfl))

def mask_axTaken : Nat := 0x20000000000000000000000000000000000000000000000000000000000000000000000000000000000000000000000000000000000000000000000000000000600000000010000000000000000000060000000000000000000000000000000000000000000000000000000000000000000000000000100000000a400

theorem within_axTaken {s : State} {b1 : Nat} : Within mask_axTaken s (axTaken s b1) := by
  unfold axTaken
  extract_lets -merge -useContext -underBinder v0 s1 s2
  have hs1 : Within mask_axTaken s s1 :=
    (((Within.refl mask_axTaken s).setB (key_AX_SLIP _) rfl).step within_State_setAx rfl)
  have hs2 : Within mask_axTaken s s2 :=
    (Within.ite
      (hs1.step within_homeEnd rfl)
      hs1)
  exact (Within.ite
    (hs2.step within_stepEnd rfl)
    hs2)

def mask_axReplan : Nat := 0x60000000000000002000000000000000000000000000000000000000000000000000000000000000000000000000000000000000000000000000000000000000000000000000000060466050001000000600001800000c063000000000000000000000000000000000000000000000000000000000000000000000000000100000000a400

theorem within_axReplan {s : State} {b1 : Nat} {b2 : Axis} {b3 : Entry} {b4 : Traj} {b5 : Bool} : Within mask_axReplan s (axReplan s b1 b2 b3 b4 b5) := by
  unfold axReplan
  split
  · rename_i w0 w1 w2 e3
    exact (Within.ite
      ((Within.refl mask_axReplan s).step within_axBegin rfl)
      ((Within.refl mask_axReplan s).step within_axSlow rfl))

def mask_axStopped : Nat := 0x6000000000000000200000000000000000000000000000000000000000000000000000000000000000000000000000000000000000000000000000000000000000000000000017e06046e0500010000005000027fc0017963000000000000000000000000000000000000000000000000000000000000000000000000000102000000a400

theorem within_axStopped {s : State} {b1 : Nat} {b2 : Nat} : Within mask_axStopped s (axStopped s b1 b2) := by
  unfold axStopped
  extract_lets -merge -useContext -underBinder s0 v1 v2 v3 v4 s5
  have hs0 : Within mask_axStopped s s0 :=
    ((Within.refl mask_axStopped s).step within_axFlush rfl)
  have hs5 : Within mask_axStopped s s5 :=
    ((hs0.setB (key_AX_SLIP _) rfl).step within_State_setAx rfl)
  exact (Within.ite
    ((Within.ite
      (hs5.step within_stepEnd rfl)
      hs5).step within_homeAtRest rfl)
    (Within.ite
      (hs0.step within_State_setAx rfl)
      (by
        split
        · rename_i w6 w7 w8 e9
          exact ((hs0.step within_stopInfo rfl).step within_axSlow rfl) : Within mask_axStopped s _)))

def mask_axTurn : Nat := 0x600000000000000020000000000000000000000000000000000000000000000000000000000000000000000000000000000000000000000000000000000000000000000000000000604660500010000004000000c00004063000000000000000000000000000000000000000000000000000000000000000000000000000100000000a400

theorem within_axTurn {s : State} {b1 : Nat} {b2 : Entry} {b3 : Nat} {b4 : Option Ratio} : Within mask_axTurn s (axTurn s b1 b2 b3 b4) := by
  unfold axTurn
  extract_lets -merge -useContext -underBinder v0 v1
  split
  · rename_i w2 w3 w4 e5
    exact ((Within.ite
      (Within.refl mask_axTurn s)
      ((Within.refl mask_axTurn s).step within_stopInfo rfl)).step within_axSlow rfl)

def mask_axGap : Nat := 0x60000000000000002000000000000000000000000000000000000000000000000000000000000000000000000000000000000000000000000000000000000000000000000000000060466050001000000600001800000c063000000000000000000000000000000000000000000000000000000000000000000000000000100000000a400

theorem within_axGap {s : State} {b1 : Nat} {b2 : Int} : Within mask_axGap s (axGap s b1 b2) := by
  unfold axGap
  extract_lets -merge -useContext -underBinder v0
  exact (Within.ite
    (Within.refl mask_axGap s)
    (by
      split
      · rename_i w1 w2 w3 w4 e5 e6
        exact (Within.ite
          (Within.refl mask_axGap s)
          (by
            split
            · rename_i w7 w8 w9 e10
              extract_lets -merge -useContext -underBinder v11
              exact (Within.ite
                ((Within.refl mask_axGap s).step within_axSlow rfl)
                ((Within.refl mask_axGap s).step within_axReplan rfl)) : Within mask_axGap s _))
      · rename_i w12 w13 w14 w15 w16 e17 e18
        exact (Within.ite
          (Within.refl mask_axGap s)
          (Within.ite
            ((Within.refl mask_axGap s).step within_State_setAx rfl)
            ((Within.refl mask_axGap s).step within_State_setAx rfl)))
      · rename_i w19 w20 w21 w22 e23 e24
        exact (Within.ite
          (Within.refl mask_axGap s)
          (Within.ite
            (((Within.refl mask_axGap s).step within_State_setAx rfl).step within_stepEnd rfl)
            ((Within.refl mask_axGap s).step within_State_setAx rfl)))
      · rename_i w25 w26 w27 w28 w29 e30 e31 e32
        exact (Within.ite
          (Within.refl mask_axGap s)
          (Within.ite
            (((Within.refl mask_axGap s).step within_State_setAx rfl).step within_stepEnd rfl)
            ((Within.refl mask_axGap s).step within_State_setAx rfl)))
      · rename_i w33 w34 w35 e36 e37 e38
        exact (Within.refl mask_axGap s) : Within mask_axGap s _))

def mask_axSqueeze : Nat := 0x600000000000000020000000000000000000000000000000000000000000000000000000000000000000000000000000000000000000000000000000000000000000000000000000604660500010000004000000000004063000000000000000000000000000000000000000000000000000000000000000000000000000100000000a400

theorem within_axSqueeze {s : State} {b1 : Nat} : Within mask_axSqueeze s (axSqueeze s b1) := by
  unfold axSqueeze
  extract_lets -merge -useContext -underBinder v0
  split
  · rename_i w1 e2
    exact (Within.refl mask_axSqueeze s)
  · rename_i w3 w4 e5
    extract_lets -merge -useContext -underBinder v6
    exact (Within.ite
      ((Within.refl mask_axSqueeze s).step within_axSlow rfl)
      (Within.refl mask_axSqueeze s))

def mask_axHome : Nat := 0x17e00000800000000000000000273c00139c00000000000000000000000000000000000000000000000000000000000000000000000000000020000000400

theorem within_axHome {s : State} {b1 : Nat} : WithinP mask_axHome s (axHome s b1) := by
  unfold axHome
  extract_lets -merge -useContext -underBinder v0 s1
  have hs1 : Within mask_axHome s s1 :=
    (((Within.refl mask_axHome s).setB (key_AX_HOMED _) rfl).setB (key_AX_HOMING _) rfl)
  exact (WithinP.ite
    (WithinP.mk (Within.refl mask_axHome s))
    (WithinP.mk (hs1.step within_putAx rfl)))

def mask_axLearn : Nat := 0x4000000000000000000000000010000000000000000000000000000000000000000000000000000000000000000000000000000000000000400

theorem within_axLearn {s : State} {b1 : Nat} : WithinP mask_axLearn s (axLearn s b1) := by
  unfold axLearn
  extract_lets -merge -useContext -underBinder v0
  exact (WithinP.ite
    (WithinP.mk (Within.refl mask_axLearn s))
    (WithinP.mk ((((Within.refl mask_axLearn s).setB (key_AX_LEARN _) rfl).set (key_AX_LEARN_RUNS _) rfl).step within_State_setAx rfl)))

def mask_axLearnAbort : Nat := 0x4000000000000000000000000010000000000000000000000000000000000000000000000000000000000000000000000000000000000000400

theorem within_axLearnAbort {s : State} {b1 : Nat} : WithinP mask_axLearnAbort s (axLearnAbort s b1) := by
  unfold axLearnAbort
  extract_lets -merge -useContext -underBinder v0
  exact (WithinP.mk ((((Within.refl mask_axLearnAbort s).setB (key_AX_LEARN _) rfl).set (key_AX_LEARN_RUNS _) rfl).step within_State_setAx rfl))

def mask_axStepOut : Nat := 0x200000000000000000000000000000000000000000000000000000000000000000000000000000000000000000000000000000000000000000000000000017e06000800000000000020000273c0013900000000000000000000000000000000000000000000000000000000000000000000000000000102000000a400

theorem within_axStepOut {s : State} {b1 : Nat} {b2 : Entry} : WithinP mask_axStepOut s (axStepOut s b1 b2) := by
  unfold axStepOut
  extract_lets -merge -useContext -underBinder v0 v1
  exact (WithinP.ite
    (WithinP.mk (Within.refl mask_axStepOut s))
    (by
      split
      · rename_i p2 q3 w4 w5 e6
        have hq3 : Within mask_axStepOut s q3 := .of_eq e6 ((Within.refl mask_axStepOut s).stepP within_axTarget rfl)
        extract_lets -merge -useContext -underBinder v7 s8 v9
        have hs8 : Within mask_axStepOut s s8 :=
          (hq3.step within_putAx rfl)
        exact (WithinP.mk (Within.ite
          ((hs8.step within_putAx rfl).step within_stepEnd rfl)
          hs8)) : WithinP mask_axStepOut s _))

def mask_axDo : Nat := 0x200000000000000000000000000000000000000000000000000000000000000000000000000000000000000000000000000000000000000000000000000017e06000804000000000038000273c00139c1000000000000000000000000000000000000000000000000000000000000000000000000000102000000a400

theorem within_axDo {s : State} {b1 : Nat} {b2 : Nat} {b3 : Entry} : WithinP mask_axDo s (axDo s b1 b2 b3) := by
  unfold axDo
  split
  · rename_i w0
    exact ((Within.refl mask_axDo s).stepP within_axPush rfl)
  · rename_i w1
    exact (WithinP.mk ((Within.refl mask_axDo s).step within_axFlush rfl))
  · rename_i w2
    exact ((Within.refl mask_axDo s).stepP within_axHome rfl)
  · rename_i w3
    exact ((Within.refl mask_axDo s).stepP within_axLearn rfl)
  · rename_i w4
    exact ((Within.refl mask_axDo s).stepP within_axLearnAbort rfl)
  · rename_i w5
    exact ((Within.refl mask_axDo s).stepP within_axStepOut rfl)
  · rename_i w6 e7 e8 e9 e10 e11 e12
    exact (WithinP.mk (Within.refl mask_axDo s))

def mask_axGo : Nat := 0x17e00000800000000000000000273c00139000000000000000000000000000000000000000000000000000000000000000000000000000000020000000400

theorem within_axGo {s : State} {b1 : Nat} : Within mask_axGo s (axGo s b1) := by
  unfold axGo
  extract_lets -merge -useContext -underBinder v0
  split
  · rename_i w1 w2 w3 e4
    exact (Within.ite
      ((Within.refl mask_axGo s).step within_putAx rfl)
      (Within.refl mask_axGo s))
  · rename_i w5 e6
    exact (Within.refl mask_axGo s)

def mask_axReversed : Nat := 0x6000000000000000200000000000000000000000000000000000000000000000000000000000000000000000000000000000000000000000000000000000000000000000000017e06046e0500010000005000027fc0017963000000000000000000000000000000000000000000000000000000000000000000000000000302000000a400

theorem within_axReversed {s : State} {b1 : Nat} {b2 : Int} {b3 : Nat} : Within mask_axReversed s (axReversed s b1 b2 b3) := by
  unfold axReversed
  extract_lets -merge -useContext -underBinder s0 v1 v2 v3
  have hs0 : Within mask_axReversed s s0 :=
    ((Within.refl mask_axReversed s).step within_axFlush rfl)
  exact (Within.ite
    (Within.ite
      (hs0.step within_State_adj rfl)
      (hs0.step within_State_setAx rfl))
    (Within.ite
      hs0
      (hs0.step within_axTurn rfl)))

def mask_axRequest : Nat := 0x6000000000000000200000000000000000000000000000000000000000000000000000000000000000000000000000000000000000000000000000000000000000000000000017e06146e050001000000780003ffc001f9e3000000000000000000000000000000000000000000000000000000000000000000000000000302000000a400

theorem within_axRequest {b0 : Nat} {s : State} {b2 : Req} : Within mask_axRequest s (axRequest b0 s b2) := by
  unfold axRequest
  split
  · rename_i w0 w1 w2
    exact (Within.step (WithinP.fst ((Within.refl mask_axRequest s).stepP within_axDo rfl)) within_counted rfl)
  · rename_i w3
    exact ((Within.refl mask_axRequest s).step within_axGo rfl)
  · rename_i w4 w5
    exact ((Within.refl mask_axRequest s).step within_axStopped rfl)
  · rename_i w6 w7 w8
    exact ((Within.refl mask_axRequest s).step within_axReversed rfl)
  · rename_i w9 w10 w11
    extract_lets -merge -useContext -underBinder v12 s13 s14 v15 s16 v17 v18 v19
    have hs13 : Within mask_axRequest s s13 :=
      ((Within.refl mask_axRequest s).step within_axFlush rfl)
    have hs14 : Within mask_axRequest s s14 :=
      ((hs13.count (key_AX_REV_CNT _) rfl).step within_State_event rfl)
    have hs16 : Within mask_axRequest s s16 :=
      (hs14.step within_State_setDw rfl)
    exact (Within.ite
      (Within.refl mask_axRequest s)
      (Within.ite
        (hs16.step within_State_setAx rfl)
        ((hs16.step within_State_setAx rfl).step within_axTurn rfl)))
  · rename_i w20 w21
    exact ((Within.refl mask_axRequest s).step within_axGap rfl)
  · rename_i w22
    exact ((Within.refl mask_axRequest s).step within_axSqueeze rfl)

def mask_axAbandon : Nat := 0x20000000000000000000000000000000000000000000000000000000000000000000000000000000000000000000000000000000000000000000000000000000600000000010000000000000000000060000000000000000000000000000000000000000000000000000000000000000000000000000100000000a400

theorem within_axAbandon {s : State} {b1 : Nat} : Within mask_axAbandon s (axAbandon s b1) := by
  unfold axAbandon
  extract_lets -merge -useContext -underBinder v0 s1 s2
  have hs1 : Within mask_axAbandon s s1 :=
    (((Within.refl mask_axAbandon s).setB (key_AX_SLIP _) rfl).step within_State_setAx rfl)
  have hs2 : Within mask_axAbandon s s2 :=
    (Within.ite
      (hs1.step within_homeEnd rfl)
      hs1)
  exact (Within.ite
    (hs2.step within_stepEnd rfl)
    hs2)

def mask_axTorqueLost : Nat := 0x200000000000000000000000000000000000000000000000000000000000000000000000000000000000000000000000000000000000000000000000000017e0600080000010000001000027fc043f962000000000000000000000000000000000000000000000000000000000000000000000000000102000000a400

theorem within_axTorqueLost {s : State} {b1 : Nat} : Within mask_axTorqueLost s (axTorqueLost s b1) := by
  unfold axTorqueLost
  extract_lets -merge -useContext -underBinder s0 v1 s2 s3 s4
  have hs0 : Within mask_axTorqueLost s s0 :=
    ((Within.refl mask_axTorqueLost s).step within_axFlush rfl)
  have hs2 : Within mask_axTorqueLost s s2 :=
    ((hs0.setB (key_AX_TORQUE _) rfl).setB (key_AX_TORQUE_REQ _) rfl)
  have hs3 : Within mask_axTorqueLost s s3 :=
    (((hs2.set (key_AX_STOP_CAUSE _) rfl).set (key_AX_STOP_RAMP _) rfl).setB (key_AX_STOPPING _) rfl)
  have hs4 : Within mask_axTorqueLost s s4 :=
    ((hs3.setB (key_AX_HOLD _) rfl).setB (key_AX_FORCE_TRIP _) rfl)
  exact ((hs4.step within_State_setAx rfl).step within_axAbandon rfl)

def mask_axTorque : Nat := 0x200000000000000000000000000000000000000000000000000000000000000000000000000000000000000000000000000000000000000000000000000017e0600080040010010001000027fc043f972000000000000000000000000000000000000000000000000000000000000000000000000000102000000a400

theorem within_axTorque {s : State} {b1 : Nat} : Within mask_axTorque s (axTorque s b1) := by
  unfold axTorque
  extract_lets -merge -useContext -underBinder s0 v1 v2 s3 v4 s5 s6 s7 v8
  have hs0 : Within mask_axTorque s s0 :=
    (Within.ite
      ((Within.refl mask_axTorque s).step within_axTorqueLost rfl)
      (Within.refl mask_axTorque s))
  have hs3 : Within mask_axTorque s s3 :=
    (Within.ite
      ((((hs0.setB (key_AX_TORQUE _) rfl).setB (key_AX_HOLD _) rfl).step within_State_setAx rfl).step within_axAbandon rfl)
      hs0)
  have hs5 : Within mask_axTorque s s5 :=
    (Within.ite
      hs3
      (hs3.set (key_AX_KT_EST _) rfl))
  have hs6 : Within mask_axTorque s s6 :=
    (Within.ite
      (((hs5.setB (key_AX_TORQUE _) rfl).setB (key_AX_HOLD _) rfl).step within_State_setAx rfl)
      hs3)
  have hs7 : Within mask_axTorque s s7 :=
    (Within.ite
      ((hs6.setB (key_AX_DEV_FAULT _) rfl).set (key_AX_DEV_STATE _) rfl)
      hs6)
  exact (Within.ite
    hs7
    (hs7.step within_State_setAx rfl))

def mask_slipCount : Nat := 0x8000000000000400000000000000000000000000000000000000000000000000000000000000000000000000000000000000000000000000000000000

theorem within_slipCount {s : State} {b1 : Nat} {b2 : Int} : Within mask_slipCount s (slipCount s b1 b2) := by
  unfold slipCount
  exact (((Within.refl mask_slipCount s).count (key_AX_SLIP_CNT _) rfl).setSat (key_AX_DEV_LAST _) rfl)

def mask_slipReplan : Nat := 0x60000000000000002000000000000000000000000000000000000000000000000000000000000000000000000000000000000000000000000000000000000000000000000000000060466050001001000600001800000c063000000000000000000000000000000000000000000000000000000000000000000000000000100000000a400

theorem within_slipReplan {s : State} {b1 : Nat} {b2 : Axis} {b3 : Traj} : Within mask_slipReplan s (slipReplan s b1 b2 b3) := by
  unfold slipReplan
  extract_lets -merge -useContext -underBinder v0 v1 v2
  exact ((((Within.refl mask_slipReplan s).setB (key_AX_SLIP _) rfl).set (key_AX_DEV_STATE _) rfl).step within_axReplan rfl)

def mask_axSlip : Nat := 0x6000000000000000200000000000000000000000000000000000000000000000000000000000000000000000000000000000000000000000000000000000000000000000000017e0e046e050001005000600003f3c001f963000000000000000000000000000000000000000000000000000000000000000000000000000102000000a400

theorem within_axSlip {s : State} {b1 : Nat} {b2 : Int} : Within mask_axSlip s (axSlip s b1 b2) := by
  unfold axSlip
  extract_lets -merge -useContext -underBinder v0 s1
  have hs1 : Within mask_axSlip s s1 :=
    ((Within.refl mask_axSlip s).step within_slipCount rfl)
  exact ((by
    split
    · rename_i w2 e3
      extract_lets -merge -useContext -underBinder v4
      exact (Within.ite
        (((hs1.setB (key_AX_SLIP _) rfl).step within_State_setAx rfl).set (key_AX_DEV_STATE _) rfl)
        ((hs1.step within_State_setAx rfl).set (key_AX_DEV_STATE _) rfl))
    · rename_i w5 w6 e7
      extract_lets -merge -useContext -underBinder v8
      exact (Within.ite
        (hs1.step within_slipReplan rfl)
        ((hs1.step within_State_setAx rfl).set (key_AX_DEV_STATE _) rfl)) : Within mask_axSlip s _).step within_axShow rfl)

def mask_axBlend : Nat := 0x600000000000000020000000000000000000000000000000000000000000000000000000000000000000000000000000000000000000000000000000000000000000000000000000e0466050001005000600001800000c063000000000000000000000000000000000000000000000000000000000000000000000000000100000000a400

theorem within_axBlend {s : State} {b1 : Nat} : Within mask_axBlend s (axBlend s b1) := by
  unfold axBlend
  extract_lets -merge -useContext -underBinder v0
  split
  · rename_i w1 w2 w3 w4 w5 e6 e7
    extract_lets -merge -useContext -underBinder v8 v9 v10 s11 v12 v13 v14
    have hs11 : Within mask_axBlend s s11 := by
      unfold s11
      clear_value v9
      split
      · rename_i w15 w16
        exact ((Within.refl mask_axBlend s).step within_slipCount rfl)
      · rename_i w17
        exact (Within.refl mask_axBlend s)
    exact (Within.ite
      (Within.refl mask_axBlend s)
      (by
        split
        · rename_i w18 w19 w20 e21
          extract_lets -merge -useContext -underBinder v22 v23 s24 v25 v26 v27 s28
          have hs24 : Within mask_axBlend s s24 :=
            ((hs11.step within_State_setAx rfl).step within_axTaken rfl)
          have hs28 : Within mask_axBlend s s28 :=
            ((hs11.count (key_AX_BLEND_MISS_CNT _) rfl).step within_State_setAx rfl)
          exact (Within.ite
            (hs24.step within_axBegin rfl)
            (Within.ite
              (hs28.step within_slipReplan rfl)
              hs28)) : Within mask_axBlend s _))
  · rename_i w29 w30 e31
    exact (Within.refl mask_axBlend s)

def mask_deviationDecision : Nat := 0x6000000000000000200000000000000000000000000000000000000000000000000000000000000000000000000000000000000000000000000000000000000000000000000017e1e046e050001007000600003f3c001f973000000000000000000000000000000000000000000000000000000000000000000000000000182000000a400

theorem within_deviationDecision {s : State} {b1 : Nat} : Within mask_deviationDecision s (deviationDecision s b1) := by
  unfold deviationDecision
  split
  · rename_i w0 e1
    exact (Within.refl mask_deviationDecision s)
  · rename_i w2 w3 e4
    exact ((Within.refl mask_deviationDecision s).step within_axSlip rfl)
  · rename_i w5 w6 e7
    exact ((Within.refl mask_deviationDecision s).step within_devFault rfl)

def mask_axCoarse : Nat := 0x82200000000000000000000000000000000000000000000000000000000000000000000000000000000000000400

theorem within_axCoarse {s : State} {b1 : Nat} : Within mask_axCoarse s (axCoarse s b1) := by
  unfold axCoarse
  extract_lets -merge -useContext -underBinder v0 v1 v2 s3 v4 v5 v6
  have hs3 : Within mask_axCoarse s s3 :=
    ((Within.refl mask_axCoarse s).setB (key_AX_COARSE _) rfl)
  exact (Within.ite
    hs3
    (Within.ite
      ((Within.ite
        (hs3.setB (key_AX_SLIP _) rfl)
        hs3).step within_State_setAx rfl)
      (Within.ite
        (hs3.step within_State_setAx rfl)
        (Within.ite
          (hs3.step within_State_setAx rfl)
          ((hs3.setB (key_AX_HOLD _) rfl).step within_State_setAx rfl)))))

def mask_axAdvance : Nat := 0x600000000000000020000000000000000000000000000000000000000000000000000000000000000000000000000000000000000000000000000000000000000000000000000000604660500010000004000000000004063000000000000000000000000000000000000000000000000000000000000000000000000000100000000a400

theorem within_axAdvance {s : State} {b1 : Nat} : Within mask_axAdvance s (axAdvance s b1) := by
  unfold axAdvance
  extract_lets -merge -useContext -underBinder v0 v1
  split
  · rename_i w2 w3 e4
    extract_lets -merge -useContext -underBinder v5 v6 v7
    exact (Within.ite
      ((Within.refl mask_axAdvance s).step within_axEnd rfl)
      ((Within.refl mask_axAdvance s).step within_State_setAx rfl))
  · rename_i w8 e9
    exact ((Within.refl mask_axAdvance s).step within_State_setAx rfl)

def mask_axReplaceHead : Nat := 0x600000000000000020000000000000000000000000000000000000000000000000000000000000000000000000000000000000000000000000000000000000000000000000000000604660500010000006000018c0000c063000000000000000000000000000000000000000000000000000000000000000000000000000100000000a400

theorem within_axReplaceHead {s : State} {b1 : Nat} : Within mask_axReplaceHead s (axReplaceHead s b1) := by
  unfold axReplaceHead
  extract_lets -merge -useContext -underBinder v0
  split
  · rename_i w1 w2 w3 w4 w5 e6 e7
    exact (Within.ite
      (Within.refl mask_axReplaceHead s)
      (by
        split
        · rename_i w8 w9 w10 e11
          split
          · rename_i w12 w13 w14 e15
            extract_lets -merge -useContext -underBinder s16 v17
            have hs16 : Within mask_axReplaceHead s s16 :=
              ((Within.refl mask_axReplaceHead s).step within_axTaken rfl)
            exact (Within.ite
              (hs16.step within_axBegin rfl)
              (((Within.refl mask_axReplaceHead s).step within_stopInfo rfl).step within_axSlow rfl)) : Within mask_axReplaceHead s _))
  · rename_i w18 w19 e20
    exact (Within.refl mask_axReplaceHead s)

def mask_axLaunch : Nat := 0x600000000000000020000000000000000000000000000000000000000000000000000000000000000000000000000000000000000000000000000000000000000000000000000000e0466050007005018600001800000c2e3000000000000000000000000000000000000000000000000000000000000000000000000000100000000a400

theorem within_axLaunch {b0 : Bool} {s : State} {b2 : Nat} : Within mask_axLaunch s (axLaunch b0 s b2) := by
  unfold axLaunch
  extract_lets -merge -useContext -underBinder v0 s1 v2
  have hs1 : Within mask_axLaunch s s1 :=
    (Within.ite
      (((Within.refl mask_axLaunch s).step within_State_setAx rfl).step within_axTaken rfl)
      (Within.refl mask_axLaunch s))
  exact (Within.ite
    ((Within.refl mask_axLaunch s).step within_axBlend rfl)
    (Within.ite
      (Within.refl mask_axLaunch s)
      (Within.ite
        ((Within.refl mask_axLaunch s).step within_homeApply rfl)
        (Within.ite
          (by
            split
            · rename_i w3 w4 w5 e6
              exact (Within.ite
                (hs1.step within_axStart rfl)
                hs1)
            · rename_i w7 w8 w9 w10 e11 e12
              extract_lets -merge -useContext -underBinder v13
              exact (Within.ite
                (hs1.step within_axCoarse rfl)
                ((Within.ite
                  (hs1.count (key_AX_GAP_STALE_CNT _) rfl)
                  hs1).step within_axStart rfl))
            · rename_i w14 w15 e16 e17
              exact (hs1.step within_axCoarse rfl) : Within mask_axLaunch s _)
          ((Within.refl mask_axLaunch s).step within_axCoarse rfl)))))

def mask_axBridge : Nat := 0x400

theorem within_axBridge {s : State} {b1 : Nat} {b2 : Nat} {b3 : Nat} : Within mask_axBridge s (axBridge s b1 b2 b3) := by
  unfold axBridge
  extract_lets -merge -useContext -underBinder v0 v1 v2 v3 v4 v5
  split
  · rename_i w6 w7 w8 w9 e10
    extract_lets -merge -useContext -underBinder v11
    exact ((Within.refl mask_axBridge s).step within_State_setAx rfl)

def mask_axUpdate : Nat := 0x6000000000000000200000000000000000000000000000000000000000000000000000000000000000000000000000000000000000000000000000000000000000000000000017e3e146e05c16700f0f8780003ffc043fbf3000000000000000000000000000000200000000000000000000000000000000000000000000382000000a400

theorem within_axUpdate {b0 : Nat} {b1 : Nat} {s : State} {b3 : Nat} {b4 : Sys2Proof.AxSample} : Within mask_axUpdate s (axUpdate b0 b1 s b3 b4) := by
  unfold axUpdate
  extract_lets -merge -useContext -underBinder s0 s1 s2 s3 v4 s5 v6 v7 s8 s9 s10 s11
  have hs0 : Within mask_axUpdate s s0 :=
    ((Within.refl mask_axUpdate s).step within_axSample rfl)
  have hs1 : Within mask_axUpdate s s1 :=
    (hs0.step within_axTorque rfl)
  have hs2 : Within mask_axUpdate s s2 :=
    (hs1.step within_axDeviation rfl)
  have hs3 : Within mask_axUpdate s s3 :=
    (hs2.step within_axForce rfl)
  have hs5 : Within mask_axUpdate s s5 :=
    (hs3.step within_axAdvance rfl)
  have hs8 : Within mask_axUpdate s s8 :=
    (hs5.step within_State_setAx rfl)
  have hs9 : Within mask_axUpdate s s9 :=
    (hs8.foldl fun t12 x12 hl12 =>
      (hl12.step within_axRequest rfl))
  have hs10 : Within mask_axUpdate s s10 :=
    (hs9.step within_axReplaceHead rfl)
  have hs11 : Within mask_axUpdate s s11 :=
    (hs10.step within_axLaunch rfl)
  exact (((hs11.step within_axBridge rfl).step within_axModels rfl).step within_axShow rfl)

def mask_drvLimit : Nat := 0x40000000080000000000000000000000000

theorem within_drvLimit {s : State} {b1 : Nat} : Within mask_drvLimit s (drvLimit s b1) := by
  unfold drvLimit
  extract_lets -merge -useContext -underBinder v0 s1
  have hs1 : Within mask_drvLimit s s1 :=
    (Within.ite
      ((Within.refl mask_drvLimit s).count key_PWR_DRV_LIM_CNT rfl)
      (Within.refl mask_drvLimit s))
  exact (hs1.setB key_PWR_DRV_LIMITING rfl)

def mask_traverseUpdate : Nat := 0x6000000000000000200000000000000000000000000000000000000000000000000000000000000000000000000000000000000000000000000000000000000000000000000017e3e146e05c16700f0f8780003ffc043fbf3000000000000000000000000000000200000000000000000000004000000008000000000000382000000a600

theorem within_traverseUpdate {s : State} {b1 : List Sys2Proof.AxSample} {b2 : Nat} : Within mask_traverseUpdate s (traverseUpdate s b1 b2) := by
  unfold traverseUpdate
  extract_lets -merge -useContext -underBinder s0 v1 s2
  have hs0 : Within mask_traverseUpdate s s0 :=
    ((Within.refl mask_traverseUpdate s).step within_drvLimit rfl)
  have hs2 : Within mask_traverseUpdate s s2 :=
    (hs0.eachAx fun t3 x3 hl3 =>
      (hl3.step within_axUpdate rfl))
  exact (Within.ite
    (Within.refl mask_traverseUpdate s)
    (Within.ite
      hs2
      (hs2.step within_vrefFold rfl)))

def mask_prfCommit : Nat := 0x3a00000000000000000000000000000000000000000000000000000000000000000000000000000000000000000000000000000

theorem within_prfCommit {s : State} {b1 : Nat} {b2 : Nat} : WithinP mask_prfCommit s (prfCommit s b1 b2) := by
  unfold prfCommit
  extract_lets -merge -useContext -underBinder v0
  exact (WithinP.ite
    (WithinP.mk (Within.refl mask_prfCommit s))
    (by
      split
      · rename_i w1 e2
        exact (WithinP.mk ((Within.refl mask_prfCommit s).setBit (key_AX_PRF_VALID _) rfl))
      · rename_i w3 w4 w5 e6
        exact (WithinP.mk (((((Within.refl mask_prfCommit s).setBit (key_AX_PRF_VALID _) rfl).set (key_AX_ERR_PRF _) rfl).set (key_AX_ERR_REASON _) rfl).set (key_AX_ERR_SEG _) rfl)) : WithinP mask_prfCommit s _))

def mask_axCommand : Nat := 0x200000000000000000000000000000000000000000000000000000000000000000000000000000000000000000000000000000000000000000000000000017e06000804000000000038000273c00139c1000000000000000000000000000000000000000000000000000000000000000000000000000102000000a400

theorem within_axCommand {s : State} {b1 : Nat} {b2 : Nat} : WithinP mask_axCommand s (axCommand s b1 b2) := by
  unfold axCommand
  extract_lets -merge -useContext -underBinder v0
  exact (WithinP.ite
    (WithinP.mk ((Within.refl mask_axCommand s).step within_axAsk rfl))
    (WithinP.ite
      ((Within.refl mask_axCommand s).stepP within_axReverse rfl)
      (WithinP.ite
        (WithinP.ite
          ((Within.refl mask_axCommand s).stepP within_axDo rfl)
          (WithinP.mk ((Within.refl mask_axCommand s).step within_axAsk rfl)))
        (WithinP.mk (Within.refl mask_axCommand s)))))

def mask_trvGo : Nat := 0x17e00000800000000000000000273c00139000000000000000000000000000000000000000000000000000000000000000000000000000000020000000400

theorem within_trvGo {s : State} {b1 : Nat} : WithinP mask_trvGo s (trvGo s b1) := by
  unfold trvGo
  exact (WithinP.ite
    (WithinP.mk (Within.refl mask_trvGo s))
    (WithinP.mk ((Within.refl mask_trvGo s).eachAx fun t0 x0 hl0 =>
      (Within.ite
        hl0
        (Within.ite
          (hl0.step within_axGo rfl)
          (hl0.step within_axAsk rfl))))))

def mask_vlimWritten : Nat := 0x4660100000000000000f000000000000000000000000000000000000000000000000000000000000000000000000000000000000000000000000000

theorem within_vlimWritten {b0 : State} {s : State} {b2 : Nat} {b3 : Bool} : WithinP mask_vlimWritten s (vlimWritten b0 s b2 b3) := by
  unfold vlimWritten
  extract_lets -merge -useContext -underBinder s0
  have hs0 : Within mask_vlimWritten s s0 :=
    (Within.ite
      (Within.ite
        ((Within.refl mask_vlimWritten s).set64 (key_AX_AX_VLIM_LO_HI _) rfl (key_AX_AX_VLIM_LO_LO _) rfl)
        ((Within.refl mask_vlimWritten s).set64 (key_AX_AX_VLIM_HI_HI _) rfl (key_AX_AX_VLIM_HI_LO _) rfl))
      (Within.refl mask_vlimWritten s))
  exact (WithinP.mk (Within.ite
    hs0
    (hs0.step within_envClear rfl)))

def mask_torqueWithdrawn : Nat := 0x400

theorem within_torqueWithdrawn {s : State} {b1 : Nat} : Within mask_torqueWithdrawn s (torqueWithdrawn s b1) := by
  unfold torqueWithdrawn
  exact (Within.ite
    (Within.refl mask_torqueWithdrawn s)
    (Within.ite
      (Within.refl mask_torqueWithdrawn s)
      ((Within.refl mask_torqueWithdrawn s).step within_axAsk rfl)))

def mask_axEnWritten : Nat := 0x4000000000000000000000000000000000000000000000000000000000000000000000000000000000000000000400

theorem within_axEnWritten {s : State} {b1 : Nat} : Within mask_axEnWritten s (axEnWritten s b1) := by
  unfold axEnWritten
  exact (Within.ite
    (Within.refl mask_axEnWritten s)
    (((Within.refl mask_axEnWritten s).setB (key_AX_TORQUE_REQ _) rfl).step within_torqueWithdrawn rfl))

def mask_axModeWritten : Nat := 0x3d7c00000000000000000000000000000000000000000000000000000000000000000000000000000000000000000000000000000000000000000000000000000000000000017e00000800000000000000000273c0213b000000000000000000000000000000000000000000000000000000000000000000000000000002020000000400

theorem within_axModeWritten {s : State} {b1 : Nat} : Within mask_axModeWritten s (axModeWritten s b1) := by
  unfold axModeWritten
  exact (Within.ite
    (by
      split
      · rename_i p0 q1 w2 w3 e4
        have hq1 : Within mask_axModeWritten s q1 := .of_eq e4 ((Within.refl mask_axModeWritten s).stepP within_State_claim rfl)
        extract_lets -merge -useContext -underBinder s5 v6 s7
        have hs5 : Within mask_axModeWritten s s5 :=
          (Within.ite
            (hq1.setBit key_RES_HOST_CSTEP rfl)
            hq1)
        have hs7 : Within mask_axModeWritten s s7 :=
          (Within.ite
            hs5
            (hs5.set (key_AX_MODE _) rfl))
        exact ((hs7.setB (key_AX_COARSE _) rfl).step within_putAx rfl) : Within mask_axModeWritten s _)
    ((((Within.refl mask_axModeWritten s).step within_State_release rfl).setB (key_AX_COARSE _) rfl).step within_axShow rfl))

def mask_devWinWritten : Nat := 0x40000000000000000000000000000000000000000000000000000000000000000000000000000000000000000000000000000000000

theorem within_devWinWritten {s : State} {b1 : Nat} : Within mask_devWinWritten s (devWinWritten s b1) := by
  unfold devWinWritten
  exact (Within.ite
    ((Within.refl mask_devWinWritten s).set (key_AX_AX_RECAP_WIN _) rfl)
    (Within.refl mask_devWinWritten s))

def mask_cstepEdge : Nat := 0xa0000000000000000000000000000000000000000000000000000000000000000000000000000000000000000001000000000400

theorem within_cstepEdge {s : State} {b1 : Nat} {b2 : Bool} {b3 : Nat} : Within mask_cstepEdge s (cstepEdge s b1 b2 b3) := by
  unfold cstepEdge
  extract_lets -merge -useContext -underBinder v0 v1 v2
  exact (Within.ite
    (Within.refl mask_cstepEdge s)
    (Within.ite
      ((Within.refl mask_cstepEdge s).count (key_AX_CLAMP_CNT _) rfl)
      (Within.ite
        ((Within.refl mask_cstepEdge s).countDrop (key_AX_CS_DROP_CNT _) rfl rfl)
        ((Within.refl mask_cstepEdge s).step within_State_setAx rfl))))

def mask_torqueCut : Nat := 0x17e00000800000000000000000273c0013d000000000000000000000000000000000000000000000000000000000000000000000000000000020000000400

theorem within_torqueCut {s : State} {b1 : Nat} : Within mask_torqueCut s (torqueCut s b1) := by
  unfold torqueCut
  exact ((Within.refl mask_torqueCut s).step within_stoPut rfl)

def mask_tblCrcReg : Nat := 0x1e0000000000000000000000000000000000000000000000000000000000000000000000000000000000000000000000000000000000000000000000000000

theorem inregs_tblCrcReg {b0 : Nat} : InRegs mask_tblCrcReg (tblCrcReg b0).key := by
  unfold tblCrcReg
  repeat' split
  · exact .of1 465 key_TRV_TBL_CRC0 rfl
  · exact .of1 466 key_TRV_TBL_CRC1 rfl
  · exact .of1 467 key_TRV_TBL_CRC2 rfl
  · exact .of1 468 key_TRV_TBL_CRC3 rfl

def mask_execTorqueRampEnd : Nat := 0x400

theorem within_execTorqueRampEnd {b0 : Fin 16} {s : State} : WithinO mask_execTorqueRampEnd s (execTorqueRampEnd b0 s) := by
  unfold execTorqueRampEnd
  extract_lets -merge -useContext -underBinder v0
  exact (WithinO.next (by
    split
    · rename_i w1 w2 e3
      exact (Within.ite
        ((Within.refl mask_execTorqueRampEnd s).step within_State_setAx rfl)
        (Within.refl mask_execTorqueRampEnd s))
    · rename_i w4 e5
      exact (Within.refl mask_execTorqueRampEnd s) : Within mask_execTorqueRampEnd s _))

def mask_execCstepEdge : Nat := 0xa0000000000000000000000000000000000000000000000000000000000000000000000000000000000000000001000000000400

theorem within_execCstepEdge {b0 : Fin 8} {b1 : Bool} {b2 : Nat} {s : State} : WithinO mask_execCstepEdge s (execCstepEdge b0 b1 b2 s) := by
  unfold execCstepEdge
  exact (WithinO.next ((Within.refl mask_execCstepEdge s).step within_cstepEdge rfl))

def mask_execTblCrcUpdate : Nat := 0x1e0000000000000000000000000000000000000000000000000000000000000000000000000000000000000000000000000000000000000000000000000000

theorem within_execTblCrcUpdate {b0 : Fin 4} {s : State} : WithinO mask_execTblCrcUpdate s (execTblCrcUpdate b0 s) := by
  unfold execTblCrcUpdate
  exact (WithinO.next ((Within.refl mask_execTblCrcUpdate s).setIn (m := 0x1e0000000000000000000000000000000000000000000000000000000000000000000000000000000000000000000000000000000000000000000000000000) inregs_tblCrcReg rfl))

def mask_execTorqueRemoval : Nat := 0x17e00000800000000000000000273c0013d000000000000000000000000000000000000000000000000000000000000000000000000000000020000000400

theorem within_execTorqueRemoval {b0 : Fin 16} {s : State} : WithinO mask_execTorqueRemoval s (execTorqueRemoval b0 s) := by
  unfold execTorqueRemoval
  exact (WithinO.next (Within.ite
    ((Within.refl mask_execTorqueRemoval s).step within_torqueCut rfl)
    (Within.refl mask_execTorqueRemoval s)))

end Sys2Proof.Machine
end

