-- ==== Sys2Proof/Laws/FrameLinks.lean ====
section
/-! SUPPORT. What each operation and meaning of Machine/Links.lean can change: one mask and one lemma each. -/

set_option Elab.async false

namespace Sys2Proof.Machine

def mask_State_setHead : Nat := 0x10000

theorem within_State_setHead {s : State} {b1 : Nat} {b2 : Head} : Within mask_State_setHead s (State.setHead s b1 b2) := by
  unfold State.setHead
  exact ((Within.refl mask_State_setHead s).upd_heads rfl)

def mask_lantShow : Nat := 0x7ce000000000000000000000000000000000000000000000000000000000000000000000000000000000000000000000000000000000000000000000000000000000000000000

theorem within_lantShow {s : State} : Within mask_lantShow s (lantShow s) := by
  unfold lantShow
  extract_lets -merge -useContext -underBinder f0 s1 s2 s3 s4 s5
  have hs1 : Within mask_lantShow s s1 :=
    (((Within.refl mask_lantShow s).set key_LANT_RUN_MASK rfl).set key_LANT_UP_MASK rfl)
  have hs2 : Within mask_lantShow s s2 :=
    ((hs1.set key_LANT_GOOD_MASK rfl).set key_LANT_BURST_MASK rfl)
  have hs3 : Within mask_lantShow s s3 :=
    (hs2.setB key_LANT_ANY_SHED rfl)
  have hs4 : Within mask_lantShow s s4 :=
    (hs3.setB key_LANT_ANY_BURST rfl)
  have hs5 : Within mask_lantShow s s5 :=
    (hs4.setB key_LANT_ANY_DOWN rfl)
  exact (hs5.setSat key_LANT_HP_TOTAL rfl)

def mask_dropFilling : Nat := 0x2000000000000000000000000000000000000000000000000000000000000000000000000000000000000000000000000000000000000000000000000001000000010000

theorem within_dropFilling {s : State} {b1 : Nat} : Within mask_dropFilling s (dropFilling s b1) := by
  unfold dropFilling
  extract_lets -merge -useContext -underBinder v0
  exact (Within.ite
    (((Within.refl mask_dropFilling s).countDrop (key_LH_FRM_INC_CNT _) rfl rfl).step within_State_setHead rfl)
    (Within.refl mask_dropFilling s))

def mask_leaveRun : Nat := 0x32c40008000000000000000000000000000000000000000000000000000000000000000000000000000002000043180000000000000000000000000000000000000000000000000000000000000000000000000000000000000000000000000000000000000000001000000810000

theorem within_leaveRun {s : State} {b1 : Nat} : Within mask_leaveRun s (leaveRun s b1) := by
  unfold leaveRun
  extract_lets -merge -useContext -underBinder s0 s1 s2 v3
  have hs0 : Within mask_leaveRun s s0 :=
    ((Within.refl mask_leaveRun s).step within_dropFilling rfl)
  have hs1 : Within mask_leaveRun s s1 :=
    ((hs0.setB (key_LH_RUN _) rfl).setB (key_LH_GEAR_LOW _) rfl)
  have hs2 : Within mask_leaveRun s s2 :=
    ((hs1.setB (key_LH_BURST _) rfl).setB (key_LH_FRAME_STALE _) rfl)
  exact (((hs2.set (key_LH_MODE _) rfl).step within_State_setHead rfl).step within_echoHead rfl)

def mask_toState : Nat := 0x7ce000000000002000000000000000000000000000000000000000000000000000000000000000000000000000000000000000000000000000000000000000000000000000000

theorem within_toState {s : State} {b1 : Nat} {b2 : Nat} : Within mask_toState s (toState s b1 b2) := by
  unfold toState
  exact (((Within.refl mask_toState s).set (key_LH_LINK_STATE _) rfl).step within_lantShow rfl)

def mask_toPower : Nat := 0x7ce000000000036000000000000000000000000000000000000000000000000000000000000000000000000000000000000000000000000000000000000000000000000000000

theorem within_toPower {s : State} {b1 : Nat} : Within mask_toPower s (toPower s b1) := by
  unfold toPower
  extract_lets -merge -useContext -underBinder s0
  have hs0 : Within mask_toPower s s0 :=
    ((((Within.refl mask_toPower s).setB (key_LH_PWR_TRIP _) rfl).setB (key_LH_HP_SHED _) rfl).set (key_LH_REJ_CODE _) rfl)
  exact (hs0.step within_toState rfl)

def mask_linkDown : Nat := 0x32c40008000000000000000000000000000000000000000000000000000000000000000000000000000002000073f80000000000000000000000000000000000000000000000000000000000000000000000000000000000000000000000000000000000000000001000000810000

theorem within_linkDown {s : State} {b1 : Nat} : Within mask_linkDown s (linkDown s b1) := by
  unfold linkDown
  extract_lets -merge -useContext -underBinder s0
  have hs0 : Within mask_linkDown s s0 :=
    ((((Within.refl mask_linkDown s).setB (key_LH_LINK_UP _) rfl).setB (key_LH_CAL_OK _) rfl).set (key_LH_GEAR _) rfl)
  exact (((hs0.setB (key_LH_ID_OK _) rfl).set (key_LH_HVER _) rfl).step within_leaveRun rfl)

def mask_unpower : Nat := 0x32c400080000000000000000000000000000000000000000000000000000000000000000000000007ce0020001f3fc2000000000000000000000000000000000000000000000000000000000000000000000000000000000000000000000000000000000000000001000000810000

theorem within_unpower {s : State} {b1 : Nat} {b2 : Nat} : Within mask_unpower s (unpower s b1 b2) := by
  unfold unpower
  extract_lets -merge -useContext -underBinder s0
  have hs0 : Within mask_unpower s s0 :=
    ((((Within.refl mask_unpower s).step within_linkDown rfl).setB (key_LH_PRESENT _) rfl).set (key_LH_HP_MW _) rfl)
  exact ((hs0.set (key_LH_HP_V _) rfl).step within_toState rfl)

def mask_portUp : Nat := 0x7ce000000000036000000000000000000000000000000000000000000000000000000000000000000000000000000000000000000000000000000000000000000000000000000

theorem within_portUp {s : State} {b1 : Nat} : Within mask_portUp s (portUp s b1) := by
  unfold portUp
  exact (Within.ite
    (Within.refl mask_portUp s)
    (Within.ite
      ((Within.refl mask_portUp s).step within_toState rfl)
      ((Within.refl mask_portUp s).step within_toPower rfl)))

def mask_portSync : Nat := 0x32c400080000000000000000000000000000000000000000000000000000000000000000000000007ce0020001f3ff6000000000000000000000000000000000000000000000000000000000000000000000000000000000000000000000000000000000000000001000000810000

theorem within_portSync {s : State} {b1 : Nat} : Within mask_portSync s (portSync s b1) := by
  unfold portSync
  extract_lets -merge -useContext -underBinder s0
  have hs0 : Within mask_portSync s s0 :=
    (Within.ite
      (Within.refl mask_portSync s)
      (((Within.refl mask_portSync s).setB (key_LH_PWR_TRIP _) rfl).setB (key_LH_HP_SHED _) rfl))
  exact (Within.ite
    (Within.refl mask_portSync s)
    (Within.ite
      (Within.ite
        ((Within.refl mask_portSync s).step within_portUp rfl)
        (Within.refl mask_portSync s))
      (Within.ite
        hs0
        (hs0.step within_unpower rfl))))

def mask_portsOn : Nat := 0x32c400080000000000000000000000000000000000000000000000000000000000000000000000007de0022001f3ffe000000000000000000000000000000000000000000000000000000000000000000000000000000000000000000000000000000000000000001000000810000

theorem within_portsOn {s : State} : Within mask_portsOn s (portsOn s) := by
  unfold portsOn
  extract_lets -merge -useContext -underBinder s0
  have hs0 : Within mask_portsOn s s0 :=
    ((Within.refl mask_portsOn s).setB key_LANT_HP_OK rfl)
  exact ((hs0.eachHead fun t1 x1 hl1 =>
    (by
      extract_lets -merge -useContext -underBinder s2 v3
      have hs2 : Within mask_portsOn s s2 :=
        ((hl1.set (key_LH_GW_RUN _) rfl).setB (key_LH_GW_GOOD _) rfl)
      exact ((hs2.step within_State_setHead rfl).step within_portSync rfl) : Within mask_portsOn s _)).step within_lantShow rfl)

def mask_portFault : Nat := 0x7ce000000000036000000000000000000000000000000000000000000000000000000000000000000000000000000000000000000000000000000000000000000000000010000

theorem within_portFault {s : State} {b1 : Nat} : Within mask_portFault s (portFault s b1) := by
  unfold portFault
  extract_lets -merge -useContext -underBinder v0 s1
  have hs1 : Within mask_portFault s s1 :=
    ((Within.refl mask_portFault s).step within_State_setHead rfl)
  exact (Within.ite
    (hs1.step within_toPower rfl)
    (hs1.step within_toState rfl))

def mask_linkLoss : Nat := 0x32c400080000000000000000000000000000000000000000000000000000000000000000000000007ce012000073fb6000000000000000000000000000000000000000000000000000000000000000000000000000000000000000000000000000000000000000001800000810000

theorem within_linkLoss {s : State} {b1 : Nat} : Within mask_linkLoss s (linkLoss s b1) := by
  unfold linkLoss
  exact ((((Within.refl mask_linkLoss s).countFault (key_LH_LINK_LOSS_CNT _) rfl rfl).step within_linkDown rfl).step within_portFault rfl)

def mask_drawCode : Nat := 0x10100

theorem within_drawCode {s : State} {b1 : Nat} {b2 : Option Nat} : Within mask_drawCode s (drawCode s b1 b2) := by
  unfold drawCode
  extract_lets -merge -useContext -underBinder v0 v1
  exact (((Within.refl mask_drawCode s).step within_State_draw rfl).step within_State_setHead rfl)

def mask_stampCode : Nat := 0x10000

theorem within_stampCode {s : State} {b1 : Nat} {b2 : Nat} {b3 : Nat} : Within mask_stampCode s (stampCode s b1 b2 b3) := by
  unfold stampCode
  extract_lets -merge -useContext -underBinder v0 v1
  exact (Within.ite
    ((Within.refl mask_stampCode s).step within_State_setHead rfl)
    (Within.refl mask_stampCode s))

def mask_glowMismatch : Nat := 0x7ce080300000008000000000000000000000000000000000000000000000000000000000000000000000000000000000000000000000000000000000000000000800000010000

theorem within_glowMismatch {s : State} {b1 : Nat} : Within mask_glowMismatch s (glowMismatch s b1) := by
  unfold glowMismatch
  extract_lets -merge -useContext -underBinder s0 s1 v2
  have hs0 : Within mask_glowMismatch s s0 :=
    ((Within.refl mask_glowMismatch s).countFault (key_LH_GW_FAIL_CNT _) rfl rfl)
  have hs1 : Within mask_glowMismatch s s1 :=
    (((hs0.set (key_LH_GW_RESULT _) rfl).set (key_LH_GW_RUN _) rfl).setB (key_LH_GW_GOOD _) rfl)
  exact ((hs1.step within_State_setHead rfl).step within_lantShow rfl)

def mask_glowReport : Nat := 0x10000

theorem within_glowReport {s : State} {b1 : Nat} {b2 : Nat} {b3 : Nat} {b4 : List (Option Int)} : Within mask_glowReport s (glowReport s b1 b2 b3 b4) := by
  unfold glowReport
  extract_lets -merge -useContext -underBinder v0 v1 v2
  clear_value v1
  split
  · rename_i w3 w4 w5 w6 w7
    exact (Within.ite
      ((Within.refl mask_glowReport s).step within_State_setHead rfl)
      ((Within.refl mask_glowReport s).step within_State_setHead rfl))
  · rename_i w8 e9
    exact ((Within.refl mask_glowReport s).step within_State_setHead rfl)

def mask_glowJudge : Nat := 0x7ce0807c0000008000000000000000000000000000000000000000000000000000000000000000000000000000000000000000000000000000000000000000000800000010000

theorem within_glowJudge {s : State} {b1 : Nat} {b2 : Nat} : Within mask_glowJudge s (glowJudge s b1 b2) := by
  unfold glowJudge
  extract_lets -merge -useContext -underBinder v0 v1 v2 s3 s4 s5 v6 s7
  have hs3 : Within mask_glowJudge s s3 :=
    ((Within.refl mask_glowJudge s).set (key_LH_GW_SENT _) rfl)
  have hs4 : Within mask_glowJudge s s4 := by
    unfold s4
    clear_value v2
    split
    · rename_i w8 w9 w10
      exact (hs3.set (key_LH_GW_REP _) rfl)
    · rename_i w11
      exact hs3
  have hs5 : Within mask_glowJudge s s5 :=
    (((hs4.set (key_LH_GW_RESULT _) rfl).count (key_LH_GW_RUN _) rfl).set (key_LH_GW_MS _) rfl)
  have hs7 : Within mask_glowJudge s s7 :=
    (hs5.step within_State_setHead rfl)
  exact (Within.ite
    (hs4.set (key_LH_GW_RESULT _) rfl)
    (Within.ite
      (Within.ite
        (hs7.setB (key_LH_GW_GOOD _) rfl)
        hs7)
      (hs4.step within_glowMismatch rfl)))

def mask_glowDecide : Nat := 0x7ce0807c0000008000000000000000000000000000000000000000000000000000000000000000000000000000000000000000000000000000000000000000000800000010100

theorem within_glowDecide {s : State} {b1 : Nat} {b2 : Nat} : Within mask_glowDecide s (glowDecide s b1 b2) := by
  unfold glowDecide
  extract_lets -merge -useContext -underBinder v0 v1
  split
  · rename_i w2 e3
    exact (Within.refl mask_glowDecide s)
  · rename_i w4 w5 e6
    exact (Within.ite
      (Within.refl mask_glowDecide s)
      ((((Within.refl mask_glowDecide s).step within_glowJudge rfl).step within_drawCode rfl).step within_lantShow rfl))

def mask_enterRun : Nat := 0x32c400080000000000000000000000000000000000000000000000000000000000000000000000007ce0807c000128a000000000000000000000000000000000000000000000000000000000000000000000000000000000000000000000000000000000000000001800000810100

theorem within_enterRun {s : State} {b1 : Nat} : Within mask_enterRun s (enterRun s b1) := by
  unfold enterRun
  extract_lets -merge -useContext -underBinder s0 s1 v2 s3
  have hs0 : Within mask_enterRun s s0 :=
    ((((Within.refl mask_enterRun s).setB (key_LH_RUN _) rfl).setB (key_LH_CAL_OK _) rfl).setB (key_LH_GEAR_LOW _) rfl)
  have hs1 : Within mask_enterRun s s1 := by
    unfold s1
    split
    · rename_i w4 w5 e6
      exact (hs0.step within_glowJudge rfl)
    · rename_i w7 e8
      exact hs0
  have hs3 : Within mask_enterRun s s3 :=
    (hs1.step within_State_setHead rfl)
  exact (((hs3.step within_drawCode rfl).step within_toState rfl).step within_echoHead rfl)

def mask_toCalib : Nat := 0x7ce000000000002000000000000000000000000000000000000000000000000000000000000000000000000000000000000000000000000000000000000000000000000010000

theorem within_toCalib {s : State} {b1 : Nat} : Within mask_toCalib s (toCalib s b1) := by
  unfold toCalib
  extract_lets -merge -useContext -underBinder v0
  exact (((Within.refl mask_toCalib s).step within_State_setHead rfl).step within_toState rfl)

def mask_identDone : Nat := 0x100000000000000000000000000000000000000000000000000000000000000000000000000000000000000000000000000000000000000000000000000007ce080303e1040e000000000000000000000000000000000000000000000000000000000000000000000000000000000000000000000000000000000000000000800000010000

theorem within_identDone {s : State} {b1 : Nat} {b2 : List Nat} {b3 : Bool} : Within mask_identDone s (identDone s b1 b2 b3) := by
  unfold identDone
  extract_lets -merge -useContext -underBinder v0 s1 v2 s3 s4 s5 v6 v7 s8 s9 v10 s11
  have hs1 : Within mask_identDone s s1 :=
    ((Within.refl mask_identDone s).wrBytesTo (mem_LH_2 _) rfl)
  have hs3 : Within mask_identDone s s3 :=
    ((hs1.set (key_LH_HEAD_VENDOR _) rfl).set (key_LH_HEAD_MODEL _) rfl)
  have hs4 : Within mask_identDone s s4 :=
    ((hs3.set (key_LH_HEAD_SER_HI _) rfl).set (key_LH_HEAD_SER_LO _) rfl)
  have hs5 : Within mask_identDone s s5 :=
    (hs4.set (key_LH_CAL_CRC _) rfl)
  have hs8 : Within mask_identDone s s8 :=
    (hs5.step within_State_setHead rfl)
  have hs9 : Within mask_identDone s s9 :=
    (Within.ite
      (hs8.step within_glowMismatch rfl)
      hs8)
  have hs11 : Within mask_identDone s s11 :=
    (hs9.set (key_LH_REJ_CODE _) rfl)
  exact (Within.ite
    (Within.refl mask_identDone s)
    (Within.ite
      (hs11.step within_toState rfl)
      (((hs11.set (key_LH_HVER _) rfl).setB (key_LH_ID_OK _) rfl).step within_toCalib rfl)))

def mask_calBin : Nat := 0x8000000000000000000000000000000000000000000000000000000000000000000000000000000000000000000000000000000000000000000000000000000000000000000000000000000000000000000000000000000000000000000000000000000000000000000000000000000000000000000000000000000000000000000000000

theorem within_calBin {s : State} {b1 : Nat} : Within mask_calBin s (calBin s b1) := by
  unfold calBin
  exact ((Within.refl mask_calBin s).foldl fun t0 x0 hl0 =>
    (by
      extract_lets -merge -useContext -underBinder v1 v2 v3 v4
      exact ((hl0.wr32To mem_LANT_15 rfl).wr32To mem_LANT_15 rfl) : Within mask_calBin s _))

def mask_calibFailed : Nat := 0x7ce000000000006000000000000000000000000000000000000000000000000000000000000000000000000000000000000000000000000000000000000000000000000010000

theorem within_calibFailed {s : State} {b1 : Nat} : Within mask_calibFailed s (calibFailed s b1) := by
  unfold calibFailed
  extract_lets -merge -useContext -underBinder v0
  exact (Within.ite
    ((((Within.refl mask_calibFailed s).set (key_LH_REJ_CODE _) rfl).step within_State_setHead rfl).step within_toState rfl)
    ((Within.refl mask_calibFailed s).step within_State_setHead rfl))

def mask_calStore : Nat := 0x8000000000000000000000000000000000000000000000000000000000000000000000000000000000000000000000000000000000000000000000000000000000000000000000000000000000000000000000000000000000000000000000000000000000000000000000000000000000000000000000000000000000000000000000000

theorem within_calStore {s : State} {b1 : Nat} {b2 : List (Nat × Nat)} : Within mask_calStore s (calStore s b1 b2) := by
  unfold calStore
  exact (((Within.refl mask_calStore s).wipeBytesTo mem_LANT_15 rfl).foldl fun t0 x0 hl0 =>
    (hl0.wr32To mem_LANT_15 rfl))

def mask_calibDone : Nat := 0x8000000000000000000000000000000000000000000032c400080000000000000000000000000000000000000000000000000000000000000000000000007ce0807c000128e000000000000000000000000000000000000000000000000000000000000000000000000000000000000000000000000000000000000000001800000810100

theorem within_calibDone {s : State} {b1 : Nat} {b2 : Sys2Proof.CalRead} : Within mask_calibDone s (calibDone s b1 b2) := by
  unfold calibDone
  extract_lets -merge -useContext -underBinder v0
  exact (Within.ite
    (Within.refl mask_calibDone s)
    (by
      split
      · rename_i w1
        exact ((Within.refl mask_calibDone s).step within_calibFailed rfl)
      · rename_i w2
        exact (Within.ite
          (Within.refl mask_calibDone s)
          (Within.ite
            ((Within.refl mask_calibDone s).step within_enterRun rfl)
            ((Within.refl mask_calibDone s).step within_State_setHead rfl)))
      · rename_i w3 w4
        extract_lets -merge -useContext -underBinder s5
        have hs5 : Within mask_calibDone s s5 :=
          ((Within.refl mask_calibDone s).step within_calStore rfl)
        exact (Within.ite
          (((hs5.step within_calBin rfl).step within_State_setHead rfl).step within_enterRun rfl)
          (hs5.step within_calibFailed rfl)) : Within mask_calibDone s _))

def mask_retrain : Nat := 0x32c400080000000000000000000000000000000000000000000000000000000000000000000000007ce012000073fb6000000000000000000000000000000000000000000000000000000000000000000000000000000000000000000000000000000000000000001800000810000

theorem within_retrain {s : State} {b1 : Nat} : Within mask_retrain s (retrain s b1) := by
  unfold retrain
  extract_lets -merge -useContext -underBinder v0 v1 s2
  have hs2 : Within mask_retrain s s2 :=
    ((Within.refl mask_retrain s).step within_State_setHead rfl)
  exact (Within.ite
    (hs2.step within_linkLoss rfl)
    (Within.ite
      ((hs2.step within_linkDown rfl).step within_toPower rfl)
      (Within.ite
        (hs2.step within_toPower rfl)
        (Within.ite
          (hs2.setB (key_LH_PWR_TRIP _) rfl)
          hs2))))

def mask_recal : Nat := 0x32c400080000000000000000000000000000000000000000000000000000000000000000000000007ce002000043382000000000000000000000000000000000000000000000000000000000000000000000000000000000000000000000000000000000000000001000000810000

theorem within_recal {s : State} {b1 : Nat} : Within mask_recal s (recal s b1) := by
  unfold recal
  extract_lets -merge -useContext -underBinder v0 s1
  have hs1 : Within mask_recal s s1 :=
    ((Within.refl mask_recal s).step within_State_setHead rfl)
  exact (Within.ite
    (((hs1.step within_leaveRun rfl).setB (key_LH_CAL_OK _) rfl).step within_toCalib rfl)
    hs1)

def mask_lhCommand : Nat := 0x32c400080000000000000000000000000000000000000000000000000000000000000000000000007ce012000073fb6000000000000000000000000000000000000000000000000000000000000000000000000000000000000000000000000000000000000000001800000810000

theorem within_lhCommand {s : State} {b1 : Nat} {b2 : Nat} : WithinP mask_lhCommand s (lhCommand s b1 b2) := by
  unfold lhCommand
  split
  · rename_i w0
    exact (WithinP.mk ((Within.refl mask_lhCommand s).step within_retrain rfl))
  · rename_i w1
    exact (WithinP.mk ((Within.refl mask_lhCommand s).step within_recal rfl))
  · rename_i w2 e3 e4
    exact (WithinP.mk (Within.refl mask_lhCommand s))

def mask_powerTrip : Nat := 0x32c400080000000000000000000000000000000000000000000000000000000000000000000000007ce0520001f3fe2000000000000000000000000000000000000000000000000000000000000000000000000000000000000000000000000000000000000000001800000810000

theorem within_powerTrip {s : State} {b1 : Nat} : Within mask_powerTrip s (powerTrip s b1) := by
  unfold powerTrip
  extract_lets -merge -useContext -underBinder v0 v1 s2 s3
  have hs2 : Within mask_powerTrip s s2 :=
    (Within.ite
      ((Within.refl mask_powerTrip s).count (key_LH_LINK_LOSS_CNT _) rfl)
      (Within.refl mask_powerTrip s))
  have hs3 : Within mask_powerTrip s s3 :=
    ((hs2.countFault (key_LH_PWR_TRIP_CNT _) rfl rfl).setB (key_LH_PWR_TRIP _) rfl)
  exact ((hs3.step within_State_setHead rfl).step within_unpower rfl)

def mask_portPowers : Nat := 0x7ce000000080000000000000000000000000000000000000000000000000000000000000000000000000000000000000000000000000000000000000000000000000000000000

theorem within_portPowers {s : State} {b1 : List Nat} : Within mask_portPowers s (portPowers s b1) := by
  unfold portPowers
  exact (((Within.refl mask_portPowers s).eachHead fun t0 x0 hl0 =>
    (hl0.setSat (key_LH_HP_MW _) rfl)).step within_lantShow rfl)

def mask_budgetShed : Nat := 0x32c400080000000000000000000000000000000000000000000000000000000000000000000000027ce0520001f3fd2000000000000000000000000000000000000000000000000000000000000000000000000000000000000000000000000000000000000000001800000810000

theorem within_budgetShed {s : State} {b1 : List Nat} : Within mask_budgetShed s (budgetShed s b1) := by
  unfold budgetShed
  extract_lets -merge -useContext -underBinder s0
  have hs0 : Within mask_budgetShed s s0 :=
    ((Within.refl mask_budgetShed s).step within_portPowers rfl)
  exact (Within.ite
    hs0
    (by
      split
      · rename_i w1 e2
        exact hs0
      · rename_i w3 w4 e5
        extract_lets -merge -useContext -underBinder s6 s7
        have hs6 : Within mask_budgetShed s s6 :=
          (Within.ite
            (hs0.count (key_LH_LINK_LOSS_CNT _) rfl)
            hs0)
        have hs7 : Within mask_budgetShed s s7 :=
          ((hs6.countFault (key_LH_PWR_TRIP_CNT _) rfl rfl).count key_LANT_HP_SHED_CNT rfl)
        exact ((hs7.setB (key_LH_HP_SHED _) rfl).step within_unpower rfl) : Within mask_budgetShed s _))

def mask_frameTrigger : Nat := 0x7ce200000040100000000000000000000000000000000000000000000000000000000000000000000000000000000000000000000000000000000000000000000000000010000

theorem within_frameTrigger {s : State} {b1 : Nat} {b2 : Nat} : Within mask_frameTrigger s (frameTrigger s b1 b2) := by
  unfold frameTrigger
  extract_lets -merge -useContext -underBinder v0 v1 v2 s3 s4 v5 v6 v7
  have hs3 : Within mask_frameTrigger s s3 :=
    (Within.ite
      ((Within.refl mask_frameTrigger s).count (key_LH_BURST_CNT _) rfl)
      (Within.refl mask_frameTrigger s))
  have hs4 : Within mask_frameTrigger s s4 :=
    (((hs3.setB (key_LH_BURST _) rfl).set (key_LH_MODE _) rfl).step within_stampCode rfl)
  exact (Within.ite
    (Within.refl mask_frameTrigger s)
    ((hs4.step within_State_setHead rfl).step within_lantShow rfl))

def mask_shotsSeen : Nat := 0x10000

theorem within_shotsSeen {s : State} {b1 : Nat} : Within mask_shotsSeen s (shotsSeen s b1) := by
  unfold shotsSeen
  extract_lets -merge -useContext -underBinder v0 v1 f2
  have hf2 : ∀ x3_0 x3_1, Within mask_shotsSeen s x3_0 → Within mask_shotsSeen s (f2 x3_0 x3_1) :=
    fun x3_0 x3_1 hl3 => by
      unfold f2
      extract_lets -merge -useContext -underBinder v4
      exact (hl3.step within_State_setHead rfl)
  exact (hf2 _ _ (hf2 _ _ (Within.refl mask_shotsSeen s)))

def mask_setSlot : Nat := 0x10000

theorem within_setSlot {s : State} {b1 : Nat} {b2 : Nat} {b3 : Slot} : Within mask_setSlot s (setSlot s b1 b2 b3) := by
  unfold setSlot
  extract_lets -merge -useContext -underBinder v0
  exact ((Within.refl mask_setSlot s).step within_State_setHead rfl)

def mask_openSlot : Nat := 0x6000000000000000000000000000000000000000000000000000000000000000000000000000000000000000000000000000000000000000000000000001000000010000

theorem within_openSlot {s : State} {b1 : Nat} {b2 : Nat} : Within mask_openSlot s (openSlot s b1 b2) := by
  unfold openSlot
  extract_lets -merge -useContext -underBinder v0
  split
  · rename_i w1 e2
    exact (Within.refl mask_openSlot s)
  · rename_i w3 w4 e5
    extract_lets -merge -useContext -underBinder s6 s7 v8
    have hs6 : Within mask_openSlot s s6 :=
      ((Within.refl mask_openSlot s).step within_State_setHead rfl)
    have hs7 : Within mask_openSlot s s7 :=
      (hs6.step within_dropFilling rfl)
    split
    · rename_i w9 e10
      exact (hs7.countDrop (key_LH_FRM_FULL_CNT _) rfl rfl)
    · rename_i w11 w12 e13
      exact (hs7.step within_setSlot rfl)

def mask_frameWaits : Nat := 0x800000000000000000000000000000000000000000000000000000000000000000000000000000000000000000000000000000000000000000000000000000000000001000000010000

theorem within_frameWaits {s : State} {b1 : Nat} {b2 : Nat} : Within mask_frameWaits s (frameWaits s b1 b2) := by
  unfold frameWaits
  extract_lets -merge -useContext -underBinder v0 v1 s2 v3 v4 v5
  have hs2 : Within mask_frameWaits s s2 :=
    (Within.ite
      ((Within.refl mask_frameWaits s).countDrop key_LVOL_PROC_SKIP_CNT rfl rfl)
      (Within.refl mask_frameWaits s))
  exact (Within.ite
    (hs2.step within_State_setHead rfl)
    ((Within.refl mask_frameWaits s).step within_setSlot rfl))

def mask_frameEnd : Nat := 0x80000000000983c002000000000000000000000000000000000000000000000000000000000000000000000000000000000000000000000000000000000000000000001000000010000

theorem within_frameEnd {s : State} {b1 : Nat} {b2 : Nat} {b3 : Nat} : Within mask_frameEnd s (frameEnd s b1 b2 b3) := by
  unfold frameEnd
  extract_lets -merge -useContext -underBinder v0 v1 v2 s3 s4 v5 s6 s7
  have hs3 : Within mask_frameEnd s s3 :=
    ((Within.refl mask_frameEnd s).countBy (key_LH_FRM_SKIP_CNT _) rfl)
  have hs4 : Within mask_frameEnd s s4 :=
    (((hs3.count (key_LH_FRM_OK_CNT _) rfl).set (key_LH_FRAME_NO _) rfl).set (key_LH_FRAME_TIME _) rfl)
  have hs6 : Within mask_frameEnd s s6 :=
    ((hs4.setSat (key_LH_FRAME_LAT _) rfl).setSat (key_LH_FRAME_AGE_MS _) rfl)
  have hs7 : Within mask_frameEnd s s7 :=
    (hs6.setB (key_LH_FRAME_STALE _) rfl)
  exact (Within.ite
    (((Within.refl mask_frameEnd s).countDrop (key_LH_FRM_CRC_CNT _) rfl rfl).step within_setSlot rfl)
    ((hs7.step within_State_setHead rfl).step within_frameWaits rfl))

def mask_frameLine : Nat := 0x800000000000000000000000000000000000000000000000000000000000000000000000000000000000000000000000000000000000000000000080000080000f83c002000000000000000000000000000000000000000000000000000000000000000000000000000000000000000000000000000000000000000000001000000030000

theorem within_frameLine {s : State} {b1 : Nat} {b2 : Nat} {b3 : Nat} {b4 : Nat} {b5 : Bool} {b6 : List Nat} : Within mask_frameLine s (frameLine s b1 b2 b3 b4 b5 b6) := by
  unfold frameLine
  extract_lets -merge -useContext -underBinder s0
  have hs0 : Within mask_frameLine s s0 :=
    (Within.ite
      ((Within.refl mask_frameLine s).step within_openSlot rfl)
      (Within.refl mask_frameLine s))
  exact (Within.ite
    (Within.refl mask_frameLine s)
    (by
      split
      · rename_i w1 e2
        exact hs0
      · rename_i w3 w4 e5
        extract_lets -merge -useContext -underBinder v6 v7 v8 s9 v10 s11 v12 s13
        have hs9 : Within mask_frameLine s s9 :=
          ((hs0.upd_ingest rfl).setSat key_LANT_ING_MBPS rfl)
        have hs11 : Within mask_frameLine s s11 :=
          (hs9.wrBytesTo mem_LANT_15 rfl)
        have hs13 : Within mask_frameLine s s13 :=
          (hs11.step within_setSlot rfl)
        exact (Within.ite
          hs0
          (Within.ite
            (hs13.step within_frameEnd rfl)
            hs13)) : Within mask_frameLine s _))

def mask_glowSilence : Nat := 0x7ce100300000008000000000000000000000000000000000000000000000000000000000000000000000000000000000000000000000000000000000000000000800000010000

theorem within_glowSilence {s : State} {b1 : Nat} : Within mask_glowSilence s (glowSilence s b1) := by
  unfold glowSilence
  extract_lets -merge -useContext -underBinder v0 s1 s2
  have hs1 : Within mask_glowSilence s s1 :=
    ((Within.refl mask_glowSilence s).countFault (key_LH_GW_SIL_CNT _) rfl rfl)
  have hs2 : Within mask_glowSilence s s2 :=
    (((hs1.set (key_LH_GW_RESULT _) rfl).set (key_LH_GW_RUN _) rfl).setB (key_LH_GW_GOOD _) rfl)
  exact (Within.ite
    (Within.refl mask_glowSilence s)
    ((hs2.step within_State_setHead rfl).step within_lantShow rfl))

def mask_execHeadPresent : Nat := 0x7ce000000180040000000000000000000000000000000000000000000000000000000000000000000000000000000000000000000000000000000000000000000000000000000

theorem within_execHeadPresent {b0 : Fin 16} {b1 : Nat} {b2 : Nat} {s : State} : WithinO mask_execHeadPresent s (execHeadPresent b0 b1 b2 s) := by
  unfold execHeadPresent
  exact (WithinO.ite
    (WithinO.next (Within.refl mask_execHeadPresent s))
    (WithinO.next (((((Within.refl mask_execHeadPresent s).setB (key_LH_PRESENT _) rfl).setSat (key_LH_HP_MW _) rfl).setSat (key_LH_HP_V _) rfl).step within_lantShow rfl)))

def mask_execHeadLinkReady : Nat := 0x7ce000000000002000000000000000000000000000000000000000000000000000000000000000000000000000000000000000000000000000000000000000000000000000000

theorem within_execHeadLinkReady {b0 : Fin 16} {s : State} : WithinO mask_execHeadLinkReady s (execHeadLinkReady b0 s) := by
  unfold execHeadLinkReady
  exact (WithinO.next (Within.ite
    ((Within.refl mask_execHeadLinkReady s).step within_toState rfl)
    (Within.refl mask_execHeadLinkReady s)))

def mask_execLinkReadyTimeout : Nat := 0x7ce000000000036000000000000000000000000000000000000000000000000000000000000000000000000000000000000000000000000000000000000000000000000010000

theorem within_execLinkReadyTimeout {b0 : Fin 16} {s : State} : WithinO mask_execLinkReadyTimeout s (execLinkReadyTimeout b0 s) := by
  unfold execLinkReadyTimeout
  exact (WithinO.next (Within.ite
    ((Within.refl mask_execLinkReadyTimeout s).step within_portFault rfl)
    (Within.refl mask_execLinkReadyTimeout s)))

def mask_execLinkTrainDone : Nat := 0x7ce020000020836000000000000000000000000000000000000000000000000000000000000000000000000000000000000000000000000000000000000000000000000010000

theorem within_execLinkTrainDone {b0 : Fin 16} {b1 : Fin 3} {s : State} : WithinO mask_execLinkTrainDone s (execLinkTrainDone b0 b1 s) := by
  unfold execLinkTrainDone
  exact (WithinO.ite
    (WithinO.next (Within.refl mask_execLinkTrainDone s))
    (WithinO.ite
      (WithinO.next ((Within.refl mask_execLinkTrainDone s).step within_portFault rfl))
      (WithinO.next (((((Within.refl mask_execLinkTrainDone s).setB (key_LH_LINK_UP _) rfl).set (key_LH_GEAR _) rfl).count (key_LH_TRAIN_CNT _) rfl).step within_toState rfl))))

def mask_execPortFaultWaitEnd : Nat := 0x7ce000000000036000000000000000000000000000000000000000000000000000000000000000000000000000000000000000000000000000000000000000000000000000000

theorem within_execPortFaultWaitEnd {b0 : Fin 16} {s : State} : WithinO mask_execPortFaultWaitEnd s (execPortFaultWaitEnd b0 s) := by
  unfold execPortFaultWaitEnd
  exact (WithinO.next (Within.ite
    ((Within.refl mask_execPortFaultWaitEnd s).step within_toPower rfl)
    (Within.refl mask_execPortFaultWaitEnd s)))

def mask_execHeadPowerTrip : Nat := 0x32c400080000000000000000000000000000000000000000000000000000000000000000000000007ce0520001f3fe2000000000000000000000000000000000000000000000000000000000000000000000000000000000000000000000000000000000000000001800000810000

theorem within_execHeadPowerTrip {b0 : Fin 16} {s : State} : WithinO mask_execHeadPowerTrip s (execHeadPowerTrip b0 s) := by
  unfold execHeadPowerTrip
  exact (WithinO.next (Within.ite
    (Within.refl mask_execHeadPowerTrip s)
    ((Within.refl mask_execHeadPowerTrip s).step within_powerTrip rfl)))

def mask_execHeadPowerRetry : Nat := 0x7ce000000000036000000000000000000000000000000000000000000000000000000000000000000000000000000000000000000000000000000000000000000000000000000

theorem within_execHeadPowerRetry {b0 : Fin 16} {s : State} : WithinO mask_execHeadPowerRetry s (execHeadPowerRetry b0 s) := by
  unfold execHeadPowerRetry
  exact (WithinO.next (Within.ite
    (Within.refl mask_execHeadPowerRetry s)
    (Within.ite
      ((Within.refl mask_execHeadPowerRetry s).step within_toPower rfl)
      (Within.ite
        ((Within.refl mask_execHeadPowerRetry s).setB (key_LH_PWR_TRIP _) rfl)
        (Within.refl mask_execHeadPowerRetry s)))))

def mask_execHeadBudgetShed : Nat := 0x32c400080000000000000000000000000000000000000000000000000000000000000000000000027ce0520001f3fd2000000000000000000000000000000000000000000000000000000000000000000000000000000000000000000000000000000000000000001800000810000

theorem within_execHeadBudgetShed {b0 : List Nat} {s : State} : WithinO mask_execHeadBudgetShed s (execHeadBudgetShed b0 s) := by
  unfold execHeadBudgetShed
  exact (WithinO.next (Within.ite
    ((Within.refl mask_execHeadBudgetShed s).step within_budgetShed rfl)
    (Within.refl mask_execHeadBudgetShed s)))

def mask_execHeadShedRestore : Nat := 0x7ce000000080036000000000000000000000000000000000000000000000000000000000000000000000000000000000000000000000000000000000000000000000000000000

theorem within_execHeadShedRestore {b0 : Fin 16} {b1 : List Nat} {s : State} : WithinO mask_execHeadShedRestore s (execHeadShedRestore b0 b1 s) := by
  unfold execHeadShedRestore
  extract_lets -merge -useContext -underBinder s0
  have hs0 : Within mask_execHeadShedRestore s s0 :=
    (Within.ite
      ((Within.refl mask_execHeadShedRestore s).step within_portPowers rfl)
      (Within.refl mask_execHeadShedRestore s))
  exact (WithinO.next (Within.ite
    hs0
    (Within.ite
      ((hs0.setB (key_LH_HP_SHED _) rfl).step within_lantShow rfl)
      (hs0.step within_toPower rfl))))

def mask_execFrameTrigger : Nat := 0x7ce200000040100000000000000000000000000000000000000000000000000000000000000000000000000000000000000000000000000000000000000000000000000010000

theorem within_execFrameTrigger {b0 : Fin 16} {b1 : Nat} {s : State} : WithinO mask_execFrameTrigger s (execFrameTrigger b0 b1 s) := by
  unfold execFrameTrigger
  exact (WithinO.next ((Within.refl mask_execFrameTrigger s).step within_frameTrigger rfl))

def mask_execFrameLineRx : Nat := 0x800000000000000000000000000000000000000000000000000000000000000000000000000000000000000000000000000000000000000000000080000080000f83c002000000000000000000000000000000000000000000000000000000000000000000000000000000000000000000000000000000000000000000001000000030000

theorem within_execFrameLineRx {b0 : Fin 16} {b1 : Nat} {b2 : Nat} {b3 : Nat} {b4 : Bool} {b5 : List Nat} {s : State} : WithinO mask_execFrameLineRx s (execFrameLineRx b0 b1 b2 b3 b4 b5 s) := by
  unfold execFrameLineRx
  exact (WithinO.next ((Within.refl mask_execFrameLineRx s).step within_frameLine rfl))

def mask_execFrameStale : Nat := 0x2000000000000000000000000000000000000000000000000000000000000000000000000000000000000000000000000000000000000000000000000000000000

theorem within_execFrameStale {b0 : Fin 16} {s : State} : WithinO mask_execFrameStale s (execFrameStale b0 s) := by
  unfold execFrameStale
  exact (WithinO.next (Within.ite
    ((Within.refl mask_execFrameStale s).setB (key_LH_FRAME_STALE _) rfl)
    (Within.refl mask_execFrameStale s)))

end Sys2Proof.Machine
end

