-- ==== Sys2Proof/Laws/FrameSensing.lean ====
section
/-! SUPPORT. What each operation and meaning of Machine/Sensing.lean can change: one mask and one lemma each. -/

set_option Elab.async false

namespace Sys2Proof.Machine

def mask_swReg : Nat := 0xc0000000000000000000000000000000000000000000000000000000000000000000000000000000000000000

theorem inregs_swReg {b0 : Nat} {b1 : Bool} : InRegs mask_swReg (swReg b0 b1).key := by
  unfold swReg
  repeat' split
  · exact .of1 323 (key_AX_SW_OPEN _) rfl
  · exact .of1 322 (key_AX_SW_CLOSED _) rfl

def mask_axLimitHit : Nat := 0x200000000000000000000000000000000000000000000000000000000000000000000000000000000000000000000000000000000000000000000000000000000000000020000000000000000000000000000000000000000000000000000000000000000000000000000000000000000000000000001000000008400

theorem within_axLimitHit {s : State} {b1 : Nat} {b2 : Bool} {b3 : Int} : Within mask_axLimitHit s (axLimitHit s b1 b2 b3) := by
  unfold axLimitHit
  extract_lets -merge -useContext -underBinder s0 v1 v2
  have hs0 : Within mask_axLimitHit s s0 :=
    (((Within.refl mask_axLimitHit s).count (key_AX_LIMIT_CNT _) rfl).step within_State_event rfl)
  exact ((hs0.step within_State_setAx rfl).step within_axAsk rfl)

def mask_switchMade : Nat := 0x200000000000000000000000000000000000000000000000000000000000000000000000000000000000000000000000000000000000000000000000000000000000000020800000000000000000000000000000000000000000000000000000000000000000000000000000000000000000000000001800000008400

theorem within_switchMade {s : State} {b1 : Nat} {b2 : Bool} {b3 : Int} : Within mask_switchMade s (switchMade s b1 b2 b3) := by
  unfold switchMade
  extract_lets -merge -useContext -underBinder v0 s1 s2 v3 v4 v5
  have hs1 : Within mask_switchMade s s1 :=
    (((Within.refl mask_switchMade s).setB (key_AX_SW_BOTH _) rfl).count (key_HDR_PG_FAULT_CNT _) rfl)
  have hs2 : Within mask_switchMade s s2 :=
    (Within.ite
      (Within.ite
        hs1
        (hs1.step within_axAsk rfl))
      (Within.refl mask_switchMade s))
  exact (Within.ite
    (Within.ite
      ((hs2.step within_State_setAx rfl).step within_axAsk rfl)
      (Within.ite
        ((hs2.step within_State_setAx rfl).step within_axAsk rfl)
        hs2))
    (Within.ite
      (hs2.step within_axLimitHit rfl)
      hs2))

def mask_switchAccepted : Nat := 0x200000000000000000000000000000000000000000000000000000000000000000000000000000000000000000000000000000000000000000000000000017e00000800021e00000000000273c001390c0000000000000000000000000000000000000000000000000000000000000000000000000001820000008400

theorem within_switchAccepted {s : State} {b1 : Nat} {b2 : Bool} : Within mask_switchAccepted s (switchAccepted s b1 b2) := by
  unfold switchAccepted
  extract_lets -merge -useContext -underBinder v0 v1 s2 s3 s4
  have hs2 : Within mask_switchAccepted s s2 :=
    ((Within.refl mask_switchAccepted s).setBIn (m := 0xc0000000000000000000000000000000000000000000000000000000000000000000000000000000000000000) inregs_swReg rfl)
  have hs3 : Within mask_switchAccepted s s3 :=
    (hs2.set64 (key_AX_CAP_HI _) rfl (key_AX_CAP_LO _) rfl)
  have hs4 : Within mask_switchAccepted s s4 :=
    (hs3.set (key_AX_CAP_SW _) rfl)
  exact (Within.ite
    (Within.refl mask_switchAccepted s)
    ((Within.ite
      (hs4.step within_switchMade rfl)
      ((hs4.setB (key_AX_SW_BOTH _) rfl).step within_State_setAx rfl)).step within_axShow rfl))

def mask_hardStop : Nat := 0x17e0000080000000000001000027fc00179000000000000000000000000000000000000000000000000000000000000000000000000000001020000000400

theorem within_hardStop {s : State} {b1 : Nat} : Within mask_hardStop s (hardStop s b1) := by
  unfold hardStop
  extract_lets -merge -useContext -underBinder v0 s1 v2 v3
  have hs1 : Within mask_hardStop s s1 :=
    (((Within.refl mask_hardStop s).step within_axFlush rfl).step within_stopInfo rfl)
  exact (Within.ite
    (Within.refl mask_hardStop s)
    (hs1.step within_putAx rfl))

def mask_forceTrip : Nat := 0xb8000000000000000000000000000020000000000000000000000000000000000000000000000000000000000000000000000000000000000002400

theorem within_forceTrip {s : State} {b1 : Nat} : Within mask_forceTrip s (forceTrip s b1) := by
  unfold forceTrip
  extract_lets -merge -useContext -underBinder v0 v1 v2 s3 s4 s5
  have hs3 : Within mask_forceTrip s s3 :=
    (((Within.refl mask_forceTrip s).setB (key_AX_FORCE_TRIP _) rfl).count (key_AX_FORCE_TRIP_CNT _) rfl)
  have hs4 : Within mask_forceTrip s s4 :=
    (((hs3.set (key_AX_TRIP_CAUSE _) rfl).set (key_AX_TRIP_BIN _) rfl).set (key_AX_TRIP_F _) rfl)
  have hs5 : Within mask_forceTrip s s5 :=
    (hs4.step within_State_setAx rfl)
  exact (Within.ite
    (Within.refl mask_forceTrip s)
    (Within.ite
      hs5
      (Within.ite
        (Within.ite
          hs5
          ((hs5.step within_State_source rfl).step within_askReversal rfl))
        (hs5.step within_axAsk rfl))))

def mask_gapReceived : Nat := 0x600000000000000000000000000000000000000000000000000000000000000000000000000000000000000000000000000000000000000000000400

theorem within_gapReceived {s : State} {b1 : Nat} {b2 : Nat} {b3 : Nat} : Within mask_gapReceived s (gapReceived s b1 b2 b3) := by
  unfold gapReceived
  extract_lets -merge -useContext -underBinder s0 v1 v2 v3 v4
  have hs0 : Within mask_gapReceived s s0 :=
    (((Within.refl mask_gapReceived s).setSat (key_AX_GAP_MM _) rfl).setSat (key_AX_GAP_AGE_MS _) rfl)
  exact (Within.ite
    hs0
    ((hs0.step within_State_setAx rfl).step within_axAsk rfl))

def mask_execEncoderLost : Nat := 0x2000000000000000000000000000000000000000000000000000000000000000000000000002c79e0032079807c00000000000000000000000000000000017e10000800800000700000000273c0013d90000000047ffe03ffb0001fffff3e01ebff7e000000000000000000000000000000000000000182000000bd00

theorem within_execEncoderLost {b0 : Fin 16} {s : State} : WithinO mask_execEncoderLost s (execEncoderLost b0 s) := by
  unfold execEncoderLost
  exact (WithinO.next (Within.ite
    (((Within.refl mask_execEncoderLost s).step within_encoderLost rfl).step within_safetyEval rfl)
    (Within.refl mask_execEncoderLost s)))

def mask_execEncoderRestored : Nat := 0x2c79e0032079807c00000000000000000000000000000000017e00000800000000000000000273c0013d00000000047ffe03ffb0001fffff3e01ebff7e0000000000000000000000000000000000000000820000003d00

theorem within_execEncoderRestored {b0 : Fin 16} {s : State} : WithinO mask_execEncoderRestored s (execEncoderRestored b0 s) := by
  unfold execEncoderRestored
  extract_lets -merge -useContext -underBinder v0
  exact (WithinO.next (((Within.refl mask_execEncoderRestored s).step within_State_setAx rfl).step within_safetyEval rfl))

def mask_execDeviationDecision : Nat := 0x6000000000000000200000000000000000000000000000000000000000000000000000000000000000000000000000000000000000000000000000000000000000000000000017e1e046e050001007000600003f3c001f973000000000000000000000000000000000000000000000000000000000000000000000000000182000000a400

theorem within_execDeviationDecision {b0 : Fin 16} {s : State} : WithinO mask_execDeviationDecision s (execDeviationDecision b0 s) := by
  unfold execDeviationDecision
  exact (WithinO.next ((Within.refl mask_execDeviationDecision s).step within_deviationDecision rfl))

def mask_execSwitchAccepted : Nat := 0x200000000000000000000000000000000000000000000000000000000000000000000000000000000000000000000000000000000000000000000000000017e00000800021e00000000000273c001390c0000000000000000000000000000000000000000000000000000000000000000000000000001820000008400

theorem within_execSwitchAccepted {b0 : Fin 16} {b1 : Bool} {s : State} : WithinO mask_execSwitchAccepted s (execSwitchAccepted b0 b1 s) := by
  unfold execSwitchAccepted
  exact (WithinO.next ((Within.refl mask_execSwitchAccepted s).step within_switchAccepted rfl))

def mask_execHardStopFound : Nat := 0x17e0000080000000000001000027fc00179000000000000000000000000000000000000000000000000000000000000000000000000000001020000000400

theorem within_execHardStopFound {b0 : Fin 16} {s : State} : WithinO mask_execHardStopFound s (execHardStopFound b0 s) := by
  unfold execHardStopFound
  exact (WithinO.next ((Within.refl mask_execHardStopFound s).step within_hardStop rfl))

def mask_execForceTrip : Nat := 0xb8000000000000000000000000000020000000000000000000000000000000000000000000000000000000000000000000000000000000000002400

theorem within_execForceTrip {b0 : Fin 16} {s : State} : WithinO mask_execForceTrip s (execForceTrip b0 s) := by
  unfold execForceTrip
  exact (WithinO.next ((Within.refl mask_execForceTrip s).step within_forceTrip rfl))

def mask_execReversalRequest : Nat := 0x38000000000000000000000000000000000000000000000000000000000000000000000000000000000000000000000000000000000000000001400

theorem within_execReversalRequest {b0 : Fin 16} {s : State} : WithinO mask_execReversalRequest s (execReversalRequest b0 s) := by
  unfold execReversalRequest
  extract_lets -merge -useContext -underBinder v0 v1 s2
  have hs2 : Within mask_execReversalRequest s s2 :=
    ((Within.refl mask_execReversalRequest s).upd_saf rfl)
  exact (WithinO.ite
    (WithinO.next (Within.refl mask_execReversalRequest s))
    (WithinO.next (hs2.step within_askReversal rfl)))

def mask_execSqzChange : Nat := 0x41201000000000000000000000000000000000000000000000000000000000000000000000000000000000000000000000000000000000000000400

theorem within_execSqzChange {b0 : Fin 8} {s : State} : WithinO mask_execSqzChange s (execSqzChange b0 s) := by
  unfold execSqzChange
  extract_lets -merge -useContext -underBinder v0 s1
  have hs1 : Within mask_execSqzChange s s1 :=
    (((Within.refl mask_execSqzChange s).setB (key_AX_SQZ _) rfl).step within_axModels rfl)
  exact (WithinO.ite
    (WithinO.next (Within.refl mask_execSqzChange s))
    (WithinO.next (Within.ite
      (hs1.step within_axAsk rfl)
      hs1)))

def mask_execGapMmReceived : Nat := 0x600000000000000000000000000000000000000000000000000000000000000000000000000000000000000000000000000000000000000000010400

theorem within_execGapMmReceived {b0 : Fin 8} {b1 : Nat} {b2 : Bool} {b3 : Nat} {s : State} : WithinO mask_execGapMmReceived s (execGapMmReceived b0 b1 b2 b3 s) := by
  unfold execGapMmReceived
  extract_lets -merge -useContext -underBinder v0 v1
  split
  · rename_i w2 e3
    exact (WithinO.next (Within.refl mask_execGapMmReceived s))
  · rename_i w4 w5 w6 e7
    extract_lets -merge -useContext -underBinder s8 v9
    have hs8 : Within mask_execGapMmReceived s s8 :=
      ((Within.refl mask_execGapMmReceived s).step within_State_setHead rfl)
    exact (WithinO.ite
      (WithinO.next (Within.refl mask_execGapMmReceived s))
      (WithinO.next (Within.ite
        (hs8.step within_gapReceived rfl)
        hs8)))

def mask_execGapStale : Nat := 0x400

theorem within_execGapStale {b0 : Fin 8} {s : State} : WithinO mask_execGapStale s (execGapStale b0 s) := by
  unfold execGapStale
  extract_lets -merge -useContext -underBinder v0
  exact (WithinO.ite
    (WithinO.next (Within.refl mask_execGapStale s))
    (WithinO.next (((Within.refl mask_execGapStale s).step within_State_setAx rfl).step within_axAsk rfl)))

def mask_execHoldReductionStart : Nat := 0x2c79e0032079807c00000000000000000000000000000000017e00000800000000000000000273c001bd00000000047ffe03ffb0001fffff3e01ebff7e0000000000000000000000000000000000000000820000003d00

theorem within_execHoldReductionStart {b0 : Fin 16} {s : State} : WithinO mask_execHoldReductionStart s (execHoldReductionStart b0 s) := by
  unfold execHoldReductionStart
  extract_lets -merge -useContext -underBinder v0
  exact (WithinO.ite
    (WithinO.next (Within.refl mask_execHoldReductionStart s))
    (WithinO.next ((((Within.refl mask_execHoldReductionStart s).setB (key_AX_HOLD _) rfl).step within_State_setAx rfl).step within_safetyEval rfl)))

end Sys2Proof.Machine
end

