-- ==== Sys2Proof/Laws/FrameVolumes.lean ====
section
/-! SUPPORT. What each operation and meaning of Machine/Volumes.lean can change: one mask and one lemma each. -/

set_option Elab.async false

namespace Sys2Proof.Machine

def mask_setBg : Nat := 0x4400000000000000000000000000000000000000000000000000000000000000000000000000000000000000000000000000000000000000000000000000000000000000000000000

theorem within_setBg {s : State} {b1 : Nat} {b2 : Nat} : Within mask_setBg s (setBg s b1 b2) := by
  unfold setBg
  extract_lets -merge -useContext -underBinder v0 s1
  have hs1 : Within mask_setBg s s1 :=
    ((Within.refl mask_setBg s).set key_LVOL_BG_STATE rfl)
  exact (hs1.setBit key_LVOL_BG_VALID_MASK rfl)

def mask_visionShow : Nat := 0x300000003c0be0000000000000000000000000000000000000000000000000000000000000000000000000000000000000000000000000000000000000000000000000000000000000000000000

theorem within_visionShow {s : State} : Within mask_visionShow s (visionShow s) := by
  unfold visionShow
  extract_lets -merge -useContext -underBinder s0 s1 s2 s3 s4 s5 s6 f7 s8
  have hs0 : Within mask_visionShow s s0 :=
    ((Within.refl mask_visionShow s).eachDw fun t9 x9 hl9 =>
      ((hl9.setB (key_LVOLD_TRUSTED _) rfl).setB (key_LVOLD_SQZ _) rfl))
  have hs1 : Within mask_visionShow s s1 :=
    (hs0.set key_LVOL_UNTRUST rfl)
  have hs2 : Within mask_visionShow s s2 :=
    (hs1.set key_LVOL_SQZ_MASK rfl)
  have hs3 : Within mask_visionShow s s3 :=
    (hs2.set key_LVOL_THIN rfl)
  have hs4 : Within mask_visionShow s s4 :=
    (hs3.set key_LVOL_PINCH_MASK rfl)
  have hs5 : Within mask_visionShow s s5 :=
    (hs4.set key_LVOL_BURST_REQ_MASK rfl)
  have hs6 : Within mask_visionShow s s6 :=
    (hs5.set key_LVOL_LQ_NE rfl)
  have hs8 : Within mask_visionShow s s8 :=
    ((hs6.set key_LVOL_LQ_FILL0 rfl).set key_LVOL_LQ_FILL1 rfl)
  exact (Within.ite
    (Within.refl mask_visionShow s)
    ((hs8.set key_LVOL_LQ_FILL2 rfl).set key_LVOL_LQ_FILL3 rfl))

def mask_visionEval1 : Nat := 0x8000002000000000000000000000000000000000000000000000000000000000000000000000000000000000000000000000000000000000000000000000000000000000000000000000001000

theorem within_visionEval1 {s : State} {b1 : Nat} : Within mask_visionEval1 s (visionEval1 s b1) := by
  unfold visionEval1
  extract_lets -merge -useContext -underBinder v0 s1 v2 s3 v4
  have hs1 : Within mask_visionEval1 s s1 :=
    (Within.ite
      ((Within.refl mask_visionEval1 s).set (key_LVOLD_UNT_WHY _) rfl)
      (Within.refl mask_visionEval1 s))
  have hs3 : Within mask_visionEval1 s s3 :=
    (Within.ite
      (hs1.count key_LVOL_SQZ_CNT rfl)
      hs1)
  exact (hs3.upd_saf rfl)

def mask_visionEval : Nat := 0x380000023c0be0000000000000000000000000000000000000000000000000000000000000000000000000000000000000000000000000000000000000000000000000000200000000000001000

theorem within_visionEval {s : State} : Within mask_visionEval s (visionEval s) := by
  unfold visionEval
  extract_lets -merge -useContext -underBinder s0
  have hs0 : Within mask_visionEval s s0 :=
    ((Within.refl mask_visionEval s).eachDw fun t1 x1 hl1 =>
      (hl1.step within_visionEval1 rfl))
  exact ((hs0.setB key_SYS_VISION_FULL rfl).step within_visionShow rfl)

def mask_bgWatch : Nat := 0x10004400000000000000000000000000000000000000000000000000000000000000000000000000000000000000000000000000000000000000000000000000000000000000000010000

theorem within_bgWatch {s : State} : Within mask_bgWatch s (bgWatch s) := by
  unfold bgWatch
  exact ((Within.refl mask_bgWatch s).eachDw fun t0 x0 hl0 =>
    (Within.ite
      (by
        extract_lets -merge -useContext -underBinder s1 v2 s3 v4
        have hs1 : Within mask_bgWatch s s1 :=
          ((hl0.step within_setBg rfl).count key_LVOL_BG_FAIL_CNT rfl)
        have hs3 : Within mask_bgWatch s s3 :=
          (hs1.step within_State_setHead rfl)
        exact (hs3.step within_State_setHead rfl) : Within mask_bgWatch s _)
      hl0))

def mask_burstSet : Nat := 0x40000000000000000000000000000000000000000000000000000000000000000000000000000000000000000000000000000000000000000000000000000000000000000000000000000002000

theorem within_burstSet {s : State} {b1 : Nat} {b2 : Bool} : Within mask_burstSet s (burstSet s b1 b2) := by
  unfold burstSet
  extract_lets -merge -useContext -underBinder v0
  exact (Within.ite
    (Within.refl mask_burstSet s)
    (((Within.refl mask_burstSet s).setB (key_LVOLD_BURST_REQ _) rfl).step within_State_setDw rfl))

def mask_burstWatch : Nat := 0x700000003c0be0000000000000000000000000000000000000000000000000000000000000000000000000000000000000000000000000000000000000000000000000000000000000000002000

theorem within_burstWatch {s : State} : Within mask_burstWatch s (burstWatch s) := by
  unfold burstWatch
  exact (Within.ite
    (Within.refl mask_burstWatch s)
    (((Within.refl mask_burstWatch s).eachDw fun t0 x0 hl0 =>
      (Within.ite
        (hl0.step within_burstSet rfl)
        hl0)).step within_visionShow rfl))

def mask_resultShow : Nat := 0x33c0000000000000000000000000000000000000000000000000000000000000000000000000000000000000000000000000000000000000000000000000000000000000000000000000000002000

theorem within_resultShow {s : State} {b1 : Nat} : Within mask_resultShow s (resultShow s b1) := by
  unfold resultShow
  extract_lets -merge -useContext -underBinder v0 v1 s2 s3 s4 s5
  have hs2 : Within mask_resultShow s s2 :=
    ((Within.refl mask_resultShow s).setB (key_LVOLD_THIN _) rfl)
  have hs3 : Within mask_resultShow s s3 :=
    (hs2.setB (key_LVOLD_PINCH_L _) rfl)
  have hs4 : Within mask_resultShow s s4 :=
    (hs3.setB (key_LVOLD_PINCH_R _) rfl)
  have hs5 : Within mask_resultShow s s5 :=
    ((hs4.set (key_LVOLD_CLEAR_L _) rfl).set (key_LVOLD_CLEAR_R _) rfl)
  exact (Within.ite
    (hs5.step within_burstSet rfl)
    hs5)

def mask_backgroundFrame : Nat := 0x30000000000000000000000000000000000000000000000000000000000000000000000000000000000000000000000000000000000000000000000000000000000000000000000000000000010000

theorem within_backgroundFrame {s : State} {b1 : Nat} {b2 : Nat} {b3 : Bool} {b4 : Bool} {b5 : List Pixel} {b6 : List (Nat × Nat)} : Within mask_backgroundFrame s (backgroundFrame s b1 b2 b3 b4 b5 b6) := by
  unfold backgroundFrame
  extract_lets -merge -useContext -underBinder v0 v1 v2 v3 v4 v5 v6 v7 v8 v9 v10 s11
  have hs11 : Within mask_backgroundFrame s s11 :=
    (Within.ite
      (Within.refl mask_backgroundFrame s)
      ((Within.refl mask_backgroundFrame s).setIn (m := 0x30000000000000000000000000000000000000000000000000000000000000000000000000000000000000000000000000000000000000000000000000000000000000000000000000000000000000) (InRegs.ite (m := 0x30000000000000000000000000000000000000000000000000000000000000000000000000000000000000000000000000000000000000000000000000000000000000000000000000000000000000) (.of1 596 (key_LVOLD_NOISE_J _) rfl) (.of1 597 (key_LVOLD_NOISE_S _) rfl)) rfl))
  exact (hs11.step within_State_setHead rfl)

def mask_volumeFrame : Nat := 0x3fff000000c7c0be0000000000000000000000000000000000000000000000000000000000000000000000000000000000000000000000000000000000000000000000000000000001000000012000

theorem within_volumeFrame {s : State} {b1 : Nat} {b2 : Nat} {b3 : Nat} : Within mask_volumeFrame s (volumeFrame s b1 b2 b3) := by
  unfold volumeFrame
  extract_lets -merge -useContext -underBinder v0 v1 v2 v3 v4 v5 v6 v7 v8 v9 v10 v11 v12 v13 v14 v15 v16 v17 v18 v19 v20 v21
  split
  · rename_i w22 w23 w24 e25
    extract_lets -merge -useContext -underBinder v26 v27 s28 v29 v30 v31 s32 s33 s34 s35 s36 s37
    have hs28 : Within mask_volumeFrame s s28 :=
      ((Within.refl mask_volumeFrame s).step within_backgroundFrame rfl)
    have hs32 : Within mask_volumeFrame s s32 :=
      (Within.ite
        (hs28.count key_LVOL_PINCH_CNT rfl)
        hs28)
    have hs33 : Within mask_volumeFrame s s33 :=
      (Within.ite
        (hs32.count key_LVOL_THIN_CNT rfl)
        hs32)
    have hs34 : Within mask_volumeFrame s s34 :=
      (Within.ite
        hs33
        (hs33.countDrop key_LVOL_LQ_DROP_CNT rfl rfl))
    have hs35 : Within mask_volumeFrame s s35 :=
      (hs34.step within_State_setHead rfl)
    have hs36 : Within mask_volumeFrame s s36 :=
      (hs35.setB (key_LVOLD_THIN_ARMED _) rfl)
    have hs37 : Within mask_volumeFrame s s37 :=
      (Within.ite
        (((hs36.setB (key_LVOLD_GAP_VALID _) rfl).set (key_LVOLD_GAP_MM _) rfl).setSat (key_LVOLD_GAP_COLS _) rfl)
        hs36)
    exact ((hs37.step within_resultShow rfl).step within_visionShow rfl)

def mask_frameProcessed : Nat := 0x3fff000000c7c0be0000000000000000000000000000000000000000000000000000000000000000000000000000000000000000000000000000000000000000000000000000000001000000012000

theorem within_frameProcessed {s : State} {b1 : Nat} {b2 : Nat} {b3 : List (List Nat)} : Within mask_frameProcessed s (frameProcessed s b1 b2 b3) := by
  unfold frameProcessed
  extract_lets -merge -useContext -underBinder v0
  split
  · rename_i w1 e2
    exact (Within.refl mask_frameProcessed s)
  · rename_i w3 w4 e5
    extract_lets -merge -useContext -underBinder v6 s7 s8 s9 v10
    have hs7 : Within mask_frameProcessed s s7 :=
      ((Within.refl mask_frameProcessed s).step within_glowReport rfl)
    have hs8 : Within mask_frameProcessed s s8 :=
      (Within.ite
        hs7
        (hs7.step within_volumeFrame rfl))
    have hs9 : Within mask_frameProcessed s s9 :=
      (hs8.step within_setSlot rfl)
    exact (Within.ite
      (Within.refl mask_frameProcessed s)
      (hs9.step within_State_setHead rfl))

def mask_reversalAnyway : Nat := 0x10000000000000000000000000000000000000000000000000000001000

theorem within_reversalAnyway {s : State} {b1 : Nat} : Within mask_reversalAnyway s (reversalAnyway s b1) := by
  unfold reversalAnyway
  extract_lets -merge -useContext -underBinder s0 v1
  have hs0 : Within mask_reversalAnyway s s0 :=
    ((Within.refl mask_reversalAnyway s).step within_sendReversal rfl)
  exact (hs0.upd_saf rfl)

def mask_recordAtSafety : Nat := 0x2c79e0032079807c000380000023c0be0000000000000000017e00000800000000000000000273c0013d00000000047ffe03ffb0001fffff3e01ebff7e0000000000000000000000000000000000200000820000013d00

theorem within_recordAtSafety {s : State} {b1 : Nat} : Within mask_recordAtSafety s (recordAtSafety s b1) := by
  unfold recordAtSafety
  extract_lets -merge -useContext -underBinder v0
  split
  · rename_i w1 e2
    exact (Within.refl mask_recordAtSafety s)
  · rename_i w3 w4 w5 w6 e7
    extract_lets -merge -useContext -underBinder v8 v9 v10 v11 s12 v13 v14 s15 s16 s17 s18 v19 s20
    have hs12 : Within mask_recordAtSafety s s12 :=
      ((Within.refl mask_recordAtSafety s).step within_State_setHead rfl)
    have hs15 : Within mask_recordAtSafety s s15 :=
      (hs12.step within_State_setDw rfl)
    have hs16 : Within mask_recordAtSafety s s16 :=
      (Within.ite
        (hs15.step within_State_source rfl)
        hs15)
    have hs17 : Within mask_recordAtSafety s s17 :=
      (Within.ite
        (hs16.step within_State_source rfl)
        hs16)
    have hs18 : Within mask_recordAtSafety s s18 :=
      (Within.ite
        (Within.ite
          (hs17.step within_reversalAnyway rfl)
          (Within.ite
            (hs17.step within_sendReversal rfl)
            hs17))
        hs17)
    have hs20 : Within mask_recordAtSafety s s20 :=
      (Within.ite
        (hs18.upd_saf rfl)
        hs18)
    exact ((hs20.step within_visionEval rfl).step within_safetyEval rfl)

def mask_bgLearn : Nat := 0x10004400000000000000000000000000000000000000000000000000000000000000000000000000000000000000000000000000000000000000000000000000000000000000000010000

theorem within_bgLearn {s : State} {b1 : Nat} : WithinP mask_bgLearn s (bgLearn s b1) := by
  unfold bgLearn
  extract_lets -merge -useContext -underBinder v0 s1 v2 s3 v4
  have hs1 : Within mask_bgLearn s s1 :=
    ((Within.refl mask_bgLearn s).step within_setBg rfl)
  have hs3 : Within mask_bgLearn s s3 :=
    (hs1.step within_State_setHead rfl)
  exact (WithinP.ite
    (WithinP.mk (Within.refl mask_bgLearn s))
    (WithinP.ite
      (WithinP.mk (((Within.refl mask_bgLearn s).step within_setBg rfl).count key_LVOL_BG_FAIL_CNT rfl))
      (WithinP.mk (hs3.step within_State_setHead rfl))))

def mask_bgAbort : Nat := 0x10004400000000000000000000000000000000000000000000000000000000000000000000000000000000000000000000000000000000000000000000000000000000000000000010000

theorem within_bgAbort {s : State} {b1 : Nat} : WithinP mask_bgAbort s (bgAbort s b1) := by
  unfold bgAbort
  extract_lets -merge -useContext -underBinder s0 v1 s2 v3
  have hs0 : Within mask_bgAbort s s0 :=
    (((Within.refl mask_bgAbort s).step within_setBg rfl).count key_LVOL_BG_FAIL_CNT rfl)
  have hs2 : Within mask_bgAbort s s2 :=
    (hs0.step within_State_setHead rfl)
  exact (WithinP.ite
    (WithinP.mk (Within.refl mask_bgAbort s))
    (WithinP.mk (hs2.step within_State_setHead rfl)))

def mask_bgCommand : Nat := 0x10004400000000000000000000000000000000000000000000000000000000000000000000000000000000000000000000000000000000000000000000000000000000000000000010000

theorem within_bgCommand {s : State} {b1 : Nat} : WithinP mask_bgCommand s (bgCommand s b1) := by
  unfold bgCommand
  exact (WithinP.ite
    ((Within.refl mask_bgCommand s).stepP within_bgLearn rfl)
    (WithinP.ite
      ((Within.refl mask_bgCommand s).stepP within_bgAbort rfl)
      (WithinP.mk (Within.refl mask_bgCommand s))))

def mask_lqAck : Nat := 0x300000003c0be0000000000000000000000000000000000000000000000000000000000000000000000000000000000000000000000000000000000000000000000000000000000000000010000

theorem within_lqAck {s : State} {b1 : Nat} : WithinP mask_lqAck s (lqAck s b1) := by
  unfold lqAck
  extract_lets -merge -useContext -underBinder v0 v1
  exact (WithinP.ite
    (WithinP.mk (Within.refl mask_lqAck s))
    (WithinP.mk (((Within.refl mask_lqAck s).step within_State_setHead rfl).step within_visionShow rfl)))

def mask_bitmapLoad : Nat := 0x8000000000000000000000000000000000000000000000000000000000000000000000000000000000000000000000000000000000000000000000000000000000000000000000000000000000000000000000000000000000000000000000000000000000000000000000000000000000000000000000000000000000000000000000000

theorem within_bitmapLoad {s : State} {b1 : Nat} : WithinP mask_bitmapLoad s (bitmapLoad s b1) := by
  unfold bitmapLoad
  exact (WithinP.ite
    (WithinP.mk ((Within.refl mask_bitmapLoad s).copyBytesTo mem_LANT_15 rfl))
    (WithinP.mk (Within.refl mask_bitmapLoad s)))

def mask_bgGone : Nat := 0x100000000000000000000000000000000000000000000000000000000000000000000000000000000000000000000000000000000000000000000000004400000000000000000000000000000000000000000000000000000000000000000000000000000000000000000000000000000000000000000000000000000000000000000000000

theorem within_bgGone {s : State} {b1 : Nat} : Within mask_bgGone s (bgGone s b1) := by
  unfold bgGone
  exact (((Within.refl mask_bgGone s).step within_setBg rfl).wr8To mem_LVOL_14 rfl)

def mask_bgLoad : Nat := 0x108000000000000000000000000000000000000000000000000000000000000000000000000000000000000000000000000000000000000000000000004400000000000000000000000000000000000000000000000000000000000000000000000000000000000000000000000000000000000000000000000000000000000000000000000

theorem within_bgLoad {s : State} {b1 : Nat} : Within mask_bgLoad s (bgLoad s b1) := by
  unfold bgLoad
  exact (Within.ite
    (Within.refl mask_bgLoad s)
    (by
      split
      · rename_i p0 q1 w2 e3
        have hq1 : Within mask_bgLoad s q1 := .of_eq e3 ((Within.refl mask_bgLoad s).stepP within_bitmapLoad rfl)
        split
        · rename_i p4 q5 w6 e7
          have hq5 : Within mask_bgLoad s q5 := .of_eq e7 (hq1.stepP within_bitmapLoad rfl)
          exact (Within.ite
            hq5
            (hq5.step within_bgGone rfl)) : Within mask_bgLoad s _))

def mask_bgCheck : Nat := 0x108000000000000000000000000000000000000000000000000000000000000000000000000000000000000000000000000000000000000000000000004400000000000000000000000000000000000000000000000000000000000000000000000000000000000000000000000000000000000000000000000000000000000000000000000

theorem within_bgCheck {s : State} : Within mask_bgCheck s (bgCheck s) := by
  unfold bgCheck
  exact ((Within.refl mask_bgCheck s).eachDw fun t0 x0 hl0 =>
    (by
      extract_lets -merge -useContext -underBinder f1
      exact (Within.ite
        hl0
        (hl0.step within_bgLoad rfl)) : Within mask_bgCheck s _))

def mask_poseWrite : Nat := 0x1800000000000000000000000000000000000000000000000000000000000000000000000000000000000000000000000000000000000000300000003c4fe0000000000000000000000000000000000000000000000000000000000000000000000000000000000000000000000000000000000000000000000000000000000000000000000

theorem within_poseWrite {s : State} {b1 : Nat} {b2 : Nat} {b3 : Nat} : WithinP mask_poseWrite s (poseWrite s b1 b2 b3) := by
  unfold poseWrite
  extract_lets -merge -useContext -underBinder v0
  exact (WithinP.ite
    (WithinP.mk (Within.refl mask_poseWrite s))
    (WithinP.mk ((((Within.refl mask_poseWrite s).wr32To mem_LVOL_3 rfl).step within_bgGone rfl).step within_visionShow rfl)))

def mask_storeBackground : Nat := 0x128000000000000000000000000000000000000000000000000000000000000000000000000000000000000000000000000000000000000000000000000000000000000000000000000000000000000000000000000000000000000000000000000000000000000000000000000000000000000000000000000000000000000000000010000

theorem within_storeBackground {s : State} {b1 : Nat} {b2 : List Nat} : Within mask_storeBackground s (storeBackground s b1 b2) := by
  unfold storeBackground
  extract_lets -merge -useContext -underBinder s0 s1 s2 s3 v4 v5 v6 v7
  have hs0 : Within mask_storeBackground s s0 :=
    ((Within.refl mask_storeBackground s).wipeBytesTo mem_LANT_15 rfl)
  have hs1 : Within mask_storeBackground s s1 :=
    (hs0.foldl fun t8 x8 hl8 =>
      (by
        extract_lets -merge -useContext -underBinder v9
        exact (hl8.wr8To mem_LANT_15 rfl) : Within mask_storeBackground s _))
  have hs2 : Within mask_storeBackground s s2 :=
    (hs1.copyBytesTo mem_LVOL_13 rfl)
  have hs3 : Within mask_storeBackground s s3 :=
    (hs2.wr32To mem_LVOL_14 rfl)
  exact (hs3.step within_State_setHead rfl)

def mask_bgLearnDone : Nat := 0x1280000000000000000000000000000000000000000000000000000000000000000000000000000000000000000000000000000000000000300000103c4fe0000000000000000000000000000000000000000000000000000000000000000000000000000000000000000000000000000000000000000000000000000000000000000010000

theorem within_bgLearnDone {s : State} {b1 : Nat} : Within mask_bgLearnDone s (bgLearnDone s b1) := by
  unfold bgLearnDone
  extract_lets -merge -useContext -underBinder f0
  exact (Within.ite
    (Within.refl mask_bgLearnDone s)
    (by
      split
      · rename_i w1 w2 w3 e4
        split
        · rename_i w5 w6 w7 e8
          extract_lets -merge -useContext -underBinder s9 v10 s11 v12
          have hs9 : Within mask_bgLearnDone s s9 :=
            (((Within.refl mask_bgLearnDone s).step within_setBg rfl).count key_LVOL_BG_FAIL_CNT rfl)
          have hs11 : Within mask_bgLearnDone s s11 :=
            (hs9.step within_State_setHead rfl)
          exact (Within.ite
            (hs11.step within_State_setHead rfl)
            ((((((Within.refl mask_bgLearnDone s).step within_storeBackground rfl).step within_storeBackground rfl).step within_setBg rfl).wr8To mem_LVOL_14 rfl).step within_visionShow rfl)) : Within mask_bgLearnDone s _))

def mask_execIdentDone : Nat := 0x100000000000000000000000000000000000000000000000000000000000000000000000000000000000000000000000000000000000000380000023c0be07ce080303e1040e000000000000000000000000000000000000000000000000000000000000000000000000000000000000000000000000000000000000200000800000011000

theorem within_execIdentDone {b0 : Fin 16} {b1 : List Nat} {b2 : Bool} {s : State} : WithinO mask_execIdentDone s (execIdentDone b0 b1 b2 s) := by
  unfold execIdentDone
  exact (WithinO.next (((Within.refl mask_execIdentDone s).step within_identDone rfl).step within_visionEval rfl))

def mask_execCalibReadDone : Nat := 0x8000000000000000000000000000000000000000000032c400080000000000000000000000000000000000000000000000000000000000380000023c0be07ce0807c000128e000000000000000000000000000000000000000000000000000000000000000000000000000000000000000000000000000000000000200001800000811100

theorem within_execCalibReadDone {b0 : Fin 16} {b1 : Sys2Proof.CalRead} {s : State} : WithinO mask_execCalibReadDone s (execCalibReadDone b0 b1 s) := by
  unfold execCalibReadDone
  exact (WithinO.next (((Within.refl mask_execCalibReadDone s).step within_calibDone rfl).step within_visionEval rfl))

def mask_execHeadLinkLoss : Nat := 0x32c400080000000000000000000000000000000000000000000000000000000000000000100044007ce012000073ff6000000000000000000000000000000000000000000000000000000000000000000000000000000000000000000000000000000000000000001800000810000

theorem within_execHeadLinkLoss {b0 : Fin 16} {b1 : Bool} {s : State} : WithinO mask_execHeadLinkLoss s (execHeadLinkLoss b0 b1 s) := by
  unfold execHeadLinkLoss
  extract_lets -merge -useContext -underBinder v0 s1 s2
  have hs1 : Within mask_execHeadLinkLoss s s1 :=
    (Within.ite
      ((Within.refl mask_execHeadLinkLoss s).setB (key_LH_PRESENT _) rfl)
      (Within.refl mask_execHeadLinkLoss s))
  have hs2 : Within mask_execHeadLinkLoss s s2 :=
    ((hs1.countFault (key_LH_LINK_LOSS_CNT _) rfl rfl).step within_linkDown rfl)
  exact (WithinO.ite
    (WithinO.next ((hs1.step within_linkLoss rfl).step within_bgWatch rfl))
    (WithinO.ite
      (WithinO.next (Within.ite
        (hs2.step within_toPower rfl)
        (hs2.step within_lantShow rfl)))
      (WithinO.next hs1)))

def mask_execGlowwormDecision : Nat := 0x380000023c0be07ce0807c0000008000000000000000000000000000000000000000000000000000000000000000000000000000000000000000000000000000000000000200000800000011100

theorem within_execGlowwormDecision {b0 : Fin 16} {b1 : Nat} {s : State} : WithinO mask_execGlowwormDecision s (execGlowwormDecision b0 b1 s) := by
  unfold execGlowwormDecision
  exact (WithinO.next (((Within.refl mask_execGlowwormDecision s).step within_glowDecide rfl).step within_visionEval rfl))

def mask_execGlowwormSilence : Nat := 0x380000023c0be07ce100300000008000000000000000000000000000000000000000000000000000000000000000000000000000000000000000000000000000000000000200000800000011000

theorem within_execGlowwormSilence {b0 : Fin 16} {s : State} : WithinO mask_execGlowwormSilence s (execGlowwormSilence b0 s) := by
  unfold execGlowwormSilence
  exact (WithinO.next (Within.ite
    (((Within.refl mask_execGlowwormSilence s).step within_glowSilence rfl).step within_visionEval rfl)
    (Within.refl mask_execGlowwormSilence s)))

def mask_execBgLearnDone : Nat := 0x1280000000000000000000000000000000000000000000000000000000000000000000000000000000000000000000000000000000000000300000103c4fe0000000000000000000000000000000000000000000000000000000000000000000000000000000000000000000000000000000000000000000000000000000000000000010000

theorem within_execBgLearnDone {b0 : Fin 8} {s : State} : WithinO mask_execBgLearnDone s (execBgLearnDone b0 s) := by
  unfold execBgLearnDone
  exact (WithinO.next ((Within.refl mask_execBgLearnDone s).step within_bgLearnDone rfl))

def mask_execVisionStale : Nat := 0x380000033c0be0000000000000000000000000000000000000000000000000000000000000000000000000000000000000000000000000000000000000000000000000000200000000000011000

theorem within_execVisionStale {b0 : Fin 16} {s : State} : WithinO mask_execVisionStale s (execVisionStale b0 s) := by
  unfold execVisionStale
  extract_lets -merge -useContext -underBinder s0 v1
  have hs0 : Within mask_execVisionStale s s0 :=
    (Within.ite
      ((Within.refl mask_execVisionStale s).count key_LVOL_STALE_CNT rfl)
      (Within.refl mask_execVisionStale s))
  exact (WithinO.ite
    (WithinO.next (Within.refl mask_execVisionStale s))
    (WithinO.next ((hs0.step within_State_setHead rfl).step within_visionEval rfl)))

def mask_execBurstReqHoldEnd : Nat := 0x700000003c0be0000000000000000000000000000000000000000000000000000000000000000000000000000000000000000000000000000000000000000000000000000000000000000002000

theorem within_execBurstReqHoldEnd {b0 : Fin 8} {s : State} : WithinO mask_execBurstReqHoldEnd s (execBurstReqHoldEnd b0 s) := by
  unfold execBurstReqHoldEnd
  exact (WithinO.next (Within.ite
    (Within.refl mask_execBurstReqHoldEnd s)
    (((Within.refl mask_execBurstReqHoldEnd s).step within_burstSet rfl).step within_visionShow rfl)))

def mask_execThinAdclHoldEnd : Nat := 0x2c79e0032079807c00000000000000000000000000000000017e00000800000000000000000273c0013d00000000047ffe03ffb0001fffff3e01ebff7e0000000000000000000000000000000000000000820000003d00

theorem within_execThinAdclHoldEnd {b0 : Fin 8} {s : State} : WithinO mask_execThinAdclHoldEnd s (execThinAdclHoldEnd b0 s) := by
  unfold execThinAdclHoldEnd
  extract_lets -merge -useContext -underBinder v0
  exact (WithinO.next (((Within.refl mask_execThinAdclHoldEnd s).upd_saf rfl).step within_safetyEval rfl))

end Sys2Proof.Machine
end

