-- ==== Sys2Proof/Laws/FrameFlow.lean ====
section
/-! SUPPORT. What each operation and meaning of Machine/Flow.lean can change: one mask and one lemma each. -/

set_option Elab.async false

namespace Sys2Proof.Machine

def mask_State_setFlow : Nat := 0x80000

theorem within_State_setFlow {s : State} {b1 : Flow} : Within mask_State_setFlow s (State.setFlow s b1) := by
  unfold State.setFlow
  exact ((Within.refl mask_State_setFlow s).upd_flow rfl)

def mask_cairnFlags : Nat := 0x20000000000000000000000000000000000000000000000000000000000000000000000000000000000000000000000000000000000000000000000000000000000000000000000000000000000000000000000000000000000000000000000000000000000000000000000000000000000000000000000000000000

theorem within_cairnFlags {s : State} : Within mask_cairnFlags s (cairnFlags s) := by
  unfold cairnFlags
  extract_lets -merge -useContext -underBinder v0 v1 v2
  exact ((Within.refl mask_cairnFlags s).set (key_FLOW_CAIRN _) rfl)

def mask_cairn : Nat := 0x20000000000000000000000000000000000000000000000000000000000000000000000000000000000000000000000000000000000000000000000000000000000000000000000000000000000000000000000000000000000000000000000000000000000000000000000000000000000000000000000000000000

theorem within_cairn {s : State} {b1 : Nat} {b2 : Nat} : Within mask_cairn s (cairn s b1 b2) := by
  unfold cairn
  extract_lets -merge -useContext -underBinder v0 v1 s2
  have hs2 : Within mask_cairn s s2 :=
    ((Within.refl mask_cairn s).set (key_FLOW_CAIRN _) rfl)
  exact ((hs2.set (key_FLOW_CAIRN _) rfl).step within_cairnFlags rfl)

def mask_recLost : Nat := 0x1000000000000

theorem within_recLost {s : State} : Within mask_recLost s (recLost s) := by
  unfold recLost
  exact ((Within.refl mask_recLost s).count (key_HDR_PG_DROP_CNT _) rfl)

def mask_ctrOnly : Nat := 0x20000000000080000000000000000000000000000000000000000000000000000000000000000000000000000000000000000000000000000000000000000000000000000000000000000000000000000000000000000000000000000000000000000000000000000000000000000000000000000000000000000000

theorem within_ctrOnly {s : State} : Within mask_ctrOnly s (ctrOnly s) := by
  unfold ctrOnly
  exact (Within.ite
    (((Within.refl mask_ctrOnly s).setB key_FLOW_CTR_ONLY rfl).step within_cairn rfl)
    (Within.refl mask_ctrOnly s))

def mask_memFailed : Nat := 0x220000000000080000000000000000000000000000000000000000000000000000000000000000000000000000000000000000000000000000000000000000000000000000000000000000000000000000000000000000000000000000000000000000000000000000000000000000000000000000001000000008000

theorem within_memFailed {s : State} {b1 : Nat} {b2 : Nat} : Within mask_memFailed s (memFailed s b1 b2) := by
  unfold memFailed
  extract_lets -merge -useContext -underBinder s0
  have hs0 : Within mask_memFailed s s0 :=
    (((Within.refl mask_memFailed s).step within_cairn rfl).step within_ctrOnly rfl)
  exact (Within.ite
    hs0
    (hs0.step within_State_event rfl))

def mask_clipsDropped : Nat := 0x1000000080000

theorem within_clipsDropped {s : State} : Within mask_clipsDropped s (clipsDropped s) := by
  unfold clipsDropped
  extract_lets -merge -useContext -underBinder v0
  exact (((Within.refl mask_clipsDropped s).countBy (key_HDR_PG_DROP_CNT _) rfl).step within_State_setFlow rfl)

def mask_stagedDropped : Nat := 0x1000000080000

theorem within_stagedDropped {s : State} : Within mask_stagedDropped s (stagedDropped s) := by
  unfold stagedDropped
  extract_lets -merge -useContext -underBinder v0
  exact (((Within.refl mask_stagedDropped s).countBy (key_HDR_PG_DROP_CNT _) rfl).step within_State_setFlow rfl)

def mask_mramFail : Nat := 0x220000000000280000000000000000000000000000000000000000000000000000000000000000000000000000000000000000000000000000000000000000000000000000000000000000000000000000000000000000000000000000000000000000000000000000000000000000000000000000001000000088000

theorem within_mramFail {s : State} {b1 : Nat} : Within mask_mramFail s (mramFail s b1) := by
  unfold mramFail
  extract_lets -merge -useContext -underBinder s0 v1 s2
  have hs0 : Within mask_mramFail s s0 :=
    ((((Within.refl mask_mramFail s).setB key_FLOW_MRAM_FAIL rfl).step within_clipsDropped rfl).step within_stagedDropped rfl)
  have hs2 : Within mask_mramFail s s2 :=
    (hs0.step within_State_setFlow rfl)
  exact (Within.ite
    (Within.refl mask_mramFail s)
    (hs2.step within_memFailed rfl))

def mask_nandFail : Nat := 0x220000000000180000000000000000000000000000000000000000000000000000000000000000000000000000000000000000000000000000000000000000000000000000000000000000000000000000000000000000000000000000000000000000000000000000000000000000000000000000001000000088000

theorem within_nandFail {s : State} {b1 : Nat} : Within mask_nandFail s (nandFail s b1) := by
  unfold nandFail
  extract_lets -merge -useContext -underBinder v0 v1 s2
  have hs2 : Within mask_nandFail s s2 :=
    ((Within.refl mask_nandFail s).step within_State_setFlow rfl)
  exact (Within.ite
    (Within.refl mask_nandFail s)
    (((hs2.setB key_FLOW_NAND_FAIL rfl).countBy (key_HDR_PG_DROP_CNT _) rfl).step within_memFailed rfl))

def mask_nextSeq : Nat := 0x80000

theorem within_nextSeq {s : State} : Within mask_nextSeq s (nextSeq s) := by
  unfold nextSeq
  extract_lets -merge -useContext -underBinder v0 v1
  exact ((Within.refl mask_nextSeq s).step within_State_setFlow rfl)

def mask_setWp : Nat := 0x80000

theorem within_setWp {s : State} {b1 : Nat} {b2 : Nat} : Within mask_setWp s (setWp s b1 b2) := by
  unfold setWp
  extract_lets -merge -useContext -underBinder v0 v1
  exact ((Within.refl mask_setWp s).step within_State_setFlow rfl)

def mask_ringPut : Nat := 0x1000000080000

theorem within_ringPut {s : State} {b1 : Nat} {b2 : Nat} {b3 : List Nat} {b4 : Nat} {b5 : Nat} : WithinP mask_ringPut s (ringPut s b1 b2 b3 b4 b5) := by
  unfold ringPut
  extract_lets -merge -useContext -underBinder v0 v1 s2
  have hs2 : Within mask_ringPut s s2 :=
    ((Within.refl mask_ringPut s).step within_State_setFlow rfl)
  exact (WithinP.ite
    (WithinP.mk ((Within.refl mask_ringPut s).step within_recLost rfl))
    (WithinP.mk (hs2.step within_setWp rfl)))

def mask_nandPower : Nat := 0x400000000000000000000000000000000000000000000000000000000000000000000000000000000000000000000000000000000000000000000000000000000000000000000000000000000000000000000000000000000000000000000000000000000000001000000000000000000000000080000

theorem within_nandPower {s : State} {b1 : Bool} : Within mask_nandPower s (nandPower s b1) := by
  unfold nandPower
  extract_lets -merge -useContext -underBinder v0
  exact ((((Within.refl mask_nandPower s).setBit key_PWR_DOM_ON rfl).setB key_FLOW_NAND_ON rfl).step within_State_setFlow rfl)

def mask_mramRec : Nat := 0x40000000000000000000000000000000000000000000000000000000000000000000000000000000000000000000000000000000000000000000000000000000000000000000000000000000000000000000000000000000000000000000000000000000000000000000000000000000000000000001000000080000

theorem within_mramRec {s : State} {b1 : Nat} {b2 : Nat} {b3 : Nat} {b4 : List Nat} : Within mask_mramRec s (mramRec s b1 b2 b3 b4) := by
  unfold mramRec
  extract_lets -merge -useContext -underBinder s0 v1
  have hs0 : Within mask_mramRec s s0 :=
    (((Within.refl mask_mramRec s).step within_nextSeq rfl).count key_FLOW_REC_CNT rfl)
  exact (Within.ite
    ((Within.refl mask_mramRec s).step within_recLost rfl)
    (Within.ite
      (WithinP.fst (hs0.stepP within_ringPut rfl))
      (hs0.step within_State_setFlow rfl)))

def mask_stageRec : Nat := 0x40000000000000000000000000000000000000000000000000000000000000000000000000000000000000000000000000000000000000000000000000000000000000000000000000000000000000000000000000000000000000000000000000000000000000000000000000000000000000000001000000080000

theorem within_stageRec {s : State} {b1 : Nat} {b2 : Nat} {b3 : Nat} {b4 : Nat} {b5 : List Nat} : WithinP mask_stageRec s (stageRec s b1 b2 b3 b4 b5) := by
  unfold stageRec
  extract_lets -merge -useContext -underBinder s0 v1
  have hs0 : Within mask_stageRec s s0 :=
    (((Within.refl mask_stageRec s).step within_nextSeq rfl).count key_FLOW_REC_CNT rfl)
  exact (WithinP.ite
    (WithinP.mk ((Within.refl mask_stageRec s).step within_recLost rfl))
    (WithinP.mk (hs0.step within_State_setFlow rfl)))

def mask_sealTrace : Nat := 0x20040000000000000000000000000000000000000000000000000000000000000000000000000000000000000000000000000000000000000000000000000000000000000000000000000000000000000000000000000000000000000000000000000000000000000000000000000000000000000000001000000080000

theorem within_sealTrace {s : State} {b1 : Nat} {b2 : Trace} : WithinP mask_sealTrace s (sealTrace s b1 b2) := by
  unfold sealTrace
  split
  · rename_i p0 q1 w2 e3
    have hq1 : Within mask_sealTrace s q1 := .of_eq e3 ((Within.refl mask_sealTrace s).stepP within_stageRec rfl)
    extract_lets -merge -useContext -underBinder s4
    have hs4 : Within mask_sealTrace s s4 :=
      (Within.ite
        (hq1.count key_FLOW_PARTIAL_CNT rfl)
        hq1)
    exact (WithinP.mk hs4)

def mask_sealEndTrace : Nat := 0x20040000000000000000000000000000000000000000000000000000000000000000000000000000000000000000000000000000000000000000000000000000000000000000000000000000000000000000000000000000000000000000000000000000000000000000000000000000000000000000001000000080000

theorem within_sealEndTrace {s : State} {b1 : CycleEnd} : WithinP mask_sealEndTrace s (sealEndTrace s b1) := by
  unfold sealEndTrace
  split
  · rename_i w0 w1 e2
    split
    · rename_i p3 q4 w5 e6
      have hq4 : Within mask_sealEndTrace s q4 := .of_eq e6 ((Within.refl mask_sealEndTrace s).stepP within_sealTrace rfl)
      exact (WithinP.mk hq4)
  · rename_i w7 e8
    exact (WithinP.mk (Within.refl mask_sealEndTrace s))

def mask_sealTraces : Nat := 0x20040000000000000000000000000000000000000000000000000000000000000000000000000000000000000000000000000000000000000000000000000000000000000000000000000000000000000000000000000000000000000000000000000000000000000000000000000000000000000000001000000080000

theorem within_sealTraces {s : State} : Within mask_sealTraces s (sealTraces s) := by
  unfold sealTraces
  split
  · rename_i p0 q1 w2 e3
    have hq1 : Within mask_sealTraces s q1 := .of_eq e3 (WithinP.foldl (WithinP.mk (Within.refl mask_sealTraces s)) fun p4 x4 hl4 =>
  (by
    split
    · rename_i p5 q6 w7 e8
      have hq6 : Within mask_sealTraces s q6 := .of_eq e8 ((WithinP.fst hl4).stepP within_sealEndTrace rfl)
      exact (WithinP.mk hq6) : WithinP mask_sealTraces s _))
    extract_lets -merge -useContext -underBinder v9
    exact (hq1.step within_State_setFlow rfl)

def mask_sealCycle : Nat := 0x40000000000000000000000000000000000000000000000000000000000000000000000000000000000000000000000000000000000000000000000000000000000000000000000000000000000000000000000000000000000000000000000000000000000000000000000000000000000000000001000000080000

theorem within_sealCycle {s : State} {b1 : CycleEnd} : Within mask_sealCycle s (sealCycle s b1) := by
  unfold sealCycle
  exact ((Within.refl mask_sealCycle s).step within_mramRec rfl)

def mask_snapshot : Nat := 0x40000000000000000000000000000000000000000000000000000000000000000000000000000000000000000000000000000000000000000000000000000000000000000000000000000000000000000000000000000000000000000000000000000000000000000000000000000000000000000001000000080000

theorem within_snapshot {s : State} : Within mask_snapshot s (snapshot s) := by
  unfold snapshot
  extract_lets -merge -useContext -underBinder v0 s1
  have hs1 : Within mask_snapshot s s1 :=
    ((Within.refl mask_snapshot s).step within_State_setFlow rfl)
  exact (WithinP.fst (hs1.stepP within_stageRec rfl))

def mask_thumbIn : Nat := 0x80000

theorem within_thumbIn {s : State} {b1 : Nat × Nat × List (Nat × Nat)} : Within mask_thumbIn s (thumbIn s b1) := by
  unfold thumbIn
  extract_lets -merge -useContext -underBinder v0
  exact ((Within.refl mask_thumbIn s).step within_State_setFlow rfl)

def mask_queuesTake : Nat := 0x80000

theorem within_queuesTake {s : State} : Within mask_queuesTake s (queuesTake s) := by
  unfold queuesTake
  extract_lets -merge -useContext -underBinder v0 s1
  have hs1 : Within mask_queuesTake s s1 :=
    ((Within.refl mask_queuesTake s).step within_State_setFlow rfl)
  exact (Within.ite
    (Within.refl mask_queuesTake s)
    (hs1.foldl fun t2 x2 hl2 =>
      (hl2.step within_thumbIn rfl)))

def mask_takeThumb : Nat := 0x1000000000000000000000000000000000000000000000000000000000000000000000000000000000000000000000000000000000000000000000000000000000000000000000000000000000000000000000000000000000000000000000000000000000000000000000000000000000000000000001000000090000

theorem within_takeThumb {s : State} {b1 : Nat} {b2 : Nat} {b3 : List (Nat × Nat)} : Within mask_takeThumb s (takeThumb s b1 b2 b3) := by
  unfold takeThumb
  extract_lets -merge -useContext -underBinder v0 s1 v2
  have hs1 : Within mask_takeThumb s s1 :=
    ((Within.refl mask_takeThumb s).step within_State_setHead rfl)
  exact (Within.ite
    hs1
    (Within.ite
      (hs1.countDrop key_FLOW_FQ3_DROP_CNT rfl rfl)
      ((hs1.step within_State_setFlow rfl).step within_queuesTake rfl)))

def mask_clipStart : Nat := 0x1000000080000

theorem within_clipStart {s : State} {b1 : Nat} {b2 : Nat} {b3 : Nat} {b4 : Record} : Within mask_clipStart s (clipStart s b1 b2 b3 b4) := by
  unfold clipStart
  extract_lets -merge -useContext -underBinder f0 v1 v2
  exact (Within.ite
    (Within.refl mask_clipStart s)
    (Within.ite
      ((Within.refl mask_clipStart s).step within_recLost rfl)
      ((Within.refl mask_clipStart s).step within_State_setFlow rfl)))

def mask_clipSeal : Nat := 0x40000000000000000000000000000000000000000000000000000000000000000000000000000000000000000000000000000000000000000000000000000000000000000000000000000000000000000000000000000000000000000000000000000000000000000000000000000000000000000001000000080000

theorem within_clipSeal {s : State} {b1 : Clip} : Within mask_clipSeal s (clipSeal s b1) := by
  unfold clipSeal
  split
  · rename_i w0 w1 w2 e3
    extract_lets -merge -useContext -underBinder v4 v5
    split
    · rename_i p6 q7 w8 e9
      have hq7 : Within mask_clipSeal s q7 := .of_eq e9 ((Within.refl mask_clipSeal s).stepP within_stageRec rfl)
      extract_lets -merge -useContext -underBinder v10
      exact (Within.ite
        (hq7.step within_State_setFlow rfl)
        hq7)

def mask_archivePage : Nat := 0x1000000080000

theorem within_archivePage {s : State} {b1 : List (Nat × List Nat)} : Within mask_archivePage s (archivePage s b1) := by
  unfold archivePage
  extract_lets -merge -useContext -underBinder v0 v1 v2 s3
  have hs3 : Within mask_archivePage s s3 :=
    ((Within.refl mask_archivePage s).step within_State_setFlow rfl)
  exact (Within.ite
    ((Within.refl mask_archivePage s).countBy (key_HDR_PG_DROP_CNT _) rfl)
    (hs3.step within_setWp rfl))

def mask_snapPut : Nat := 0x1000000080000

theorem within_snapPut {s : State} {b1 : Nat} {b2 : List Nat} : Within mask_snapPut s (snapPut s b1 b2) := by
  unfold snapPut
  extract_lets -merge -useContext -underBinder v0 s1
  have hs1 : Within mask_snapPut s s1 :=
    (Within.ite
      ((Within.refl mask_snapPut s).step within_setWp rfl)
      (Within.refl mask_snapPut s))
  exact (WithinP.fst (hs1.stepP within_ringPut rfl))

def mask_programPage : Nat := 0x400000000000000000000000000000000000000000000000000000000000000000000000000000000000000000000000000000000000000000000000000000000000000000000000000000000000000000000000000000000000000000000000000000000000001000000000000000001000000080000

theorem within_programPage {s : State} {b1 : Nat} : Within mask_programPage s (programPage s b1) := by
  unfold programPage
  extract_lets -merge -useContext -underBinder v0
  clear_value v0
  split
  · rename_i w1
    exact (Within.refl mask_programPage s)
  · rename_i w2 w3 w4 w5
    extract_lets -merge -useContext -underBinder s6 v7 s8 v9 v10 s11 v12
    have hs6 : Within mask_programPage s s6 :=
      ((Within.refl mask_programPage s).step within_nandPower rfl)
    have hs8 : Within mask_programPage s s8 :=
      (hs6.step within_archivePage rfl)
    have hs11 : Within mask_programPage s s11 :=
      (Within.ite
        (hs6.step within_snapPut rfl)
        (WithinP.fst (hs6.stepP within_ringPut rfl)))
    exact (Within.ite
      (Within.ite
        (hs8.step within_State_setFlow rfl)
        (hs8.step within_State_setFlow rfl))
      (hs11.step within_State_setFlow rfl))

def mask_blockFailed : Nat := 0x4220400000000180000000000000000000000000000000000000000000000000000000000000000000000000000000000000000000000000000000000000000000000000000000000000000000000000000000000000000000000000000000000000000000000000000000000000000000000000000001000000088000

theorem within_blockFailed {s : State} {b1 : Nat} : Within mask_blockFailed s (blockFailed s b1) := by
  unfold blockFailed
  extract_lets -merge -useContext -underBinder v0 s1 v2 s3
  have hs1 : Within mask_blockFailed s s1 :=
    (((Within.refl mask_blockFailed s).count key_FLOW_NAND_ERR_CNT rfl).setSat key_FLOW_BAD_BLK rfl)
  have hs3 : Within mask_blockFailed s s3 :=
    ((hs1.step within_State_setFlow rfl).step within_setWp rfl)
  exact (Within.ite
    (hs3.step within_nandFail rfl)
    hs3)

def mask_programArea : Nat := 0x4220400000000580000000000000000000000000000000000000000000000000000000000000000000000000000000000000000000000000000000000000000000000000000000000000000000000000000000000000000000000000000000000000000000000000000000000001000000000000000001000000088000

theorem within_programArea {s : State} {b1 : Nat} {b2 : Sys2Proof.NandResult} : Within mask_programArea s (programArea s b1 b2) := by
  unfold programArea
  split
  · rename_i w0
    exact ((Within.refl mask_programArea s).step within_programPage rfl)
  · rename_i w1
    extract_lets -merge -useContext -underBinder s2
    have hs2 : Within mask_programArea s s2 :=
      ((Within.refl mask_programArea s).step within_blockFailed rfl)
    exact (Within.ite
      (hs2.step within_programPage rfl)
      hs2)
  · rename_i w3
    exact (((Within.refl mask_programArea s).count key_FLOW_NAND_ERR_CNT rfl).step within_nandFail rfl)

def mask_readBackFailed : Nat := 0x2220000000000280000000000000000000000000000000000000000000000000000000000000000000000000000000000000000000000000000000000000000000000000000000000000000000000000000000000000000000000000000000000000000000000000000000000000000000000000000001000000088000

theorem within_readBackFailed {s : State} {b1 : Nat} : Within mask_readBackFailed s (readBackFailed s b1) := by
  unfold readBackFailed
  extract_lets -merge -useContext -underBinder v0 v1 s2
  have hs2 : Within mask_readBackFailed s s2 :=
    (((Within.refl mask_readBackFailed s).count key_FLOW_MEM_ERR_CNT rfl).step within_State_setFlow rfl)
  exact (Within.ite
    (hs2.step within_mramFail rfl)
    hs2)

def mask_latchClass : Nat := 0x7f00000000000000000000000000000000000000000000000000000000000000000000000000000000000000000000000000000000000000000000000000000000000000000000000000000000000000000000000000000000000000000000000000000000000000000000000000000000000000000000000

theorem within_latchClass {s : State} : Within mask_latchClass s (latchClass s) := by
  unfold latchClass
  extract_lets -merge -useContext -underBinder v0 v1 v2 v3 s4 s5
  have hs4 : Within mask_latchClass s s4 :=
    ((Within.refl mask_latchClass s).set64 key_FLOW_CL_FIRST_SEQ_HI rfl key_FLOW_CL_FIRST_SEQ_LO rfl)
  have hs5 : Within mask_latchClass s s5 :=
    (hs4.set64 key_FLOW_CL_LAST_SEQ_HI rfl key_FLOW_CL_LAST_SEQ_LO rfl)
  exact (((hs5.set key_FLOW_CL_FIRST_POS rfl).set key_FLOW_CL_LAST_POS rfl).set key_FLOW_CL_CAP rfl)

def mask_nwinSet : Nat := 0x18000000000000000000000000000000000000000000000000000000000000000000000000000000000000000000000000000000000000000000000000000000000000000000000000000000000000000000000000000000000000000000000000000000000000000000000000000000000000000000000000

theorem within_nwinSet {s : State} {b1 : Nat} {b2 : Nat} : Within mask_nwinSet s (nwinSet s b1 b2) := by
  unfold nwinSet
  exact (((Within.refl mask_nwinSet s).set key_FLOW_NAREA rfl).set key_FLOW_NPAGE rfl)

def mask_findDone : Nat := 0x318001000000000000000000000000000000000000000000000000000000000000000000000000000000000000000000000000000000000000000000000000000000000000000000000000000000000000000000000000000000000000000000000000000000000000000000000000000000000000000000000

theorem within_findDone {s : State} : Within mask_findDone s (findDone s) := by
  unfold findDone
  extract_lets -merge -useContext -underBinder v0 v1 v2 f3 s4
  have hf3 : ∀ x5_0 x5_1 x5_2, Within mask_findDone s x5_0 → Within mask_findDone s (f3 x5_0 x5_1 x5_2) :=
    fun x5_0 x5_1 x5_2 hl5 => by
      unfold f3
      extract_lets -merge -useContext -underBinder s6
      have hs6 : Within mask_findDone s s6 :=
        ((hl5.set key_FLOW_FIND_CODE rfl).set key_FLOW_FIND_POS rfl)
      exact (Within.ite
        (hs6.step within_nwinSet rfl)
        hs6)
  have hs4 : Within mask_findDone s s4 :=
    ((Within.refl mask_findDone s).setB key_FLOW_FIND_BUSY rfl)
  clear_value v1
  split
  · rename_i w7 w8 w9 w10 e11
    exact (hf3 _ _ _ hs4)
  · rename_i w12 w13 e14
    exact (hs4.set key_FLOW_FIND_CODE rfl)
  · rename_i w15 w16 w17 w18 e19
    exact (Within.ite
      (hs4.set key_FLOW_FIND_CODE rfl)
      (by
        split
        · rename_i w20 w21 e22
          exact (hf3 _ _ _ hs4)
        · rename_i w23 e24
          exact (hs4.set key_FLOW_FIND_CODE rfl) : Within mask_findDone s _))

def mask_chunkMade : Nat := 0x10000060000000000000000000000000000000000000000000000000000000000000000000000000000000000000000000000000000000000000000000000000000000000000000000000000000000000000000000000000000000000000000000000000000000000000000000000000000000000000000000000080000

theorem within_chunkMade {s : State} : Within mask_chunkMade s (chunkMade s) := by
  unfold chunkMade
  split
  · rename_i w0 e1
    exact (Within.refl mask_chunkMade s)
  · rename_i w2 w3 e4
    extract_lets -merge -useContext -underBinder v5 v6 v7 v8 s9
    have hs9 : Within mask_chunkMade s s9 :=
      (((Within.refl mask_chunkMade s).countBy key_FLOW_EXP_LOST_CNT rfl).step within_State_setFlow rfl)
    exact ((hs9.set key_FLOW_EXP_CHUNK rfl).set key_FLOW_EXP_TOTAL rfl)

def mask_exportStart : Nat := 0x10000060000000018000000000000000000000000000000000000000000000000000000000000000000000000000000000000000000000000000000000000000000000000000000000000000000000000000000000000000000000000000000000000000000000000000000000000000000000000000000000000080000

theorem within_exportStart {s : State} {b1 : Src} : WithinP mask_exportStart s (exportStart s b1) := by
  unfold exportStart
  extract_lets -merge -useContext -underBinder v0 v1 v2 v3 s4 v5
  have hs4 : Within mask_exportStart s s4 :=
    (((Within.refl mask_exportStart s).setB key_FLOW_EXP_RUN rfl).setB key_FLOW_EXP_DONE rfl)
  exact (WithinP.ite
    (WithinP.mk (Within.refl mask_exportStart s))
    (WithinP.mk ((hs4.step within_State_setFlow rfl).step within_chunkMade rfl)))

def mask_exportEnd : Nat := 0x20000000008000000000000000000000000000000000000000000000000000000000000000000000000000000000000000000000000000000000000000000000000000000000000000000000000000000000000000000000000000000000000000000000000000000000000000000000000000000000000080000

theorem within_exportEnd {s : State} : Within mask_exportEnd s (exportEnd s) := by
  unfold exportEnd
  extract_lets -merge -useContext -underBinder v0
  exact ((((Within.refl mask_exportEnd s).setB key_FLOW_EXP_RUN rfl).set key_FLOW_EXP_CHUNK rfl).step within_State_setFlow rfl)

def mask_holdRelease : Nat := 0x200000000000020000000000000000000000000000000000000000000000000000000000000000000000000000000000000000000000000000000000000000000000000000000000000000000000000000000000000000000000000000000000000000000000000000000000000000000000000000001000000008000

theorem within_holdRelease {s : State} : Within mask_holdRelease s (holdRelease s) := by
  unfold holdRelease
  exact (Within.ite
    (Within.refl mask_holdRelease s)
    (((Within.refl mask_holdRelease s).setB key_FLOW_EVID_HOLD rfl).step within_State_event rfl))

def mask_exportAck : Nat := 0x18200060000000038000000000000000000000000000000000000000000000000000000000000000000000000000000000000000000000000000000000000000000000000000000000000000000000000000000000000000000000000000000000000000000000000000000000000000000000000000001000000088000

theorem within_exportAck {s : State} {b1 : Nat} {b2 : Nat} : WithinP mask_exportAck s (exportAck s b1 b2) := by
  unfold exportAck
  split
  · rename_i w0 e1
    exact (WithinP.mk (Within.refl mask_exportAck s))
  · rename_i w2 w3 e4
    extract_lets -merge -useContext -underBinder s5 v6
    have hs5 : Within mask_exportAck s s5 :=
      (((Within.refl mask_exportAck s).step within_exportEnd rfl).setB key_FLOW_EXP_DONE rfl)
    exact (WithinP.ite
      (WithinP.mk ((Within.refl mask_exportAck s).count key_FLOW_EXP_RETRY_CNT rfl))
      (WithinP.ite
        (WithinP.mk ((hs5.step within_State_event rfl).step within_holdRelease rfl))
        (WithinP.mk (((Within.refl mask_exportAck s).step within_State_setFlow rfl).step within_chunkMade rfl))))

def mask_flowWipe : Nat := 0x200000000080000000000000000000000000000000000000000000000000000000000000000000000000000000000000000000000000000000000000000000000000000000000000000000000000000010000000000000000000000000000000000000000000000000000000000000000000000000000000c0000

theorem within_flowWipe {s : State} : Within mask_flowWipe s (flowWipe s) := by
  unfold flowWipe
  extract_lets -merge -useContext -underBinder v0 v1 s2
  have hs2 : Within mask_flowWipe s s2 :=
    (((Within.refl mask_flowWipe s).upd_drip_flow rfl rfl).step within_exportEnd rfl)
  exact (hs2.eachDw fun t3 x3 hl3 =>
    (hl3.set (key_CYCD_LIFE_CYC _) rfl))

def mask_flowCommand : Nat := 0x10240060100001018000000000000000000000000000000000000000000000000000000000000000000000000000000000000000000000000000000000000000000000000000000000000000000000000000000000000000000000000000000000000000000000000000000000000000000000000000001000000088000

theorem within_flowCommand {s : State} {b1 : Src} {b2 : Nat} : WithinP mask_flowCommand s (flowCommand s b1 b2) := by
  unfold flowCommand
  split
  · rename_i w0
    extract_lets -merge -useContext -underBinder v1
    exact (WithinP.ite
      (WithinP.mk (Within.refl mask_flowCommand s))
      (WithinP.mk ((((Within.refl mask_flowCommand s).setB key_FLOW_FIND_BUSY rfl).set key_FLOW_FIND_CODE rfl).step within_State_setFlow rfl)))
  · rename_i w2
    exact ((Within.refl mask_flowCommand s).stepP within_exportStart rfl)
  · rename_i w3
    exact (WithinP.mk ((Within.refl mask_flowCommand s).step within_exportEnd rfl))
  · rename_i w4
    exact (WithinP.mk ((Within.refl mask_flowCommand s).step within_State_event rfl))
  · rename_i w5
    extract_lets -merge -useContext -underBinder v6
    exact (WithinP.ite
      (WithinP.mk (Within.refl mask_flowCommand s))
      (WithinP.mk ((Within.refl mask_flowCommand s).step within_snapshot rfl)))
  · rename_i w7 e8 e9 e10 e11 e12
    exact (WithinP.mk (Within.refl mask_flowCommand s))

def mask_sealQueues : Nat := 0x20040000000000000000000000000000000000000000000000000000000000000000000000000000000000000000000000000000000000000000000000000000000000000000000000000000000000000000000000000000000000000000000000000000000000000000000000000000000000000000001000000088000

theorem within_sealQueues {s : State} : Within mask_sealQueues s (sealQueues s) := by
  unfold sealQueues
  extract_lets -merge -useContext -underBinder s0 s1 v2
  have hs0 : Within mask_sealQueues s s0 :=
    (((Within.refl mask_sealQueues s).upd_fq0 (v := _) rfl (by first | exact .inl (Nat.zero_le _) | (right; simp_all))).foldl fun t3 x3 hl3 =>
      (hl3.step within_mramRec rfl))
  have hs1 : Within mask_sealQueues s s1 :=
    ((hs0.step within_queuesTake rfl).step within_sealTraces rfl)
  exact (Within.ite
    (Within.refl mask_sealQueues s)
    ((hs1.step within_State_setFlow rfl).foldl fun t4 x4 hl4 =>
      (hl4.step within_sealCycle rfl)))

def mask_execTraceSample : Nat := 0x800000000000000000000000000000000000000000000000000000000000000000000000000000000000000000000000000000000000000000000000000000000000000000000000000000000000000000000000000000000000000000000000000000000000000000000000000000000000000000001000000080000

theorem within_execTraceSample {b0 : Fin 8} {s : State} : WithinO mask_execTraceSample s (execTraceSample b0 s) := by
  unfold execTraceSample
  split
  · rename_i w0 e1
    exact (WithinO.next (Within.refl mask_execTraceSample s))
  · rename_i w2 w3 e4
    extract_lets -merge -useContext -underBinder v5
    exact (WithinO.ite
      (WithinO.next (Within.refl mask_execTraceSample s))
      (WithinO.ite
        (WithinO.next ((Within.refl mask_execTraceSample s).countDrop key_FLOW_FQ2_DROP_CNT rfl rfl))
        (WithinO.next (((Within.refl mask_execTraceSample s).step within_State_setFlow rfl).step within_queuesTake rfl))))

def mask_execRecordSeal : Nat := 0x22260000000000280000000000000000000000000000000000000000000000000000000000000000000000000000000000000000000000000000000000000000000000000000000000000000000000000000000000000000000000000000000000000000000000000000000000000000000000000000001000000088000

theorem within_execRecordSeal {b0 : Bool} {b1 : Option Nat} {s : State} : WithinO mask_execRecordSeal s (execRecordSeal b0 b1 s) := by
  unfold execRecordSeal
  extract_lets -merge -useContext -underBinder v0 s1
  have hs1 : Within mask_execRecordSeal s s1 :=
    (((Within.refl mask_execRecordSeal s).step within_queuesTake rfl).step within_sealTraces rfl)
  exact (WithinO.ite
    (WithinO.next (Within.refl mask_execRecordSeal s))
    (WithinO.ite
      (by
        split
        · rename_i w2 e3
          exact (WithinO.next hs1)
        · rename_i w4 w5 w6 e7
          extract_lets -merge -useContext -underBinder v8 s9
          have hs9 : Within mask_execRecordSeal s s9 :=
            (hs1.step within_State_setFlow rfl)
          exact (WithinO.next (Within.ite
            ((hs9.step within_recLost rfl).step within_readBackFailed rfl)
            (hs9.step within_sealCycle rfl))) : WithinO mask_execRecordSeal s _)
      (by
        split
        · rename_i w10 e11
          exact (WithinO.next (Within.refl mask_execRecordSeal s))
        · rename_i w12 w13 w14 e15
          extract_lets -merge -useContext -underBinder s16
          have hs16 : Within mask_execRecordSeal s s16 :=
            ((Within.refl mask_execRecordSeal s).upd_fq0 (v := _) rfl (by first | exact .inl (Nat.zero_le _) | (right; simp_all)))
          exact (WithinO.next (Within.ite
            ((hs16.step within_recLost rfl).step within_readBackFailed rfl)
            (hs16.step within_mramRec rfl))) : WithinO mask_execRecordSeal s _)))

def mask_execArchivePageCopy : Nat := 0x4220400000000580000000000000000000000000000000000000000000000000000000000000000000000000000000000000000000000000000000000000000000000000000000000000000000000000000000000000000000000000000000000000000000000000000000000001000000000000000001000000088000

theorem within_execArchivePageCopy {b0 : Sys2Proof.NandArea} {b1 : Sys2Proof.NandResult} {s : State} : WithinO mask_execArchivePageCopy s (execArchivePageCopy b0 b1 s) := by
  unfold execArchivePageCopy
  exact (WithinO.next (Within.ite
    (Within.refl mask_execArchivePageCopy s)
    ((Within.refl mask_execArchivePageCopy s).step within_programArea rfl)))

def mask_execNandOnlyFlush : Nat := 0x4220400000000580000000000000000000000000000000000000000000000000000000000000000000000000000000000000000000000000000000000000000000000000000000000000000000000000000000000000000000000000000000000000000000000000000000000001000000000000000001000000088000

theorem within_execNandOnlyFlush {b0 : Sys2Proof.NandResult} {s : State} : WithinO mask_execNandOnlyFlush s (execNandOnlyFlush b0 s) := by
  unfold execNandOnlyFlush
  exact (WithinO.ite
    (WithinO.next (Within.refl mask_execNandOnlyFlush s))
    (by
      split
      · rename_i w0
        exact (WithinO.next (((Within.refl mask_execNandOnlyFlush s).count key_FLOW_NAND_ERR_CNT rfl).step within_nandFail rfl))
      · rename_i w1 e2
        extract_lets -merge -useContext -underBinder s3 v4 s5 v6
        have hs3 : Within mask_execNandOnlyFlush s s3 :=
          ((Within.ite
            ((Within.refl mask_execNandOnlyFlush s).step within_blockFailed rfl)
            (Within.refl mask_execNandOnlyFlush s)).step within_nandPower rfl)
        have hs5 : Within mask_execNandOnlyFlush s s5 :=
          (hs3.step within_archivePage rfl)
        exact (WithinO.ite
          (WithinO.next hs3)
          (WithinO.next (hs5.step within_State_setFlow rfl))) : WithinO mask_execNandOnlyFlush s _))

def mask_execClipComplete : Nat := 0x40000000000000000000000000000000000000000000000000000000000000000000000000000000000000000000000000000000000000000000000000000000000000000000000000000000000000000000000000000000000000000000000000000000000000000000000000000000000000000001000000080000

theorem within_execClipComplete {b0 : Fin 8} {s : State} : WithinO mask_execClipComplete s (execClipComplete b0 s) := by
  unfold execClipComplete
  split
  · rename_i w0 e1
    exact (WithinO.next (Within.refl mask_execClipComplete s))
  · rename_i w2 w3 e4
    extract_lets -merge -useContext -underBinder v5
    exact (WithinO.ite
      (WithinO.next (Within.refl mask_execClipComplete s))
      (WithinO.next (((Within.refl mask_execClipComplete s).step within_State_setFlow rfl).step within_clipSeal rfl)))

def mask_execSnapshotTimer : Nat := 0x40000000000000000000000000000000000000000000000000000000000000000000000000000000000000000000000000000000000000000000000000000000000000000000000000000000000000000000000000000000000000000000000000000000000000000000000000000000000000000001000000080000

theorem within_execSnapshotTimer {s : State} : WithinO mask_execSnapshotTimer s (execSnapshotTimer s) := by
  unfold execSnapshotTimer
  exact (WithinO.next (Within.ite
    ((Within.refl mask_execSnapshotTimer s).step within_snapshot rfl)
    (Within.refl mask_execSnapshotTimer s)))

def mask_execFindDone : Nat := 0x318001000000000000000000000000000000000000000000000000000000000000000000000000000000000000000000000000000000000000000000000000000000000000000000000000000000000000000000000000000000000000000000000000000000000000000000000000000000000000000000000

theorem within_execFindDone {s : State} : WithinO mask_execFindDone s (execFindDone s) := by
  unfold execFindDone
  exact (WithinO.next (Within.ite
    ((Within.refl mask_execFindDone s).step within_findDone rfl)
    (Within.refl mask_execFindDone s)))

def mask_execNandPowerOff : Nat := 0x400000000000000000000000000000000000000000000000000000000000000000000000000000000000000000000000000000000000000000000000000000000000000000000000000000000000000000000000000000000000000000000000000000000000001000000000000000000000000080000

theorem within_execNandPowerOff {s : State} : WithinO mask_execNandPowerOff s (execNandPowerOff s) := by
  unfold execNandPowerOff
  exact (WithinO.next (Within.ite
    (Within.refl mask_execNandPowerOff s)
    ((Within.refl mask_execNandPowerOff s).step within_nandPower rfl)))

def mask_closeTrace : Nat := 0x20240000000000000000000000000000000000000000000000000000000000000000000000000000000000000000000000000000000000000000000000000000000000000000000000000000000000000000000000000000000000000000000000000000000000000000000000000000000000000000001000000088000

theorem within_closeTrace {s : State} {b1 : Nat} {b2 : Trace} : Within mask_closeTrace s (closeTrace s b1 b2) := by
  unfold closeTrace
  extract_lets -merge -useContext -underBinder v0
  split
  · rename_i p1 q2 w3 e4
    have hq2 : Within mask_closeTrace s q2 := .of_eq e4 ((Within.refl mask_closeTrace s).stepP within_sealTrace rfl)
    exact (hq2.step within_State_event rfl)

def mask_scanArea : Nat := 0x80000000000000000000000000000000000000000000000000000000000000000000000000000000000000000000000000000000000000000000000000000000000000000000000000000000000000000000000000000000000000000000000000000000000000000000000000000000000000000000000000080000

theorem within_scanArea {b0 : List (Fin 7)} {s : State} {b2 : Nat} : Within mask_scanArea s (scanArea b0 s b2) := by
  unfold scanArea
  extract_lets -merge -useContext -underBinder v0 s1 f2 v3 v4 s5
  have hs1 : Within mask_scanArea s s1 :=
    ((Within.refl mask_scanArea s).step within_setWp rfl)
  have hs5 : Within mask_scanArea s s5 :=
    ((hs1.countBy key_FLOW_DISCARD_CNT rfl).step within_State_setFlow rfl)
  exact (Within.ite
    hs1
    (Within.ite
      hs5
      (hs5.step within_setWp rfl)))

def mask_scanCrc : Nat := 0x100000000000000000000000000000000000000000000000000000000000000000000000000000000000000000000000000000000000000000000000000000000000000000000000000000000000000000000000000000000000000000000000000000000000000000000000000000000000000000000000000080000

theorem within_scanCrc {s : State} {b1 : List (Nat × Nat)} : Within mask_scanCrc s (scanCrc s b1) := by
  unfold scanCrc
  extract_lets -merge -useContext -underBinder v0 v1
  exact (((Within.refl mask_scanCrc s).countBy key_FLOW_CRC_BAD_CNT rfl).step within_State_setFlow rfl)

def mask_execFlowRecovery : Nat := 0x203e0000000002680000000000000000000000000000000000000000000000000000000000000000000000000000000000000000000000000000000000000000000000000000000000000000000000000000000000000000000000000000000000000000000000000000000000001000000000000000001000000088000

theorem within_execFlowRecovery {b0 : Bool} {b1 : List (Fin 7)} {b2 : List (Nat × Nat)} {s : State} : WithinO mask_execFlowRecovery s (execFlowRecovery b0 b1 b2 s) := by
  unfold execFlowRecovery
  extract_lets -merge -useContext -underBinder s0 s1 s2 v3 v4 s5 s6 v7 s8 s9 v10 v11 s12 s13 s14 s15 s16
  have hs0 : Within mask_execFlowRecovery s s0 :=
    (Within.ite
      (Within.refl mask_execFlowRecovery s)
      ((Within.refl mask_execFlowRecovery s).step within_mramFail rfl))
  have hs1 : Within mask_execFlowRecovery s s1 :=
    (hs0.step within_scanCrc rfl)
  have hs2 : Within mask_execFlowRecovery s s2 :=
    (hs1.foldl fun t17 x17 hl17 =>
      (hl17.step within_scanArea rfl))
  have hs5 : Within mask_execFlowRecovery s s5 :=
    (hs2.step within_State_setFlow rfl)
  have hs6 : Within mask_execFlowRecovery s s6 :=
    (hs5.countBy key_FLOW_DISCARD_CNT rfl)
  have hs8 : Within mask_execFlowRecovery s s8 :=
    (hs6.step within_State_setFlow rfl)
  have hs9 : Within mask_execFlowRecovery s s9 :=
    (hs8.foldl fun t18 x18 hl18 =>
      (hl18.step within_programPage rfl))
  have hs12 : Within mask_execFlowRecovery s s12 :=
    (hs9.step within_State_setFlow rfl)
  have hs13 : Within mask_execFlowRecovery s s13 :=
    (hs12.foldl fun t19 x19 hl19 =>
      (hl19.step within_closeTrace rfl))
  have hs14 : Within mask_execFlowRecovery s s14 :=
    (hs13.setB key_FLOW_FLOW_RDY rfl)
  have hs15 : Within mask_execFlowRecovery s s15 :=
    (Within.ite
      (hs14.step within_State_event rfl)
      hs14)
  have hs16 : Within mask_execFlowRecovery s s16 :=
    (Within.ite
      (hs15.step within_State_event rfl)
      hs15)
  exact (WithinO.ite
    (WithinO.next (Within.refl mask_execFlowRecovery s))
    (WithinO.next (hs16.step within_snapshot rfl)))

def mask_execFrameProcessed : Nat := 0x100000000000000000000000000000000000000000000000000000000000000000000000000000000000000000003fff000000c7c0be0000000000000000000000000000000000000000000000000000000000000000000000000000000000000000000000000000000000000000000000000000000001000000092000

theorem within_execFrameProcessed {b0 : Fin 16} {b1 : Nat} {b2 : List (List Nat)} {s : State} : WithinO mask_execFrameProcessed s (execFrameProcessed b0 b1 b2 s) := by
  unfold execFrameProcessed
  extract_lets -merge -useContext -underBinder v0
  split
  · rename_i w1 e2
    exact (WithinO.next (Within.refl mask_execFrameProcessed s))
  · rename_i w3 w4 e5
    extract_lets -merge -useContext -underBinder v6 v7 s8
    have hs8 : Within mask_execFrameProcessed s s8 :=
      ((Within.refl mask_execFrameProcessed s).step within_frameProcessed rfl)
    exact (WithinO.next (by
      clear_value v7
      split
      · rename_i w9 w10
        exact (hs8.step within_takeThumb rfl)
      · rename_i w11
        exact hs8 : Within mask_execFrameProcessed s _))

end Sys2Proof.Machine
end

