-- ==== Sys2Proof/Laws/FrameCycle.lean ====
section
/-! SUPPORT. What each operation and meaning of Machine/Cycle.lean can change: one mask and one lemma each. -/

set_option Elab.async false

namespace Sys2Proof.Machine

def mask_cycFlag : Nat := 0x4000000000000000000000000000000000000000000000000000000000000000000000000000000000000

theorem within_cycFlag {s : State} {b1 : Nat} {b2 : Nat} : Within mask_cycFlag s (cycFlag s b1 b2) := by
  unfold cycFlag
  exact (Within.ite
    ((Within.refl mask_cycFlag s).setBit (key_CYCD_CYC_FLAGS _) rfl)
    (Within.refl mask_cycFlag s))

def mask_dragEnd : Nat := 0x80000000080000000000000000000000000000000000000000000000000000000000000000000000

theorem within_dragEnd {s : State} {b1 : Nat} : Within mask_dragEnd s (dragEnd s b1) := by
  unfold dragEnd
  exact (((Within.refl mask_dragEnd s).setB (key_CYCD_DRAG _) rfl).setBit key_CYC_DRAG rfl)

def mask_dragEval : Nat := 0x200000000000000000000000000000000000000000000000000000000000000000000000000000000000000000000000000000000000000000000000000000000000000000000000000000000000000000104000080000000080000000000000000000000000000000000000000000000000000000001000000088000

theorem within_dragEval {s : State} {b1 : Nat} : Within mask_dragEval s (dragEval s b1) := by
  unfold dragEval
  extract_lets -merge -useContext -underBinder v0 v1 v2 s3 s4
  have hs3 : Within mask_dragEval s s3 :=
    ((((Within.refl mask_dragEval s).setB (key_CYCD_DRAG _) rfl).setBit key_CYC_DRAG rfl).count (key_CYCD_DRAG_CNT _) rfl)
  have hs4 : Within mask_dragEval s s4 :=
    (hs3.step within_State_event rfl)
  exact (Within.ite
    (Within.ite
      ((Within.refl mask_dragEval s).step within_dragEnd rfl)
      (Within.refl mask_dragEval s))
    (Within.ite
      (Within.refl mask_dragEval s)
      ((hs4.step within_cycFlag rfl).step within_clipStart rfl)))

def mask_cycleBegin : Nat := 0x4000000000000000000000000000000000000000000000000000000000000000000000000000000082000

theorem within_cycleBegin {s : State} {b1 : Nat} : Within mask_cycleBegin s (cycleBegin s b1) := by
  unfold cycleBegin
  extract_lets -merge -useContext -underBinder v0 s1 s2 v3 v4
  have hs1 : Within mask_cycleBegin s s1 :=
    ((Within.refl mask_cycleBegin s).step within_State_setDw rfl)
  have hs2 : Within mask_cycleBegin s s2 :=
    (hs1.set (key_CYCD_CYC_FLAGS _) rfl)
  exact (hs2.step within_State_setFlow rfl)

def mask_cycleEnd : Nat := 0x4000000000000000000000000000000000000000000000000000000000000000000000000000000000000000000000000000000000000000000000000000000000000000000000000000000000000000000078000000000000000000000000000000000000000000000000000000000000000000000010000000c2100

theorem within_cycleEnd {s : State} {b1 : Nat} : Within mask_cycleEnd s (cycleEnd s b1) := by
  unfold cycleEnd
  extract_lets -merge -useContext -underBinder v0 v1 s2 s3 s4 v5 v6 v7 v8 v9 s10 s11 v12
  have hs2 : Within mask_cycleEnd s s2 :=
    ((Within.refl mask_cycleEnd s).count (key_CYCD_CYC_CNT _) rfl)
  have hs3 : Within mask_cycleEnd s s3 :=
    (hs2.step within_State_setHeld rfl)
  have hs4 : Within mask_cycleEnd s s4 :=
    ((hs3.set (key_CYCD_LIFE_CYC _) rfl).setSat (key_CYCD_CYC_T_LAST_MS _) rfl)
  have hs10 : Within mask_cycleEnd s s10 :=
    ((hs4.step within_State_draw rfl).step within_State_setFlow rfl)
  have hs11 : Within mask_cycleEnd s s11 :=
    (Within.ite
      (hs10.countDrop key_FLOW_FQ1_DROP_CNT rfl rfl)
      hs10)
  exact (Within.ite
    (Within.refl mask_cycleEnd s)
    ((hs11.set (key_CYCD_CYC_FLAGS _) rfl).step within_State_setDw rfl))

def mask_stateEntered : Nat := 0x40000000000000000000000000000000000000000000000000000000000000000000000000000000000000000000000000000000000000000000000000000000000000000000000000000000000000000063f8000000080000000000000000000000000000000000000000000000000000000000000010000000c2100

theorem within_stateEntered {s : State} {b1 : Nat} {b2 : Nat} {b3 : Nat} : Within mask_stateEntered s (stateEntered s b1 b2 b3) := by
  unfold stateEntered
  extract_lets -merge -useContext -underBinder v0 s1 v2 s3 s4 v5 s6 v7
  have hs1 : Within mask_stateEntered s s1 :=
    (Within.ite
      ((Within.refl mask_stateEntered s).step within_cycFlag rfl)
      (Within.refl mask_stateEntered s))
  have hs3 : Within mask_stateEntered s s3 :=
    (hs1.step within_State_setDw rfl)
  have hs4 : Within mask_stateEntered s s4 :=
    ((((Within.refl mask_stateEntered s).step within_cycFlag rfl).count (key_CYCD_REVERSE_CNT _) rfl).step within_State_setHeld rfl)
  have hs6 : Within mask_stateEntered s s6 :=
    (hs4.step within_State_setDw rfl)
  exact (Within.ite
    ((Within.refl mask_stateEntered s).step within_cycFlag rfl)
    (Within.ite
      (Within.ite
        ((Within.refl mask_stateEntered s).step within_cycFlag rfl)
        (((Within.refl mask_stateEntered s).step within_cycFlag rfl).step within_cycFlag rfl))
      (Within.ite
        (Within.ite
          (hs3.setSat (key_CYCD_RETRY _) rfl)
          (Within.ite
            (hs3.set (key_CYCD_RETRY _) rfl)
            hs3))
        (Within.ite
          (Within.ite
            (hs6.step within_clipStart rfl)
            hs6)
          (Within.ite
            ((((Within.refl mask_stateEntered s).step within_cycFlag rfl).count (key_CYCD_OBSTR_CNT _) rfl).step within_State_setHeld rfl)
            (Within.ite
              (((Within.refl mask_stateEntered s).step within_State_setDw rfl).set (key_CYCD_RETRY _) rfl)
              (Within.ite
                (((Within.refl mask_stateEntered s).set (key_CYCD_RETRY _) rfl).step within_cycleEnd rfl)
                (Within.ite
                  ((Within.refl mask_stateEntered s).count (key_CYCD_ISOL_CNT _) rfl)
                  (Within.ite
                    ((((Within.refl mask_stateEntered s).step within_cycFlag rfl).count (key_CYCD_EMERG_CNT _) rfl).step within_State_setHeld rfl)
                    (Within.ite
                      ((Within.refl mask_stateEntered s).count (key_CYCD_DEPOT_CNT _) rfl)
                      (Within.refl mask_stateEntered s)))))))))))

def mask_setState : Nat := 0x60000000000000000000000000000000000000000000000000000000000000000000000000000000000000000000000000000000000000000000000000000000000000000000000000000000000000000063f801ffffeb0004f00000000000000000000000000000000000000000000000000000000010000000ca100

theorem within_setState {s : State} {b1 : Nat} {b2 : Nat} {b3 : Bool} : Within mask_setState s (setState s b1 b2 b3) := by
  unfold setState
  extract_lets -merge -useContext -underBinder v0 v1 s2 s3 s4 s5 s6 s7 v8 s9 s10
  have hs2 : Within mask_setState s s2 :=
    ((((Within.refl mask_setState s).set (key_CYCD_PREV_STATE _) rfl).set (key_CYCD_STATE _) rfl).set (key_CYCD_T_IN_STATE_MS _) rfl)
  have hs3 : Within mask_setState s s3 :=
    (((hs2.setB (key_CYCD_TMO _) rfl).setBit key_CYC_TMO rfl).setB (key_CYCD_PAUSE_DONE _) rfl)
  have hs4 : Within mask_setState s s4 :=
    (hs3.setB (key_CYCD_DWELL_DONE _) rfl)
  have hs5 : Within mask_setState s s5 :=
    (((hs4.setBit key_CYC_OBS rfl).setBit key_CYC_EMG rfl).setBit key_CYC_ISOL_MASK rfl)
  have hs6 : Within mask_setState s s6 :=
    (hs5.step within_State_event rfl)
  have hs7 : Within mask_setState s s7 :=
    (Within.ite
      (hs6.step within_cycleBegin rfl)
      hs6)
  have hs9 : Within mask_setState s s9 :=
    (hs7.step within_State_setDw rfl)
  have hs10 : Within mask_setState s s10 :=
    (Within.ite
      hs9
      (hs9.step within_dragEnd rfl))
  exact ((hs10.step within_stateEntered rfl).step within_doorShow rfl)

def mask_force : Nat := 0x600000000000000000000000000000000000000000000000000000000000000000000000000000000000000000000000000000000000000000000000000000000000000000000000000000000000000000e3f801ffffeb8004f00000000000000000000000000000000000000000000000000000000010000000ca100

theorem within_force {s : State} {b1 : Nat} {b2 : Nat} : Within mask_force s (force s b1 b2) := by
  unfold force
  exact ((((Within.refl mask_force s).step within_setState rfl).count (key_CYCD_FORCED_CNT _) rfl).count key_CYC_FORCED_TOTAL_CNT rfl)

def mask_isolate : Nat := 0x600000000000000000000000000000000000000000000000000000000000000000000000000000000000000000000000000000000000000000000000000000000000000000000000000000000000000000e3f801ffffeb8004f00000000000000000000000000000000000000000000000000000000010000000ca100

theorem within_isolate {s : State} {b1 : Nat} : Within mask_isolate s (isolate s b1) := by
  unfold isolate
  exact (Within.ite
    ((Within.refl mask_isolate s).step within_force rfl)
    (Within.refl mask_isolate s))

def mask_judge : Nat := 0x60000000000000000000000000000000000000000000000000000000000000000000000000000000000000000000000000000000000000000000000000000000000000000000000000000000000000000067f801ffffef4004f00000000000000000000000000000000000000000000000000000000030000000ca100

theorem within_judge {s : State} {b1 : Nat} : Within mask_judge s (judge s b1) := by
  unfold judge
  split
  · rename_i w0 e1
    exact (Within.refl mask_judge s)
  · rename_i w2 w3 e4
    extract_lets -merge -useContext -underBinder v5 s6
    have hs6 : Within mask_judge s s6 :=
      ((Within.refl mask_judge s).step within_State_setDw rfl)
    split
    · rename_i w7 e8
      exact (hs6.step within_setState rfl)
    · rename_i w9 w10 e11
      exact ((((hs6.set (key_CYCD_LAST_REFUSE _) rfl).count (key_CYCD_REFUSE_CNT _) rfl).count key_CYC_REFUSE_TOTAL_CNT rfl).step within_State_adj rfl)

def mask_dwMs : Nat := 0x4001000000000000000000000000000000000000000000000000000000000000000000000000000002000

theorem within_dwMs {s : State} {b1 : Nat} : Within mask_dwMs s (dwMs s b1) := by
  unfold dwMs
  extract_lets -merge -useContext -underBinder s0 v1 v2 v3 v4 v5 v6 s7
  have hs0 : Within mask_dwMs s s0 :=
    ((Within.refl mask_dwMs s).setSat (key_CYCD_T_IN_STATE_MS _) rfl)
  have hs7 : Within mask_dwMs s s7 :=
    (hs0.step within_State_setDw rfl)
  exact (Within.ite
    (hs7.step within_cycFlag rfl)
    hs7)

def mask_dwTick : Nat := 0x600000000000000000000000000000000000000000000000000000000000000000000000000000000000000000000000000000000000000000000000000000000000000000000000000000000000000000f7f801ffffefc004f00000000000000000000000000000000000000000000000000000000030000000ca100

theorem within_dwTick {s : State} {b1 : Nat} : Within mask_dwTick s (dwTick s b1) := by
  unfold dwTick
  extract_lets -merge -useContext -underBinder s0 s1 s2 s3 v4 s5
  have hs0 : Within mask_dwTick s s0 :=
    ((Within.refl mask_dwTick s).step within_dwMs rfl)
  have hs1 : Within mask_dwTick s s1 := by
    unfold s1
    split
    · rename_i w6 w7 e8
      exact (hs0.step within_force rfl)
    · rename_i w9 e10
      exact hs0
  have hs2 : Within mask_dwTick s s2 :=
    (hs1.step within_isolate rfl)
  have hs3 : Within mask_dwTick s s3 :=
    ((hs2.step within_judge rfl).step within_isolate rfl)
  have hs5 : Within mask_dwTick s s5 :=
    (hs3.step within_State_setDw rfl)
  exact (hs5.step within_dragEval rfl)

def mask_doorwayInit : Nat := 0x60000000000000000000000000000000000000000000000000000000000000000000000000000000000000000000000000000000000000000000000000000000000000000000000000000000000000000063f801ffffeb0004f00000000000000000000000000000000000000000000000000000000010000000ca100

theorem within_doorwayInit {s : State} {b1 : Nat} : Within mask_doorwayInit s (doorwayInit s b1) := by
  unfold doorwayInit
  extract_lets -merge -useContext -underBinder v0
  exact (Within.ite
    (Within.refl mask_doorwayInit s)
    (Within.ite
      (Within.refl mask_doorwayInit s)
      ((Within.refl mask_doorwayInit s).step within_setState rfl)))

def mask_cycReq : Nat := 0x2000

theorem within_cycReq {s : State} {b1 : Nat} {b2 : Nat} : WithinP mask_cycReq s (cycReq s b1 b2) := by
  unfold cycReq
  extract_lets -merge -useContext -underBinder v0
  exact (WithinP.ite
    (WithinP.mk (Within.refl mask_cycReq s))
    (WithinP.mk ((Within.refl mask_cycReq s).step within_State_setDw rfl)))

def mask_execSupervisionTimeout : Nat := 0x200000000000000000000000000000000000000000000000000000000000000000000000000000000000000000000000000000000000000000000000000000000000000000000000000000000000000000084000100000000010000000000000000000000000000000000000000000000000000000001800000008000

theorem within_execSupervisionTimeout {b0 : Fin 8} {s : State} : WithinO mask_execSupervisionTimeout s (execSupervisionTimeout b0 s) := by
  unfold execSupervisionTimeout
  split
  · rename_i w0 e1
    exact (WithinO.next (Within.refl mask_execSupervisionTimeout s))
  · rename_i w2 w3 e4
    extract_lets -merge -useContext -underBinder s5
    have hs5 : Within mask_execSupervisionTimeout s s5 :=
      ((((Within.refl mask_execSupervisionTimeout s).setB (key_CYCD_TMO _) rfl).setBit key_CYC_TMO rfl).countFault (key_CYCD_TMO_CNT _) rfl rfl)
    exact (WithinO.ite
      (WithinO.next (Within.refl mask_execSupervisionTimeout s))
      (WithinO.next ((hs5.step within_cycFlag rfl).step within_State_event rfl)))

def mask_execDwellDoneSet : Nat := 0x800000000000000000000000000000000000000000000000000000000000000000000000000000000

theorem within_execDwellDoneSet {b0 : Fin 8} {s : State} : WithinO mask_execDwellDoneSet s (execDwellDoneSet b0 s) := by
  unfold execDwellDoneSet
  exact (WithinO.next (Within.ite
    ((Within.refl mask_execDwellDoneSet s).setB (key_CYCD_DWELL_DONE _) rfl)
    (Within.refl mask_execDwellDoneSet s)))

def mask_execPauseDoneSet : Nat := 0x600000000000000000000000000000000000000000000000000000000000000000000000000000000000000000000000000000000000000000000000000000000000000000000000000000000000000000e3f801ffffeb8004f00000000000000000000000000000000000000000000000000000000010000000ca100

theorem within_execPauseDoneSet {b0 : Fin 8} {s : State} : WithinO mask_execPauseDoneSet s (execPauseDoneSet b0 s) := by
  unfold execPauseDoneSet
  extract_lets -merge -useContext -underBinder s0
  have hs0 : Within mask_execPauseDoneSet s s0 :=
    ((Within.refl mask_execPauseDoneSet s).setB (key_CYCD_PAUSE_DONE _) rfl)
  exact (WithinO.ite
    (WithinO.next (Within.refl mask_execPauseDoneSet s))
    (WithinO.next (Within.ite
      (hs0.step within_force rfl)
      hs0)))

def mask_execRecoverSettle : Nat := 0x600000000000000000000000000000000000000000000000000000000000000000000000000000000000000000000000000000000000000000000000000000000000000000000000000000000000000000e3f801ffffeb8004f00000000000000000000000000000000000000000000000000000000010000000ca100

theorem within_execRecoverSettle {b0 : Fin 8} {s : State} : WithinO mask_execRecoverSettle s (execRecoverSettle b0 s) := by
  unfold execRecoverSettle
  exact (WithinO.next (Within.ite
    (((Within.refl mask_execRecoverSettle s).step within_force rfl).step within_isolate rfl)
    (Within.refl mask_execRecoverSettle s)))

def mask_execRecordAtSafety : Nat := 0x2000000000000000000000000000000000000000000000000000000000000000000000000002c79e0032079807c000380000023c0be0000000000000000017e00000800000000000000000273c0013d0001040004fffe03ffb8001fffff3e01ebff7e000000000000000000000000000000000020000182000009bd00

theorem within_execRecordAtSafety {b0 : Fin 16} {s : State} : WithinO mask_execRecordAtSafety s (execRecordAtSafety b0 s) := by
  unfold execRecordAtSafety
  extract_lets -merge -useContext -underBinder s0
  have hs0 : Within mask_execRecordAtSafety s s0 :=
    ((Within.refl mask_execRecordAtSafety s).step within_recordAtSafety rfl)
  exact (WithinO.next (Within.ite
    (hs0.step within_dragEval rfl)
    hs0))

end Sys2Proof.Machine
end

