-- ==== Sys2Proof/Laws/FrameNets.lean ====
section
/-! SUPPORT. What each operation and meaning of Machine/Nets.lean can change: one mask and one lemma each. -/

set_option Elab.async false

namespace Sys2Proof.Machine

def mask_State_sendOn : Nat := 0x400000

theorem within_State_sendOn {s : State} {b1 : Nat} {b2 : Nat} {b3 : List Nat} : Within mask_State_sendOn s (State.sendOn s b1 b2 b3) := by
  unfold State.sendOn
  extract_lets -merge -useContext -underBinder v0
  exact ((Within.refl mask_State_sendOn s).upd_nets rfl)

def mask_State_sendEcn : Nat := 0x400000

theorem within_State_sendEcn {s : State} {b1 : Nat} {b2 : Nat} {b3 : Option Nat} {b4 : Nat} {b5 : List Nat} : Within mask_State_sendEcn s (State.sendEcn s b1 b2 b3 b4 b5) := by
  unfold State.sendEcn
  extract_lets -merge -useContext -underBinder s0 v1
  have hs0 : Within mask_State_sendEcn s s0 :=
    ((Within.refl mask_State_sendEcn s).step within_State_sendOn rfl)
  exact (hs0.upd_nets rfl)

def mask_linkReg : Nat := 0x60000000000000000000000000000000000000000000000000000000000000000000000000000000000000000000000000000000000000000000000000000000000000000000000000000000000000000000000000000000000000000000000000000000000

theorem inregs_linkReg {b0 : Nat} : InRegs mask_linkReg (linkReg b0).key := by
  unfold linkReg
  repeat' split
  · exact .of1 778 key_ECN_A_LINK rfl
  · exact .of1 777 key_ECN_B_LINK rfl

def mask_gigReg : Nat := 0x18000000000000000000000000000000000000000000000000000000000000000000000000000000000000000000000000000000000000000000000000000000000000000000000000000000000000000000000000000000000000000000000000000000000

theorem inregs_gigReg {b0 : Nat} : InRegs mask_gigReg (gigReg b0).key := by
  unfold gigReg
  repeat' split
  · exact .of1 776 key_ECN_A_1G rfl
  · exact .of1 775 key_ECN_B_1G rfl

def mask_portDown : Nat := 0x200078000000000000000000000000000000000000000000000000000000000000000000000000000000000000000000000000000000000000000000000000000000000000000000000000000000000000000000000000000000000000000000000000000000000

theorem within_portDown {s : State} {b1 : Nat} : Within mask_portDown s (portDown s b1) := by
  unfold portDown
  exact (Within.ite
    ((((Within.refl mask_portDown s).setBIn (m := 0x60000000000000000000000000000000000000000000000000000000000000000000000000000000000000000000000000000000000000000000000000000000000000000000000000000000000000000000000000000000000000000000000000000000000) inregs_linkReg rfl).setBIn (m := 0x18000000000000000000000000000000000000000000000000000000000000000000000000000000000000000000000000000000000000000000000000000000000000000000000000000000000000000000000000000000000000000000000000000000000) inregs_gigReg rfl).count key_ECN_LINK_DOWN_CNT rfl)
    (Within.refl mask_portDown s))

def mask_egressDrop : Nat := 0x40000000000000000000000000000000000000000000000000000000000000000000000000000000000000000000000000000000000000000000000000000000000000000000000000000000000000000000000000000000000000000000000001000000000000

theorem within_egressDrop {s : State} : Within mask_egressDrop s (egressDrop s) := by
  unfold egressDrop
  exact ((Within.refl mask_egressDrop s).countDrop key_ECN_EGR_DROP_CNT rfl rfl)

def mask_toHostRing : Nat := 0x400000000000000000000000000000000000000000000000000000000000032000000000000000000000000000000000000000000000000000000000000000000000000000000000000000000000000000000000000000000000000000000000000000000000000000000000000000000000000000000000000000000000001000000400000

theorem within_toHostRing {s : State} {b1 : Sys2Proof.EcnFrame} {b2 : Nat} : Within mask_toHostRing s (toHostRing s b1 b2) := by
  unfold toHostRing
  extract_lets -merge -useContext -underBinder v0 v1 v2 s3 s4 s5 s6 v7
  have hs3 : Within mask_toHostRing s s3 :=
    ((Within.refl mask_toHostRing s).wr32To mem_ECN_12 rfl)
  have hs4 : Within mask_toHostRing s s4 :=
    (hs3.wr32To mem_ECN_12 rfl)
  have hs5 : Within mask_toHostRing s s5 :=
    (hs4.wrBytesTo mem_ECN_12 rfl)
  have hs6 : Within mask_toHostRing s s6 :=
    ((hs5.set (key_ECN_Q_HEAD _) rfl).count key_ECN_RX_CNT rfl)
  exact (Within.ite
    (Within.refl mask_toHostRing s)
    (Within.ite
      ((Within.refl mask_toHostRing s).countDrop key_ECN_RX_DROP_CNT rfl rfl)
      (hs6.upd_nets rfl)))

def mask_ecnReceive : Nat := 0x4000000000000000000000000000000000000000000000000000000000001f2000000000000000000000000000000000000000000000000000000000000000000000000000000000000000000000000000000000000000000000000000000000000000000000000000000000000000000000000000000000000000000000001000000400000

theorem within_ecnReceive {s : State} {b1 : Nat} {b2 : Sys2Proof.EcnFrame} {b3 : Nat} {b4 : Bool} : WithinP mask_ecnReceive s (ecnReceive s b1 b2 b3 b4) := by
  unfold ecnReceive
  extract_lets -merge -useContext -underBinder v0 s1
  have hs1 : Within mask_ecnReceive s s1 :=
    (Within.ite
      (Within.refl mask_ecnReceive s)
      (Within.ite
        ((Within.refl mask_ecnReceive s).step within_egressDrop rfl)
        (((Within.refl mask_ecnReceive s).count key_ECN_FWD_CNT rfl).step within_State_sendOn rfl)))
  exact (WithinP.ite
    (WithinP.mk (Within.refl mask_ecnReceive s))
    (WithinP.ite
      (WithinP.mk ((Within.refl mask_ecnReceive s).countDrop key_ECN_CRC_ERR_CNT rfl rfl))
      (WithinP.ite
        (WithinP.mk (Within.refl mask_ecnReceive s))
        (WithinP.ite
          (WithinP.mk (hs1.step within_toHostRing rfl))
          (WithinP.mk hs1)))))

def mask_tailWritten : Nat := 0x400000

theorem within_tailWritten {s : State} {b1 : Nat} : Within mask_tailWritten s (tailWritten s b1) := by
  unfold tailWritten
  extract_lets -merge -useContext -underBinder v0 v1
  exact ((Within.refl mask_tailWritten s).upd_nets rfl)

def mask_tailWrite : Nat := 0x4000000000000000000000000000000000000000000000000000000000000000000000000000000000000000000000000000000000000000000000000000000000000000000000000000000000000000000000000000000000000000000000000000000400000

theorem within_tailWrite {s : State} {b1 : Nat} {b2 : Nat} : WithinP mask_tailWrite s (tailWrite s b1 b2) := by
  unfold tailWrite
  exact (WithinP.mk (((Within.refl mask_tailWrite s).set (key_ECN_Q_TAIL _) rfl).step within_tailWritten rfl))

def mask_execEcnFrameTx : Nat := 0x40000000000000000000000000000000000000000000000000000000000004a000000000000000000000000000000000000000000000000000000000000000000000000000000000000000000000000000000000000000000000000000000000000000000000000000000000000000000000000000000000000000000000001000000400000

theorem within_execEcnFrameTx {b0 : Sys2Proof.HostFrame} {b1 : Bool} {s : State} : WithinO mask_execEcnFrameTx s (execEcnFrameTx b0 b1 s) := by
  unfold execEcnFrameTx
  extract_lets -merge -useContext -underBinder f0 v1 s2 s3
  have hs2 : Within mask_execEcnFrameTx s s2 :=
    ((Within.refl mask_execEcnFrameTx s).wr32To mem_ECN_12 rfl)
  have hs3 : Within mask_execEcnFrameTx s s3 :=
    (hs2.set (key_ECN_Q_HEAD _) rfl)
  exact (WithinO.ite
    (WithinO.next (Within.refl mask_execEcnFrameTx s))
    (WithinO.next (Within.ite
      (hs3.step within_egressDrop rfl)
      ((hs3.count key_ECN_TX_CNT rfl).step within_State_sendEcn rfl))))

def mask_execBypassRelayChange : Nat := 0x600178000000000000000000000000000000000000000000000000000000000000000000000000000000000000000000000000000000000000000000000000000000000000000000000000000000000000000000000000000000000000000000000000000000000

theorem within_execBypassRelayChange {s : State} : WithinO mask_execBypassRelayChange s (execBypassRelayChange s) := by
  unfold execBypassRelayChange
  extract_lets -merge -useContext -underBinder v0 s1
  have hs1 : Within mask_execBypassRelayChange s s1 :=
    ((((Within.refl mask_execBypassRelayChange s).setB key_ECN_BYPASS rfl).step within_portDown rfl).step within_portDown rfl)
  exact (WithinO.ite
    (WithinO.next (Within.refl mask_execBypassRelayChange s))
    (WithinO.next (Within.ite
      (hs1.count key_ECN_BYPASS_CNT rfl)
      hs1)))

def mask_execEcnLinkChange : Nat := 0x200078000000000000000000000000000000000000000000000000000000000000000000000000000000000000000000000000000000000000000000000000000000000000000000000000000000000000000000000000000000000000000000000000000000000

theorem within_execEcnLinkChange {b0 : Fin 2} {b1 : Bool} {b2 : Bool} {s : State} : WithinO mask_execEcnLinkChange s (execEcnLinkChange b0 b1 b2 s) := by
  unfold execEcnLinkChange
  exact (WithinO.ite
    (WithinO.next (Within.refl mask_execEcnLinkChange s))
    (WithinO.ite
      (WithinO.next (((Within.refl mask_execEcnLinkChange s).setBIn (m := 0x60000000000000000000000000000000000000000000000000000000000000000000000000000000000000000000000000000000000000000000000000000000000000000000000000000000000000000000000000000000000000000000000000000000000) inregs_linkReg rfl).setBIn (m := 0x18000000000000000000000000000000000000000000000000000000000000000000000000000000000000000000000000000000000000000000000000000000000000000000000000000000000000000000000000000000000000000000000000000000000) inregs_gigReg rfl))
      (WithinO.next ((Within.refl mask_execEcnLinkChange s).step within_portDown rfl))))

def mask_lineGood : Nat := 0x400000

theorem within_lineGood {s : State} {b1 : Nat} : Within mask_lineGood s (lineGood s b1) := by
  unfold lineGood
  extract_lets -merge -useContext -underBinder v0
  exact ((Within.refl mask_lineGood s).upd_nets rfl)

def mask_mvbLines : Nat := 0xc6000000000000000000000000000000000000000000000000000000000000000000000000000000000000000000000000000000000000000000000000000000000000000000000000000000000000000000000000000000000000000000000000000000000400000

theorem within_mvbLines {s : State} {b1 : Sys2Proof.MvbLine} {b2 : Sys2Proof.MvbLine} : Within mask_mvbLines s (mvbLines s b1 b2) := by
  unfold mvbLines
  extract_lets -merge -useContext -underBinder s0
  have hs0 : Within mask_mvbLines s s0 := by
    unfold s0
    split
    · rename_i w1
      exact (((Within.refl mask_mvbLines s).setB key_MVB_LINE_A_OK rfl).step within_lineGood rfl)
    · rename_i w2
      exact ((Within.refl mask_mvbLines s).count key_MVB_LINE_A_ERR_CNT rfl)
    · rename_i w3
      exact (Within.refl mask_mvbLines s)
  split
  · rename_i w4
    exact ((hs0.setB key_MVB_LINE_B_OK rfl).step within_lineGood rfl)
  · rename_i w5
    exact (hs0.count key_MVB_LINE_B_ERR_CNT rfl)
  · rename_i w6
    exact hs0

def mask_execMvbMasterFrame : Nat := 0xe6000000000000000000000000000000000000000000000000000000000000000000000000000000000000000000000000000000000000000000000000000000000000000000000000000000000000000000000000000000000000000000000000000000000400100

theorem within_execMvbMasterFrame {b0 : Sys2Proof.MvbAsk} {b1 : Sys2Proof.MvbLine} {b2 : Sys2Proof.MvbLine} {s : State} : WithinO mask_execMvbMasterFrame s (execMvbMasterFrame b0 b1 b2 s) := by
  unfold execMvbMasterFrame
  extract_lets -merge -useContext -underBinder s0
  have hs0 : Within mask_execMvbMasterFrame s s0 :=
    ((Within.refl mask_execMvbMasterFrame s).step within_mvbLines rfl)
  exact (WithinO.ite
    (WithinO.next (Within.refl mask_execMvbMasterFrame s))
    (WithinO.ite
      (WithinO.next hs0)
      (by
        split
        · rename_i w1 w2
          exact (WithinO.ite
            (WithinO.next hs0)
            (WithinO.next (((hs0.count key_MVB_MF_CNT rfl).step within_State_draw rfl).step within_State_sendOn rfl)))
        · rename_i w3 w4
          split
          · rename_i w5 e6
            exact (WithinO.next hs0)
          · rename_i w7 w8 e9
            exact (WithinO.next ((hs0.count key_MVB_MF_CNT rfl).step within_State_sendOn rfl)) : WithinO mask_execMvbMasterFrame s _)))

def mask_sinkFresh : Nat := 0x400000

theorem within_sinkFresh {s : State} {b1 : Nat} : Within mask_sinkFresh s (sinkFresh s b1) := by
  unfold sinkFresh
  extract_lets -merge -useContext -underBinder v0
  exact ((Within.refl mask_sinkFresh s).upd_nets rfl)

def mask_execMvbSlaveFrame : Nat := 0x10000000000000000000000000000000000000000000000000000000000d6000000000000000000000000000000000000000000000000000000000000000000000000000000000000000000000000000000000000000000000000000000000000000000000000000000000000000000000000000000000000000000000000000000000400000

theorem within_execMvbSlaveFrame {b0 : BitVec 12} {b1 : List Nat} {b2 : Sys2Proof.MvbLine} {b3 : Sys2Proof.MvbLine} {s : State} : WithinO mask_execMvbSlaveFrame s (execMvbSlaveFrame b0 b1 b2 b3 s) := by
  unfold execMvbSlaveFrame
  extract_lets -merge -useContext -underBinder s0
  have hs0 : Within mask_execMvbSlaveFrame s s0 :=
    ((Within.refl mask_execMvbSlaveFrame s).step within_mvbLines rfl)
  exact (WithinO.ite
    (WithinO.next (Within.refl mask_execMvbSlaveFrame s))
    (WithinO.ite
      (WithinO.next hs0)
      (WithinO.next (hs0.eachUpTo fun t1 x1 hl1 =>
        (Within.ite
          (((hl1.wrBytesTo mem_MVB_2 rfl).setBit key_MVB_STALE_MASK rfl).step within_sinkFresh rfl)
          hl1)))))

def mask_execMvbLineFault : Nat := 0x6000000000000000000000000000000000000000000000000000000000000000000000000000000000000000000000000000000000000000000000000000000000000000000000000000000000000000000000000000000000000000000000000000000000000000

theorem within_execMvbLineFault {b0 : Fin 2} {s : State} : WithinO mask_execMvbLineFault s (execMvbLineFault b0 s) := by
  unfold execMvbLineFault
  extract_lets -merge -useContext -underBinder f0 f1
  exact (WithinO.next (Within.ite
    ((Within.refl mask_execMvbLineFault s).setBIn (m := 0x6000000000000000000000000000000000000000000000000000000000000000000000000000000000000000000000000000000000000000000000000000000000000000000000000000000000000000000000000000000000000000000000000000000000000000) (InRegs.ite (m := 0x6000000000000000000000000000000000000000000000000000000000000000000000000000000000000000000000000000000000000000000000000000000000000000000000000000000000000000000000000000000000000000000000000000000000000000) (.of1 798 key_MVB_LINE_A_OK rfl) (.of1 797 key_MVB_LINE_B_OK rfl)) rfl)
    (Within.refl mask_execMvbLineFault s)))

def mask_staleEnd : Nat := 0x10000000000000000000000000000000000000000000000000000000000000000000000000000000000000000000000000000000000000000000000000000000000000000000000000000000000000000000000000000000000000000000000000000000000000000

theorem within_staleEnd {s : State} {b1 : Nat} : Within mask_staleEnd s (staleEnd s b1) := by
  unfold staleEnd
  exact (Within.ite
    (Within.refl mask_staleEnd s)
    ((Within.refl mask_staleEnd s).setBit key_MVB_STALE_MASK rfl))

def mask_execMvbPortStale : Nat := 0x110000000000000000000000000000000000000000000000000000000000000000000000000000000000000000000000000000000000000000000000000000000000000000000000000000000000000000000000000000000000000000000000000000000000000000

theorem within_execMvbPortStale {b0 : Fin 32} {s : State} : WithinO mask_execMvbPortStale s (execMvbPortStale b0 s) := by
  unfold execMvbPortStale
  exact (WithinO.ite
    (WithinO.next (Within.refl mask_execMvbPortStale s))
    (WithinO.next (((Within.refl mask_execMvbPortStale s).setBit key_MVB_STALE_MASK rfl).count key_MVB_STALE_CNT rfl)))

def mask_mvbLatch : Nat := 0x400000

theorem within_mvbLatch {s : State} {b1 : Src} {b2 : Nat} : Within mask_mvbLatch s (mvbLatch s b1 b2) := by
  unfold mvbLatch
  extract_lets -merge -useContext -underBinder v0
  exact (Within.ite
    (Within.refl mask_mvbLatch s)
    ((Within.refl mask_mvbLatch s).upd_nets rfl))

def mask_execMvbSinkWord0Read : Nat := 0x400000

theorem within_execMvbSinkWord0Read {b0 : Fin 32} {s : State} : WithinO mask_execMvbSinkWord0Read s (execMvbSinkWord0Read b0 s) := by
  unfold execMvbSinkWord0Read
  exact (WithinO.next ((Within.refl mask_execMvbSinkWord0Read s).step within_mvbLatch rfl))

def mask_lglBad : Nat := 0x400000000000000000000000000000000000000000000000000000000000000000000000000000000000000000000000000000000000000000000000000000000000000000000000000000000000000000000000000000000000000000000000000000001000000000000

theorem within_lglBad {s : State} : Within mask_lglBad s (lglBad s) := by
  unfold lglBad
  exact ((Within.refl mask_lglBad s).countDrop key_LGL_LGL_ERR_CNT rfl rfl)

def mask_execLglPoll : Nat := 0x100000000000000000000000000000000000000000000000000000000000000000000000000000000000000000000000000000000000000000000000000000000000000000000000000000000000000000000000000000000000000000000000000000000000000400000

theorem within_execLglPoll {s : State} : WithinO mask_execLglPoll s (execLglPoll s) := by
  unfold execLglPoll
  exact (WithinO.ite
    (WithinO.next (Within.refl mask_execLglPoll s))
    (by
      split
      · rename_i w0 w1 w2 e3
        extract_lets -merge -useContext -underBinder v4 v5
        exact (WithinO.next (((Within.refl mask_execLglPoll s).upd_nets rfl).step within_State_sendOn rfl))
      · rename_i w6 e7
        split
        · rename_i w8 e9
          exact (WithinO.next (Within.refl mask_execLglPoll s))
        · rename_i w10 w11 e12
          extract_lets -merge -useContext -underBinder v13
          exact (WithinO.next ((((Within.refl mask_execLglPoll s).upd_nets rfl).count key_LGL_POLL_CNT rfl).step within_State_sendOn rfl)) : WithinO mask_execLglPoll s _))

def mask_legacySeen : Nat := 0x80031c40000000000000000000000000000000000000000000000000000000000000000000000000000000000000000000000000000000000000000000000000000000000000000000000000000000000000000000000000000000000000000000000000000000000001000000800000

theorem within_legacySeen {s : State} {b1 : Nat} {b2 : Nat} {b3 : Nat} : Within mask_legacySeen s (legacySeen s b1 b2 b3) := by
  unfold legacySeen
  exact (Within.ite
    (Within.refl mask_legacySeen s)
    (by
      split
      · rename_i w0 e1
        exact ((Within.refl mask_legacySeen s).step within_notEntered rfl)
      · rename_i w2 w3 e4
        extract_lets -merge -useContext -underBinder v5 s6
        have hs6 : Within mask_legacySeen s s6 :=
          ((Within.refl mask_legacySeen s).step within_State_setSlot rfl)
        exact ((hs6.step within_chooseVersion rfl).step within_slotState rfl) : Within mask_legacySeen s _))

def mask_pollEnded : Nat := 0x400000

theorem within_pollEnded {s : State} : Within mask_pollEnded s (pollEnded s) := by
  unfold pollEnded
  extract_lets -merge -useContext -underBinder v0
  exact ((Within.refl mask_pollEnded s).upd_nets rfl)

def mask_lglReply : Nat := 0x2000000000000000000000000000000000000000000080031c40000420000000000000000000000000000000000000000000000000000000000000000000000000000000000000000000000000000000000000000000000000000000000000000000000000000000000000000000000000000000000000000000000000000001000000c00000

theorem within_lglReply {s : State} {b1 : List Nat} {b2 : Bool} : Within mask_lglReply s (lglReply s b1 b2) := by
  unfold lglReply
  extract_lets -merge -useContext -underBinder v0 v1
  split
  · rename_i w2 e3
    exact (Within.ite
      (Within.refl mask_lglReply s)
      ((Within.refl mask_lglReply s).step within_lglBad rfl))
  · rename_i w4 w5 w6 w7 e8
    extract_lets -merge -useContext -underBinder s9 s10 v11 s12 s13
    have hs9 : Within mask_lglReply s s9 :=
      ((Within.refl mask_lglReply s).step within_pollEnded rfl)
    have hs10 : Within mask_lglReply s s10 :=
      (hs9.wrBytesTo mem_LGL_1 rfl)
    have hs12 : Within mask_lglReply s s12 :=
      (hs10.upd_nets rfl)
    have hs13 : Within mask_lglReply s s13 :=
      (hs12.setBit key_LGL_LGL_PRESENT rfl)
    exact (Within.ite
      ((Within.refl mask_lglReply s).step within_lglBad rfl)
      (Within.ite
        (Within.refl mask_lglReply s)
        (Within.ite
          hs10
          (Within.ite
            (hs13.step within_legacySeen rfl)
            (hs13.step within_legacySeen rfl)))))

def mask_execLglReplyRx : Nat := 0x2000000000000000000000000000000000000000000080031c40000420000000000000000000000000000000000000000000000000000000000000000000000000000000000000000000000000000000000000000000000000000000000000000000000000000000000000000000000000000000000000000000000000000001000000c00000

theorem within_execLglReplyRx {b0 : List Nat} {b1 : Bool} {s : State} : WithinO mask_execLglReplyRx s (execLglReplyRx b0 b1 s) := by
  unfold execLglReplyRx
  exact (WithinO.next (Within.ite
    ((Within.refl mask_execLglReplyRx s).step within_lglReply rfl)
    (Within.refl mask_execLglReplyRx s)))

def mask_execLglReplyTimeout : Nat := 0x32c40008220000000000000000000000000000000000000000000000000000000000000000000000000000000000000000000000000000000000000000000000000000000000000000000000000000000000000000000000000000000000000000000000000000001000000c00000

theorem within_execLglReplyTimeout {s : State} : WithinO mask_execLglReplyTimeout s (execLglReplyTimeout s) := by
  unfold execLglReplyTimeout
  split
  · rename_i w0 e1
    exact (WithinO.next (Within.refl mask_execLglReplyTimeout s))
  · rename_i w2 w3 w4 w5 e6
    extract_lets -merge -useContext -underBinder s7 v8 v9 s10 s11
    have hs7 : Within mask_execLglReplyTimeout s s7 :=
      ((Within.refl mask_execLglReplyTimeout s).step within_pollEnded rfl)
    have hs10 : Within mask_execLglReplyTimeout s s10 :=
      ((hs7.upd_nets rfl).count key_LGL_NOREPLY_CNT rfl)
    have hs11 : Within mask_execLglReplyTimeout s s11 :=
      (hs10.setBit key_LGL_LGL_PRESENT rfl)
    exact (WithinO.ite
      (WithinO.next (Within.refl mask_execLglReplyTimeout s))
      (WithinO.ite
        (WithinO.next ((Within.refl mask_execLglReplyTimeout s).step within_pollEnded rfl))
        (WithinO.ite
          (WithinO.next hs10)
          (WithinO.next (Within.ite
            hs11
            (hs11.eachUpTo fun t12 x12 hl12 =>
              (Within.ite
                (hl12.step within_slotLost rfl)
                hl12)))))))

def mask_lglCommand : Nat := 0x400000

theorem within_lglCommand {s : State} {b1 : Nat} : WithinP mask_lglCommand s (lglCommand s b1) := by
  unfold lglCommand
  extract_lets -merge -useContext -underBinder v0 v1
  exact (WithinP.ite
    (WithinP.mk (Within.refl mask_lglCommand s))
    (WithinP.mk ((Within.refl mask_lglCommand s).upd_nets rfl)))

def mask_execLglSlaveReply : Nat := 0x400000000000000000000000000000000000000000000000000000000000000000000000000000000000000000000000000000000000000000000000000000000000000000000000000000000000000000000000000000000000000000000000000000001000000400000

theorem within_execLglSlaveReply {b0 : List Nat} {b1 : Bool} {s : State} : WithinO mask_execLglSlaveReply s (execLglSlaveReply b0 b1 s) := by
  unfold execLglSlaveReply
  exact (WithinO.ite
    (WithinO.next (Within.refl mask_execLglSlaveReply s))
    (WithinO.ite
      (WithinO.next ((Within.refl mask_execLglSlaveReply s).step within_lglBad rfl))
      (WithinO.ite
        (WithinO.next (Within.refl mask_execLglSlaveReply s))
        (WithinO.next ((Within.refl mask_execLglSlaveReply s).step within_State_sendOn rfl)))))

end Sys2Proof.Machine
end

