-- ==== Sys2Proof/Laws/FrameEcho.lean ====
section
/-! SUPPORT. What each operation and meaning of Machine/Echo.lean can change: one mask and one lemma each. -/

set_option Elab.async false

namespace Sys2Proof.Machine

def mask_dvrSend : Nat := 0x400100

theorem within_dvrSend {s : State} {b1 : Nat} {b2 : Nat} {b3 : Nat} {b4 : List Nat} {b5 : List Nat} : Within mask_dvrSend s (dvrSend s b1 b2 b3 b4 b5) := by
  unfold dvrSend
  extract_lets -merge -useContext -underBinder v0 v1 v2 s3
  have hs3 : Within mask_dvrSend s s3 :=
    ((Within.refl mask_dvrSend s).upd_nets rfl)
  exact (Within.ite
    (Within.ite
      ((Within.refl mask_dvrSend s).step within_State_sendEcn rfl)
      ((Within.refl mask_dvrSend s).step within_State_sendEcn rfl))
    (Within.ite
      (((Within.refl mask_dvrSend s).step within_State_draw rfl).step within_State_sendOn rfl)
      (Within.ite
        (hs3.step within_State_sendOn rfl)
        (Within.ite
          (hs3.step within_State_sendOn rfl)
          (hs3.step within_State_sendOn rfl)))))

def mask_announce : Nat := 0x100000000000000000000000000000000000000000000000000000000000000000000000000000000000000000000000000000000000000000000000000000000000000000000000000000000000000000000000000000000000000000000000000000000000000000000400100

theorem within_announce {s : State} : Within mask_announce s (announce s) := by
  unfold announce
  exact ((Within.refl mask_announce s).eachUpTo fun t0 x0 hl0 =>
    (Within.ite
      ((hl0.step within_dvrSend rfl).count key_ECHO_ANN_TX_CNT rfl)
      hl0))

def mask_execAnnounceSend : Nat := 0x100000000000000000000000000000000000000000000000000000000000000000000000000000000000000000000000000000000000000000000000000000000000000000000000000000000000000000000000000000000000000000000000000000000000000000000400100

theorem within_execAnnounceSend {s : State} : WithinO mask_execAnnounceSend s (execAnnounceSend s) := by
  unfold execAnnounceSend
  exact (WithinO.next (Within.ite
    ((Within.refl mask_execAnnounceSend s).step within_announce rfl)
    (Within.refl mask_execAnnounceSend s)))

def mask_infoSend : Nat := 0x400100

theorem within_infoSend {s : State} {b1 : Nat} {b2 : List Nat} {b3 : List Nat} : WithinP mask_infoSend s (infoSend s b1 b2 b3) := by
  unfold infoSend
  exact (WithinP.foldl (WithinP.mk (Within.refl mask_infoSend s)) fun p0 x0 hl0 =>
    (WithinP.ite
      (WithinP.mk ((WithinP.fst hl0).step within_dvrSend rfl))
      hl0))

def mask_execDoorInfoSend : Nat := 0x20000000000000000000000000000000000000000000000000000000000000000000000000000000000000000000000000000000000000000000000000000000000000000000000000000000000000000000000000000000000000000000000000000000000000000000000000400100

theorem within_execDoorInfoSend {s : State} : WithinO mask_execDoorInfoSend s (execDoorInfoSend s) := by
  unfold execDoorInfoSend
  exact (WithinO.ite
    (WithinO.next (Within.refl mask_execDoorInfoSend s))
    (by
      split
      · rename_i p0 q1 w2 e3
        have hq1 : Within mask_execDoorInfoSend s q1 := .of_eq e3 ((Within.refl mask_execDoorInfoSend s).stepP within_infoSend rfl)
        exact (WithinO.next (hq1.countBy key_DVR_INFO_TX_CNT rfl)) : WithinO mask_execDoorInfoSend s _))

def mask_execRecorderSend : Nat := 0x480100

theorem within_execRecorderSend {s : State} : WithinO mask_execRecorderSend s (execRecorderSend s) := by
  unfold execRecorderSend
  extract_lets -merge -useContext -underBinder v0 v1 v2 v3 s4 v5
  have hs4 : Within mask_execRecorderSend s s4 :=
    (WithinP.fst ((Within.refl mask_execRecorderSend s).stepP within_infoSend rfl))
  exact (WithinO.ite
    (WithinO.next (Within.refl mask_execRecorderSend s))
    (WithinO.next (hs4.upd_flow rfl)))

def mask_slotHears : Nat := 0x800000

theorem within_slotHears {s : State} {b1 : Nat} {b2 : Nat} {b3 : Nat} {b4 : Heard} : Within mask_slotHears s (slotHears s b1 b2 b3 b4) := by
  unfold slotHears
  extract_lets -merge -useContext -underBinder v0 v1 v2 v3 v4
  exact ((Within.refl mask_slotHears s).step within_State_setSlot rfl)

def mask_execAnnounceRx : Nat := 0xc0033e40008000000000000000000000000000000000000000000000000000000000000000000000000000000000000000000000000000000000000000000000000000000000000000000000000000000000000000000000000000000000000000000000000000000001000000800000

theorem within_execAnnounceRx {b0 : Fin 5} {b1 : Nat} {b2 : List Nat} {s : State} : WithinO mask_execAnnounceRx s (execAnnounceRx b0 b1 b2 s) := by
  unfold execAnnounceRx
  exact (WithinO.ite
    (WithinO.next (Within.refl mask_execAnnounceRx s))
    (by
      split
      · rename_i w0 e1
        exact (WithinO.next ((Within.refl mask_execAnnounceRx s).count key_DVR_DVR_BAD_CNT rfl))
      · rename_i w2 w3 e4
        extract_lets -merge -useContext -underBinder s5 v6
        have hs5 : Within mask_execAnnounceRx s s5 :=
          ((Within.refl mask_execAnnounceRx s).count key_ECHO_ANN_RX_CNT rfl)
        exact (WithinO.ite
          (WithinO.next hs5)
          (by
            split
            · rename_i w7 e8
              exact (WithinO.next (hs5.step within_notEntered rfl))
            · rename_i w9 w10 e11
              extract_lets -merge -useContext -underBinder s12 v13 s14
              have hs12 : Within mask_execAnnounceRx s s12 :=
                ((hs5.step within_slotHears rfl).step within_chooseVersion rfl)
              have hs14 : Within mask_execAnnounceRx s s14 :=
                (hs12.step within_State_setSlot rfl)
              exact (WithinO.ite
                (WithinO.next ((hs12.step within_slotState rfl).step within_conflictEval rfl))
                (WithinO.next ((hs14.step within_slotState rfl).step within_conflictEval rfl))) : WithinO mask_execAnnounceRx s _)) : WithinO mask_execAnnounceRx s _))

def mask_dropUnlisted : Nat := 0x32c40008000000000000000000000000000000000000000000000000000000000000000000000000000000000000000000000000000000000000000000000000000000000000000000000000000000000000000000000000000000000000000000000000000000001000000800000

theorem within_dropUnlisted {s : State} {b1 : Nat} : Within mask_dropUnlisted s (dropUnlisted s b1) := by
  unfold dropUnlisted
  extract_lets -merge -useContext -underBinder v0 s1 v2 s3
  have hs1 : Within mask_dropUnlisted s s1 :=
    ((Within.refl mask_dropUnlisted s).step within_slotState rfl)
  have hs3 : Within mask_dropUnlisted s s3 :=
    (hs1.step within_State_setSlot rfl)
  exact (Within.ite
    (Within.refl mask_dropUnlisted s)
    ((Within.ite
      (hs3.step within_slotState rfl)
      hs3).step within_conflictEval rfl))

def mask_expectUnit : Nat := 0x31c40000000000000000000000000000000000000000000000000000000000000000000000000000000000000000000000000000000000000000000000000000000000000000000000000000000000000000000000000000000000000000000000000000000000001000000800000

theorem within_expectUnit {s : State} {b1 : Nat} : Within mask_expectUnit s (expectUnit s b1) := by
  unfold expectUnit
  exact (Within.ite
    (Within.refl mask_expectUnit s)
    (by
      split
      · rename_i w0 e1
        exact ((Within.refl mask_expectUnit s).step within_notEntered rfl)
      · rename_i w2 w3 e4
        extract_lets -merge -useContext -underBinder v5 s6
        have hs6 : Within mask_expectUnit s s6 :=
          ((Within.refl mask_expectUnit s).step within_State_setSlot rfl)
        exact (hs6.step within_slotState rfl) : Within mask_expectUnit s _))

def mask_execConsistRx : Nat := 0x40037c42028000000000000000000000000000000000000000000000000000000000000000000000000000000000000000000000000000000000000000000000000000000000000000000000000000000000000000000000000000000000000000000000000000000001000000800000

theorem within_execConsistRx {b0 : Sys2Proof.ProcessData} {s : State} : WithinO mask_execConsistRx s (execConsistRx b0 s) := by
  unfold execConsistRx
  extract_lets -merge -useContext -underBinder v0 v1 v2 s3 s4 v5 s6 s7
  have hs3 : Within mask_execConsistRx s s3 :=
    ((Within.refl mask_execConsistRx s).upd_echo rfl)
  have hs4 : Within mask_execConsistRx s s4 :=
    ((hs3.setB key_ECHO_CONSIST_VALID rfl).step within_slotLink rfl)
  have hs6 : Within mask_execConsistRx s s6 :=
    ((hs4.set key_ECHO_TOPO_CNT rfl).count key_ECHO_CONSIST_CNT rfl)
  have hs7 : Within mask_execConsistRx s s7 :=
    (hs6.eachUpTo fun t8 x8 hl8 =>
      (hl8.step within_dropUnlisted rfl))
  exact (WithinO.ite
    (WithinO.next (Within.refl mask_execConsistRx s))
    (WithinO.ite
      (WithinO.next ((Within.refl mask_execConsistRx s).count key_DVR_DVR_BAD_CNT rfl))
      (WithinO.ite
        (WithinO.next (Within.refl mask_execConsistRx s))
        (WithinO.ite
          (WithinO.next hs4)
          (WithinO.next (hs7.foldl fun t9 x9 hl9 =>
            (hl9.step within_expectUnit rfl)))))))

def mask_execPartnerLost : Nat := 0x80032c40008000000000000000000000000000000000000000000000000000000000000000000000000000000000000000000000000000000000000000000000000000000000000000000000000000000000000000000000000000000000000000000000000000000001000000800000

theorem within_execPartnerLost {b0 : Fin 256} {s : State} : WithinO mask_execPartnerLost s (execPartnerLost b0 s) := by
  unfold execPartnerLost
  extract_lets -merge -useContext -underBinder v0
  exact (WithinO.ite
    (WithinO.next (Within.refl mask_execPartnerLost s))
    (WithinO.ite
      (WithinO.next (Within.refl mask_execPartnerLost s))
      (WithinO.next ((((Within.refl mask_execPartnerLost s).step within_State_setSlot rfl).step within_slotLost rfl).step within_chooseVersion rfl))))

def mask_execCarrierTimeout : Nat := 0x80000000000000000000000000000000000000000000000000000000000000000000000000000000000000000000000000000000000000000000000000000000000000000000000000000000000000000000000000000000000000000000000000000000000000000000000000800000

theorem within_execCarrierTimeout {b0 : Fin 256} {b1 : Fin 5} {s : State} : WithinO mask_execCarrierTimeout s (execCarrierTimeout b0 b1 s) := by
  unfold execCarrierTimeout
  extract_lets -merge -useContext -underBinder v0
  exact (WithinO.ite
    (WithinO.next (Within.refl mask_execCarrierTimeout s))
    (WithinO.next (((Within.refl mask_execCarrierTimeout s).step within_State_setSlot rfl).step within_chooseVersion rfl)))

def mask_execTcmsLost : Nat := 0x32c40028000000000000000000000000000000000000000000000000000000000000000000000000000000000000000000000000000000000000000000000000000000000000000000000000000000000000000000000000000000000000000000000000000000001000000800000

theorem within_execTcmsLost {s : State} : WithinO mask_execTcmsLost s (execTcmsLost s) := by
  unfold execTcmsLost
  extract_lets -merge -useContext -underBinder s0
  have hs0 : Within mask_execTcmsLost s s0 :=
    (((Within.refl mask_execTcmsLost s).setB key_ECHO_CONSIST_VALID rfl).step within_slotLost rfl)
  exact (WithinO.ite
    (WithinO.next (Within.refl mask_execTcmsLost s))
    (WithinO.next (hs0.eachUpTo fun t1 x1 hl1 =>
      (Within.ite
        (hl1.step within_slotState rfl)
        hl1))))

def mask_execSlotHoldExpiry : Nat := 0x30c40000000000000000000000000000000000000000000000000000000000000000000000000000000000000000000000000000000000000000000000000000000000000000000000000000000000000000000000000000000000000000000000000000000000001000000800000

theorem within_execSlotHoldExpiry {b0 : Fin 256} {s : State} : WithinO mask_execSlotHoldExpiry s (execSlotHoldExpiry b0 s) := by
  unfold execSlotHoldExpiry
  exact (WithinO.next (Within.ite
    ((Within.refl mask_execSlotHoldExpiry s).step within_slotState rfl)
    (Within.refl mask_execSlotHoldExpiry s)))

def mask_execExpectedMissing : Nat := 0x8000000000000000000000000000000000000000000000000000000000000000000000000000000000000000000000000000000000000000000000000000000000000000000000000000000000000000000000000000000000000000000000000000000000000000000000800000

theorem within_execExpectedMissing {b0 : Fin 256} {s : State} : WithinO mask_execExpectedMissing s (execExpectedMissing b0 s) := by
  unfold execExpectedMissing
  extract_lets -merge -useContext -underBinder v0
  exact (WithinO.ite
    (WithinO.next (Within.refl mask_execExpectedMissing s))
    (WithinO.next (((Within.refl mask_execExpectedMissing s).step within_State_setSlot rfl).count key_ECHO_MISSING_CNT rfl)))

def mask_execDvrMessageRx : Nat := 0x26000000000000000000000000000000000000000000c0031c400004200001f20007f9f801fb8f000000ff10000000000000000000000000000000000000000000000000000000000000000000000000000000000000000000000000000000000000000000000000000000000000000000000000000000000000000000000001800000e00100

theorem within_execDvrMessageRx {b0 : Sys2Proof.DvrFrame} {b1 : Bool} {s : State} : WithinO mask_execDvrMessageRx s (execDvrMessageRx b0 b1 s) := by
  unfold execDvrMessageRx
  split
  · rename_i p0 q1 w2 e3
    have hq1 : Within mask_execDvrMessageRx s q1 := .of_eq e3 (by
  split
  · rename_i w4 w5 w6 w7
    exact ((Within.refl mask_execDvrMessageRx s).stepP within_ecnReceive rfl)
  · rename_i w8 w9 w10 w11
    exact ((Within.refl mask_execDvrMessageRx s).stepP within_canReceive rfl)
  · rename_i w12 w13
    exact (WithinP.mk (Within.ite
      ((Within.refl mask_execDvrMessageRx s).step within_lglReply rfl)
      (Within.refl mask_execDvrMessageRx s))) : WithinP mask_execDvrMessageRx s _)
    extract_lets -merge -useContext -underBinder v14
    exact (WithinO.next (Within.ite
      (hq1.count key_DVR_DVR_BAD_CNT rfl)
      hq1))

end Sys2Proof.Machine
end

