-- ==== Sys2Proof/Laws/FrameShared.lean ====
section
/-! SUPPORT. What each operation and meaning of Machine/Shared.lean can change: one mask and one lemma each. -/

set_option Elab.async false

namespace Sys2Proof.Machine

def mask_supplyShow : Nat := 0x3f4c00000000000000000000000000

theorem within_supplyShow {s : State} : Within mask_supplyShow s (supplyShow s) := by
  unfold supplyShow
  extract_lets -merge -useContext -underBinder v0 s1 s2 s3 s4 s5
  have hs1 : Within mask_supplyShow s s1 :=
    (((Within.refl mask_supplyShow s).setB key_PWR_BATTL_OK rfl).setB key_PWR_BATTL_LOW rfl)
  have hs2 : Within mask_supplyShow s s2 :=
    (hs1.setB key_PWR_BATTD_OK rfl)
  have hs3 : Within mask_supplyShow s s3 :=
    (hs2.setB key_PWR_GA_OK rfl)
  have hs4 : Within mask_supplyShow s s4 :=
    (hs3.setB key_PWR_GB_OK rfl)
  have hs5 : Within mask_supplyShow s s5 :=
    ((hs4.setSat key_PWR_VL rfl).setSat key_PWR_VD rfl)
  exact ((hs5.setSat key_PWR_VGA rfl).setSat key_PWR_VGB rfl)

def mask_feedSync : Nat := 0x4000000000000000000000000000000000000000000000000000000000000000000000000000000000000000000000000000000000000000000000000000000000000000002000001000000000000000000000000000a00

theorem within_feedSync {s : State} : Within mask_feedSync s (feedSync s) := by
  unfold feedSync
  extract_lets -merge -useContext -underBinder v0 s1 s2 v3
  have hs1 : Within mask_feedSync s s1 :=
    ((Within.refl mask_feedSync s).upd_pwr rfl)
  have hs2 : Within mask_feedSync s s2 :=
    ((hs1.setBit key_PWR_DOM_ON rfl).setB key_CRAWL_CR_PIN rfl)
  exact (Within.ite
    hs1
    (Within.ite
      (hs1.setBit key_PWR_DOM_ON rfl)
      ((hs2.upd_gal rfl).step within_clkSync rfl)))

def mask_domOn1 : Nat := 0x20000000000000000000000000000000000000000000000000000000000000000000000000000000000000000000000000000000000001000000000000000000000000400200

theorem within_domOn1 {s : State} {b1 : Nat} : Within mask_domOn1 s (domOn1 s b1) := by
  unfold domOn1
  extract_lets -merge -useContext -underBinder s0 s1 v2 s3 v4
  have hs0 : Within mask_domOn1 s s0 :=
    ((Within.refl mask_domOn1 s).setBit key_PWR_DOM_ON rfl)
  have hs1 : Within mask_domOn1 s s1 :=
    (Within.ite
      (hs0.setB key_LANT_ENG_OK rfl)
      hs0)
  have hs3 : Within mask_domOn1 s s3 :=
    (Within.ite
      (hs1.upd_nets rfl)
      hs1)
  exact (Within.ite
    (Within.refl mask_domOn1 s)
    (hs3.upd_pwr rfl))

def mask_domOff1 : Nat := 0x200000000000000000000000000032c40008000000000000000000000000000000000c078010000000000000000000000000000000007de0020001f3ff6000000000000000000000000000000000000000000000000000000000000000001000000800000000000000002000001000000000000000001800000818200

theorem within_domOff1 {s : State} {b1 : Nat} : Within mask_domOff1 s (domOff1 s b1) := by
  unfold domOff1
  extract_lets -merge -useContext -underBinder s0 v1 s2
  have hs0 : Within mask_domOff1 s s0 :=
    (((Within.refl mask_domOff1 s).setBit key_PWR_DOM_ON rfl).step within_clkSync rfl)
  have hs2 : Within mask_domOff1 s s2 :=
    (hs0.upd_pwr rfl)
  exact (Within.ite
    (Within.refl mask_domOff1 s)
    (by
      split
      · rename_i w3
        exact ((hs2.setB key_SAFM_SP_RUN rfl).setB key_COLM_SP_HB_OK rfl)
      · rename_i w4
        extract_lets -merge -useContext -underBinder v5
        exact (hs2.upd_pwr rfl)
      · rename_i w6
        exact ((hs2.setB key_LANT_HP_OK rfl).eachHead fun t7 x7 hl7 =>
          (hl7.step within_portSync rfl))
      · rename_i w8
        exact (hs2.step within_barrierLoss rfl)
      · rename_i w9
        extract_lets -merge -useContext -underBinder v10
        exact (hs2.upd_pwr rfl)
      · rename_i w11
        exact (hs2.setB key_CRAWL_MAP_LOADED rfl)
      · rename_i w12 e13 e14 e15 e16 e17 e18
        exact hs2 : Within mask_domOff1 s _))

def mask_evalAll : Nat := 0x3cfc000000000000000000000000000000000000000000000000000000000000000000000000000000000000482c79e203207f807c000380000023c0be0000000000000000017e00000800000000000000000273c0013d00000000047ffe03ffb0001fffff3e01ebff7e0000000000000000000000000000000000200002820000003d00

theorem within_evalAll {s : State} : Within mask_evalAll s (evalAll s) := by
  unfold evalAll
  exact ((((Within.refl mask_evalAll s).step within_safetyEval rfl).step within_visionEval rfl).step within_crawlSync rfl)

def mask_crawlFeed : Nat := 0x3cfc000000000000000000000000000000000000000000000000000000000000000000000000000000000000592c79e203207f807c00000000000000000020000000000000000000000000000000000000000000000000000000000000000000000000000000000000000000000000000000000001000000000000000002800000400b00

theorem within_crawlFeed {s : State} : Within mask_crawlFeed s (crawlFeed s) := by
  unfold crawlFeed
  exact (Within.ite
    (((Within.refl mask_crawlFeed s).step within_domOn1 rfl).step within_crawlLoad rfl)
    (Within.refl mask_crawlFeed s))

def mask_domsOn : Nat := 0x20000000000000000000000000000000000000000000000000000000000000000000000000000000000000000000000000000000000001000000000000000000000000400200

theorem within_domsOn {s : State} {b1 : List Nat} : Within mask_domsOn s (domsOn s b1) := by
  unfold domsOn
  exact ((Within.refl mask_domsOn s).foldl fun t0 x0 hl0 =>
    (hl0.step within_domOn1 rfl))

def mask_domsOff : Nat := 0x3cfc00000000000200000000000000000000000000032c40008000000000000000000000000000000000c078492c79e203207f807c000380000023c0be07de0020001f3ff6017e00000800000000000000000273c0013d00000000047ffe03ffb0001fffff3f01ebfffe000000000000000200000100000000000020000382000081bf00

theorem within_domsOff {s : State} {b1 : List Nat} : Within mask_domsOff s (domsOff s b1) := by
  unfold domsOff
  exact (((Within.refl mask_domsOff s).foldl fun t0 x0 hl0 =>
    (hl0.step within_domOff1 rfl)).step within_evalAll rfl)

def mask_enterActive : Nat := 0x3cfc000000000000000000000000000000000000000000000000000000000000000000000000000000000000482c79e203207f807c000380000023c0be0020000000000000017e00000800000000000000000273c0013d00000000047ffe03ffb0001fffff3e01ebff7e0000000000000000800001000014000000200002820000403f00

theorem within_enterActive {s : State} : Within mask_enterActive s (enterActive s) := by
  unfold enterActive
  extract_lets -merge -useContext -underBinder v0 s1 s2
  have hs1 : Within mask_enterActive s s1 :=
    ((Within.refl mask_enterActive s).upd_pwr rfl)
  have hs2 : Within mask_enterActive s s2 :=
    (((hs1.set key_PWR_MODE rfl).setB key_PWR_ACT_RDY rfl).set key_CLK_APP_NOW rfl)
  exact (Within.ite
    (Within.refl mask_enterActive s)
    ((hs2.step within_domsOn rfl).step within_evalAll rfl))

def mask_enterIdle : Nat := 0x3cfc00000000000200000000000000000000000000032c40008000000000000000000000000000000000c078492c79e203207f807c000380000023c0be07de0020001f3ff6017e00000800000000000000000273c0013d00000000047ffe03ffb0001fffff3f01ebfffe000000000000000282000100001400000020000382000081bf00

theorem within_enterIdle {s : State} : Within mask_enterIdle s (enterIdle s) := by
  unfold enterIdle
  extract_lets -merge -useContext -underBinder v0 s1 s2
  have hs1 : Within mask_enterIdle s s1 :=
    ((Within.refl mask_enterIdle s).upd_pwr rfl)
  have hs2 : Within mask_enterIdle s s2 :=
    (((hs1.set key_PWR_MODE rfl).setB key_PWR_ACT_RDY rfl).set key_CLK_APP_NOW rfl)
  exact ((hs2.step within_domsOff rfl).step within_parkSync rfl)

def mask_setTpSel : Nat := 0x2000000000000000000000000000000000000000000000000000000000000000000000000000000000000000000000000000000000000000000000000000000000000000000000000000000000000000000000000000000000000000000000000000000000000000000000000000000000000000000000000000000000000000000

theorem within_setTpSel {s : State} {b1 : Nat} {b2 : Nat} : Within mask_setTpSel s (setTpSel s b1 b2) := by
  unfold setTpSel
  extract_lets -merge -useContext -underBinder v0
  exact ((Within.refl mask_setTpSel s).set (key_TEST_TP_SEL _) rfl)

def mask_monRelease : Nat := 0x7c02000000000000000000000000000000000000000000000000000000000000000000000000000000000000000000000000000000000000000000000000000000000000000000000000000000000000000000000000000000000000000000000000000000000000000000000000000000000000000000000000000000000000000000

theorem within_monRelease {s : State} {b1 : Nat} {b2 : Nat} : Within mask_monRelease s (monRelease s b1 b2) := by
  unfold monRelease
  exact ((Within.refl mask_monRelease s).eachUpTo fun t0 x0 hl0 =>
    (Within.ite
      ((hl0.step within_setTpSel rfl).step within_State_setOwner rfl)
      hl0))

def mask_say : Nat := 0x2000000

theorem within_say {s : State} {b1 : Nat} {b2 : List Nat} : Within mask_say s (say s b1 b2) := by
  unfold say
  extract_lets -merge -useContext -underBinder v0
  exact ((Within.refl mask_say s).upd_svc rfl)

def mask_testNote : Nat := 0x2000000

theorem within_testNote {s : State} {b1 : List Int} {b2 : Bool} : Within mask_testNote s (testNote s b1 b2) := by
  unfold testNote
  extract_lets -merge -useContext -underBinder v0
  exact ((Within.refl mask_testNote s).upd_svc rfl)

def mask_testSay : Nat := 0x2000000

theorem within_testSay {s : State} {b1 : List Int} : Within mask_testSay s (testSay s b1) := by
  unfold testSay
  exact ((Within.refl mask_testSay s).step within_say rfl)

def mask_testOff : Nat := 0x8000000008000000000000006000000000000000000000000000000000000000000000000000000000000000000000000000000000000000000000000000000000000000000000000000000000000000000000000000000000002000000

theorem within_testOff {s : State} : Within mask_testOff s (testOff s) := by
  unfold testOff
  extract_lets -merge -useContext -underBinder v0 v1 v2
  exact (Within.ite
    ((Within.refl mask_testOff s).step within_setGcBit rfl)
    (Within.ite
      ((Within.refl mask_testOff s).step within_setGcBit rfl)
      (Within.ite
        ((Within.refl mask_testOff s).setBit key_FIO_FO_OUT rfl)
        (Within.ite
          ((Within.refl mask_testOff s).set (key_CAN_MODE _) rfl)
          (Within.ite
            ((Within.refl mask_testOff s).upd_svc rfl)
            (Within.refl mask_testOff s))))))

def mask_testRelease : Nat := 0x7c06008000000000000000000000000000000000000000000000000000000000000000000000000000000000000000000000000000000000000000000000000000000000000000000000000000000000000000000000000000000000000000000000000000000000000000000000000000000000000000000000000000000000001000

theorem within_testRelease {s : State} : Within mask_testRelease s (testRelease s) := by
  unfold testRelease
  extract_lets -merge -useContext -underBinder s0 v1
  have hs0 : Within mask_testRelease s s0 :=
    (((Within.refl mask_testRelease s).set key_TEST_TEST_OWN_DW rfl).setB key_TEST_M_TEST rfl)
  exact ((hs0.upd_saf rfl).step within_monRelease rfl)

def mask_testAbort : Nat := 0x7c264480000000000000000000000000000000000000000000000000000000000000000000080000000080002c79e003207f807c00000000000000000000000000000000017e00000800000000000000000273c0013d00000000047ffe03ffb0001fffff3e01ebff7e0000000000000000000000000000000000000000820002003d00

theorem within_testAbort {s : State} : Within mask_testAbort s (testAbort s) := by
  unfold testAbort
  extract_lets -merge -useContext -underBinder v0 s1 s2
  have hs1 : Within mask_testAbort s s1 :=
    ((Within.refl mask_testAbort s).eachAx fun t3 x3 hl3 =>
      (Within.ite
        (hl3.step within_axAsk rfl)
        hl3))
  have hs2 : Within mask_testAbort s s2 :=
    ((((hs1.step within_testOff rfl).setB key_TEST_TEST_RUN rfl).set key_TEST_TEST_RESULT rfl).step within_testRelease rfl)
  exact (Within.ite
    (Within.refl mask_testAbort s)
    (((hs2.count key_TEST_TEST_ABORT_CNT rfl).step within_safetyEval rfl).step within_galEval rfl))

def mask_speedGuard : Nat := 0x7c264480000000000000000000000000000000000000000000000000000000000000000000080000000080002c79e003207f807c00000000000000000000000000000000017e00000800000000000000000273c0013d00000000047ffe03ffb0001fffff3e01ebff7e0000000000000000000000000000000000000000820002003d00

theorem within_speedGuard {s : State} : Within mask_speedGuard s (speedGuard s) := by
  unfold speedGuard
  exact (Within.ite
    ((Within.refl mask_speedGuard s).step within_testAbort rfl)
    (Within.refl mask_speedGuard s))

def mask_enterRefuge : Nat := 0x3cfc26448000000220020000000008000000000000032c40028000000000000000000000000008000000c0f8592c79e203207f807c000380000023c0be07fe0020001f3ff6017e00000800000000000000000273c0013d00000000047ffe03ffb0001fffff3f01ebfffe000000000000000280000100001408001de00003820002c9bf00

theorem within_enterRefuge {s : State} {b1 : Nat} {b2 : Nat} {b3 : Nat} : Within mask_enterRefuge s (enterRefuge s b1 b2 b3) := by
  unfold enterRefuge
  extract_lets -merge -useContext -underBinder s0 v1 v2 s3 s4 s5 s6 s7 s8 s9 s10 v11 s12 v13 s14
  have hs0 : Within mask_enterRefuge s s0 :=
    ((Within.refl mask_enterRefuge s).step within_testAbort rfl)
  have hs3 : Within mask_enterRefuge s s3 :=
    (Within.ite
      (hs0.step within_State_event rfl)
      hs0)
  have hs4 : Within mask_enterRefuge s s4 :=
    (Within.ite
      hs3
      (hs3.step within_cairn rfl))
  have hs5 : Within mask_enterRefuge s s5 :=
    (Within.ite
      (hs4.step within_exportEnd rfl)
      hs4)
  have hs6 : Within mask_enterRefuge s s6 :=
    ((((hs5.setB key_SYS_REFUGE rfl).set key_SYS_REFUGE_STEP rfl).setB key_SYS_OPERABLE rfl).count key_SYS_REFUGE_CNT rfl)
  have hs7 : Within mask_enterRefuge s s7 :=
    (((hs6.set key_SYS_RF_STEP rfl).set key_SYS_RF_CODE rfl).set key_SYS_RF_DETAIL rfl)
  have hs8 : Within mask_enterRefuge s s8 :=
    (((hs7.set key_PWR_MODE rfl).setB key_PWR_ACT_RDY rfl).set key_CLK_APP_NOW rfl)
  have hs9 : Within mask_enterRefuge s s9 :=
    ((hs8.set key_FIO_FO_OUT rfl).set key_SAFM_SAF_STATE rfl)
  have hs10 : Within mask_enterRefuge s s10 :=
    ((hs9.setB key_ECHO_CONSIST_VALID rfl).setB key_ECHO_OWN_CONFLICT rfl)
  have hs12 : Within mask_enterRefuge s s12 :=
    (hs10.upd_echo rfl)
  have hs14 : Within mask_enterRefuge s s14 :=
    (hs12.upd_pwr rfl)
  exact (Within.ite
    (Within.refl mask_enterRefuge s)
    ((hs14.step within_domsOff rfl).step within_crawlFeed rfl))

def mask_monitorOn : Nat := 0x3cfc000000000000000000000000000000000000000000000000000000000000000000000000000000000000482c79e203207f807c000380000023c0be0020000000000000017e00000800000000000000000273c0013d00000000047ffe03ffb0001fffff3e01ebff7e0000000000000000000001000000000000200002820000403f00

theorem within_monitorOn {s : State} : Within mask_monitorOn s (monitorOn s) := by
  unfold monitorOn
  exact (((Within.refl mask_monitorOn s).step within_domsOn rfl).step within_evalAll rfl)

def mask_refugeStep2 : Nat := 0x3cfc26448000000220020000000008000000000000032c40028000000000000000000000000008000000c0f8592c79e203207f807c000380000023c0be07fe0020001f3ff6017e00000800000000000000000273c0013d00000000047ffe03ffb0001fffff3f01ebfffe000000000000000280000100001408001de00003820002c9bf00

theorem within_refugeStep2 {s : State} {b1 : Nat} {b2 : Nat} : Within mask_refugeStep2 s (refugeStep2 s b1 b2) := by
  unfold refugeStep2
  extract_lets -merge -useContext -underBinder s0
  have hs0 : Within mask_refugeStep2 s s0 :=
    ((Within.refl mask_refugeStep2 s).step within_enterRefuge rfl)
  exact (Within.ite
    hs0
    (hs0.step within_monitorOn rfl))

def mask_backupLost : Nat := 0x4000000000000000000000000000000000000000000000000000000000000000000000000000000000000000000000000000000000000000000000000000000000000000000000000000000000000000000000000000000000000000000000000000000000000000000000000000002003000000000000000000000000000000000000040001

theorem within_backupLost {s : State} : Within mask_backupLost s (backupLost s) := by
  unfold backupLost
  extract_lets -merge -useContext -underBinder v0 s1 s2
  have hs1 : Within mask_backupLost s s1 :=
    ((Within.refl mask_backupLost s).upd_tick_drip rfl rfl (Nat.mod_lt _ (by decide)))
  have hs2 : Within mask_backupLost s s2 :=
    (((hs1.setB key_DRIP_CAL_VALID rfl).setB key_DRIP_BK_LOST rfl).count key_DRIP_BK_LOSS_CNT rfl)
  exact (hs2.wipeSpaceTo mem_DRIP_1 rfl)

def mask_bgReload : Nat := 0x4400000000000000000000000000000000000000000000000000000000000000000000000000000000000000000000000000000000000000000000000000000000000000000000000

theorem within_bgReload {s : State} : Within mask_bgReload s (bgReload s) := by
  unfold bgReload
  exact ((Within.refl mask_bgReload s).eachDw fun t0 x0 hl0 =>
    (hl0.step within_setBg rfl))

def mask_startOver : Nat := 0x83ffffff

theorem within_startOver {s : State} : Within mask_startOver s (startOver s) :=
    { inv := fun h => ⟨rfl, (Memory.wf_filter h.2.1 : Memory.wf (s.mem.filter _) = true), Nat.zero_le _, h.2.2.2⟩
      member := rfl
      pending := rfl
      regs := fun _ _ hk => absurd (Or.inl rfl) hk
      tick := fun hb => absurd hb (by decide)
      fixed := fun hb => absurd hb (by decide)
      stage := fun hb => absurd hb (by decide)
      inds := fun hb => absurd hb (by decide)
      deferred := fun hb => absurd hb (by decide)
      mem := fun _ _ hk => absurd (.inl rfl) hk
      rdata := fun hb => absurd hb (by decide)
      scrubLog := fun hb => absurd hb (by decide)
      freeCtr := fun hb => absurd hb (by decide)
      pwr := fun hb => absurd hb (by decide)
      axes := fun hb => absurd hb (by decide)
      gal := fun hb => absurd hb (by decide)
      saf := fun hb => absurd hb (by decide)
      doors := fun hb => absurd hb (by decide)
      voteBad := fun hb => absurd hb (by decide)
      fq0 := fun hb => absurd hb (by decide)
      heads := fun hb => absurd hb (by decide)
      ingest := fun hb => absurd hb (by decide)
      drip := fun hb => absurd hb (by decide)
      flow := fun hb => absurd hb (by decide)
      fio := fun hb => absurd hb (by decide)
      cans := fun hb => absurd hb (by decide)
      nets := fun hb => absurd hb (by decide)
      echo := fun hb => absurd hb (by decide)
      dst := fun hb => absurd hb (by decide)
      svc := fun hb => absurd hb (by decide) }

def mask_restart : Nat := 0x40003cfc000000000000000000000000000000000000000000000000000000000000000000000000000000000000592c79e203207f807c00000000000004400020000000000000000000000000000000000000000000000000000000000000000000000000000000000000000000002003000000000001000000000000000002800083ffffff

theorem within_restart {s : State} {cause : Option Reg} {wake : Nat} : Within mask_restart s (restart s cause wake) := by
  unfold restart
  extract_lets -merge -useContext -underBinder t2 t3 t4 t5 t6 t7 r6
  have h1 : Within mask_restart s (startOver s) := (Within.refl mask_restart s).step within_startOver rfl
  have h2 : Within mask_restart s t2 := h1.foldl fun _ _ ht => ht.setIn (m := 2 ^ 31) (.inl rfl) rfl
  have h3 : Within mask_restart s t3 := (h2.setBIn (m := 2 ^ 31) (.inl rfl) rfl).setBIn (m := 2 ^ 31) (.inl rfl) rfl
  have h4 : Within mask_restart s t4 := by
    unfold t4; split
    · exact h3.setBIn (m := 2 ^ 31) (.inl rfl) rfl
    · exact h3
  have h5 : Within mask_restart s t5 := (h4.setIn (m := 2 ^ 31) (.inl rfl) rfl).setBIn (m := 2 ^ 31) (.inl rfl) rfl
  have h6 : Within mask_restart s t6 := h5.setBIn (m := 2 ^ 31) (.inl rfl) rfl
  have h7 : Within mask_restart s t7 := h6.step within_bgReload rfl
  exact Within.step (.ite ((h7.step within_backupLost rfl).upd_pwr rfl) h7) within_crawlFeed rfl

def mask_restartAsked : Nat := 0x40003cfc000000000000000000000000000000000000000000000000000000000000000000000000000000000000592c79e203207f807c00000000000004400020000000000000000000000000000000000000000000000000000000000000000000000000000000000000000000002003000000000001000000100000000002800083ffffff

theorem within_restartAsked {s : State} {cause : Reg} : WithinP mask_restartAsked s (restartAsked s cause) :=
  .ite (.mk ((Within.refl _ s).step within_restart rfl)) (.mk ((Within.refl _ s).count key_SYS_RST_REFUSE_CNT rfl))

end Sys2Proof.Machine
end

