-- ==== Sys2Proof/Laws/FrameTelegrams.lean ====
section
/-! SUPPORT. What each operation and meaning of Machine/Telegrams.lean can change: one mask and one lemma each. -/

set_option Elab.async false

namespace Sys2Proof.Machine

def mask_State_setStream : Nat := 0x1000000

theorem within_State_setStream {s : State} {b1 : Nat} {b2 : Stream} : Within mask_State_setStream s (State.setStream s b1 b2) := by
  unfold State.setStream
  extract_lets -merge -useContext -underBinder v0
  exact ((Within.refl mask_State_setStream s).upd_dst rfl)

def mask_dstShow : Nat := 0x1800000000000000000000000000000000000000000000000000000000000000000000000000000000000000000000000000000000000000000000000000000000000000000000000000000000000000000000000000008000000000000000000000000000000000000000000000000000

theorem within_dstShow {s : State} : Within mask_dstShow s (dstShow s) := by
  unfold dstShow
  extract_lets -merge -useContext -underBinder s0 s1
  have hs0 : Within mask_dstShow s s0 :=
    ((Within.refl mask_dstShow s).setB key_DST_ANY_UNSYNC rfl)
  have hs1 : Within mask_dstShow s s1 :=
    (hs0.setB key_DST_ONE_NET rfl)
  exact (hs1.setB key_SAFM_NET_RESTR rfl)

def mask_allRestrictive : Nat := 0x1f80000000000000000000000000000000000000000000000000000000000000000000000000000000000000000000000000000000000000000000000000000000000000000000000000000000000000000000000000000000000000000000000000000000000000000000000000000000000

theorem within_allRestrictive {s : State} {b1 : Nat} : Within mask_allRestrictive s (allRestrictive s b1) := by
  unfold allRestrictive
  split
  · rename_i w0
    exact (((Within.refl mask_allRestrictive s).setB key_DST_REL_L_TG rfl).setB key_DST_REL_R_TG rfl)
  · rename_i w1
    exact ((Within.refl mask_allRestrictive s).setB key_DST_ZS_TG rfl)
  · rename_i w2 e3 e4
    exact ((((Within.refl mask_allRestrictive s).set key_DST_OPEN_EN_TG rfl).set key_DST_INHIBIT_TG rfl).set key_DST_CLOSE_TG rfl)

def mask_tcfgCheck : Nat := 0x400000000000000000000000000000000000fffc1800000000000000000000000000000000000000000000000000000000000000000000000000000000000000000000000000000000000000000000000000000000000000000000000000000000000000000000000000008000000000000000000000000000000000000000000000000000

theorem within_tcfgCheck {s : State} : Within mask_tcfgCheck s (tcfgCheck s) := by
  unfold tcfgCheck
  extract_lets -merge -useContext -underBinder s0 v1 v2 s3 s4 s5 s6
  have hs0 : Within mask_tcfgCheck s s0 :=
    ((Within.refl mask_tcfgCheck s).copyBytesTo mem_DST_3 rfl)
  have hs3 : Within mask_tcfgCheck s s3 :=
    ((hs0.set key_DST_TCFG_CRC rfl).setB key_DST_CFG_OK rfl)
  have hs4 : Within mask_tcfgCheck s s4 :=
    ((hs3.set key_DST_OWN_UNIT rfl).set key_DST_CAN_SEL rfl)
  have hs5 : Within mask_tcfgCheck s s5 :=
    ((hs4.set key_DST_SEQ_WIN rfl).set key_DST_AGE_MAX_MS rfl)
  have hs6 : Within mask_tcfgCheck s s6 :=
    ((hs5.set key_DST_PERM_HOLD_MS rfl).set key_DST_NET_TMO_MS rfl)
  exact (Within.ite
    ((hs3.step within_allRestrictive rfl).step within_dstShow rfl)
    ((Within.ite
      (hs6.step within_allRestrictive rfl)
      hs6).step within_dstShow rfl))

def mask_tcfgEmpty : Nat := 0x100400000000000000000000000000000000000fffc1800000000000000000000000000000000000000000000000000000000000000000000000000000000000000000000000000000000000000000000000000000000000000000000000000000000000000000000000000008000000000000000000000000000000000000000000080000000

theorem within_tcfgEmpty {s : State} : Within mask_tcfgEmpty s (tcfgEmpty s) := by
  unfold tcfgEmpty
  extract_lets -merge -useContext -underBinder s0 s1
  have hs0 : Within mask_tcfgEmpty s s0 :=
    ((Within.refl mask_tcfgEmpty s).wipeSpaceTo mem_DST_2 rfl)
  have hs1 : Within mask_tcfgEmpty s s1 :=
    (hs0.foldl fun t2 x2 hl2 =>
      (hl2.setIn (m := 0x80000000) (.inl rfl) rfl))
  exact (((hs1.step within_allRestrictive rfl).step within_allRestrictive rfl).step within_tcfgCheck rfl)

def mask_lastDrop : Nat := 0x300000000000000000000000000000000000000000000000000000000000000000000000000000000000000000000000000000000000000000000000000000000000000000000000000000000000000000000000000000000000000000000000000000000000000000000000000000000000000

theorem within_lastDrop {s : State} {b1 : Nat} {b2 : Nat} : Within mask_lastDrop s (lastDrop s b1 b2) := by
  unfold lastDrop
  exact (((Within.refl mask_lastDrop s).set key_DST_LAST_DROP rfl).set key_DST_LAST_DROP_TYPE rfl)

def mask_dropReg : Nat := 0x1f000000000000000000000000000000000000000000000000000000000000000000000000000000000000000000000000000000000000000000000000000000000000000000000000000000000000000000000000000000000000000000000000000000000000000000000000000000000000000

theorem inregs_dropReg {b0 : Nat} : InRegs mask_dropReg (dropReg b0).key := by
  unfold dropReg
  repeat' split
  · exact .of1 892 key_DST_CRC_ERR_CNT rfl
  · exact .of1 893 key_DST_FOREIGN_CNT rfl
  · exact .of1 895 key_DST_JUMP_CNT rfl
  · exact .of1 896 key_DST_LATE_CNT rfl
  · exact .of1 894 key_DST_STALE_CNT rfl

def mask_dropCopy : Nat := 0x1f300000000000000000000000000000000000000000000000000000000000000000000000000000000000000000000000000000000000000000000000000000000000000000000000000000000000000000000000000000000000000000000000000000000000000000000000001000000000000

theorem within_dropCopy {s : State} {b1 : Nat} {b2 : Nat} : Within mask_dropCopy s (dropCopy s b1 b2) := by
  unfold dropCopy
  exact (((Within.refl mask_dropCopy s).countDropIn (m := 0x1f000000000000000000000000000000000000000000000000000000000000000000000000000000000000000000000000000000000000000000000000000000000000000000000000000000000000000000000000000000000000000000000000000000000000000000000000000000000000000) inregs_dropReg rfl rfl).step within_lastDrop rfl)

def mask_restrict : Nat := 0x1f80000000000000000000000000000000000000000000000000000000000000000000000000000000000000000000000000000000000000000000000000000000000000000000000000000000000000000000000000000000000000000000000000000000000000000000000000000000000

theorem within_restrict {s : State} {b1 : Nat} {b2 : List Nat} : Within mask_restrict s (restrict s b1 b2) := by
  unfold restrict
  split
  · rename_i w0
    extract_lets -merge -useContext -underBinder s1
    have hs1 : Within mask_restrict s s1 :=
      (Within.ite
        (Within.refl mask_restrict s)
        ((Within.refl mask_restrict s).setB key_DST_REL_L_TG rfl))
    exact (Within.ite
      hs1
      (hs1.setB key_DST_REL_R_TG rfl))
  · rename_i w2
    exact (Within.ite
      (Within.refl mask_restrict s)
      ((Within.refl mask_restrict s).setB key_DST_ZS_TG rfl))
  · rename_i w3 e4 e5
    extract_lets -merge -useContext -underBinder s6 s7
    have hs6 : Within mask_restrict s s6 :=
      ((Within.refl mask_restrict s).set key_DST_OPEN_EN_TG rfl)
    have hs7 : Within mask_restrict s s7 :=
      (hs6.set key_DST_INHIBIT_TG rfl)
    exact (hs7.set key_DST_CLOSE_TG rfl)

def mask_grant : Nat := 0x1f80000000000000000000000000000000000000000000000000000000000000000000000000000000000000000000000000000000000000000000000000000000000000000000000000000000000000000000000000000000000000000000000000000000000000000000000000000000000

theorem within_grant {s : State} {b1 : Nat} {b2 : List Nat} : Within mask_grant s (grant s b1 b2) := by
  unfold grant
  split
  · rename_i w0
    extract_lets -merge -useContext -underBinder s1
    have hs1 : Within mask_grant s s1 :=
      (Within.ite
        ((Within.refl mask_grant s).setB key_DST_REL_L_TG rfl)
        (Within.refl mask_grant s))
    exact (Within.ite
      (hs1.setB key_DST_REL_R_TG rfl)
      hs1)
  · rename_i w2
    exact (Within.ite
      ((Within.refl mask_grant s).setB key_DST_ZS_TG rfl)
      (Within.refl mask_grant s))
  · rename_i w3 e4 e5
    extract_lets -merge -useContext -underBinder s6 s7
    have hs6 : Within mask_grant s s6 :=
      ((Within.refl mask_grant s).set key_DST_OPEN_EN_TG rfl)
    have hs7 : Within mask_grant s s7 :=
      (hs6.set key_DST_INHIBIT_TG rfl)
    exact (hs7.set key_DST_CLOSE_TG rfl)

def mask_closePair : Nat := 0x20300000000000000000000000000000000000000000000000000000000000000000000000000000000000000000000000000000000000000000000000000000000000000000000000000000000000000000000000000000000000000000000000000000000000000000000000000000001000000

theorem within_closePair {s : State} {b1 : Nat} : Within mask_closePair s (closePair s b1) := by
  unfold closePair
  extract_lets -merge -useContext -underBinder v0
  split
  · rename_i w1 e2
    exact (Within.refl mask_closePair s)
  · rename_i w3 w4 e5
    exact (Within.ite
      (Within.refl mask_closePair s)
      ((((Within.refl mask_closePair s).step within_State_setStream rfl).count key_DST_SINGLE_CNT rfl).step within_lastDrop rfl))

def mask_pairDone : Nat := 0x40b01f80000000000000000000000000000000000000000000000000000000000000000000000000000000000000000000000000000000000000000000000000000000000000000000000000000000000000000000000000000000000000000000000000000000000000000000000000001000000

theorem within_pairDone {s : State} {b1 : Nat} {b2 : Pair} {b3 : List Nat} : Within mask_pairDone s (pairDone s b1 b2 b3) := by
  unfold pairDone
  extract_lets -merge -useContext -underBinder v0 v1 v2 v3 v4 s5 v6 s7
  have hs5 : Within mask_pairDone s s5 :=
    (((Within.refl mask_pairDone s).step within_State_setStream rfl).count key_DST_PAIR_CNT rfl)
  have hs7 : Within mask_pairDone s s7 :=
    (hs5.upd_dst rfl)
  exact (Within.ite
    ((((Within.refl mask_pairDone s).step within_State_setStream rfl).countBy key_DST_MISMATCH_CNT rfl).step within_lastDrop rfl)
    (Within.ite
      hs7
      (hs7.step within_grant rfl)))

def mask_validCopy : Nat := 0x60f01fbc000000000000000000000000000000000000000000000000000000000000000000000000000000000000000000000000000000000000000000000000000000000000000000000000000000000000000000000000000000000000000000000000000000000000000000000000001000000

theorem within_validCopy {s : State} {b1 : Nat} {b2 : Bool} {b3 : List Nat} : Within mask_validCopy s (validCopy s b1 b2 b3) := by
  unfold validCopy
  extract_lets -merge -useContext -underBinder s0 s1 s2 v3
  have hs0 : Within mask_validCopy s s0 :=
    ((Within.refl mask_validCopy s).count key_DST_RX_OK_CNT rfl)
  have hs1 : Within mask_validCopy s s1 :=
    (Within.ite
      ((hs0.setB key_DST_CAN_OK rfl).setB key_DST_CAN_LOST rfl)
      ((hs0.setB key_DST_ECN_OK rfl).setB key_DST_ECN_LOST rfl))
  have hs2 : Within mask_validCopy s s2 :=
    (hs1.step within_restrict rfl)
  split
  · rename_i w4 w5 e6
    extract_lets -merge -useContext -underBinder s7 v8
    have hs7 : Within mask_validCopy s s7 :=
      (hs2.step within_closePair rfl)
    exact (Within.ite
      (hs2.step within_pairDone rfl)
      (hs7.step within_State_setStream rfl))
  · rename_i w9 e10
    exact (hs2.step within_State_setStream rfl)

def mask_closeStale : Nat := 0x20300000000000000000000000000000000000000000000000000000000000000000000000000000000000000000000000000000000000000000000000000000000000000000000000000000000000000000000000000000000000000000000000000000000000000000000000000000001000000

theorem within_closeStale {s : State} {b1 : Nat} : Within mask_closeStale s (closeStale s b1) := by
  unfold closeStale
  split
  · rename_i w0 e1
    exact (Within.refl mask_closeStale s)
  · rename_i w2 w3 e4
    exact (Within.ite
      ((Within.refl mask_closeStale s).step within_closePair rfl)
      (Within.refl mask_closeStale s))

def mask_refugeReply : Nat := 0x1400000

theorem within_refugeReply {s : State} {b1 : Bool} : Within mask_refugeReply s (refugeReply s b1) := by
  unfold refugeReply
  extract_lets -merge -useContext -underBinder v0 v1 v2 s3 v4
  have hs3 : Within mask_refugeReply s s3 :=
    ((Within.refl mask_refugeReply s).upd_dst rfl)
  exact (Within.ite
    (Within.refl mask_refugeReply s)
    (Within.ite
      (hs3.step within_State_sendOn rfl)
      (hs3.step within_State_sendEcn rfl)))

def mask_copyRx : Nat := 0x3cfc0000000000000000000000000007ff01fbd8000000000000000000000000000000000000000000000000482c79e203207f807c000380000023c0be0020000000000000017e00000800000000000000000273c0013d00000000047ffe03ffb0001fffff3e01ebff7e8000000000000000820001000014000000200003820001403f00

theorem within_copyRx {s : State} {b1 : Bool} {b2 : List Nat} : Within mask_copyRx s (copyRx s b1 b2) := by
  unfold copyRx
  exact (Within.ite
    (Within.ite
      ((Within.refl mask_copyRx s).step within_refugeReply rfl)
      (Within.refl mask_copyRx s))
    (Within.ite
      (Within.refl mask_copyRx s)
      (by
        split
        · rename_i w0 w1 w2 e3
          exact ((Within.refl mask_copyRx s).step within_dropCopy rfl)
        · rename_i w4 w5 e6
          extract_lets -merge -useContext -underBinder v7 s8
          have hs8 : Within mask_copyRx s s8 :=
            ((Within.refl mask_copyRx s).step within_closeStale rfl)
          split
          · rename_i w9 w10 e11
            exact (hs8.step within_dropCopy rfl)
          · rename_i w12 e13
            extract_lets -merge -useContext -underBinder s14
            have hs14 : Within mask_copyRx s s14 :=
              (((hs8.step within_validCopy rfl).step within_dstShow rfl).step within_safetyEval rfl)
            exact (Within.ite
              (hs14.step within_enterActive rfl)
              (hs14.step within_parkSync rfl)) : Within mask_copyRx s _)))

def mask_execSafeCopyRx : Nat := 0x3cfc0000000000000000000000000007ff01fbd8000000000000000000000000000000000000000000000000482c79e203207f807c000380000023c0be0020000000000000017e00000800000000000000000273c0013d00000000047ffe03ffb0001fffff3e01ebff7e8000000000000000820001000014000000200003820001403f00

theorem within_execSafeCopyRx {b0 : Bool} {b1 : List Nat} {s : State} : WithinO mask_execSafeCopyRx s (execSafeCopyRx b0 b1 s) := by
  unfold execSafeCopyRx
  exact (WithinO.next ((Within.refl mask_execSafeCopyRx s).step within_copyRx rfl))

def mask_execPairTimeout : Nat := 0x20300000000000000000000000000000000000000000000000000000000000000000000000000000000000000000000000000000000000000000000000000000000000000000000000000000000000000000000000000000000000000000000000000000000000000000000000000000001000000

theorem within_execPairTimeout {b0 : Fin 3} {s : State} : WithinO mask_execPairTimeout s (execPairTimeout b0 s) := by
  unfold execPairTimeout
  exact (WithinO.next (Within.ite
    ((Within.refl mask_execPairTimeout s).step within_closePair rfl)
    (Within.refl mask_execPairTimeout s)))

def mask_execPermissiveLapse : Nat := 0x80001f800000000000000000000000000000000000000000000000000002c79e0032079807c00000000000000000000000000000000017e00000800000000000000000273c0013d00000000047ffe03ffb0001fffff3e01ebff7e0000000000000000020000000000000000000000820000003f00

theorem within_execPermissiveLapse {b0 : Fin 3} {s : State} : WithinO mask_execPermissiveLapse s (execPermissiveLapse b0 s) := by
  unfold execPermissiveLapse
  exact (WithinO.ite
    (WithinO.next (Within.refl mask_execPermissiveLapse s))
    (WithinO.next (((((Within.refl mask_execPermissiveLapse s).countBy key_DST_LAPSE_CNT rfl).step within_allRestrictive rfl).step within_safetyEval rfl).step within_parkSync rfl)))

def mask_execStreamUnsync : Nat := 0x1800000000000000000000000000000000000000000000000000000000000000000000000000000000000000000000000000000000000000000000000000000000000000000000000000000000000000000000000000008000000000000000000000000000000000000000000001000000

theorem within_execStreamUnsync {b0 : Fin 3} {s : State} : WithinO mask_execStreamUnsync s (execStreamUnsync b0 s) := by
  unfold execStreamUnsync
  extract_lets -merge -useContext -underBinder v0
  exact (WithinO.next (Within.ite
    (((Within.refl mask_execStreamUnsync s).step within_State_setStream rfl).step within_dstShow rfl)
    (Within.refl mask_execStreamUnsync s)))

def mask_execNetworkLost : Nat := 0x100001fbf8000000000000000000000000000000000000000000000000002c79e0032079807c00000000000000000000000000000000017e00000800000000000000000273c0013d00000000047ffe03ffb0001fffff3e01ebff7e8000000000000000000000000000000000000000820001003d00

theorem within_execNetworkLost {b0 : Bool} {s : State} : WithinO mask_execNetworkLost s (execNetworkLost b0 s) := by
  unfold execNetworkLost
  extract_lets -merge -useContext -underBinder v0 s1 v2 s3 s4
  have hs1 : Within mask_execNetworkLost s s1 :=
    ((((Within.refl mask_execNetworkLost s).setBIn (m := 0xc000000000000000000000000000000000000000000000000000000000000000000000000000000000000000000000000000000000000000000000000000000000000000000000000000000000000000000000000000000000000000000000000000000000000000000000000000000000) (InRegs.ite (m := 0xc000000000000000000000000000000000000000000000000000000000000000000000000000000000000000000000000000000000000000000000000000000000000000000000000000000000000000000000000000000000000000000000000000000000000000000000000000000000) (.of1 870 key_DST_CAN_LOST rfl) (.of1 871 key_DST_ECN_LOST rfl)) rfl).setBIn (m := 0x30000000000000000000000000000000000000000000000000000000000000000000000000000000000000000000000000000000000000000000000000000000000000000000000000000000000000000000000000000000000000000000000000000000000000000000000000000000000) (InRegs.ite (m := 0x30000000000000000000000000000000000000000000000000000000000000000000000000000000000000000000000000000000000000000000000000000000000000000000000000000000000000000000000000000000000000000000000000000000000000000000000000000000000) (.of1 872 key_DST_CAN_OK rfl) (.of1 873 key_DST_ECN_OK rfl)) rfl).count key_DST_NET_LOSS_CNT rfl)
  have hs3 : Within mask_execNetworkLost s s3 :=
    (hs1.upd_dst rfl)
  have hs4 : Within mask_execNetworkLost s s4 :=
    ((hs3.setB key_DST_NET_RESTR rfl).foldl fun t5 x5 hl5 =>
      (Within.ite
        (hl5.step within_allRestrictive rfl)
        hl5))
  exact (WithinO.ite
    (WithinO.next (Within.refl mask_execNetworkLost s))
    (WithinO.ite
      (WithinO.next ((hs4.step within_dstShow rfl).step within_safetyEval rfl))
      (WithinO.next (hs3.step within_dstShow rfl))))

def mask_execNetRestrEnd : Nat := 0x38000000000000000000000000000000000000000000000000002c79e0032079807c00000000000000000000000000000000017e00000800000000000000000273c0013d00000000047ffe03ffb0001fffff3e01ebff7e8000000000000000000000000000000000000000820000003d00

theorem within_execNetRestrEnd {s : State} : WithinO mask_execNetRestrEnd s (execNetRestrEnd s) := by
  unfold execNetRestrEnd
  exact (WithinO.ite
    (WithinO.next (Within.refl mask_execNetRestrEnd s))
    (WithinO.next ((((Within.refl mask_execNetRestrEnd s).setB key_DST_NET_RESTR rfl).step within_dstShow rfl).step within_safetyEval rfl)))

def mask_canCopy : Nat := 0x20000000000000000000000000000000040000000000000000000000000000000001000016188000000fe00000000000000000000000000000000000000000000000000000000000000000000000000000000000000000000000000000000000000000000000000000000000000000000000000000000000000000000000000000000200000

theorem within_canCopy {s : State} {b1 : Nat} {b2 : List Nat} : Within mask_canCopy s (canCopy s b1 b2) := by
  unfold canCopy
  extract_lets -merge -useContext -underBinder v0 s1 v2 v3 s4 s5 s6
  have hs1 : Within mask_canCopy s s1 :=
    (Within.ite
      (WithinP.fst ((Within.refl mask_canCopy s).stepP within_txRelease rfl))
      (Within.refl mask_canCopy s))
  have hs4 : Within mask_canCopy s s4 :=
    (hs1.wrBytesTo (mem_CAN_1 _) rfl)
  have hs5 : Within mask_canCopy s s5 :=
    (hs4.step within_ramWr rfl)
  have hs6 : Within mask_canCopy s s6 :=
    (hs5.step within_ramWr rfl)
  split
  · rename_i p7 q8 w9 e10
    have hq8 : Within mask_canCopy s q8 := .of_eq e10 (hs6.stepP within_txPush rfl)
    exact (Within.ite
      (hq8.count key_DST_TX_LOST_CNT rfl)
      hq8)

def mask_execDoorStatusSend : Nat := 0x20000000000000000000000000000000060000000000000000000000000000000001000016188000000fe00000000000000000000000000000000000000000000000000000000000000000000000000000000000000000000000000000000000000000000000000000000000000000000000000000000000000000000000000000001600000

theorem within_execDoorStatusSend {s : State} : WithinO mask_execDoorStatusSend s (execDoorStatusSend s) := by
  unfold execDoorStatusSend
  extract_lets -merge -useContext -underBinder v0 v1 s2 v3 s4 v5 s6
  have hs2 : Within mask_execDoorStatusSend s s2 :=
    ((Within.refl mask_execDoorStatusSend s).count key_DST_TX_CNT rfl)
  have hs4 : Within mask_execDoorStatusSend s s4 :=
    (hs2.upd_dst rfl)
  have hs6 : Within mask_execDoorStatusSend s s6 :=
    (Within.ite
      hs4
      (Within.ite
        (hs4.step within_State_sendEcn rfl)
        (hs4.count key_DST_TX_LOST_CNT rfl)))
  exact (WithinO.ite
    (WithinO.next (Within.refl mask_execDoorStatusSend s))
    (WithinO.next (Within.ite
      hs6
      (by
        split
        · rename_i w7 w8 e9
          exact (hs6.step within_canCopy rfl)
        · rename_i w10 e11
          exact (hs6.count key_DST_TX_LOST_CNT rfl) : Within mask_execDoorStatusSend s _))))

def mask_execSafeCanConfigure : Nat := 0x80000000000000000000000010000160087fffb8fe2000000000000000000000000000000000000000000000000000000000000000000000000000000000000000000000000000000000000000000000000000000000000000000000000000000000000000000000000800c000800000

theorem within_execSafeCanConfigure {s : State} : WithinO mask_execSafeCanConfigure s (execSafeCanConfigure s) := by
  unfold execSafeCanConfigure
  extract_lets -merge -useContext -underBinder v0 v1 v2 v3 s4 s5 s6 s7 s8 s9 s10 s11 s12 s13
  have hs4 : Within mask_execSafeCanConfigure s s4 :=
    (((((Within.refl mask_execSafeCanConfigure s).set (key_CAN_MODE _) rfl).setB (key_CAN_FD_EN _) rfl).setB (key_CAN_XL_EN _) rfl).setB (key_CAN_PEX _) rfl)
  have hs5 : Within mask_execSafeCanConfigure s s5 :=
    (((hs4.setB (key_CAN_AUTO_REC _) rfl).setB (key_CAN_TDC_EN _) rfl).setB (key_CAN_TERM _) rfl)
  have hs6 : Within mask_execSafeCanConfigure s s6 :=
    (((hs5.set (key_CAN_N_BRP _) rfl).set (key_CAN_N_TSEG1 _) rfl).set (key_CAN_N_TSEG2 _) rfl)
  have hs7 : Within mask_execSafeCanConfigure s s7 :=
    (hs6.set (key_CAN_N_SJW _) rfl)
  have hs8 : Within mask_execSafeCanConfigure s s8 :=
    (((hs7.set (key_CAN_D_BRP _) rfl).set (key_CAN_D_TSEG1 _) rfl).set (key_CAN_D_TSEG2 _) rfl)
  have hs9 : Within mask_execSafeCanConfigure s s9 :=
    ((hs8.set (key_CAN_D_SJW _) rfl).set (key_CAN_X_TIMING _) rfl)
  have hs10 : Within mask_execSafeCanConfigure s s10 :=
    (WithinP.fst ((WithinP.fst ((WithinP.fst (hs9.stepP within_nominalFix rfl)).stepP within_fdFix rfl)).stepP within_xlFix rfl))
  have hs11 : Within mask_execSafeCanConfigure s s11 :=
    ((hs10.set (key_CAN_TDC_OFS_D _) rfl).set (key_CAN_TDC_OFS_X _) rfl)
  have hs12 : Within mask_execSafeCanConfigure s s12 :=
    (hs11.set (key_CAN_TX_AREA_BLK _) rfl)
  have hs13 : Within mask_execSafeCanConfigure s s13 :=
    (((hs12.setB (key_HDR_LP_REQ _) rfl).setB (key_HDR_EN _) rfl).setB (key_CAN_SAFE_CH _) rfl)
  exact (WithinO.ite
    (WithinO.next (Within.refl mask_execSafeCanConfigure s))
    (WithinO.next (((hs13.setB (key_HDR_SAFE_LOCK _) rfl).step within_canShow rfl).step within_versionsAgain rfl)))

def mask_execCanFrameRx : Nat := 0x2003cfc0000000000000000000000000007ff01fbd8000000000000000000000007f9f801fb8f000000ff100000482c79e203207f807c000380000023c0be0020000000000000017e00000800000000000000000273c0013d00000000047ffe03ffb0001fffff3e01ebff7e8000000000000000820001000014000000200003820001603f00

theorem within_execCanFrameRx {b0 : Fin 4} {b1 : Sys2Proof.CanFrame} {b2 : Nat} {s : State} : WithinO mask_execCanFrameRx s (execCanFrameRx b0 b1 b2 s) := by
  unfold execCanFrameRx
  split
  · rename_i p0 q1 w2 e3
    have hq1 : Within mask_execCanFrameRx s q1 := .of_eq e3 ((Within.refl mask_execCanFrameRx s).stepP within_canReceive rfl)
    extract_lets -merge -useContext -underBinder v4
    exact (WithinO.next (Within.ite
      (hq1.step within_copyRx rfl)
      hq1))

def mask_execEcnFrameRx : Nat := 0x4003cfc0000000000000000000000000007ff01fbd8000000000000000001f20000000000000000000000000000482c79e203207f807c000380000023c0be0020000000000000017e00000800000000000000000273c0013d00000000047ffe03ffb0001fffff3e01ebff7e8000000000000000820001000014000000200003820001403f00

theorem within_execEcnFrameRx {b0 : Fin 2} {b1 : Sys2Proof.EcnFrame} {b2 : Word} {b3 : Bool} {s : State} : WithinO mask_execEcnFrameRx s (execEcnFrameRx b0 b1 b2 b3 s) := by
  unfold execEcnFrameRx
  extract_lets -merge -useContext -underBinder v0
  split
  · rename_i p1 q2 w3 e4
    have hq2 : Within mask_execEcnFrameRx s q2 := .of_eq e4 ((Within.refl mask_execEcnFrameRx s).stepP within_ecnReceive rfl)
    exact (WithinO.next (by
      split
      · rename_i w5 w6 w7 e8
        exact (Within.ite
          (hq2.step within_copyRx rfl)
          hq2)
      · rename_i w9 e10
        exact hq2 : Within mask_execEcnFrameRx s _))

end Sys2Proof.Machine
end

