-- ==== Sys2Proof/Laws/FrameSafetyCh.lean ====
section
/-! SUPPORT. What each operation and meaning of Machine/SafetyCh.lean can change: one mask and one lemma each. -/

set_option Elab.async false

namespace Sys2Proof.Machine

def mask_latchSet : Nat := 0x200000000000000000000000000000000000000000000000000000000000000000000000000000000000000000000000000000000000000000000000000000000000000000000000000000000000000000000000000000000000020000000000400000000000000000000000000000000000000000001000000008000

theorem within_latchSet {s : State} {b1 : Sys2Proof.Channel} {b2 : Nat} : Within mask_latchSet s (latchSet s b1 b2) := by
  unfold latchSet
  extract_lets -merge -useContext -underBinder s0
  have hs0 : Within mask_latchSet s s0 :=
    ((Within.refl mask_latchSet s).step within_setLatch rfl)
  exact (Within.ite
    (Within.refl mask_latchSet s)
    (hs0.step within_State_event rfl))

def mask_discCount : Nat := 0x2000000000040000000000000000000000000000000000000000000000800000000000

theorem within_discCount {s : State} {b1 : Sys2Proof.Channel} : Within mask_discCount s (discCount s b1) := by
  unfold discCount
  split
  · rename_i w0
    exact ((Within.refl mask_discCount s).countFault key_SAFM_DISC_SAF_CNT rfl rfl)
  · rename_i w1
    exact ((Within.refl mask_discCount s).countFault key_COLM_DISC_COL_CNT rfl rfl)

def mask_safetyReact : Nat := 0x7c264480000000000000000000000000000000000000000000000000000000000000000000080000000080002c79e003207f807c000380000123c4fe0000000000000000017e00000800000000000000000273c0013d00000000047ffe03ffb0001fffff3e01ebff7e0000000000000000020000000000000000200000820002013f00

theorem within_safetyReact {s : State} : Within mask_safetyReact s (safetyReact s) := by
  unfold safetyReact
  exact ((((((Within.refl mask_safetyReact s).step within_safetyEval rfl).step within_speedGuard rfl).step within_visionEval rfl).step within_bgWatch rfl).step within_parkSync rfl)

def mask_twoHand : Nat := 0x1000

theorem within_twoHand {s : State} {b1 : Sys2Proof.Channel} : Within mask_twoHand s (twoHand s b1) := by
  unfold twoHand
  extract_lets -merge -useContext -underBinder v0 f1 s2 v3 v4 v5 v6
  have hs2 : Within mask_twoHand s s2 :=
    ((Within.refl mask_twoHand s).step within_State_setChan rfl)
  exact (Within.ite
    (hs2.step within_State_setChan rfl)
    (Within.ite
      (Within.ite
        hs2
        (hs2.step within_State_setChan rfl))
      (Within.ite
        (hs2.step within_State_setChan rfl)
        (hs2.step within_State_setChan rfl))))

def mask_watchArm : Nat := 0x1000

theorem within_watchArm {b0 : State} {s : State} : Within mask_watchArm s (watchArm b0 s) := by
  unfold watchArm
  exact ((Within.refl mask_watchArm s).eachDw fun t0 x0 hl0 =>
    (by
      extract_lets -merge -useContext -underBinder v1 v2 f3 v4
      exact (Within.ite
        (hl0.upd_saf rfl)
        hl0) : Within mask_watchArm s _))

def mask_releaseEdge : Nat := 0x3cfc000000000000000000000000000000000000000000000000000000000000000000000000000000000000482c79e203207f807c000380000023c0be0020000000000000017e00000800000000000000000273c0013d00000000047ffe03ffb0001fffff3e01ebff7e0000000000000000800001000014000000200002820000403f00

theorem within_releaseEdge {s : State} {b1 : Sys2Proof.Channel} {b2 : Sys2Proof.Input} {b3 : Bool} : Within mask_releaseEdge s (releaseEdge s b1 b2 b3) := by
  unfold releaseEdge
  extract_lets -merge -useContext -underBinder v0
  clear_value v0
  split
  · rename_i w1
    exact (Within.refl mask_releaseEdge s)
  · rename_i w2 w3
    extract_lets -merge -useContext -underBinder v4 v5 v6
    exact (Within.ite
      (Within.ite
        (Within.refl mask_releaseEdge s)
        (((Within.refl mask_releaseEdge s).upd_saf rfl).step within_enterActive rfl))
      (Within.ite
        ((Within.refl mask_releaseEdge s).upd_saf rfl)
        (Within.refl mask_releaseEdge s)))

def mask_edmChanged : Nat := 0xc0000000000000000000000000000000000000000000000000000000000000001000

theorem within_edmChanged {s : State} {b1 : Sys2Proof.Channel} {b2 : Bool} : Within mask_edmChanged s (edmChanged s b1 b2) := by
  unfold edmChanged
  extract_lets -merge -useContext -underBinder v0 s1 v2 s3 v4
  have hs1 : Within mask_edmChanged s s1 :=
    (Within.ite
      ((Within.refl mask_edmChanged s).setSatIn (m := 0xc0000000000000000000000000000000000000000000000000000000000000000000) (InRegs.ite (m := 0xc0000000000000000000000000000000000000000000000000000000000000000000) (.of1 239 key_COLM_EDM_B_MS rfl) (.of1 238 key_COLM_EDM_A_MS rfl)) rfl)
      (Within.refl mask_edmChanged s))
  have hs3 : Within mask_edmChanged s s3 :=
    (Within.ite
      (hs1.upd_saf rfl)
      hs1)
  exact (hs3.step within_State_setChan rfl)

def mask_estopLatch : Nat := 0x200000000000000000000000000000000000000000000000000000000000000000000000000000000000000000000000000000000000000000000000000000000000000000000000000000000000000000000000000000000000020000000020400000000000000000000000000000000000000000001000000008000

theorem within_estopLatch {b0 : State} {s : State} {b2 : Sys2Proof.Channel} : Within mask_estopLatch s (estopLatch b0 s b2) := by
  unfold estopLatch
  extract_lets -merge -useContext -underBinder s0
  have hs0 : Within mask_estopLatch s s0 :=
    (Within.ite
      ((Within.refl mask_estopLatch s).count key_SAFM_ESTOP_CNT rfl)
      (Within.refl mask_estopLatch s))
  exact (Within.ite
    (Within.refl mask_estopLatch s)
    (hs0.step within_latchSet rfl))

def mask_testGuard : Nat := 0x7c264480000000000000000000000000000000000000000000000000000000000000000000080000000080002c79e003207f807c00000000000000000000000000000000017e00000800000000000000000273c0013d00000000047ffe03ffb0001fffff3e01ebff7e0000000000000000000000000000000000000000820002003d00

theorem within_testGuard {b0 : State} {s : State} : Within mask_testGuard s (testGuard b0 s) := by
  unfold testGuard
  exact (Within.ite
    ((Within.refl mask_testGuard s).step within_testAbort rfl)
    (Within.refl mask_testGuard s))

def mask_inputAccepted : Nat := 0x3cfc264480000002000000000000000000000000000000000000000000000000000000000000080000000080482c79e203207f807c000380000123c4fe0020000000000000017e00000800000000000000000273c0013d00000000047ffe03ffb000ffffff3e03efff7e000000000000000082000100001400000020000382000241bf00

theorem within_inputAccepted {s : State} {b1 : Sys2Proof.Channel} {b2 : Sys2Proof.Input} {b3 : Sys2Proof.Level} : Within mask_inputAccepted s (inputAccepted s b1 b2 b3) := by
  unfold inputAccepted
  extract_lets -merge -useContext -underBinder v0 s1 v2 s3 s4 s5 s6
  have hs1 : Within mask_inputAccepted s s1 :=
    ((Within.refl mask_inputAccepted s).step within_State_setChan rfl)
  have hs3 : Within mask_inputAccepted s s3 :=
    (Within.ite
      (hs1.step within_edmChanged rfl)
      (Within.ite
        (hs1.step within_edmChanged rfl)
        hs1))
  have hs4 : Within mask_inputAccepted s s4 :=
    (hs3.step within_estopLatch rfl)
  have hs5 : Within mask_inputAccepted s s5 :=
    (hs4.step within_twoHand rfl)
  have hs6 : Within mask_inputAccepted s s6 :=
    (Within.ite
      (hs5.step within_watchArm rfl)
      hs5)
  exact (Within.ite
    (Within.refl mask_inputAccepted s)
    (((hs6.step within_releaseEdge rfl).step within_testGuard rfl).step within_safetyReact rfl))

def mask_execInputAccepted : Nat := 0x3cfc264480000002000000000000000000000000000000000000000000000000000000000000080000000080482c79e203207f807c000380000123c4fe0020000000000000017e00000800000000000000000273c0013d00000000047ffe03ffb000ffffff3e03efff7e000000000000000082000100001400000020000382000241bf00

theorem within_execInputAccepted {b0 : Sys2Proof.Channel} {b1 : Sys2Proof.Input} {b2 : Sys2Proof.Level} {s : State} : WithinO mask_execInputAccepted s (execInputAccepted b0 b1 b2 s) := by
  unfold execInputAccepted
  exact (WithinO.next ((Within.refl mask_execInputAccepted s).step within_inputAccepted rfl))

def mask_execChannelExchange : Nat := 0x7c264480000000000000000000000000000000000000000000000000000000000000000000080000000080002c79e003207f807c000380000123c4fe0000000000000000017e00000800000000000000000273c0013d00000000047ffe03ffb0001fffff3e01ebff7e0000000000000000020000000000000000200000820002013f00

theorem within_execChannelExchange {s : State} : WithinO mask_execChannelExchange s (execChannelExchange s) := by
  unfold execChannelExchange
  exact (WithinO.next (Within.ite
    ((Within.refl mask_execChannelExchange s).step within_safetyReact rfl)
    (Within.refl mask_execChannelExchange s)))

def mask_execInputDiscLatch : Nat := 0x7c264480000002000000000000000000000000000000000000000000000000000000000000080000000080002c79e003207f807c000380000123c4fe0000000000000000017e00000800000000000000000273c0013d00000000047ffe03ffb0203fffff3e07efff7e000000000000000002000000000000000020000182000201bf00

theorem within_execInputDiscLatch {b0 : Sys2Proof.Input} {s : State} : WithinO mask_execInputDiscLatch s (execInputDiscLatch b0 s) := by
  unfold execInputDiscLatch
  extract_lets -merge -useContext -underBinder f0 v1 s2 s3 s4 s5 s6
  have hs2 : Within mask_execInputDiscLatch s s2 :=
    ((Within.refl mask_execInputDiscLatch s).upd_saf rfl)
  have hs3 : Within mask_execInputDiscLatch s s3 :=
    (Within.ite
      hs2
      (hs2.step within_discCount rfl))
  have hs4 : Within mask_execInputDiscLatch s s4 :=
    (Within.ite
      hs3
      (hs3.step within_discCount rfl))
  have hs5 : Within mask_execInputDiscLatch s s5 :=
    ((hs4.step within_latchSet rfl).step within_latchSet rfl)
  have hs6 : Within mask_execInputDiscLatch s s6 :=
    ((hs5.step within_estopLatch rfl).step within_estopLatch rfl)
  exact (WithinO.ite
    (WithinO.next (Within.refl mask_execInputDiscLatch s))
    (WithinO.next (((((hs6.step within_twoHand rfl).step within_twoHand rfl).step within_watchArm rfl).step within_testGuard rfl).step within_safetyReact rfl)))

def mask_edmLatch : Nat := 0x200000000000000000000000000000000000000000000000000000000000000000000000000000000000000000000000000000000000000000000000000000000000000000000000000000000000000000000000000000000001020000000000400000000000000000000000000000000000000000001800000008000

theorem within_edmLatch {s : State} : Within mask_edmLatch s (edmLatch s) := by
  unfold edmLatch
  extract_lets -merge -useContext -underBinder s0
  have hs0 : Within mask_edmLatch s s0 :=
    (Within.ite
      (Within.refl mask_edmLatch s)
      ((Within.refl mask_edmLatch s).countFault key_COLM_EDM_FAULT_CNT rfl rfl))
  exact ((hs0.step within_latchSet rfl).step within_latchSet rfl)

def mask_execPairDiscrepancyLatch : Nat := 0x7c264480000002000000000000000000000000000000000000000000000000000000000000080000000080002c79e003207f807c000380000123c4fe0000000000000000017e00000800000000000000000273c0013d00000000047ffe03ffb0303fffff3e05ffff7e000000000000000002000000000000000020000182000201bf00

theorem within_execPairDiscrepancyLatch {b0 : Sys2Proof.Channel} {b1 : Sys2Proof.Pairing} {s : State} : WithinO mask_execPairDiscrepancyLatch s (execPairDiscrepancyLatch b0 b1 s) := by
  unfold execPairDiscrepancyLatch
  extract_lets -merge -useContext -underBinder v0 s1 s2
  have hs1 : Within mask_execPairDiscrepancyLatch s s1 :=
    (Within.ite
      ((Within.refl mask_execPairDiscrepancyLatch s).count key_COLM_DISC_COL_CNT rfl)
      ((Within.refl mask_execPairDiscrepancyLatch s).step within_discCount rfl))
  have hs2 : Within mask_execPairDiscrepancyLatch s s2 := by
    unfold s2
    split
    · rename_i w3
      extract_lets -merge -useContext -underBinder v4
      exact ((hs1.upd_saf rfl).step within_edmLatch rfl)
    · rename_i w5 w6
      exact ((Within.ite
        (hs1.setBit key_SAFM_LC_DISC_M rfl)
        hs1).step within_latchSet rfl)
    · rename_i w7 w8
      extract_lets -merge -useContext -underBinder v9
      exact ((hs1.step within_State_setChan rfl).step within_latchSet rfl)
    · rename_i w10 e11 e12 e13
      exact (hs1.step within_latchSet rfl)
  exact (WithinO.ite
    (WithinO.next (Within.refl mask_execPairDiscrepancyLatch s))
    (WithinO.next (hs2.step within_safetyReact rfl)))

def mask_execTwoHandButtonFault : Nat := 0x7c264480000000000000000000000000000000000000000000000000000000000000000000080000000080002c79e003207f807c000380000123c4fe0000000000000000017e00000800000000000000000273c0013d00000000047ffe03ffb0201fffff3e05ebff7e0000000000000000020000000000000000200000820002013f00

theorem within_execTwoHandButtonFault {b0 : Sys2Proof.Channel} {b1 : Bool} {s : State} : WithinO mask_execTwoHandButtonFault s (execTwoHandButtonFault b0 b1 s) := by
  unfold execTwoHandButtonFault
  extract_lets -merge -useContext -underBinder v0 s1
  have hs1 : Within mask_execTwoHandButtonFault s s1 :=
    (((Within.refl mask_execTwoHandButtonFault s).step within_State_setChan rfl).step within_discCount rfl)
  exact (WithinO.ite
    (WithinO.next (Within.refl mask_execTwoHandButtonFault s))
    (WithinO.next ((hs1.step within_twoHand rfl).step within_safetyReact rfl)))

def mask_execTwoHandWindowExpiry : Nat := 0x1000

theorem within_execTwoHandWindowExpiry {b0 : Sys2Proof.Channel} {s : State} : WithinO mask_execTwoHandWindowExpiry s (execTwoHandWindowExpiry b0 s) := by
  unfold execTwoHandWindowExpiry
  extract_lets -merge -useContext -underBinder v0
  exact (WithinO.next (Within.ite
    (Within.refl mask_execTwoHandWindowExpiry s)
    ((Within.refl mask_execTwoHandWindowExpiry s).step within_State_setChan rfl)))

def mask_execHeartbeatLost : Nat := 0x3cfc26448000000220020000000008000000000000032c40028000000000000000000000000008000000c0f8592c79e203207f807c000380000023c0be07fe0020001f3ff6017e00000800000000000000000273c0013d00000000047ffe03ffb0001fffff3f01ebfffe000000000000000280000100001408001de00003820002c9bf00

theorem within_execHeartbeatLost {b0 : Sys2Proof.Channel} {s : State} : WithinO mask_execHeartbeatLost s (execHeartbeatLost b0 s) := by
  unfold execHeartbeatLost
  extract_lets -merge -useContext -underBinder v0
  split
  · rename_i w1
    extract_lets -merge -useContext -underBinder v2
    exact (WithinO.next (Within.ite
      (((Within.refl mask_execHeartbeatLost s).upd_saf rfl).step within_enterRefuge rfl)
      (Within.refl mask_execHeartbeatLost s)))
  · rename_i w3
    extract_lets -merge -useContext -underBinder s4 v5
    have hs4 : Within mask_execHeartbeatLost s s4 :=
      (Within.ite
        ((Within.refl mask_execHeartbeatLost s).setB key_COLM_SP_HB_OK rfl)
        (Within.refl mask_execHeartbeatLost s))
    exact (WithinO.next (Within.ite
      ((hs4.upd_saf rfl).step within_enterRefuge rfl)
      hs4))

def mask_execReversalWatchFail : Nat := 0x7c264480000002000000000000000000000000000000000000000000000000000000000000080000000080002c79e003207f807c000380000123c4fe0000000000000000017e00000800000000000000000273c0013d00000000047ffe03ffb0083fffffbe01efff7e000000000000000002000000000000000020000182000201bf00

theorem within_execReversalWatchFail {b0 : Fin 8} {s : State} : WithinO mask_execReversalWatchFail s (execReversalWatchFail b0 s) := by
  unfold execReversalWatchFail
  extract_lets -merge -useContext -underBinder v0 s1 s2
  have hs1 : Within mask_execReversalWatchFail s s1 :=
    ((Within.refl mask_execReversalWatchFail s).upd_saf rfl)
  have hs2 : Within mask_execReversalWatchFail s s2 :=
    ((hs1.setBit key_COLM_RW_MASK rfl).countFault key_COLM_RW_TRIP_CNT rfl rfl)
  exact (WithinO.ite
    (WithinO.next (Within.refl mask_execReversalWatchFail s))
    (WithinO.next ((hs2.step within_latchSet rfl).step within_safetyReact rfl)))

def mask_execGuidedContactFault : Nat := 0x3cfc26448000000220020000000008000000000000032c40028000000000000000000000000008000000c0f8592c79e203207f807c000380000023c0be07fe0020001f3ff6017e00000800000000000000000273c0013d00000000047ffe03ffb0001fffff3f01ebfffe000000000000000280000100001408001de00003820002c9bf00

theorem within_execGuidedContactFault {b0 : Bool} {s : State} : WithinO mask_execGuidedContactFault s (execGuidedContactFault b0 s) := by
  unfold execGuidedContactFault
  extract_lets -merge -useContext -underBinder v0 s1 v2
  have hs1 : Within mask_execGuidedContactFault s s1 :=
    ((Within.refl mask_execGuidedContactFault s).setBIn (m := 0x10000000200000000000000000000000000000000000000000000000000000) (InRegs.ite (m := 0x10000000200000000000000000000000000000000000000000000000000000) (.of1 212 key_COLM_ADCL_B_RB rfl) (.of1 181 key_SAFM_ADCL_A_RB rfl)) rfl)
  exact (WithinO.next (Within.ite
    ((hs1.upd_saf rfl).step within_enterRefuge rfl)
    (Within.refl mask_execGuidedContactFault s)))

def mask_execEdmCheckFail : Nat := 0x7c264480000002000000000000000000000000000000000000000000000000000000000000080000000080002c79e003207f807c000380000123c4fe0000000000000000017e00000800000000000000000273c0013d00000000047ffe03ffb0103fffff3e01efff7e000000000000000002000000000000000020000182000201bf00

theorem within_execEdmCheckFail {b0 : Sys2Proof.Channel} {b1 : Bool} {s : State} : WithinO mask_execEdmCheckFail s (execEdmCheckFail b0 b1 s) := by
  unfold execEdmCheckFail
  exact (WithinO.ite
    (WithinO.next (Within.refl mask_execEdmCheckFail s))
    (WithinO.next (((Within.refl mask_execEdmCheckFail s).step within_edmLatch rfl).step within_safetyReact rfl)))

def mask_resetLatch : Nat := 0x20000080001400000000000000000000000000000000000000000000000000001000

theorem within_resetLatch {s : State} {b1 : Sys2Proof.Channel} : Within mask_resetLatch s (resetLatch s b1) := by
  unfold resetLatch
  extract_lets -merge -useContext -underBinder s0 s1 v2 s3 s4 v5
  have hs0 : Within mask_resetLatch s s0 :=
    (Within.refl mask_resetLatch s)
  have hs1 : Within mask_resetLatch s s1 :=
    ((Within.refl mask_resetLatch s).foldl fun t6 x6 hl6 =>
      (Within.ite
        (hl6.setBitIn (m := 0x20000000000400000000000000000000000000000000000000000000000000000000) inregs_latchReg rfl)
        hl6))
  have hs3 : Within mask_resetLatch s s3 :=
    (hs1.step within_State_setChan rfl)
  have hs4 : Within mask_resetLatch s s4 := by
    unfold s4
    split
    · rename_i w7
      exact (hs3.set key_SAFM_LC_DISC_M rfl)
    · rename_i w8
      exact (hs3.set key_COLM_RW_MASK rfl)
  exact (Within.ite
    hs4
    (hs4.upd_saf rfl))

def mask_execResetRelease : Nat := 0x7c264480000000000000000000000000000000000000000000000000000000000000000000080000000080002c79e003207f807c000380000123c4fe0000000000000000017e00000800000000000000000273c0013d00000000047ffe03ffb0033fffffbe81ffff7e0000000000000000020000000000000000200000820002013f00

theorem within_execResetRelease {b0 : Sys2Proof.Channel} {b1 : Nat} {b2 : Nat} {s : State} : WithinO mask_execResetRelease s (execResetRelease b0 b1 b2 s) := by
  unfold execResetRelease
  extract_lets -merge -useContext -underBinder v0 s1 s2
  have hs1 : Within mask_execResetRelease s s1 :=
    ((Within.refl mask_execResetRelease s).step within_State_setChan rfl)
  have hs2 : Within mask_execResetRelease s s2 :=
    (Within.ite
      (hs1.setB key_COLM_RESET_STUCK rfl)
      hs1)
  exact (WithinO.ite
    (WithinO.next (Within.refl mask_execResetRelease s))
    (WithinO.ite
      (WithinO.next (hs2.step within_safetyReact rfl))
      (WithinO.ite
        (WithinO.next ((Within.ite
          (hs2.count key_COLM_RESET_REJ_CNT rfl)
          hs2).step within_safetyReact rfl))
        (WithinO.next (((Within.ite
          (hs2.count key_COLM_RESET_OK_CNT rfl)
          hs2).step within_resetLatch rfl).step within_safetyReact rfl)))))

def mask_execResetStuck : Nat := 0x400000000800000000000000000000000000000000000000000000000000000000000

theorem within_execResetStuck {b0 : Sys2Proof.Channel} {s : State} : WithinO mask_execResetStuck s (execResetStuck b0 s) := by
  unfold execResetStuck
  exact (WithinO.next (Within.ite
    (((Within.refl mask_execResetStuck s).setB key_COLM_RESET_STUCK rfl).count key_COLM_RESET_STUCK_CNT rfl)
    (Within.refl mask_execResetStuck s)))

def mask_execSpPeriodicTestFail : Nat := 0x3cfc26448000000220020000000008000000000000032c40028000000000000000000000000008000000c0f8592c79e203207f807c000380000023c0be07fe0020001f3ff6017e00000800000000000000000273c0013d00000000047ffe03ffb0001fffff3f01ebfffe000000000000000280000100001408001de00003820002c9bf00

theorem within_execSpPeriodicTestFail {b0 : Bool} {b1 : Fin 65536} {s : State} : WithinO mask_execSpPeriodicTestFail s (execSpPeriodicTestFail b0 b1 s) := by
  unfold execSpPeriodicTestFail
  exact (WithinO.next (Within.ite
    ((Within.refl mask_execSpPeriodicTestFail s).step within_enterRefuge rfl)
    (Within.refl mask_execSpPeriodicTestFail s)))

def mask_execColumnCheckFail : Nat := 0x3cfc26448000000220020000000008000000000000032c40028000000000000000000000000008000000c0f8592c79e203207f807c000380000023c0be07fe0020001f3ff6017e00000800000000000000000273c0013d00000000047ffe03ffb0001fffff7f01ebfffe000000000000000280000100001408001de00003820002c9bf00

theorem within_execColumnCheckFail {b0 : Bool} {b1 : Fin 65536} {s : State} : WithinO mask_execColumnCheckFail s (execColumnCheckFail b0 b1 s) := by
  unfold execColumnCheckFail
  exact (WithinO.next (Within.ite
    (((Within.refl mask_execColumnCheckFail s).setB key_COLM_COL_OK rfl).step within_enterRefuge rfl)
    (Within.refl mask_execColumnCheckFail s)))

def mask_mirrorsWrite : Nat := 0x1f0000000000000000000000000000000002000000000000000000000000000000000000000000000000000000000000000000000000000000000

theorem doorMirrors_in {s : State} {n : Nat} : ∀ e ∈ doorMirrors s n, InRegs mask_mirrorsWrite e.1.key := by
  intro e he
  simp only [doorMirrors] at he
  have hax : ∀ a : Nat, InRegs mask_mirrorsWrite (AX.FLIM_ABS a).key ∧ InRegs mask_mirrorsWrite (AX.E_LIM a).key ∧
      InRegs mask_mirrorsWrite (AX.REV_MM a).key ∧ InRegs mask_mirrorsWrite (AX.SQZ_FABS a).key ∧ InRegs mask_mirrorsWrite (AX.SQZ_VMAX a).key :=
    fun a => ⟨.of1 428 (key_AX_FLIM_ABS a) rfl, .of1 430 (key_AX_E_LIM a) rfl, .of1 432 (key_AX_REV_MM a) rfl,
      .of1 429 (key_AX_SQZ_FABS a) rfl, .of1 431 (key_AX_SQZ_VMAX a) rfl⟩
  have hc : InRegs mask_mirrorsWrite (CYCD.CYC_REV_MM n).key := .of1 293 (key_CYCD_CYC_REV_MM n) rfl
  have h0 := hax n
  have h8 := hax (8 + n)
  split at he <;> simp only [List.mem_append, List.mem_cons, List.not_mem_nil, or_false] at he <;>
    rcases he with ((rfl | rfl | rfl | rfl | rfl) | (rfl | rfl | rfl | rfl | rfl)) | rfl <;> simp_all

theorem within_mirrorsWrite {s : State} : WithinP mask_mirrorsWrite s (mirrorsWrite s) := by
  have hd : ∀ (l : List (Reg × Nat)) (p : State × Nat), (∀ e ∈ l, InRegs mask_mirrorsWrite e.1.key) →
      WithinP mask_mirrorsWrite s p → WithinP mask_mirrorsWrite s
        (l.foldl (fun (x : State × Nat) m => if x.1.get m.1 = m.2 then x else (x.1.set m.1 m.2, x.2 + 1)) p) := by
    intro l
    induction l with
    | nil => exact fun _ _ h => h
    | cons e l ih =>
      intro p he h
      refine ih _ (fun e' h' => he e' (List.mem_cons_of_mem _ h')) ?_
      exact .ite h (.mk (Within.setIn (s := p.1) h (he e List.mem_cons_self) (sub_refl _)))
  unfold mirrorsWrite
  exact WithinP.foldl (p := (s, 0)) (Within.refl _ s) fun p n hp => hd _ p doorMirrors_in hp

def mask_execMirrorCheck : Nat := 0x7c264480000000000000000000000000000018000000000000000000000000000000000000080000000080002c79e003207f807c000380000123c4fe0000000000000000017e00040bf1000000000000000273c0013d00000000247ffe03ffb0001fffff3e09ebff7e8000000000000000020000000000000000200000820002013f00

theorem within_execMirrorCheck {s : State} : WithinO mask_execMirrorCheck s (execMirrorCheck s) := by
  unfold execMirrorCheck
  exact (WithinO.ite
    (WithinO.next (Within.refl mask_execMirrorCheck s))
    (by
      split
      · rename_i p0 q1 w2 e3
        have hq1 : Within mask_execMirrorCheck s q1 := .of_eq e3 ((Within.refl mask_execMirrorCheck s).stepP within_mirrorsWrite rfl)
        extract_lets -merge -useContext -underBinder v4 v5 s6
        have hs6 : Within mask_execMirrorCheck s s6 :=
          (hq1.upd_saf rfl)
        exact (WithinO.next (Within.ite
          hs6
          (((((hs6.step within_dstShow rfl).countBy key_SAFM_MIRROR_FIX_CNT rfl).countBy (key_HDR_PG_FAULT_CNT _) rfl).eachAx fun t7 x7 hl7 =>
            (hl7.step within_axModels rfl)).step within_safetyReact rfl))) : WithinO mask_execMirrorCheck s _))

def mask_execTestDueSet : Nat := 0x400000000000000000000000000000000000000000000000000000000000

theorem within_execTestDueSet {s : State} : WithinO mask_execTestDueSet s (execTestDueSet s) := by
  unfold execTestDueSet
  exact (WithinO.next (Within.ite
    ((Within.refl mask_execTestDueSet s).setB key_COLM_TEST_DUE rfl)
    (Within.refl mask_execTestDueSet s)))

def mask_polesShow : Nat := 0x1e00000000000000000000000000000000000000000000000

theorem within_polesShow {s : State} {b1 : Sys2Proof.Channel} : Within mask_polesShow s (polesShow s b1) := by
  unfold polesShow
  split
  · rename_i w0
    exact (((Within.refl mask_polesShow s).set key_SEAL_A_COL rfl).set key_SEAL_B_COL rfl)
  · rename_i w1
    exact (((Within.refl mask_polesShow s).set key_SEAL_A_SAF rfl).set key_SEAL_B_SAF rfl)

def mask_execSealSample : Nat := 0x801ec0000000000000000000000000000000000000000001000

theorem within_execSealSample {b0 : Fin 65536} {b1 : Fin 65536} {b2 : Fin 65536} {b3 : Fin 65536} {s : State} : WithinO mask_execSealSample s (execSealSample b0 b1 b2 b3 s) := by
  unfold execSealSample
  extract_lets -merge -useContext -underBinder v0 s1 v2 s3 s4 s5
  have hs1 : Within mask_execSealSample s s1 :=
    ((Within.refl mask_execSealSample s).upd_saf rfl)
  have hs3 : Within mask_execSealSample s s3 :=
    (Within.ite
      (hs1.step within_polesShow rfl)
      hs1)
  have hs4 : Within mask_execSealSample s s4 :=
    (Within.ite
      (hs3.step within_polesShow rfl)
      hs3)
  have hs5 : Within mask_execSealSample s s5 :=
    (hs4.countBy key_SEAL_POLE_DIS_CNT rfl)
  exact (WithinO.ite
    (WithinO.next hs4)
    (WithinO.next ((hs5.setB key_SEAL_POLE_DIS rfl).setB key_SEAL_CHANGED rfl)))

def mask_execSealPoleDisagree : Nat := 0x3cfc26448000000220020000000008000000000000032c40028000000000000000000000000008000000c0f8592c79e203207f807c000380000023c0be07fe0020001f3ff6017e00000800000000000000000273c0013d00000000047ffe03ffb0001fffff3f01ebfffe000000000000000280000100001408001de00003820002c9bf00

theorem within_execSealPoleDisagree {b0 : Fin 32} {s : State} : WithinO mask_execSealPoleDisagree s (execSealPoleDisagree b0 s) := by
  unfold execSealPoleDisagree
  exact (WithinO.next (Within.ite
    ((Within.refl mask_execSealPoleDisagree s).step within_enterRefuge rfl)
    (Within.refl mask_execSealPoleDisagree s)))

def mask_execSealChange : Nat := 0x3cfc26448000000220020000000008000000000000032c40028000000000000000000000000008000000c0f8592c79e203207f807c000380000023c0be07fe0020001f3ff6017e00000800000000000000000273c0013d00000000047ffe03ffb0001fffff3f01ebfffe000000000000000280000100001408001de00003820002c9bf00

theorem within_execSealChange {b0 : Fin 32} {s : State} : WithinO mask_execSealChange s (execSealChange b0 s) := by
  unfold execSealChange
  exact (WithinO.next (Within.ite
    ((Within.refl mask_execSealChange s).step within_enterRefuge rfl)
    (Within.refl mask_execSealChange s)))

def mask_execTraverseUpdate : Nat := 0x60000000000000002000000000000000000000000000000000000000000000000000000000000000000000000002c79e0032079807c000700000103c4fe0000000000000000017e3e146e05c16700f0f8780003ffc043fff3000000047ffe03ffb0001fffff3e01ebff7e000000000000000004000000008000000000000382000001bf00

theorem within_execTraverseUpdate {b0 : List Sys2Proof.AxSample} {b1 : Nat} {s : State} : WithinO mask_execTraverseUpdate s (execTraverseUpdate b0 b1 s) := by
  unfold execTraverseUpdate
  exact (WithinO.next (Within.ite
    (Within.refl mask_execTraverseUpdate s)
    ((((((Within.refl mask_execTraverseUpdate s).step within_traverseUpdate rfl).step within_safetyEval rfl).eachDw fun t0 x0 hl0 =>
      (hl0.step within_shotsSeen rfl)).step within_bgWatch rfl).step within_burstWatch rfl)))

def mask_execClockFailure : Nat := 0x3cfc26448000000220020000000008000000000000032c40028000000000000000000000000008000000c0f8592c79e203207f807c000380000023c0be07fe0020001f3ff6017e00000800000000000000000273c0013d00000000047ffe03ffb0001fffff7f01ebfffe000000000000000680000100001408001de00003820002c9bf00

theorem within_execClockFailure {b0 : Fin 14} {b1 : Bool} {b2 : Fin 65536} {s : State} : WithinO mask_execClockFailure s (execClockFailure b0 b1 b2 s) := by
  unfold execClockFailure
  extract_lets -merge -useContext -underBinder s0 s1
  have hs0 : Within mask_execClockFailure s s0 :=
    ((Within.refl mask_execClockFailure s).setBit key_CLK_CLK_FAIL rfl)
  have hs1 : Within mask_execClockFailure s s1 :=
    (hs0.countFault key_CLK_CLK_FAIL_CNT rfl rfl)
  exact (WithinO.ite
    (WithinO.next (Within.refl mask_execClockFailure s))
    (WithinO.ite
      (WithinO.next ((Within.ite
        (hs0.eachHead fun t2 x2 hl2 =>
          (hl2.step within_portSync rfl))
        hs0).step within_evalAll rfl))
      (WithinO.ite
        (WithinO.next (Within.ite
          hs1
          ((hs1.setB key_COLM_COL_OK rfl).step within_enterRefuge rfl)))
        (WithinO.ite
          (WithinO.next ((hs1.setB key_COLM_SP_HB_OK rfl).step within_refugeStep2 rfl))
          (WithinO.next ((Within.ite
            (hs1.step within_barrierLoss rfl)
            hs1).step within_evalAll rfl))))))

def mask_execActiveGateReadbackDone : Nat := 0x3cfc26448000000220020000000008000000000000032c40028000000000000000000000000008000000c0f8592c79e203207f807c000380000023c0be07fe0020001f3ff6017e00000800000000000000000273c0013d00000000047ffe03ffb0001fffff3f41ebfffe000000000000000280000100001408001de00003820002c9bf00

theorem within_execActiveGateReadbackDone {b0 : Option (Fin 16)} {s : State} : WithinO mask_execActiveGateReadbackDone s (execActiveGateReadbackDone b0 s) := by
  unfold execActiveGateReadbackDone
  exact (WithinO.ite
    (WithinO.next (Within.refl mask_execActiveGateReadbackDone s))
    (by
      split
      · rename_i w0 w1
        exact (WithinO.next ((Within.refl mask_execActiveGateReadbackDone s).step within_enterRefuge rfl))
      · rename_i w2
        extract_lets -merge -useContext -underBinder s3 v4
        have hs3 : Within mask_execActiveGateReadbackDone s s3 :=
          ((Within.refl mask_execActiveGateReadbackDone s).setB key_COLM_TEST_DUE rfl)
        exact (WithinO.next ((hs3.upd_pwr rfl).step within_evalAll rfl)) : WithinO mask_execActiveGateReadbackDone s _))

end Sys2Proof.Machine
end

