-- ==== Sys2Proof/Laws/FramePower.lean ====
section
/-! SUPPORT. What each operation and meaning of Machine/Power.lean can change: one mask and one lemma each. -/

set_option Elab.async false

namespace Sys2Proof.Machine

def mask_supplySet : Nat := 0x200

theorem within_supplySet {s : State} {b1 : Sys2Proof.Supply} {b2 : Int} : Within mask_supplySet s (supplySet s b1 b2) := by
  unfold supplySet
  split
  · rename_i w0
    extract_lets -merge -useContext -underBinder v1
    exact ((Within.refl mask_supplySet s).upd_pwr rfl)
  · rename_i w2
    extract_lets -merge -useContext -underBinder s3 v4
    have hs3 : Within mask_supplySet s s3 :=
      ((Within.refl mask_supplySet s).step within_vrefFold rfl)
    exact (hs3.upd_pwr rfl)
  · rename_i w5
    extract_lets -merge -useContext -underBinder v6
    exact ((Within.refl mask_supplySet s).upd_pwr rfl)
  · rename_i w7
    extract_lets -merge -useContext -underBinder v8
    exact ((Within.refl mask_supplySet s).upd_pwr rfl)

def mask_supplyFollow : Nat := 0x42c79e0032079807c00000000000000000000000000000000000000000000000000000000000000000000000000000000000000000000000000000000000000000000000002000001000000000000000000800000000b00

theorem within_supplyFollow {b0 : Bool} {b1 : Bool} {s : State} : Within mask_supplyFollow s (supplyFollow b0 b1 s) := by
  unfold supplyFollow
  extract_lets -merge -useContext -underBinder v0 s1 s2 s3
  have hs1 : Within mask_supplyFollow s s1 :=
    (((Within.refl mask_supplyFollow s).upd_pwr rfl).step within_feedSync rfl)
  have hs2 : Within mask_supplyFollow s s2 :=
    (Within.ite
      (hs1.step within_bankQueue rfl)
      hs1)
  have hs3 : Within mask_supplyFollow s s3 :=
    (Within.ite
      (hs2.step within_bankQueue rfl)
      hs2)
  exact (hs3.step within_galEval rfl)

def mask_supplyChanged : Nat := 0x42c79e0032079807c000000000000000000000000000000000000000000000000000000000000000000000000000000000000000000000000000000000000000000000000020000013f4c00000000000000800000000b00

theorem within_supplyChanged {s : State} {b1 : Sys2Proof.Supply} {b2 : Int} : Within mask_supplyChanged s (supplyChanged s b1 b2) := by
  unfold supplyChanged
  exact ((((Within.refl mask_supplyChanged s).step within_supplySet rfl).step within_supplyShow rfl).step within_supplyFollow rfl)

def mask_execSupplyLevelChange : Nat := 0x42c79e0032079807c000000000000000000000000000000000000000000000000000000000000000000000000000000000000000000000000000000000000000000000000020000013f4c00000000000000800000000b00

theorem within_execSupplyLevelChange {b0 : Sys2Proof.Supply} {b1 : Int} {s : State} : WithinO mask_execSupplyLevelChange s (execSupplyLevelChange b0 b1 s) := by
  unfold execSupplyLevelChange
  exact (WithinO.next ((Within.refl mask_execSupplyLevelChange s).step within_supplyChanged rfl))

def mask_execBattlInterrupt : Nat := 0x42c79e0032079807c000000000000000000000000000000000000000000000000000000000000000000000000000000000000000000000000000000000000000000000000020000013f4c00000000000000800000000b00

theorem within_execBattlInterrupt {b0 : Int} {s : State} : WithinO mask_execBattlInterrupt s (execBattlInterrupt b0 s) := by
  unfold execBattlInterrupt
  exact (WithinO.next (Within.ite
    ((Within.refl mask_execBattlInterrupt s).step within_supplyChanged rfl)
    (Within.refl mask_execBattlInterrupt s)))

def mask_execBattlReturn : Nat := 0x42c79e0032079807c000000000000000000000000000000000000000000000000000000000000000000000000000000000000000000000000000000000000000000000000020000013f4c00000000000000800000000b00

theorem within_execBattlReturn {b0 : Int} {s : State} : WithinO mask_execBattlReturn s (execBattlReturn b0 s) := by
  unfold execBattlReturn
  exact (WithinO.next (Within.ite
    ((Within.refl mask_execBattlReturn s).step within_supplyChanged rfl)
    (Within.refl mask_execBattlReturn s)))

def mask_setsLost : Nat := 0x8

theorem within_setsLost {s : State} : Within mask_setsLost s (setsLost s) := by
  unfold setsLost
  extract_lets -merge -useContext -underBinder f0
  exact ((Within.refl mask_setsLost s).foldl fun t1 x1 hl1 =>
    (by
      extract_lets -merge -useContext -underBinder v2
      exact (Within.ite
        (hl1.step within_State_setPair rfl)
        hl1) : Within mask_setsLost s _))

def mask_execPfWarn : Nat := 0x3cfc000000000000000000000000000000000000000000000000000000000000000000000000000000000000482c79e203207f807c000380000023c0be0000000000000000017e00000800000000000000000273c0013d00000000047ffe03ffb0001fffff3e01ebff7e0000000000000000000000008000000000200002820000003f08

theorem within_execPfWarn {s : State} : WithinO mask_execPfWarn s (execPfWarn s) := by
  unfold execPfWarn
  extract_lets -merge -useContext -underBinder s0 s1 v2 s3
  have hs0 : Within mask_execPfWarn s s0 :=
    ((Within.refl mask_execPfWarn s).step within_setsLost rfl)
  have hs1 : Within mask_execPfWarn s s1 :=
    (hs0.setB key_PWR_PF_WARN rfl)
  have hs3 : Within mask_execPfWarn s s3 :=
    (hs1.upd_pwr rfl)
  exact (WithinO.ite
    (WithinO.next (Within.refl mask_execPfWarn s))
    (WithinO.next (hs3.step within_evalAll rfl)))

def mask_ramGone : Nat := 0x10020

theorem within_ramGone {s : State} : Within mask_ramGone s (ramGone s) := by
  unfold ramGone
  exact ((Within.refl mask_ramGone s).upd_mem_heads rfl rfl)

def mask_execPowerDownComplete : Nat := 0x3cfc00000000000200000000000000000000000000032c40008000000000000000000000000000000000c0784d2c79e203207f807c000380000023c0be07de0020001f3ff6017e00000800000000000000000273c0013d00000000047ffe03ffb0001fffff3f01ebfffe000000000000000201000100800000000020000382000081bf20

theorem within_execPowerDownComplete {s : State} : WithinO mask_execPowerDownComplete s (execPowerDownComplete s) := by
  unfold execPowerDownComplete
  extract_lets -merge -useContext -underBinder s0 s1 v2 s3
  have hs0 : Within mask_execPowerDownComplete s s0 :=
    ((Within.refl mask_execPowerDownComplete s).step within_domsOff rfl)
  have hs1 : Within mask_execPowerDownComplete s s1 :=
    ((hs0.step within_ramGone rfl).setB key_PWR_PF_WARN rfl)
  have hs3 : Within mask_execPowerDownComplete s s3 :=
    (hs1.upd_pwr rfl)
  exact (WithinO.ite
    (WithinO.next (Within.refl mask_execPowerDownComplete s))
    (WithinO.next ((hs3.count key_PWR_PF_CNT rfl).step within_feedSync rfl)))

def mask_execPowerOnStart : Nat := 0x40003cfc000000000000000000000000000000000000000000000000000000000000000000000000000000000000592c79e203207f807c000000000000044000200000000000000000000000000000000000000000000000000000000000000000000000000000000000000000000020030000000000013f4c00000000000002800083ffffff

theorem within_execPowerOnStart {b0 : Int} {s : State} : WithinO mask_execPowerOnStart s (execPowerOnStart b0 s) := by
  unfold execPowerOnStart
  extract_lets -merge -useContext -underBinder v0
  exact (WithinO.ite
    (WithinO.next (Within.refl mask_execPowerOnStart s))
    (WithinO.next ((((Within.refl mask_execPowerOnStart s).step within_supplySet rfl).step within_supplyShow rfl).step within_restart rfl)))

def mask_execBattdOvOpen : Nat := 0x42c79e0032079807c000000000000000000000000000000000000000000000000000000000000000000000000000000000000000000000000000000000000000000000000020000013f6c00000000000000800000000b00

theorem within_execBattdOvOpen {b0 : Int} {s : State} : WithinO mask_execBattdOvOpen s (execBattdOvOpen b0 s) := by
  unfold execBattdOvOpen
  exact (WithinO.next (Within.ite
    (((Within.refl mask_execBattdOvOpen s).step within_supplyChanged rfl).setB key_PWR_BATTD_OV rfl)
    (Within.refl mask_execBattdOvOpen s)))

def mask_execBattdOvClose : Nat := 0x42c79e0032079807c000000000000000000000000000000000000000000000000000000000000000000000000000000000000000000000000000000000000000000000000020000013f6c00000000000000800000000b00

theorem within_execBattdOvClose {b0 : Int} {s : State} : WithinO mask_execBattdOvClose s (execBattdOvClose b0 s) := by
  unfold execBattdOvClose
  exact (WithinO.next (Within.ite
    (((Within.refl mask_execBattdOvClose s).step within_supplyChanged rfl).setB key_PWR_BATTD_OV rfl)
    (Within.refl mask_execBattdOvClose s)))

def mask_chopShow : Nat := 0x1000000300000000000000000000000200

theorem within_chopShow {s : State} : Within mask_chopShow s (chopShow s) := by
  unfold chopShow
  extract_lets -merge -useContext -underBinder v0 s1 v2 v3 s4
  have hs1 : Within mask_chopShow s s1 :=
    ((Within.refl mask_chopShow s).upd_pwr rfl)
  have hs4 : Within mask_chopShow s s4 :=
    ((hs1.set key_PWR_CHOP_E rfl).setB key_PWR_CHOP_SPENT rfl)
  exact (Within.ite
    (hs4.setB key_PWR_CHOP_ON rfl)
    hs4)

def mask_execChopperOn : Nat := 0x200000000000000000000000000

theorem within_execChopperOn {b0 : Nat} {s : State} : WithinO mask_execChopperOn s (execChopperOn b0 s) := by
  unfold execChopperOn
  exact (WithinO.next (Within.ite
    (Within.refl mask_execChopperOn s)
    ((Within.refl mask_execChopperOn s).setB key_PWR_CHOP_ON rfl)))

def mask_execChopperOff : Nat := 0x1000000300000000000000000000000200

theorem within_execChopperOff {b0 : Nat} {s : State} : WithinO mask_execChopperOff s (execChopperOff b0 s) := by
  unfold execChopperOff
  extract_lets -merge -useContext -underBinder s0 v1
  have hs0 : Within mask_execChopperOff s s0 :=
    ((Within.refl mask_execChopperOff s).setB key_PWR_CHOP_ON rfl)
  exact (WithinO.ite
    (WithinO.next (Within.refl mask_execChopperOff s))
    (WithinO.next ((hs0.upd_pwr rfl).step within_chopShow rfl)))

def mask_execChopBudgetRestored : Nat := 0x1000000300000000000000000000000200

theorem within_execChopBudgetRestored {s : State} : WithinO mask_execChopBudgetRestored s (execChopBudgetRestored s) := by
  unfold execChopBudgetRestored
  exact (WithinO.next ((Within.refl mask_execChopBudgetRestored s).step within_chopShow rfl))

def mask_execBusOvervoltage : Nat := 0x2c79e0032079807c00000000000000000000000000000000017e00000800000000000000000273c0013d00000000047ffe03ffb0001fffff3e01ebff7e0000000000000000080000001000000000000000820000003d00

theorem within_execBusOvervoltage {b0 : Nat} {s : State} : WithinO mask_execBusOvervoltage s (execBusOvervoltage b0 s) := by
  unfold execBusOvervoltage
  exact (WithinO.ite
    (WithinO.next (Within.ite
      (Within.refl mask_execBusOvervoltage s)
      ((((Within.refl mask_execBusOvervoltage s).setB key_PWR_BUS_OV rfl).countFault key_PWR_BUS_OV_CNT rfl rfl).step within_safetyEval rfl)))
    (WithinO.next (((Within.refl mask_execBusOvervoltage s).setB key_PWR_BUS_OV rfl).step within_safetyEval rfl)))

def mask_execCellMeasure : Nat := 0xc000000060000000000000000000000000

theorem within_execCellMeasure {b0 : Nat} {b1 : Nat} {s : State} : WithinO mask_execCellMeasure s (execCellMeasure b0 b1 s) := by
  unfold execCellMeasure
  extract_lets -merge -useContext -underBinder s0
  have hs0 : Within mask_execCellMeasure s s0 :=
    (((Within.refl mask_execCellMeasure s).setSat key_PWR_VCELL rfl).setSat key_PWR_VCAP rfl)
  exact (WithinO.next ((hs0.setB key_PWR_BK_CELL rfl).setB key_PWR_CELL_LOW rfl))

def mask_clocksNext : Nat := 0x200000000000000000000000000000000000000000000000000000000000000000000000000000000000000000000000000000000000000000000000000000000000000000000000000000000000000000000000000000000000000000000000000000000000000000000000000008000000000000000000000000000002000000

theorem within_clocksNext {s : State} {b1 : Nat} : Within mask_clocksNext s (clocksNext s b1) := by
  unfold clocksNext
  split
  · rename_i w0 w1 e2
    exact ((Within.refl mask_clocksNext s).set key_CLK_MEAS_SEL rfl)
  · rename_i w3 e4
    exact (((Within.refl mask_clocksNext s).set key_TEST_TEST_STEP rfl).step within_testSay rfl)

def mask_execClockMeasureDone : Nat := 0x200000000000000000000000000000000000000000000000000000000000000000000000000000000000000000000000000000000000000000000000000000000000000000000000000000000000000000000000000000000000000000000000000000000000000000000000000018000000000000000000000000000002000000

theorem within_execClockMeasureDone {b0 : Nat} {s : State} : WithinO mask_execClockMeasureDone s (execClockMeasureDone b0 s) := by
  unfold execClockMeasureDone
  extract_lets -merge -useContext -underBinder v0 v1 s2 v3
  have hs2 : Within mask_execClockMeasureDone s s2 :=
    ((Within.refl mask_execClockMeasureDone s).setSat key_CLK_MEAS_HZ rfl)
  exact (WithinO.ite
    (WithinO.next ((hs2.step within_testNote rfl).step within_clocksNext rfl))
    (WithinO.next hs2))

def mask_execLampTestEnd : Nat := 0x200

theorem within_execLampTestEnd {s : State} : WithinO mask_execLampTestEnd s (execLampTestEnd s) := by
  unfold execLampTestEnd
  extract_lets -merge -useContext -underBinder v0
  exact (WithinO.next ((Within.refl mask_execLampTestEnd s).upd_pwr rfl))

def mask_modeReqWritten : Nat := 0x3cfc000000000000000000000000000000000000000000000000000000000000000000000000000000000000482c79e203207f807c000380000023c0be0020000000000000017e00000800000000000000000273c0013d00000000047ffe03ffb0001fffff3e01ebff7e0000000000000000820001000014000000200002820000403f00

theorem within_modeReqWritten {s : State} : Within mask_modeReqWritten s (modeReqWritten s) := by
  unfold modeReqWritten
  exact ((Within.ite
    ((Within.refl mask_modeReqWritten s).step within_enterActive rfl)
    (Within.refl mask_modeReqWritten s)).step within_parkSync rfl)

def mask_execIdleDelayExpiry : Nat := 0x3cfc00000000000200000000000000000000000000032c40008000000000000000000000000000000000c078492c79e203207f807c000380000023c0be07de0020001f3ff6017e00000800000000000000000273c0013d00000000047ffe03ffb0001fffff3f01ebfffe000000000000000282000100001400000020000382000081bf00

theorem within_execIdleDelayExpiry {s : State} : WithinO mask_execIdleDelayExpiry s (execIdleDelayExpiry s) := by
  unfold execIdleDelayExpiry
  exact (WithinO.next (Within.ite
    ((Within.refl mask_execIdleDelayExpiry s).step within_enterIdle rfl)
    (Within.refl mask_execIdleDelayExpiry s)))

def mask_execActRdySet : Nat := 0x20000000000000000000000000000000000000000000000000000000000000000000000000000000000000000000000000000000000000000010000000000000000000000000

theorem within_execActRdySet {b0 : Bool} {s : State} : WithinO mask_execActRdySet s (execActRdySet b0 s) := by
  unfold execActRdySet
  exact (WithinO.next (Within.ite
    (((Within.refl mask_execActRdySet s).setB key_LANT_ENG_OK rfl).setB key_PWR_ACT_RDY rfl)
    (Within.refl mask_execActRdySet s)))

def mask_wakeSeen : Nat := 0x300000

theorem within_wakeSeen {s : State} {b1 : Sys2Proof.WakeSrc} : Within mask_wakeSeen s (wakeSeen s b1) := by
  unfold wakeSeen
  split
  · rename_i w0 w1 w2
    extract_lets -merge -useContext -underBinder v3 v4
    exact ((Within.refl mask_wakeSeen s).step within_State_setCan rfl)
  · rename_i w5 w6 w7
    extract_lets -merge -useContext -underBinder v8
    exact ((Within.refl mask_wakeSeen s).upd_fio rfl)
  · rename_i w9 e10 e11
    exact (Within.refl mask_wakeSeen s)

def mask_wakeNote : Nat := 0x200000000000000300000000000000000000000000000000000000000000000000000000000000000000000000000000000000000000000000000000000000000000000000000000000000000000000000000000000000000000000000000000000

theorem within_wakeNote {b0 : State} {s : State} {b2 : Sys2Proof.WakeSrc} : Within mask_wakeNote s (wakeNote b0 s b2) := by
  unfold wakeNote
  split
  · rename_i w0 w1 w2
    exact ((Within.refl mask_wakeNote s).set (key_CAN_WAKE_SRC _) rfl)
  · rename_i w3 w4 w5
    exact (Within.ite
      (Within.refl mask_wakeNote s)
      (((Within.refl mask_wakeNote s).setB key_FIO_WAKE_FI_V rfl).set key_FIO_WAKE_FI rfl))
  · rename_i w6 e7 e8
    exact (Within.refl mask_wakeNote s)

def mask_wakeStart : Nat := 0x40003cfc000000000000000000000000000000000000000000000000000000000000000002000000000000003000592c79e203207f807c00000000000004400020000000000000000000000000000000000000000000000000000000000000000000000000000000000000000000002003000000100001000000000000000002800083ffffff

theorem within_wakeStart {s : State} {b1 : List Sys2Proof.WakeSrc} {b2 : Bool} : Within mask_wakeStart s (wakeStart s b1 b2) := by
  unfold wakeStart
  extract_lets -merge -useContext -underBinder v0
  exact ((((Within.refl mask_wakeStart s).count key_PWR_WAKE_CNT rfl).step within_restart rfl).foldl fun t1 x1 hl1 =>
    (hl1.step within_wakeNote rfl))

def mask_wakeEvent : Nat := 0x40003cfc000000000000000000000000000000000000000000000000000000000000000002000000000000003000592c79e203207f807c00000000000004400020000000000000000000000000000000000000000000000000000000000000000000000000000000000000000000002003000000100001000000000000000002800083ffffff

theorem within_wakeEvent {s : State} {b1 : Sys2Proof.WakeSrc} : Within mask_wakeEvent s (wakeEvent s b1) := by
  unfold wakeEvent
  extract_lets -merge -useContext -underBinder s0 v1
  have hs0 : Within mask_wakeEvent s s0 :=
    ((Within.refl mask_wakeEvent s).step within_wakeSeen rfl)
  exact (Within.ite
    (Within.refl mask_wakeEvent s)
    (Within.ite
      hs0
      (Within.ite
        (hs0.step within_wakeStart rfl)
        (hs0.upd_pwr rfl))))

def mask_execWakeEvent : Nat := 0x40003cfc000000000000000000000000000000000000000000000000000000000000000002000000000000003000592c79e203207f807c00000000000004400020000000000000000000000000000000000000000000000000000000000000000000000000000000000000000000002003000000100001000000000000000002800083ffffff

theorem within_execWakeEvent {b0 : Sys2Proof.WakeSrc} {s : State} : WithinO mask_execWakeEvent s (execWakeEvent b0 s) := by
  unfold execWakeEvent
  exact (WithinO.next ((Within.refl mask_execWakeEvent s).step within_wakeEvent rfl))

def mask_execParkLateWake : Nat := 0x40003cfc000000000000000000000000000000000000000000000000000000000000000002000000000000003000592c79e203207f807c00000000000004400020000000000000000000000000000000000000000000000000000000000000000000000000000000000000000000002003000000100001000000000000000002800083ffffff

theorem within_execParkLateWake {b0 : Sys2Proof.WakeSrc} {s : State} : WithinO mask_execParkLateWake s (execParkLateWake b0 s) := by
  unfold execParkLateWake
  exact (WithinO.next (Within.ite
    ((Within.refl mask_execParkLateWake s).step within_wakeEvent rfl)
    (Within.refl mask_execParkLateWake s)))

def mask_execParkStart : Nat := 0x3cfc000000000200400000000000000000000000000000000000000000000000000000000000000000000000482c79e203207f807c000380000023c0be0000000000000000017e00000800000000000000000273c0013d00000000047ffe03ffb0001fffff3e01ebff7e000000000000000002000000001400000020000382000038bf00

theorem within_execParkStart {s : State} : WithinO mask_execParkStart s (execParkStart s) := by
  unfold execParkStart
  extract_lets -merge -useContext -underBinder s0 v1 v2 v3 s4 s5
  have hs0 : Within mask_execParkStart s s0 :=
    ((Within.refl mask_execParkStart s).step within_parkSync rfl)
  have hs4 : Within mask_execParkStart s s4 :=
    (hs0.upd_pwr_fio rfl rfl)
  have hs5 : Within mask_execParkStart s s5 :=
    (hs4.eachUpTo fun t6 x6 hl6 =>
      (hl6.step within_State_setCan rfl))
  exact (WithinO.ite
    (WithinO.next hs0)
    (WithinO.next ((((hs5.set key_PWR_MODE rfl).setB key_PWR_ACT_RDY rfl).step within_evalAll rfl).step within_sealQueues rfl)))

def mask_execParkComplete : Nat := 0x40003cfc00000000000200000000000000000000000000032c40008000000000000000000200000000000000f078592c79e203207f807c000380000023c4fe07fe0020001f3ff6017e00000800000000000000000273c0013d00000000047ffe03ffb0001fffff3f01ebfffe0000002003000002100001000000000000200003820083ffffff

theorem within_execParkComplete {s : State} : WithinO mask_execParkComplete s (execParkComplete s) := by
  unfold execParkComplete
  extract_lets -merge -useContext -underBinder s0 v1 s2
  have hs0 : Within mask_execParkComplete s s0 :=
    ((Within.refl mask_execParkComplete s).step within_domsOff rfl)
  have hs2 : Within mask_execParkComplete s s2 :=
    ((hs0.upd_pwr rfl).step within_ramGone rfl)
  exact (WithinO.ite
    (WithinO.next (Within.refl mask_execParkComplete s))
    (WithinO.next (Within.ite
      hs2
      (hs2.step within_wakeStart rfl))))

def mask_execCrawlP10Off : Nat := 0x3cfc00000000000200000000000000000000000000032c40008000000000000000000000000000000000c078492c79e203207f807c000380000023c0be07de0020001f3ff6017e00000800000000000000000273c0013d00000000047ffe03ffb0001fffff3f01ebfffe000000000000000200000100000000000020000382000081bf00

theorem within_execCrawlP10Off {s : State} : WithinO mask_execCrawlP10Off s (execCrawlP10Off s) := by
  unfold execCrawlP10Off
  exact (WithinO.next (Within.ite
    ((Within.refl mask_execCrawlP10Off s).step within_domsOff rfl)
    (Within.refl mask_execCrawlP10Off s)))

def mask_execCrawlEnFilterAccept : Nat := 0x3cfc0000000000000000000000000000000000000000000000000000000000000000000000000000000000005d2c79e203207f807c00000000000000000020000000000000000000000000000000000000000000000000000000000000000000000000000000000000000000000000000000000001000000000000000002800000400b00

theorem within_execCrawlEnFilterAccept {b0 : Bool} {s : State} : WithinO mask_execCrawlEnFilterAccept s (execCrawlEnFilterAccept b0 s) := by
  unfold execCrawlEnFilterAccept
  extract_lets -merge -useContext -underBinder s0 v1
  have hs0 : Within mask_execCrawlEnFilterAccept s s0 :=
    ((Within.refl mask_execCrawlEnFilterAccept s).setB key_CRAWL_CR_PIN rfl)
  exact (WithinO.ite
    (WithinO.next (Within.refl mask_execCrawlEnFilterAccept s))
    (WithinO.next (((hs0.upd_gal rfl).step within_crawlFeed rfl).step within_crawlSync rfl)))

end Sys2Proof.Machine
end

