-- ==== Sys2Proof/Laws/FrameStartup.lean ====
section
/-! SUPPORT. What each operation and meaning of Machine/Startup.lean can change: one mask and one lemma each. -/

set_option Elab.async false

namespace Sys2Proof.Machine

def mask_stepDone : Nat := 0x2000000000000000000

theorem within_stepDone {s : State} {b1 : Nat} : Within mask_stepDone s (stepDone s b1) := by
  unfold stepDone
  exact ((Within.refl mask_stepDone s).setBit key_SYS_ST_DONE rfl)

def mask_sealShow : Nat := 0x6fff00000000000000000000000000000000000000000000000

theorem within_sealShow {s : State} : Within mask_sealShow s (sealShow s) := by
  unfold sealShow
  extract_lets -merge -useContext -underBinder v0 v1 s2 s3 s4
  have hs2 : Within mask_sealShow s s2 :=
    (((((Within.refl mask_sealShow s).step within_polesShow rfl).set key_SEAL_INSVC rfl).set key_SEAL_LOOP_VAR rfl).set key_SEAL_PST_CLASS rfl)
  have hs3 : Within mask_sealShow s s3 :=
    (((hs2.setB key_SEAL_TH_EN rfl).setB key_SEAL_LC_EN rfl).setB key_SEAL_SRC_SW rfl)
  have hs4 : Within mask_sealShow s s4 :=
    (((hs3.setB key_SEAL_DEPOT_PERMIT rfl).set key_SEAL_SIG_SW rfl).set key_SEAL_DISC_MS rfl)
  exact (hs4.setB key_SEAL_CFG_ERR rfl)

def mask_step1 : Nat := 0x3cfc000000000000000000000000000000000000000000000000000000000000000000000000000000000000482c79e203207f807c000380000023c0be0020000000000000017e00000800000000000000000273c0013d00000000047ffe13ffb0001fffff7e01ebff7e06fff00000000000000001000000000002200002820000403f00

theorem within_step1 {s : State} : Within mask_step1 s (step1 s) := by
  unfold step1
  extract_lets -merge -useContext -underBinder v0 v1 s2 s3
  have hs2 : Within mask_step1 s s2 :=
    ((Within.refl mask_step1 s).upd_pwr_saf rfl rfl)
  have hs3 : Within mask_step1 s s3 :=
    ((hs2.step within_sealShow rfl).eachDw fun t4 x4 hl4 =>
      (hl4.set (key_CYCD_STATE _) rfl))
  exact ((((hs3.setB key_COLM_COL_OK rfl).step within_stepDone rfl).step within_domOn1 rfl).step within_evalAll rfl)

def mask_sigShow : Nat := 0x100030000000000000000000000000000000000000000000000

theorem within_sigShow {s : State} : Within mask_sigShow s (sigShow s) := by
  unfold sigShow
  extract_lets -merge -useContext -underBinder v0
  exact ((((Within.refl mask_sigShow s).set key_SEAL_SIG_CRC rfl).setB key_SEAL_SIG_OK rfl).setB key_SEAL_SRC_CONFLICT rfl)

def mask_step2Domains : Nat := 0x3cfc000000000000000000000000000000000000000000000000000000000000000000000000000000000000482c79e203207f807c000380000023c0be0020000000000000017e00000800000000000000000273c0013d00000000047ffe03ffb0001fffff3e01ebff7e0000000000000000000001000000000000200002820000403f00

theorem within_step2Domains {s : State} : Within mask_step2Domains s (step2Domains s) := by
  unfold step2Domains
  exact (((Within.refl mask_step2Domains s).step within_domsOn rfl).step within_evalAll rfl)

def mask_step2 : Nat := 0x403cfc264480000002200200000000080000fffc1800032c40028000000000000000000000000008000000c0f8592c79e203207f807c000380000023c0be07fe0020001f3ff6017e00040bf1000000000000000273c0013d00000000247ffe03ffb0001fffff3f01ebfffe8101e3000000000280000100001408001fe00003820002c9bf00

theorem within_step2 {s : State} : Within mask_step2 s (step2 s) := by
  unfold step2
  extract_lets -merge -useContext -underBinder v0 s1
  have hs1 : Within mask_step2 s s1 :=
    ((Within.refl mask_step2 s).step within_sigShow rfl)
  split
  · rename_i w2 w3 e4
    exact (hs1.step within_refugeStep2 rfl)
  · rename_i w5 e6
    extract_lets -merge -useContext -underBinder s7 s8 s9
    have hs7 : Within mask_step2 s s7 :=
      (((hs1.step within_stepDone rfl).setB key_SAFM_SP_RUN rfl).step within_polesShow rfl)
    have hs8 : Within mask_step2 s s8 :=
      ((WithinP.fst ((hs7.setB key_COLM_SP_HB_OK rfl).stepP within_mirrorsWrite rfl)).eachAx fun t10 x10 hl10 =>
        (hl10.step within_axModels rfl))
    have hs9 : Within mask_step2 s s9 :=
      (hs8.step within_tcfgCheck rfl)
    exact (Within.ite
      (hs1.step within_refugeStep2 rfl)
      (Within.ite
        (hs9.step within_evalAll rfl)
        (hs9.step within_step2Domains rfl)))

def mask_step3 : Nat := 0x3cfc000000000002000000000000000000000000000000000000000000000000000000000000000000000000482c79e203207f807c000380000023c0be0000000000000000017e00000800000000000000000273c0013d00000000047ffe03ffb0103fffff3e41efff7e000000000000000000000000000000000220000382000000bf00

theorem within_step3 {s : State} : Within mask_step3 s (step3 s) := by
  unfold step3
  extract_lets -merge -useContext -underBinder s0 v1 s2 v3 s4
  have hs0 : Within mask_step3 s s0 :=
    ((Within.refl mask_step3 s).setB key_COLM_TEST_DUE rfl)
  have hs2 : Within mask_step3 s s2 :=
    (hs0.upd_pwr rfl)
  have hs4 : Within mask_step3 s s4 :=
    (Within.ite
      (((hs2.countFault key_COLM_EDM_FAULT_CNT rfl rfl).step within_latchSet rfl).step within_latchSet rfl)
      hs2)
  exact ((hs4.step within_stepDone rfl).step within_evalAll rfl)

def mask_step4 : Nat := 0x7c264480000006000000000000000000000000000000000000000000000000000000000000080000000080002c79e003207f807c000380000123c4fe0000000000000000017e00000800000000000000000273c0013d00063f801ffffeb3ffff001fffff3e01ebff7e00000000000000000200000000000000022000018200020dbf00

theorem within_step4 {s : State} : Within mask_step4 s (step4 s) := by
  unfold step4
  exact (Within.ite
    (Within.refl mask_step4 s)
    ((((Within.refl mask_step4 s).step within_stepDone rfl).eachDw fun t0 x0 hl0 =>
      (hl0.step within_doorwayInit rfl)).step within_safetyReact rfl))

def mask_step5 : Nat := 0x3cfc000000000000000000000000000000000000000000000000000000000000000000000000000000000000482c79e203207f807c000380000023c0be0020000000000000017e00000800000000000000000273c0013d00000000047ffe03ffb0001fffff3e01ebff7e0000000000000000800000000004040002600002820000003f00

theorem within_step5 {s : State} : Within mask_step5 s (step5 s) := by
  unfold step5
  extract_lets -merge -useContext -underBinder s0 s1 s2 v3
  have hs0 : Within mask_step5 s s0 :=
    (((Within.refl mask_step5 s).step within_stepDone rfl).setB key_SYS_OPERABLE rfl)
  have hs1 : Within mask_step5 s s1 :=
    (((hs0.setB key_LANT_ENG_OK rfl).setSat key_SYS_ST_TIME_MS rfl).set key_PWR_MODE rfl)
  have hs2 : Within mask_step5 s s2 :=
    (hs1.set key_CLK_APP_NOW rfl)
  exact ((hs2.upd_pwr rfl).step within_evalAll rfl)

def mask_execSelfTestStepPass : Nat := 0x403cfc264480000006200200000000080000fffc1800032c40028000000000000000000000000008000000c0f8592c79e203207f807c000380000123c4fe07fe0020001f3ff6017e00040bf1000000000000000273c0013d00063f803ffffeb3ffff103fffff7f41effffe87fff300000000028200010000140c001fe00003820002cdbf00

theorem within_execSelfTestStepPass {b0 : Fin 5} {s : State} : WithinO mask_execSelfTestStepPass s (execSelfTestStepPass b0 s) := by
  unfold execSelfTestStepPass
  extract_lets -merge -useContext -underBinder v0
  exact (WithinO.ite
    (WithinO.next (Within.refl mask_execSelfTestStepPass s))
    (by
      clear_value v0
      split
      · rename_i w1
        exact (WithinO.next ((Within.refl mask_execSelfTestStepPass s).step within_step1 rfl))
      · rename_i w2
        exact (WithinO.next ((Within.refl mask_execSelfTestStepPass s).step within_step2 rfl))
      · rename_i w3
        exact (WithinO.next (Within.ite
          ((Within.refl mask_execSelfTestStepPass s).step within_step3 rfl)
          (Within.refl mask_execSelfTestStepPass s)))
      · rename_i w4
        exact (WithinO.next ((Within.refl mask_execSelfTestStepPass s).step within_step4 rfl))
      · rename_i w5 e6 e7 e8 e9
        exact (WithinO.next (Within.ite
          ((Within.refl mask_execSelfTestStepPass s).step within_step5 rfl)
          (Within.refl mask_execSelfTestStepPass s))) : WithinO mask_execSelfTestStepPass s _))

def mask_engineShow : Nat := 0x1030000000000000000000000000000000000000000000000000000000000000000000000000000000000000000000000000000000000000000000000000000000000000000000

theorem within_engineShow {s : State} {b1 : Nat} {b2 : Nat} : Within mask_engineShow s (engineShow s b1 b2) := by
  unfold engineShow
  exact (Within.ite
    (((Within.refl mask_engineShow s).setB key_LANT_ENG_OK rfl).set key_LANT_ENG_FAULT_STAGE rfl)
    (Within.ite
      ((Within.refl mask_engineShow s).setB key_LANT_HP_OK rfl)
      (Within.refl mask_engineShow s)))

def mask_execSelfTestStepFail : Nat := 0x3cfc26448000000220020000000008000000000000032c40028000000000000000000000000008000000c0f8592c79e203207f807c000380000023c0be17fe0020001f3ff6017e00000800000000000000000273c0013d00000000047ffe03ffb0001fffff3f01ebfffe000000000000000280000100001408001de40003820002c9bf00

theorem within_execSelfTestStepFail {b0 : Fin 5} {b1 : Fin 256} {b2 : Fin 65536} {s : State} : WithinO mask_execSelfTestStepFail s (execSelfTestStepFail b0 b1 b2 s) := by
  unfold execSelfTestStepFail
  extract_lets -merge -useContext -underBinder v0 s1
  have hs1 : Within mask_execSelfTestStepFail s s1 :=
    (Within.ite
      ((Within.refl mask_execSelfTestStepFail s).set key_SYS_LC_STATE rfl)
      (Within.refl mask_execSelfTestStepFail s))
  exact (WithinO.ite
    (WithinO.next (Within.refl mask_execSelfTestStepFail s))
    (WithinO.next (Within.ite
      (hs1.step within_enterRefuge rfl)
      (Within.ite
        (hs1.step within_refugeStep2 rfl)
        (((hs1.step within_enterRefuge rfl).step within_engineShow rfl).step within_monitorOn rfl)))))

def mask_execRefugeMonitorPowerOn : Nat := 0x3cfc000000000000000000000000000000000000000000000000000000000000000000000000000000000000482c79e203207f807c000380000023c0be0020000000000000017e00000800000000000000000273c0013d00000000047ffe03ffb0001fffff3e01ebff7e0000000000000000000001000000000000200002820000403f00

theorem within_execRefugeMonitorPowerOn {s : State} : WithinO mask_execRefugeMonitorPowerOn s (execRefugeMonitorPowerOn s) := by
  unfold execRefugeMonitorPowerOn
  exact (WithinO.next (Within.ite
    ((Within.refl mask_execRefugeMonitorPowerOn s).step within_monitorOn rfl)
    (Within.refl mask_execRefugeMonitorPowerOn s)))

def mask_execLpddr5WipeDone : Nat := 0x1083cfc26448000000220020000000008000000000000032c40028000000000000000000000000008000000c0f8592c79e203207f807c000380000023c4fe07fe0020001f3ff6017e00000800000000000000000273c0013d00000000047ffe03ffb0001fffff3f01ebfffe000000000000000280000100001408001de00003820002c9bf00

theorem within_execLpddr5WipeDone {b0 : Option (Fin 65536)} {b1 : Fin 256} {s : State} : WithinO mask_execLpddr5WipeDone s (execLpddr5WipeDone b0 b1 s) := by
  unfold execLpddr5WipeDone
  exact (WithinO.ite
    (WithinO.next (by
      split
      · rename_i w0 w1
        exact ((Within.refl mask_execLpddr5WipeDone s).step within_enterRefuge rfl)
      · rename_i w2
        exact (Within.refl mask_execLpddr5WipeDone s) : Within mask_execLpddr5WipeDone s _))
    (WithinO.ite
      (WithinO.next (Within.refl mask_execLpddr5WipeDone s))
      (by
        split
        · rename_i w3 w4
          exact (WithinO.next ((Within.refl mask_execLpddr5WipeDone s).step within_enterRefuge rfl))
        · rename_i w5
          extract_lets -merge -useContext -underBinder v6 s7 s8
          have hs7 : Within mask_execLpddr5WipeDone s s7 :=
            ((Within.refl mask_execLpddr5WipeDone s).upd_pwr rfl)
          have hs8 : Within mask_execLpddr5WipeDone s s8 :=
            (hs7.eachDw fun t9 x9 hl9 =>
              (Within.ite
                (hl9.step within_bgGone rfl)
                (hl9.step within_bgLoad rfl)))
          exact (WithinO.next ((hs8.step within_domsOn rfl).step within_evalAll rfl)) : WithinO mask_execLpddr5WipeDone s _)))

def mask_slotOk : Nat := 0x180000000000000000000000000000000000000

theorem inregs_slotOk {b0 : Nat} : InRegs mask_slotOk (slotOk b0).key := by
  unfold slotOk
  repeat' split
  · exact .of1 120 key_BOOT_A_OK rfl
  · exact .of1 119 key_BOOT_B_OK rfl

def mask_slotVer : Nat := 0x3000000000000000000000000000000000000000

theorem inregs_slotVer {b0 : Nat} : InRegs mask_slotVer (slotVer b0).key := by
  unfold slotVer
  repeat' split
  · exact .of1 124 key_BOOT_IMG_A_VER rfl
  · exact .of1 125 key_BOOT_IMG_B_VER rfl

def mask_slotCheck : Nat := 0xb180000000000000000000000000000000000000

theorem within_slotCheck {s : State} {b1 : Nat} {b2 : Sys2Proof.Image} : WithinP mask_slotCheck s (slotCheck s b1 b2) := by
  unfold slotCheck
  extract_lets -merge -useContext -underBinder v0 s1
  have hs1 : Within mask_slotCheck s s1 :=
    (((Within.refl mask_slotCheck s).setBIn (m := 0x180000000000000000000000000000000000000) inregs_slotOk rfl).setIn (m := 0x3000000000000000000000000000000000000000) inregs_slotVer rfl)
  exact (WithinP.mk (Within.ite
    hs1
    (hs1.count key_BOOT_BOOT_FAIL_CNT rfl)))

def mask_hostStarted : Nat := 0x10260000000000000000000000000000000000200

theorem within_hostStarted {s : State} {b1 : Nat} {b2 : Bool} : Within mask_hostStarted s (hostStarted s b1 b2) := by
  unfold hostStarted
  extract_lets -merge -useContext -underBinder s0 s1 v2
  have hs0 : Within mask_hostStarted s s0 :=
    (((Within.refl mask_hostStarted s).set key_BOOT_RUN_SLOT rfl).setB key_BOOT_FALLBACK rfl)
  have hs1 : Within mask_hostStarted s s1 :=
    ((hs0.setB key_BOOT_TRIAL rfl).setSat key_BOOT_BOOT_TIME_MS rfl)
  exact (hs1.upd_pwr rfl)

def mask_execHostStart : Nat := 0x3cfc26448000000220020000000008000000000000032c40028000000000000000000000000008000000c0f8592c79e203207f807c000380000023c0be07fe0020001f3ff6017e00000800000000000000000273c0013d00000000047ffe03ffb0001fffff3f01ebfffe000000000001b3e280000100001408001de00003820002c9bf00

theorem within_execHostStart {b0 : Sys2Proof.Image} {b1 : Sys2Proof.Image} {s : State} : WithinO mask_execHostStart s (execHostStart b0 b1 s) := by
  unfold execHostStart
  extract_lets -merge -useContext -underBinder f0 v1 f2
  have hf2 : ∀ x3_0, Within mask_execHostStart s x3_0 → Within mask_execHostStart s (f2 x3_0) :=
    fun x3_0 hl3 => by
      unfold f2
      split
      · rename_i p4 q5 w6 e7
        have hq5 : Within mask_execHostStart s q5 := .of_eq e7 (hl3.stepP within_slotCheck rfl)
        exact (Within.ite
          (hq5.step within_hostStarted rfl)
          (by
            split
            · rename_i p8 q9 w10 e11
              have hq9 : Within mask_execHostStart s q9 := .of_eq e11 (hq5.stepP within_slotCheck rfl)
              exact (Within.ite
                (hq9.step within_hostStarted rfl)
                (hq9.step within_enterRefuge rfl)) : Within mask_execHostStart s _))
  exact (WithinO.ite
    (WithinO.next (Within.refl mask_execHostStart s))
    (by
      split
      · rename_i w12 w13 e14
        split
        · rename_i p15 q16 w17 e18
          have hq16 : Within mask_execHostStart s q16 := .of_eq e18 ((Within.refl mask_execHostStart s).stepP within_slotCheck rfl)
          exact (WithinO.ite
            (WithinO.next (hq16.step within_hostStarted rfl))
            (by
              split
              · rename_i p19 q20 w21 e22
                have hq20 : Within mask_execHostStart s q20 := .of_eq e22 (hq16.stepP within_slotCheck rfl)
                exact (WithinO.next (Within.ite
                  (hq20.step within_hostStarted rfl)
                  (hq20.step within_enterRefuge rfl))) : WithinO mask_execHostStart s _))
      · rename_i w23 e24
        exact (WithinO.next (hf2 _ (Within.refl mask_execHostStart s))) : WithinO mask_execHostStart s _))

def mask_bootConfirmed : Nat := 0x4020000000000000000000000000000000000200

theorem within_bootConfirmed {s : State} : Within mask_bootConfirmed s (bootConfirmed s) := by
  unfold bootConfirmed
  extract_lets -merge -useContext -underBinder v0 s1 v2 s3
  have hs1 : Within mask_bootConfirmed s s1 :=
    ((Within.refl mask_bootConfirmed s).setB key_BOOT_TRIAL rfl)
  have hs3 : Within mask_bootConfirmed s s3 :=
    (hs1.upd_pwr rfl)
  exact (Within.ite
    (Within.refl mask_bootConfirmed s)
    (hs3.set key_BOOT_ROLLBACK_MIN rfl))

def mask_execHostRdyTimeout : Nat := 0x3cfc26448000000220020000000008000000000000032c40028000000000000000000000000008000000c0f8592c79e203207f807c000380000023c0be07fe0020001f3ff6017e00000800000000000000000273c0013d00000000047ffe03ffb0001fffff3f01ebfffe000000000000000280000100001408001de00003820002c9bf00

theorem within_execHostRdyTimeout {s : State} : WithinO mask_execHostRdyTimeout s (execHostRdyTimeout s) := by
  unfold execHostRdyTimeout
  exact (WithinO.next (Within.ite
    ((Within.refl mask_execHostRdyTimeout s).step within_enterRefuge rfl)
    (Within.refl mask_execHostRdyTimeout s)))

def mask_execGalleryDeferredTest : Nat := 0x3cfc26448000000220020000000008000000000000032c40028000000000000000000000000008000000c0f8592c79e203207f807c000380000023c0be07fe0020001f3ff6017e00000800000000000000000273c0013d00000000047ffe03ffb0001fffff3f01ebfffe000000000000000280000100001408001de00003820002c9bf00

theorem within_execGalleryDeferredTest {b0 : Bank} {b1 : Option (Fin 48)} {s : State} : WithinO mask_execGalleryDeferredTest s (execGalleryDeferredTest b0 b1 s) := by
  unfold execGalleryDeferredTest
  extract_lets -merge -useContext -underBinder v0
  exact (WithinO.ite
    (WithinO.next (Within.refl mask_execGalleryDeferredTest s))
    (by
      split
      · rename_i w1 w2
        exact (WithinO.next ((Within.refl mask_execGalleryDeferredTest s).step within_enterRefuge rfl))
      · rename_i w3
        extract_lets -merge -useContext -underBinder v4
        exact (WithinO.next ((((Within.refl mask_execGalleryDeferredTest s).upd_pwr rfl).step within_bankQueue rfl).step within_galEval rfl)) : WithinO mask_execGalleryDeferredTest s _))

def mask_execRefugeAnnounce : Nat := 0x100000000000000000000000000000000000000000000000000000000000000000000000000000000000000000000000000000000000000000000000000000000000000000000000000000000000000000000000000000000000000000000000000000000000000000000400100

theorem within_execRefugeAnnounce {b0 : Bool} {s : State} : WithinO mask_execRefugeAnnounce s (execRefugeAnnounce b0 s) := by
  unfold execRefugeAnnounce
  extract_lets -merge -useContext -underBinder s0 v1 v2 s3
  have hs0 : Within mask_execRefugeAnnounce s s0 :=
    ((Within.refl mask_execRefugeAnnounce s).step within_announce rfl)
  have hs3 : Within mask_execRefugeAnnounce s s3 :=
    ((Within.refl mask_execRefugeAnnounce s).upd_nets rfl)
  exact (WithinO.ite
    (WithinO.next (Within.refl mask_execRefugeAnnounce s))
    (WithinO.ite
      (WithinO.next (Within.ite
        ((hs0.step within_State_draw rfl).step within_State_sendOn rfl)
        hs0))
      (WithinO.ite
        (WithinO.next (Within.refl mask_execRefugeAnnounce s))
        (WithinO.next (hs3.step within_State_sendOn rfl)))))

def mask_execHostWdExpiry : Nat := 0x3cfc2644800000000000000000000000000000000000000000000000000000000000000000000800000000844a2c79e203207f807c000380000123c4fe0000000000000000017e00000800000000000000000273c0013d00000000047ffe03ffb0001fffff3e01ebff7f0000000000000000020000000000000000200002820002013f00

theorem within_execHostWdExpiry {s : State} : WithinO mask_execHostWdExpiry s (execHostWdExpiry s) := by
  unfold execHostWdExpiry
  extract_lets -merge -useContext -underBinder s0 v1 s2
  have hs0 : Within mask_execHostWdExpiry s s0 :=
    ((((Within.refl mask_execHostWdExpiry s).setB key_SAFM_HOST_WD rfl).setB key_CRAWL_CR_WD rfl).step within_fioWatchdog rfl)
  have hs2 : Within mask_execHostWdExpiry s s2 :=
    (hs0.upd_pwr rfl)
  exact (WithinO.ite
    (WithinO.next (Within.refl mask_execHostWdExpiry s))
    (WithinO.next ((hs2.step within_safetyReact rfl).step within_crawlSync rfl)))

def mask_execWdRestartDue : Nat := 0x40003cfc000000000000000000000000000000000000000000000000000000000000000000000000000000000000592c79e203207f807c00000000000004400020000000000000000000000000000000000000000000000000000000000000000000000000000000000000000000002003000000000001000000000000000002800083ffffff

theorem within_execWdRestartDue {s : State} : WithinO mask_execWdRestartDue s (execWdRestartDue s) := by
  unfold execWdRestartDue
  exact (WithinO.next (Within.ite
    ((Within.refl mask_execWdRestartDue s).step within_restart rfl)
    (Within.refl mask_execWdRestartDue s)))

def mask_lcWipe : Nat := 0x181e03cfc000000000000200200000000080000fffc18000000000000000000000000000000000000000000000000592c79e203207f807c000000000000044000000000000000000000000403f10000000000000000000000000000010020000000000000000000000000000081000300000000000000000000000000000000028000800c0900

theorem within_lcWipe {s : State} : Within mask_lcWipe s (lcWipe s) := by
  unfold lcWipe
  extract_lets -merge -useContext -underBinder s0 v1 s2 s3 s4 s5 s6
  have hs0 : Within mask_lcWipe s s0 :=
    ((((Within.refl mask_lcWipe s).wipeSpaceTo mem_LVOL_3 rfl).wipeSpaceTo mem_LVOL_13 rfl).wipeSpaceTo mem_LVOL_14 rfl)
  have hs2 : Within mask_lcWipe s s2 :=
    ((hs0.upd_gal rfl).eachDw fun t7 x7 hl7 =>
      (hl7.step within_setBg rfl))
  have hs3 : Within mask_lcWipe s s3 :=
    (Within.ite
      (hs2.step within_crawlLoad rfl)
      hs2)
  have hs4 : Within mask_lcWipe s s4 :=
    (((hs3.wipeSpaceTo mem_SAFM_1 rfl).step within_sigShow rfl).step within_tcfgEmpty rfl)
  have hs5 : Within mask_lcWipe s s5 :=
    (Within.ite
      ((WithinP.fst (hs4.stepP within_mirrorsWrite rfl)).eachAx fun t8 x8 hl8 =>
        (hl8.step within_axModels rfl))
      hs4)
  have hs6 : Within mask_lcWipe s s6 :=
    (Within.ite
      (Within.ite
        hs5
        (hs5.step within_flowWipe rfl))
      hs3)
  exact (Within.ite
    (hs6.foldl fun t9 x9 hl9 =>
      (hl9.set (key_FLOW_CAIRN _) rfl))
    hs6)

def mask_wipeFailed : Nat := 0x220000000000380000000000000000000000000000000000000000000000000000000000000000000000000000000000000000000000000000000000000000000000000000000000000000000000000000000000000000000000000000000000000000000000000000000000000000000000000000001000000088000

theorem within_wipeFailed {s : State} {b1 : Bool} {b2 : Option (Fin 7)} : Within mask_wipeFailed s (wipeFailed s b1 b2) := by
  unfold wipeFailed
  extract_lets -merge -useContext -underBinder s0
  have hs0 : Within mask_wipeFailed s s0 :=
    (Within.ite
      (((Within.refl mask_wipeFailed s).setB key_FLOW_MRAM_FAIL rfl).step within_memFailed rfl)
      (Within.refl mask_wipeFailed s))
  split
  · rename_i w1 w2
    extract_lets -merge -useContext -underBinder s3 v4
    have hs3 : Within mask_wipeFailed s s3 :=
      (hs0.setB key_FLOW_NAND_FAIL rfl)
    exact ((hs3.upd_flow rfl).step within_memFailed rfl)
  · rename_i w5
    exact hs0

def mask_wipesEnd : Nat := 0x181e03cfc000000000000200200000000080000fffc18000000000000000000000000000000000000000000000000592c79e203207f807c000000000000044000000000000000000000000403f10000000000000000000000000000010020000000000000000000000000000081000300000000000000000000000000000800028000800c0900

theorem within_wipesEnd {s : State} : Within mask_wipesEnd s (wipesEnd s) := by
  unfold wipesEnd
  exact (((Within.refl mask_wipesEnd s).step within_lcWipe rfl).setB key_SYS_LC_WIPE_PEND rfl)

def mask_execLcWipesDone : Nat := 0x1c1e03cfc000000000002200200000003880000fffc18000000000000000000000000000000000000000000000000592c79e203207f807c000380000023c4fe0020000000000000017e00040bf1000000000000000273c0013d00000100247ffe03ffb0001fffff3e01ebff7e8100032003000000000001000000000000280003820083ffffff

theorem within_execLcWipesDone {b0 : Bool} {b1 : Option (Fin 7)} {s : State} : WithinO mask_execLcWipesDone s (execLcWipesDone b0 b1 s) := by
  unfold execLcWipesDone
  exact (WithinO.ite
    (WithinO.next (Within.refl mask_execLcWipesDone s))
    (WithinO.ite
      (WithinO.next (Within.ite
        ((((Within.refl mask_execLcWipesDone s).step within_wipesEnd rfl).step within_wipeFailed rfl).step within_step2Domains rfl)
        (Within.refl mask_execLcWipesDone s)))
      (WithinO.ite
        (WithinO.next (Within.ite
          (Within.refl mask_execLcWipesDone s)
          ((((Within.refl mask_execLcWipesDone s).step within_wipesEnd rfl).step within_wipeFailed rfl).step within_monitorOn rfl)))
        (WithinO.next ((((Within.refl mask_execLcWipesDone s).step within_wipesEnd rfl).step within_restart rfl).step within_wipeFailed rfl)))))

end Sys2Proof.Machine
end

