-- ==== Sys2Proof/Laws/FrameDrip.lean ====
section
/-! SUPPORT. What each operation and meaning of Machine/Drip.lean can change: one mask and one lemma each. -/

set_option Elab.async false

namespace Sys2Proof.Machine

def mask_dripCount : Nat := 0x40001

theorem within_dripCount {s : State} : Within mask_dripCount s (dripCount s) := by
  unfold dripCount
  extract_lets -merge -useContext -underBinder v0 v1
  exact (Within.ite
    (Within.refl mask_dripCount s)
    ((Within.refl mask_dripCount s).upd_tick_drip rfl rfl (Nat.mod_lt _ (by decide))))

def mask_execTcUpdate : Nat := 0x600200000000000000000000000000000000000000000

theorem within_execTcUpdate {b0 : Option Int} {s : State} : WithinO mask_execTcUpdate s (execTcUpdate b0 s) := by
  unfold execTcUpdate
  split
  · rename_i w0
    exact (WithinO.next ((Within.refl mask_execTcUpdate s).setB key_DRIP_TC_FAULT rfl))
  · rename_i w1 w2
    exact (WithinO.next ((((Within.refl mask_execTcUpdate s).setB key_DRIP_TC_FAULT rfl).setS key_DRIP_XTAL_T rfl).setS key_DRIP_TC_CORR rfl))

def mask_execTickCheckpoint : Nat := 0x40000

theorem within_execTickCheckpoint {s : State} : WithinO mask_execTickCheckpoint s (execTickCheckpoint s) := by
  unfold execTickCheckpoint
  extract_lets -merge -useContext -underBinder v0
  exact (WithinO.ite
    (WithinO.next (Within.refl mask_execTickCheckpoint s))
    (WithinO.next ((Within.refl mask_execTickCheckpoint s).upd_drip rfl)))

def mask_execBackupLoss : Nat := 0x40000

theorem within_execBackupLoss {s : State} : WithinO mask_execBackupLoss s (execBackupLoss s) := by
  unfold execBackupLoss
  extract_lets -merge -useContext -underBinder v0 v1
  exact (WithinO.ite
    (WithinO.next (Within.refl mask_execBackupLoss s))
    (WithinO.next ((Within.refl mask_execBackupLoss s).upd_drip rfl)))

def mask_setCmd : Nat := 0x40000

theorem within_setCmd {s : State} {b1 : Nat} : WithinP mask_setCmd s (setCmd s b1) := by
  unfold setCmd
  extract_lets -merge -useContext -underBinder v0
  exact (WithinP.ite
    (WithinP.mk (Within.refl mask_setCmd s))
    (WithinP.ite
      (WithinP.mk (Within.refl mask_setCmd s))
      (WithinP.mk ((Within.refl mask_setCmd s).upd_drip rfl))))

def mask_almDelay : Nat := 0x4000000000000000000000000000000000000000000000000000000000000000000000000000000000000000000000000000000000000000000000000000000000000000000000000000000000000000000000000000000000000000000000000000000000000000000000000000000000400000000000000000000000000000000000040000

theorem within_almDelay {s : State} {b1 : Nat} : Within mask_almDelay s (almDelay s b1) := by
  unfold almDelay
  extract_lets -merge -useContext -underBinder v0 s1 v2
  have hs1 : Within mask_almDelay s s1 :=
    (((Within.refl mask_almDelay s).wr32To mem_DRIP_1 rfl).setB key_DRIP_ALM_DLY_HIT rfl)
  exact (hs1.upd_drip rfl)

def mask_almConfig : Nat := 0x4000000000000000000000000000000000000000000000000000000000000000000000000000000000000000000000000000000000000000000000000000000000000000000000000000000000000000000000000000000000000000000000000000000000000000000000000000000000d00000000000000000000000000000000000000000

theorem within_almConfig {s : State} {b1 : Sys2Proof.AlarmWord} {b2 : Nat} : WithinP mask_almConfig s (almConfig s b1 b2) := by
  unfold almConfig
  extract_lets -merge -useContext -underBinder v0 v1
  split
  · rename_i w2
    exact (WithinP.mk (((Within.refl mask_almConfig s).wr32To mem_DRIP_1 rfl).setB key_DRIP_ALM_CAL_HIT rfl))
  · rename_i w3
    exact (WithinP.mk (((Within.refl mask_almConfig s).wr32To mem_DRIP_1 rfl).setB key_DRIP_ALM_CAL_HIT rfl))
  · rename_i w4
    exact (WithinP.mk (((Within.refl mask_almConfig s).wr32To mem_DRIP_1 rfl).setB key_DRIP_ALM_CAL_HIT rfl))
  · rename_i w5
    exact (WithinP.mk (((((Within.refl mask_almConfig s).wr32To mem_DRIP_1 rfl).setB key_DRIP_ALM_CAL_HIT rfl).setB key_DRIP_ALM_DLY_HIT rfl).setB key_DRIP_ALM_MISSED rfl))

def mask_dripWrite : Nat := 0x4000000000000000000000000000000000000000000000000000000000000000000000000000000000000000000000000000000000000000000000000000000000000000000000000000000000000000000000000000000000000000000000000000000000000000000000000000000000d00000000000000000000000000000000000040000

theorem within_dripWrite {s : State} {b1 : Nat} {b2 : Nat} : WithinP mask_dripWrite s (dripWrite s b1 b2) := by
  unfold dripWrite
  split
  · rename_i w0
    exact (WithinP.mk ((Within.refl mask_dripWrite s).wr32To mem_DRIP_1 rfl))
  · rename_i w1
    exact (WithinP.mk ((Within.refl mask_dripWrite s).wr32To mem_DRIP_1 rfl))
  · rename_i w2
    exact ((Within.refl mask_dripWrite s).stepP within_setCmd rfl)
  · rename_i w3
    exact ((Within.refl mask_dripWrite s).stepP within_almConfig rfl)
  · rename_i w4
    exact ((Within.refl mask_dripWrite s).stepP within_almConfig rfl)
  · rename_i w5
    exact ((Within.refl mask_dripWrite s).stepP within_almConfig rfl)
  · rename_i w6
    exact (WithinP.mk ((Within.refl mask_dripWrite s).step within_almDelay rfl))
  · rename_i w7
    exact ((Within.refl mask_dripWrite s).stepP within_almConfig rfl)
  · rename_i w8 e9 e10 e11 e12 e13 e14 e15 e16
    exact (WithinP.mk (Within.refl mask_dripWrite s))

def mask_execSetCmdWrite : Nat := 0x2000000040000

theorem within_execSetCmdWrite {b0 : Word} {s : State} : WithinO mask_execSetCmdWrite s (execSetCmdWrite b0 s) := by
  unfold execSetCmdWrite
  exact (WithinO.next (Within.step (WithinP.fst ((Within.refl mask_execSetCmdWrite s).stepP within_setCmd rfl)) within_counted rfl))

def mask_execAlmDlySWrite : Nat := 0x4000000000000000000000000000000000000000000000000000000000000000000000000000000000000000000000000000000000000000000000000000000000000000000000000000000000000000000000000000000000000000000000000000000000000000000000000000000000400000000000000000000000000002000000040000

theorem within_execAlmDlySWrite {b0 : Word} {s : State} : WithinO mask_execAlmDlySWrite s (execAlmDlySWrite b0 s) := by
  unfold execAlmDlySWrite
  exact (WithinO.next (Within.step (WithinP.fst (WithinP.mk ((Within.refl mask_execAlmDlySWrite s).step within_almDelay rfl))) within_counted rfl))

def mask_execAlarmConfigWrite : Nat := 0x4000000000000000000000000000000000000000000000000000000000000000000000000000000000000000000000000000000000000000000000000000000000000000000000000000000000000000000000000000000000000000000000000000000000000000000000000000000000d00000000000000000000000000002000000000000

theorem within_execAlarmConfigWrite {b0 : Sys2Proof.AlarmWord} {b1 : Word} {s : State} : WithinO mask_execAlarmConfigWrite s (execAlarmConfigWrite b0 b1 s) := by
  unfold execAlarmConfigWrite
  exact (WithinO.next (Within.step (WithinP.fst ((Within.refl mask_execAlarmConfigWrite s).stepP within_almConfig rfl)) within_counted rfl))

def mask_setApply : Nat := 0x200000000000000000000000000000000000000000000000000000000000000000000000000000000000000000000000000000000000000000000000000000000000000000000000000000000000000000000000000000000000000000000000000000000000903000000000000000000000000000003000000048000

theorem within_setApply {s : State} : Within mask_setApply s (setApply s) := by
  unfold setApply
  split
  · rename_i w0 e1
    exact (Within.refl mask_setApply s)
  · rename_i w2 w3 w4 w5 e6
    extract_lets -merge -useContext -underBinder v7 s8 v9 s10 s11 s12
    have hs8 : Within mask_setApply s s8 :=
      (Within.ite
        (Within.refl mask_setApply s)
        ((Within.refl mask_setApply s).step within_State_adj rfl))
    have hs10 : Within mask_setApply s s10 :=
      (hs8.upd_drip rfl)
    have hs11 : Within mask_setApply s s11 :=
      (((hs10.setB key_DRIP_CAL_VALID rfl).setB key_DRIP_BK_LOST rfl).count key_DRIP_SET_CNT rfl)
    have hs12 : Within mask_setApply s s12 :=
      (hs11.set key_DRIP_EPOCH rfl)
    exact (hs12.step within_State_event rfl)

def mask_execCalendarSetApply : Nat := 0x200000000000000000000000000000000000000000000000000000000000000000000000000000000000000000000000000000000000000000000000000000000000000000000000000000000000000000000000000000000000000000000000000000000000903000000000000000000000000000003000000048000

theorem within_execCalendarSetApply {s : State} : WithinO mask_execCalendarSetApply s (execCalendarSetApply s) := by
  unfold execCalendarSetApply
  exact (WithinO.next ((Within.refl mask_execCalendarSetApply s).step within_setApply rfl))

def mask_almFire : Nat := 0x40003cfc000000000000000000000000000000000000000000000000000000000000000002000000000000003000592c79e203207f807c00000000000004400020000000000000000000000000000000000000000000000000000000000000000000000000000000000000000000003003100000100001000000000000000002800083ffffff

theorem within_almFire {s : State} {b1 : Reg} : Within mask_almFire s (almFire s b1) := by
  unfold almFire
  extract_lets -merge -useContext -underBinder s0
  have hs0 : Within mask_almFire s s0 :=
    (((Within.refl mask_almFire s).setBIn (m := 0x80000000) (.inl rfl) rfl).count key_DRIP_ALM_CNT rfl)
  exact (Within.ite
    (hs0.setB key_DRIP_ALM_MISSED rfl)
    (hs0.step within_wakeEvent rfl))

def mask_execCalAlarmFire : Nat := 0x40003cfc000000000002000000000000000000000000000000000000000000000000000002000000000000003000592c79e203207f807c00000000000004400020000000000000000000000000000000000000000000000000000000000000000000000000000000000000000000003903100000100001000000000000000003800083ffffff

theorem within_execCalAlarmFire {s : State} : WithinO mask_execCalAlarmFire s (execCalAlarmFire s) := by
  unfold execCalAlarmFire
  extract_lets -merge -useContext -underBinder s0
  have hs0 : Within mask_execCalAlarmFire s s0 :=
    ((Within.refl mask_execCalAlarmFire s).foldl fun t1 x1 hl1 =>
      (hl1.step within_setApply rfl))
  exact (WithinO.next (Within.ite
    hs0
    (hs0.step within_almFire rfl)))

def mask_execDlyAlarmFire : Nat := 0x40003cfc000000000000000000000000000000000000000000000000000000000000000002000000000000003000592c79e203207f807c00000000000004400020000000000000000000000000000000000000000000000000000000000000000000000000000000000000000000003003100000100001000000000000000002800083ffffff

theorem within_execDlyAlarmFire {s : State} : WithinO mask_execDlyAlarmFire s (execDlyAlarmFire s) := by
  unfold execDlyAlarmFire
  extract_lets -merge -useContext -underBinder v0
  exact (WithinO.next (Within.ite
    (Within.refl mask_execDlyAlarmFire s)
    (((Within.refl mask_execDlyAlarmFire s).upd_drip rfl).step within_almFire rfl)))

end Sys2Proof.Machine
end

