-- ==== Sys2Proof/Laws/FrameTesting.lean ====
section
/-! SUPPORT. What each operation and meaning of Machine/Testing.lean can change: one mask and one lemma each. -/

set_option Elab.async false

namespace Sys2Proof.Machine

def mask_tpWrite : Nat := 0x2000000000000000000000000000000000000000000000000000000000000000000000000000000000000000000000000000000000000000000000000000000000000000000000000000000000000000000000000000000000000000000000000000000000000000000000000000000000000000000000000000000000000000000

theorem within_tpWrite {s : State} {b1 : Src} {b2 : Nat} {b3 : Nat} : WithinP mask_tpWrite s (tpWrite s b1 b2 b3) := by
  unfold tpWrite
  exact (WithinP.ite
    (WithinP.mk (Within.refl mask_tpWrite s))
    (WithinP.mk ((Within.refl mask_tpWrite s).step within_setTpSel rfl)))

def mask_execTpSelWrite : Nat := 0x2000000000000000000000000000000000000000000000000000000000000000000000000000000000000000000000000000000000000000000000000000000000000000000000000000000000000000000000000000000000000000000000000000000000000000000000000000000000000000000000000000002000000000000

theorem within_execTpSelWrite {b0 : Src} {b1 : Fin 16} {b2 : Fin 65536} {s : State} : WithinO mask_execTpSelWrite s (execTpSelWrite b0 b1 b2 s) := by
  unfold execTpSelWrite
  exact (WithinO.next (Within.ite
    (Within.step (WithinP.fst (WithinP.ite
      (WithinP.mk (Within.refl mask_execTpSelWrite s))
      ((Within.refl mask_execTpSelWrite s).stepP within_tpWrite rfl))) within_counted rfl)
    (Within.refl mask_execTpSelWrite s)))

def mask_monClaim : Nat := 0x3e7c02000000000000000000000000000000000000000000000000000000000000000000000000000000000000000000000000000000000000000000000000000000000000000000000000000000000000000000000000000000000000000000000000000000000000000000000000000000000000000000000000000002000000000000

theorem within_monClaim {s : State} {b1 : Nat} {b2 : Nat} {b3 : Nat} : WithinP mask_monClaim s (monClaim s b1 b2 b3) := by
  unfold monClaim
  split
  · rename_i p0 q1 w2 w3 e4
    have hq1 : Within mask_monClaim s q1 := .of_eq e4 ((Within.refl mask_monClaim s).stepP within_State_claim rfl)
    extract_lets -merge -useContext -underBinder s5
    have hs5 : Within mask_monClaim s s5 :=
      (Within.ite
        (hq1.setBit key_RES_HOST_MON rfl)
        hq1)
    exact (WithinP.mk (Within.ite
      (hs5.step within_setTpSel rfl)
      hs5))

def mask_testTorque : Nat := 0x4000000000000000000000000000000000000000000000000000000000000000000000000000000000000000000000

theorem within_testTorque {s : State} {b1 : Nat} : Within mask_testTorque s (testTorque s b1) := by
  unfold testTorque
  exact ((Within.refl mask_testTorque s).set (key_AX_TORQUE_REQ _) rfl)

def mask_testPush : Nat := 0x17e00000800000000000020000273c00139000000000000000000000000000000000000000000000000000000000000000000000000000000020000000400

theorem within_testPush {s : State} {b1 : Nat} {b2 : Int} : Within mask_testPush s (testPush s b1 b2) := by
  unfold testPush
  split
  · rename_i p0 q1 w2 w3 e4
    have hq1 : Within mask_testPush s q1 := .of_eq e4 ((Within.refl mask_testPush s).stepP within_axTarget rfl)
    extract_lets -merge -useContext -underBinder v5
    exact (hq1.step within_putAx rfl)

def mask_testStep : Nat := 0x200000000000000000000000000000000000000000000000000000000000000000000000000000000000000000000000000000000000000000000000000000000000000000000000000000000000000000000000000000000000000000000000000000000000000000000000000000000000000000000000000000000002000000

theorem within_testStep {s : State} {b1 : Nat} : Within mask_testStep s (testStep s b1) := by
  unfold testStep
  extract_lets -merge -useContext -underBinder s0 v1
  have hs0 : Within mask_testStep s s0 :=
    ((Within.refl mask_testStep s).set key_TEST_TEST_STEP rfl)
  exact (hs0.upd_svc rfl)

def mask_testOrigin : Nat := 0x2000000

theorem within_testOrigin {s : State} {b1 : Nat} : Within mask_testOrigin s (testOrigin s b1) := by
  unfold testOrigin
  extract_lets -merge -useContext -underBinder v0
  exact ((Within.refl mask_testOrigin s).upd_svc rfl)

def mask_testBegin : Nat := 0x3e7c02000000000000000000000000000000000000000000000000000000000000000000000008000000008000000000000006000000000000000000000000000000000000000000000000000000000000000000004000000000000000000000000000000000000000000000000000000000000000000000000000000002000002001000

theorem within_testBegin {s : State} {b1 : Sys2Proof.TestName} : Within mask_testBegin s (testBegin s b1) := by
  unfold testBegin
  split
  · rename_i w0
    extract_lets -merge -useContext -underBinder v1
    exact ((Within.refl mask_testBegin s).upd_saf rfl)
  · rename_i w2 w3
    extract_lets -merge -useContext -underBinder v4 s5
    have hs5 : Within mask_testBegin s s5 :=
      ((Within.refl mask_testBegin s).upd_saf rfl)
    exact (hs5.foldl fun t6 x6 hl6 =>
      (WithinP.fst (hl6.stepP within_monClaim rfl)))
  · rename_i w7 w8
    exact (((Within.refl mask_testBegin s).step within_testTorque rfl).step within_testOrigin rfl)
  · rename_i w9 w10
    exact ((Within.refl mask_testBegin s).step within_testTorque rfl)
  · rename_i w11 w12
    exact ((Within.refl mask_testBegin s).step within_testTorque rfl)
  · rename_i w13 w14
    exact ((Within.refl mask_testBegin s).step within_testTorque rfl)
  · rename_i w15 w16
    exact ((Within.refl mask_testBegin s).step within_setGcBit rfl)
  · rename_i w17 w18
    exact ((Within.refl mask_testBegin s).step within_setGcBit rfl)
  · rename_i w19 w20
    exact ((Within.refl mask_testBegin s).setBit key_FIO_FO_OUT rfl)
  · rename_i w21
    exact ((Within.refl mask_testBegin s).step within_testNote rfl)
  · rename_i w22 w23
    extract_lets -merge -useContext -underBinder s24 v25
    have hs24 : Within mask_testBegin s s24 :=
      ((Within.refl mask_testBegin s).set (key_CAN_MODE _) rfl)
    exact (hs24.upd_svc rfl)
  · rename_i w26 e27 e28 e29 e30 e31 e32 e33 e34 e35 e36 e37
    exact (Within.refl mask_testBegin s)

def mask_testStart : Nat := 0x3e7c0fff80000006000000000000000000000000000000000000000000000000000000000000080000000080002c79e003207f807c00000000000000000000000000000000017e00000800000000000000000273c0413d00063f801ffffeb3ffff001fffff3e01ebff7e00000000000000000000000000000000000000038200020cbd00

theorem within_testStart {s : State} {b1 : Sys2Proof.TestName} : Within mask_testStart s (testStart s b1) := by
  unfold testStart
  extract_lets -merge -useContext -underBinder s0 s1 s2 s3 v4 s5 s6
  have hs0 : Within mask_testStart s s0 :=
    ((((Within.refl mask_testStart s).setB key_TEST_TEST_RUN rfl).setB key_TEST_TEST_PASS rfl).setB key_TEST_TEST_FAIL rfl)
  have hs1 : Within mask_testStart s s1 :=
    (((hs0.set key_TEST_TEST_CODE rfl).set key_TEST_TEST_ARG rfl).set key_TEST_TEST_RESULT rfl)
  have hs2 : Within mask_testStart s s2 :=
    (((hs1.set key_TEST_TEST_VAL1 rfl).set key_TEST_TEST_VAL2 rfl).count key_TEST_TEST_RUN_CNT rfl)
  have hs3 : Within mask_testStart s s3 :=
    (hs2.setB key_TEST_M_TEST rfl)
  have hs5 : Within mask_testStart s s5 :=
    (hs3.upd_svc rfl)
  have hs6 : Within mask_testStart s s6 := by
    unfold s6
    split
    · rename_i w7 e8
      exact hs5
    · rename_i w9 w10 e11
      extract_lets -merge -useContext -underBinder s12 s13 v14
      have hs12 : Within mask_testStart s s12 :=
        (hs5.setBit key_TEST_TEST_OWN_DW rfl)
      have hs13 : Within mask_testStart s s13 :=
        (hs12.step within_setState rfl)
      exact (Within.ite
        hs12
        (hs13.step within_State_setDw rfl))
  exact (((((hs6.step within_safetyEval rfl).step within_testStep rfl).step within_testBegin rfl).step within_safetyEval rfl).step within_galEval rfl)

def mask_alignStep : Nat := 0x2000000

theorem within_alignStep {s : State} {b1 : Nat} {b2 : Nat} : Within mask_alignStep s (alignStep s b1 b2) := by
  unfold alignStep
  extract_lets -merge -useContext -underBinder v0
  exact ((Within.refl mask_alignStep s).upd_svc rfl)

def mask_alignJudge : Nat := 0x2000000

theorem within_alignJudge {s : State} {b1 : Nat} {b2 : Int} : Within mask_alignJudge s (alignJudge s b1 b2) := by
  unfold alignJudge
  extract_lets -merge -useContext -underBinder v0 v1
  exact ((Within.refl mask_alignJudge s).step within_testNote rfl)

def mask_canTestFrame : Nat := 0x200000000000000000000000000000000000000000000000000000000000040000000000000000000000000000000000000000000000000000000000000000000000000000000000000000000000000000000000000000000000000000000000000000000000000000000000000000000000000000000000000000000002000000

theorem within_canTestFrame {s : State} {b1 : Nat} : Within mask_canTestFrame s (canTestFrame s b1) := by
  unfold canTestFrame
  exact (Within.ite
    (Within.ite
      ((Within.refl mask_canTestFrame s).count (key_CAN_TX_OK_CNT _) rfl)
      ((Within.refl mask_canTestFrame s).step within_testNote rfl))
    (((Within.refl mask_canTestFrame s).step within_testStep rfl).step within_testSay rfl))

def mask_testTold : Nat := 0x200000000000000000000000000000000000000000000000000000000000000000000000000000000000000000000000000000000000000000000000000000000000000000000000000000000000000000000000000000000000000000000000000000000000000000000000000000000000000000000000000000000002000000

theorem within_testTold {s : State} : Within mask_testTold s (testTold s) := by
  unfold testTold
  exact (((Within.refl mask_testTold s).step within_testSay rfl).step within_testStep rfl)

def mask_testTick : Nat := 0x2000000000000000000000000000000000000000000000000000000000000400000000080000000080002c79e003207f807c00000000000000000000000000000000017e00000800000000000020000273c04139c00000000000000000000000000000000000000000000000000008000000000000000000000000820002001d00

theorem within_testTick {s : State} : Within mask_testTick s (testTick s) := by
  unfold testTick
  extract_lets -merge -useContext -underBinder v0 s1 v2 v3 v4 v5
  have hs1 : Within mask_testTick s s1 :=
    ((Within.refl mask_testTick s).upd_svc rfl)
  exact (Within.ite
    (Within.refl mask_testTick s)
    (by
      split
      · rename_i w6 e7
        exact (Within.ite
          (hs1.step within_testTold rfl)
          hs1)
      · rename_i w8 e9
        exact (Within.ite
          ((hs1.step within_testStep rfl).step within_clocksNext rfl)
          hs1)
      · rename_i w10 e11
        exact (Within.ite
          ((hs1.step within_testStep rfl).step within_testSay rfl)
          hs1)
      · rename_i w12 e13
        exact (Within.ite
          (hs1.step within_canTestFrame rfl)
          hs1)
      · rename_i w14 e15
        exact (Within.ite
          ((hs1.step within_testNote rfl).step within_testTold rfl)
          hs1)
      · rename_i w16 e17
        exact (Within.ite
          (hs1.step within_testTold rfl)
          hs1)
      · rename_i w18 e19
        exact (Within.ite
          (hs1.step within_testTold rfl)
          hs1)
      · rename_i w20 e21
        extract_lets -merge -useContext -underBinder f22
        have hf22 : ∀ x23_0 x23_1, Within mask_testTick s x23_0 → Within mask_testTick s (f22 x23_0 x23_1) :=
          fun x23_0 x23_1 hl23 => by
            unfold f22
            extract_lets -merge -useContext -underBinder v24
            exact (hl23.upd_saf rfl)
        exact (Within.ite
          ((hf22 _ _ hs1).step within_testStep rfl)
          (Within.ite
            ((hf22 _ _ hs1).step within_testStep rfl)
            (Within.ite
              ((hs1.step within_testStep rfl).step within_testSay rfl)
              hs1)))
      · rename_i w25 e26
        exact (Within.ite
          (Within.ite
            (((hs1.step within_testNote rfl).step within_testStep rfl).step within_alignStep rfl)
            hs1)
          (Within.ite
            (Within.ite
              (hs1.step within_alignStep rfl)
              ((hs1.step within_alignJudge rfl).step within_testStep rfl))
            (Within.ite
              (Within.ite
                (hs1.step within_alignStep rfl)
                (((hs1.step within_alignJudge rfl).step within_alignStep rfl).step within_testStep rfl))
              hs1)))
      · rename_i w27 e28
        extract_lets -merge -useContext -underBinder v29 s30
        have hs30 : Within mask_testTick s s30 :=
          (hs1.step within_testNote rfl)
        exact (Within.ite
          (((hs1.step within_testNote rfl).step within_testPush rfl).step within_testStep rfl)
          (Within.ite
            ((hs1.step within_testNote rfl).step within_testStep rfl)
            (Within.ite
              ((hs1.step within_testPush rfl).step within_testStep rfl)
              (Within.ite
                (Within.ite
                  (((hs30.step within_testTorque rfl).step within_testOrigin rfl).step within_testStep rfl)
                  (hs30.step within_testStep rfl))
                (Within.ite
                  ((hs1.step within_testPush rfl).step within_testStep rfl)
                  (Within.ite
                    (((hs1.step within_testNote rfl).step within_testPush rfl).step within_testStep rfl)
                    (Within.ite
                      ((hs1.step within_testNote rfl).step within_testStep rfl)
                      hs1)))))))
      · rename_i w31 e32
        exact (Within.ite
          ((hs1.step within_testPush rfl).step within_testStep rfl)
          hs1)
      · rename_i w33 e34
        exact (Within.ite
          ((WithinP.fst (hs1.stepP within_axHome rfl)).step within_testStep rfl)
          hs1)
      · rename_i w35 e36
        extract_lets -merge -useContext -underBinder v37 v38
        exact (Within.ite
          ((((hs1.step within_testNote rfl).step within_testStep rfl).step within_testOff rfl).step within_galEval rfl)
          hs1)
      · rename_i w39 e40
        exact (Within.ite
          (((hs1.step within_testStep rfl).step within_testOff rfl).step within_galEval rfl)
          hs1)
      · rename_i w41 e42
        exact (Within.ite
          ((hs1.step within_testStep rfl).step within_testOff rfl)
          hs1)
      · rename_i w43 e44 e45 e46 e47 e48 e49 e50 e51 e52 e53 e54 e55 e56 e57 e58
        exact hs1 : Within mask_testTick s _))

def mask_execTestComplete : Nat := 0x7c17c780000000000000000000000000000000000000000000000000000000000000000000080000000080002c79e003207f807c00000000000000000000000000000000017e00000800000000000000000273c0053d00000000047ffe03ffb0001fffff3e41ebff7e0000000000000000000000000000000000000000820002003d00

theorem within_execTestComplete {b0 : Bool} {b1 : Int} {b2 : Int} {b3 : Option (Fin 4096)} {s : State} : WithinO mask_execTestComplete s (execTestComplete b0 b1 b2 b3 s) := by
  unfold execTestComplete
  extract_lets -merge -useContext -underBinder v0 v1 v2 s3 s4 s5 s6 s7 s8
  have hs3 : Within mask_execTestComplete s s3 :=
    (Within.ite
      ((Within.refl mask_execTestComplete s).setB key_COLM_TEST_DUE rfl)
      (Within.refl mask_execTestComplete s))
  have hs4 : Within mask_execTestComplete s s4 := by
    unfold s4
    split
    · rename_i w9 w10
      exact (Within.ite
        (hs3.set (key_AX_EL_OFS _) rfl)
        hs3)
    · rename_i w11
      exact hs3
  have hs5 : Within mask_execTestComplete s s5 :=
    (Within.ite
      (hs4.eachAx fun t12 x12 hl12 =>
        (Within.ite
          (hl12.step within_axAsk rfl)
          hl12))
      hs4)
  have hs6 : Within mask_execTestComplete s s6 :=
    (((hs5.step within_testOff rfl).setB key_TEST_TEST_RUN rfl).step within_testRelease rfl)
  have hs7 : Within mask_execTestComplete s s7 :=
    (((hs6.setB key_TEST_TEST_PASS rfl).setB key_TEST_TEST_FAIL rfl).set key_TEST_TEST_RESULT rfl)
  have hs8 : Within mask_execTestComplete s s8 :=
    (((hs7.setS key_TEST_TEST_VAL1 rfl).setS key_TEST_TEST_VAL2 rfl).step within_testSay rfl)
  exact (WithinO.ite
    (WithinO.next (Within.refl mask_execTestComplete s))
    (WithinO.next (((Within.ite
      hs8
      (hs8.count key_TEST_TEST_FAIL_CNT rfl)).step within_safetyEval rfl).step within_galEval rfl)))

def mask_testDiscards : Nat := 0x40000000000000000000000000000000000000000000000000000000000000000000000000000000000000000000000000000000000000000000000000000000000000000000000000000000000000000000000000000000000000000000000000000000000000000000000000000000000000000000000000000002000000000000

theorem within_testDiscards {s : State} {b1 : Nat} : Within mask_testDiscards s (testDiscards s b1) := by
  unfold testDiscards
  exact (((Within.refl mask_testDiscards s).step within_State_adj rfl).count key_TEST_HOST_DISC_CNT rfl)

def mask_execCycleTick : Nat := 0x2000000006000000000000000000000000000000000000000000000000000400000000080000000080002c79e003207f807c00000000000000000000000000000000017e00000800000000000020000273c0413dc00f7f801ffffeffffff001fffff3e01ebff7e00000000000000080200000000000000000000038200020cbf00

theorem within_execCycleTick {s : State} : WithinO mask_execCycleTick s (execCycleTick s) := by
  unfold execCycleTick
  exact (WithinO.next (Within.ite
    (((((Within.refl mask_execCycleTick s).eachDw fun t0 x0 hl0 =>
      (hl0.step within_dwTick rfl)).step within_testTick rfl).step within_safetyEval rfl).step within_parkSync rfl)
    (Within.refl mask_execCycleTick s)))

end Sys2Proof.Machine
end

