-- ==== Sys2Proof/Laws/FrameBus.lean ====
section
/-! SUPPORT. What each operation and meaning of Machine/Bus.lean can change: one mask and one lemma each. -/

set_option Elab.async false

namespace Sys2Proof.Machine

def mask_indStore : Nat := 0x49810000000000000000000000000000000000000000000000000000000100000000000000000000000000000000000000000000000000000300000003c4fe0000000000000000000000000000000000000000200000000000000000000000000000000000000000000000000000000000d00000000000000000000000000000000000040220

theorem within_indStore {s : State} {b1 : Nat} {b2 : Nat} {b3 : Nat} {b4 : Nat} : WithinP mask_indStore s (indStore s b1 b2 b3 b4) := by
  unfold indStore
  extract_lets -merge -useContext -underBinder v0 s1 v2 v3
  have hs1 : Within mask_indStore s s1 :=
    ((Within.refl mask_indStore s).step within_State_wr32 rfl)
  exact (WithinP.ite
    (WithinP.mk (hs1.upd_pwr rfl))
    (WithinP.ite
      ((Within.refl mask_indStore s).stepP within_dripWrite rfl)
      (WithinP.ite
        (WithinP.ite
          (WithinP.mk (Within.refl mask_indStore s))
          (WithinP.mk ((Within.refl mask_indStore s).wr32To mem_TRV_1 rfl)))
        (WithinP.ite
          (WithinP.ite
            (WithinP.mk (Within.refl mask_indStore s))
            (WithinP.mk (((Within.refl mask_indStore s).setBit (key_AX_PRF_VALID _) rfl).step within_State_wr32 rfl)))
          (WithinP.ite
            ((Within.refl mask_indStore s).stepP within_poseWrite rfl)
            (WithinP.ite
              (WithinP.ite
                (WithinP.mk ((Within.refl mask_indStore s).step within_State_wr32 rfl))
                (WithinP.mk (Within.refl mask_indStore s)))
              (WithinP.ite
                (WithinP.ite
                  (WithinP.mk (Within.refl mask_indStore s))
                  (WithinP.ite
                    (WithinP.mk (((Within.refl mask_indStore s).wr32To mem_MVB_1 rfl).step within_staleEnd rfl))
                    (WithinP.mk (((Within.refl mask_indStore s).wr32To mem_MVB_1 rfl).step within_staleEnd rfl))))
                (WithinP.mk ((Within.refl mask_indStore s).step within_State_wr32 rfl)))))))))

def mask_indComplete : Nat := 0x49810000000000000000000000000000000000000000000000000000000100000000000000000000000000000000000000000000000000000300000003c4fe0000000000000000000000000000000000000000200000000000000000000000000000000000000000000000000000000000d00000000000000000000000000000000000040228

theorem within_indComplete {s : State} {b1 : Nat} {b2 : Src} : WithinP mask_indComplete s (indComplete s b1 b2) := by
  unfold indComplete
  extract_lets -merge -useContext -underBinder v0
  split
  · rename_i w1 e2
    exact (WithinP.mk (Within.refl mask_indComplete s))
  · rename_i w3 w4 w5 w6 e7
    extract_lets -merge -useContext -underBinder s8
    have hs8 : Within mask_indComplete s s8 :=
      ((Within.refl mask_indComplete s).step within_State_setPair rfl)
    exact (WithinP.ite
      (hs8.stepP within_indStore rfl)
      (WithinP.mk hs8))

def mask_indPosted : Nat := 0x49810000000000000000000000000000000000000000000000000000000100000000000000000000000000000000000000000000000000000300000003c4fe0000000000000000000000000000000000000000200000000000000000000000000000000000000000000000000000000000d00000000000000000000000000002000000040228

theorem within_indPosted {s : State} {b1 : Nat} {b2 : Src} : Within mask_indPosted s (indPosted s b1 b2) := by
  unfold indPosted
  exact (Within.step (WithinP.fst ((Within.refl mask_indPosted s).stepP within_indComplete rfl)) within_counted rfl)

def mask_indFetched : Nat := 0x400008

theorem within_indFetched {s : State} {b1 : Nat} {b2 : Src} : Within mask_indFetched s (indFetched s b1 b2) := by
  unfold indFetched
  extract_lets -merge -useContext -underBinder v0 v1 s2
  have hs2 : Within mask_indFetched s s2 :=
    (Within.ite
      ((Within.refl mask_indFetched s).step within_mvbLatch rfl)
      (Within.refl mask_indFetched s))
  exact (Within.ite
    (Within.refl mask_indFetched s)
    (hs2.step within_State_setPair rfl))

def mask_indSettle : Nat := 0x49810000000000000000000000000000000000000000000000000000000100000000000000000000000000000000000000000000000000000300000003c4fe0000000000000000000000000000000000000000200000000000000000000000000000000000000000000000000000000000d00000000000000000000000000002000000440228

theorem within_indSettle {s : State} {b1 : Nat} {b2 : Src} : Within mask_indSettle s (indSettle s b1 b2) := by
  unfold indSettle
  exact (((Within.refl mask_indSettle s).step within_indPosted rfl).step within_indFetched rfl)

def mask_indAdvance : Nat := 0x8

theorem within_indAdvance {s : State} {b1 : Nat} {b2 : Src} : Within mask_indAdvance s (indAdvance s b1 b2) := by
  unfold indAdvance
  extract_lets -merge -useContext -underBinder v0
  exact (Within.ite
    (Within.refl mask_indAdvance s)
    ((Within.refl mask_indAdvance s).step within_State_setPair rfl))

def mask_indRead : Nat := 0x49810000000000000000000000000000000000000000000000000000000100000000000000000000000000000000000000000000000000000300000003c4fe0000000000000000000000000000000000000000200000000000000000000000000000000000000000000000000000000000d00000000000000000000000000002000000440268

theorem within_indRead {s : State} {b1 : Nat} {b2 : Src} : Within mask_indRead s (indRead s b1 b2) := by
  unfold indRead
  extract_lets -merge -useContext -underBinder s0 v1 v2 s3 s4
  have hs0 : Within mask_indRead s s0 :=
    ((Within.refl mask_indRead s).step within_indSettle rfl)
  have hs3 : Within mask_indRead s s3 :=
    (Within.ite
      (hs0.step within_State_adj rfl)
      hs0)
  have hs4 : Within mask_indRead s s4 :=
    (hs3.step within_indAdvance rfl)
  exact (hs4.upd_rdata rfl)

def mask_indData : Nat := 0x8

theorem within_indData {s : State} {b1 : Nat} {b2 : Src} {b3 : Nat} : WithinP mask_indData s (indData s b1 b2 b3) := by
  unfold indData
  extract_lets -merge -useContext -underBinder v0
  exact (WithinP.ite
    (WithinP.mk (Within.refl mask_indData s))
    (WithinP.mk (((Within.refl mask_indData s).step within_State_setPair rfl).step within_indAdvance rfl)))

def mask_indAddr : Nat := 0x8

theorem within_indAddr {s : State} {b1 : Nat} {b2 : Src} {b3 : Nat} : WithinP mask_indAddr s (indAddr s b1 b2 b3) := by
  unfold indAddr
  extract_lets -merge -useContext -underBinder v0 v1 v2
  exact (WithinP.mk ((Within.refl mask_indAddr s).step within_State_setPair rfl))

def mask_indCtrl : Nat := 0x8

theorem within_indCtrl {s : State} {b1 : Nat} {b2 : Src} {b3 : Nat} {b4 : Bool} : WithinP mask_indCtrl s (indCtrl s b1 b2 b3 b4) := by
  unfold indCtrl
  extract_lets -merge -useContext -underBinder v0 v1
  exact (WithinP.mk ((Within.refl mask_indCtrl s).step within_State_setPair rfl))

def mask_indWrite : Nat := 0x49810000000000000000000000000000000000000000000000000000000100000000000000000000000000000000000000000000000000000300000003c4fe0000000000000000000000000000000000000000200000000000000000000000000000000000000000000000000000000000d00000000000000000000000000002000000440228

theorem within_indWrite {s : State} {b1 : Wr} : WithinP mask_indWrite s (indWrite s b1) := by
  unfold indWrite
  extract_lets -merge -useContext -underBinder v0 v1 v2 v3 v4 s5
  have hs5 : Within mask_indWrite s s5 :=
    ((Within.refl mask_indWrite s).step within_indSettle rfl)
  exact (WithinP.ite
    (WithinP.mk (Within.refl mask_indWrite s))
    (WithinP.ite
      (WithinP.mk (Within.refl mask_indWrite s))
      (WithinP.ite
        (WithinP.mk (Within.refl mask_indWrite s))
        (WithinP.ite
          (WithinP.mk (Within.refl mask_indWrite s))
          (by
            split
            · rename_i p6 q7 w8 e9
              have hq7 : Within mask_indWrite s q7 := .of_eq e9 (WithinP.ite
            (hs5.stepP within_indAddr rfl)
            (WithinP.ite
              (hs5.stepP within_indData rfl)
              (hs5.stepP within_indCtrl rfl)))
              exact (WithinP.mk hq7) : WithinP mask_indWrite s _)))))

def mask_ctrlWritten : Nat := 0x7c00000000000000000000000000000000000080032c400080000000000000000000800000000001c00080002c79e203207f807c000380000023c0be07ce0020001f3ff6000000000000000000000000000000004000000000000000000000000000000000000000000000000000000000000000000000000000200001880000811d00

theorem within_ctrlWritten {b0 : State} {s : State} {b2 : Nat} : Within mask_ctrlWritten s (ctrlWritten b0 s b2) := by
  unfold ctrlWritten
  exact (Within.ite
    ((Within.refl mask_ctrlWritten s).step within_axEnWritten rfl)
    (Within.ite
      ((Within.refl mask_ctrlWritten s).eachAx fun t0 x0 hl0 =>
        (hl0.step within_axEnWritten rfl))
      (Within.ite
        (((Within.refl mask_ctrlWritten s).step within_portSync rfl).step within_visionEval rfl)
        (Within.ite
          ((Within.refl mask_ctrlWritten s).step within_visionEval rfl)
          (Within.ite
            ((Within.refl mask_ctrlWritten s).step within_galEnWritten rfl)
            (Within.ite
              ((Within.refl mask_ctrlWritten s).step within_fioEnWritten rfl)
              (Within.ite
                ((((Within.refl mask_ctrlWritten s).step within_canEnWritten rfl).step within_canLpWritten rfl).step within_versionsAgain rfl)
                (Within.refl mask_ctrlWritten s))))))))

def mask_settled : Nat := 0x100000000000000000000000000000000000000000000000000019b2000000000000000000000000000000000020000000000000000000000000000000000000000000000000000000000000000000000000000000000000000000000000000000000000000000000000000000000000000000000000000000

theorem within_settled {s : State} {b1 : Nat} {b2 : Nat} : WithinP mask_settled s (settled s b1 b2) := by
  unfold settled
  extract_lets -merge -useContext -underBinder v0 v1 v2 v3
  exact (WithinP.ite
    (WithinP.ite
      (WithinP.mk ((Within.refl mask_settled s).set key_FLOW_NPAGE rfl))
      (WithinP.mk (Within.refl mask_settled s)))
    (WithinP.ite
      (WithinP.ite
        (WithinP.mk ((Within.refl mask_settled s).set (key_LVOLD_SLAB_Z_HI _) rfl))
        (WithinP.mk (Within.refl mask_settled s)))
      (WithinP.ite
        (WithinP.ite
          ((Within.refl mask_settled s).stepP within_formatFix rfl)
          (WithinP.ite
            ((Within.refl mask_settled s).stepP within_nominalFix rfl)
            (WithinP.ite
              ((Within.refl mask_settled s).stepP within_fdFix rfl)
              (WithinP.ite
                ((Within.refl mask_settled s).stepP within_xlFix rfl)
                (WithinP.mk (Within.refl mask_settled s))))))
        (WithinP.mk (Within.refl mask_settled s)))))

def mask_axWritten : Nat := 0x3d7c00000000000000000000000000000000000000000000000000000000000000000000000000000000000000000000000000000000000000000000000000000000000000017e00046e0100000004000000f273c0213b000000000000000000000000000000000000000000000000000000000000000000000000000002020000000400

theorem within_axWritten {b0 : State} {s : State} {b2 : Nat} {b3 : Nat} : WithinP mask_axWritten s (axWritten b0 s b2 b3) := by
  unfold axWritten
  extract_lets -merge -useContext -underBinder s0
  have hs0 : Within mask_axWritten s s0 :=
    (Within.ite
      ((Within.refl mask_axWritten s).step within_torqueWithdrawn rfl)
      (Within.refl mask_axWritten s))
  exact (WithinP.ite
    (WithinP.mk (Within.ite
      (hs0.step within_axModeWritten rfl)
      hs0))
    (WithinP.ite
      (WithinP.mk ((Within.refl mask_axWritten s).step within_devWinWritten rfl))
      (WithinP.ite
        ((Within.refl mask_axWritten s).stepP within_vlimWritten rfl)
        (WithinP.ite
          ((Within.refl mask_axWritten s).stepP within_vlimWritten rfl)
          (WithinP.mk ((Within.ite
            ((Within.refl mask_axWritten s).step within_envClear rfl)
            (Within.refl mask_axWritten s)).step within_axShow rfl))))))

def mask_written : Nat := 0x3dfc26448000000600000007f00400000000000080032c400080000000000000100001e008000800ffc00080482c79e203207f807c000380000123c4fe07ee0020001f3ff6017e00046e0100000004000000f273c0613f00063f801ffffeb3ffff001fffff3e01ebff7e00000000000040208200010000140000022000038a0002ddbf00

theorem within_written {b0 : State} {s : State} {b2 : Nat} {b3 : Nat} : WithinP mask_written s (written b0 s b2 b3) := by
  unfold written
  extract_lets -merge -useContext -underBinder v0
  exact (WithinP.ite
    (WithinP.mk ((Within.refl mask_written s).step within_ctrlWritten rfl))
    (WithinP.ite
      (WithinP.mk (Within.refl mask_written s))
      (WithinP.ite
        ((Within.refl mask_written s).stepP within_axWritten rfl)
        (WithinP.mk (Within.ite
          (Within.ite
            ((Within.refl mask_written s).step within_step4 rfl)
            (Within.ite
              ((Within.refl mask_written s).upd_pwr rfl)
              (Within.refl mask_written s)))
          (Within.ite
            (Within.ite
              ((Within.refl mask_written s).step within_modeReqWritten rfl)
              (Within.refl mask_written s))
            (Within.ite
              (Within.ite
                ((Within.refl mask_written s).set key_CLK_APP_NOW rfl)
                (Within.refl mask_written s))
              (Within.ite
                ((Within.refl mask_written s).step within_bootConfirmed rfl)
                (Within.ite
                  (Within.ite
                    ((Within.refl mask_written s).step within_galEval rfl)
                    ((Within.refl mask_written s).step within_followWritten rfl))
                  (Within.ite
                    (Within.ite
                      ((Within.refl mask_written s).step within_thrWritten rfl)
                      (Within.refl mask_written s))
                    (Within.ite
                      (Within.ite
                        (((Within.refl mask_written s).step within_canShow rfl).step within_versionsAgain rfl)
                        (Within.refl mask_written s))
                      (Within.ite
                        ((Within.refl mask_written s).step within_tailWritten rfl)
                        (Within.ite
                          ((Within.refl mask_written s).step within_versionsAgain rfl)
                          (Within.ite
                            (Within.ite
                              ((Within.refl mask_written s).step within_latchClass rfl)
                              (Within.ite
                                ((Within.refl mask_written s).step within_nandPower rfl)
                                (Within.refl mask_written s)))
                            (Within.refl mask_written s)))))))))))))))

def mask_command : Nat := 0x42003cfc00000000018240060100001038000000000000032c400080000000000000130001e988000000ff100000592c79e203207f807c000380000123c4fe07ee012000073fb6017e0600080400000000003ba00273c00139c10000000000000000000000000000000000000000002003000000000001000000100000200003820083ffffff

theorem within_command {s : State} {b1 : Src} {b2 : Nat} {b3 : Nat} {b4 : Nat} : WithinP mask_command s (command s b1 b2 b3 b4) := by
  unfold command
  extract_lets -merge -useContext -underBinder v0
  exact (WithinP.ite
    (WithinP.ite
      (WithinP.ite
        (WithinP.mk (WithinP.fst ((Within.refl mask_command s).stepP within_restartAsked rfl)))
        (WithinP.mk (Within.refl mask_command s)))
      (WithinP.mk (Within.refl mask_command s)))
    (WithinP.ite
      ((Within.refl mask_command s).stepP within_cycReq rfl)
      (WithinP.ite
        (WithinP.ite
          ((Within.refl mask_command s).stepP within_axCommand rfl)
          ((Within.refl mask_command s).stepP within_prfCommit rfl))
        (WithinP.ite
          ((Within.refl mask_command s).stepP within_trvGo rfl)
          (WithinP.ite
            (by
              split
              · rename_i p1 q2 w3 e4
                have hq2 : Within mask_command s q2 := .of_eq e4 ((Within.refl mask_command s).stepP within_lhCommand rfl)
                exact (WithinP.mk (hq2.step within_visionEval rfl)) : WithinP mask_command s _)
            (WithinP.ite
              (by
                split
                · rename_i p5 q6 w7 e8
                  have hq6 : Within mask_command s q6 := .of_eq e8 (WithinP.ite
                ((Within.refl mask_command s).stepP within_lqAck rfl)
                ((Within.refl mask_command s).stepP within_bgCommand rfl))
                  exact (WithinP.mk (hq6.step within_visionEval rfl)) : WithinP mask_command s _)
              (WithinP.ite
                ((Within.refl mask_command s).stepP within_galCommand rfl)
                (WithinP.ite
                  (WithinP.ite
                    ((Within.refl mask_command s).stepP within_canCommand rfl)
                    (WithinP.ite
                      ((Within.refl mask_command s).stepP within_txCommand rfl)
                      ((Within.refl mask_command s).stepP within_rxAck rfl)))
                  (WithinP.ite
                    ((Within.refl mask_command s).stepP within_lglCommand rfl)
                    (WithinP.ite
                      ((Within.refl mask_command s).stepP within_flowCommand rfl)
                      (WithinP.ite
                        (WithinP.mk ((Within.refl mask_command s).step within_State_setFlow rfl))
                        ((Within.refl mask_command s).stepP within_exportAck rfl))))))))))))

def mask_resReg : Nat := 0x38000000000000000000000000000000000000000000000000000000000000000000000000000000000000000000000000000000000000000000000000000000000000000000000000000000000000000000000000000000000000000000000000000000000000000000000000000000000000000000000000000000000000000000000

theorem inregs_resReg {b0 : Nat} : InRegs mask_resReg (resReg b0).key := by
  unfold resReg
  repeat' split
  · exact .of1 1015 key_RES_HOST_DIR rfl
  · exact .of1 1016 key_RES_HOST_CSTEP rfl
  · exact .of1 1017 key_RES_HOST_MON rfl

def mask_resBit : Nat := 0x3ffc02000000000000000000000000000000000000000000000000000000000000000000000000000000000000000000000000000000000000000000000000000000000000000000000000000000000000000000000000000000000000000000000000000000000000000000000000000000000000000000000000000002000000000000

theorem within_resBit_from {s : State} {b0 : Nat} {b1 : Nat} {b2 : Bool} {r : Wrote} (h0 : WithinP mask_resBit s r) : WithinP mask_resBit s (resBit b0 b1 b2 r) := by
  unfold resBit
  split
  · rename_i p0 q1 w2
    extract_lets -merge -useContext -underBinder s3 v4
    have hs3 : Within mask_resBit s s3 :=
      (Within.ite
        ((WithinP.fst h0).step within_setTpSel rfl)
        (WithinP.fst h0))
    exact (WithinP.ite
      (WithinP.mk (WithinP.fst h0))
      (WithinP.ite
        (WithinP.mk ((hs3.step within_State_release rfl).setBitIn (m := 0x38000000000000000000000000000000000000000000000000000000000000000000000000000000000000000000000000000000000000000000000000000000000000000000000000000000000000000000000000000000000000000000000000000000000000000000000000000000000000000000000000000000000000000000000) inregs_resReg rfl))
        (WithinP.ite
          (WithinP.mk (WithinP.fst h0))
          (by
            split
            · rename_i p5 q6 w7 w8 e9
              have hq6 : Within mask_resBit s q6 := .of_eq e9 ((WithinP.fst h0).stepP within_State_claim rfl)
              exact (WithinP.ite
                (WithinP.mk (hq6.setBitIn (m := 0x38000000000000000000000000000000000000000000000000000000000000000000000000000000000000000000000000000000000000000000000000000000000000000000000000000000000000000000000000000000000000000000000000000000000000000000000000000000000000000000000000000000000000000000000) inregs_resReg rfl))
                (WithinP.mk (hq6.set (key_HDR_PG_ADJ_CNT _) rfl))) : WithinP mask_resBit s _))))

theorem within_resBit {b0 : Nat} {b1 : Nat} {b2 : Bool} {r : Wrote} : WithinP mask_resBit r.1 (resBit b0 b1 b2 r) := within_resBit_from (Within.refl _ _)

def mask_resWrite : Nat := 0x3ffc02000000000000000000000000000000000000000000000000000000000000000000000000000000000000000000000000000000000000000000000000000000000000000000000000000000000000000000000000000000000000000000000000000000000000000000000000000000000000000000000000000002000000000000

theorem within_resWrite_go {cls mask v n : Nat} {p : Wrote} : WithinP mask_resWrite p.1 (resWrite.go cls mask v n p) := by
  induction n with
  | zero => exact .refl _ _
  | succ n ih =>
    unfold resWrite.go
    extract_lets -merge -useContext -underBinder r
    exact .ite (Within.step (s := r.1) ih within_resBit rfl) ih

theorem within_resWrite {s : State} {b1 : Nat} {b2 : Nat} {b3 : Nat} : WithinP mask_resWrite s (resWrite s b1 b2 b3) := by
  unfold resWrite
  exact (Within.stepP (WithinP.mk (Within.refl mask_resWrite s)) within_resWrite_go rfl)

def mask_wideWrite : Nat := 0x3dfc26448000000600000007f00400000000000080032c400080000000000000100001e008000800ffc00080482c79e203207f807c000380000123c4fe07ee0020001f3ff6017e00046e0100000004000000f273c0613f00063f801ffffeb3ffff001fffff3e01ebff7e00000000000040208200010000140000022000038a0082ddbf04

theorem within_wideWrite {s : State} {b1 : Wr} {b2 : Bool} : WithinP mask_wideWrite s (wideWrite s b1 b2) := by
  unfold wideWrite
  extract_lets -merge -useContext -underBinder v0 v1 v2
  split
  · rename_i w3 w4 w5 w6 e7 e8
    exact (WithinP.ite
      ((Within.refl mask_wideWrite s).stepP within_wideHigh rfl)
      (by
        split
        · rename_i p9 q10 w11 e12
          have hq10 : Within mask_wideWrite s q10 := .of_eq e12 ((Within.refl mask_wideWrite s).stepP within_wideLow rfl)
          split
          · rename_i p13 q14 w15 e16
            have hq14 : Within mask_wideWrite s q14 := .of_eq e16 (WithinP.ite
        (WithinP.mk hq10)
        (hq10.stepP within_written rfl))
            exact (WithinP.mk hq14) : WithinP mask_wideWrite s _))
  · rename_i w17 w18 e19
    exact (WithinP.mk (Within.refl mask_wideWrite s))

def mask_tpWord : Nat := 0x2000000000000000000000000000000000000000000000000000000000000000000000000000000000000000000000000000000000000000000000000000000000000000000000000000000000000000000000000000000000000000000000000000000000000000000000000000000000000000000000000000000000000000000

theorem within_tpWord {s : State} {b1 : Wr} : WithinP mask_tpWord s (tpWord s b1) := by
  unfold tpWord
  extract_lets -merge -useContext -underBinder v0 v1
  exact (WithinP.ite
    (WithinP.mk (Within.refl mask_tpWord s))
    (by
      split
      · rename_i p2 q3 w4 e5
        have hq3 : Within mask_tpWord s q3 := .of_eq e5 (WithinP.ite
      ((Within.refl mask_tpWord s).stepP within_tpWrite rfl)
      (WithinP.mk (Within.refl mask_tpWord s)))
        split
        · rename_i p6 q7 w8 e9
          have hq7 : Within mask_tpWord s q7 := .of_eq e9 (WithinP.ite
      (hq3.stepP within_tpWrite rfl)
      (WithinP.mk hq3))
          exact (WithinP.mk hq7) : WithinP mask_tpWord s _))

def mask_mapWord : Nat := 0x10000000000000000000000000000000000000000000000000000000000000000000000000000000000000000000000000000000000000000000000000000000000000000000000000000000000000000000000000000800

theorem within_mapWord {s : State} {b1 : Wr} {b2 : Nat} : WithinP mask_mapWord s (mapWord s b1 b2) := by
  unfold mapWord
  extract_lets -merge -useContext -underBinder v0 v1
  exact (WithinP.ite
    (WithinP.mk (Within.refl mask_mapWord s))
    (WithinP.mk (((Within.refl mask_mapWord s).set (key_CRAWL_CRAWL_MAP _) rfl).step within_mapWritten rfl)))

def mask_putWord : Nat := 0x80000000

theorem within_putWord {s : State} {b1 : Nat} {b2 : Nat} : Within mask_putWord s (putWord s b1 b2) := by
  unfold putWord
  exact ((Within.refl mask_putWord s).foldl fun t0 x0 hl0 =>
    (Within.ite
      hl0
      (hl0.setIn (m := 0x80000000) (.inl rfl) rfl)))

def mask_replay : Nat := 0x3dfc26448000000600000007f00400000000000080032c400080000000000000100001e008000800ffc00080482c79e203207f807c000380000123c4fe07ee0020001f3ff6017e00046e0100000004000000f273c0613f00063f801ffffeb3ffff001fffff3e01ebff7e00000000000040208200010000140000022000038a0082ddbf10

theorem within_replay {s : State} {b1 : Nat} : Within mask_replay s (replay s b1) := by
  unfold replay
  extract_lets -merge -useContext -underBinder v0 s1 s2
  have hs1 : Within mask_replay s s1 :=
    ((Within.refl mask_replay s).upd_deferred rfl)
  have hs2 : Within mask_replay s s2 :=
    (hs1.foldl fun t3 x3 hl3 =>
      (hl3.step within_putWord rfl))
  exact (hs2.foldl fun t4 x4 hl4 =>
    (WithinP.fst ((hl4.step within_putWord rfl).stepP within_written rfl)))

def mask_regWrite : Nat := 0x4b813ffc26448000018640060117f01438000000000080032c400080000100000000130001e98819ba00ffd00080592c79e203207f807c000380200123c4fe07ee0120001f3ff6017e06046e0500000004003ba0f273c0613fc1063f801ffffeb3ffff001fffff3e01ebff7e0000002003d040208200010000141000022000038a0083ffffff

theorem within_regWrite {s : State} {b1 : Wr} : WithinP mask_regWrite s (regWrite s b1) := by
  unfold regWrite
  extract_lets -merge -useContext -underBinder v0 v1 v2
  exact (WithinP.ite
    ((Within.refl mask_regWrite s).stepP within_indWrite rfl)
    (WithinP.ite
      (WithinP.mk (Within.refl mask_regWrite s))
      (WithinP.ite
        (WithinP.ite
          (WithinP.mk (Within.refl mask_regWrite s))
          (WithinP.ite
            (WithinP.mk (Within.refl mask_regWrite s))
            (WithinP.ite
              (WithinP.mk (Within.refl mask_regWrite s))
              ((Within.refl mask_regWrite s).stepP within_command rfl))))
        (WithinP.ite
          (WithinP.ite
            (WithinP.mk (Within.refl mask_regWrite s))
            ((Within.refl mask_regWrite s).stepP within_wideWrite rfl))
          (WithinP.ite
            (WithinP.ite
              (WithinP.mk ((Within.refl mask_regWrite s).step within_State_unstage rfl))
              ((Within.refl mask_regWrite s).stepP within_wideWrite rfl))
            (WithinP.ite
              ((Within.refl mask_regWrite s).stepP within_tpWord rfl)
              (WithinP.ite
                (WithinP.ite
                  (WithinP.mk (Within.refl mask_regWrite s))
                  (by
                    split
                    · rename_i p3 q4 w5 e6
                      have hq4 : Within mask_regWrite s q4 := .of_eq e6 ((Within.refl mask_regWrite s).stepP within_resWrite rfl)
                      exact (WithinP.mk hq4) : WithinP mask_regWrite s _))
                (WithinP.ite
                  ((Within.refl mask_regWrite s).stepP within_mapWord rfl)
                  (by
                    split
                    · rename_i p7 q8 w9 e10
                      have hq8 : Within mask_regWrite s q8 := .of_eq e10 ((Within.refl mask_regWrite s).stepP within_storeWord rfl)
                      exact (WithinP.ite
                        (WithinP.mk hq8)
                        (by
                          split
                          · rename_i p11 q12 w13 e14
                            have hq12 : Within mask_regWrite s q12 := .of_eq e14 (hq8.stepP within_settled rfl)
                            exact (WithinP.ite
                              (WithinP.mk (Within.ite
                                hq12
                                (hq12.upd_deferred rfl)))
                              (by
                                split
                                · rename_i p15 q16 w17 e18
                                  have hq16 : Within mask_regWrite s q16 := .of_eq e18 ((hq12.step within_State_undefer rfl).stepP within_written rfl)
                                  exact (WithinP.mk hq16) : WithinP mask_regWrite s _)) : WithinP mask_regWrite s _)) : WithinP mask_regWrite s _)))))))))

def mask_pageWrite : Nat := 0x4b813ffc66448000018640060117f01438000000000080032c400080000100000000130001e98819ba00ffd00080592c79e203207f807c000380200123c4fe07ee0120001f3ff6017e06046e0500000004003ba0f273c0613fc1063f801ffffeb3ffff001fffff3e01ebff7e0000002003d040208200010000141000022000038a0083ffffff

theorem within_pageWrite {s : State} {b1 : Wr} : Within mask_pageWrite s (pageWrite s b1) := by
  unfold pageWrite
  extract_lets -merge -useContext -underBinder v0
  exact (Within.ite
    ((Within.refl mask_pageWrite s).step within_State_adj rfl)
    (Within.ite
      ((Within.ite
        ((Within.refl mask_pageWrite s).step within_State_unstage rfl)
        (Within.refl mask_pageWrite s)).step within_testDiscards rfl)
      (Within.ite
        ((Within.refl mask_pageWrite s).step within_testDiscards rfl)
        (Within.ite
          ((WithinP.fst ((Within.refl mask_pageWrite s).stepP within_regWrite rfl)).step within_testDiscards rfl)
          (Within.step (WithinP.fst ((Within.refl mask_pageWrite s).stepP within_regWrite rfl)) within_counted rfl)))))

def mask_aliasWrite : Nat := 0x4b813ffc66448000018640060117f01438000000000080032c400080000100000000130001e98819ba00ffd00080592c79e203207f807c000380200123c4fe07ee0120001f3ff6017e06046e0500000004003ba0f273c0613fc1063f801ffffeb3ffff001fffff3e01ebff7e0000002003d040208200010000141000022000038a0083ffffff

theorem within_aliasWrite {s : State} {b1 : Src} {b2 : Nat} {b3 : Nat} {b4 : Nat} : Within mask_aliasWrite s (aliasWrite s b1 b2 b3 b4) := by
  unfold aliasWrite
  extract_lets -merge -useContext -underBinder v0 v1
  exact (Within.ite
    ((Within.refl mask_aliasWrite s).step within_State_adj rfl)
    (Within.ite
      ((Within.refl mask_aliasWrite s).step within_State_adj rfl)
      ((Within.refl mask_aliasWrite s).step within_pageWrite rfl)))

def mask_busWrite : Nat := 0x4b813ffc66448000018640060117f01438000000000080032c400080000100000000130001e98819ba00ffd00080592c79e203207f807c000380200123c4fe07ee0120001f3ff6017e06046e0500000004003ba0f273c0613fc1063f801ffffeb3ffff001fffff3e01ebff7e0000002003d040208200010000141000022000038a0083ffffff

theorem within_busWrite {s : State} {b1 : Src} {b2 : Nat} {b3 : Nat} {b4 : Nat} : Within mask_busWrite s (busWrite s b1 b2 b3 b4) := by
  unfold busWrite
  extract_lets -merge -useContext -underBinder v0
  exact (Within.ite
    (Within.refl mask_busWrite s)
    (Within.ite
      (Within.ite
        (((Within.refl mask_busWrite s).step within_pageWrite rfl).step within_pageWrite rfl)
        ((Within.refl mask_busWrite s).step within_pageWrite rfl))
      (Within.ite
        ((Within.refl mask_busWrite s).step within_aliasWrite rfl)
        (Within.ite
          (((Within.refl mask_busWrite s).step within_State_adj rfl).step within_State_adj rfl)
          ((Within.refl mask_busWrite s).step within_State_adj rfl)))))

def mask_wordWrite : Nat := 0x4b813ffc66448000018640060117f01438000000000080032c400080000100000000130001e98819ba00ffd00080592c79e203207f807c000380200123c4fe07ee0120001f3ff6017e06046e0500000004003ba0f273c0613fc1063f801ffffeb3ffff001fffff3e01ebff7e0000002003d040208200010000141000022000038a0083ffffff

theorem within_wordWrite {s : State} {b1 : Src} {b2 : Nat} {b3 : Nat} {b4 : Nat} : Within mask_wordWrite s (wordWrite s b1 b2 b3 b4) := by
  unfold wordWrite
  exact ((Within.refl mask_wordWrite s).step within_busWrite rfl)

def mask_execRegisterWrite : Nat := 0x4b813ffc66448000018640060117f01438000000000080032c400080000100000000130001e98819ba00ffd00080592c79e203207f807c000380200123c4fe07ee0120001f3ff6017e06046e0500000004003ba0f273c0613fc1063f801ffffeb3ffff001fffff3e01ebff7e0000002003d040208200010000141000022000038a0083ffffff

theorem within_execRegisterWrite {b0 : Src} {b1 : Word} {b2 : Width} {b3 : BitVec 64} {s : State} : WithinO mask_execRegisterWrite s (execRegisterWrite b0 b1 b2 b3 s) := by
  unfold execRegisterWrite
  exact (WithinO.next ((Within.refl mask_execRegisterWrite s).step within_busWrite rfl))

def mask_execBitAliasWrite : Nat := 0x4b813ffc66448000018640060117f01438000000000080032c400080000100000000130001e98819ba00ffd00080592c79e203207f807c000380200123c4fe07ee0120001f3ff6017e06046e0500000004003ba0f273c0613fc1063f801ffffeb3ffff001fffff3e01ebff7e0000002003d040208200010000141000022000038a0083ffffff

theorem within_execBitAliasWrite {b0 : Src} {b1 : Word} {b2 : Width} {b3 : Word} {s : State} : WithinO mask_execBitAliasWrite s (execBitAliasWrite b0 b1 b2 b3 s) := by
  unfold execBitAliasWrite
  exact (WithinO.next ((Within.refl mask_execBitAliasWrite s).step within_busWrite rfl))

def mask_execWideHighWrite : Nat := 0x4b813ffc66448000018640060117f01438000000000080032c400080000100000000130001e98819ba00ffd00080592c79e203207f807c000380200123c4fe07ee0120001f3ff6017e06046e0500000004003ba0f273c0613fc1063f801ffffeb3ffff001fffff3e01ebff7e0000002003d040208200010000141000022000038a0083ffffff

theorem within_execWideHighWrite {b0 : Src} {b1 : Word} {b2 : Word} {s : State} : WithinO mask_execWideHighWrite s (execWideHighWrite b0 b1 b2 s) := by
  unfold execWideHighWrite
  exact (WithinO.next ((Within.refl mask_execWideHighWrite s).step within_busWrite rfl))

def mask_execWideLowWrite : Nat := 0x4b813ffc66448000018640060117f01438000000000080032c400080000100000000130001e98819ba00ffd00080592c79e203207f807c000380200123c4fe07ee0120001f3ff6017e06046e0500000004003ba0f273c0613fc1063f801ffffeb3ffff001fffff3e01ebff7e0000002003d040208200010000141000022000038a0083ffffff

theorem within_execWideLowWrite {b0 : Src} {b1 : Word} {b2 : Word} {s : State} : WithinO mask_execWideLowWrite s (execWideLowWrite b0 b1 b2 s) := by
  unfold execWideLowWrite
  exact (WithinO.next ((Within.refl mask_execWideLowWrite s).step within_busWrite rfl))

def mask_execIndAddrWrite : Nat := 0x4b813ffc66448000018640060117f01438000000000080032c400080000100000000130001e98819ba00ffd00080592c79e203207f807c000380200123c4fe07ee0120001f3ff6017e06046e0500000004003ba0f273c0613fc1063f801ffffeb3ffff001fffff3e01ebff7e0000002003d040208200010000141000022000038a0083ffffff

theorem within_execIndAddrWrite {b0 : Src} {b1 : Fin 256} {b2 : Word} {s : State} : WithinO mask_execIndAddrWrite s (execIndAddrWrite b0 b1 b2 s) := by
  unfold execIndAddrWrite
  exact (WithinO.next ((Within.refl mask_execIndAddrWrite s).step within_wordWrite rfl))

def mask_execIndCtrlWrite : Nat := 0x4b813ffc66448000018640060117f01438000000000080032c400080000100000000130001e98819ba00ffd00080592c79e203207f807c000380200123c4fe07ee0120001f3ff6017e06046e0500000004003ba0f273c0613fc1063f801ffffeb3ffff001fffff3e01ebff7e0000002003d040208200010000141000022000038a0083ffffff

theorem within_execIndCtrlWrite {b0 : Src} {b1 : Fin 256} {b2 : Word} {s : State} : WithinO mask_execIndCtrlWrite s (execIndCtrlWrite b0 b1 b2 s) := by
  unfold execIndCtrlWrite
  exact (WithinO.next ((Within.refl mask_execIndCtrlWrite s).step within_wordWrite rfl))

def mask_execIndDataWrite : Nat := 0x4b813ffc66448000018640060117f01438000000000080032c400080000100000000130001e98819ba00ffd00080592c79e203207f807c000380200123c4fe07ee0120001f3ff6017e06046e0500000004003ba0f273c0613fc1063f801ffffeb3ffff001fffff3e01ebff7e0000002003d040208200010000141000022000038a0083ffffff

theorem within_execIndDataWrite {b0 : Src} {b1 : Fin 256} {b2 : Word} {s : State} : WithinO mask_execIndDataWrite s (execIndDataWrite b0 b1 b2 s) := by
  unfold execIndDataWrite
  exact (WithinO.next ((Within.refl mask_execIndDataWrite s).step within_wordWrite rfl))

def mask_execIndDataRead : Nat := 0x49810000000000000000000000000000000000000000000000000000000100000000000000000000000000000000000000000000000000000300000003c4fe0000000000000000000000000000000000000000200000000000000000000000000000000000000000000000000000000000d00000000000000000000000000002000000440268

theorem within_execIndDataRead {b0 : Src} {b1 : Fin 256} {s : State} : WithinO mask_execIndDataRead s (execIndDataRead b0 b1 s) := by
  unfold execIndDataRead
  exact (WithinO.next (Within.ite
    (Within.refl mask_execIndDataRead s)
    (Within.ite
      ((Within.refl mask_execIndDataRead s).step within_indRead rfl)
      ((Within.refl mask_execIndDataRead s).upd_rdata rfl))))

def mask_execIndPrefetchDone : Nat := 0x400008

theorem within_execIndPrefetchDone {b0 : Src} {b1 : Fin 256} {s : State} : WithinO mask_execIndPrefetchDone s (execIndPrefetchDone b0 b1 s) := by
  unfold execIndPrefetchDone
  exact (WithinO.next ((Within.refl mask_execIndPrefetchDone s).step within_indFetched rfl))

def mask_execIndPostedWriteDone : Nat := 0x49810000000000000000000000000000000000000000000000000000000100000000000000000000000000000000000000000000000000000300000003c4fe0000000000000000000000000000000000000000200000000000000000000000000000000000000000000000000000000000d00000000000000000000000000002000000040228

theorem within_execIndPostedWriteDone {b0 : Src} {b1 : Fin 256} {s : State} : WithinO mask_execIndPostedWriteDone s (execIndPostedWriteDone b0 b1 s) := by
  unfold execIndPostedWriteDone
  exact (WithinO.next ((Within.refl mask_execIndPostedWriteDone s).step within_indPosted rfl))

def mask_voteTaken : Nat := 0x80001000

theorem within_voteTaken {s : State} {b1 : Reg} {b2 : Nat} : Within mask_voteTaken s (voteTaken s b1 b2) := by
  unfold voteTaken
  extract_lets -merge -useContext -underBinder v0
  exact (Within.ite
    ((Within.refl mask_voteTaken s).upd_saf rfl)
    ((Within.refl mask_voteTaken s).setIn (m := 0x80000000) (.inl rfl) rfl))

def mask_scrub : Nat := 0x20800080005080

theorem within_scrub {s : State} {b1 : Sys2Proof.Copies} : Within mask_scrub s (scrub s b1) := by
  unfold scrub
  extract_lets -merge -useContext -underBinder v0
  split
  · rename_i w1 e2
    exact (Within.refl mask_scrub s)
  · rename_i w3 w4 e5
    extract_lets -merge -useContext -underBinder v6 v7 v8 s9 s10 s11
    have hs9 : Within mask_scrub s s9 :=
      (((Within.refl mask_scrub s).step within_voteTaken rfl).countBy (key_HDR_PG_VOTE_CNT _) rfl)
    have hs10 : Within mask_scrub s s10 :=
      (hs9.upd_scrubLog rfl)
    have hs11 : Within mask_scrub s s11 :=
      (Within.ite
        hs10
        (hs10.count (key_HDR_PG_FAULT_CNT _) rfl))
    exact (Within.ite
      (Within.refl mask_scrub s)
      (Within.ite
        hs10
        (hs11.upd_voteBad rfl)))

def mask_execVoteScrub : Nat := 0x3cfc000000000000000000000000000000000000000000000000000000000000000000000000000000000000482c79e203207f807c000380000023c0be0000000000000000017e00000800000000000000000273c0013d00000000047ffe03ffb0001fffff3e01ebff7e0000000000000000000000000000000000200022820080007d80

theorem within_execVoteScrub {b0 : List Sys2Proof.Copies} {s : State} : WithinO mask_execVoteScrub s (execVoteScrub b0 s) := by
  unfold execVoteScrub
  extract_lets -merge -useContext -underBinder s0
  have hs0 : Within mask_execVoteScrub s s0 :=
    ((Within.refl mask_execVoteScrub s).foldl fun t1 x1 hl1 =>
      (hl1.step within_scrub rfl))
  exact (WithinO.next (Within.ite
    (Within.refl mask_execVoteScrub s)
    ((hs0.eachAx fun t2 x2 hl2 =>
      (hl2.step within_axShow rfl)).step within_evalAll rfl)))

def mask_execDomainOn : Nat := 0x1083dfc26448000000600000007f00400000000000080032c400080000000000000100001e008000800ffc00080592c79e203207f807c000380000123c4fe07fe0022001f3ffe017e00046e0100000004000000f273c0613f00063f801ffffeb3ffff001fffff3e01ebff7e00000000000040208200010000140000022000038a0082ddbf10

theorem within_execDomainOn {b0 : Fin 12} {s : State} : WithinO mask_execDomainOn s (execDomainOn b0 s) := by
  unfold execDomainOn
  extract_lets -merge -useContext -underBinder v0 s1 s2
  have hs1 : Within mask_execDomainOn s s1 :=
    ((Within.refl mask_execDomainOn s).upd_pwr rfl)
  have hs2 : Within mask_execDomainOn s s2 :=
    (Within.ite
      (hs1.step within_bgCheck rfl)
      (Within.ite
        (hs1.step within_portsOn rfl)
        (Within.ite
          (hs1.step within_crawlLoad rfl)
          hs1)))
  exact (WithinO.ite
    (WithinO.next (Within.ite
      ((Within.refl mask_execDomainOn s).step within_nandPower rfl)
      (Within.refl mask_execDomainOn s)))
    (WithinO.ite
      (WithinO.next (Within.refl mask_execDomainOn s))
      (WithinO.next (((hs2.step within_replay rfl).step within_visionShow rfl).step within_evalAll rfl))))

def mask_execDomainOff : Nat := 0x3cfc00000000000200000000000400000000000000032c40008000000000000000000000000000000000c078492c79e203207f807c000380000023c0be07de0020001f3ff6017e00000800000000000000000273c0013d00000000047ffe03ffb0001fffff3f01ebfffe000000000000000200000100000000000020000382000089bf00

theorem within_execDomainOff {b0 : Fin 12} {s : State} : WithinO mask_execDomainOff s (execDomainOff b0 s) := by
  unfold execDomainOff
  exact (WithinO.next (Within.ite
    (Within.refl mask_execDomainOff s)
    (Within.ite
      ((Within.refl mask_execDomainOff s).step within_nandPower rfl)
      ((Within.refl mask_execDomainOff s).step within_domsOff rfl))))

def mask_execHostResClaim : Nat := 0x4b813ffc66448000018640060117f01438000000000080032c400080000100000000130001e98819ba00ffd00080592c79e203207f807c000380200123c4fe07ee0120001f3ff6017e06046e0500000004003ba0f273c0613fc1063f801ffffeb3ffff001fffff3e01ebff7e0000002003d040208200010000141000022000038a0083ffffff

theorem within_execHostResClaim {b0 : Src} {b1 : Sys2Proof.ResReg} {b2 : Word} {s : State} : WithinO mask_execHostResClaim s (execHostResClaim b0 b1 b2 s) := by
  unfold execHostResClaim
  exact (WithinO.next ((Within.refl mask_execHostResClaim s).step within_wordWrite rfl))

end Sys2Proof.Machine
end

