-- ==== Sys2Proof/Laws/FrameHost.lean ====
section
/-! SUPPORT. What each operation and meaning of Machine/Host.lean can change: one mask and one lemma each. -/

set_option Elab.async false

namespace Sys2Proof.Machine

def mask_bitWrite : Nat := 0x4b813ffc66448000018640060117f01438000000000080032c400080000100000000130001e98819ba00ffd00080592c79e203207f807c000380200123c4fe07ee0120001f3ff6017e06046e0500000004003ba0f273c0613fc1063f801ffffeb3ffff001fffff3e01ebff7e0000002003d040208200010000141000022000038a0083ffffff

theorem within_bitWrite {s : State} {b1 : Src} {b2 : Nat} {b3 : Nat} {b4 : Nat} {b5 : Bool} : Within mask_bitWrite s (bitWrite s b1 b2 b3 b4 b5) := by
  unfold bitWrite
  exact ((Within.refl mask_bitWrite s).step within_busWrite rfl)

def mask_execModeReqWrite : Nat := 0x4b813ffc66448000018640060117f01438000000000080032c400080000100000000130001e98819ba00ffd00080592c79e203207f807c000380200123c4fe07ee0120001f3ff6017e06046e0500000004003ba0f273c0613fc1063f801ffffeb3ffff001fffff3e01ebff7e0000002003d040208200010000141000022000038a0083ffffff

theorem within_execModeReqWrite {b0 : Src} {b1 : Word} {s : State} : WithinO mask_execModeReqWrite s (execModeReqWrite b0 b1 s) := by
  unfold execModeReqWrite
  exact (WithinO.next ((Within.refl mask_execModeReqWrite s).step within_wordWrite rfl))

def mask_execHostRdyWrite : Nat := 0x4b813ffc66448000018640060117f01438000000000080032c400080000100000000130001e98819ba00ffd00080592c79e203207f807c000380200123c4fe07ee0120001f3ff6017e06046e0500000004003ba0f273c0613fc1063f801ffffeb3ffff001fffff3e01ebff7e0000002003d040208200010000141000022000038a0083ffffff

theorem within_execHostRdyWrite {b0 : Src} {b1 : Word} {s : State} : WithinO mask_execHostRdyWrite s (execHostRdyWrite b0 b1 s) := by
  unfold execHostRdyWrite
  exact (WithinO.next ((Within.refl mask_execHostRdyWrite s).step within_wordWrite rfl))

def mask_execBootConfirmWrite : Nat := 0x4b813ffc66448000018640060117f01438000000000080032c400080000100000000130001e98819ba00ffd00080592c79e203207f807c000380200123c4fe07ee0120001f3ff6017e06046e0500000004003ba0f273c0613fc1063f801ffffeb3ffff001fffff3e01ebff7e0000002003d040208200010000141000022000038a0083ffffff

theorem within_execBootConfirmWrite {b0 : Src} {b1 : Word} {s : State} : WithinO mask_execBootConfirmWrite s (execBootConfirmWrite b0 b1 s) := by
  unfold execBootConfirmWrite
  exact (WithinO.next ((Within.refl mask_execBootConfirmWrite s).step within_wordWrite rfl))

def mask_execRstReqWrite : Nat := 0x4b813ffc66448000018640060117f01438000000000080032c400080000100000000130001e98819ba00ffd00080592c79e203207f807c000380200123c4fe07ee0120001f3ff6017e06046e0500000004003ba0f273c0613fc1063f801ffffeb3ffff001fffff3e01ebff7e0000002003d040208200010000141000022000038a0083ffffff

theorem within_execRstReqWrite {b0 : Src} {b1 : Word} {s : State} : WithinO mask_execRstReqWrite s (execRstReqWrite b0 b1 s) := by
  unfold execRstReqWrite
  exact (WithinO.next ((Within.refl mask_execRstReqWrite s).step within_wordWrite rfl))

def mask_execHostWdKickWrite : Nat := 0x4b813ffc66448000018640060117f01438000000000080032c400080000100000000130001e98819ba00ffd00080592c79e203207f807c000380200123c4fe07ee0120001f3ff6017e06046e0500000004003ba0f273c0613fc1063f801ffffeb3ffff001fffff3e01ebff7e0000002003d040208200010000141000022000038a0083ffffff

theorem within_execHostWdKickWrite {b0 : Src} {b1 : Word} {s : State} : WithinO mask_execHostWdKickWrite s (execHostWdKickWrite b0 b1 s) := by
  unfold execHostWdKickWrite
  exact (WithinO.next ((Within.refl mask_execHostWdKickWrite s).step within_wordWrite rfl))

def mask_execAxPush : Nat := 0x4b813ffc66448000018640060117f01438000000000080032c400080000100000000130001e98819ba00ffd00080592c79e203207f807c000380200123c4fe07ee0120001f3ff6017e06046e0500000004003ba0f273c0613fc1063f801ffffeb3ffff001fffff3e01ebff7e0000002003d040208200010000141000022000038a0083ffffff

theorem within_execAxPush {b0 : Src} {b1 : Fin 16} {s : State} : WithinO mask_execAxPush s (execAxPush b0 b1 s) := by
  unfold execAxPush
  exact (WithinO.next ((Within.refl mask_execAxPush s).step within_wordWrite rfl))

def mask_execAxStop : Nat := 0x4b813ffc66448000018640060117f01438000000000080032c400080000100000000130001e98819ba00ffd00080592c79e203207f807c000380200123c4fe07ee0120001f3ff6017e06046e0500000004003ba0f273c0613fc1063f801ffffeb3ffff001fffff3e01ebff7e0000002003d040208200010000141000022000038a0083ffffff

theorem within_execAxStop {b0 : Src} {b1 : Fin 16} {s : State} : WithinO mask_execAxStop s (execAxStop b0 b1 s) := by
  unfold execAxStop
  exact (WithinO.next ((Within.refl mask_execAxStop s).step within_wordWrite rfl))

def mask_execAxFlush : Nat := 0x4b813ffc66448000018640060117f01438000000000080032c400080000100000000130001e98819ba00ffd00080592c79e203207f807c000380200123c4fe07ee0120001f3ff6017e06046e0500000004003ba0f273c0613fc1063f801ffffeb3ffff001fffff3e01ebff7e0000002003d040208200010000141000022000038a0083ffffff

theorem within_execAxFlush {b0 : Src} {b1 : Fin 16} {s : State} : WithinO mask_execAxFlush s (execAxFlush b0 b1 s) := by
  unfold execAxFlush
  exact (WithinO.next ((Within.refl mask_execAxFlush s).step within_wordWrite rfl))

def mask_execAxReverse : Nat := 0x4b813ffc66448000018640060117f01438000000000080032c400080000100000000130001e98819ba00ffd00080592c79e203207f807c000380200123c4fe07ee0120001f3ff6017e06046e0500000004003ba0f273c0613fc1063f801ffffeb3ffff001fffff3e01ebff7e0000002003d040208200010000141000022000038a0083ffffff

theorem within_execAxReverse {b0 : Src} {b1 : Fin 16} {s : State} : WithinO mask_execAxReverse s (execAxReverse b0 b1 s) := by
  unfold execAxReverse
  exact (WithinO.next ((Within.refl mask_execAxReverse s).step within_wordWrite rfl))

def mask_execHome : Nat := 0x4b813ffc66448000018640060117f01438000000000080032c400080000100000000130001e98819ba00ffd00080592c79e203207f807c000380200123c4fe07ee0120001f3ff6017e06046e0500000004003ba0f273c0613fc1063f801ffffeb3ffff001fffff3e01ebff7e0000002003d040208200010000141000022000038a0083ffffff

theorem within_execHome {b0 : Src} {b1 : Fin 16} {s : State} : WithinO mask_execHome s (execHome b0 b1 s) := by
  unfold execHome
  exact (WithinO.next ((Within.refl mask_execHome s).step within_wordWrite rfl))

def mask_execLearn : Nat := 0x4b813ffc66448000018640060117f01438000000000080032c400080000100000000130001e98819ba00ffd00080592c79e203207f807c000380200123c4fe07ee0120001f3ff6017e06046e0500000004003ba0f273c0613fc1063f801ffffeb3ffff001fffff3e01ebff7e0000002003d040208200010000141000022000038a0083ffffff

theorem within_execLearn {b0 : Src} {b1 : Fin 16} {s : State} : WithinO mask_execLearn s (execLearn b0 b1 s) := by
  unfold execLearn
  exact (WithinO.next ((Within.refl mask_execLearn s).step within_wordWrite rfl))

def mask_execLearnAbort : Nat := 0x4b813ffc66448000018640060117f01438000000000080032c400080000100000000130001e98819ba00ffd00080592c79e203207f807c000380200123c4fe07ee0120001f3ff6017e06046e0500000004003ba0f273c0613fc1063f801ffffeb3ffff001fffff3e01ebff7e0000002003d040208200010000141000022000038a0083ffffff

theorem within_execLearnAbort {b0 : Src} {b1 : Fin 16} {s : State} : WithinO mask_execLearnAbort s (execLearnAbort b0 b1 s) := by
  unfold execLearnAbort
  exact (WithinO.next ((Within.refl mask_execLearnAbort s).step within_wordWrite rfl))

def mask_execStepOut : Nat := 0x4b813ffc66448000018640060117f01438000000000080032c400080000100000000130001e98819ba00ffd00080592c79e203207f807c000380200123c4fe07ee0120001f3ff6017e06046e0500000004003ba0f273c0613fc1063f801ffffeb3ffff001fffff3e01ebff7e0000002003d040208200010000141000022000038a0083ffffff

theorem within_execStepOut {b0 : Src} {b1 : Fin 16} {s : State} : WithinO mask_execStepOut s (execStepOut b0 b1 s) := by
  unfold execStepOut
  exact (WithinO.next ((Within.refl mask_execStepOut s).step within_wordWrite rfl))

def mask_execPrfCommit : Nat := 0x4b813ffc66448000018640060117f01438000000000080032c400080000100000000130001e98819ba00ffd00080592c79e203207f807c000380200123c4fe07ee0120001f3ff6017e06046e0500000004003ba0f273c0613fc1063f801ffffeb3ffff001fffff3e01ebff7e0000002003d040208200010000141000022000038a0083ffffff

theorem within_execPrfCommit {b0 : Src} {b1 : Fin 16} {b2 : Word} {s : State} : WithinO mask_execPrfCommit s (execPrfCommit b0 b1 b2 s) := by
  unfold execPrfCommit
  exact (WithinO.next ((Within.refl mask_execPrfCommit s).step within_wordWrite rfl))

def mask_execTrvGoWrite : Nat := 0x4b813ffc66448000018640060117f01438000000000080032c400080000100000000130001e98819ba00ffd00080592c79e203207f807c000380200123c4fe07ee0120001f3ff6017e06046e0500000004003ba0f273c0613fc1063f801ffffeb3ffff001fffff3e01ebff7e0000002003d040208200010000141000022000038a0083ffffff

theorem within_execTrvGoWrite {b0 : Src} {b1 : Word} {s : State} : WithinO mask_execTrvGoWrite s (execTrvGoWrite b0 b1 s) := by
  unfold execTrvGoWrite
  exact (WithinO.next ((Within.refl mask_execTrvGoWrite s).step within_wordWrite rfl))

def mask_execTorqueReqWrite : Nat := 0x4b813ffc66448000018640060117f01438000000000080032c400080000100000000130001e98819ba00ffd00080592c79e203207f807c000380200123c4fe07ee0120001f3ff6017e06046e0500000004003ba0f273c0613fc1063f801ffffeb3ffff001fffff3e01ebff7e0000002003d040208200010000141000022000038a0083ffffff

theorem within_execTorqueReqWrite {b0 : Src} {b1 : Fin 16} {b2 : Word} {s : State} : WithinO mask_execTorqueReqWrite s (execTorqueReqWrite b0 b1 b2 s) := by
  unfold execTorqueReqWrite
  exact (WithinO.next ((Within.refl mask_execTorqueReqWrite s).step within_wordWrite rfl))

def mask_execAxModeWrite : Nat := 0x4b813ffc66448000018640060117f01438000000000080032c400080000100000000130001e98819ba00ffd00080592c79e203207f807c000380200123c4fe07ee0120001f3ff6017e06046e0500000004003ba0f273c0613fc1063f801ffffeb3ffff001fffff3e01ebff7e0000002003d040208200010000141000022000038a0083ffffff

theorem within_execAxModeWrite {b0 : Src} {b1 : Fin 16} {b2 : Word} {s : State} : WithinO mask_execAxModeWrite s (execAxModeWrite b0 b1 b2 s) := by
  unfold execAxModeWrite
  exact (WithinO.next ((Within.refl mask_execAxModeWrite s).step within_wordWrite rfl))

def mask_execAxEnWrite : Nat := 0x4b813ffc66448000018640060117f01438000000000080032c400080000100000000130001e98819ba00ffd00080592c79e203207f807c000380200123c4fe07ee0120001f3ff6017e06046e0500000004003ba0f273c0613fc1063f801ffffeb3ffff001fffff3e01ebff7e0000002003d040208200010000141000022000038a0083ffffff

theorem within_execAxEnWrite {b0 : Src} {b1 : Option (Fin 16)} {b2 : Word} {s : State} : WithinO mask_execAxEnWrite s (execAxEnWrite b0 b1 b2 s) := by
  unfold execAxEnWrite
  exact (WithinO.next ((Within.refl mask_execAxEnWrite s).step within_wordWrite rfl))

def mask_execRetrain : Nat := 0x4b813ffc66448000018640060117f01438000000000080032c400080000100000000130001e98819ba00ffd00080592c79e203207f807c000380200123c4fe07ee0120001f3ff6017e06046e0500000004003ba0f273c0613fc1063f801ffffeb3ffff001fffff3e01ebff7e0000002003d040208200010000141000022000038a0083ffffff

theorem within_execRetrain {b0 : Src} {b1 : Fin 16} {s : State} : WithinO mask_execRetrain s (execRetrain b0 b1 s) := by
  unfold execRetrain
  exact (WithinO.next ((Within.refl mask_execRetrain s).step within_wordWrite rfl))

def mask_execRecal : Nat := 0x4b813ffc66448000018640060117f01438000000000080032c400080000100000000130001e98819ba00ffd00080592c79e203207f807c000380200123c4fe07ee0120001f3ff6017e06046e0500000004003ba0f273c0613fc1063f801ffffeb3ffff001fffff3e01ebff7e0000002003d040208200010000141000022000038a0083ffffff

theorem within_execRecal {b0 : Src} {b1 : Fin 16} {s : State} : WithinO mask_execRecal s (execRecal b0 b1 s) := by
  unfold execRecal
  exact (WithinO.next ((Within.refl mask_execRecal s).step within_wordWrite rfl))

def mask_execPoseWrite : Nat := 0x1800000000000000000000000000000000000000000000000000000000000000000000000000000000000000000000000000000000000000300000003c4fe0000000000000000000000000000000000000000000000000000000000000000000000000000000000000000000000000000000000000000000000000000000002000000000000

theorem within_execPoseWrite {b0 : Src} {b1 : Fin 16} {b2 : Fin 16} {b3 : Word} {s : State} : WithinO mask_execPoseWrite s (execPoseWrite b0 b1 b2 b3 s) := by
  unfold execPoseWrite
  exact (WithinO.next (Within.ite
    (Within.step (WithinP.fst (WithinP.ite
      (WithinP.mk (Within.refl mask_execPoseWrite s))
      ((Within.refl mask_execPoseWrite s).stepP within_poseWrite rfl))) within_counted rfl)
    (Within.refl mask_execPoseWrite s)))

def mask_execBgLearn : Nat := 0x4b813ffc66448000018640060117f01438000000000080032c400080000100000000130001e98819ba00ffd00080592c79e203207f807c000380200123c4fe07ee0120001f3ff6017e06046e0500000004003ba0f273c0613fc1063f801ffffeb3ffff001fffff3e01ebff7e0000002003d040208200010000141000022000038a0083ffffff

theorem within_execBgLearn {b0 : Src} {b1 : Fin 8} {s : State} : WithinO mask_execBgLearn s (execBgLearn b0 b1 s) := by
  unfold execBgLearn
  exact (WithinO.next ((Within.refl mask_execBgLearn s).step within_wordWrite rfl))

def mask_execBgAbort : Nat := 0x4b813ffc66448000018640060117f01438000000000080032c400080000100000000130001e98819ba00ffd00080592c79e203207f807c000380200123c4fe07ee0120001f3ff6017e06046e0500000004003ba0f273c0613fc1063f801ffffeb3ffff001fffff3e01ebff7e0000002003d040208200010000141000022000038a0083ffffff

theorem within_execBgAbort {b0 : Src} {b1 : Fin 8} {s : State} : WithinO mask_execBgAbort s (execBgAbort b0 b1 s) := by
  unfold execBgAbort
  exact (WithinO.next ((Within.refl mask_execBgAbort s).step within_wordWrite rfl))

def mask_execLqAck : Nat := 0x4b813ffc66448000018640060117f01438000000000080032c400080000100000000130001e98819ba00ffd00080592c79e203207f807c000380200123c4fe07ee0120001f3ff6017e06046e0500000004003ba0f273c0613fc1063f801ffffeb3ffff001fffff3e01ebff7e0000002003d040208200010000141000022000038a0083ffffff

theorem within_execLqAck {b0 : Src} {b1 : Fin 16} {s : State} : WithinO mask_execLqAck s (execLqAck b0 b1 s) := by
  unfold execLqAck
  exact (WithinO.next ((Within.refl mask_execLqAck s).step within_wordWrite rfl))

def mask_execCycReqWrite : Nat := 0x4b813ffc66448000018640060117f01438000000000080032c400080000100000000130001e98819ba00ffd00080592c79e203207f807c000380200123c4fe07ee0120001f3ff6017e06046e0500000004003ba0f273c0613fc1063f801ffffeb3ffff001fffff3e01ebff7e0000002003d040208200010000141000022000038a0083ffffff

theorem within_execCycReqWrite {b0 : Src} {b1 : Fin 8} {b2 : Word} {s : State} : WithinO mask_execCycReqWrite s (execCycReqWrite b0 b1 b2 s) := by
  unfold execCycReqWrite
  exact (WithinO.next ((Within.refl mask_execCycReqWrite s).step within_wordWrite rfl))

def mask_execGcOnWrite : Nat := 0x4b813ffc66448000018640060117f01438000000000080032c400080000100000000130001e98819ba00ffd00080592c79e203207f807c000380200123c4fe07ee0120001f3ff6017e06046e0500000004003ba0f273c0613fc1063f801ffffeb3ffff001fffff3e01ebff7e0000002003d040208200010000141000022000038a0083ffffff

theorem within_execGcOnWrite {b0 : Src} {b1 : Bool} {b2 : Word} {s : State} : WithinO mask_execGcOnWrite s (execGcOnWrite b0 b1 b2 s) := by
  unfold execGcOnWrite
  exact (WithinO.next ((Within.refl mask_execGcOnWrite s).step within_wordWrite rfl))

def mask_execFollowWrite : Nat := 0x4b813ffc66448000018640060117f01438000000000080032c400080000100000000130001e98819ba00ffd00080592c79e203207f807c000380200123c4fe07ee0120001f3ff6017e06046e0500000004003ba0f273c0613fc1063f801ffffeb3ffff001fffff3e01ebff7e0000002003d040208200010000141000022000038a0083ffffff

theorem within_execFollowWrite {b0 : Src} {b1 : Fin 48} {b2 : Word} {s : State} : WithinO mask_execFollowWrite s (execFollowWrite b0 b1 b2 s) := by
  unfold execFollowWrite
  exact (WithinO.next ((Within.refl mask_execFollowWrite s).step within_wordWrite rfl))

def mask_execClampUnlock : Nat := 0x4b813ffc66448000018640060117f01438000000000080032c400080000100000000130001e98819ba00ffd00080592c79e203207f807c000380200123c4fe07ee0120001f3ff6017e06046e0500000004003ba0f273c0613fc1063f801ffffeb3ffff001fffff3e01ebff7e0000002003d040208200010000141000022000038a0083ffffff

theorem within_execClampUnlock {b0 : Src} {b1 : Word} {s : State} : WithinO mask_execClampUnlock s (execClampUnlock b0 b1 s) := by
  unfold execClampUnlock
  exact (WithinO.next ((Within.refl mask_execClampUnlock s).step within_wordWrite rfl))

def mask_execCrawlMapWrite : Nat := 0x4b813ffc66448000018640060117f01438000000000080032c400080000100000000130001e98819ba00ffd00080592c79e203207f807c000380200123c4fe07ee0120001f3ff6017e06046e0500000004003ba0f273c0613fc1063f801ffffeb3ffff001fffff3e01ebff7e0000002003d040208200010000141000022000038a0083ffffff

theorem within_execCrawlMapWrite {b0 : Src} {b1 : Fin 12} {b2 : Word} {s : State} : WithinO mask_execCrawlMapWrite s (execCrawlMapWrite b0 b1 b2 s) := by
  unfold execCrawlMapWrite
  exact (WithinO.next ((Within.refl mask_execCrawlMapWrite s).step within_wordWrite rfl))

def mask_execFoOutWrite : Nat := 0x4b813ffc66448000018640060117f01438000000000080032c400080000100000000130001e98819ba00ffd00080592c79e203207f807c000380200123c4fe07ee0120001f3ff6017e06046e0500000004003ba0f273c0613fc1063f801ffffeb3ffff001fffff3e01ebff7e0000002003d040208200010000141000022000038a0083ffffff

theorem within_execFoOutWrite {b0 : Src} {b1 : Word} {s : State} : WithinO mask_execFoOutWrite s (execFoOutWrite b0 b1 s) := by
  unfold execFoOutWrite
  exact (WithinO.next ((Within.refl mask_execFoOutWrite s).step within_wordWrite rfl))

def mask_execThrWrite : Nat := 0x4b813ffc66448000018640060117f01438000000000080032c400080000100000000130001e98819ba00ffd00080592c79e203207f807c000380200123c4fe07ee0120001f3ff6017e06046e0500000004003ba0f273c0613fc1063f801ffffeb3ffff001fffff3e01ebff7e0000002003d040208200010000141000022000038a0083ffffff

theorem within_execThrWrite {b0 : Src} {b1 : Word} {s : State} : WithinO mask_execThrWrite s (execThrWrite b0 b1 s) := by
  unfold execThrWrite
  exact (WithinO.next ((Within.refl mask_execThrWrite s).step within_wordWrite rfl))

def mask_execCanTxPush : Nat := 0x4b813ffc66448000018640060117f01438000000000080032c400080000100000000130001e98819ba00ffd00080592c79e203207f807c000380200123c4fe07ee0120001f3ff6017e06046e0500000004003ba0f273c0613fc1063f801ffffeb3ffff001fffff3e01ebff7e0000002003d040208200010000141000022000038a0083ffffff

theorem within_execCanTxPush {b0 : Src} {b1 : Fin 4} {b2 : Fin 32} {s : State} : WithinO mask_execCanTxPush s (execCanTxPush b0 b1 b2 s) := by
  unfold execCanTxPush
  exact (WithinO.next ((Within.refl mask_execCanTxPush s).step within_wordWrite rfl))

def mask_execCanTxCancel : Nat := 0x4b813ffc66448000018640060117f01438000000000080032c400080000100000000130001e98819ba00ffd00080592c79e203207f807c000380200123c4fe07ee0120001f3ff6017e06046e0500000004003ba0f273c0613fc1063f801ffffeb3ffff001fffff3e01ebff7e0000002003d040208200010000141000022000038a0083ffffff

theorem within_execCanTxCancel {b0 : Src} {b1 : Fin 4} {b2 : Fin 32} {s : State} : WithinO mask_execCanTxCancel s (execCanTxCancel b0 b1 b2 s) := by
  unfold execCanTxCancel
  exact (WithinO.next ((Within.refl mask_execCanTxCancel s).step within_wordWrite rfl))

def mask_execCanTxRelease : Nat := 0x4b813ffc66448000018640060117f01438000000000080032c400080000100000000130001e98819ba00ffd00080592c79e203207f807c000380200123c4fe07ee0120001f3ff6017e06046e0500000004003ba0f273c0613fc1063f801ffffeb3ffff001fffff3e01ebff7e0000002003d040208200010000141000022000038a0083ffffff

theorem within_execCanTxRelease {b0 : Src} {b1 : Fin 4} {b2 : Fin 32} {s : State} : WithinO mask_execCanTxRelease s (execCanTxRelease b0 b1 b2 s) := by
  unfold execCanTxRelease
  exact (WithinO.next ((Within.refl mask_execCanTxRelease s).step within_wordWrite rfl))

def mask_execCanRxAck : Nat := 0x4b813ffc66448000018640060117f01438000000000080032c400080000100000000130001e98819ba00ffd00080592c79e203207f807c000380200123c4fe07ee0120001f3ff6017e06046e0500000004003ba0f273c0613fc1063f801ffffeb3ffff001fffff3e01ebff7e0000002003d040208200010000141000022000038a0083ffffff

theorem within_execCanRxAck {b0 : Src} {b1 : Fin 4} {b2 : Fin 256} {s : State} : WithinO mask_execCanRxAck s (execCanRxAck b0 b1 b2 s) := by
  unfold execCanRxAck
  exact (WithinO.next ((Within.refl mask_execCanRxAck s).step within_wordWrite rfl))

def mask_execCanHpbRelease : Nat := 0x4b813ffc66448000018640060117f01438000000000080032c400080000100000000130001e98819ba00ffd00080592c79e203207f807c000380200123c4fe07ee0120001f3ff6017e06046e0500000004003ba0f273c0613fc1063f801ffffeb3ffff001fffff3e01ebff7e0000002003d040208200010000141000022000038a0083ffffff

theorem within_execCanHpbRelease {b0 : Src} {b1 : Fin 4} {b2 : Fin 8} {s : State} : WithinO mask_execCanHpbRelease s (execCanHpbRelease b0 b1 b2 s) := by
  unfold execCanHpbRelease
  exact (WithinO.next ((Within.refl mask_execCanHpbRelease s).step within_wordWrite rfl))

def mask_execCanRecover : Nat := 0x4b813ffc66448000018640060117f01438000000000080032c400080000100000000130001e98819ba00ffd00080592c79e203207f807c000380200123c4fe07ee0120001f3ff6017e06046e0500000004003ba0f273c0613fc1063f801ffffeb3ffff001fffff3e01ebff7e0000002003d040208200010000141000022000038a0083ffffff

theorem within_execCanRecover {b0 : Src} {b1 : Fin 4} {s : State} : WithinO mask_execCanRecover s (execCanRecover b0 b1 s) := by
  unfold execCanRecover
  exact (WithinO.next ((Within.refl mask_execCanRecover s).step within_wordWrite rfl))

def mask_execLpReqWrite : Nat := 0x4b813ffc66448000018640060117f01438000000000080032c400080000100000000130001e98819ba00ffd00080592c79e203207f807c000380200123c4fe07ee0120001f3ff6017e06046e0500000004003ba0f273c0613fc1063f801ffffeb3ffff001fffff3e01ebff7e0000002003d040208200010000141000022000038a0083ffffff

theorem within_execLpReqWrite {b0 : Src} {b1 : Fin 4} {b2 : Bool} {s : State} : WithinO mask_execLpReqWrite s (execLpReqWrite b0 b1 b2 s) := by
  unfold execLpReqWrite
  exact (WithinO.next ((Within.refl mask_execLpReqWrite s).step within_bitWrite rfl))

def mask_execCanEnWrite : Nat := 0x4b813ffc66448000018640060117f01438000000000080032c400080000100000000130001e98819ba00ffd00080592c79e203207f807c000380200123c4fe07ee0120001f3ff6017e06046e0500000004003ba0f273c0613fc1063f801ffffeb3ffff001fffff3e01ebff7e0000002003d040208200010000141000022000038a0083ffffff

theorem within_execCanEnWrite {b0 : Src} {b1 : Fin 4} {b2 : Bool} {s : State} : WithinO mask_execCanEnWrite s (execCanEnWrite b0 b1 b2 s) := by
  unfold execCanEnWrite
  exact (WithinO.next ((Within.refl mask_execCanEnWrite s).step within_bitWrite rfl))

def mask_execEcnTailWrite : Nat := 0x4b813ffc66448000018640060117f01438000000000080032c400080000100000000130001e98819ba00ffd00080592c79e203207f807c000380200123c4fe07ee0120001f3ff6017e06046e0500000004003ba0f273c0613fc1063f801ffffeb3ffff001fffff3e01ebff7e0000002003d040208200010000141000022000038a0083ffffff

theorem within_execEcnTailWrite {b0 : Src} {b1 : Fin 4} {b2 : Word} {s : State} : WithinO mask_execEcnTailWrite s (execEcnTailWrite b0 b1 b2 s) := by
  unfold execEcnTailWrite
  exact (WithinO.next ((Within.refl mask_execEcnTailWrite s).step within_wordWrite rfl))

def mask_execLglSendBuffer : Nat := 0x4b813ffc66448000018640060117f01438000000000080032c400080000100000000130001e98819ba00ffd00080592c79e203207f807c000380200123c4fe07ee0120001f3ff6017e06046e0500000004003ba0f273c0613fc1063f801ffffeb3ffff001fffff3e01ebff7e0000002003d040208200010000141000022000038a0083ffffff

theorem within_execLglSendBuffer {b0 : Src} {b1 : Word} {s : State} : WithinO mask_execLglSendBuffer s (execLglSendBuffer b0 b1 s) := by
  unfold execLglSendBuffer
  exact (WithinO.next ((Within.refl mask_execLglSendBuffer s).step within_wordWrite rfl))

def mask_execSnap : Nat := 0x4b813ffc66448000018640060117f01438000000000080032c400080000100000000130001e98819ba00ffd00080592c79e203207f807c000380200123c4fe07ee0120001f3ff6017e06046e0500000004003ba0f273c0613fc1063f801ffffeb3ffff001fffff3e01ebff7e0000002003d040208200010000141000022000038a0083ffffff

theorem within_execSnap {b0 : Src} {s : State} : WithinO mask_execSnap s (execSnap b0 s) := by
  unfold execSnap
  exact (WithinO.next ((Within.refl mask_execSnap s).step within_wordWrite rfl))

def mask_execHev : Nat := 0x4b813ffc66448000018640060117f01438000000000080032c400080000100000000130001e98819ba00ffd00080592c79e203207f807c000380200123c4fe07ee0120001f3ff6017e06046e0500000004003ba0f273c0613fc1063f801ffffeb3ffff001fffff3e01ebff7e0000002003d040208200010000141000022000038a0083ffffff

theorem within_execHev {b0 : Src} {s : State} : WithinO mask_execHev s (execHev b0 s) := by
  unfold execHev
  exact (WithinO.next ((Within.refl mask_execHev s).step within_wordWrite rfl))

def mask_execFind : Nat := 0x4b813ffc66448000018640060117f01438000000000080032c400080000100000000130001e98819ba00ffd00080592c79e203207f807c000380200123c4fe07ee0120001f3ff6017e06046e0500000004003ba0f273c0613fc1063f801ffffeb3ffff001fffff3e01ebff7e0000002003d040208200010000141000022000038a0083ffffff

theorem within_execFind {b0 : Src} {s : State} : WithinO mask_execFind s (execFind b0 s) := by
  unfold execFind
  exact (WithinO.next ((Within.refl mask_execFind s).step within_wordWrite rfl))

def mask_execExpStart : Nat := 0x4b813ffc66448000018640060117f01438000000000080032c400080000100000000130001e98819ba00ffd00080592c79e203207f807c000380200123c4fe07ee0120001f3ff6017e06046e0500000004003ba0f273c0613fc1063f801ffffeb3ffff001fffff3e01ebff7e0000002003d040208200010000141000022000038a0083ffffff

theorem within_execExpStart {b0 : Src} {s : State} : WithinO mask_execExpStart s (execExpStart b0 s) := by
  unfold execExpStart
  exact (WithinO.next ((Within.refl mask_execExpStart s).step within_wordWrite rfl))

def mask_execExpAbort : Nat := 0x4b813ffc66448000018640060117f01438000000000080032c400080000100000000130001e98819ba00ffd00080592c79e203207f807c000380200123c4fe07ee0120001f3ff6017e06046e0500000004003ba0f273c0613fc1063f801ffffeb3ffff001fffff3e01ebff7e0000002003d040208200010000141000022000038a0083ffffff

theorem within_execExpAbort {b0 : Src} {s : State} : WithinO mask_execExpAbort s (execExpAbort b0 s) := by
  unfold execExpAbort
  exact (WithinO.next ((Within.refl mask_execExpAbort s).step within_wordWrite rfl))

def mask_execRdClassWrite : Nat := 0x4b813ffc66448000018640060117f01438000000000080032c400080000100000000130001e98819ba00ffd00080592c79e203207f807c000380200123c4fe07ee0120001f3ff6017e06046e0500000004003ba0f273c0613fc1063f801ffffeb3ffff001fffff3e01ebff7e0000002003d040208200010000141000022000038a0083ffffff

theorem within_execRdClassWrite {b0 : Src} {b1 : Word} {s : State} : WithinO mask_execRdClassWrite s (execRdClassWrite b0 b1 s) := by
  unfold execRdClassWrite
  exact (WithinO.next ((Within.refl mask_execRdClassWrite s).step within_wordWrite rfl))

def mask_execExpAckWrite : Nat := 0x4b813ffc66448000018640060117f01438000000000080032c400080000100000000130001e98819ba00ffd00080592c79e203207f807c000380200123c4fe07ee0120001f3ff6017e06046e0500000004003ba0f273c0613fc1063f801ffffeb3ffff001fffff3e01ebff7e0000002003d040208200010000141000022000038a0083ffffff

theorem within_execExpAckWrite {b0 : Src} {b1 : Word} {s : State} : WithinO mask_execExpAckWrite s (execExpAckWrite b0 b1 s) := by
  unfold execExpAckWrite
  exact (WithinO.next ((Within.refl mask_execExpAckWrite s).step within_wordWrite rfl))

end Sys2Proof.Machine
end

