-- ==== Sys2Proof/Laws/FrameSlati.lean ====
section
/-! SUPPORT. What each operation and meaning of Machine/Slati.lean can change: one mask and one lemma each. -/

set_option Elab.async false

namespace Sys2Proof.Machine

def mask_answer : Nat := 0x2000000

theorem within_answer {s : State} {b1 : List Nat} : Within mask_answer s (answer s b1) := by
  unfold answer
  exact ((Within.refl mask_answer s).step within_say rfl)

def mask_answerAdj : Nat := 0x2000000

theorem within_answerAdj_from {s : State} {r : Wrote} (h0 : WithinP mask_answerAdj s r) : Within mask_answerAdj s (answerAdj r) := by
  unfold answerAdj
  exact ((WithinP.fst h0).step within_say rfl)

theorem within_answerAdj {r : Wrote} : Within mask_answerAdj r.1 (answerAdj r) := within_answerAdj_from (Within.refl _ _)

def mask_refuse : Nat := 0x400000000000000000000000000000000000000000000000000000000000000000000000000000000000000000000000000000000000000000000000000000000000000000000000000000000000000000000000000000000000000000000000000000000000000000000000000000000000000000000000000000002000000

theorem within_refuse {s : State} {b1 : Nat} : Within mask_refuse s (refuse s b1) := by
  unfold refuse
  exact (((Within.refl mask_refuse s).count key_SVC_CMD_ERR_CNT rfl).step within_say rfl)

def mask_taken : Nat := 0x200000000000000000000000000000000000000000000000000000000000000000000000000000000000000000000000000000000000000000000000000000000000000000000000000000000000000000000000000000000000000000000000000000000000000000000000000000000000000000000000000000002000000

theorem within_taken {s : State} : Within mask_taken s (taken s) := by
  unfold taken
  extract_lets -merge -useContext -underBinder s0 v1
  have hs0 : Within mask_taken s s0 :=
    ((Within.refl mask_taken s).count key_SVC_CMD_CNT rfl)
  exact (hs0.upd_svc rfl)

def mask_slatiAlways : Nat := 0x200000000000000000000000000000000000000000000000000000000000000000000000000000000000000000000000000000000000000000000000000000000000000000000000000000000000000000000000000000000000000000000000000000000000000000000000000000000000000000000000000000002000000

theorem within_slatiAlways {M : Nat} {s0 s : State} {f : State → State} (hm : sub mask_slatiAlways M = true) (h : Within M s0 s)
    (hf : ∀ t, Within M s0 t → Within M s0 (f t)) : Within M s0 (slatiAlways s f) :=
  .ite (hf _ (h.step within_taken (sub_trans rfl hm))) h

def mask_slati : Nat := 0x600000000000000000000000000000000000000000000000000000000000000000000000000000000000000000000000000000000000000000000000000000000000000000000000000000000000000000000000000000000000000000000000000000000000000000000000000000000000000000000000000000002000000

theorem within_slati {M : Nat} {s0 s : State} {role : Nat} {f : State → State} (hm : sub mask_slati M = true) (h : Within M s0 s)
    (hf : ∀ t, Within M s0 t → Within M s0 (f t)) : Within M s0 (slati s role f) :=
  within_slatiAlways (sub_trans rfl hm) h fun t ht =>
    .ite (ht.step within_say (sub_trans rfl hm)) (.ite (ht.step within_refuse (sub_trans rfl hm)) (hf t ht))

def mask_toolExportEnd : Nat := 0x20000000008000000000000000000000000000000000000000000000000000000000000000000000000000000000000000000000000000000000000000000000000000000000000000000000000000000000000000000000000000000000000000000000000000000000000000000000000000000000000080000

theorem within_toolExportEnd {s : State} : Within mask_toolExportEnd s (toolExportEnd s) := by
  unfold toolExportEnd
  exact (Within.ite
    ((Within.refl mask_toolExportEnd s).step within_exportEnd rfl)
    (Within.refl mask_toolExportEnd s))

def mask_lineStart : Nat := 0x6000000000000000000000000000000000000000000000000000000000000000000000000000000000000000000000000000000000000000000000000000000000000000000000000000000000000000000000000000000000000000000000000000000000000000000000000000000000000000000000000000002000000

theorem within_lineStart {s : State} : Within mask_lineStart s (lineStart s) := by
  unfold lineStart
  extract_lets -merge -useContext -underBinder s0 v1
  have hs0 : Within mask_lineStart s s0 :=
    (((Within.refl mask_lineStart s).set key_SVC_BAUD_NOW rfl).set key_SVC_PROTO rfl)
  exact (hs0.upd_svc rfl)

def mask_sessionEnd : Nat := 0x7c2644800f000000020000000008000000000000032c400080000000000000000000000000080000000080002c79e003207f807c00000000000000000000000000000000017e00000800000000000000000273c0013d00000000047ffe03ffb0001fffff3e01ebff7e0000000000000000000000000000000000000001820002883d00

theorem within_sessionEnd {s : State} : Within mask_sessionEnd s (sessionEnd s) := by
  unfold sessionEnd
  extract_lets -merge -useContext -underBinder s0 s1 s2 s3 v4
  have hs0 : Within mask_sessionEnd s s0 :=
    ((((Within.refl mask_sessionEnd s).step within_toolExportEnd rfl).step within_testAbort rfl).step within_monRelease rfl)
  have hs1 : Within mask_sessionEnd s s1 :=
    (hs0.eachDw fun t5 x5 hl5 =>
      (Within.ite
        (hl5.step within_State_setDw rfl)
        hl5))
  have hs2 : Within mask_sessionEnd s s2 :=
    ((hs1.step within_lineStart rfl).set key_SVC_ROLE rfl)
  have hs3 : Within mask_sessionEnd s s3 :=
    (hs2.setB key_SVC_SESSION rfl)
  exact ((hs3.upd_svc rfl).step within_echoTool rfl)

def mask_execSlatiLineError : Nat := 0x800000000000000000000000000000000000000000000000000000000000000000000000000000000000000000000000000000000000000000000000000000000000000000000000000000000000000000000000000000000000000000000000000000000000000000000000000000000000000000000000000000002000000

theorem within_execSlatiLineError {s : State} : WithinO mask_execSlatiLineError s (execSlatiLineError s) := by
  unfold execSlatiLineError
  exact (WithinO.next (Within.ite
    (Within.refl mask_execSlatiLineError s)
    (((Within.refl mask_execSlatiLineError s).count key_SVC_FRAME_ERR_CNT rfl).step within_say rfl)))

def mask_execSlatiHello : Nat := 0x200000000000000000000000000000000000000000000000000000000000000000000000000000000000000000000000000000000000000000000000000000000000000000000000000000000000000000000000000000000000000000000000000000000000000000000000000000000000000000000000000000002000000

theorem within_execSlatiHello {s : State} : WithinO mask_execSlatiHello s (execSlatiHello s) := by
  unfold execSlatiHello
  exact (WithinO.next (within_slatiAlways rfl (Within.refl mask_execSlatiHello s) (fun t0 hl0 =>
    (hl0.step within_answer rfl))))

def mask_execSlatiVer : Nat := 0x604000000000000000000000000000000000000000000000000000000000000000000000000000000000000000000000000000000000000000000000000000000000000000000000000000000000000000000000000000000000000000000000000000000000000000000000000000000000000000000000000000002000000

theorem within_execSlatiVer {b0 : Fin 256} {s : State} : WithinO mask_execSlatiVer s (execSlatiVer b0 s) := by
  unfold execSlatiVer
  exact (WithinO.next (within_slati rfl (Within.refl mask_execSlatiVer s) (fun t0 hl0 =>
    (Within.ite
      ((hl0.set key_SVC_PROTO rfl).step within_answer rfl)
      (hl0.step within_refuse rfl)))))

def mask_execSlatiBaud : Nat := 0x602000000000000000000000000000000000000000000000000000000000000000000000000000000000000000000000000000000000000000000000000000000000000000000000000000000000000000000000000000000000000000000000000000000000000000000000000000000000000000000000000000002000000

theorem within_execSlatiBaud {b0 : Word} {s : State} : WithinO mask_execSlatiBaud s (execSlatiBaud b0 s) := by
  unfold execSlatiBaud
  exact (WithinO.next (within_slati rfl (Within.refl mask_execSlatiBaud s) (fun t0 hl0 =>
    (by
      split
      · rename_i w1 e2
        exact (hl0.step within_refuse rfl)
      · rename_i w3 w4 e5
        extract_lets -merge -useContext -underBinder s6 v7
        have hs6 : Within mask_execSlatiBaud s s6 :=
          ((hl0.set key_SVC_BAUD_NOW rfl).step within_answer rfl)
        exact (hs6.upd_svc rfl) : Within mask_execSlatiBaud s _))))

def mask_execBaudRevert : Nat := 0x2000000000000000000000000000000000000000000000000000000000000000000000000000000000000000000000000000000000000000000000000000000000000000000000000000000000000000000000000000000000000000000000000000000000000000000000000000000000000000000000000000002000000

theorem within_execBaudRevert {s : State} : WithinO mask_execBaudRevert s (execBaudRevert s) := by
  unfold execBaudRevert
  extract_lets -merge -useContext -underBinder s0 v1
  have hs0 : Within mask_execBaudRevert s s0 :=
    ((Within.refl mask_execBaudRevert s).set key_SVC_BAUD_NOW rfl)
  exact (WithinO.next (Within.ite
    (hs0.upd_svc rfl)
    (Within.refl mask_execBaudRevert s)))

def mask_execSlatiBreak : Nat := 0x7c2644800f200000020000000008000000000000032c400080000000000000000000000000080000000080002c79e003207f807c00000000000000000000000000000000017e00000800000000000000000273c0013d00000000047ffe03ffb0001fffff3e01ebff7e0000000000000000000000000000000000000001820002883d00

theorem within_execSlatiBreak {b0 : Bool} {s : State} : WithinO mask_execSlatiBreak s (execSlatiBreak b0 s) := by
  unfold execSlatiBreak
  extract_lets -merge -useContext -underBinder s0
  have hs0 : Within mask_execSlatiBreak s s0 :=
    ((Within.refl mask_execSlatiBreak s).setB key_SVC_BREAK rfl)
  exact (WithinO.next (Within.ite
    (Within.refl mask_execSlatiBreak s)
    (Within.ite
      hs0
      (Within.ite
        (hs0.step within_sessionEnd rfl)
        (hs0.step within_lineStart rfl)))))

def mask_execSlatiLogin : Nat := 0x600000000000000000000000000000000000000000000000000000000000000000000000000000000000000000000000000000000000000000000000000000000000000000000000000000000000000000000000000000000000000000000000000000000000000000000000000000000000000000000000000000002000100

theorem within_execSlatiLogin {b0 : Fin 256} {s : State} : WithinO mask_execSlatiLogin s (execSlatiLogin b0 s) := by
  unfold execSlatiLogin
  exact (WithinO.next (within_slati rfl (Within.refl mask_execSlatiLogin s) (fun t0 hl0 =>
    (Within.ite
      (hl0.step within_refuse rfl)
      (Within.ite
        (hl0.step within_refuse rfl)
        (Within.ite
          (hl0.step within_refuse rfl)
          (by
            extract_lets -merge -useContext -underBinder v1 s2 v3
            have hs2 : Within mask_execSlatiLogin s s2 :=
              ((hl0.step within_State_draw rfl).step within_answer rfl)
            exact (hs2.upd_svc rfl) : Within mask_execSlatiLogin s _)))))))

def mask_loginOk : Nat := 0x1089000000000000000000000000000000032c40008000000000000000000000000000000000000000000000000000000000000000000000000000000000000000000000000000000000000000000000000000000000000000000000000000000000000000000000000000000000000000000000000000000001000002800000

theorem within_loginOk {s : State} {b1 : Nat} : Within mask_loginOk s (loginOk s b1) := by
  unfold loginOk
  extract_lets -merge -useContext -underBinder s0 v1 s2 s3 s4 v5
  have hs0 : Within mask_loginOk s s0 :=
    ((Within.refl mask_loginOk s).count key_SVC_LOGIN_OK_CNT rfl)
  have hs2 : Within mask_loginOk s s2 :=
    (hs0.upd_svc rfl)
  have hs3 : Within mask_loginOk s s3 :=
    (hs2.set key_SVC_ROLE rfl)
  have hs4 : Within mask_loginOk s s4 :=
    ((hs3.setB key_SVC_SESSION rfl).count key_SVC_SESSION_CNT rfl)
  exact (Within.ite
    hs3
    ((hs4.upd_svc rfl).step within_echoTool rfl))

def mask_loginWrong : Nat := 0x100800000000000000000000000000000000000000000000000000000000000000000000000000000000000000000000000000000000000000000000000000000000000000000000000000000000000000000000000000000000000000000000000000000000000000000000000000000000000000000000000000002000000

theorem within_loginWrong {s : State} : Within mask_loginWrong s (loginWrong s) := by
  unfold loginWrong
  extract_lets -merge -useContext -underBinder s0 v1 v2 v3 s4 v5
  have hs0 : Within mask_loginWrong s s0 :=
    ((Within.refl mask_loginWrong s).count key_SVC_LOGIN_FAIL_CNT rfl)
  have hs4 : Within mask_loginWrong s s4 :=
    (hs0.setB key_SVC_LOCKOUT rfl)
  exact (Within.ite
    (hs0.upd_svc rfl)
    (hs4.upd_svc rfl))

def mask_execSlatiResp : Nat := 0x1789800000000000000000000000000000032c40008000000000000000000000000000000000000000000000000000000000000000000000000000000000000000000000000000000000000000000000000000000000000000000000000000000000000000000000000000000000000000000000000000000001000002800000

theorem within_execSlatiResp {b0 : Word} {s : State} : WithinO mask_execSlatiResp s (execSlatiResp b0 s) := by
  unfold execSlatiResp
  exact (WithinO.next (within_slati rfl (Within.refl mask_execSlatiResp s) (fun t0 hl0 =>
    (Within.ite
      (hl0.step within_refuse rfl)
      (by
        split
        · rename_i w1 e2
          exact (hl0.step within_refuse rfl)
        · rename_i w3 w4 w5 w6 e7
          extract_lets -merge -useContext -underBinder v8 v9 s10
          have hs10 : Within mask_execSlatiResp s s10 :=
            (hl0.upd_svc rfl)
          exact (Within.ite
            (hs10.step within_refuse rfl)
            (Within.ite
              ((hs10.step within_loginOk rfl).step within_answer rfl)
              ((hs10.step within_loginWrong rfl).step within_refuse rfl))) : Within mask_execSlatiResp s _)))))

def mask_execNonceExpiry : Nat := 0x2000000

theorem within_execNonceExpiry {s : State} : WithinO mask_execNonceExpiry s (execNonceExpiry s) := by
  unfold execNonceExpiry
  split
  · rename_i w0 w1 w2 w3 e4
    extract_lets -merge -useContext -underBinder v5
    exact (WithinO.next (Within.ite
      ((Within.refl mask_execNonceExpiry s).upd_svc rfl)
      (Within.refl mask_execNonceExpiry s)))
  · rename_i w6 e7
    exact (WithinO.next (Within.refl mask_execNonceExpiry s))

def mask_execLockoutEnd : Nat := 0x800000000000000000000000000000000000000000000000000000000000000000000000000000000000000000000000000000000000000000000000000000000000000000000000000000000000000000000000000000000000000000000000000000000000000000000000000000000000000000000000000000000000

theorem within_execLockoutEnd {s : State} : WithinO mask_execLockoutEnd s (execLockoutEnd s) := by
  unfold execLockoutEnd
  exact (WithinO.next (Within.ite
    ((Within.refl mask_execLockoutEnd s).setB key_SVC_LOCKOUT rfl)
    (Within.refl mask_execLockoutEnd s)))

def mask_execSlatiLogout : Nat := 0x7c2644860f000000020000000008000000000000032c400080000000000000000000000000080000000080002c79e003207f807c00000000000000000000000000000000017e00000800000000000000000273c0013d00000000047ffe03ffb0001fffff3e01ebff7e0000000000000000000000000000000000000001820002883d00

theorem within_execSlatiLogout {s : State} : WithinO mask_execSlatiLogout s (execSlatiLogout s) := by
  unfold execSlatiLogout
  exact (WithinO.next (within_slati rfl (Within.refl mask_execSlatiLogout s) (fun t0 hl0 =>
    ((Within.ite
      (hl0.step within_sessionEnd rfl)
      hl0).step within_answer rfl))))

def mask_execSessionTimeout : Nat := 0x7c2644800f000000020000000008000000000000032c400080000000000000000000000000080000000080002c79e003207f807c00000000000000000000000000000000017e00000800000000000000000273c0013d00000000047ffe03ffb0001fffff3e01ebff7e0000000000000000000000000000000000000001820002883d00

theorem within_execSessionTimeout {s : State} : WithinO mask_execSessionTimeout s (execSessionTimeout s) := by
  unfold execSessionTimeout
  exact (WithinO.next (Within.ite
    ((Within.refl mask_execSessionTimeout s).step within_sessionEnd rfl)
    (Within.refl mask_execSessionTimeout s)))

def mask_execSlatiId : Nat := 0x200000000000000000000000000000000000000000000000000000000000000000000000000000000000000000000000000000000000000000000000000000000000000000000000000000000000000000000000000000000000000000000000000000000000000000000000000000000000000000000000000000002000000

theorem within_execSlatiId {s : State} : WithinO mask_execSlatiId s (execSlatiId s) := by
  unfold execSlatiId
  exact (WithinO.next (within_slatiAlways rfl (Within.refl mask_execSlatiId s) (fun t0 hl0 =>
    (hl0.step within_answer rfl))))

def mask_execSlatiStatus : Nat := 0x200000000000000000000000000000000000000000000000000000000000000000000000000000000000000000000000000000000000000000000000000000000000000000000000000000000000000000000000000000000000000000000000000000000000000000000000000000000000000000000000000000002000000

theorem within_execSlatiStatus {s : State} : WithinO mask_execSlatiStatus s (execSlatiStatus s) := by
  unfold execSlatiStatus
  exact (WithinO.next (within_slatiAlways rfl (Within.refl mask_execSlatiStatus s) (fun t0 hl0 =>
    (hl0.step within_answer rfl))))

def mask_execSlatiCairn : Nat := 0x600000000000000000000000000000000000000000000000000000000000000000000000000000000000000000000000000000000000000000000000000000000000000000000000000000000000000000000000000000000000000000000000000000000000000000000000000000000000000000000000000000002000000

theorem within_execSlatiCairn {s : State} : WithinO mask_execSlatiCairn s (execSlatiCairn s) := by
  unfold execSlatiCairn
  exact (WithinO.next (within_slati rfl (Within.refl mask_execSlatiCairn s) (fun t0 hl0 =>
    (hl0.step within_answer rfl))))

def mask_toolRead : Nat := 0x49810000000000000000000000000000000000000000000000000000000100000000000000000000000000000000000000000000000000000300000003c4fe0000000000000000000000000000000000000000200000000000000000000000000000000000000000000000000000000000d00000000000000000000000000002000000440268

theorem within_toolRead {s : State} {b1 : Nat} {b2 : Nat} : WithinP mask_toolRead s (toolRead s b1 b2) := by
  unfold toolRead
  extract_lets -merge -useContext -underBinder s0
  have hs0 : Within mask_toolRead s s0 :=
    ((Within.refl mask_toolRead s).step within_indRead rfl)
  exact (WithinP.ite
    (WithinP.ite
      (WithinP.mk hs0)
      (WithinP.mk (Within.refl mask_toolRead s)))
    (WithinP.mk (Within.refl mask_toolRead s)))

def mask_toolWords : Nat := 0x0

theorem within_toolWords {M : Nat} {s0 s : State} {f : State → Nat → State × Nat} {n : Nat} (_ : sub mask_toolWords M = true) (h : Within M s0 s)
    (hf : ∀ t k, Within M s0 t → WithinP M s0 (f t k)) : WithinP M s0 (toolWords f s n) := by
  induction n with
  | zero => exact h
  | succ n ih => exact hf (toolWords f s n).1 n ih

def mask_execSlatiRd : Nat := 0x49810000000006000000000000000000000000000000000000000000000100000000000000000000000000000000000000000000000000000300000003c4fe0000000000000000000000000000000000000000200000000000000000000000000000000000000000000000000000000000d00000000000000000000000000002000002440268

theorem within_execSlatiRd {b0 : Fin 256} {b1 : Fin 4096} {b2 : Fin 1025} {s : State} : WithinO mask_execSlatiRd s (execSlatiRd b0 b1 b2 s) := by
  unfold execSlatiRd
  exact (WithinO.next (within_slati rfl (Within.refl mask_execSlatiRd s) (fun t0 hl0 =>
    (Within.ite
      (hl0.step within_refuse rfl)
      (by
        split
        · rename_i p1 q2 w3 e4
          have hq2 : Within mask_execSlatiRd s q2 := .of_eq e4 (within_toolWords rfl hl0 (fun t5 x5 hl5 =>
        (hl5.stepP within_toolRead rfl)))
          exact (hq2.step within_answer rfl) : Within mask_execSlatiRd s _)))))

def mask_indSelect : Nat := 0x49810000000000000000000000000000000000000000000000000000000100000000000000000000000000000000000000000000000000000300000003c4fe0000000000000000000000000000000000000000200000000000000000000000000000000000000000000000000000000000d00000000000000000000000000002000000440228

theorem within_indSelect {s : State} {b1 : Nat} {b2 : Nat} {b3 : Nat} : WithinP mask_indSelect s (indSelect s b1 b2 b3) := by
  unfold indSelect
  split
  · rename_i p0 q1 w2 e3
    have hq1 : Within mask_indSelect s q1 := .of_eq e3 (((Within.refl mask_indSelect s).step within_indSettle rfl).stepP within_indCtrl rfl)
    split
    · rename_i p4 q5 w6 e7
      have hq5 : Within mask_indSelect s q5 := .of_eq e7 ((hq1.step within_indSettle rfl).stepP within_indAddr rfl)
      exact (WithinP.mk hq5)

def mask_execSlatiRdi : Nat := 0x49810000000006000000000000000000000000000000000000000000000100000000000000000000000000000000000000000000000000000300000003c4fe0000000000000000000000000000000000000000200000000000000000000000000000000000000000000000000000000000d00000000000000000000000000002000002440268

theorem within_execSlatiRdi {b0 : Fin 256} {b1 : Fin 16} {b2 : Word} {b3 : Fin 1025} {s : State} : WithinO mask_execSlatiRdi s (execSlatiRdi b0 b1 b2 b3 s) := by
  unfold execSlatiRdi
  exact (WithinO.next (within_slati rfl (Within.refl mask_execSlatiRdi s) (fun t0 hl0 =>
    (Within.ite
      (hl0.step within_refuse rfl)
      (Within.ite
        (hl0.step within_answer rfl)
        (by
          split
          · rename_i p1 q2 w3 e4
            have hq2 : Within mask_execSlatiRdi s q2 := .of_eq e4 (within_toolWords rfl (Within.step (WithinP.fst (hl0.stepP within_indSelect rfl)) within_counted rfl) (fun t5 x5 hl5 =>
          (by
            extract_lets -merge -useContext -underBinder s6
            have hs6 : Within mask_execSlatiRdi s s6 :=
              (hl5.step within_indRead rfl)
            exact (WithinP.mk hs6) : WithinP mask_execSlatiRdi s _)))
            exact (hq2.step within_answer rfl) : Within mask_execSlatiRdi s _))))))

def mask_toolWrite : Nat := 0x4b813ffc26448000018640060117f01438000000000080032c400080000100000000130001e98819ba00ffd00080592c79e203207f807c000380200123c4fe07ee0120001f3ff6017e06046e0500000004003ba0f273c0613fc1063f801ffffeb3ffff001fffff3e01ebff7e0000002003d040208200010000141000022000038a0083ffffff

theorem within_toolWrite {s : State} {b1 : Nat} {b2 : Nat} {b3 : Nat} : WithinP mask_toolWrite s (toolWrite s b1 b2 b3) := by
  unfold toolWrite
  extract_lets -merge -useContext -underBinder p0
  have hp0 : WithinP mask_toolWrite s p0 :=
    ((Within.refl mask_toolWrite s).stepP within_regWrite rfl)
  exact (WithinP.ite
    (WithinP.mk ((Within.refl mask_toolWrite s).step within_State_adj rfl))
    (WithinP.mk (Within.step (WithinP.fst hp0) within_counted rfl)))

def mask_toolStore : Nat := 0x49810000000000000000000000000000000000000000000000000000000100000000000000000000000000000000000000000000000000000300000003c4fe0000000000000000000000000000000000000000200000000000000000000000000000000000000000000000000000000000d00000000000000000000000000002000000440228

theorem within_toolStore {s : State} {b1 : Nat} {b2 : Nat} {b3 : Nat} {b4 : Nat} : WithinP mask_toolStore s (toolStore s b1 b2 b3 b4) := by
  unfold toolStore
  exact (WithinP.ite
    (WithinP.mk ((Within.refl mask_toolStore s).step within_State_adj rfl))
    (WithinP.ite
      (WithinP.mk ((Within.refl mask_toolStore s).step within_State_adj rfl))
      (by
        split
        · rename_i p0 q1 w2 e3
          have hq1 : Within mask_toolStore s q1 := .of_eq e3 ((Within.refl mask_toolStore s).stepP within_indSelect rfl)
          split
          · rename_i p4 q5 w6 e7
            have hq5 : Within mask_toolStore s q5 := .of_eq e7 ((hq1.step within_indSettle rfl).stepP within_indData rfl)
            split
            · rename_i p8 q9 w10 e11
              have hq9 : Within mask_toolStore s q9 := .of_eq e11 (hq5.stepP within_indComplete rfl)
              exact (WithinP.mk (Within.step (WithinP.fst (WithinP.mk hq9)) within_counted rfl)) : WithinP mask_toolStore s _)))

def mask_execSlatiWr : Nat := 0x4b813ffc26448600018640060117f01438000000000080032c400080000100000000130001e98819ba00ffd00080592c79e203207f807c000380200123c4fe07ee0120001f3ff6017e06046e0500000004003ba0f273c0613fc1063f801ffffeb3ffff001fffff3e01ebff7e0000002003d040208200010000141000022000038a0083ffffff

theorem within_execSlatiWr {b0 : Fin 256} {b1 : Fin 4096} {b2 : Word} {s : State} : WithinO mask_execSlatiWr s (execSlatiWr b0 b1 b2 s) := by
  unfold execSlatiWr
  exact (WithinO.next (within_slati rfl (Within.refl mask_execSlatiWr s) (fun t0 hl0 =>
    (Within.ite
      (hl0.step within_refuse rfl)
      (Within.ite
        (hl0.step within_refuse rfl)
        (Within.step (WithinP.fst (hl0.stepP within_toolWrite rfl)) within_answerAdj rfl))))))

def mask_execSlatiWri : Nat := 0x49810000000006000000000000000000000000000000000000000000000100000000000000000000000000000000000000000000000000000300000003c4fe0000000000000000000000000000000000000000200000000000000000000000000000000000000000000000000000000000d00000000000000000000000000002000002440228

theorem within_execSlatiWri {b0 : Fin 256} {b1 : Fin 16} {b2 : Word} {b3 : Word} {s : State} : WithinO mask_execSlatiWri s (execSlatiWri b0 b1 b2 b3 s) := by
  unfold execSlatiWri
  exact (WithinO.next (within_slati rfl (Within.refl mask_execSlatiWri s) (fun t0 hl0 =>
    (Within.ite
      (hl0.step within_refuse rfl)
      (Within.step (WithinP.fst (hl0.stepP within_toolStore rfl)) within_answerAdj rfl)))))

def mask_execSlatiClock : Nat := 0x600000000000000000000000000000000000000000000000000000000000000000000000000000000000000000000000000000000000000000000000000000000000000000000000000000000000000000000000000000000000000000000000000000000000000000000000000000000000000000000000000000002040000

theorem within_execSlatiClock {b0 : Fin 10000} {b1 : Fin 100} {b2 : Fin 100} {b3 : Fin 100} {b4 : Fin 100} {b5 : Fin 100} {s : State} : WithinO mask_execSlatiClock s (execSlatiClock b0 b1 b2 b3 b4 b5 s) := by
  unfold execSlatiClock
  exact (WithinO.next (within_slati rfl (Within.refl mask_execSlatiClock s) (fun t0 hl0 =>
    (Within.ite
      (hl0.step within_refuse rfl)
      (by
        extract_lets -merge -useContext -underBinder v1 v2
        exact ((Within.ite
          hl0
          (hl0.upd_drip rfl)).step within_answer rfl) : Within mask_execSlatiClock s _)))))

def mask_execSlatiRestart : Nat := 0x40003cfc000006000000000000000000000000000000000000000000000000000000000000000000000000000000592c79e203207f807c00000000000004400020000000000000000000000000000000000000000000000000000000000000000000000000000000000000000000002003000000000001000000100000000002800083ffffff

theorem within_execSlatiRestart {s : State} : WithinO mask_execSlatiRestart s (execSlatiRestart s) := by
  unfold execSlatiRestart
  exact (WithinO.next (within_slati rfl (Within.refl mask_execSlatiRestart s) (fun t0 hl0 =>
    (Within.ite
      ((hl0.step within_restart rfl).step within_answer rfl)
      (by
        split
        · rename_i p1 q2 w3 e4
          have hq2 : Within mask_execSlatiRestart s q2 := .of_eq e4 (hl0.stepP within_restartAsked rfl)
          exact (Within.ite
            (hq2.step within_answer rfl)
            (hq2.step within_refuse rfl)) : Within mask_execSlatiRestart s _)))))

def mask_holdSet : Nat := 0x218000000000020000000000000000000000000000000000000000000000000000000000000000000000000000000000000000000000000000000000000000000000000000000000000000000000000000000000000000000000000000000000000000000000000000000000000000000000000000001000000008000

theorem within_holdSet {s : State} : Within mask_holdSet s (holdSet s) := by
  unfold holdSet
  exact (Within.ite
    (Within.refl mask_holdSet s)
    ((((Within.refl mask_holdSet s).setB key_FLOW_EVID_HOLD rfl).set64 key_FLOW_HOLD_SEQ_HI rfl key_FLOW_HOLD_SEQ_LO rfl).step within_State_event rfl))

def mask_execSlatiHold : Nat := 0x600000218000000000020000000000000000000000000000000000000000000000000000000000000000000000000000000000000000000000000000000000000000000000000000000000000000000000000000000000000000000000000000000000000000000000000000000000000000000000000000001000002008000

theorem within_execSlatiHold {s : State} : WithinO mask_execSlatiHold s (execSlatiHold s) := by
  unfold execSlatiHold
  exact (WithinO.next (within_slati rfl (Within.refl mask_execSlatiHold s) (fun t0 hl0 =>
    ((hl0.step within_holdSet rfl).step within_answer rfl))))

def mask_sendChunk : Nat := 0x2000000

theorem within_sendChunk {s : State} : Within mask_sendChunk s (sendChunk s) := by
  unfold sendChunk
  exact ((Within.refl mask_sendChunk s).step within_say rfl)

def mask_execSlatiExport : Nat := 0x600010000060000000018000000000000000000000000000000000000000000000000000000000000000000000000000000000000000000000000000000000000000000000000000000000000000000000000000000000000000000000000000000000000000000000000000000000000000000000000000002000002080000

theorem within_execSlatiExport {s : State} : WithinO mask_execSlatiExport s (execSlatiExport s) := by
  unfold execSlatiExport
  exact (WithinO.next (within_slati rfl (Within.refl mask_execSlatiExport s) (fun t0 hl0 =>
    (Within.ite
      ((hl0.step within_State_adj rfl).step within_refuse rfl)
      (Within.ite
        (hl0.step within_refuse rfl)
        (Within.ite
          (hl0.step within_refuse rfl)
          (by
            extract_lets -merge -useContext -underBinder s1
            have hs1 : Within mask_execSlatiExport s s1 :=
              (WithinP.fst (hl0.stepP within_exportStart rfl))
            exact (hs1.step within_sendChunk rfl) : Within mask_execSlatiExport s _)))))))

def mask_execSlatiAck : Nat := 0x600018200060000000038000000000000000000000000000000000000000000000000000000000000000000000000000000000000000000000000000000000000000000000000000000000000000000000000000000000000000000000000000000000000000000000000000000000000000000000000000001000002088000

theorem within_execSlatiAck {b0 : Word} {b1 : Word} {s : State} : WithinO mask_execSlatiAck s (execSlatiAck b0 b1 s) := by
  unfold execSlatiAck
  exact (WithinO.next (within_slati rfl (Within.refl mask_execSlatiAck s) (fun t0 hl0 =>
    (Within.ite
      (hl0.step within_refuse rfl)
      (by
        extract_lets -merge -useContext -underBinder s1
        have hs1 : Within mask_execSlatiAck s s1 :=
          (WithinP.fst (hl0.stepP within_exportAck rfl))
        exact (Within.ite
          (hs1.step within_sendChunk rfl)
          (hs1.step within_answer rfl)) : Within mask_execSlatiAck s _)))))

def mask_execSlatiExpabort : Nat := 0x600000000020000000008000000000000000000000000000000000000000000000000000000000000000000000000000000000000000000000000000000000000000000000000000000000000000000000000000000000000000000000000000000000000000000000000000000000000000000000000000000000002080000

theorem within_execSlatiExpabort {s : State} : WithinO mask_execSlatiExpabort s (execSlatiExpabort s) := by
  unfold execSlatiExpabort
  exact (WithinO.next (within_slati rfl (Within.refl mask_execSlatiExpabort s) (fun t0 hl0 =>
    (Within.ite
      ((hl0.step within_exportEnd rfl).step within_answer rfl)
      (hl0.step within_refuse rfl)))))

def mask_execSlatiMon : Nat := 0x3e7c02000600000000000000000000000000000000000000000000000000000000000000000000000000000000000000000000000000000000000000000000000000000000000000000000000000000000000000000000000000000000000000000000000000000000000000000000000000000000000000000000000002000002000000

theorem within_execSlatiMon {b0 : Fin 32} {b1 : Fin 16} {b2 : Fin 64} {s : State} : WithinO mask_execSlatiMon s (execSlatiMon b0 b1 b2 s) := by
  unfold execSlatiMon
  exact (WithinO.next (within_slati rfl (Within.refl mask_execSlatiMon s) (fun t0 hl0 =>
    (Within.ite
      (hl0.step within_refuse rfl)
      (by
        extract_lets -merge -useContext -underBinder v1
        exact (Within.ite
          (hl0.step within_refuse rfl)
          (Within.ite
            ((Within.ite
              ((hl0.step within_setTpSel rfl).step within_State_setOwner rfl)
              hl0).step within_answer rfl)
            (by
              split
              · rename_i p2 q3 w4 e5
                have hq3 : Within mask_execSlatiMon s q3 := .of_eq e5 (hl0.stepP within_monClaim rfl)
                exact (Within.ite
                  (hq3.step within_answer rfl)
                  (hq3.step within_refuse rfl)) : Within mask_execSlatiMon s _))) : Within mask_execSlatiMon s _)))))

def mask_execSlatiTest : Nat := 0x3e7c0fff86000006000000000000000000000000000000000000000000000000000000000000080000000080002c79e003207f807c00000000000000000000000000000000017e00000800000000000000000273c0413d00063f801ffffeb3ffff001fffff3e01ebff7e00000000000000000000000000000000000000038200020cbd00

theorem within_execSlatiTest {b0 : Sys2Proof.TestName} {s : State} : WithinO mask_execSlatiTest s (execSlatiTest b0 s) := by
  unfold execSlatiTest
  exact (WithinO.next (within_slati rfl (Within.refl mask_execSlatiTest s) (fun t0 hl0 =>
    (by
      split
      · rename_i w1 e2
        exact ((hl0.step within_testStart rfl).step within_answer rfl)
      · rename_i w3 e4
        exact (hl0.step within_refuse rfl)
      · rename_i w5 e6
        exact (hl0.step within_refuse rfl)
      · rename_i w7 w8 e9 e10 e11
        exact ((((hl0.set key_TEST_TEST_CODE rfl).set key_TEST_TEST_ARG rfl).set key_TEST_TEST_RESULT rfl).step within_refuse rfl) : Within mask_execSlatiTest s _))))

def mask_execSlatiStop : Nat := 0x7c264486000000000000000000000000000000000000000000000000000000000000000000080000000080002c79e003207f807c00000000000000000000000000000000017e00000800000000000000000273c0013d00000000047ffe03ffb0001fffff3e01ebff7e0000000000000000000000000000000000000000820002003d00

theorem within_execSlatiStop {s : State} : WithinO mask_execSlatiStop s (execSlatiStop s) := by
  unfold execSlatiStop
  exact (WithinO.next (within_slati rfl (Within.refl mask_execSlatiStop s) (fun t0 hl0 =>
    ((hl0.step within_testAbort rfl).step within_answer rfl))))

def mask_storeBytes : Nat := 0x20

theorem within_storeBytes {s : State} {b1 : Nat} {b2 : Nat} {b3 : List (Nat × Nat)} : Within mask_storeBytes s (storeBytes s b1 b2 b3) := by
  unfold storeBytes
  exact ((Within.refl mask_storeBytes s).foldr fun x0 t0 hl0 =>
    (hl0.step within_State_wr8 rfl))

def mask_paramCommand : Nat := 0x600000000000000000000000000000000000000000000000000000000000000000000000000000000000000000000000000000000000000000000000000000000000000000000000000000000000000000000000000000000000000000000000000000000000000000000000000000000000000000000000000000002000000

theorem within_paramCommand {M : Nat} {s0 s : State} {f : State → State} (hm : sub mask_paramCommand M = true) (h : Within M s0 s)
    (hf : ∀ t, Within M s0 t → Within M s0 (f t)) : Within M s0 (paramCommand s f) :=
  within_slati (sub_trans rfl hm) h fun t ht =>
    .ite (hf t ht) (.ite (ht.step within_refuse (sub_trans rfl hm)) (.ite (hf t ht) (ht.step within_refuse (sub_trans rfl hm))))

def mask_tcfgCommand : Nat := 0x600000000000000000000000000000000000000000000000000000000000000000000000000000000000000000000000000000000000000000000000000000000000000000000000000000000000000000000000000000000000000000000000000000000000000000000000000000000000000000000000000000002000000

theorem within_tcfgCommand {M : Nat} {s0 s : State} {f : State → State} (hm : sub mask_tcfgCommand M = true) (h : Within M s0 s)
    (hf : ∀ t, Within M s0 t → Within M s0 (f t)) : Within M s0 (tcfgCommand s f) :=
  within_slati (sub_trans rfl hm) h fun t ht => .ite (hf t ht) (ht.step within_refuse (sub_trans rfl hm))

def mask_execSlatiParamRd : Nat := 0x600000000000000000000000000000000000000000000000000000000000000000000000000000000000000000000000000000000000000000000000000000000000000000000000000000000000000000000000000000000000000000000000000000000000000000000000000000000000000000000000000000002000000

theorem within_execSlatiParamRd {s : State} : WithinO mask_execSlatiParamRd s (execSlatiParamRd s) := by
  unfold execSlatiParamRd
  exact (WithinO.next (within_paramCommand rfl (Within.refl mask_execSlatiParamRd s) (fun t0 hl0 =>
    (hl0.step within_answer rfl))))

def mask_execSlatiParamWr : Nat := 0x600000000000000000000000000000000000000000000000000000000000000000000000000000000000000000000000000000000000000000000000000000000000000000000000000000000000000000000000000000000000000000000000000000000000000000000000000000000000000000000000000000002000000

theorem within_execSlatiParamWr {b0 : Fin 128} {b1 : Word} {s : State} : WithinO mask_execSlatiParamWr s (execSlatiParamWr b0 b1 s) := by
  unfold execSlatiParamWr
  exact (WithinO.next (within_paramCommand rfl (Within.refl mask_execSlatiParamWr s) (fun t0 hl0 =>
    (by
      split
      · rename_i w1 e2
        exact (hl0.step within_refuse rfl)
      · rename_i w3 w4 w5 w6 e7
        extract_lets -merge -useContext -underBinder v8
        exact (Within.ite
          (hl0.step within_refuse rfl)
          ((hl0.upd_svc rfl).step within_answer rfl)) : Within mask_execSlatiParamWr s _))))

def mask_paramCommit : Nat := 0x80003cfc000000000000000000000000000000000000000000000000000000000000000000000000000000000000482c79e203207f807c000380000023c0be0000000000000000017e00000800000000000000000273c0013d00000000047ffe03ffb0001fffff3e01ebff7e0100020000000000000000000000000000200002820002003d00

theorem within_paramCommit {s : State} : Within mask_paramCommit s (paramCommit s) := by
  unfold paramCommit
  extract_lets -merge -useContext -underBinder s0 v1 s2 v3
  have hs0 : Within mask_paramCommit s s0 :=
    ((Within.refl mask_paramCommit s).storeBytesTo mem_SAFM_1 rfl)
  have hs2 : Within mask_paramCommit s s2 :=
    ((hs0.set key_SEAL_SIG_CRC rfl).setB key_SEAL_SIG_OK rfl)
  exact ((hs2.upd_svc rfl).step within_evalAll rfl)

def mask_execSlatiParamCommit : Nat := 0x80003cfc000006000000000000000000000000000000000000000000000000000000000000000000000000000000482c79e203207f807c000380000023c0be0000000000000000017e00000800000000000000000273c0013d00000000047ffe03ffb0001fffff3e01ebff7e0100020000000000000000000000000000200002820002003d00

theorem within_execSlatiParamCommit {s : State} : WithinO mask_execSlatiParamCommit s (execSlatiParamCommit s) := by
  unfold execSlatiParamCommit
  exact (WithinO.next (within_paramCommand rfl (Within.refl mask_execSlatiParamCommit s) (fun t0 hl0 =>
    (by
      extract_lets -merge -useContext -underBinder s1
      have hs1 : Within mask_execSlatiParamCommit s s1 :=
        (hl0.step within_paramCommit rfl)
      exact (hs1.step within_answer rfl) : Within mask_execSlatiParamCommit s _))))

def mask_execSlatiTcfgRd : Nat := 0x600000000000000000000000000000000000000000000000000000000000000000000000000000000000000000000000000000000000000000000000000000000000000000000000000000000000000000000000000000000000000000000000000000000000000000000000000000000000000000000000000000002000000

theorem within_execSlatiTcfgRd {s : State} : WithinO mask_execSlatiTcfgRd s (execSlatiTcfgRd s) := by
  unfold execSlatiTcfgRd
  exact (WithinO.next (within_tcfgCommand rfl (Within.refl mask_execSlatiTcfgRd s) (fun t0 hl0 =>
    (hl0.step within_answer rfl))))

def mask_execSlatiTcfgWr : Nat := 0x600000000000000000000000000000000000000000000000000000000000000000000000000000000000000000000000000000000000000000000000000000000000000000000000000000000000000000000000000000000000000000000000000000000000000000000000000000000000000000000000000000002000000

theorem within_execSlatiTcfgWr {b0 : Fin 128} {b1 : Word} {s : State} : WithinO mask_execSlatiTcfgWr s (execSlatiTcfgWr b0 b1 s) := by
  unfold execSlatiTcfgWr
  exact (WithinO.next (within_tcfgCommand rfl (Within.refl mask_execSlatiTcfgWr s) (fun t0 hl0 =>
    (by
      split
      · rename_i w1 e2
        exact (hl0.step within_refuse rfl)
      · rename_i w3 w4 w5 w6 e7
        extract_lets -merge -useContext -underBinder v8
        exact (Within.ite
          (hl0.step within_refuse rfl)
          ((hl0.upd_svc rfl).step within_answer rfl)) : Within mask_execSlatiTcfgWr s _))))

def mask_tcfgCommit : Nat := 0x10000000000000000000000000000000000000000000000000000000000000000000000000000000000000000000000000000000000000000000000000000000000000000000000000000000000000000000000000000000000000000000000000000000000000000000000000000000000000000000000000000000000000000000002000000

theorem within_tcfgCommit {s : State} : Within mask_tcfgCommit s (tcfgCommit s) := by
  unfold tcfgCommit
  extract_lets -merge -useContext -underBinder s0 s1 v2
  have hs0 : Within mask_tcfgCommit s s0 :=
    ((Within.refl mask_tcfgCommit s).storeBytesTo mem_DST_2 rfl)
  have hs1 : Within mask_tcfgCommit s s1 :=
    (hs0.wr32To mem_DST_2 rfl)
  exact (hs1.upd_svc rfl)

def mask_execSlatiTcfgCommit : Nat := 0x10000000000000600000000000000000000000000000000000000000000000000000000000000000000000000000000000000000000000000000000000000000000000000000000000000000000000000000000000000000000000000000000000000000000000000000000000000000000000000000000000000000000000000000002000000

theorem within_execSlatiTcfgCommit {s : State} : WithinO mask_execSlatiTcfgCommit s (execSlatiTcfgCommit s) := by
  unfold execSlatiTcfgCommit
  exact (WithinO.next (within_tcfgCommand rfl (Within.refl mask_execSlatiTcfgCommit s) (fun t0 hl0 =>
    ((hl0.step within_tcfgCommit rfl).step within_answer rfl))))

def mask_lcChange : Nat := 0x3cfc000000000002000000000000000000000000000000000000000000000000000000000000000000000000482c79e203207f807c000380000023c0be0000000000000000017e00000800000000000000000273c0013d00000000047ffe03ffb0001fffff3e01ebff7e00000000000000000000000000000000002c000382000000bf00

theorem within_lcChange {s : State} {b1 : Nat} : Within mask_lcChange s (lcChange s b1) := by
  unfold lcChange
  extract_lets -merge -useContext -underBinder v0 s1 s2 v3
  have hs1 : Within mask_lcChange s s1 :=
    ((Within.refl mask_lcChange s).step within_State_event rfl)
  have hs2 : Within mask_lcChange s s2 :=
    ((hs1.set key_SYS_LC_STATE rfl).setB key_SYS_LC_WIPE_PEND rfl)
  exact ((hs2.upd_pwr rfl).step within_evalAll rfl)

def mask_execSlatiLc : Nat := 0x3cfc000006000002000000000000000000000000000000000000000000000000000000000000000000000000482c79e203207f807c000380000023c0be0000000000000000017e00000800000000000000000273c0013d00000000047ffe03ffb0001fffff3e01ebff7e00000000000000000000000000002000002c000382000200bf00

theorem within_execSlatiLc {b0 : Fin 6} {s : State} : WithinO mask_execSlatiLc s (execSlatiLc b0 s) := by
  unfold execSlatiLc
  extract_lets -merge -useContext -underBinder s0
  have hs0 : Within mask_execSlatiLc s s0 :=
    (Within.ite
      ((Within.refl mask_execSlatiLc s).count key_SYS_LC_REFUSE_CNT rfl)
      (Within.refl mask_execSlatiLc s))
  exact (WithinO.next (within_slati rfl hs0 (fun t1 hl1 =>
    (by
      split
      · rename_i w2 w3 e4
        exact ((hl1.count key_SYS_LC_REFUSE_CNT rfl).step within_refuse rfl)
      · rename_i w5 e6
        exact ((hl1.step within_lcChange rfl).step within_answer rfl) : Within mask_execSlatiLc s _))))

end Sys2Proof.Machine
end

