-- ==== Sys2Proof/Laws/FrameTick.lean ====
section
/-! SUPPORT. What each operation and meaning of Machine/Tick.lean can change: one mask and one lemma each. -/

set_option Elab.async false

namespace Sys2Proof.Machine

def mask_agesGrow : Nat := 0x410000000000000400000000000000000000000000000000000000000000000000000000000000000000000000000000000000000000000000000000000000000000000

theorem within_agesGrow {s : State} : Within mask_agesGrow s (agesGrow s) := by
  unfold agesGrow
  extract_lets -merge -useContext -underBinder s0
  have hs0 : Within mask_agesGrow s s0 :=
    ((Within.refl mask_agesGrow s).eachAx fun t1 x1 hl1 =>
      (hl1.count (key_AX_GAP_AGE_MS _) rfl))
  exact (Within.ite
    (hs0.eachHead fun t2 x2 hl2 =>
      ((hl2.count (key_LH_FRAME_AGE_MS _) rfl).count (key_LH_GW_MS _) rfl))
    hs0)

def mask_clampForget : Nat := 0x40000000000000000000000000000000000000000000000000000000000000000000000000000000000000000000000000000000000000000000000000000000000000000000000000000000000000000000000000800

theorem within_clampForget {s : State} : Within mask_clampForget s (clampForget s) := by
  unfold clampForget
  extract_lets -merge -useContext -underBinder s0 v1
  have hs0 : Within mask_clampForget s s0 :=
    ((Within.refl mask_clampForget s).foldl fun t2 x2 hl2 =>
      (hl2.setSat (key_GALC_CLAMP_SUM _) rfl))
  exact (Within.ite
    (Within.refl mask_clampForget s)
    (hs0.upd_gal rfl))

def mask_ingestForget : Nat := 0x800000000000000000000000000000000000000000000000000000000000000000000000000000000000000000000000000000000000000000000000000000000000000020000

theorem within_ingestForget {s : State} : Within mask_ingestForget s (ingestForget s) := by
  unfold ingestForget
  extract_lets -merge -useContext -underBinder v0
  exact (Within.ite
    (Within.refl mask_ingestForget s)
    (((Within.refl mask_ingestForget s).upd_ingest rfl).setSat key_LANT_ING_MBPS rfl))

def mask_repairsForget : Nat := 0x3cfc000000000000000000000000000000000000000000000000000000000000000000000000000000000000482c79e203207f807c000380000023c0be0000000000000000017e00000800000000000000000273c0013d00000000047ffe03ffb0001fffff3e01ebff7e0000000000000000000000000000000000200002820000007d80

theorem within_repairsForget {s : State} : Within mask_repairsForget s (repairsForget s) := by
  unfold repairsForget
  extract_lets -merge -useContext -underBinder s0 v1
  have hs0 : Within mask_repairsForget s s0 :=
    ((Within.refl mask_repairsForget s).upd_scrubLog rfl)
  exact (Within.ite
    (Within.refl mask_repairsForget s)
    (Within.ite
      hs0
      (((hs0.upd_voteBad rfl).eachAx fun t2 x2 hl2 =>
        (hl2.step within_axShow rfl)).step within_evalAll rfl)))

def mask_milli : Nat := 0x3cfc000000000000000000000000000000000000000000000000000000000000000000000000000000000000482c79e203207f807c000380000023c0be0800000410000000017e00400800000000000000000273c0013d00000000047ffe03ffb0001fffff3e01ebff7e0000000000000000000000000000000000200002820000027d80

theorem within_milli {s : State} : Within mask_milli s (milli s) := by
  unfold milli
  exact (((((Within.refl mask_milli s).step within_agesGrow rfl).step within_clampForget rfl).step within_ingestForget rfl).step within_repairsForget rfl)

def mask_idle : Nat := 0x3cfc000000000000000000000000000000000000000000000000000000000000000000800000000000000000482c79e203207f807c000380000023c0be0800000410000000017e00400800000000000000000273c0013d00000000047ffe03ffb0001fffff3e01ebff7e0000000000000000000000000000000000200002820000067d81

theorem within_idle {s : State} : Within mask_idle s (idle s) := by
  unfold idle
  extract_lets -merge -useContext -underBinder s0
  have hs0 : Within mask_idle s s0 :=
    ((Within.refl mask_idle s).step within_dripCount rfl)
  exact (Within.ite
    hs0
    (Within.ite
      (hs0.step within_recessiveCount rfl)
      ((hs0.step within_recessiveCount rfl).step within_milli rfl)))

end Sys2Proof.Machine
end

