-- ==== Sys2Proof/Laws/FrameExec.lean ====
section
/-! SUPPORT. What each command can change, and that every command completes. -/

set_option Elab.async false

namespace Sys2Proof.Machine

/-- What a command can change: the mask of its meaning. -/
def cmdMask : Instr → Nat
  | .registerWrite _ _ _ _ => mask_execRegisterWrite
  | .bitAliasWrite _ _ _ _ => mask_execBitAliasWrite
  | .wideHighWrite _ _ _ => mask_execWideHighWrite
  | .wideLowWrite _ _ _ => mask_execWideLowWrite
  | .indAddrWrite _ _ _ => mask_execIndAddrWrite
  | .indCtrlWrite _ _ _ => mask_execIndCtrlWrite
  | .indDataRead _ _ => mask_execIndDataRead
  | .indDataWrite _ _ _ => mask_execIndDataWrite
  | .indPrefetchDone _ _ => mask_execIndPrefetchDone
  | .indPostedWriteDone _ _ => mask_execIndPostedWriteDone
  | .voteScrub _ => mask_execVoteScrub
  | .domainOn _ => mask_execDomainOn
  | .domainOff _ => mask_execDomainOff
  | .hostResClaim _ _ _ => mask_execHostResClaim
  | .lampTestEnd => mask_execLampTestEnd
  | .battlInterrupt _ => mask_execBattlInterrupt
  | .battlReturn _ => mask_execBattlReturn
  | .pfWarn => mask_execPfWarn
  | .powerDownComplete => mask_execPowerDownComplete
  | .powerOnStart _ => mask_execPowerOnStart
  | .supplyLevelChange _ _ => mask_execSupplyLevelChange
  | .battdOvOpen _ => mask_execBattdOvOpen
  | .battdOvClose _ => mask_execBattdOvClose
  | .chopperOn _ => mask_execChopperOn
  | .chopperOff _ => mask_execChopperOff
  | .chopBudgetRestored => mask_execChopBudgetRestored
  | .busOvervoltage _ => mask_execBusOvervoltage
  | .modeReqWrite _ _ => mask_execModeReqWrite
  | .activeGateReadbackDone _ => mask_execActiveGateReadbackDone
  | .actRdySet _ => mask_execActRdySet
  | .idleDelayExpiry => mask_execIdleDelayExpiry
  | .wakeEvent _ => mask_execWakeEvent
  | .parkStart => mask_execParkStart
  | .parkLateWake _ => mask_execParkLateWake
  | .parkComplete => mask_execParkComplete
  | .crawlP10Off => mask_execCrawlP10Off
  | .clockFailure _ _ _ => mask_execClockFailure
  | .cellMeasure _ _ => mask_execCellMeasure
  | .clockMeasureDone _ => mask_execClockMeasureDone
  | .selfTestStepPass _ => mask_execSelfTestStepPass
  | .selfTestStepFail _ _ _ => mask_execSelfTestStepFail
  | .lpddr5WipeDone _ _ => mask_execLpddr5WipeDone
  | .hostStart _ _ => mask_execHostStart
  | .hostRdyWrite _ _ => mask_execHostRdyWrite
  | .hostRdyTimeout => mask_execHostRdyTimeout
  | .refugeMonitorPowerOn => mask_execRefugeMonitorPowerOn
  | .galleryDeferredTest _ _ => mask_execGalleryDeferredTest
  | .bootConfirmWrite _ _ => mask_execBootConfirmWrite
  | .refugeAnnounce _ => mask_execRefugeAnnounce
  | .lcWipesDone _ _ => mask_execLcWipesDone
  | .rstReqWrite _ _ => mask_execRstReqWrite
  | .hostWdKickWrite _ _ => mask_execHostWdKickWrite
  | .hostWdExpiry => mask_execHostWdExpiry
  | .wdRestartDue => mask_execWdRestartDue
  | .traverseUpdate _ _ => mask_execTraverseUpdate
  | .torqueRampEnd _ => mask_execTorqueRampEnd
  | .holdReductionStart _ => mask_execHoldReductionStart
  | .axPush _ _ => mask_execAxPush
  | .axStop _ _ => mask_execAxStop
  | .axFlush _ _ => mask_execAxFlush
  | .axReverse _ _ => mask_execAxReverse
  | .prfCommit _ _ _ => mask_execPrfCommit
  | .trvGoWrite _ _ => mask_execTrvGoWrite
  | .torqueReqWrite _ _ _ => mask_execTorqueReqWrite
  | .axModeWrite _ _ _ => mask_execAxModeWrite
  | .axEnWrite _ _ _ => mask_execAxEnWrite
  | .torqueRemoval _ => mask_execTorqueRemoval
  | .tblCrcUpdate _ => mask_execTblCrcUpdate
  | .cstepEdge _ _ _ => mask_execCstepEdge
  | .encoderLost _ => mask_execEncoderLost
  | .deviationDecision _ => mask_execDeviationDecision
  | .switchAccepted _ _ => mask_execSwitchAccepted
  | .home _ _ => mask_execHome
  | .hardStopFound _ => mask_execHardStopFound
  | .learn _ _ => mask_execLearn
  | .learnAbort _ _ => mask_execLearnAbort
  | .forceTrip _ => mask_execForceTrip
  | .reversalRequest _ => mask_execReversalRequest
  | .sqzChange _ => mask_execSqzChange
  | .stepOut _ _ => mask_execStepOut
  | .gapMmReceived _ _ _ _ => mask_execGapMmReceived
  | .gapStale _ => mask_execGapStale
  | .headPresent _ _ _ => mask_execHeadPresent
  | .headLinkReady _ => mask_execHeadLinkReady
  | .linkReadyTimeout _ => mask_execLinkReadyTimeout
  | .linkTrainDone _ _ => mask_execLinkTrainDone
  | .identDone _ _ _ => mask_execIdentDone
  | .calibReadDone _ _ => mask_execCalibReadDone
  | .headLinkLoss _ _ => mask_execHeadLinkLoss
  | .portFaultWaitEnd _ => mask_execPortFaultWaitEnd
  | .retrain _ _ => mask_execRetrain
  | .recal _ _ => mask_execRecal
  | .headPowerTrip _ => mask_execHeadPowerTrip
  | .headPowerRetry _ => mask_execHeadPowerRetry
  | .headBudgetShed _ => mask_execHeadBudgetShed
  | .headShedRestore _ _ => mask_execHeadShedRestore
  | .frameTrigger _ _ => mask_execFrameTrigger
  | .frameLineRx _ _ _ _ _ _ => mask_execFrameLineRx
  | .frameStale _ => mask_execFrameStale
  | .frameProcessed _ _ _ => mask_execFrameProcessed
  | .glowwormDecision _ _ => mask_execGlowwormDecision
  | .glowwormSilence _ => mask_execGlowwormSilence
  | .poseWrite _ _ _ _ => mask_execPoseWrite
  | .bgLearn _ _ => mask_execBgLearn
  | .bgAbort _ _ => mask_execBgAbort
  | .bgLearnDone _ => mask_execBgLearnDone
  | .lqAck _ _ => mask_execLqAck
  | .recordAtSafety _ => mask_execRecordAtSafety
  | .visionStale _ => mask_execVisionStale
  | .burstReqHoldEnd _ => mask_execBurstReqHoldEnd
  | .thinAdclHoldEnd _ => mask_execThinAdclHoldEnd
  | .cycReqWrite _ _ _ => mask_execCycReqWrite
  | .cycleTick => mask_execCycleTick
  | .supervisionTimeout _ => mask_execSupervisionTimeout
  | .dwellDoneSet _ => mask_execDwellDoneSet
  | .pauseDoneSet _ => mask_execPauseDoneSet
  | .recoverSettle _ => mask_execRecoverSettle
  | .sealSample _ _ _ _ => mask_execSealSample
  | .sealPoleDisagree _ => mask_execSealPoleDisagree
  | .sealChange _ => mask_execSealChange
  | .inputAccepted _ _ _ => mask_execInputAccepted
  | .channelExchange => mask_execChannelExchange
  | .inputDiscLatch _ => mask_execInputDiscLatch
  | .pairDiscrepancyLatch _ _ => mask_execPairDiscrepancyLatch
  | .twoHandButtonFault _ _ => mask_execTwoHandButtonFault
  | .twoHandWindowExpiry _ => mask_execTwoHandWindowExpiry
  | .heartbeatLost _ => mask_execHeartbeatLost
  | .reversalWatchFail _ => mask_execReversalWatchFail
  | .guidedContactFault _ => mask_execGuidedContactFault
  | .edmCheckFail _ _ => mask_execEdmCheckFail
  | .resetRelease _ _ _ => mask_execResetRelease
  | .resetStuck _ => mask_execResetStuck
  | .spPeriodicTestFail _ _ => mask_execSpPeriodicTestFail
  | .mirrorCheck => mask_execMirrorCheck
  | .testDueSet => mask_execTestDueSet
  | .safeCopyRx _ _ => mask_execSafeCopyRx
  | .pairTimeout _ => mask_execPairTimeout
  | .permissiveLapse _ => mask_execPermissiveLapse
  | .streamUnsync _ => mask_execStreamUnsync
  | .networkLost _ => mask_execNetworkLost
  | .netRestrEnd => mask_execNetRestrEnd
  | .doorStatusSend => mask_execDoorStatusSend
  | .gcOnWrite _ _ _ => mask_execGcOnWrite
  | .followWrite _ _ _ => mask_execFollowWrite
  | .directEdge _ _ => mask_execDirectEdge
  | .ocTrip _ _ => mask_execOcTrip
  | .retryBackoffEnd _ => mask_execRetryBackoffEnd
  | .retryNReset _ => mask_execRetryNReset
  | .commandOffSettled _ => mask_execCommandOffSettled
  | .inrushWindowEnd _ => mask_execInrushWindowEnd
  | .thermalLatch _ _ _ => mask_execThermalLatch
  | .thermalLatchClear _ _ _ => mask_execThermalLatchClear
  | .clampUnlock _ _ => mask_execClampUnlock
  | .crawlClampUnlock _ => mask_execCrawlClampUnlock
  | .shedStep _ _ _ => mask_execShedStep
  | .shedRestoreStep _ _ _ => mask_execShedRestoreStep
  | .gateCutBitClear _ => mask_execGateCutBitClear
  | .crawlEnFilterAccept _ => mask_execCrawlEnFilterAccept
  | .crawlMapWrite _ _ _ => mask_execCrawlMapWrite
  | .bankOvervoltage _ => mask_execBankOvervoltage
  | .bankReverse _ => mask_execBankReverse
  | .bankGroundLoss _ => mask_execBankGroundLoss
  | .bankReturn _ => mask_execBankReturn
  | .bankChannelRestore _ => mask_execBankChannelRestore
  | .bankSwitchFault _ => mask_execBankSwitchFault
  | .barrierLoss => mask_execBarrierLoss
  | .barrierReturn => mask_execBarrierReturn
  | .fiAccepted _ _ => mask_execFiAccepted
  | .foOutWrite _ _ => mask_execFoOutWrite
  | .thrWrite _ _ => mask_execThrWrite
  | .foCurrentLimit _ => mask_execFoCurrentLimit
  | .foThermalShutdown _ => mask_execFoThermalShutdown
  | .foThermalRestart _ => mask_execFoThermalRestart
  | .fioFaultClear => mask_execFioFaultClear
  | .canFrameRx _ _ _ => mask_execCanFrameRx
  | .canTxPush _ _ _ => mask_execCanTxPush
  | .canTxCancel _ _ _ => mask_execCanTxCancel
  | .canTxRelease _ _ _ => mask_execCanTxRelease
  | .canRxAck _ _ _ => mask_execCanRxAck
  | .canHpbRelease _ _ _ => mask_execCanHpbRelease
  | .canTxStart _ _ => mask_execCanTxStart
  | .canTxComplete _ _ _ => mask_execCanTxComplete
  | .canBusError _ _ _ _ => mask_execCanBusError
  | .canRecover _ _ => mask_execCanRecover
  | .canRecoveryDone _ => mask_execCanRecoveryDone
  | .lpReqWrite _ _ _ => mask_execLpReqWrite
  | .canSleepEnter _ => mask_execCanSleepEnter
  | .canLocalWake _ _ => mask_execCanLocalWake
  | .canEnWrite _ _ _ => mask_execCanEnWrite
  | .safeCanConfigure => mask_execSafeCanConfigure
  | .ecnFrameRx _ _ _ _ => mask_execEcnFrameRx
  | .ecnTailWrite _ _ _ => mask_execEcnTailWrite
  | .ecnFrameTx _ _ => mask_execEcnFrameTx
  | .bypassRelayChange => mask_execBypassRelayChange
  | .ecnLinkChange _ _ _ => mask_execEcnLinkChange
  | .mvbMasterFrame _ _ _ => mask_execMvbMasterFrame
  | .mvbSlaveFrame _ _ _ _ => mask_execMvbSlaveFrame
  | .mvbLineFault _ => mask_execMvbLineFault
  | .mvbPortStale _ => mask_execMvbPortStale
  | .mvbSinkWord0Read _ => mask_execMvbSinkWord0Read
  | .lglPoll => mask_execLglPoll
  | .lglReplyRx _ _ => mask_execLglReplyRx
  | .lglReplyTimeout => mask_execLglReplyTimeout
  | .lglSendBuffer _ _ => mask_execLglSendBuffer
  | .lglSlaveReply _ _ => mask_execLglSlaveReply
  | .dvrMessageRx _ _ => mask_execDvrMessageRx
  | .announceSend => mask_execAnnounceSend
  | .announceRx _ _ _ => mask_execAnnounceRx
  | .consistRx _ => mask_execConsistRx
  | .partnerLost _ => mask_execPartnerLost
  | .carrierTimeout _ _ => mask_execCarrierTimeout
  | .tcmsLost => mask_execTcmsLost
  | .slotHoldExpiry _ => mask_execSlotHoldExpiry
  | .expectedMissing _ => mask_execExpectedMissing
  | .doorInfoSend => mask_execDoorInfoSend
  | .recordSeal _ _ => mask_execRecordSeal
  | .archivePageCopy _ _ => mask_execArchivePageCopy
  | .traceSample _ => mask_execTraceSample
  | .clipComplete _ => mask_execClipComplete
  | .snapshotTimer => mask_execSnapshotTimer
  | .snap _ => mask_execSnap
  | .hev _ => mask_execHev
  | .find _ => mask_execFind
  | .findDone => mask_execFindDone
  | .rdClassWrite _ _ => mask_execRdClassWrite
  | .expStart _ => mask_execExpStart
  | .expAbort _ => mask_execExpAbort
  | .expAckWrite _ _ => mask_execExpAckWrite
  | .flowRecovery _ _ _ => mask_execFlowRecovery
  | .nandPowerOff => mask_execNandPowerOff
  | .nandOnlyFlush _ => mask_execNandOnlyFlush
  | .recorderSend => mask_execRecorderSend
  | .tcUpdate _ => mask_execTcUpdate
  | .tickCheckpoint => mask_execTickCheckpoint
  | .backupLoss => mask_execBackupLoss
  | .setCmdWrite _ => mask_execSetCmdWrite
  | .calendarSetApply => mask_execCalendarSetApply
  | .almDlySWrite _ => mask_execAlmDlySWrite
  | .alarmConfigWrite _ _ => mask_execAlarmConfigWrite
  | .calAlarmFire => mask_execCalAlarmFire
  | .dlyAlarmFire => mask_execDlyAlarmFire
  | .slatiLineError => mask_execSlatiLineError
  | .slatiHello => mask_execSlatiHello
  | .slatiVer _ => mask_execSlatiVer
  | .slatiBaud _ => mask_execSlatiBaud
  | .baudRevert => mask_execBaudRevert
  | .slatiBreak _ => mask_execSlatiBreak
  | .slatiLogin _ => mask_execSlatiLogin
  | .slatiResp _ => mask_execSlatiResp
  | .nonceExpiry => mask_execNonceExpiry
  | .lockoutEnd => mask_execLockoutEnd
  | .slatiLogout => mask_execSlatiLogout
  | .sessionTimeout => mask_execSessionTimeout
  | .slatiId => mask_execSlatiId
  | .slatiStatus => mask_execSlatiStatus
  | .slatiCairn => mask_execSlatiCairn
  | .slatiRd _ _ _ => mask_execSlatiRd
  | .slatiRdi _ _ _ _ => mask_execSlatiRdi
  | .slatiWr _ _ _ => mask_execSlatiWr
  | .slatiWri _ _ _ _ => mask_execSlatiWri
  | .slatiClock _ _ _ _ _ _ => mask_execSlatiClock
  | .slatiRestart => mask_execSlatiRestart
  | .slatiHold => mask_execSlatiHold
  | .slatiExport => mask_execSlatiExport
  | .slatiAck _ _ => mask_execSlatiAck
  | .slatiExpabort => mask_execSlatiExpabort
  | .slatiMon _ _ _ => mask_execSlatiMon
  | .slatiTest _ => mask_execSlatiTest
  | .testComplete _ _ _ _ => mask_execTestComplete
  | .slatiStop => mask_execSlatiStop
  | .slatiParamRd => mask_execSlatiParamRd
  | .slatiParamWr _ _ => mask_execSlatiParamWr
  | .slatiParamCommit => mask_execSlatiParamCommit
  | .slatiTcfgRd => mask_execSlatiTcfgRd
  | .slatiTcfgWr _ _ => mask_execSlatiTcfgWr
  | .slatiTcfgCommit => mask_execSlatiTcfgCommit
  | .slatiLc _ => mask_execSlatiLc
  | .tpSelWrite _ _ _ => mask_execTpSelWrite
  | .columnCheckFail _ _ => mask_execColumnCheckFail
  | .encoderRestored _ => mask_execEncoderRestored

/-- Every command answers a next state, which differs from the state before it at most in what its mask names. -/
theorem within_exec (c : Instr) (s : State) : WithinO (cmdMask c) s (exec c s) :=
  match c with
  | .registerWrite src addr wd val => (within_execRegisterWrite : WithinO _ s (execRegisterWrite src addr wd val s))
  | .bitAliasWrite src addr wd val => (within_execBitAliasWrite : WithinO _ s (execBitAliasWrite src addr wd val s))
  | .wideHighWrite src addr val => (within_execWideHighWrite : WithinO _ s (execWideHighWrite src addr val s))
  | .wideLowWrite src addr val => (within_execWideLowWrite : WithinO _ s (execWideLowWrite src addr val s))
  | .indAddrWrite src pg val => (within_execIndAddrWrite : WithinO _ s (execIndAddrWrite src pg val s))
  | .indCtrlWrite src pg val => (within_execIndCtrlWrite : WithinO _ s (execIndCtrlWrite src pg val s))
  | .indDataRead src pg => (within_execIndDataRead : WithinO _ s (execIndDataRead src pg s))
  | .indDataWrite src pg val => (within_execIndDataWrite : WithinO _ s (execIndDataWrite src pg val s))
  | .indPrefetchDone src pg => (within_execIndPrefetchDone : WithinO _ s (execIndPrefetchDone src pg s))
  | .indPostedWriteDone src pg => (within_execIndPostedWriteDone : WithinO _ s (execIndPostedWriteDone src pg s))
  | .voteScrub found => (within_execVoteScrub : WithinO _ s (execVoteScrub found s))
  | .domainOn d => (within_execDomainOn : WithinO _ s (execDomainOn d s))
  | .domainOff d => (within_execDomainOff : WithinO _ s (execDomainOff d s))
  | .hostResClaim src reg val => (within_execHostResClaim : WithinO _ s (execHostResClaim src reg val s))
  | .lampTestEnd => (within_execLampTestEnd : WithinO _ s (execLampTestEnd s))
  | .battlInterrupt mv => (within_execBattlInterrupt : WithinO _ s (execBattlInterrupt mv s))
  | .battlReturn mv => (within_execBattlReturn : WithinO _ s (execBattlReturn mv s))
  | .pfWarn => (within_execPfWarn : WithinO _ s (execPfWarn s))
  | .powerDownComplete => (within_execPowerDownComplete : WithinO _ s (execPowerDownComplete s))
  | .powerOnStart mv => (within_execPowerOnStart : WithinO _ s (execPowerOnStart mv s))
  | .supplyLevelChange sup mv => (within_execSupplyLevelChange : WithinO _ s (execSupplyLevelChange sup mv s))
  | .battdOvOpen mv => (within_execBattdOvOpen : WithinO _ s (execBattdOvOpen mv s))
  | .battdOvClose mv => (within_execBattdOvClose : WithinO _ s (execBattdOvClose mv s))
  | .chopperOn vref => (within_execChopperOn : WithinO _ s (execChopperOn vref s))
  | .chopperOff joule => (within_execChopperOff : WithinO _ s (execChopperOff joule s))
  | .chopBudgetRestored => (within_execChopBudgetRestored : WithinO _ s (execChopBudgetRestored s))
  | .busOvervoltage mv => (within_execBusOvervoltage : WithinO _ s (execBusOvervoltage mv s))
  | .modeReqWrite src val => (within_execModeReqWrite : WithinO _ s (execModeReqWrite src val s))
  | .activeGateReadbackDone bad => (within_execActiveGateReadbackDone : WithinO _ s (execActiveGateReadbackDone bad s))
  | .actRdySet late => (within_execActRdySet : WithinO _ s (execActRdySet late s))
  | .idleDelayExpiry => (within_execIdleDelayExpiry : WithinO _ s (execIdleDelayExpiry s))
  | .wakeEvent src => (within_execWakeEvent : WithinO _ s (execWakeEvent src s))
  | .parkStart => (within_execParkStart : WithinO _ s (execParkStart s))
  | .parkLateWake src => (within_execParkLateWake : WithinO _ s (execParkLateWake src s))
  | .parkComplete => (within_execParkComplete : WithinO _ s (execParkComplete s))
  | .crawlP10Off => (within_execCrawlP10Off : WithinO _ s (execCrawlP10Off s))
  | .clockFailure d bad err => (within_execClockFailure : WithinO _ s (execClockFailure d bad err s))
  | .cellMeasure vcell vcap => (within_execCellMeasure : WithinO _ s (execCellMeasure vcell vcap s))
  | .clockMeasureDone hz => (within_execClockMeasureDone : WithinO _ s (execClockMeasureDone hz s))
  | .selfTestStepPass k => (within_execSelfTestStepPass : WithinO _ s (execSelfTestStepPass k s))
  | .selfTestStepFail k code detail => (within_execSelfTestStepFail : WithinO _ s (execSelfTestStepFail k code detail s))
  | .lpddr5WipeDone bad bgBad => (within_execLpddr5WipeDone : WithinO _ s (execLpddr5WipeDone bad bgBad s))
  | .hostStart a b => (within_execHostStart : WithinO _ s (execHostStart a b s))
  | .hostRdyWrite src val => (within_execHostRdyWrite : WithinO _ s (execHostRdyWrite src val s))
  | .hostRdyTimeout => (within_execHostRdyTimeout : WithinO _ s (execHostRdyTimeout s))
  | .refugeMonitorPowerOn => (within_execRefugeMonitorPowerOn : WithinO _ s (execRefugeMonitorPowerOn s))
  | .galleryDeferredTest b bad => (within_execGalleryDeferredTest : WithinO _ s (execGalleryDeferredTest b bad s))
  | .bootConfirmWrite src val => (within_execBootConfirmWrite : WithinO _ s (execBootConfirmWrite src val s))
  | .refugeAnnounce cfgOk => (within_execRefugeAnnounce : WithinO _ s (execRefugeAnnounce cfgOk s))
  | .lcWipesDone mramBad nandBad => (within_execLcWipesDone : WithinO _ s (execLcWipesDone mramBad nandBad s))
  | .rstReqWrite src val => (within_execRstReqWrite : WithinO _ s (execRstReqWrite src val s))
  | .hostWdKickWrite src val => (within_execHostWdKickWrite : WithinO _ s (execHostWdKickWrite src val s))
  | .hostWdExpiry => (within_execHostWdExpiry : WithinO _ s (execHostWdExpiry s))
  | .wdRestartDue => (within_execWdRestartDue : WithinO _ s (execWdRestartDue s))
  | .traverseUpdate samples demand => (within_execTraverseUpdate : WithinO _ s (execTraverseUpdate samples demand s))
  | .torqueRampEnd n => (within_execTorqueRampEnd : WithinO _ s (execTorqueRampEnd n s))
  | .holdReductionStart n => (within_execHoldReductionStart : WithinO _ s (execHoldReductionStart n s))
  | .axPush src n => (within_execAxPush : WithinO _ s (execAxPush src n s))
  | .axStop src n => (within_execAxStop : WithinO _ s (execAxStop src n s))
  | .axFlush src n => (within_execAxFlush : WithinO _ s (execAxFlush src n s))
  | .axReverse src n => (within_execAxReverse : WithinO _ s (execAxReverse src n s))
  | .prfCommit src n val => (within_execPrfCommit : WithinO _ s (execPrfCommit src n val s))
  | .trvGoWrite src val => (within_execTrvGoWrite : WithinO _ s (execTrvGoWrite src val s))
  | .torqueReqWrite src n val => (within_execTorqueReqWrite : WithinO _ s (execTorqueReqWrite src n val s))
  | .axModeWrite src n val => (within_execAxModeWrite : WithinO _ s (execAxModeWrite src n val s))
  | .axEnWrite src pg val => (within_execAxEnWrite : WithinO _ s (execAxEnWrite src pg val s))
  | .torqueRemoval n => (within_execTorqueRemoval : WithinO _ s (execTorqueRemoval n s))
  | .tblCrcUpdate t => (within_execTblCrcUpdate : WithinO _ s (execTblCrcUpdate t s))
  | .cstepEdge n cdir tc => (within_execCstepEdge : WithinO _ s (execCstepEdge n cdir tc s))
  | .encoderLost n => (within_execEncoderLost : WithinO _ s (execEncoderLost n s))
  | .deviationDecision n => (within_execDeviationDecision : WithinO _ s (execDeviationDecision n s))
  | .switchAccepted n opened => (within_execSwitchAccepted : WithinO _ s (execSwitchAccepted n opened s))
  | .home src n => (within_execHome : WithinO _ s (execHome src n s))
  | .hardStopFound n => (within_execHardStopFound : WithinO _ s (execHardStopFound n s))
  | .learn src n => (within_execLearn : WithinO _ s (execLearn src n s))
  | .learnAbort src n => (within_execLearnAbort : WithinO _ s (execLearnAbort src n s))
  | .forceTrip n => (within_execForceTrip : WithinO _ s (execForceTrip n s))
  | .reversalRequest n => (within_execReversalRequest : WithinO _ s (execReversalRequest n s))
  | .sqzChange n => (within_execSqzChange : WithinO _ s (execSqzChange n s))
  | .stepOut src n => (within_execStepOut : WithinO _ s (execStepOut src n s))
  | .gapMmReceived n gap valid us => (within_execGapMmReceived : WithinO _ s (execGapMmReceived n gap valid us s))
  | .gapStale n => (within_execGapStale : WithinO _ s (execGapStale n s))
  | .headPresent h mw v => (within_execHeadPresent : WithinO _ s (execHeadPresent h mw v s))
  | .headLinkReady h => (within_execHeadLinkReady : WithinO _ s (execHeadLinkReady h s))
  | .linkReadyTimeout h => (within_execLinkReadyTimeout : WithinO _ s (execLinkReadyTimeout h s))
  | .linkTrainDone h gear => (within_execLinkTrainDone : WithinO _ s (execLinkTrainDone h gear s))
  | .identDone h id fmtOk => (within_execIdentDone : WithinO _ s (execIdentDone h id fmtOk s))
  | .calibReadDone h rd => (within_execCalibReadDone : WithinO _ s (execCalibReadDone h rd s))
  | .headLinkLoss h gone => (within_execHeadLinkLoss : WithinO _ s (execHeadLinkLoss h gone s))
  | .portFaultWaitEnd h => (within_execPortFaultWaitEnd : WithinO _ s (execPortFaultWaitEnd h s))
  | .retrain src h => (within_execRetrain : WithinO _ s (execRetrain src h s))
  | .recal src h => (within_execRecal : WithinO _ s (execRecal src h s))
  | .headPowerTrip h => (within_execHeadPowerTrip : WithinO _ s (execHeadPowerTrip h s))
  | .headPowerRetry h => (within_execHeadPowerRetry : WithinO _ s (execHeadPowerRetry h s))
  | .headBudgetShed mw => (within_execHeadBudgetShed : WithinO _ s (execHeadBudgetShed mw s))
  | .headShedRestore h mw => (within_execHeadShedRestore : WithinO _ s (execHeadShedRestore h mw s))
  | .frameTrigger h us => (within_execFrameTrigger : WithinO _ s (execFrameTrigger h us s))
  | .frameLineRx h num line us crcOk pixels => (within_execFrameLineRx : WithinO _ s (execFrameLineRx h num line us crcOk pixels s))
  | .frameStale h => (within_execFrameStale : WithinO _ s (execFrameStale h s))
  | .frameProcessed h us targets => (within_execFrameProcessed : WithinO _ s (execFrameProcessed h us targets s))
  | .glowwormDecision h us => (within_execGlowwormDecision : WithinO _ s (execGlowwormDecision h us s))
  | .glowwormSilence h => (within_execGlowwormSilence : WithinO _ s (execGlowwormSilence h s))
  | .poseWrite src h k val => (within_execPoseWrite : WithinO _ s (execPoseWrite src h k val s))
  | .bgLearn src n => (within_execBgLearn : WithinO _ s (execBgLearn src n s))
  | .bgAbort src n => (within_execBgAbort : WithinO _ s (execBgAbort src n s))
  | .bgLearnDone n => (within_execBgLearnDone : WithinO _ s (execBgLearnDone n s))
  | .lqAck src h => (within_execLqAck : WithinO _ s (execLqAck src h s))
  | .recordAtSafety h => (within_execRecordAtSafety : WithinO _ s (execRecordAtSafety h s))
  | .visionStale h => (within_execVisionStale : WithinO _ s (execVisionStale h s))
  | .burstReqHoldEnd n => (within_execBurstReqHoldEnd : WithinO _ s (execBurstReqHoldEnd n s))
  | .thinAdclHoldEnd n => (within_execThinAdclHoldEnd : WithinO _ s (execThinAdclHoldEnd n s))
  | .cycReqWrite src n val => (within_execCycReqWrite : WithinO _ s (execCycReqWrite src n val s))
  | .cycleTick => (within_execCycleTick : WithinO _ s (execCycleTick s))
  | .supervisionTimeout n => (within_execSupervisionTimeout : WithinO _ s (execSupervisionTimeout n s))
  | .dwellDoneSet n => (within_execDwellDoneSet : WithinO _ s (execDwellDoneSet n s))
  | .pauseDoneSet n => (within_execPauseDoneSet : WithinO _ s (execPauseDoneSet n s))
  | .recoverSettle n => (within_execRecoverSettle : WithinO _ s (execRecoverSettle n s))
  | .sealSample aSaf aCol bSaf bCol => (within_execSealSample : WithinO _ s (execSealSample aSaf aCol bSaf bCol s))
  | .sealPoleDisagree k => (within_execSealPoleDisagree : WithinO _ s (execSealPoleDisagree k s))
  | .sealChange k => (within_execSealChange : WithinO _ s (execSealChange k s))
  | .inputAccepted ch j lv => (within_execInputAccepted : WithinO _ s (execInputAccepted ch j lv s))
  | .channelExchange => (within_execChannelExchange : WithinO _ s (execChannelExchange s))
  | .inputDiscLatch j => (within_execInputDiscLatch : WithinO _ s (execInputDiscLatch j s))
  | .pairDiscrepancyLatch ch p => (within_execPairDiscrepancyLatch : WithinO _ s (execPairDiscrepancyLatch ch p s))
  | .twoHandButtonFault ch b => (within_execTwoHandButtonFault : WithinO _ s (execTwoHandButtonFault ch b s))
  | .twoHandWindowExpiry ch => (within_execTwoHandWindowExpiry : WithinO _ s (execTwoHandWindowExpiry ch s))
  | .heartbeatLost lost => (within_execHeartbeatLost : WithinO _ s (execHeartbeatLost lost s))
  | .reversalWatchFail n => (within_execReversalWatchFail : WithinO _ s (execReversalWatchFail n s))
  | .guidedContactFault b => (within_execGuidedContactFault : WithinO _ s (execGuidedContactFault b s))
  | .edmCheckFail ch b => (within_execEdmCheckFail : WithinO _ s (execEdmCheckFail ch b s))
  | .resetRelease ch inactiveMs pressMs => (within_execResetRelease : WithinO _ s (execResetRelease ch inactiveMs pressMs s))
  | .resetStuck ch => (within_execResetStuck : WithinO _ s (execResetStuck ch s))
  | .spPeriodicTestFail sram detail => (within_execSpPeriodicTestFail : WithinO _ s (execSpPeriodicTestFail sram detail s))
  | .mirrorCheck => (within_execMirrorCheck : WithinO _ s (execMirrorCheck s))
  | .testDueSet => (within_execTestDueSet : WithinO _ s (execTestDueSet s))
  | .safeCopyRx can bytes => (within_execSafeCopyRx : WithinO _ s (execSafeCopyRx can bytes s))
  | .pairTimeout t => (within_execPairTimeout : WithinO _ s (execPairTimeout t s))
  | .permissiveLapse t => (within_execPermissiveLapse : WithinO _ s (execPermissiveLapse t s))
  | .streamUnsync t => (within_execStreamUnsync : WithinO _ s (execStreamUnsync t s))
  | .networkLost can => (within_execNetworkLost : WithinO _ s (execNetworkLost can s))
  | .netRestrEnd => (within_execNetRestrEnd : WithinO _ s (execNetRestrEnd s))
  | .doorStatusSend => (within_execDoorStatusSend : WithinO _ s (execDoorStatusSend s))
  | .gcOnWrite src hi val => (within_execGcOnWrite : WithinO _ s (execGcOnWrite src hi val s))
  | .followWrite src c val => (within_execFollowWrite : WithinO _ s (execFollowWrite src c val s))
  | .directEdge p active => (within_execDirectEdge : WithinO _ s (execDirectEdge p active s))
  | .ocTrip c ma => (within_execOcTrip : WithinO _ s (execOcTrip c ma s))
  | .retryBackoffEnd c => (within_execRetryBackoffEnd : WithinO _ s (execRetryBackoffEnd c s))
  | .retryNReset c => (within_execRetryNReset : WithinO _ s (execRetryNReset c s))
  | .commandOffSettled c => (within_execCommandOffSettled : WithinO _ s (execCommandOffSettled c s))
  | .inrushWindowEnd c => (within_execInrushWindowEnd : WithinO _ s (execInrushWindowEnd c s))
  | .thermalLatch c dt tj => (within_execThermalLatch : WithinO _ s (execThermalLatch c dt tj s))
  | .thermalLatchClear c dt tj => (within_execThermalLatchClear : WithinO _ s (execThermalLatchClear c dt tj s))
  | .clampUnlock src val => (within_execClampUnlock : WithinO _ s (execClampUnlock src val s))
  | .crawlClampUnlock c => (within_execCrawlClampUnlock : WithinO _ s (execCrawlClampUnlock c s))
  | .shedStep b now mean => (within_execShedStep : WithinO _ s (execShedStep b now mean s))
  | .shedRestoreStep b now mean => (within_execShedRestoreStep : WithinO _ s (execShedRestoreStep b now mean s))
  | .gateCutBitClear n => (within_execGateCutBitClear : WithinO _ s (execGateCutBitClear n s))
  | .crawlEnFilterAccept active => (within_execCrawlEnFilterAccept : WithinO _ s (execCrawlEnFilterAccept active s))
  | .crawlMapWrite src k val => (within_execCrawlMapWrite : WithinO _ s (execCrawlMapWrite src k val s))
  | .bankOvervoltage b => (within_execBankOvervoltage : WithinO _ s (execBankOvervoltage b s))
  | .bankReverse b => (within_execBankReverse : WithinO _ s (execBankReverse b s))
  | .bankGroundLoss b => (within_execBankGroundLoss : WithinO _ s (execBankGroundLoss b s))
  | .bankReturn b => (within_execBankReturn : WithinO _ s (execBankReturn b s))
  | .bankChannelRestore b => (within_execBankChannelRestore : WithinO _ s (execBankChannelRestore b s))
  | .bankSwitchFault c => (within_execBankSwitchFault : WithinO _ s (execBankSwitchFault c s))
  | .barrierLoss => (within_execBarrierLoss : WithinO _ s (execBarrierLoss s))
  | .barrierReturn => (within_execBarrierReturn : WithinO _ s (execBarrierReturn s))
  | .fiAccepted j dv => (within_execFiAccepted : WithinO _ s (execFiAccepted j dv s))
  | .foOutWrite src val => (within_execFoOutWrite : WithinO _ s (execFoOutWrite src val s))
  | .thrWrite src val => (within_execThrWrite : WithinO _ s (execThrWrite src val s))
  | .foCurrentLimit n => (within_execFoCurrentLimit : WithinO _ s (execFoCurrentLimit n s))
  | .foThermalShutdown n => (within_execFoThermalShutdown : WithinO _ s (execFoThermalShutdown n s))
  | .foThermalRestart n => (within_execFoThermalRestart : WithinO _ s (execFoThermalRestart n s))
  | .fioFaultClear => (within_execFioFaultClear : WithinO _ s (execFioFaultClear s))
  | .canFrameRx n f us => (within_execCanFrameRx : WithinO _ s (execCanFrameRx n f us s))
  | .canTxPush src n j => (within_execCanTxPush : WithinO _ s (execCanTxPush src n j s))
  | .canTxCancel src n j => (within_execCanTxCancel : WithinO _ s (execCanTxCancel src n j s))
  | .canTxRelease src n j => (within_execCanTxRelease : WithinO _ s (execCanTxRelease src n j s))
  | .canRxAck src n k => (within_execCanRxAck : WithinO _ s (execCanRxAck src n k s))
  | .canHpbRelease src n h => (within_execCanHpbRelease : WithinO _ s (execCanHpbRelease src n h s))
  | .canTxStart n a => (within_execCanTxStart : WithinO _ s (execCanTxStart n a s))
  | .canTxComplete n us tdc => (within_execCanTxComplete : WithinO _ s (execCanTxComplete n us tdc s))
  | .canBusError n kind tx big => (within_execCanBusError : WithinO _ s (execCanBusError n kind tx big s))
  | .canRecover src n => (within_execCanRecover : WithinO _ s (execCanRecover src n s))
  | .canRecoveryDone n => (within_execCanRecoveryDone : WithinO _ s (execCanRecoveryDone n s))
  | .lpReqWrite src n b => (within_execLpReqWrite : WithinO _ s (execLpReqWrite src n b s))
  | .canSleepEnter n => (within_execCanSleepEnter : WithinO _ s (execCanSleepEnter n s))
  | .canLocalWake n src => (within_execCanLocalWake : WithinO _ s (execCanLocalWake n src s))
  | .canEnWrite src n b => (within_execCanEnWrite : WithinO _ s (execCanEnWrite src n b s))
  | .safeCanConfigure => (within_execSafeCanConfigure : WithinO _ s (execSafeCanConfigure s))
  | .ecnFrameRx port f buf full => (within_execEcnFrameRx : WithinO _ s (execEcnFrameRx port f buf full s))
  | .ecnTailWrite src k val => (within_execEcnTailWrite : WithinO _ s (execEcnTailWrite src k val s))
  | .ecnFrameTx frame full => (within_execEcnFrameTx : WithinO _ s (execEcnFrameTx frame full s))
  | .bypassRelayChange => (within_execBypassRelayChange : WithinO _ s (execBypassRelayChange s))
  | .ecnLinkChange port up gig => (within_execEcnLinkChange : WithinO _ s (execEcnLinkChange port up gig s))
  | .mvbMasterFrame ask a b => (within_execMvbMasterFrame : WithinO _ s (execMvbMasterFrame ask a b s))
  | .mvbSlaveFrame addr data a b => (within_execMvbSlaveFrame : WithinO _ s (execMvbSlaveFrame addr data a b s))
  | .mvbLineFault line => (within_execMvbLineFault : WithinO _ s (execMvbLineFault line s))
  | .mvbPortStale k => (within_execMvbPortStale : WithinO _ s (execMvbPortStale k s))
  | .mvbSinkWord0Read k => (within_execMvbSinkWord0Read : WithinO _ s (execMvbSinkWord0Read k s))
  | .lglPoll => (within_execLglPoll : WithinO _ s (execLglPoll s))
  | .lglReplyRx bytes parityOk => (within_execLglReplyRx : WithinO _ s (execLglReplyRx bytes parityOk s))
  | .lglReplyTimeout => (within_execLglReplyTimeout : WithinO _ s (execLglReplyTimeout s))
  | .lglSendBuffer src val => (within_execLglSendBuffer : WithinO _ s (execLglSendBuffer src val s))
  | .lglSlaveReply bytes parityOk => (within_execLglSlaveReply : WithinO _ s (execLglSlaveReply bytes parityOk s))
  | .dvrMessageRx f malformed => (within_execDvrMessageRx : WithinO _ s (execDvrMessageRx f malformed s))
  | .announceSend => (within_execAnnounceSend : WithinO _ s (execAnnounceSend s))
  | .announceRx c unit payload => (within_execAnnounceRx : WithinO _ s (execAnnounceRx c unit payload s))
  | .consistRx payload => (within_execConsistRx : WithinO _ s (execConsistRx payload s))
  | .partnerLost k => (within_execPartnerLost : WithinO _ s (execPartnerLost k s))
  | .carrierTimeout k c => (within_execCarrierTimeout : WithinO _ s (execCarrierTimeout k c s))
  | .tcmsLost => (within_execTcmsLost : WithinO _ s (execTcmsLost s))
  | .slotHoldExpiry k => (within_execSlotHoldExpiry : WithinO _ s (execSlotHoldExpiry k s))
  | .expectedMissing k => (within_execExpectedMissing : WithinO _ s (execExpectedMissing k s))
  | .doorInfoSend => (within_execDoorInfoSend : WithinO _ s (execDoorInfoSend s))
  | .recordSeal cycle bad => (within_execRecordSeal : WithinO _ s (execRecordSeal cycle bad s))
  | .archivePageCopy a res => (within_execArchivePageCopy : WithinO _ s (execArchivePageCopy a res s))
  | .traceSample n => (within_execTraceSample : WithinO _ s (execTraceSample n s))
  | .clipComplete n => (within_execClipComplete : WithinO _ s (execClipComplete n s))
  | .snapshotTimer => (within_execSnapshotTimer : WithinO _ s (execSnapshotTimer s))
  | .snap src => (within_execSnap : WithinO _ s (execSnap src s))
  | .hev src => (within_execHev : WithinO _ s (execHev src s))
  | .find src => (within_execFind : WithinO _ s (execFind src s))
  | .findDone => (within_execFindDone : WithinO _ s (execFindDone s))
  | .rdClassWrite src val => (within_execRdClassWrite : WithinO _ s (execRdClassWrite src val s))
  | .expStart src => (within_execExpStart : WithinO _ s (execExpStart src s))
  | .expAbort src => (within_execExpAbort : WithinO _ s (execExpAbort src s))
  | .expAckWrite src val => (within_execExpAckWrite : WithinO _ s (execExpAckWrite src val s))
  | .flowRecovery agree torn crcBad => (within_execFlowRecovery : WithinO _ s (execFlowRecovery agree torn crcBad s))
  | .nandPowerOff => (within_execNandPowerOff : WithinO _ s (execNandPowerOff s))
  | .nandOnlyFlush res => (within_execNandOnlyFlush : WithinO _ s (execNandOnlyFlush res s))
  | .recorderSend => (within_execRecorderSend : WithinO _ s (execRecorderSend s))
  | .tcUpdate temp => (within_execTcUpdate : WithinO _ s (execTcUpdate temp s))
  | .tickCheckpoint => (within_execTickCheckpoint : WithinO _ s (execTickCheckpoint s))
  | .backupLoss => (within_execBackupLoss : WithinO _ s (execBackupLoss s))
  | .setCmdWrite val => (within_execSetCmdWrite : WithinO _ s (execSetCmdWrite val s))
  | .calendarSetApply => (within_execCalendarSetApply : WithinO _ s (execCalendarSetApply s))
  | .almDlySWrite val => (within_execAlmDlySWrite : WithinO _ s (execAlmDlySWrite val s))
  | .alarmConfigWrite w val => (within_execAlarmConfigWrite : WithinO _ s (execAlarmConfigWrite w val s))
  | .calAlarmFire => (within_execCalAlarmFire : WithinO _ s (execCalAlarmFire s))
  | .dlyAlarmFire => (within_execDlyAlarmFire : WithinO _ s (execDlyAlarmFire s))
  | .slatiLineError => (within_execSlatiLineError : WithinO _ s (execSlatiLineError s))
  | .slatiHello => (within_execSlatiHello : WithinO _ s (execSlatiHello s))
  | .slatiVer v => (within_execSlatiVer : WithinO _ s (execSlatiVer v s))
  | .slatiBaud rate => (within_execSlatiBaud : WithinO _ s (execSlatiBaud rate s))
  | .baudRevert => (within_execBaudRevert : WithinO _ s (execBaudRevert s))
  | .slatiBreak active => (within_execSlatiBreak : WithinO _ s (execSlatiBreak active s))
  | .slatiLogin role => (within_execSlatiLogin : WithinO _ s (execSlatiLogin role s))
  | .slatiResp resp => (within_execSlatiResp : WithinO _ s (execSlatiResp resp s))
  | .nonceExpiry => (within_execNonceExpiry : WithinO _ s (execNonceExpiry s))
  | .lockoutEnd => (within_execLockoutEnd : WithinO _ s (execLockoutEnd s))
  | .slatiLogout => (within_execSlatiLogout : WithinO _ s (execSlatiLogout s))
  | .sessionTimeout => (within_execSessionTimeout : WithinO _ s (execSessionTimeout s))
  | .slatiId => (within_execSlatiId : WithinO _ s (execSlatiId s))
  | .slatiStatus => (within_execSlatiStatus : WithinO _ s (execSlatiStatus s))
  | .slatiCairn => (within_execSlatiCairn : WithinO _ s (execSlatiCairn s))
  | .slatiRd pg off n => (within_execSlatiRd : WithinO _ s (execSlatiRd pg off n s))
  | .slatiRdi pg sp addr n => (within_execSlatiRdi : WithinO _ s (execSlatiRdi pg sp addr n s))
  | .slatiWr pg off val => (within_execSlatiWr : WithinO _ s (execSlatiWr pg off val s))
  | .slatiWri pg sp addr val => (within_execSlatiWri : WithinO _ s (execSlatiWri pg sp addr val s))
  | .slatiClock y m d h mi sec => (within_execSlatiClock : WithinO _ s (execSlatiClock y m d h mi sec s))
  | .slatiRestart => (within_execSlatiRestart : WithinO _ s (execSlatiRestart s))
  | .slatiHold => (within_execSlatiHold : WithinO _ s (execSlatiHold s))
  | .slatiExport => (within_execSlatiExport : WithinO _ s (execSlatiExport s))
  | .slatiAck k crc => (within_execSlatiAck : WithinO _ s (execSlatiAck k crc s))
  | .slatiExpabort => (within_execSlatiExpabort : WithinO _ s (execSlatiExpabort s))
  | .slatiMon tp cls idx => (within_execSlatiMon : WithinO _ s (execSlatiMon tp cls idx s))
  | .slatiTest t => (within_execSlatiTest : WithinO _ s (execSlatiTest t s))
  | .testComplete pass v1 v2 elOfs => (within_execTestComplete : WithinO _ s (execTestComplete pass v1 v2 elOfs s))
  | .slatiStop => (within_execSlatiStop : WithinO _ s (execSlatiStop s))
  | .slatiParamRd => (within_execSlatiParamRd : WithinO _ s (execSlatiParamRd s))
  | .slatiParamWr off val => (within_execSlatiParamWr : WithinO _ s (execSlatiParamWr off val s))
  | .slatiParamCommit => (within_execSlatiParamCommit : WithinO _ s (execSlatiParamCommit s))
  | .slatiTcfgRd => (within_execSlatiTcfgRd : WithinO _ s (execSlatiTcfgRd s))
  | .slatiTcfgWr off val => (within_execSlatiTcfgWr : WithinO _ s (execSlatiTcfgWr off val s))
  | .slatiTcfgCommit => (within_execSlatiTcfgCommit : WithinO _ s (execSlatiTcfgCommit s))
  | .slatiLc new => (within_execSlatiLc : WithinO _ s (execSlatiLc new s))
  | .tpSelWrite src tp val => (within_execTpSelWrite : WithinO _ s (execTpSelWrite src tp val s))
  | .columnCheckFail gates detail => (within_execColumnCheckFail : WithinO _ s (execColumnCheckFail gates detail s))
  | .encoderRestored n => (within_execEncoderRestored : WithinO _ s (execEncoderRestored n s))

end Sys2Proof.Machine
end

