-- ==== Sys2Proof/Laws/Access.lean ====
section
/-! SUPPORT. The way of a register write that a command makes: what reaches the register interface as one whole word of a page,
which rows of the access table it meets, and what it can change. -/

set_option Elab.async false

namespace Sys2Proof.Machine

variable {M m i : Nat} {s0 s t : State}

/-- A whole word written to a page, as the interface sees it. -/
abbrev wordWr (src : Src) (pg off v : Nat) : Wr := ⟨src, pg * 0x1000 + off, 0xFFFFFFFF, v % 2 ^ 32, false, false⟩

theorem busWr_word {src : Src} {pg off v : Nat} (h4 : off % 4 = 0) :
    busWr src (pg * 0x1000 + off) 4 v = wordWr src pg off v := by
  have hb : (pg * 0x1000 + off) % 4 = 0 := by omega
  simp only [busWr, hb]
  simp

/-- A whole word written to a page of the window arrives there. -/
theorem wordWrite_eq {src : Src} {pg off v : Nat} (hpg : pg < 256) (hoff : off < 4096) (h4 : off % 4 = 0) :
    wordWrite s src pg off v = if busUp s then pageWrite s (wordWr src pg off v) else s := by
  unfold wordWrite busWrite
  have h1 : ¬ (0x40000000 + pg * 0x1000 + off < 0x40000000) := by omega
  have h2 : ¬ (0x50000000 ≤ 0x40000000 + pg * 0x1000 + off) := by omega
  have h3 : 0x40000000 + pg * 0x1000 + off < 0x40100000 := by omega
  have h5 : 0x40000000 + pg * 0x1000 + off - 0x40000000 = pg * 0x1000 + off := by omega
  cases hd : busUp s <;> simp [h1, h2, h3, h5, busWr_word h4]

@[simp] theorem pgOf_word {pg off : Nat} (hoff : off < 4096) : pgOf (pg * 0x1000 + off) = pg := by
  unfold pgOf; omega

@[simp] theorem offOf_word {pg off : Nat} (hoff : off < 4096) : offOf (pg * 0x1000 + off) = off := by
  unfold offOf; omega

theorem wideHi_word {pg off : Nat} (hoff : off < 4096) (h : wideHi pg (off - 4) = false) :
    wideHi (pgOf (pg * 0x1000 + off)) (offOf (pg * 0x1000 + off) - 4) = false := by
  rwa [pgOf_word hoff, offOf_word hoff]

theorem wordWrite_within {src : Src} {pg off v : Nat} (hpg : pg < 256) (hoff : off < 4096) (h4 : off % 4 = 0)
    (hp : Within M s (pageWrite s (wordWr src pg off v))) : Within M s (wordWrite s src pg off v) := by
  rw [wordWrite_eq hpg hoff h4]
  exact .ite hp (Within.refl _ s)

theorem counted_within {p : Wrote} {pg : Nat} (hA : sub mask_State_adj M = true) (h : WithinP M s p) :
    Within M s (counted pg p) := by
  unfold counted
  split
  · exact Within.step h within_State_adj hA
  · exact h

/-- Offsets at which some page has the low word of a 64-bit value. -/
def lowOff (off : Nat) : Bool :=
  [0x050, 0x080, 0x088, 0x0F8, 0x070, 0x08C].contains (off - 4) ||
    (decide (0x100 ≤ off - 4) && decide (off - 4 < 0x300) && (decide ((off - 4) % 0x40 = 0x04) || decide ((off - 4) % 0x40 = 0x0C)))

theorem wideHi_lowOff {off : Nat} (h : lowOff off = false) (pg : Nat) : wideHi pg (off - 4) = false := by
  simp only [lowOff, List.contains_cons, List.contains_nil, Bool.or_false, Bool.or_eq_false_iff, beq_eq_false_iff_ne,
    Bool.and_eq_false_iff, decide_eq_false_iff_not] at h
  unfold wideHi
  split
  · simp only [Bool.or_eq_false_iff, decide_eq_false_iff_not]; omega
  · split
    · simp only [Bool.or_eq_false_iff, Bool.and_eq_false_iff, decide_eq_false_iff_not]; omega
    · split <;> simp only [Bool.or_eq_false_iff, Bool.and_eq_false_iff, decide_eq_false_iff_not] <;> omega

/-- A word arriving at a page: discarded and counted, or written into its register. -/
theorem pageWrite_within {w : Wr} (hA : sub mask_testDiscards M = true) (hu : wideHi (pgOf w.addr) (offOf w.addr - 4) = false) (hr : WithinP M s (regWrite s w))
    (hg : pgOf w.addr = pgGAL → WithinP M s (regWrite s (lockKept s w))) : Within M s (pageWrite s w) := by
  have ha : sub mask_State_adj M = true := sub_trans rfl hA
  unfold pageWrite
  extract_lets -merge -useContext -underBinder pg
  have hd : Within M s (testDiscards s pg) := (Within.refl M s).step within_testDiscards hA
  split
  · exact (Within.refl M s).step within_State_adj ha
  · split
    · have hu : wideHi pg (offOf w.addr - 4) = false := hu
      rw [if_neg (by simp [hu])]
      exact hd
    · split
      · exact hd
      · split
        · rename_i h
          simp only [Bool.and_eq_true, decide_eq_true_eq] at h
          exact Within.step (hg h.1.1) within_testDiscards hA
        · exact counted_within ha hr

/-- A command register: the write does nothing, or makes the command. -/
theorem regWrite_command_within {w : Wr} (hi : ¬ (0x030 ≤ offOf w.addr ∧ offOf w.addr < 0x03C))
    (hrow : (rowsAt w.addr).any (·.acc = .wo) = true)
    (hc : WithinP M s (command s w.src (pgOf w.addr) (offOf w.addr) w.val)) : WithinP M s (regWrite s w) := by
  unfold regWrite
  extract_lets -merge -useContext -underBinder pg off rows
  have h1 : (decide (0x030 ≤ off) && decide (off < 0x03C)) = false := by simpa [off] using hi
  have h2 : rows.any (·.acc = .wo) = true := hrow
  rw [if_neg (by simp [h1]), if_pos h2]
  exact .ite (Within.refl M s) (.ite (Within.refl M s) (.ite (Within.refl M s) (.ite (Within.refl M s) hc)))

/-- A word written to a command register of a page. -/
theorem wordWrite_command_within {src : Src} {pg off v : Nat} (hpg : pg < 256) (hoff : off < 4096) (h4 : off % 4 = 0)
    (hi : ¬ (0x030 ≤ off ∧ off < 0x03C)) (hg : pg ≠ pgGAL) (hA : sub mask_testDiscards M = true)
    (hrow : (rowsAt (pg * 0x1000 + off)).any (·.acc = .wo) = true)
    (hc : WithinP M s (command s src pg off (v % 2 ^ 32)))
    (hu : wideHi pg (off - 4) = false := by
      first | decide | exact wideHi_lowOff (by decide) _ | exact wideHi_lowOff (by simp only [lowOff]; simp; omega) _) :
    Within M s (wordWrite s src pg off v) := by
  refine wordWrite_within hpg hoff h4 (pageWrite_within hA (wideHi_word hoff hu) (regWrite_command_within ?_ hrow ?_) ?_)
  · simpa [offOf_word hoff] using hi
  · simpa [offOf_word hoff, pgOf_word hoff] using hc
  · intro h; exact absurd (by simpa [pgOf_word hoff] using h) hg

/-- The fields of a register in turn. -/
theorem storeFields_within {ru : Rules} {w : Wr} {full : Nat} {sb : State} {l : List Desc} {p : Wrote}
    (hl : ∀ d ∈ l, d.acc = .ro ∨ d.acc = .wo ∨ InRegs M d.reg.key) (hf : M.testBit 1 = true ∨ ∀ d ∈ l, d.acc ≠ .w1)
    (h : WithinP M s0 p) :
    WithinP M s0 (storeFields ru w full sb l p) := by
  induction l generalizing p with
  | nil => exact h
  | cons d ds ih =>
    obtain ⟨s, adj⟩ := p
    unfold storeFields
    extract_lets -merge -useContext -underBinder v
    have h1 : WithinP M s0 (if d.acc = .ro || d.acc = .wo then (s, false) else storeField ru w.src sb d v s) := by
      rcases hl d List.mem_cons_self with hd | hd | hd
      · rw [if_pos (by simp [hd])]; exact h
      · rw [if_pos (by simp [hd])]; exact h
      refine .ite h ?_
      unfold storeField
      refine .ite h ?_
      extract_lets -merge -useContext -underBinder v1
      split
      extract_lets -merge -useContext -underBinder v3 s1
      have hs1 : Within M s0 s1 := Within.setIn h hd (sub_refl M)
      rcases hf with hf | hf
      · exact WithinP.mk (.ite (hs1.upd_fixed hf) hs1)
      · rw [if_neg (hf d List.mem_cons_self)]
        exact hs1
    generalize (if d.acc = .ro || d.acc = .wo then (s, false) else storeField ru w.src sb d v s) = q at h1 ⊢
    obtain ⟨s1, a1⟩ := q
    exact ih (fun e he => hl e (List.mem_cons_of_mem _ he)) (hf.imp id fun hf e he => hf e (List.mem_cons_of_mem _ he)) h1

theorem storeWord_within {ru : Rules} {w : Wr} (hl : ∀ d ∈ rowsAt w.addr, d.acc = .ro ∨ d.acc = .wo ∨ InRegs M d.reg.key)
    (hf : M.testBit 1 = true ∨ ∀ d ∈ rowsAt w.addr, d.acc ≠ .w1) : WithinP M s (storeWord ru s w) := by
  unfold storeWord
  extract_lets -merge -useContext -underBinder rows
  have hr : ∀ d ∈ rows, d ∈ rowsAt w.addr := fun d hd => (List.mem_filter.mp hd).1
  refine .ite (WithinP.mk (Within.refl M s)) (.ite (WithinP.mk (Within.refl M s)) (.ite (WithinP.mk (Within.refl M s)) ?_))
  have h1 : WithinP M s (storeFields ru w (s.merged w) s rows (s, false)) :=
    storeFields_within (fun d hd => hl d (hr d hd)) (hf.imp id fun hf d hd => hf d (hr d hd)) (Within.refl M s)
  split
  rename_i s1 adj e
  rw [e] at h1
  exact h1

theorem settled_none {pg off : Nat} (h : settles pg off = false) (s : State) : settled s pg off = (s, false) := by
  simp only [settles, Bool.or_eq_false_iff, Bool.and_eq_false_iff, decide_eq_false_iff_not] at h
  unfold settled
  rw [if_neg (by simp only [Bool.and_eq_true, decide_eq_true_eq]; omega),
    if_neg (by simp only [Bool.and_eq_true, decide_eq_true_eq]; omega)]
  split
  · rename_i h2
    simp only [Bool.and_eq_true, decide_eq_true_eq] at h2
    have h3 : ¬ off = 0x048 ∧ ¬ off = 0x04C ∧ ¬ off = 0x050 ∧ ¬ off = 0x054 := by omega
    extract_lets -merge -useContext -underBinder n
    rw [if_neg h3.1, if_neg h3.2.1, if_neg h3.2.2.1, if_neg h3.2.2.2]
  · rfl

/-- A register whose fields are stored, and what its write sets off. -/
theorem regWrite_store_within {w : Wr} (hi : ¬ (0x030 ≤ offOf w.addr ∧ offOf w.addr < 0x03C))
    (hrow : (rowsAt w.addr).any (·.acc = .wo) = false) (hw1 : wideHi (pgOf w.addr) (offOf w.addr) = false)
    (hw2 : wideHi (pgOf w.addr) (offOf w.addr - 4) = false) (hse : settles (pgOf w.addr) (offOf w.addr) = false) (ht : pgOf w.addr ≠ pgTEST) (hr : pgOf w.addr ≠ pgRES)
    (hc : pgOf w.addr ≠ pgCRAWL) (hl : ∀ d ∈ rowsAt w.addr, d.acc = .ro ∨ d.acc = .wo ∨ InRegs M d.reg.key)
    (hf : M.testBit 1 = true ∨ ∀ d ∈ rowsAt w.addr, d.acc ≠ .w1) (hd : M.testBit 4 = true)
    (hs : ∀ s1, Within M s s1 → WithinP M s (written s s1 (pgOf w.addr) (offOf w.addr))) : WithinP M s (regWrite s w) := by
  unfold regWrite
  extract_lets -merge -useContext -underBinder pg off rows
  have h1 : (decide (0x030 ≤ off) && decide (off < 0x03C)) = false := by simpa [off] using hi
  have h2 : rows.any (·.acc = .wo) = false := hrow
  have h3 : wideHi pg off = false := hw1
  have h4 : wideHi pg (off - 4) = false := hw2
  have h5 : decide (pg = pgTEST) = false := decide_eq_false ht
  have h6 : decide (pg = pgRES) = false := decide_eq_false hr
  have h7 : decide (pg = pgCRAWL) = false := decide_eq_false hc
  simp only [h1, h2, h3, h4, h5, h6, h7, Bool.false_and, Bool.false_eq_true, if_false]
  refine .ite (Within.refl M s) ?_
  have hq : WithinP M s (storeWord (pageRules pg off) s w) := storeWord_within hl hf
  have hq : Within M s (storeWord (pageRules pg off) s w).1 := hq
  have hse : settles pg off = false := hse
  refine .ite (WithinP.mk hq) ?_
  simp only [settled_none hse]
  exact .ite (WithinP.mk (.ite hq (hq.upd_deferred hd))) (WithinP.mk (hs _ (hq.upd_deferred hd)))

/-- A word written to a register of a page whose fields are stored. -/
theorem wordWrite_store_within {src : Src} {pg off v : Nat} (hpg : pg < 256) (hoff : off < 4096) (h4 : off % 4 = 0)
    (hi : ¬ (0x030 ≤ off ∧ off < 0x03C)) (hA : sub mask_testDiscards M = true)
    (hrow : (rowsAt (pg * 0x1000 + off)).any (·.acc = .wo) = false) (hw1 : wideHi pg off = false)
    (hw2 : wideHi pg (off - 4) = false) (hse : settles pg off = false) (ht : pg ≠ pgTEST) (hr : pg ≠ pgRES) (hc : pg ≠ pgCRAWL)
    (hl : ∀ d ∈ rowsAt (pg * 0x1000 + off), d.acc = .ro ∨ d.acc = .wo ∨ InRegs M d.reg.key)
    (hf : M.testBit 1 = true ∨ ∀ d ∈ rowsAt (pg * 0x1000 + off), d.acc ≠ .w1) (hd : M.testBit 4 = true)
    (hs : ∀ s1, Within M s s1 → WithinP M s (written s s1 pg off)) : Within M s (wordWrite s src pg off v) := by
  have hall : ∀ w : Wr, w.addr = pg * 0x1000 + off → WithinP M s (regWrite s w) := by
    intro w hw
    refine regWrite_store_within ?_ ?_ ?_ ?_ ?_ ?_ ?_ ?_ ?_ ?_ hd ?_ <;> rw [hw] <;> first | assumption |
      (simp only [pgOf_word hoff, offOf_word hoff]; assumption)
  exact wordWrite_within hpg hoff h4 (pageWrite_within hA (by simpa [offOf_word hoff, pgOf_word hoff] using hw2) (hall _ rfl) fun _ => hall _ rfl)

/-- Whether every field at an address belongs to one of the families listed. -/
def Fam.hasB (f : Fam) (k : Nat) : Bool :=
  k % 32 == f.lo && (List.range f.count).any fun n => k / 32 == f.base + n * f.stride

def rowsIn (is : List Nat) (a : Nat) : Bool :=
  (rowsAt a).all fun d => d.acc = .ro || d.acc = .wo || is.any fun i => (famAt i).hasB d.reg.key

theorem Fam.has_of_hasB {f : Fam} {k : Nat} (h : f.hasB k = true) : f.has k := by
  simp only [Fam.hasB, Bool.and_eq_true, beq_iff_eq, List.any_eq_true, List.mem_range] at h
  obtain ⟨hl, n, hn, hk⟩ := h
  exact ⟨n, hn, by omega⟩

theorem rowsIn_inRegs {is : List Nat} {a : Nat} (h : rowsIn is a = true) (hm : is.all (fun i => M.testBit (32 + i)) = true) :
    ∀ d ∈ rowsAt a, d.acc = .ro ∨ d.acc = .wo ∨ InRegs M d.reg.key := by
  intro d hd
  have h1 := List.all_eq_true.mp h d hd
  simp only [Bool.or_eq_true, decide_eq_true_eq] at h1
  rcases h1 with (h1 | h1) | h1
  · exact .inl h1
  · exact .inr (.inl h1)
  obtain ⟨i, hi, hk⟩ := List.any_eq_true.mp h1
  exact .inr <| .inr <| .inr ⟨i, List.all_eq_true.mp hm i hi, Fam.has_of_hasB hk⟩

end Sys2Proof.Machine
end

