-- ==== Sys2Proof/Laws/FrameAccess.lean ====
section
/-! SUPPORT. What the commands can change that write one word of one register: what the write of that register can, and no more. -/

set_option Elab.async false

namespace Sys2Proof.Machine

set_option linter.unusedSimpArgs false

theorem command_ax {s : State} {src : Src} {n v : Nat} (hn : n < 16) : command s src (0x10 + n) 0x048 v = axCommand s n v := by
  unfold command
  rw [if_neg (by first | ((try simp only [pgAX, pgLH, pgCAN, pgGAL, pgTEST, pgRES, pgCRAWL, pgSYS, pgCYC, pgTRV, pgLVOL, pgPWR, pgCLK, pgBOOT, pgLANT, pgFIO, pgECN, pgDVR, pgFLOW, pgLGL, Bool.and_eq_true, Bool.or_eq_true, decide_eq_true_eq]) <;> omega) | decide | (simp [pgAX, pgLH, pgCAN, pgGAL, pgTEST, pgRES, pgCRAWL, pgSYS, pgCYC, pgTRV, pgLVOL, pgPWR, pgCLK, pgBOOT, pgLANT, pgFIO, pgECN, pgDVR, pgFLOW, pgLGL] <;> omega)), if_neg (by first | ((try simp only [pgAX, pgLH, pgCAN, pgGAL, pgTEST, pgRES, pgCRAWL, pgSYS, pgCYC, pgTRV, pgLVOL, pgPWR, pgCLK, pgBOOT, pgLANT, pgFIO, pgECN, pgDVR, pgFLOW, pgLGL, Bool.and_eq_true, Bool.or_eq_true, decide_eq_true_eq]) <;> omega) | decide | (simp [pgAX, pgLH, pgCAN, pgGAL, pgTEST, pgRES, pgCRAWL, pgSYS, pgCYC, pgTRV, pgLVOL, pgPWR, pgCLK, pgBOOT, pgLANT, pgFIO, pgECN, pgDVR, pgFLOW, pgLGL] <;> omega)), if_pos (by first | ((try simp only [pgAX, pgLH, pgCAN, pgGAL, pgTEST, pgRES, pgCRAWL, pgSYS, pgCYC, pgTRV, pgLVOL, pgPWR, pgCLK, pgBOOT, pgLANT, pgFIO, pgECN, pgDVR, pgFLOW, pgLGL, Bool.and_eq_true, Bool.or_eq_true, decide_eq_true_eq]) <;> omega) | decide | (simp [pgAX, pgLH, pgCAN, pgGAL, pgTEST, pgRES, pgCRAWL, pgSYS, pgCYC, pgTRV, pgLVOL, pgPWR, pgCLK, pgBOOT, pgLANT, pgFIO, pgECN, pgDVR, pgFLOW, pgLGL] <;> omega)), if_pos (by first | ((try simp only [pgAX, pgLH, pgCAN, pgGAL, pgTEST, pgRES, pgCRAWL, pgSYS, pgCYC, pgTRV, pgLVOL, pgPWR, pgCLK, pgBOOT, pgLANT, pgFIO, pgECN, pgDVR, pgFLOW, pgLGL, Bool.and_eq_true, Bool.or_eq_true, decide_eq_true_eq]) <;> omega) | decide | (simp [pgAX, pgLH, pgCAN, pgGAL, pgTEST, pgRES, pgCRAWL, pgSYS, pgCYC, pgTRV, pgLVOL, pgPWR, pgCLK, pgBOOT, pgLANT, pgFIO, pgECN, pgDVR, pgFLOW, pgLGL] <;> omega))]
  congr 1
  omega

theorem command_prf {s : State} {src : Src} {n v : Nat} (hn : n < 16) : command s src (0x10 + n) 0x0A0 v = prfCommit s n v := by
  unfold command
  rw [if_neg (by first | ((try simp only [pgAX, pgLH, pgCAN, pgGAL, pgTEST, pgRES, pgCRAWL, pgSYS, pgCYC, pgTRV, pgLVOL, pgPWR, pgCLK, pgBOOT, pgLANT, pgFIO, pgECN, pgDVR, pgFLOW, pgLGL, Bool.and_eq_true, Bool.or_eq_true, decide_eq_true_eq]) <;> omega) | decide | (simp [pgAX, pgLH, pgCAN, pgGAL, pgTEST, pgRES, pgCRAWL, pgSYS, pgCYC, pgTRV, pgLVOL, pgPWR, pgCLK, pgBOOT, pgLANT, pgFIO, pgECN, pgDVR, pgFLOW, pgLGL] <;> omega)), if_neg (by first | ((try simp only [pgAX, pgLH, pgCAN, pgGAL, pgTEST, pgRES, pgCRAWL, pgSYS, pgCYC, pgTRV, pgLVOL, pgPWR, pgCLK, pgBOOT, pgLANT, pgFIO, pgECN, pgDVR, pgFLOW, pgLGL, Bool.and_eq_true, Bool.or_eq_true, decide_eq_true_eq]) <;> omega) | decide | (simp [pgAX, pgLH, pgCAN, pgGAL, pgTEST, pgRES, pgCRAWL, pgSYS, pgCYC, pgTRV, pgLVOL, pgPWR, pgCLK, pgBOOT, pgLANT, pgFIO, pgECN, pgDVR, pgFLOW, pgLGL] <;> omega)), if_pos (by first | ((try simp only [pgAX, pgLH, pgCAN, pgGAL, pgTEST, pgRES, pgCRAWL, pgSYS, pgCYC, pgTRV, pgLVOL, pgPWR, pgCLK, pgBOOT, pgLANT, pgFIO, pgECN, pgDVR, pgFLOW, pgLGL, Bool.and_eq_true, Bool.or_eq_true, decide_eq_true_eq]) <;> omega) | decide | (simp [pgAX, pgLH, pgCAN, pgGAL, pgTEST, pgRES, pgCRAWL, pgSYS, pgCYC, pgTRV, pgLVOL, pgPWR, pgCLK, pgBOOT, pgLANT, pgFIO, pgECN, pgDVR, pgFLOW, pgLGL] <;> omega)), if_neg (by first | ((try simp only [pgAX, pgLH, pgCAN, pgGAL, pgTEST, pgRES, pgCRAWL, pgSYS, pgCYC, pgTRV, pgLVOL, pgPWR, pgCLK, pgBOOT, pgLANT, pgFIO, pgECN, pgDVR, pgFLOW, pgLGL, Bool.and_eq_true, Bool.or_eq_true, decide_eq_true_eq]) <;> omega) | decide | (simp [pgAX, pgLH, pgCAN, pgGAL, pgTEST, pgRES, pgCRAWL, pgSYS, pgCYC, pgTRV, pgLVOL, pgPWR, pgCLK, pgBOOT, pgLANT, pgFIO, pgECN, pgDVR, pgFLOW, pgLGL] <;> omega))]
  congr 1
  omega

theorem command_lh {s : State} {src : Src} {h v : Nat} (hn : h < 16) :
    command s src (0x28 + h) 0x044 v = (visionEval (lhCommand s h v).1, (lhCommand s h v).2) := by
  unfold command
  rw [if_neg (by first | ((try simp only [pgAX, pgLH, pgCAN, pgGAL, pgTEST, pgRES, pgCRAWL, pgSYS, pgCYC, pgTRV, pgLVOL, pgPWR, pgCLK, pgBOOT, pgLANT, pgFIO, pgECN, pgDVR, pgFLOW, pgLGL, Bool.and_eq_true, Bool.or_eq_true, decide_eq_true_eq]) <;> omega) | decide | (simp [pgAX, pgLH, pgCAN, pgGAL, pgTEST, pgRES, pgCRAWL, pgSYS, pgCYC, pgTRV, pgLVOL, pgPWR, pgCLK, pgBOOT, pgLANT, pgFIO, pgECN, pgDVR, pgFLOW, pgLGL] <;> omega)), if_neg (by first | ((try simp only [pgAX, pgLH, pgCAN, pgGAL, pgTEST, pgRES, pgCRAWL, pgSYS, pgCYC, pgTRV, pgLVOL, pgPWR, pgCLK, pgBOOT, pgLANT, pgFIO, pgECN, pgDVR, pgFLOW, pgLGL, Bool.and_eq_true, Bool.or_eq_true, decide_eq_true_eq]) <;> omega) | decide | (simp [pgAX, pgLH, pgCAN, pgGAL, pgTEST, pgRES, pgCRAWL, pgSYS, pgCYC, pgTRV, pgLVOL, pgPWR, pgCLK, pgBOOT, pgLANT, pgFIO, pgECN, pgDVR, pgFLOW, pgLGL] <;> omega)), if_neg (by first | ((try simp only [pgAX, pgLH, pgCAN, pgGAL, pgTEST, pgRES, pgCRAWL, pgSYS, pgCYC, pgTRV, pgLVOL, pgPWR, pgCLK, pgBOOT, pgLANT, pgFIO, pgECN, pgDVR, pgFLOW, pgLGL, Bool.and_eq_true, Bool.or_eq_true, decide_eq_true_eq]) <;> omega) | decide | (simp [pgAX, pgLH, pgCAN, pgGAL, pgTEST, pgRES, pgCRAWL, pgSYS, pgCYC, pgTRV, pgLVOL, pgPWR, pgCLK, pgBOOT, pgLANT, pgFIO, pgECN, pgDVR, pgFLOW, pgLGL] <;> omega)), if_neg (by first | ((try simp only [pgAX, pgLH, pgCAN, pgGAL, pgTEST, pgRES, pgCRAWL, pgSYS, pgCYC, pgTRV, pgLVOL, pgPWR, pgCLK, pgBOOT, pgLANT, pgFIO, pgECN, pgDVR, pgFLOW, pgLGL, Bool.and_eq_true, Bool.or_eq_true, decide_eq_true_eq]) <;> omega) | decide | (simp [pgAX, pgLH, pgCAN, pgGAL, pgTEST, pgRES, pgCRAWL, pgSYS, pgCYC, pgTRV, pgLVOL, pgPWR, pgCLK, pgBOOT, pgLANT, pgFIO, pgECN, pgDVR, pgFLOW, pgLGL] <;> omega)), if_pos (by first | ((try simp only [pgAX, pgLH, pgCAN, pgGAL, pgTEST, pgRES, pgCRAWL, pgSYS, pgCYC, pgTRV, pgLVOL, pgPWR, pgCLK, pgBOOT, pgLANT, pgFIO, pgECN, pgDVR, pgFLOW, pgLGL, Bool.and_eq_true, Bool.or_eq_true, decide_eq_true_eq]) <;> omega) | decide | (simp [pgAX, pgLH, pgCAN, pgGAL, pgTEST, pgRES, pgCRAWL, pgSYS, pgCYC, pgTRV, pgLVOL, pgPWR, pgCLK, pgBOOT, pgLANT, pgFIO, pgECN, pgDVR, pgFLOW, pgLGL] <;> omega))]
  have : 0x28 + h - 0x28 = h := by omega
  simp only [this]

theorem command_can {s : State} {src : Src} {n off v : Nat} (hn : n < 4) :
    command s src (0x50 + n) off v =
      if off = 0x060 then canCommand s n v else if off = 0x064 then txCommand s n v else rxAck s n v := by
  unfold command
  rw [if_neg (by first | ((try simp only [pgAX, pgLH, pgCAN, pgGAL, pgTEST, pgRES, pgCRAWL, pgSYS, pgCYC, pgTRV, pgLVOL, pgPWR, pgCLK, pgBOOT, pgLANT, pgFIO, pgECN, pgDVR, pgFLOW, pgLGL, Bool.and_eq_true, Bool.or_eq_true, decide_eq_true_eq]) <;> omega) | decide | (simp [pgAX, pgLH, pgCAN, pgGAL, pgTEST, pgRES, pgCRAWL, pgSYS, pgCYC, pgTRV, pgLVOL, pgPWR, pgCLK, pgBOOT, pgLANT, pgFIO, pgECN, pgDVR, pgFLOW, pgLGL] <;> omega)), if_neg (by first | ((try simp only [pgAX, pgLH, pgCAN, pgGAL, pgTEST, pgRES, pgCRAWL, pgSYS, pgCYC, pgTRV, pgLVOL, pgPWR, pgCLK, pgBOOT, pgLANT, pgFIO, pgECN, pgDVR, pgFLOW, pgLGL, Bool.and_eq_true, Bool.or_eq_true, decide_eq_true_eq]) <;> omega) | decide | (simp [pgAX, pgLH, pgCAN, pgGAL, pgTEST, pgRES, pgCRAWL, pgSYS, pgCYC, pgTRV, pgLVOL, pgPWR, pgCLK, pgBOOT, pgLANT, pgFIO, pgECN, pgDVR, pgFLOW, pgLGL] <;> omega)), if_neg (by first | ((try simp only [pgAX, pgLH, pgCAN, pgGAL, pgTEST, pgRES, pgCRAWL, pgSYS, pgCYC, pgTRV, pgLVOL, pgPWR, pgCLK, pgBOOT, pgLANT, pgFIO, pgECN, pgDVR, pgFLOW, pgLGL, Bool.and_eq_true, Bool.or_eq_true, decide_eq_true_eq]) <;> omega) | decide | (simp [pgAX, pgLH, pgCAN, pgGAL, pgTEST, pgRES, pgCRAWL, pgSYS, pgCYC, pgTRV, pgLVOL, pgPWR, pgCLK, pgBOOT, pgLANT, pgFIO, pgECN, pgDVR, pgFLOW, pgLGL] <;> omega)), if_neg (by first | ((try simp only [pgAX, pgLH, pgCAN, pgGAL, pgTEST, pgRES, pgCRAWL, pgSYS, pgCYC, pgTRV, pgLVOL, pgPWR, pgCLK, pgBOOT, pgLANT, pgFIO, pgECN, pgDVR, pgFLOW, pgLGL, Bool.and_eq_true, Bool.or_eq_true, decide_eq_true_eq]) <;> omega) | decide | (simp [pgAX, pgLH, pgCAN, pgGAL, pgTEST, pgRES, pgCRAWL, pgSYS, pgCYC, pgTRV, pgLVOL, pgPWR, pgCLK, pgBOOT, pgLANT, pgFIO, pgECN, pgDVR, pgFLOW, pgLGL] <;> omega)), if_neg (by first | ((try simp only [pgAX, pgLH, pgCAN, pgGAL, pgTEST, pgRES, pgCRAWL, pgSYS, pgCYC, pgTRV, pgLVOL, pgPWR, pgCLK, pgBOOT, pgLANT, pgFIO, pgECN, pgDVR, pgFLOW, pgLGL, Bool.and_eq_true, Bool.or_eq_true, decide_eq_true_eq]) <;> omega) | decide | (simp [pgAX, pgLH, pgCAN, pgGAL, pgTEST, pgRES, pgCRAWL, pgSYS, pgCYC, pgTRV, pgLVOL, pgPWR, pgCLK, pgBOOT, pgLANT, pgFIO, pgECN, pgDVR, pgFLOW, pgLGL] <;> omega)),
    if_neg (by first | ((try simp only [pgAX, pgLH, pgCAN, pgGAL, pgTEST, pgRES, pgCRAWL, pgSYS, pgCYC, pgTRV, pgLVOL, pgPWR, pgCLK, pgBOOT, pgLANT, pgFIO, pgECN, pgDVR, pgFLOW, pgLGL, Bool.and_eq_true, Bool.or_eq_true, decide_eq_true_eq]) <;> omega) | decide | (simp [pgAX, pgLH, pgCAN, pgGAL, pgTEST, pgRES, pgCRAWL, pgSYS, pgCYC, pgTRV, pgLVOL, pgPWR, pgCLK, pgBOOT, pgLANT, pgFIO, pgECN, pgDVR, pgFLOW, pgLGL] <;> omega)), if_neg (by first | ((try simp only [pgAX, pgLH, pgCAN, pgGAL, pgTEST, pgRES, pgCRAWL, pgSYS, pgCYC, pgTRV, pgLVOL, pgPWR, pgCLK, pgBOOT, pgLANT, pgFIO, pgECN, pgDVR, pgFLOW, pgLGL, Bool.and_eq_true, Bool.or_eq_true, decide_eq_true_eq]) <;> omega) | decide | (simp [pgAX, pgLH, pgCAN, pgGAL, pgTEST, pgRES, pgCRAWL, pgSYS, pgCYC, pgTRV, pgLVOL, pgPWR, pgCLK, pgBOOT, pgLANT, pgFIO, pgECN, pgDVR, pgFLOW, pgLGL] <;> omega)), if_pos (by first | ((try simp only [pgAX, pgLH, pgCAN, pgGAL, pgTEST, pgRES, pgCRAWL, pgSYS, pgCYC, pgTRV, pgLVOL, pgPWR, pgCLK, pgBOOT, pgLANT, pgFIO, pgECN, pgDVR, pgFLOW, pgLGL, Bool.and_eq_true, Bool.or_eq_true, decide_eq_true_eq]) <;> omega) | decide | (simp [pgAX, pgLH, pgCAN, pgGAL, pgTEST, pgRES, pgCRAWL, pgSYS, pgCYC, pgTRV, pgLVOL, pgPWR, pgCLK, pgBOOT, pgLANT, pgFIO, pgECN, pgDVR, pgFLOW, pgLGL] <;> omega))]
  have : 0x50 + n - 0x50 = n := by omega
  simp only [this]

theorem command_cyc {s : State} {src : Src} {n v : Nat} (hn : n < 8) : command s src pgCYC (0x204 + n * 0x80) v = cycReq s n v := by
  unfold command
  rw [if_neg (by first | ((try simp only [pgAX, pgLH, pgCAN, pgGAL, pgTEST, pgRES, pgCRAWL, pgSYS, pgCYC, pgTRV, pgLVOL, pgPWR, pgCLK, pgBOOT, pgLANT, pgFIO, pgECN, pgDVR, pgFLOW, pgLGL, Bool.and_eq_true, Bool.or_eq_true, decide_eq_true_eq]) <;> omega) | decide | (simp [pgAX, pgLH, pgCAN, pgGAL, pgTEST, pgRES, pgCRAWL, pgSYS, pgCYC, pgTRV, pgLVOL, pgPWR, pgCLK, pgBOOT, pgLANT, pgFIO, pgECN, pgDVR, pgFLOW, pgLGL] <;> omega)), if_pos (by first | ((try simp only [pgAX, pgLH, pgCAN, pgGAL, pgTEST, pgRES, pgCRAWL, pgSYS, pgCYC, pgTRV, pgLVOL, pgPWR, pgCLK, pgBOOT, pgLANT, pgFIO, pgECN, pgDVR, pgFLOW, pgLGL, Bool.and_eq_true, Bool.or_eq_true, decide_eq_true_eq]) <;> omega) | decide | (simp [pgAX, pgLH, pgCAN, pgGAL, pgTEST, pgRES, pgCRAWL, pgSYS, pgCYC, pgTRV, pgLVOL, pgPWR, pgCLK, pgBOOT, pgLANT, pgFIO, pgECN, pgDVR, pgFLOW, pgLGL] <;> omega))]
  congr 1
  unfold cycOf
  omega

/-- A command of AX_CMD other than STOP and REVERSE acts at once, or waits behind a request. -/
theorem axCommand_do {s : State} {n v : Nat} (hv : v = 0xA1 ∨ v = 0xA3 ∨ (0xB0 ≤ v ∧ v ≤ 0xB3)) :
    axCommand s n v = if (s.ax n).reqs.isEmpty then axDo s n v (axStaged s n)
      else (axAsk s n (.host v { axStaged s n with age := 1 }), false) := by
  unfold axCommand
  rw [if_neg (by omega), if_neg (by omega), if_pos (by simp only [Bool.or_eq_true, Bool.and_eq_true, decide_eq_true_eq]; omega)]

theorem axCommand_reverse {s : State} {n : Nat} : axCommand s n (0xA4 % 2 ^ 32) = axReverse s n := by
  unfold axCommand
  rw [if_neg (by decide), if_pos (by decide)]

def mask_execAxPush_only : Nat := mask_testDiscards ||| mask_axPush ||| mask_axAsk

theorem within_execAxPush_only {s : State} {src : Src} {n : Fin 16} : WithinO mask_execAxPush_only s (execAxPush src n s) := by
  refine .next ?_
  have hr : ∀ n : Fin 16, (rowsAt ((0x10 + n.val) * 0x1000 + 0x048)).any (·.acc = .wo) = true := by decide +kernel
  refine wordWrite_command_within (by have := n.isLt; simp only [pgAX, pgCAN]; omega) (by decide) (by decide) (by decide) (by have := n.isLt; simp only [pgAX, pgLH, pgCAN, pgGAL, pgTEST, pgRES, pgCRAWL]; omega) rfl (hr n) ?_
  rw [command_ax n.isLt, axCommand_do (by omega)]
  exact .ite (Within.stepP (Within.refl _ s) within_axPush rfl) (WithinP.mk ((Within.refl _ s).step within_axAsk rfl))

def mask_execAxStop_only : Nat := mask_testDiscards ||| mask_axAsk

theorem within_execAxStop_only {s : State} {src : Src} {n : Fin 16} : WithinO mask_execAxStop_only s (execAxStop src n s) := by
  refine .next ?_
  have hr : ∀ n : Fin 16, (rowsAt ((0x10 + n.val) * 0x1000 + 0x048)).any (·.acc = .wo) = true := by decide +kernel
  refine wordWrite_command_within (by have := n.isLt; simp only [pgAX, pgCAN]; omega) (by decide) (by decide) (by decide) (by have := n.isLt; simp only [pgAX, pgLH, pgCAN, pgGAL, pgTEST, pgRES, pgCRAWL]; omega) rfl (hr n) ?_
  rw [command_ax n.isLt]
  exact WithinP.mk ((Within.refl _ s).step within_axAsk rfl)

def mask_execAxFlush_only : Nat := mask_testDiscards ||| mask_axFlush ||| mask_axAsk

theorem within_execAxFlush_only {s : State} {src : Src} {n : Fin 16} : WithinO mask_execAxFlush_only s (execAxFlush src n s) := by
  refine .next ?_
  have hr : ∀ n : Fin 16, (rowsAt ((0x10 + n.val) * 0x1000 + 0x048)).any (·.acc = .wo) = true := by decide +kernel
  refine wordWrite_command_within (by have := n.isLt; simp only [pgAX, pgCAN]; omega) (by decide) (by decide) (by decide) (by have := n.isLt; simp only [pgAX, pgLH, pgCAN, pgGAL, pgTEST, pgRES, pgCRAWL]; omega) rfl (hr n) ?_
  rw [command_ax n.isLt, axCommand_do (by omega)]
  exact .ite (WithinP.mk ((Within.refl _ s).step within_axFlush rfl)) (WithinP.mk ((Within.refl _ s).step within_axAsk rfl))

def mask_execAxReverse_only : Nat := mask_testDiscards ||| mask_axReverse

theorem within_execAxReverse_only {s : State} {src : Src} {n : Fin 16} : WithinO mask_execAxReverse_only s (execAxReverse src n s) := by
  refine .next ?_
  have hr : ∀ n : Fin 16, (rowsAt ((0x10 + n.val) * 0x1000 + 0x048)).any (·.acc = .wo) = true := by decide +kernel
  refine wordWrite_command_within (by have := n.isLt; simp only [pgAX, pgCAN]; omega) (by decide) (by decide) (by decide) (by have := n.isLt; simp only [pgAX, pgLH, pgCAN, pgGAL, pgTEST, pgRES, pgCRAWL]; omega) rfl (hr n) ?_
  rw [command_ax n.isLt, axCommand_reverse]
  exact Within.stepP (Within.refl _ s) within_axReverse rfl

def mask_execHome_only : Nat := mask_testDiscards ||| mask_axHome ||| mask_axAsk

theorem within_execHome_only {s : State} {src : Src} {n : Fin 16} : WithinO mask_execHome_only s (execHome src n s) := by
  refine .next ?_
  have hr : ∀ n : Fin 16, (rowsAt ((0x10 + n.val) * 0x1000 + 0x048)).any (·.acc = .wo) = true := by decide +kernel
  refine wordWrite_command_within (by have := n.isLt; simp only [pgAX, pgCAN]; omega) (by decide) (by decide) (by decide) (by have := n.isLt; simp only [pgAX, pgLH, pgCAN, pgGAL, pgTEST, pgRES, pgCRAWL]; omega) rfl (hr n) ?_
  rw [command_ax n.isLt, axCommand_do (by omega)]
  exact .ite (Within.stepP (Within.refl _ s) within_axHome rfl) (WithinP.mk ((Within.refl _ s).step within_axAsk rfl))

def mask_execLearn_only : Nat := mask_testDiscards ||| mask_axLearn ||| mask_axAsk

theorem within_execLearn_only {s : State} {src : Src} {n : Fin 16} : WithinO mask_execLearn_only s (execLearn src n s) := by
  refine .next ?_
  have hr : ∀ n : Fin 16, (rowsAt ((0x10 + n.val) * 0x1000 + 0x048)).any (·.acc = .wo) = true := by decide +kernel
  refine wordWrite_command_within (by have := n.isLt; simp only [pgAX, pgCAN]; omega) (by decide) (by decide) (by decide) (by have := n.isLt; simp only [pgAX, pgLH, pgCAN, pgGAL, pgTEST, pgRES, pgCRAWL]; omega) rfl (hr n) ?_
  rw [command_ax n.isLt, axCommand_do (by omega)]
  exact .ite (Within.stepP (Within.refl _ s) within_axLearn rfl) (WithinP.mk ((Within.refl _ s).step within_axAsk rfl))

def mask_execLearnAbort_only : Nat := mask_testDiscards ||| mask_axLearnAbort ||| mask_axAsk

theorem within_execLearnAbort_only {s : State} {src : Src} {n : Fin 16} : WithinO mask_execLearnAbort_only s (execLearnAbort src n s) := by
  refine .next ?_
  have hr : ∀ n : Fin 16, (rowsAt ((0x10 + n.val) * 0x1000 + 0x048)).any (·.acc = .wo) = true := by decide +kernel
  refine wordWrite_command_within (by have := n.isLt; simp only [pgAX, pgCAN]; omega) (by decide) (by decide) (by decide) (by have := n.isLt; simp only [pgAX, pgLH, pgCAN, pgGAL, pgTEST, pgRES, pgCRAWL]; omega) rfl (hr n) ?_
  rw [command_ax n.isLt, axCommand_do (by omega)]
  exact .ite (Within.stepP (Within.refl _ s) within_axLearnAbort rfl) (WithinP.mk ((Within.refl _ s).step within_axAsk rfl))

def mask_execStepOut_only : Nat := mask_testDiscards ||| mask_axStepOut ||| mask_axAsk

theorem within_execStepOut_only {s : State} {src : Src} {n : Fin 16} : WithinO mask_execStepOut_only s (execStepOut src n s) := by
  refine .next ?_
  have hr : ∀ n : Fin 16, (rowsAt ((0x10 + n.val) * 0x1000 + 0x048)).any (·.acc = .wo) = true := by decide +kernel
  refine wordWrite_command_within (by have := n.isLt; simp only [pgAX, pgCAN]; omega) (by decide) (by decide) (by decide) (by have := n.isLt; simp only [pgAX, pgLH, pgCAN, pgGAL, pgTEST, pgRES, pgCRAWL]; omega) rfl (hr n) ?_
  rw [command_ax n.isLt, axCommand_do (by omega)]
  exact .ite (Within.stepP (Within.refl _ s) within_axStepOut rfl) (WithinP.mk ((Within.refl _ s).step within_axAsk rfl))

def mask_execPrfCommit_only : Nat := mask_testDiscards ||| mask_prfCommit

theorem within_execPrfCommit_only {s : State} {src : Src} {n : Fin 16} {val : Word} : WithinO mask_execPrfCommit_only s (execPrfCommit src n val s) := by
  refine .next ?_
  have hr : ∀ n : Fin 16, (rowsAt ((0x10 + n.val) * 0x1000 + 0x0A0)).any (·.acc = .wo) = true := by decide +kernel
  refine wordWrite_command_within (by have := n.isLt; simp only [pgAX, pgCAN]; omega) (by decide) (by decide) (by decide) (by have := n.isLt; simp only [pgAX, pgLH, pgCAN, pgGAL, pgTEST, pgRES, pgCRAWL]; omega) rfl (hr n) ?_
  rw [command_prf n.isLt]
  exact Within.stepP (Within.refl _ s) within_prfCommit rfl

def mask_execTrvGoWrite_only : Nat := mask_testDiscards ||| mask_trvGo

theorem within_execTrvGoWrite_only {s : State} {src : Src} {val : Word} : WithinO mask_execTrvGoWrite_only s (execTrvGoWrite src val s) := by
  refine .next ?_
  refine wordWrite_command_within (by decide) (by decide) (by decide) (by decide) (by decide) rfl (by decide +kernel) ?_
  exact Within.stepP (Within.refl _ s) within_trvGo rfl

def mask_execHostWdKickWrite_only : Nat := mask_testDiscards

theorem within_execHostWdKickWrite_only {s : State} {src : Src} {val : Word} : WithinO mask_execHostWdKickWrite_only s (execHostWdKickWrite src val s) := by
  refine .next ?_
  refine wordWrite_command_within (by decide) (by decide) (by decide) (by decide) (by decide) rfl (by decide +kernel) ?_
  exact WithinP.mk (Within.refl _ s)

def mask_execLglSendBuffer_only : Nat := mask_testDiscards ||| mask_lglCommand

theorem within_execLglSendBuffer_only {s : State} {src : Src} {val : Word} : WithinO mask_execLglSendBuffer_only s (execLglSendBuffer src val s) := by
  refine .next ?_
  refine wordWrite_command_within (by decide) (by decide) (by decide) (by decide) (by decide) rfl (by decide +kernel) ?_
  exact Within.stepP (Within.refl _ s) within_lglCommand rfl

def mask_execExpAckWrite_only : Nat := mask_testDiscards ||| mask_exportAck

theorem within_execExpAckWrite_only {s : State} {src : Src} {val : Word} : WithinO mask_execExpAckWrite_only s (execExpAckWrite src val s) := by
  refine .next ?_
  refine wordWrite_command_within (by decide) (by decide) (by decide) (by decide) (by decide) rfl (by decide +kernel) ?_
  exact Within.stepP (Within.refl _ s) within_exportAck rfl

def mask_execHev_only : Nat := mask_testDiscards ||| mask_State_event

theorem within_execHev_only {s : State} {src : Src} : WithinO mask_execHev_only s (execHev src s) := by
  refine .next ?_
  refine wordWrite_command_within (by decide) (by decide) (by decide) (by decide) (by decide) rfl (by decide +kernel) ?_
  exact WithinP.mk ((Within.refl _ s).step within_State_event rfl)

def mask_execExpStart_only : Nat := mask_testDiscards ||| mask_exportStart

theorem within_execExpStart_only {s : State} {src : Src} : WithinO mask_execExpStart_only s (execExpStart src s) := by
  refine .next ?_
  refine wordWrite_command_within (by decide) (by decide) (by decide) (by decide) (by decide) rfl (by decide +kernel) ?_
  exact Within.stepP (Within.refl _ s) within_exportStart rfl

def mask_execExpAbort_only : Nat := mask_testDiscards ||| mask_exportEnd

theorem within_execExpAbort_only {s : State} {src : Src} : WithinO mask_execExpAbort_only s (execExpAbort src s) := by
  refine .next ?_
  refine wordWrite_command_within (by decide) (by decide) (by decide) (by decide) (by decide) rfl (by decide +kernel) ?_
  exact WithinP.mk ((Within.refl _ s).step within_exportEnd rfl)

def mask_execFind_only : Nat := mask_testDiscards ||| mask_State_setFlow ||| 0x100001000000000000000000000000000000000000000000000000000000000000000000000000000000000000000000000000000000000000000000000000000000000000000000000000000000000000000000000000000000000000000000000000000000000000000000000000000000000000000000000

theorem within_execFind_only {s : State} {src : Src} : WithinO mask_execFind_only s (execFind src s) := by
  refine .next ?_
  refine wordWrite_command_within (by decide) (by decide) (by decide) (by decide) (by decide) rfl (by decide +kernel) ?_
  have e : command s src pgFLOW 0x078 (0x4600 % 2 ^ 32) = if s.on FLOW.FIND_BUSY then (s, true) else (((s.setB FLOW.FIND_BUSY true).set FLOW.FIND_CODE 0).setFlow
      { s.flow with findSeq := s.get64 FLOW.FIND_SEQ_HI FLOW.FIND_SEQ_LO }, false) := rfl
  rw [e]
  exact .ite (WithinP.mk (Within.refl _ s)) (WithinP.mk ((((Within.refl _ s).setB key_FLOW_FIND_BUSY rfl).set key_FLOW_FIND_CODE rfl).step within_State_setFlow rfl))

def mask_execSnap_only : Nat := mask_testDiscards ||| mask_snapshot

theorem within_execSnap_only {s : State} {src : Src} : WithinO mask_execSnap_only s (execSnap src s) := by
  refine .next ?_
  refine wordWrite_command_within (by decide) (by decide) (by decide) (by decide) (by decide) rfl (by decide +kernel) ?_
  have e : command s src pgFLOW 0x078 (0x4640 % 2 ^ 32) = if (match s.flow.lastSnap with | some t => decide (s.tick < t + 60 * 32768) | none => false) || !flowUp s then (s, true)
      else (snapshot s, false) := rfl
  rw [e]
  exact .ite (WithinP.mk (Within.refl _ s)) (WithinP.mk ((Within.refl _ s).step within_snapshot rfl))

def mask_execRetrain_only : Nat := mask_testDiscards ||| mask_retrain ||| mask_visionEval

theorem within_execRetrain_only {s : State} {src : Src} {h : Fin 16} : WithinO mask_execRetrain_only s (execRetrain src h s) := by
  refine .next ?_
  have hr : ∀ n : Fin 16, (rowsAt ((0x28 + n.val) * 0x1000 + 0x044)).any (·.acc = .wo) = true := by decide +kernel
  refine wordWrite_command_within (by have := h.isLt; simp only [pgLH]; omega) (by decide) (by decide) (by decide) (by have := h.isLt; simp only [pgAX, pgLH, pgCAN, pgGAL, pgTEST, pgRES, pgCRAWL]; omega) rfl (hr h) ?_
  rw [command_lh h.isLt]
  exact WithinP.mk (((Within.refl _ s).step within_retrain rfl).step within_visionEval rfl)

def mask_execRecal_only : Nat := mask_testDiscards ||| mask_recal ||| mask_visionEval

theorem within_execRecal_only {s : State} {src : Src} {h : Fin 16} : WithinO mask_execRecal_only s (execRecal src h s) := by
  refine .next ?_
  have hr : ∀ n : Fin 16, (rowsAt ((0x28 + n.val) * 0x1000 + 0x044)).any (·.acc = .wo) = true := by decide +kernel
  refine wordWrite_command_within (by have := h.isLt; simp only [pgLH]; omega) (by decide) (by decide) (by decide) (by have := h.isLt; simp only [pgAX, pgLH, pgCAN, pgGAL, pgTEST, pgRES, pgCRAWL]; omega) rfl (hr h) ?_
  rw [command_lh h.isLt]
  exact WithinP.mk (((Within.refl _ s).step within_recal rfl).step within_visionEval rfl)

def mask_execBgLearn_only : Nat := mask_testDiscards ||| mask_bgLearn ||| mask_visionEval

theorem within_execBgLearn_only {s : State} {src : Src} {n : Fin 8} : WithinO mask_execBgLearn_only s (execBgLearn src n s) := by
  refine .next ?_
  refine wordWrite_command_within (by decide) (by decide) (by decide) (by decide) (by decide) rfl (by decide +kernel) ?_
  have hc : bgCommand s ((0xD100 + n.val) % 2 ^ 32) = bgLearn s n := by
    have := n.isLt
    have h1 : (0xD100 + n.val) % 2 ^ 32 = 0xD100 + n.val := by omega
    have h2 : (0xD100 + n.val) / 8 = 0xD100 / 8 := by omega
    have h3 : (0xD100 + n.val) % 8 = n.val := by omega
    rw [h1]; simp [bgCommand, h2, h3]
  have e : command s src pgLVOL 0x04C ((0xD100 + n.val) % 2 ^ 32) =
      (visionEval (bgCommand s ((0xD100 + n.val) % 2 ^ 32)).1, (bgCommand s ((0xD100 + n.val) % 2 ^ 32)).2) := rfl
  rw [e, hc]
  exact WithinP.mk (Within.step (Within.stepP (Within.refl _ s) within_bgLearn rfl) within_visionEval rfl)

def mask_execBgAbort_only : Nat := mask_testDiscards ||| mask_bgAbort ||| mask_visionEval

theorem within_execBgAbort_only {s : State} {src : Src} {n : Fin 8} : WithinO mask_execBgAbort_only s (execBgAbort src n s) := by
  refine .next ?_
  refine wordWrite_command_within (by decide) (by decide) (by decide) (by decide) (by decide) rfl (by decide +kernel) ?_
  have hc : bgCommand s ((0xD200 + n.val) % 2 ^ 32) = bgAbort s n := by
    have := n.isLt
    have h1 : (0xD200 + n.val) % 2 ^ 32 = 0xD200 + n.val := by omega
    have h2 : (0xD200 + n.val) / 8 = 0xD200 / 8 := by omega
    have h3 : (0xD200 + n.val) % 8 = n.val := by omega
    rw [h1]; simp [bgCommand, h2, h3]
  have e : command s src pgLVOL 0x04C ((0xD200 + n.val) % 2 ^ 32) =
      (visionEval (bgCommand s ((0xD200 + n.val) % 2 ^ 32)).1, (bgCommand s ((0xD200 + n.val) % 2 ^ 32)).2) := rfl
  rw [e, hc]
  exact WithinP.mk (Within.step (Within.stepP (Within.refl _ s) within_bgAbort rfl) within_visionEval rfl)

def mask_execLqAck_only : Nat := mask_testDiscards ||| mask_lqAck ||| mask_visionEval

theorem within_execLqAck_only {s : State} {src : Src} {h : Fin 16} : WithinO mask_execLqAck_only s (execLqAck src h s) := by
  refine .next ?_
  refine wordWrite_command_within (by decide) (by decide) (by decide) (by decide) (by decide) rfl (by decide +kernel) ?_
  have e : command s src pgLVOL 0x048 ((0x4C00 + h.val) % 2 ^ 32) =
      (visionEval (lqAck s ((0x4C00 + h.val) % 2 ^ 32)).1, (lqAck s ((0x4C00 + h.val) % 2 ^ 32)).2) := rfl
  rw [e]
  exact WithinP.mk (Within.step (Within.stepP (Within.refl _ s) within_lqAck rfl) within_visionEval rfl)

def mask_execCycReqWrite_only : Nat := mask_testDiscards ||| mask_cycReq

theorem within_execCycReqWrite_only {s : State} {src : Src} {n : Fin 8} {val : Word} : WithinO mask_execCycReqWrite_only s (execCycReqWrite src n val s) := by
  refine .next ?_
  have hr : ∀ n : Fin 8, (rowsAt (pgCYC * 0x1000 + (0x204 + n.val * 0x80))).any (·.acc = .wo) = true := by decide +kernel
  have := n.isLt
  refine wordWrite_command_within (by decide) (by omega) (by omega) (by omega) (by decide) rfl (hr n) ?_
  rw [command_cyc n.isLt]
  exact Within.stepP (Within.refl _ s) within_cycReq rfl

def mask_execCanTxPush_only : Nat := mask_testDiscards ||| mask_txPush

theorem within_execCanTxPush_only {s : State} {src : Src} {n : Fin 4} {i : Fin 32} : WithinO mask_execCanTxPush_only s (execCanTxPush src n i s) := by
  refine .next ?_
  have hr : ∀ n : Fin 4, (rowsAt ((0x50 + n.val) * 0x1000 + 0x064)).any (·.acc = .wo) = true := by decide +kernel
  refine wordWrite_command_within (by have := n.isLt; simp only [pgAX, pgCAN]; omega) (by decide) (by decide) (by decide) (by have := n.isLt; simp only [pgAX, pgLH, pgCAN, pgGAL, pgTEST, pgRES, pgCRAWL]; omega) rfl (hr n) ?_
  rw [command_can n.isLt, if_neg (by decide), if_pos rfl]
  have hc : txCommand s n ((0x5400 + i.val) % 2 ^ 32) = txPush s n i false := by
    have := i.isLt
    have h1 : (0x5400 + i.val) % 2 ^ 32 = 0x5400 + i.val := by omega
    have h2 : (0x5400 + i.val) / 32 = 0x5400 / 32 := by omega
    have h3 : (0x5400 + i.val) % 32 = i.val := by omega
    rw [h1]; simp [txCommand, h2, h3]
  rw [hc]
  exact Within.stepP (Within.refl _ s) within_txPush rfl

def mask_execCanTxCancel_only : Nat := mask_testDiscards ||| mask_txCancel

theorem within_execCanTxCancel_only {s : State} {src : Src} {n : Fin 4} {i : Fin 32} : WithinO mask_execCanTxCancel_only s (execCanTxCancel src n i s) := by
  refine .next ?_
  have hr : ∀ n : Fin 4, (rowsAt ((0x50 + n.val) * 0x1000 + 0x064)).any (·.acc = .wo) = true := by decide +kernel
  refine wordWrite_command_within (by have := n.isLt; simp only [pgAX, pgCAN]; omega) (by decide) (by decide) (by decide) (by have := n.isLt; simp only [pgAX, pgLH, pgCAN, pgGAL, pgTEST, pgRES, pgCRAWL]; omega) rfl (hr n) ?_
  rw [command_can n.isLt, if_neg (by decide), if_pos rfl]
  have hc : txCommand s n ((0x5500 + i.val) % 2 ^ 32) = txCancel s n i := by
    have := i.isLt
    have h1 : (0x5500 + i.val) % 2 ^ 32 = 0x5500 + i.val := by omega
    have h2 : (0x5500 + i.val) / 32 = 0x5500 / 32 := by omega
    have h3 : (0x5500 + i.val) % 32 = i.val := by omega
    rw [h1]; simp [txCommand, h2, h3]
  rw [hc]
  exact Within.stepP (Within.refl _ s) within_txCancel rfl

def mask_execCanTxRelease_only : Nat := mask_testDiscards ||| mask_txRelease

theorem within_execCanTxRelease_only {s : State} {src : Src} {n : Fin 4} {i : Fin 32} : WithinO mask_execCanTxRelease_only s (execCanTxRelease src n i s) := by
  refine .next ?_
  have hr : ∀ n : Fin 4, (rowsAt ((0x50 + n.val) * 0x1000 + 0x064)).any (·.acc = .wo) = true := by decide +kernel
  refine wordWrite_command_within (by have := n.isLt; simp only [pgAX, pgCAN]; omega) (by decide) (by decide) (by decide) (by have := n.isLt; simp only [pgAX, pgLH, pgCAN, pgGAL, pgTEST, pgRES, pgCRAWL]; omega) rfl (hr n) ?_
  rw [command_can n.isLt, if_neg (by decide), if_pos rfl]
  have hc : txCommand s n ((0x5600 + i.val) % 2 ^ 32) = txRelease s n i false := by
    have := i.isLt
    have h1 : (0x5600 + i.val) % 2 ^ 32 = 0x5600 + i.val := by omega
    have h2 : (0x5600 + i.val) / 32 = 0x5600 / 32 := by omega
    have h3 : (0x5600 + i.val) % 32 = i.val := by omega
    rw [h1]; simp [txCommand, h2, h3]
  rw [hc]
  exact Within.stepP (Within.refl _ s) within_txRelease rfl

def mask_execCanRxAck_only : Nat := mask_testDiscards ||| mask_rxAck

theorem within_execCanRxAck_only {s : State} {src : Src} {n : Fin 4} {k : Fin 256} : WithinO mask_execCanRxAck_only s (execCanRxAck src n k s) := by
  refine .next ?_
  have hr : ∀ n : Fin 4, (rowsAt ((0x50 + n.val) * 0x1000 + 0x068)).any (·.acc = .wo) = true := by decide +kernel
  refine wordWrite_command_within (by have := n.isLt; simp only [pgAX, pgCAN]; omega) (by decide) (by decide) (by decide) (by have := n.isLt; simp only [pgAX, pgLH, pgCAN, pgGAL, pgTEST, pgRES, pgCRAWL]; omega) rfl (hr n) ?_
  rw [command_can n.isLt, if_neg (by decide), if_neg (by decide)]
  exact Within.stepP (Within.refl _ s) within_rxAck rfl

def mask_execCanHpbRelease_only : Nat := mask_testDiscards ||| mask_rxAck

theorem within_execCanHpbRelease_only {s : State} {src : Src} {n : Fin 4} {h : Fin 8} : WithinO mask_execCanHpbRelease_only s (execCanHpbRelease src n h s) := by
  refine .next ?_
  have hr : ∀ n : Fin 4, (rowsAt ((0x50 + n.val) * 0x1000 + 0x068)).any (·.acc = .wo) = true := by decide +kernel
  refine wordWrite_command_within (by have := n.isLt; simp only [pgAX, pgCAN]; omega) (by decide) (by decide) (by decide) (by have := n.isLt; simp only [pgAX, pgLH, pgCAN, pgGAL, pgTEST, pgRES, pgCRAWL]; omega) rfl (hr n) ?_
  rw [command_can n.isLt, if_neg (by decide), if_neg (by decide)]
  exact Within.stepP (Within.refl _ s) within_rxAck rfl

def mask_execCanRecover_only : Nat := mask_testDiscards ||| mask_canCommand

theorem within_execCanRecover_only {s : State} {src : Src} {n : Fin 4} : WithinO mask_execCanRecover_only s (execCanRecover src n s) := by
  refine .next ?_
  have hr : ∀ n : Fin 4, (rowsAt ((0x50 + n.val) * 0x1000 + 0x060)).any (·.acc = .wo) = true := by decide +kernel
  refine wordWrite_command_within (by have := n.isLt; simp only [pgAX, pgCAN]; omega) (by decide) (by decide) (by decide) (by have := n.isLt; simp only [pgAX, pgLH, pgCAN, pgGAL, pgTEST, pgRES, pgCRAWL]; omega) rfl (hr n) ?_
  rw [command_can n.isLt, if_pos rfl]
  exact Within.stepP (Within.refl _ s) within_canCommand rfl

def mask_execClampUnlock_only : Nat := mask_testDiscards ||| mask_galCommand

theorem within_execClampUnlock_only {s : State} {src : Src} {val : Word} : WithinO mask_execClampUnlock_only s (execClampUnlock src val s) := by
  refine .next ?_
  have hc : ∀ w : Wr, w.addr = pgGAL * 0x1000 + 0x064 → WithinP mask_execClampUnlock_only s (regWrite s w) := by
    intro w hw
    refine regWrite_command_within (by rw [hw]; decide) (by rw [hw]; decide +kernel) ?_
    rw [hw]
    exact Within.stepP (Within.refl _ s) within_galCommand rfl
  exact wordWrite_within (by decide) (by decide) (by decide) (pageWrite_within rfl (wideHi_word (by decide) rfl) (hc _ rfl) fun _ => hc _ rfl)

def mask_execModeReqWrite_only : Nat := mask_testDiscards ||| 0x8000000000000000000000010 ||| mask_modeReqWritten

theorem within_execModeReqWrite_only {s : State} {src : Src} {val : Word} : WithinO mask_execModeReqWrite_only s (execModeReqWrite src val s) := by
  refine .next ?_
  refine wordWrite_store_within (by decide) (by decide) (by decide) (by decide) rfl (by decide +kernel) rfl rfl rfl (by decide) (by decide) (by decide) (rowsIn_inRegs (is := [67]) (by decide +kernel) rfl) (.inr (by decide +kernel)) rfl fun s1 h1 => ?_
  exact WithinP.mk (h1.step within_modeReqWritten rfl)

def mask_execHostRdyWrite_only : Nat := mask_testDiscards ||| 0x4000000000000000000012 ||| mask_step4

theorem within_execHostRdyWrite_only {s : State} {src : Src} {val : Word} : WithinO mask_execHostRdyWrite_only s (execHostRdyWrite src val s) := by
  refine .next ?_
  refine wordWrite_store_within (by decide) (by decide) (by decide) (by decide) rfl (by decide +kernel) rfl rfl rfl (by decide) (by decide) (by decide) (rowsIn_inRegs (is := [54]) (by decide +kernel) rfl) (.inl rfl) rfl fun s1 h1 => ?_
  exact WithinP.mk (h1.step within_step4 rfl)

def mask_execBootConfirmWrite_only : Nat := mask_testDiscards ||| 0x800000000000000000000000000000000000012 ||| mask_bootConfirmed

theorem within_execBootConfirmWrite_only {s : State} {src : Src} {val : Word} : WithinO mask_execBootConfirmWrite_only s (execBootConfirmWrite src val s) := by
  refine .next ?_
  refine wordWrite_store_within (by decide) (by decide) (by decide) (by decide) rfl (by decide +kernel) rfl rfl rfl (by decide) (by decide) (by decide) (rowsIn_inRegs (is := [123]) (by decide +kernel) rfl) (.inl rfl) rfl fun s1 h1 => ?_
  exact WithinP.mk (h1.step within_bootConfirmed rfl)

def mask_execFoOutWrite_only : Nat := mask_testDiscards ||| 0x8000000000000000000000000000000000000000000000000000000000000000000000000000000000000000000000000000000000000000000000000000000000000000000000000000000000000000000000000000000010

theorem within_execFoOutWrite_only {s : State} {src : Src} {val : Word} : WithinO mask_execFoOutWrite_only s (execFoOutWrite src val s) := by
  refine .next ?_
  refine wordWrite_store_within (by decide) (by decide) (by decide) (by decide) rfl (by decide +kernel) rfl rfl rfl (by decide) (by decide) (by decide) (rowsIn_inRegs (is := [679]) (by decide +kernel) rfl) (.inr (by decide +kernel)) rfl fun s1 h1 => ?_
  exact WithinP.mk h1

def mask_execThrWrite_only : Nat := mask_testDiscards ||| mask_thrWritten ||| 0x10000000000000000000000000000000000000000000000000000000000000000000000000000000000000000000000000000000000000000000000000000000000000000000000000000000000000000000000000000000010

theorem within_execThrWrite_only {s : State} {src : Src} {val : Word} : WithinO mask_execThrWrite_only s (execThrWrite src val s) := by
  refine .next ?_
  refine wordWrite_store_within (by decide) (by decide) (by decide) (by decide) rfl (by decide +kernel) rfl rfl rfl (by decide) (by decide) (by decide) (rowsIn_inRegs (is := [680]) (by decide +kernel) rfl) (.inr (by decide +kernel)) rfl fun s1 h1 => ?_
  exact WithinP.mk (h1.step within_thrWritten rfl)

def mask_execRdClassWrite_only : Nat := mask_testDiscards ||| 0x80000000000000000000000000000000000000000000000000000000000000000000000000000000000000000000000000000000000000000000000000000000000000000000000000000000000000000000000000000000000000000000000000000000000000000000000000000000000000000000010 ||| mask_latchClass

theorem within_execRdClassWrite_only {s : State} {src : Src} {val : Word} : WithinO mask_execRdClassWrite_only s (execRdClassWrite src val s) := by
  refine .next ?_
  refine wordWrite_store_within (by decide) (by decide) (by decide) (by decide) rfl (by decide +kernel) rfl rfl rfl (by decide) (by decide) (by decide) (rowsIn_inRegs (is := [923]) (by decide +kernel) rfl) (.inr (by decide +kernel)) rfl fun s1 h1 => ?_
  exact WithinP.mk (h1.step within_latchClass rfl)

theorem written_axCtl {s0 s : State} {n : Nat} (hn : n < 16) : written s0 s (0x10 + n) 0x044 =
    (let s := if s0.on (AX.TORQUE_REQ n) && !s.on (AX.TORQUE_REQ n) then torqueWithdrawn s n else s
     if s.get (AX.MODE n) != s0.get (AX.MODE n) then axModeWritten s n else s, false) := by
  have e : 0x10 + n - 0x10 = n := by omega
  have h : (decide (0x10 ≤ 0x10 + n) && decide (0x10 + n < 0x20)) = true := by simp; omega
  unfold written axWritten
  rw [if_neg (by decide), if_neg (by decide), if_pos h, if_pos rfl, e]

theorem written_axEn {s0 s : State} {n : Nat} (hn : n < 16) : written s0 s (0x10 + n) 0x00C = (axEnWritten s n, false) := by
  have e : 0x10 + n - 0x10 = n := by omega
  have h : (decide (0x10 ≤ 0x10 + n) && decide (0x10 + n < 0x20)) = true := by simp; omega
  unfold written ctrlWritten
  rw [if_pos rfl, if_pos h, e]

theorem written_trvEn {s0 s : State} : written s0 s pgTRV 0x00C = (eachAx axEnWritten s, false) := by
  unfold written ctrlWritten
  rw [if_pos rfl, if_neg (by decide), if_pos rfl]

theorem written_follow {s0 s : State} {c : Nat} (hc : c < 48) : written s0 s pgGAL (0x100 + c * 0x20) =
    (followWritten s c (s0.on (GALC.FOLLOW c)), false) := by
  have e : chOf (0x100 + c * 0x20) = c := by unfold chOf; omega
  unfold written
  rw [if_neg (by omega), if_neg (by omega), if_neg (by decide), if_neg (by decide), if_neg (by decide), if_neg (by decide),
    if_neg (by decide), if_pos rfl, if_neg (by omega), e]

theorem written_tail {s0 s : State} {k : Nat} (hk : k < 4) : written s0 s pgECN (0x064 + k * 8) = (tailWritten s k, false) := by
  have e : (0x064 + k * 8 - 0x064) / 8 = k := by omega
  have h : (decide (pgECN = pgECN) && decide (0x064 ≤ 0x064 + k * 8) && decide (0x064 + k * 8 < 0x080) && decide ((0x064 + k * 8) % 8 = 4)) = true := by
    simp; omega
  unfold written
  rw [if_neg (by omega), if_neg (by omega), if_neg (by decide), if_neg (by decide), if_neg (by decide), if_neg (by decide),
    if_neg (by decide), if_neg (by decide), if_neg (by decide), if_neg (by decide), if_pos h, e]

theorem written_can {s0 s : State} {n : Nat} (hn : n < 4) : written s0 s (0x50 + n) 0x00C =
    (versionsAgain (canLpWritten (canEnWritten (s0.on (HDR.EN (0x50 + n))) s n) n), false) := by
  have e : 0x50 + n - 0x50 = n := by omega
  have h : (decide (0x50 ≤ 0x50 + n) && decide (0x50 + n < 0x54)) = true := by simp; omega
  unfold written ctrlWritten
  rw [if_pos rfl, if_neg (by simp; omega), if_neg (by simp only [pgTRV]; omega), if_neg (by simp; omega),
    if_neg (by simp only [pgLANT, pgLVOL, Bool.or_eq_true, decide_eq_true_eq]; omega), if_neg (by simp only [pgGAL]; omega),
    if_neg (by simp only [pgFIO]; omega), if_pos h, e]

def mask_execTorqueReqWrite_only : Nat := mask_testDiscards ||| 0x7c00000000000000000000000000000000000000000000000000000000000000000000000000000000000000000010 ||| mask_torqueWithdrawn ||| mask_axModeWritten

theorem within_execTorqueReqWrite_only {s : State} {src : Src} {n : Fin 16} {val : Word} : WithinO mask_execTorqueReqWrite_only s (execTorqueReqWrite src n val s) := by
  refine .next ?_
  have hr : ∀ n : Fin 16, (rowsAt ((0x10 + n.val) * 0x1000 + 0x044)).any (·.acc = .wo) = false ∧ rowsIn [338, 339, 340, 341, 342] ((0x10 + n.val) * 0x1000 + 0x044) = true ∧
      (∀ d ∈ rowsAt ((0x10 + n.val) * 0x1000 + 0x044), d.acc ≠ .w1) ∧ wideHi ((0x10 + n.val)) (0x044) = false ∧ wideHi ((0x10 + n.val)) (0x044 - 4) = false ∧ settles ((0x10 + n.val)) (0x044) = false := by decide +kernel
  refine wordWrite_store_within (by have := n.isLt; simp only [pgAX]; omega) (by decide) (by decide) (by decide) rfl (hr n).1 (hr n).2.2.2.1 (hr n).2.2.2.2.1 (hr n).2.2.2.2.2 (by have := n.isLt; simp only [pgAX, pgLH, pgCAN, pgGAL, pgTEST, pgRES, pgCRAWL]; omega) (by have := n.isLt; simp only [pgAX, pgLH, pgCAN, pgGAL, pgTEST, pgRES, pgCRAWL]; omega) (by have := n.isLt; simp only [pgAX, pgLH, pgCAN, pgGAL, pgTEST, pgRES, pgCRAWL]; omega) (rowsIn_inRegs (is := [338, 339, 340, 341, 342]) (hr n).2.1 rfl) (.inr (hr n).2.2.1) rfl fun s1 h1 => ?_
  rw [written_axCtl n.isLt]
  extract_lets -merge -useContext -underBinder s2
  have h2 : Within mask_execTorqueReqWrite_only s s2 := .ite (h1.step within_torqueWithdrawn rfl) h1
  exact WithinP.mk (.ite (h2.step within_axModeWritten rfl) h2)

def mask_execAxModeWrite_only : Nat := mask_testDiscards ||| 0x7c00000000000000000000000000000000000000000000000000000000000000000000000000000000000000000010 ||| mask_torqueWithdrawn ||| mask_axModeWritten

theorem within_execAxModeWrite_only {s : State} {src : Src} {n : Fin 16} {val : Word} : WithinO mask_execAxModeWrite_only s (execAxModeWrite src n val s) := by
  refine .next ?_
  have hr : ∀ n : Fin 16, (rowsAt ((0x10 + n.val) * 0x1000 + 0x044)).any (·.acc = .wo) = false ∧ rowsIn [338, 339, 340, 341, 342] ((0x10 + n.val) * 0x1000 + 0x044) = true ∧
      (∀ d ∈ rowsAt ((0x10 + n.val) * 0x1000 + 0x044), d.acc ≠ .w1) ∧ wideHi ((0x10 + n.val)) (0x044) = false ∧ wideHi ((0x10 + n.val)) (0x044 - 4) = false ∧ settles ((0x10 + n.val)) (0x044) = false := by decide +kernel
  refine wordWrite_store_within (by have := n.isLt; simp only [pgAX]; omega) (by decide) (by decide) (by decide) rfl (hr n).1 (hr n).2.2.2.1 (hr n).2.2.2.2.1 (hr n).2.2.2.2.2 (by have := n.isLt; simp only [pgAX, pgLH, pgCAN, pgGAL, pgTEST, pgRES, pgCRAWL]; omega) (by have := n.isLt; simp only [pgAX, pgLH, pgCAN, pgGAL, pgTEST, pgRES, pgCRAWL]; omega) (by have := n.isLt; simp only [pgAX, pgLH, pgCAN, pgGAL, pgTEST, pgRES, pgCRAWL]; omega) (rowsIn_inRegs (is := [338, 339, 340, 341, 342]) (hr n).2.1 rfl) (.inr (hr n).2.2.1) rfl fun s1 h1 => ?_
  rw [written_axCtl n.isLt]
  extract_lets -merge -useContext -underBinder s2
  have h2 : Within mask_execAxModeWrite_only s s2 := .ite (h1.step within_torqueWithdrawn rfl) h1
  exact WithinP.mk (.ite (h2.step within_axModeWritten rfl) h2)

def mask_execAxEnWrite_only : Nat := mask_testDiscards ||| 0xc000000010 ||| mask_axEnWritten

theorem within_execAxEnWrite_only {s : State} {src : Src} {pg : Option (Fin 16)} {val : Word} :
    WithinO mask_execAxEnWrite_only s (execAxEnWrite src pg val s) := by
  refine .next ?_
  have hr : ∀ n : Fin 16, (rowsAt ((0x10 + n.val) * 0x1000 + 0x00C)).any (·.acc = .wo) = false ∧
      rowsIn [6, 7] ((0x10 + n.val) * 0x1000 + 0x00C) = true ∧
      (∀ d ∈ rowsAt ((0x10 + n.val) * 0x1000 + 0x00C), d.acc ≠ .w1) ∧ wideHi (0x10 + n.val) 0x00C = false ∧
      wideHi (0x10 + n.val) (0x00C - 4) = false ∧ settles (0x10 + n.val) (0x00C) = false := by decide +kernel
  match pg with
  | some n =>
    refine wordWrite_store_within (by have := n.isLt; simp only [pgAX, pgCAN]; omega) (by decide) (by decide) (by decide) rfl (hr n).1 (hr n).2.2.2.1 (hr n).2.2.2.2.1 (hr n).2.2.2.2.2
      (by have := n.isLt; simp only [pgAX, pgLH, pgCAN, pgGAL, pgTEST, pgRES, pgCRAWL]; omega) (by have := n.isLt; simp only [pgAX, pgLH, pgCAN, pgGAL, pgTEST, pgRES, pgCRAWL]; omega) (by have := n.isLt; simp only [pgAX, pgLH, pgCAN, pgGAL, pgTEST, pgRES, pgCRAWL]; omega)
      (rowsIn_inRegs (is := [6, 7]) (hr n).2.1 rfl) (.inr (hr n).2.2.1) rfl fun s1 h1 => ?_
    rw [written_axEn n.isLt]
    exact WithinP.mk (h1.step within_axEnWritten rfl)
  | none =>
    refine wordWrite_store_within (by decide) (by decide) (by decide) (by decide) rfl (by decide +kernel) rfl rfl rfl (by decide) (by decide)
      (by decide) (rowsIn_inRegs (is := [6, 7]) (by decide +kernel) rfl) (.inr (by decide +kernel)) rfl fun s1 h1 => ?_
    rw [written_trvEn]
    exact WithinP.mk (h1.eachAx fun t k ht => ht.step within_axEnWritten rfl)

def mask_execGcOnWrite_only : Nat := mask_testDiscards ||| 0x6000000000000000000000000000000000000000000000000000000000000000000000000000000000000000000000000000000000000000000000000000000000000000000000000000000000000000010 ||| mask_galEval

theorem within_execGcOnWrite_only {s : State} {src : Src} {hi : Bool} {val : Word} :
    WithinO mask_execGcOnWrite_only s (execGcOnWrite src hi val s) := by
  refine .next ?_
  cases hi
  · refine wordWrite_store_within (by decide) (by decide) (by decide) (by decide) rfl (by decide +kernel) rfl rfl rfl (by decide) (by decide)
      (by decide) (rowsIn_inRegs (is := [617, 618]) (by decide +kernel) rfl) (.inr (by decide +kernel)) rfl fun s1 h1 => ?_
    exact WithinP.mk (h1.step within_galEval rfl)
  · refine wordWrite_store_within (by decide) (by decide) (by decide) (by decide) rfl (by decide +kernel) rfl rfl rfl (by decide) (by decide)
      (by decide) (rowsIn_inRegs (is := [617, 618]) (by decide +kernel) rfl) (.inr (by decide +kernel)) rfl fun s1 h1 => ?_
    exact WithinP.mk (h1.step within_galEval rfl)

def mask_execFollowWrite_only : Nat := mask_testDiscards ||| 0x7c00000000000000000000000000000000000000000000000000000000000000000000000000000000000000000000000000000000000000000000000000000000000000000000000000000000000000000000010 ||| mask_followWritten

theorem within_execFollowWrite_only {s : State} {src : Src} {c : Fin 48} {val : Word} : WithinO mask_execFollowWrite_only s (execFollowWrite src c val s) := by
  refine .next ?_
  have hr : ∀ c : Fin 48, (rowsAt (pgGAL * 0x1000 + (0x100 + c.val * 0x20))).any (·.acc = .wo) = false ∧ rowsIn [638, 639, 640, 641, 642] (pgGAL * 0x1000 + (0x100 + c.val * 0x20)) = true ∧
      (∀ d ∈ rowsAt (pgGAL * 0x1000 + (0x100 + c.val * 0x20)), d.acc ≠ .w1) ∧ wideHi (pgGAL) ((0x100 + c.val * 0x20)) = false ∧ wideHi (pgGAL) ((0x100 + c.val * 0x20) - 4) = false ∧ settles (pgGAL) ((0x100 + c.val * 0x20)) = false := by decide +kernel
  refine wordWrite_store_within (by decide) (by have := c.isLt; omega) (by omega) (by omega) rfl (hr c).1 (hr c).2.2.2.1 (hr c).2.2.2.2.1 (hr c).2.2.2.2.2 (by decide) (by decide) (by decide) (rowsIn_inRegs (is := [638, 639, 640, 641, 642]) (hr c).2.1 rfl) (.inr (hr c).2.2.1) rfl fun s1 h1 => ?_
  rw [written_follow c.isLt]
  exact WithinP.mk (h1.step within_followWritten rfl)

def mask_execEcnTailWrite_only : Nat := mask_testDiscards ||| 0x4000000000000000000000000000000000000000000000000000000000000000000000000000000000000000000000000000000000000000000000000000000000000000000000000000000000000000000000000000000000000000000000000000000000010 ||| mask_tailWritten

theorem within_execEcnTailWrite_only {s : State} {src : Src} {k : Fin 4} {val : Word} : WithinO mask_execEcnTailWrite_only s (execEcnTailWrite src k val s) := by
  refine .next ?_
  have hr : ∀ k : Fin 4, (rowsAt (pgECN * 0x1000 + (0x064 + k.val * 8))).any (·.acc = .wo) = false ∧ rowsIn [786] (pgECN * 0x1000 + (0x064 + k.val * 8)) = true ∧
      (∀ d ∈ rowsAt (pgECN * 0x1000 + (0x064 + k.val * 8)), d.acc ≠ .w1) ∧ wideHi (pgECN) ((0x064 + k.val * 8)) = false ∧ wideHi (pgECN) ((0x064 + k.val * 8) - 4) = false ∧ settles (pgECN) ((0x064 + k.val * 8)) = false := by decide +kernel
  refine wordWrite_store_within (by decide) (by have := k.isLt; omega) (by omega) (by omega) rfl (hr k).1 (hr k).2.2.2.1 (hr k).2.2.2.2.1 (hr k).2.2.2.2.2 (by decide) (by decide) (by decide) (rowsIn_inRegs (is := [786]) (hr k).2.1 rfl) (.inr (hr k).2.2.1) rfl fun s1 h1 => ?_
  rw [written_tail k.isLt]
  exact WithinP.mk (h1.step within_tailWritten rfl)

theorem regWrite_ind_within {M : Nat} {s : State} {w : Wr} (hi : 0x030 ≤ offOf w.addr ∧ offOf w.addr < 0x03C)
    (h : WithinP M s (indWrite s w)) : WithinP M s (regWrite s w) := by
  unfold regWrite
  extract_lets -merge -useContext -underBinder pg off rows
  rw [if_pos (by simpa [off] using hi)]
  exact h

theorem regWrite_res_within {M : Nat} {s : State} {w : Wr} (hp : pgOf w.addr = pgRES) (hi : 0x054 ≤ offOf w.addr ∧ offOf w.addr < 0x060)
    (hrow : (rowsAt w.addr).any (·.acc = .wo) = false) (hM : sub mask_resWrite M = true) : WithinP M s (regWrite s w) := by
  unfold regWrite
  extract_lets -merge -useContext -underBinder pg off rows
  have h0 : pg = pgRES := hp
  have h1 : (decide (0x030 ≤ off) && decide (off < 0x03C)) = false := by
    have : 0x054 ≤ off := hi.1
    simp; omega
  have h2 : rows.any (·.acc = .wo) = false := hrow
  have h3 : wideHi pg off = false := by rw [h0]; rfl
  have h4 : wideHi pg (off - 4) = false := by rw [h0]; rfl
  have h5 : decide (pg = pgTEST) = false := by rw [h0]; rfl
  have h6 : (decide (pg = pgRES) && decide (0x054 ≤ off) && decide (off < 0x060)) = true := by
    simp only [Bool.and_eq_true, decide_eq_true_eq]
    exact ⟨⟨h0, hi.1⟩, hi.2⟩
  simp only [h1, h2, h3, h4, h5, h6, Bool.false_and, Bool.false_eq_true, if_false, if_true]
  refine .ite (Within.refl M s) (.ite (Within.refl M s) ?_)
  have h := (within_resWrite (s := s) (b1 := (off - 0x054) / 4) (b2 := w.mask) (b3 := w.val)).mono hM
  exact WithinP.mk h

theorem regWrite_map_within {M : Nat} {s : State} {w : Wr} (hp : pgOf w.addr = pgCRAWL) (hi : 0x040 ≤ offOf w.addr)
    (hrow : (rowsAt w.addr).any (·.acc = .wo) = false)
    (hm : (rowsAt w.addr).any (fun d => d.reg.addr = w.addr && d.acc = .rwv) = true)
    (hM : sub mask_mapWord M = true) : WithinP M s (regWrite s w) := by
  unfold regWrite
  extract_lets -merge -useContext -underBinder pg off rows
  have h0 : pg = pgCRAWL := hp
  have h1 : (decide (0x030 ≤ off) && decide (off < 0x03C)) = false := by
    have : 0x040 ≤ off := hi
    simp; omega
  have h2 : rows.any (·.acc = .wo) = false := hrow
  have h3 : wideHi pg off = false := by rw [h0]; rfl
  have h4 : wideHi pg (off - 4) = false := by rw [h0]; rfl
  have h5 : decide (pg = pgTEST) = false := by rw [h0]; rfl
  have h6 : decide (pg = pgRES) = false := by rw [h0]; rfl
  have h7 : (decide (pg = pgCRAWL) && rows.any (fun d => d.reg.addr = w.addr && d.acc = .rwv)) = true := by
    have hm : rows.any (fun d => d.reg.addr = w.addr && d.acc = .rwv) = true := hm
    rw [h0, hm]; rfl
  simp only [h1, h2, h3, h4, h5, h6, h7, Bool.false_and, Bool.false_eq_true, if_false, if_true]
  exact .ite (Within.refl M s) (within_mapWord.mono hM)


def mask_execIndAddrWrite_only : Nat := mask_testDiscards ||| mask_indWrite

theorem within_execIndAddrWrite_only {s : State} {src : Src} {pg : Fin 256} {val : Word} : WithinO mask_execIndAddrWrite_only s (execIndAddrWrite src pg val s) := by
  refine .next ?_
  have hw : ∀ w : Wr, w.addr = pg * 0x1000 + 0x030 → WithinP mask_execIndAddrWrite_only s (regWrite s w) := by
    intro w hw
    exact regWrite_ind_within (by rw [hw, offOf_word (by decide)]; decide) (within_indWrite.mono rfl)
  exact wordWrite_within pg.isLt (by decide) (by decide) (pageWrite_within rfl (wideHi_word (by decide) (wideHi_lowOff rfl _)) (hw _ rfl) fun _ => hw _ rfl)

def mask_execIndCtrlWrite_only : Nat := mask_testDiscards ||| mask_indWrite

theorem within_execIndCtrlWrite_only {s : State} {src : Src} {pg : Fin 256} {val : Word} : WithinO mask_execIndCtrlWrite_only s (execIndCtrlWrite src pg val s) := by
  refine .next ?_
  have hw : ∀ w : Wr, w.addr = pg * 0x1000 + 0x038 → WithinP mask_execIndCtrlWrite_only s (regWrite s w) := by
    intro w hw
    exact regWrite_ind_within (by rw [hw, offOf_word (by decide)]; decide) (within_indWrite.mono rfl)
  exact wordWrite_within pg.isLt (by decide) (by decide) (pageWrite_within rfl (wideHi_word (by decide) (wideHi_lowOff rfl _)) (hw _ rfl) fun _ => hw _ rfl)

def mask_execIndDataWrite_only : Nat := mask_testDiscards ||| mask_indWrite

theorem within_execIndDataWrite_only {s : State} {src : Src} {pg : Fin 256} {val : Word} : WithinO mask_execIndDataWrite_only s (execIndDataWrite src pg val s) := by
  refine .next ?_
  have hw : ∀ w : Wr, w.addr = pg * 0x1000 + 0x034 → WithinP mask_execIndDataWrite_only s (regWrite s w) := by
    intro w hw
    exact regWrite_ind_within (by rw [hw, offOf_word (by decide)]; decide) (within_indWrite.mono rfl)
  exact wordWrite_within pg.isLt (by decide) (by decide) (pageWrite_within rfl (wideHi_word (by decide) (wideHi_lowOff rfl _)) (hw _ rfl) fun _ => hw _ rfl)

def mask_execHostResClaim_only : Nat := mask_testDiscards ||| mask_resWrite

theorem within_execHostResClaim_only {s : State} {src : Src} {reg : ResReg} {val : Word} : WithinO mask_execHostResClaim_only s (execHostResClaim src reg val s) := by
  refine .next ?_
  have h : ∀ off : Nat, 0x054 ≤ off ∧ off < 0x060 → off % 4 = 0 → (rowsAt (pgRES * 0x1000 + off)).any (·.acc = .wo) = false →
      Within mask_execHostResClaim_only s (wordWrite s src pgRES off val.toNat) := by
    intro off ho h4 hrow
    have hw : ∀ w : Wr, w.addr = pgRES * 0x1000 + off → WithinP mask_execHostResClaim_only s (regWrite s w) := by
      intro w hw
      have hlt : off < 4096 := by omega
      exact regWrite_res_within (by rw [hw, pgOf_word hlt]) (by rw [hw, offOf_word hlt]; exact ho) (by rw [hw]; exact hrow) rfl
    exact wordWrite_within (by decide) (by omega) h4 (pageWrite_within rfl (wideHi_word (by omega) (by simp [wideHi, pgRES, pgCRAWL, pgLVOL, pgFLOW])) (hw _ rfl) fun _ => hw _ rfl)
  cases reg
  · exact h 0x054 (by decide) (by decide) (by decide +kernel)
  · exact h 0x058 (by decide) (by decide) (by decide +kernel)
  · exact h 0x05C (by decide) (by decide) (by decide +kernel)

def mask_execCrawlMapWrite_only : Nat := mask_testDiscards ||| mask_mapWord

theorem within_execCrawlMapWrite_only {s : State} {src : Src} {k : Fin 12} {val : Word} : WithinO mask_execCrawlMapWrite_only s (execCrawlMapWrite src k val s) := by
  refine .next ?_
  have hr : ∀ k : Fin 12, (rowsAt (pgCRAWL * 0x1000 + (0x044 + k.val * 4))).any (·.acc = .wo) = false ∧
      (rowsAt (pgCRAWL * 0x1000 + (0x044 + k.val * 4))).any (fun d => d.reg.addr = pgCRAWL * 0x1000 + (0x044 + k.val * 4) && d.acc = .rwv) = true := by
    decide +kernel
  have hk := k.isLt
  have hw : ∀ w : Wr, w.addr = pgCRAWL * 0x1000 + (0x044 + k.val * 4) → WithinP mask_execCrawlMapWrite_only s (regWrite s w) := by
    intro w hw
    have hlt : 0x044 + k.val * 4 < 4096 := by omega
    exact regWrite_map_within (by rw [hw, pgOf_word hlt]) (by rw [hw, offOf_word hlt]; omega) (by rw [hw]; exact (hr k).1)
      (by rw [hw]; exact (hr k).2) rfl
  exact wordWrite_within (by decide) (by omega) (by omega) (pageWrite_within rfl (wideHi_word (by omega) (by simp [wideHi, pgRES, pgCRAWL, pgLVOL, pgFLOW])) (hw _ rfl) fun _ => hw _ rfl)

def mask_canCtrl_only : Nat := mask_testDiscards ||| 0xc000000010 ||| mask_canEnWritten ||| mask_canLpWritten ||| mask_versionsAgain

theorem within_canCtrl_only {s : State} {src : Src} {n : Fin 4} {i : Nat} {b : Bool} (hi : i < 2) :
    Within mask_canCtrl_only s (bitWrite s src (pgCAN n) 0x00C i b) := by
  have hn := n.isLt
  have hr : ∀ n : Fin 4, (rowsAt ((0x50 + n.val) * 0x1000 + 0x00C)).any (·.acc = .wo) = false ∧
      rowsIn [6, 7] ((0x50 + n.val) * 0x1000 + 0x00C) = true ∧
      (∀ d ∈ rowsAt ((0x50 + n.val) * 0x1000 + 0x00C), d.acc ≠ .w1) ∧ wideHi (0x50 + n.val) 0x00C = false ∧
      wideHi (0x50 + n.val) (0x00C - 4) = false ∧ settles (0x50 + n.val) (0x00C) = false := by decide +kernel
  have hw : ∀ w : Wr, w.addr = (0x50 + n.val) * 0x1000 + 0x00C → WithinP mask_canCtrl_only s (regWrite s w) := by
    intro w hw
    refine regWrite_store_within ?_ ?_ ?_ ?_ ?_ ?_ ?_ ?_ (rowsIn_inRegs (is := [6, 7]) (by rw [hw]; exact (hr n).2.1) rfl)
      (.inr (by rw [hw]; exact (hr n).2.2.1)) rfl fun s1 h1 => ?_ <;> rw [hw] <;>
      try simp only [pgOf_word (show 0x00C < 4096 by decide), offOf_word (show 0x00C < 4096 by decide)]
    · omega
    · exact (hr n).1
    · exact (hr n).2.2.2.1
    · exact (hr n).2.2.2.2.1
    · exact (hr n).2.2.2.2.2
    · simp only [pgTEST]; omega
    · simp only [pgRES]; omega
    · simp only [pgCRAWL]; omega
    · rw [written_can hn]
      exact WithinP.mk (((h1.step within_canEnWritten rfl).step within_canLpWritten rfl).step within_versionsAgain rfl)
  unfold bitWrite busWrite
  split
  · exact Within.refl _ s
  have e1 : ¬ (0x48000000 + pgCAN n.val * 0x2000 + (0x00C * 8 + i) * 4 < 0x40100000) := by simp only [pgCAN]; omega
  have e2 : (decide (0x48000000 ≤ 0x48000000 + pgCAN n.val * 0x2000 + (0x00C * 8 + i) * 4) &&
      decide (0x48000000 + pgCAN n.val * 0x2000 + (0x00C * 8 + i) * 4 < 0x48200000)) = true := by
    simp only [Bool.and_eq_true, decide_eq_true_eq, pgCAN]; omega
  rw [if_neg e1, if_pos e2]
  unfold aliasWrite
  extract_lets -merge -useContext -underBinder pg j
  have hpg : pg = 0x50 + n.val := by simp only [pg, pgCAN]; omega
  have hj : pg * 0x1000 + j / 32 * 4 = (0x50 + n.val) * 0x1000 + 0x00C := by simp only [pg, j, pgCAN]; omega
  have hA : Within mask_canCtrl_only s (s.adj pgSYS) := (Within.refl _ s).step within_State_adj rfl
  have hB : Within mask_canCtrl_only s (s.adj pg) := (Within.refl _ s).step within_State_adj rfl
  refine .ite hA (.ite hB ?_)
  exact pageWrite_within rfl (show wideHi (pgOf (pg * 0x1000 + j / 32 * 4)) (offOf (pg * 0x1000 + j / 32 * 4) - 4) = false by
    rw [hj]; exact wideHi_word (by decide) (hr n).2.2.2.2.1) (hw _ hj) fun _ => hw _ hj

def mask_execLpReqWrite_only : Nat := mask_canCtrl_only
def mask_execCanEnWrite_only : Nat := mask_canCtrl_only

theorem within_execLpReqWrite_only {s : State} {src : Src} {n : Fin 4} {b : Bool} :
    WithinO mask_execLpReqWrite_only s (execLpReqWrite src n b s) := .next (within_canCtrl_only (by decide))

theorem within_execCanEnWrite_only {s : State} {src : Src} {n : Fin 4} {b : Bool} :
    WithinO mask_execCanEnWrite_only s (execCanEnWrite src n b s) := .next (within_canCtrl_only (by decide))

/-- What a command can change: the mask of its meaning, taken narrower where it is a write of one register. -/
def cmdMaskOnly : Instr → Nat
  | .registerWrite _ _ _ _ => mask_execRegisterWrite
  | .bitAliasWrite _ _ _ _ => mask_execBitAliasWrite
  | .wideHighWrite _ _ _ => mask_execWideHighWrite
  | .wideLowWrite _ _ _ => mask_execWideLowWrite
  | .indAddrWrite _ _ _ => mask_execIndAddrWrite_only
  | .indCtrlWrite _ _ _ => mask_execIndCtrlWrite_only
  | .indDataRead _ _ => mask_execIndDataRead
  | .indDataWrite _ _ _ => mask_execIndDataWrite_only
  | .indPrefetchDone _ _ => mask_execIndPrefetchDone
  | .indPostedWriteDone _ _ => mask_execIndPostedWriteDone
  | .voteScrub _ => mask_execVoteScrub
  | .domainOn _ => mask_execDomainOn
  | .domainOff _ => mask_execDomainOff
  | .hostResClaim _ _ _ => mask_execHostResClaim_only
  | .lampTestEnd => mask_execLampTestEnd
  | .battlInterrupt _ => mask_execBattlInterrupt
  | .battlReturn _ => mask_execBattlReturn
  | .pfWarn => mask_execPfWarn
  | .powerDownComplete => mask_execPowerDownComplete
  | .powerOnStart _ => mask_execPowerOnStart
  | .supplyLevelChange _ _ => mask_execSupplyLevelChange
  | .battdOvOpen _ => mask_execBattdOvOpen
  | .battdOvClose _ => mask_execBattdOvClose
  | .chopperOn _ => mask_execChopperOn
  | .chopperOff _ => mask_execChopperOff
  | .chopBudgetRestored => mask_execChopBudgetRestored
  | .busOvervoltage _ => mask_execBusOvervoltage
  | .modeReqWrite _ _ => mask_execModeReqWrite_only
  | .activeGateReadbackDone _ => mask_execActiveGateReadbackDone
  | .actRdySet _ => mask_execActRdySet
  | .idleDelayExpiry => mask_execIdleDelayExpiry
  | .wakeEvent _ => mask_execWakeEvent
  | .parkStart => mask_execParkStart
  | .parkLateWake _ => mask_execParkLateWake
  | .parkComplete => mask_execParkComplete
  | .crawlP10Off => mask_execCrawlP10Off
  | .clockFailure _ _ _ => mask_execClockFailure
  | .cellMeasure _ _ => mask_execCellMeasure
  | .clockMeasureDone _ => mask_execClockMeasureDone
  | .selfTestStepPass _ => mask_execSelfTestStepPass
  | .selfTestStepFail _ _ _ => mask_execSelfTestStepFail
  | .lpddr5WipeDone _ _ => mask_execLpddr5WipeDone
  | .hostStart _ _ => mask_execHostStart
  | .hostRdyWrite _ _ => mask_execHostRdyWrite_only
  | .hostRdyTimeout => mask_execHostRdyTimeout
  | .refugeMonitorPowerOn => mask_execRefugeMonitorPowerOn
  | .galleryDeferredTest _ _ => mask_execGalleryDeferredTest
  | .bootConfirmWrite _ _ => mask_execBootConfirmWrite_only
  | .refugeAnnounce _ => mask_execRefugeAnnounce
  | .lcWipesDone _ _ => mask_execLcWipesDone
  | .rstReqWrite _ _ => mask_execRstReqWrite
  | .hostWdKickWrite _ _ => mask_execHostWdKickWrite_only
  | .hostWdExpiry => mask_execHostWdExpiry
  | .wdRestartDue => mask_execWdRestartDue
  | .traverseUpdate _ _ => mask_execTraverseUpdate
  | .torqueRampEnd _ => mask_execTorqueRampEnd
  | .holdReductionStart _ => mask_execHoldReductionStart
  | .axPush _ _ => mask_execAxPush_only
  | .axStop _ _ => mask_execAxStop_only
  | .axFlush _ _ => mask_execAxFlush_only
  | .axReverse _ _ => mask_execAxReverse_only
  | .prfCommit _ _ _ => mask_execPrfCommit_only
  | .trvGoWrite _ _ => mask_execTrvGoWrite_only
  | .torqueReqWrite _ _ _ => mask_execTorqueReqWrite_only
  | .axModeWrite _ _ _ => mask_execAxModeWrite_only
  | .axEnWrite _ _ _ => mask_execAxEnWrite_only
  | .torqueRemoval _ => mask_execTorqueRemoval
  | .tblCrcUpdate _ => mask_execTblCrcUpdate
  | .cstepEdge _ _ _ => mask_execCstepEdge
  | .encoderLost _ => mask_execEncoderLost
  | .deviationDecision _ => mask_execDeviationDecision
  | .switchAccepted _ _ => mask_execSwitchAccepted
  | .home _ _ => mask_execHome_only
  | .hardStopFound _ => mask_execHardStopFound
  | .learn _ _ => mask_execLearn_only
  | .learnAbort _ _ => mask_execLearnAbort_only
  | .forceTrip _ => mask_execForceTrip
  | .reversalRequest _ => mask_execReversalRequest
  | .sqzChange _ => mask_execSqzChange
  | .stepOut _ _ => mask_execStepOut_only
  | .gapMmReceived _ _ _ _ => mask_execGapMmReceived
  | .gapStale _ => mask_execGapStale
  | .headPresent _ _ _ => mask_execHeadPresent
  | .headLinkReady _ => mask_execHeadLinkReady
  | .linkReadyTimeout _ => mask_execLinkReadyTimeout
  | .linkTrainDone _ _ => mask_execLinkTrainDone
  | .identDone _ _ _ => mask_execIdentDone
  | .calibReadDone _ _ => mask_execCalibReadDone
  | .headLinkLoss _ _ => mask_execHeadLinkLoss
  | .portFaultWaitEnd _ => mask_execPortFaultWaitEnd
  | .retrain _ _ => mask_execRetrain_only
  | .recal _ _ => mask_execRecal_only
  | .headPowerTrip _ => mask_execHeadPowerTrip
  | .headPowerRetry _ => mask_execHeadPowerRetry
  | .headBudgetShed _ => mask_execHeadBudgetShed
  | .headShedRestore _ _ => mask_execHeadShedRestore
  | .frameTrigger _ _ => mask_execFrameTrigger
  | .frameLineRx _ _ _ _ _ _ => mask_execFrameLineRx
  | .frameStale _ => mask_execFrameStale
  | .frameProcessed _ _ _ => mask_execFrameProcessed
  | .glowwormDecision _ _ => mask_execGlowwormDecision
  | .glowwormSilence _ => mask_execGlowwormSilence
  | .poseWrite _ _ _ _ => mask_execPoseWrite
  | .bgLearn _ _ => mask_execBgLearn_only
  | .bgAbort _ _ => mask_execBgAbort_only
  | .bgLearnDone _ => mask_execBgLearnDone
  | .lqAck _ _ => mask_execLqAck_only
  | .recordAtSafety _ => mask_execRecordAtSafety
  | .visionStale _ => mask_execVisionStale
  | .burstReqHoldEnd _ => mask_execBurstReqHoldEnd
  | .thinAdclHoldEnd _ => mask_execThinAdclHoldEnd
  | .cycReqWrite _ _ _ => mask_execCycReqWrite_only
  | .cycleTick => mask_execCycleTick
  | .supervisionTimeout _ => mask_execSupervisionTimeout
  | .dwellDoneSet _ => mask_execDwellDoneSet
  | .pauseDoneSet _ => mask_execPauseDoneSet
  | .recoverSettle _ => mask_execRecoverSettle
  | .sealSample _ _ _ _ => mask_execSealSample
  | .sealPoleDisagree _ => mask_execSealPoleDisagree
  | .sealChange _ => mask_execSealChange
  | .inputAccepted _ _ _ => mask_execInputAccepted
  | .channelExchange => mask_execChannelExchange
  | .inputDiscLatch _ => mask_execInputDiscLatch
  | .pairDiscrepancyLatch _ _ => mask_execPairDiscrepancyLatch
  | .twoHandButtonFault _ _ => mask_execTwoHandButtonFault
  | .twoHandWindowExpiry _ => mask_execTwoHandWindowExpiry
  | .heartbeatLost _ => mask_execHeartbeatLost
  | .reversalWatchFail _ => mask_execReversalWatchFail
  | .guidedContactFault _ => mask_execGuidedContactFault
  | .edmCheckFail _ _ => mask_execEdmCheckFail
  | .resetRelease _ _ _ => mask_execResetRelease
  | .resetStuck _ => mask_execResetStuck
  | .spPeriodicTestFail _ _ => mask_execSpPeriodicTestFail
  | .mirrorCheck => mask_execMirrorCheck
  | .testDueSet => mask_execTestDueSet
  | .safeCopyRx _ _ => mask_execSafeCopyRx
  | .pairTimeout _ => mask_execPairTimeout
  | .permissiveLapse _ => mask_execPermissiveLapse
  | .streamUnsync _ => mask_execStreamUnsync
  | .networkLost _ => mask_execNetworkLost
  | .netRestrEnd => mask_execNetRestrEnd
  | .doorStatusSend => mask_execDoorStatusSend
  | .gcOnWrite _ _ _ => mask_execGcOnWrite_only
  | .followWrite _ _ _ => mask_execFollowWrite_only
  | .directEdge _ _ => mask_execDirectEdge
  | .ocTrip _ _ => mask_execOcTrip
  | .retryBackoffEnd _ => mask_execRetryBackoffEnd
  | .retryNReset _ => mask_execRetryNReset
  | .commandOffSettled _ => mask_execCommandOffSettled
  | .inrushWindowEnd _ => mask_execInrushWindowEnd
  | .thermalLatch _ _ _ => mask_execThermalLatch
  | .thermalLatchClear _ _ _ => mask_execThermalLatchClear
  | .clampUnlock _ _ => mask_execClampUnlock_only
  | .crawlClampUnlock _ => mask_execCrawlClampUnlock
  | .shedStep _ _ _ => mask_execShedStep
  | .shedRestoreStep _ _ _ => mask_execShedRestoreStep
  | .gateCutBitClear _ => mask_execGateCutBitClear
  | .crawlEnFilterAccept _ => mask_execCrawlEnFilterAccept
  | .crawlMapWrite _ _ _ => mask_execCrawlMapWrite_only
  | .bankOvervoltage _ => mask_execBankOvervoltage
  | .bankReverse _ => mask_execBankReverse
  | .bankGroundLoss _ => mask_execBankGroundLoss
  | .bankReturn _ => mask_execBankReturn
  | .bankChannelRestore _ => mask_execBankChannelRestore
  | .bankSwitchFault _ => mask_execBankSwitchFault
  | .barrierLoss => mask_execBarrierLoss
  | .barrierReturn => mask_execBarrierReturn
  | .fiAccepted _ _ => mask_execFiAccepted
  | .foOutWrite _ _ => mask_execFoOutWrite_only
  | .thrWrite _ _ => mask_execThrWrite_only
  | .foCurrentLimit _ => mask_execFoCurrentLimit
  | .foThermalShutdown _ => mask_execFoThermalShutdown
  | .foThermalRestart _ => mask_execFoThermalRestart
  | .fioFaultClear => mask_execFioFaultClear
  | .canFrameRx _ _ _ => mask_execCanFrameRx
  | .canTxPush _ _ _ => mask_execCanTxPush_only
  | .canTxCancel _ _ _ => mask_execCanTxCancel_only
  | .canTxRelease _ _ _ => mask_execCanTxRelease_only
  | .canRxAck _ _ _ => mask_execCanRxAck_only
  | .canHpbRelease _ _ _ => mask_execCanHpbRelease_only
  | .canTxStart _ _ => mask_execCanTxStart
  | .canTxComplete _ _ _ => mask_execCanTxComplete
  | .canBusError _ _ _ _ => mask_execCanBusError
  | .canRecover _ _ => mask_execCanRecover_only
  | .canRecoveryDone _ => mask_execCanRecoveryDone
  | .lpReqWrite _ _ _ => mask_execLpReqWrite_only
  | .canSleepEnter _ => mask_execCanSleepEnter
  | .canLocalWake _ _ => mask_execCanLocalWake
  | .canEnWrite _ _ _ => mask_execCanEnWrite_only
  | .safeCanConfigure => mask_execSafeCanConfigure
  | .ecnFrameRx _ _ _ _ => mask_execEcnFrameRx
  | .ecnTailWrite _ _ _ => mask_execEcnTailWrite_only
  | .ecnFrameTx _ _ => mask_execEcnFrameTx
  | .bypassRelayChange => mask_execBypassRelayChange
  | .ecnLinkChange _ _ _ => mask_execEcnLinkChange
  | .mvbMasterFrame _ _ _ => mask_execMvbMasterFrame
  | .mvbSlaveFrame _ _ _ _ => mask_execMvbSlaveFrame
  | .mvbLineFault _ => mask_execMvbLineFault
  | .mvbPortStale _ => mask_execMvbPortStale
  | .mvbSinkWord0Read _ => mask_execMvbSinkWord0Read
  | .lglPoll => mask_execLglPoll
  | .lglReplyRx _ _ => mask_execLglReplyRx
  | .lglReplyTimeout => mask_execLglReplyTimeout
  | .lglSendBuffer _ _ => mask_execLglSendBuffer_only
  | .lglSlaveReply _ _ => mask_execLglSlaveReply
  | .dvrMessageRx _ _ => mask_execDvrMessageRx
  | .announceSend => mask_execAnnounceSend
  | .announceRx _ _ _ => mask_execAnnounceRx
  | .consistRx _ => mask_execConsistRx
  | .partnerLost _ => mask_execPartnerLost
  | .carrierTimeout _ _ => mask_execCarrierTimeout
  | .tcmsLost => mask_execTcmsLost
  | .slotHoldExpiry _ => mask_execSlotHoldExpiry
  | .expectedMissing _ => mask_execExpectedMissing
  | .doorInfoSend => mask_execDoorInfoSend
  | .recordSeal _ _ => mask_execRecordSeal
  | .archivePageCopy _ _ => mask_execArchivePageCopy
  | .traceSample _ => mask_execTraceSample
  | .clipComplete _ => mask_execClipComplete
  | .snapshotTimer => mask_execSnapshotTimer
  | .snap _ => mask_execSnap_only
  | .hev _ => mask_execHev_only
  | .find _ => mask_execFind_only
  | .findDone => mask_execFindDone
  | .rdClassWrite _ _ => mask_execRdClassWrite_only
  | .expStart _ => mask_execExpStart_only
  | .expAbort _ => mask_execExpAbort_only
  | .expAckWrite _ _ => mask_execExpAckWrite_only
  | .flowRecovery _ _ _ => mask_execFlowRecovery
  | .nandPowerOff => mask_execNandPowerOff
  | .nandOnlyFlush _ => mask_execNandOnlyFlush
  | .recorderSend => mask_execRecorderSend
  | .tcUpdate _ => mask_execTcUpdate
  | .tickCheckpoint => mask_execTickCheckpoint
  | .backupLoss => mask_execBackupLoss
  | .setCmdWrite _ => mask_execSetCmdWrite
  | .calendarSetApply => mask_execCalendarSetApply
  | .almDlySWrite _ => mask_execAlmDlySWrite
  | .alarmConfigWrite _ _ => mask_execAlarmConfigWrite
  | .calAlarmFire => mask_execCalAlarmFire
  | .dlyAlarmFire => mask_execDlyAlarmFire
  | .slatiLineError => mask_execSlatiLineError
  | .slatiHello => mask_execSlatiHello
  | .slatiVer _ => mask_execSlatiVer
  | .slatiBaud _ => mask_execSlatiBaud
  | .baudRevert => mask_execBaudRevert
  | .slatiBreak _ => mask_execSlatiBreak
  | .slatiLogin _ => mask_execSlatiLogin
  | .slatiResp _ => mask_execSlatiResp
  | .nonceExpiry => mask_execNonceExpiry
  | .lockoutEnd => mask_execLockoutEnd
  | .slatiLogout => mask_execSlatiLogout
  | .sessionTimeout => mask_execSessionTimeout
  | .slatiId => mask_execSlatiId
  | .slatiStatus => mask_execSlatiStatus
  | .slatiCairn => mask_execSlatiCairn
  | .slatiRd _ _ _ => mask_execSlatiRd
  | .slatiRdi _ _ _ _ => mask_execSlatiRdi
  | .slatiWr _ _ _ => mask_execSlatiWr
  | .slatiWri _ _ _ _ => mask_execSlatiWri
  | .slatiClock _ _ _ _ _ _ => mask_execSlatiClock
  | .slatiRestart => mask_execSlatiRestart
  | .slatiHold => mask_execSlatiHold
  | .slatiExport => mask_execSlatiExport
  | .slatiAck _ _ => mask_execSlatiAck
  | .slatiExpabort => mask_execSlatiExpabort
  | .slatiMon _ _ _ => mask_execSlatiMon
  | .slatiTest _ => mask_execSlatiTest
  | .testComplete _ _ _ _ => mask_execTestComplete
  | .slatiStop => mask_execSlatiStop
  | .slatiParamRd => mask_execSlatiParamRd
  | .slatiParamWr _ _ => mask_execSlatiParamWr
  | .slatiParamCommit => mask_execSlatiParamCommit
  | .slatiTcfgRd => mask_execSlatiTcfgRd
  | .slatiTcfgWr _ _ => mask_execSlatiTcfgWr
  | .slatiTcfgCommit => mask_execSlatiTcfgCommit
  | .slatiLc _ => mask_execSlatiLc
  | .tpSelWrite _ _ _ => mask_execTpSelWrite
  | .columnCheckFail _ _ => mask_execColumnCheckFail
  | .encoderRestored _ => mask_execEncoderRestored

/-- Every command answers a next state, which differs from the state before it at most in what its mask names. -/
theorem within_exec_only (c : Instr) (s : State) : WithinO (cmdMaskOnly c) s (exec c s) :=
  match c with
  | .registerWrite src addr wd val => (within_execRegisterWrite : WithinO _ s (execRegisterWrite src addr wd val s))
  | .bitAliasWrite src addr wd val => (within_execBitAliasWrite : WithinO _ s (execBitAliasWrite src addr wd val s))
  | .wideHighWrite src addr val => (within_execWideHighWrite : WithinO _ s (execWideHighWrite src addr val s))
  | .wideLowWrite src addr val => (within_execWideLowWrite : WithinO _ s (execWideLowWrite src addr val s))
  | .indAddrWrite src pg val => (within_execIndAddrWrite_only : WithinO _ s (execIndAddrWrite src pg val s))
  | .indCtrlWrite src pg val => (within_execIndCtrlWrite_only : WithinO _ s (execIndCtrlWrite src pg val s))
  | .indDataRead src pg => (within_execIndDataRead : WithinO _ s (execIndDataRead src pg s))
  | .indDataWrite src pg val => (within_execIndDataWrite_only : WithinO _ s (execIndDataWrite src pg val s))
  | .indPrefetchDone src pg => (within_execIndPrefetchDone : WithinO _ s (execIndPrefetchDone src pg s))
  | .indPostedWriteDone src pg => (within_execIndPostedWriteDone : WithinO _ s (execIndPostedWriteDone src pg s))
  | .voteScrub found => (within_execVoteScrub : WithinO _ s (execVoteScrub found s))
  | .domainOn d => (within_execDomainOn : WithinO _ s (execDomainOn d s))
  | .domainOff d => (within_execDomainOff : WithinO _ s (execDomainOff d s))
  | .hostResClaim src reg val => (within_execHostResClaim_only : WithinO _ s (execHostResClaim src reg val s))
  | .lampTestEnd => (within_execLampTestEnd : WithinO _ s (execLampTestEnd s))
  | .battlInterrupt mv => (within_execBattlInterrupt : WithinO _ s (execBattlInterrupt mv s))
  | .battlReturn mv => (within_execBattlReturn : WithinO _ s (execBattlReturn mv s))
  | .pfWarn => (within_execPfWarn : WithinO _ s (execPfWarn s))
  | .powerDownComplete => (within_execPowerDownComplete : WithinO _ s (execPowerDownComplete s))
  | .powerOnStart mv => (within_execPowerOnStart : WithinO _ s (execPowerOnStart mv s))
  | .supplyLevelChange sup mv => (within_execSupplyLevelChange : WithinO _ s (execSupplyLevelChange sup mv s))
  | .battdOvOpen mv => (within_execBattdOvOpen : WithinO _ s (execBattdOvOpen mv s))
  | .battdOvClose mv => (within_execBattdOvClose : WithinO _ s (execBattdOvClose mv s))
  | .chopperOn vref => (within_execChopperOn : WithinO _ s (execChopperOn vref s))
  | .chopperOff joule => (within_execChopperOff : WithinO _ s (execChopperOff joule s))
  | .chopBudgetRestored => (within_execChopBudgetRestored : WithinO _ s (execChopBudgetRestored s))
  | .busOvervoltage mv => (within_execBusOvervoltage : WithinO _ s (execBusOvervoltage mv s))
  | .modeReqWrite src val => (within_execModeReqWrite_only : WithinO _ s (execModeReqWrite src val s))
  | .activeGateReadbackDone bad => (within_execActiveGateReadbackDone : WithinO _ s (execActiveGateReadbackDone bad s))
  | .actRdySet late => (within_execActRdySet : WithinO _ s (execActRdySet late s))
  | .idleDelayExpiry => (within_execIdleDelayExpiry : WithinO _ s (execIdleDelayExpiry s))
  | .wakeEvent src => (within_execWakeEvent : WithinO _ s (execWakeEvent src s))
  | .parkStart => (within_execParkStart : WithinO _ s (execParkStart s))
  | .parkLateWake src => (within_execParkLateWake : WithinO _ s (execParkLateWake src s))
  | .parkComplete => (within_execParkComplete : WithinO _ s (execParkComplete s))
  | .crawlP10Off => (within_execCrawlP10Off : WithinO _ s (execCrawlP10Off s))
  | .clockFailure d bad err => (within_execClockFailure : WithinO _ s (execClockFailure d bad err s))
  | .cellMeasure vcell vcap => (within_execCellMeasure : WithinO _ s (execCellMeasure vcell vcap s))
  | .clockMeasureDone hz => (within_execClockMeasureDone : WithinO _ s (execClockMeasureDone hz s))
  | .selfTestStepPass k => (within_execSelfTestStepPass : WithinO _ s (execSelfTestStepPass k s))
  | .selfTestStepFail k code detail => (within_execSelfTestStepFail : WithinO _ s (execSelfTestStepFail k code detail s))
  | .lpddr5WipeDone bad bgBad => (within_execLpddr5WipeDone : WithinO _ s (execLpddr5WipeDone bad bgBad s))
  | .hostStart a b => (within_execHostStart : WithinO _ s (execHostStart a b s))
  | .hostRdyWrite src val => (within_execHostRdyWrite_only : WithinO _ s (execHostRdyWrite src val s))
  | .hostRdyTimeout => (within_execHostRdyTimeout : WithinO _ s (execHostRdyTimeout s))
  | .refugeMonitorPowerOn => (within_execRefugeMonitorPowerOn : WithinO _ s (execRefugeMonitorPowerOn s))
  | .galleryDeferredTest b bad => (within_execGalleryDeferredTest : WithinO _ s (execGalleryDeferredTest b bad s))
  | .bootConfirmWrite src val => (within_execBootConfirmWrite_only : WithinO _ s (execBootConfirmWrite src val s))
  | .refugeAnnounce cfgOk => (within_execRefugeAnnounce : WithinO _ s (execRefugeAnnounce cfgOk s))
  | .lcWipesDone mramBad nandBad => (within_execLcWipesDone : WithinO _ s (execLcWipesDone mramBad nandBad s))
  | .rstReqWrite src val => (within_execRstReqWrite : WithinO _ s (execRstReqWrite src val s))
  | .hostWdKickWrite src val => (within_execHostWdKickWrite_only : WithinO _ s (execHostWdKickWrite src val s))
  | .hostWdExpiry => (within_execHostWdExpiry : WithinO _ s (execHostWdExpiry s))
  | .wdRestartDue => (within_execWdRestartDue : WithinO _ s (execWdRestartDue s))
  | .traverseUpdate samples demand => (within_execTraverseUpdate : WithinO _ s (execTraverseUpdate samples demand s))
  | .torqueRampEnd n => (within_execTorqueRampEnd : WithinO _ s (execTorqueRampEnd n s))
  | .holdReductionStart n => (within_execHoldReductionStart : WithinO _ s (execHoldReductionStart n s))
  | .axPush src n => (within_execAxPush_only : WithinO _ s (execAxPush src n s))
  | .axStop src n => (within_execAxStop_only : WithinO _ s (execAxStop src n s))
  | .axFlush src n => (within_execAxFlush_only : WithinO _ s (execAxFlush src n s))
  | .axReverse src n => (within_execAxReverse_only : WithinO _ s (execAxReverse src n s))
  | .prfCommit src n val => (within_execPrfCommit_only : WithinO _ s (execPrfCommit src n val s))
  | .trvGoWrite src val => (within_execTrvGoWrite_only : WithinO _ s (execTrvGoWrite src val s))
  | .torqueReqWrite src n val => (within_execTorqueReqWrite_only : WithinO _ s (execTorqueReqWrite src n val s))
  | .axModeWrite src n val => (within_execAxModeWrite_only : WithinO _ s (execAxModeWrite src n val s))
  | .axEnWrite src pg val => (within_execAxEnWrite_only : WithinO _ s (execAxEnWrite src pg val s))
  | .torqueRemoval n => (within_execTorqueRemoval : WithinO _ s (execTorqueRemoval n s))
  | .tblCrcUpdate t => (within_execTblCrcUpdate : WithinO _ s (execTblCrcUpdate t s))
  | .cstepEdge n cdir tc => (within_execCstepEdge : WithinO _ s (execCstepEdge n cdir tc s))
  | .encoderLost n => (within_execEncoderLost : WithinO _ s (execEncoderLost n s))
  | .deviationDecision n => (within_execDeviationDecision : WithinO _ s (execDeviationDecision n s))
  | .switchAccepted n opened => (within_execSwitchAccepted : WithinO _ s (execSwitchAccepted n opened s))
  | .home src n => (within_execHome_only : WithinO _ s (execHome src n s))
  | .hardStopFound n => (within_execHardStopFound : WithinO _ s (execHardStopFound n s))
  | .learn src n => (within_execLearn_only : WithinO _ s (execLearn src n s))
  | .learnAbort src n => (within_execLearnAbort_only : WithinO _ s (execLearnAbort src n s))
  | .forceTrip n => (within_execForceTrip : WithinO _ s (execForceTrip n s))
  | .reversalRequest n => (within_execReversalRequest : WithinO _ s (execReversalRequest n s))
  | .sqzChange n => (within_execSqzChange : WithinO _ s (execSqzChange n s))
  | .stepOut src n => (within_execStepOut_only : WithinO _ s (execStepOut src n s))
  | .gapMmReceived n gap valid us => (within_execGapMmReceived : WithinO _ s (execGapMmReceived n gap valid us s))
  | .gapStale n => (within_execGapStale : WithinO _ s (execGapStale n s))
  | .headPresent h mw v => (within_execHeadPresent : WithinO _ s (execHeadPresent h mw v s))
  | .headLinkReady h => (within_execHeadLinkReady : WithinO _ s (execHeadLinkReady h s))
  | .linkReadyTimeout h => (within_execLinkReadyTimeout : WithinO _ s (execLinkReadyTimeout h s))
  | .linkTrainDone h gear => (within_execLinkTrainDone : WithinO _ s (execLinkTrainDone h gear s))
  | .identDone h id fmtOk => (within_execIdentDone : WithinO _ s (execIdentDone h id fmtOk s))
  | .calibReadDone h rd => (within_execCalibReadDone : WithinO _ s (execCalibReadDone h rd s))
  | .headLinkLoss h gone => (within_execHeadLinkLoss : WithinO _ s (execHeadLinkLoss h gone s))
  | .portFaultWaitEnd h => (within_execPortFaultWaitEnd : WithinO _ s (execPortFaultWaitEnd h s))
  | .retrain src h => (within_execRetrain_only : WithinO _ s (execRetrain src h s))
  | .recal src h => (within_execRecal_only : WithinO _ s (execRecal src h s))
  | .headPowerTrip h => (within_execHeadPowerTrip : WithinO _ s (execHeadPowerTrip h s))
  | .headPowerRetry h => (within_execHeadPowerRetry : WithinO _ s (execHeadPowerRetry h s))
  | .headBudgetShed mw => (within_execHeadBudgetShed : WithinO _ s (execHeadBudgetShed mw s))
  | .headShedRestore h mw => (within_execHeadShedRestore : WithinO _ s (execHeadShedRestore h mw s))
  | .frameTrigger h us => (within_execFrameTrigger : WithinO _ s (execFrameTrigger h us s))
  | .frameLineRx h num line us crcOk pixels => (within_execFrameLineRx : WithinO _ s (execFrameLineRx h num line us crcOk pixels s))
  | .frameStale h => (within_execFrameStale : WithinO _ s (execFrameStale h s))
  | .frameProcessed h us targets => (within_execFrameProcessed : WithinO _ s (execFrameProcessed h us targets s))
  | .glowwormDecision h us => (within_execGlowwormDecision : WithinO _ s (execGlowwormDecision h us s))
  | .glowwormSilence h => (within_execGlowwormSilence : WithinO _ s (execGlowwormSilence h s))
  | .poseWrite src h k val => (within_execPoseWrite : WithinO _ s (execPoseWrite src h k val s))
  | .bgLearn src n => (within_execBgLearn_only : WithinO _ s (execBgLearn src n s))
  | .bgAbort src n => (within_execBgAbort_only : WithinO _ s (execBgAbort src n s))
  | .bgLearnDone n => (within_execBgLearnDone : WithinO _ s (execBgLearnDone n s))
  | .lqAck src h => (within_execLqAck_only : WithinO _ s (execLqAck src h s))
  | .recordAtSafety h => (within_execRecordAtSafety : WithinO _ s (execRecordAtSafety h s))
  | .visionStale h => (within_execVisionStale : WithinO _ s (execVisionStale h s))
  | .burstReqHoldEnd n => (within_execBurstReqHoldEnd : WithinO _ s (execBurstReqHoldEnd n s))
  | .thinAdclHoldEnd n => (within_execThinAdclHoldEnd : WithinO _ s (execThinAdclHoldEnd n s))
  | .cycReqWrite src n val => (within_execCycReqWrite_only : WithinO _ s (execCycReqWrite src n val s))
  | .cycleTick => (within_execCycleTick : WithinO _ s (execCycleTick s))
  | .supervisionTimeout n => (within_execSupervisionTimeout : WithinO _ s (execSupervisionTimeout n s))
  | .dwellDoneSet n => (within_execDwellDoneSet : WithinO _ s (execDwellDoneSet n s))
  | .pauseDoneSet n => (within_execPauseDoneSet : WithinO _ s (execPauseDoneSet n s))
  | .recoverSettle n => (within_execRecoverSettle : WithinO _ s (execRecoverSettle n s))
  | .sealSample aSaf aCol bSaf bCol => (within_execSealSample : WithinO _ s (execSealSample aSaf aCol bSaf bCol s))
  | .sealPoleDisagree k => (within_execSealPoleDisagree : WithinO _ s (execSealPoleDisagree k s))
  | .sealChange k => (within_execSealChange : WithinO _ s (execSealChange k s))
  | .inputAccepted ch j lv => (within_execInputAccepted : WithinO _ s (execInputAccepted ch j lv s))
  | .channelExchange => (within_execChannelExchange : WithinO _ s (execChannelExchange s))
  | .inputDiscLatch j => (within_execInputDiscLatch : WithinO _ s (execInputDiscLatch j s))
  | .pairDiscrepancyLatch ch p => (within_execPairDiscrepancyLatch : WithinO _ s (execPairDiscrepancyLatch ch p s))
  | .twoHandButtonFault ch b => (within_execTwoHandButtonFault : WithinO _ s (execTwoHandButtonFault ch b s))
  | .twoHandWindowExpiry ch => (within_execTwoHandWindowExpiry : WithinO _ s (execTwoHandWindowExpiry ch s))
  | .heartbeatLost lost => (within_execHeartbeatLost : WithinO _ s (execHeartbeatLost lost s))
  | .reversalWatchFail n => (within_execReversalWatchFail : WithinO _ s (execReversalWatchFail n s))
  | .guidedContactFault b => (within_execGuidedContactFault : WithinO _ s (execGuidedContactFault b s))
  | .edmCheckFail ch b => (within_execEdmCheckFail : WithinO _ s (execEdmCheckFail ch b s))
  | .resetRelease ch inactiveMs pressMs => (within_execResetRelease : WithinO _ s (execResetRelease ch inactiveMs pressMs s))
  | .resetStuck ch => (within_execResetStuck : WithinO _ s (execResetStuck ch s))
  | .spPeriodicTestFail sram detail => (within_execSpPeriodicTestFail : WithinO _ s (execSpPeriodicTestFail sram detail s))
  | .mirrorCheck => (within_execMirrorCheck : WithinO _ s (execMirrorCheck s))
  | .testDueSet => (within_execTestDueSet : WithinO _ s (execTestDueSet s))
  | .safeCopyRx can bytes => (within_execSafeCopyRx : WithinO _ s (execSafeCopyRx can bytes s))
  | .pairTimeout t => (within_execPairTimeout : WithinO _ s (execPairTimeout t s))
  | .permissiveLapse t => (within_execPermissiveLapse : WithinO _ s (execPermissiveLapse t s))
  | .streamUnsync t => (within_execStreamUnsync : WithinO _ s (execStreamUnsync t s))
  | .networkLost can => (within_execNetworkLost : WithinO _ s (execNetworkLost can s))
  | .netRestrEnd => (within_execNetRestrEnd : WithinO _ s (execNetRestrEnd s))
  | .doorStatusSend => (within_execDoorStatusSend : WithinO _ s (execDoorStatusSend s))
  | .gcOnWrite src hi val => (within_execGcOnWrite_only : WithinO _ s (execGcOnWrite src hi val s))
  | .followWrite src c val => (within_execFollowWrite_only : WithinO _ s (execFollowWrite src c val s))
  | .directEdge p active => (within_execDirectEdge : WithinO _ s (execDirectEdge p active s))
  | .ocTrip c ma => (within_execOcTrip : WithinO _ s (execOcTrip c ma s))
  | .retryBackoffEnd c => (within_execRetryBackoffEnd : WithinO _ s (execRetryBackoffEnd c s))
  | .retryNReset c => (within_execRetryNReset : WithinO _ s (execRetryNReset c s))
  | .commandOffSettled c => (within_execCommandOffSettled : WithinO _ s (execCommandOffSettled c s))
  | .inrushWindowEnd c => (within_execInrushWindowEnd : WithinO _ s (execInrushWindowEnd c s))
  | .thermalLatch c dt tj => (within_execThermalLatch : WithinO _ s (execThermalLatch c dt tj s))
  | .thermalLatchClear c dt tj => (within_execThermalLatchClear : WithinO _ s (execThermalLatchClear c dt tj s))
  | .clampUnlock src val => (within_execClampUnlock_only : WithinO _ s (execClampUnlock src val s))
  | .crawlClampUnlock c => (within_execCrawlClampUnlock : WithinO _ s (execCrawlClampUnlock c s))
  | .shedStep b now mean => (within_execShedStep : WithinO _ s (execShedStep b now mean s))
  | .shedRestoreStep b now mean => (within_execShedRestoreStep : WithinO _ s (execShedRestoreStep b now mean s))
  | .gateCutBitClear n => (within_execGateCutBitClear : WithinO _ s (execGateCutBitClear n s))
  | .crawlEnFilterAccept active => (within_execCrawlEnFilterAccept : WithinO _ s (execCrawlEnFilterAccept active s))
  | .crawlMapWrite src k val => (within_execCrawlMapWrite_only : WithinO _ s (execCrawlMapWrite src k val s))
  | .bankOvervoltage b => (within_execBankOvervoltage : WithinO _ s (execBankOvervoltage b s))
  | .bankReverse b => (within_execBankReverse : WithinO _ s (execBankReverse b s))
  | .bankGroundLoss b => (within_execBankGroundLoss : WithinO _ s (execBankGroundLoss b s))
  | .bankReturn b => (within_execBankReturn : WithinO _ s (execBankReturn b s))
  | .bankChannelRestore b => (within_execBankChannelRestore : WithinO _ s (execBankChannelRestore b s))
  | .bankSwitchFault c => (within_execBankSwitchFault : WithinO _ s (execBankSwitchFault c s))
  | .barrierLoss => (within_execBarrierLoss : WithinO _ s (execBarrierLoss s))
  | .barrierReturn => (within_execBarrierReturn : WithinO _ s (execBarrierReturn s))
  | .fiAccepted j dv => (within_execFiAccepted : WithinO _ s (execFiAccepted j dv s))
  | .foOutWrite src val => (within_execFoOutWrite_only : WithinO _ s (execFoOutWrite src val s))
  | .thrWrite src val => (within_execThrWrite_only : WithinO _ s (execThrWrite src val s))
  | .foCurrentLimit n => (within_execFoCurrentLimit : WithinO _ s (execFoCurrentLimit n s))
  | .foThermalShutdown n => (within_execFoThermalShutdown : WithinO _ s (execFoThermalShutdown n s))
  | .foThermalRestart n => (within_execFoThermalRestart : WithinO _ s (execFoThermalRestart n s))
  | .fioFaultClear => (within_execFioFaultClear : WithinO _ s (execFioFaultClear s))
  | .canFrameRx n f us => (within_execCanFrameRx : WithinO _ s (execCanFrameRx n f us s))
  | .canTxPush src n j => (within_execCanTxPush_only : WithinO _ s (execCanTxPush src n j s))
  | .canTxCancel src n j => (within_execCanTxCancel_only : WithinO _ s (execCanTxCancel src n j s))
  | .canTxRelease src n j => (within_execCanTxRelease_only : WithinO _ s (execCanTxRelease src n j s))
  | .canRxAck src n k => (within_execCanRxAck_only : WithinO _ s (execCanRxAck src n k s))
  | .canHpbRelease src n h => (within_execCanHpbRelease_only : WithinO _ s (execCanHpbRelease src n h s))
  | .canTxStart n a => (within_execCanTxStart : WithinO _ s (execCanTxStart n a s))
  | .canTxComplete n us tdc => (within_execCanTxComplete : WithinO _ s (execCanTxComplete n us tdc s))
  | .canBusError n kind tx big => (within_execCanBusError : WithinO _ s (execCanBusError n kind tx big s))
  | .canRecover src n => (within_execCanRecover_only : WithinO _ s (execCanRecover src n s))
  | .canRecoveryDone n => (within_execCanRecoveryDone : WithinO _ s (execCanRecoveryDone n s))
  | .lpReqWrite src n b => (within_execLpReqWrite_only : WithinO _ s (execLpReqWrite src n b s))
  | .canSleepEnter n => (within_execCanSleepEnter : WithinO _ s (execCanSleepEnter n s))
  | .canLocalWake n src => (within_execCanLocalWake : WithinO _ s (execCanLocalWake n src s))
  | .canEnWrite src n b => (within_execCanEnWrite_only : WithinO _ s (execCanEnWrite src n b s))
  | .safeCanConfigure => (within_execSafeCanConfigure : WithinO _ s (execSafeCanConfigure s))
  | .ecnFrameRx port f buf full => (within_execEcnFrameRx : WithinO _ s (execEcnFrameRx port f buf full s))
  | .ecnTailWrite src k val => (within_execEcnTailWrite_only : WithinO _ s (execEcnTailWrite src k val s))
  | .ecnFrameTx frame full => (within_execEcnFrameTx : WithinO _ s (execEcnFrameTx frame full s))
  | .bypassRelayChange => (within_execBypassRelayChange : WithinO _ s (execBypassRelayChange s))
  | .ecnLinkChange port up gig => (within_execEcnLinkChange : WithinO _ s (execEcnLinkChange port up gig s))
  | .mvbMasterFrame ask a b => (within_execMvbMasterFrame : WithinO _ s (execMvbMasterFrame ask a b s))
  | .mvbSlaveFrame addr data a b => (within_execMvbSlaveFrame : WithinO _ s (execMvbSlaveFrame addr data a b s))
  | .mvbLineFault line => (within_execMvbLineFault : WithinO _ s (execMvbLineFault line s))
  | .mvbPortStale k => (within_execMvbPortStale : WithinO _ s (execMvbPortStale k s))
  | .mvbSinkWord0Read k => (within_execMvbSinkWord0Read : WithinO _ s (execMvbSinkWord0Read k s))
  | .lglPoll => (within_execLglPoll : WithinO _ s (execLglPoll s))
  | .lglReplyRx bytes parityOk => (within_execLglReplyRx : WithinO _ s (execLglReplyRx bytes parityOk s))
  | .lglReplyTimeout => (within_execLglReplyTimeout : WithinO _ s (execLglReplyTimeout s))
  | .lglSendBuffer src val => (within_execLglSendBuffer_only : WithinO _ s (execLglSendBuffer src val s))
  | .lglSlaveReply bytes parityOk => (within_execLglSlaveReply : WithinO _ s (execLglSlaveReply bytes parityOk s))
  | .dvrMessageRx f malformed => (within_execDvrMessageRx : WithinO _ s (execDvrMessageRx f malformed s))
  | .announceSend => (within_execAnnounceSend : WithinO _ s (execAnnounceSend s))
  | .announceRx c unit payload => (within_execAnnounceRx : WithinO _ s (execAnnounceRx c unit payload s))
  | .consistRx payload => (within_execConsistRx : WithinO _ s (execConsistRx payload s))
  | .partnerLost k => (within_execPartnerLost : WithinO _ s (execPartnerLost k s))
  | .carrierTimeout k c => (within_execCarrierTimeout : WithinO _ s (execCarrierTimeout k c s))
  | .tcmsLost => (within_execTcmsLost : WithinO _ s (execTcmsLost s))
  | .slotHoldExpiry k => (within_execSlotHoldExpiry : WithinO _ s (execSlotHoldExpiry k s))
  | .expectedMissing k => (within_execExpectedMissing : WithinO _ s (execExpectedMissing k s))
  | .doorInfoSend => (within_execDoorInfoSend : WithinO _ s (execDoorInfoSend s))
  | .recordSeal cycle bad => (within_execRecordSeal : WithinO _ s (execRecordSeal cycle bad s))
  | .archivePageCopy a res => (within_execArchivePageCopy : WithinO _ s (execArchivePageCopy a res s))
  | .traceSample n => (within_execTraceSample : WithinO _ s (execTraceSample n s))
  | .clipComplete n => (within_execClipComplete : WithinO _ s (execClipComplete n s))
  | .snapshotTimer => (within_execSnapshotTimer : WithinO _ s (execSnapshotTimer s))
  | .snap src => (within_execSnap_only : WithinO _ s (execSnap src s))
  | .hev src => (within_execHev_only : WithinO _ s (execHev src s))
  | .find src => (within_execFind_only : WithinO _ s (execFind src s))
  | .findDone => (within_execFindDone : WithinO _ s (execFindDone s))
  | .rdClassWrite src val => (within_execRdClassWrite_only : WithinO _ s (execRdClassWrite src val s))
  | .expStart src => (within_execExpStart_only : WithinO _ s (execExpStart src s))
  | .expAbort src => (within_execExpAbort_only : WithinO _ s (execExpAbort src s))
  | .expAckWrite src val => (within_execExpAckWrite_only : WithinO _ s (execExpAckWrite src val s))
  | .flowRecovery agree torn crcBad => (within_execFlowRecovery : WithinO _ s (execFlowRecovery agree torn crcBad s))
  | .nandPowerOff => (within_execNandPowerOff : WithinO _ s (execNandPowerOff s))
  | .nandOnlyFlush res => (within_execNandOnlyFlush : WithinO _ s (execNandOnlyFlush res s))
  | .recorderSend => (within_execRecorderSend : WithinO _ s (execRecorderSend s))
  | .tcUpdate temp => (within_execTcUpdate : WithinO _ s (execTcUpdate temp s))
  | .tickCheckpoint => (within_execTickCheckpoint : WithinO _ s (execTickCheckpoint s))
  | .backupLoss => (within_execBackupLoss : WithinO _ s (execBackupLoss s))
  | .setCmdWrite val => (within_execSetCmdWrite : WithinO _ s (execSetCmdWrite val s))
  | .calendarSetApply => (within_execCalendarSetApply : WithinO _ s (execCalendarSetApply s))
  | .almDlySWrite val => (within_execAlmDlySWrite : WithinO _ s (execAlmDlySWrite val s))
  | .alarmConfigWrite w val => (within_execAlarmConfigWrite : WithinO _ s (execAlarmConfigWrite w val s))
  | .calAlarmFire => (within_execCalAlarmFire : WithinO _ s (execCalAlarmFire s))
  | .dlyAlarmFire => (within_execDlyAlarmFire : WithinO _ s (execDlyAlarmFire s))
  | .slatiLineError => (within_execSlatiLineError : WithinO _ s (execSlatiLineError s))
  | .slatiHello => (within_execSlatiHello : WithinO _ s (execSlatiHello s))
  | .slatiVer v => (within_execSlatiVer : WithinO _ s (execSlatiVer v s))
  | .slatiBaud rate => (within_execSlatiBaud : WithinO _ s (execSlatiBaud rate s))
  | .baudRevert => (within_execBaudRevert : WithinO _ s (execBaudRevert s))
  | .slatiBreak active => (within_execSlatiBreak : WithinO _ s (execSlatiBreak active s))
  | .slatiLogin role => (within_execSlatiLogin : WithinO _ s (execSlatiLogin role s))
  | .slatiResp resp => (within_execSlatiResp : WithinO _ s (execSlatiResp resp s))
  | .nonceExpiry => (within_execNonceExpiry : WithinO _ s (execNonceExpiry s))
  | .lockoutEnd => (within_execLockoutEnd : WithinO _ s (execLockoutEnd s))
  | .slatiLogout => (within_execSlatiLogout : WithinO _ s (execSlatiLogout s))
  | .sessionTimeout => (within_execSessionTimeout : WithinO _ s (execSessionTimeout s))
  | .slatiId => (within_execSlatiId : WithinO _ s (execSlatiId s))
  | .slatiStatus => (within_execSlatiStatus : WithinO _ s (execSlatiStatus s))
  | .slatiCairn => (within_execSlatiCairn : WithinO _ s (execSlatiCairn s))
  | .slatiRd pg off n => (within_execSlatiRd : WithinO _ s (execSlatiRd pg off n s))
  | .slatiRdi pg sp addr n => (within_execSlatiRdi : WithinO _ s (execSlatiRdi pg sp addr n s))
  | .slatiWr pg off val => (within_execSlatiWr : WithinO _ s (execSlatiWr pg off val s))
  | .slatiWri pg sp addr val => (within_execSlatiWri : WithinO _ s (execSlatiWri pg sp addr val s))
  | .slatiClock y m d h mi sec => (within_execSlatiClock : WithinO _ s (execSlatiClock y m d h mi sec s))
  | .slatiRestart => (within_execSlatiRestart : WithinO _ s (execSlatiRestart s))
  | .slatiHold => (within_execSlatiHold : WithinO _ s (execSlatiHold s))
  | .slatiExport => (within_execSlatiExport : WithinO _ s (execSlatiExport s))
  | .slatiAck k crc => (within_execSlatiAck : WithinO _ s (execSlatiAck k crc s))
  | .slatiExpabort => (within_execSlatiExpabort : WithinO _ s (execSlatiExpabort s))
  | .slatiMon tp cls idx => (within_execSlatiMon : WithinO _ s (execSlatiMon tp cls idx s))
  | .slatiTest t => (within_execSlatiTest : WithinO _ s (execSlatiTest t s))
  | .testComplete pass v1 v2 elOfs => (within_execTestComplete : WithinO _ s (execTestComplete pass v1 v2 elOfs s))
  | .slatiStop => (within_execSlatiStop : WithinO _ s (execSlatiStop s))
  | .slatiParamRd => (within_execSlatiParamRd : WithinO _ s (execSlatiParamRd s))
  | .slatiParamWr off val => (within_execSlatiParamWr : WithinO _ s (execSlatiParamWr off val s))
  | .slatiParamCommit => (within_execSlatiParamCommit : WithinO _ s (execSlatiParamCommit s))
  | .slatiTcfgRd => (within_execSlatiTcfgRd : WithinO _ s (execSlatiTcfgRd s))
  | .slatiTcfgWr off val => (within_execSlatiTcfgWr : WithinO _ s (execSlatiTcfgWr off val s))
  | .slatiTcfgCommit => (within_execSlatiTcfgCommit : WithinO _ s (execSlatiTcfgCommit s))
  | .slatiLc new => (within_execSlatiLc : WithinO _ s (execSlatiLc new s))
  | .tpSelWrite src tp val => (within_execTpSelWrite : WithinO _ s (execTpSelWrite src tp val s))
  | .columnCheckFail gates detail => (within_execColumnCheckFail : WithinO _ s (execColumnCheckFail gates detail s))
  | .encoderRestored n => (within_execEncoderRestored : WithinO _ s (execEncoderRestored n s))

end Sys2Proof.Machine
end

