-- ==== Sys2Proof/Laws/Changes.lean ====
section
/-! SUPPORT. From masks to names: a mask that a row of Changes.lean covers makes its frame. -/

set_option Elab.async false

namespace Sys2Proof.Machine

/-- Whether the names listed hold every instance of family `i`. -/
def famCovered (l : List (Nat → Reg)) (i : Nat) : Bool :=
  l.any fun f => (List.range (famAt i).count).all fun n =>
    Nat.beq (f n).key (((famAt i).base + n * (famAt i).stride) * 32 + (famAt i).lo)

/-- Whether every field a mask names is listed; bit 0 of the mask is family `j`. -/
def fieldsCovered (l : List (Nat → Reg)) : Nat → Nat → Nat → Bool
  | 0, _, _ => true
  | n + 1, j, m => (Nat.beq (m % 2) 0 || famCovered l j) && fieldsCovered l n (j + 1) (m / 2)

def partBit : Part → Nat
  | .tick => 0
  | .fixed => 1
  | .stage => 2
  | .inds => 3
  | .deferred => 4
  | .rdata => 6
  | .scrubLog => 7
  | .freeCtr => 8
  | .pwr => 9
  | .axes => 10
  | .gal => 11
  | .saf => 12
  | .doors => 13
  | .voteBad => 14
  | .fq0 => 15
  | .heads => 16
  | .ingest => 17
  | .drip => 18
  | .flow => 19
  | .fio => 20
  | .cans => 21
  | .nets => 22
  | .echo => 23
  | .dst => 24
  | .svc => 25

def allParts : List Part := [.tick, .fixed, .stage, .inds, .deferred, .rdata, .scrubLog, .freeCtr, .pwr, .axes, .gal, .saf, .doors, .voteBad, .fq0, .heads, .ingest, .drip, .flow, .fio, .cans, .nets, .echo, .dst, .svc]

def partsCovered (l : List Part) (m : Nat) : Bool := allParts.all fun p => !m.testBit (partBit p) || l.contains p

def spacesCovered (l : List Space) (m : Nat) : Bool :=
  (!m.testBit 5 || (List.range 16).all fun k => l.any fun q => Nat.beq q.first 0 && Nat.ble 256 q.count && Nat.beq q.space k) &&
  (List.range memTable.length).all fun j => !m.testBit (1056 + j) || (List.range (memAt j).count).all fun n =>
    l.any fun q => Nat.ble q.first ((memAt j).base + n) && Nat.blt ((memAt j).base + n) (q.first + q.count) && Nat.beq q.space (memAt j).sp

/-- Whether a row of changes covers a mask. -/
def covered (c : Changes) (m : Nat) : Bool :=
  !m.testBit 31 && fieldsCovered c.fields 1024 0 (m / 2 ^ 32) && partsCovered c.parts m && spacesCovered c.spaces m

theorem named_of_famCovered {l : List (Nat → Reg)} {i : Nat} {r : Reg} (h : famCovered l i = true) (hk : (famAt i).has r.key) :
    named l r := by
  obtain ⟨n, hn, hk⟩ := hk
  simp only [famCovered, List.any_eq_true, List.all_eq_true, List.mem_range] at h
  obtain ⟨f, hf, h⟩ := h
  exact ⟨f, hf, n, by rw [hk]; exact Nat.eq_of_beq_eq_true (h n hn)⟩

theorem named_of_fieldsCovered {l : List (Nat → Reg)} {r : Reg} : ∀ {n j m : Nat}, fieldsCovered l n j m = true →
    ∀ i, i < n → m.testBit i = true → (famAt (j + i)).has r.key → named l r
  | 0, _, _, _, i, hi, _, _ => absurd hi (Nat.not_lt_zero i)
  | n + 1, j, m, h, i, hi, hm, hk => by
    simp only [fieldsCovered, Bool.and_eq_true, Bool.or_eq_true] at h
    cases i with
    | zero =>
      rcases h.1 with h1 | h1
      · have h2 : m % 2 = 0 := Nat.eq_of_beq_eq_true h1
        rw [Nat.testBit_zero] at hm
        simp [h2] at hm
      · exact named_of_famCovered h1 hk
    | succ i =>
      rw [Nat.testBit_succ] at hm
      exact named_of_fieldsCovered h.2 i (by omega) hm (by rwa [show j + 1 + i = j + (i + 1) from by omega])

theorem not_inMem_of_covered {l : List Space} {m pg sp k : Nat} (h : spacesCovered l m = true) (hp : pg < 256) (hs : sp < 16)
    (hk : k / 2 ^ 32 = pg * 16 + sp) (hq : ∀ q ∈ l, ¬ q.has pg sp) : ¬ InMem m k := by
  simp only [spacesCovered, Bool.and_eq_true, Bool.or_eq_true, Bool.not_eq_true', List.all_eq_true, List.mem_range, List.any_eq_true] at h
  rintro (h5 | ⟨j, hj, n, hn, hq'⟩)
  · rcases h.1 with h1 | h1
    · rw [h5] at h1; cases h1
    · obtain ⟨q, hql, h2⟩ := h1 sp hs
      have e1 := Nat.eq_of_beq_eq_true h2.1.1
      have e2 := Nat.le_of_ble_eq_true h2.1.2
      have e3 := Nat.eq_of_beq_eq_true h2.2
      exact hq q hql ⟨by omega, by omega, e3.symm⟩
  · by_cases hl : j < memTable.length
    · rcases h.2 j hl with h1 | h1
      · rw [hj] at h1; cases h1
      · obtain ⟨q, hql, h2⟩ := h1 n hn
        have e1 := Nat.le_of_ble_eq_true h2.1.1
        have e2 : (memAt j).base + n < q.first + q.count := Nat.le_of_ble_eq_true h2.1.2
        have e3 := Nat.eq_of_beq_eq_true h2.2
        have hsp : ∀ j, j < memTable.length → (memAt j).sp < 16 := by decide +kernel
        have := hsp j hl
        rw [hk] at hq'
        exact hq q hql ⟨by omega, by omega, by omega⟩
    · have : memAt j = ⟨0, 0, 0⟩ := by
        unfold memAt
        rw [List.getD_eq_getElem?_getD, List.getElem?_eq_none (by omega)]; rfl
      rw [this] at hn
      exact Nat.not_lt_zero n hn

/-- A state within a mask that a row covers is unchanged but for the row. -/
theorem Unchanged.of_within {c : Changes} {m : Nat} {s t : State} (hc : covered c m = true) (h : Within m s t) : Unchanged c s t := by
  simp only [covered, Bool.and_eq_true, Bool.not_eq_true'] at hc
  obtain ⟨⟨⟨ha, hf⟩, hp⟩, hs⟩ := hc
  refine ⟨h.member, h.pending, fun r hr => ?_, fun p hp' => ?_, fun pg sp a hpg hsp hq => ?_⟩
  · have : ¬ InRegs m r.key := by
      rintro (h1 | ⟨i, hi, hk⟩)
      · rw [ha] at h1; cases h1
      · by_cases hb : i < 1024
        · exact hr (named_of_fieldsCovered hf i hb (by rw [Nat.testBit_div_two_pow]; rwa [Nat.add_comm]) (by rwa [Nat.zero_add]))
        · exact famAt_empty (by omega) _ hk
    simp only [State.get, h.regs _ _ this]
  · have hb : m.testBit (partBit p) = false := by
      simp only [partsCovered, List.all_eq_true, Bool.or_eq_true, Bool.not_eq_true'] at hp
      rcases hp p (by cases p <;> decide) with h1 | h1
      · exact h1
      · exact absurd (List.contains_iff_mem.mp h1) hp'
    cases p <;> first | exact h.tick hb | exact h.fixed hb | exact h.stage hb | exact h.inds hb | exact h.deferred hb | exact h.rdata hb | exact h.scrubLog hb | exact h.freeCtr hb | exact h.pwr hb | exact h.axes hb | exact h.gal hb | exact h.saf hb | exact h.doors hb | exact h.voteBad hb | exact h.fq0 hb | exact h.heads hb | exact h.ingest hb | exact h.drip hb | exact h.flow hb | exact h.fio hb | exact h.cans hb | exact h.nets hb | exact h.echo hb | exact h.dst hb | exact h.svc hb
  · simp only [State.rd8, h.mem _ _ (not_inMem_of_covered hs hpg hsp (memKey_space pg sp a) hq)]

end Sys2Proof.Machine
end

