-- ==== Sys2Proof/Laws/Results.lean ====
section
/-! SUPPORT. What a command that writes one register comes to where the block hears it, and reading a state through the counting
of a write and through the writes of other fields. -/

set_option Elab.async false

namespace Sys2Proof.Machine

variable {s : State}

/-- A field counted elsewhere keeps its value. -/
theorem get_count_other {r q : Reg} (h : r.key ≠ q.key) : (s.count r).get q = s.get q := State.get_set_other s h _

theorem get_setB_other {r q : Reg} (h : r.key ≠ q.key) (b : Bool) : (s.setB r b).get q = s.get q := State.get_set_other s h _

theorem get_setS_other {r q : Reg} (h : r.key ≠ q.key) (x : Int) : (s.setS r x).get q = s.get q := State.get_set_other s h _

theorem get_setSat_other {r q : Reg} (h : r.key ≠ q.key) (v : Nat) : (s.setSat r v).get q = s.get q := State.get_set_other s h _

theorem get_setBit_other {r q : Reg} (h : r.key ≠ q.key) (n : Nat) (b : Bool) : (s.setBit r n b).get q = s.get q :=
  State.get_set_other s h _

/-- Whether a field is set, through the writes of other fields. -/
theorem on_of_get {t : State} {r : Reg} (h : t.get r = s.get r) : t.on r = s.on r := by simp only [State.on, h]

/-- A single-bit field just written. -/
theorem on_setB_self {r : Reg} (h : r.w ≠ 0) (b : Bool) : (s.setB r b).on r = b := by
  have h2 : 1 < 2 ^ r.w := Nat.one_lt_two_pow h
  cases b <;> simp [State.on, State.setB, bit1, Nat.mod_eq_of_lt h2]

theorem get_setB_self {r : Reg} (h : r.w ≠ 0) (b : Bool) : (s.setB r b).get r = bit1 b := by
  have h2 : 1 < 2 ^ r.w := Nat.one_lt_two_pow h
  cases b <;> simp [State.setB, bit1, Nat.mod_eq_of_lt h2]

/-- A field is below the end of its width. -/
theorem get_lt (s : State) (r : Reg) : s.get r < 2 ^ r.w := Nat.mod_lt _ (Nat.two_pow_pos _)

/-- A counter counts by one and stops at its largest value (R80). -/
theorem get_count_self (s : State) (r : Reg) : (s.count r).get r = min (s.get r + 1) (2 ^ r.w - 1) := by
  have h := Nat.two_pow_pos r.w
  simp only [State.count, State.countBy, State.setSat, State.get_set_self, sat]
  rw [Nat.mod_eq_of_lt (by omega)]

/-- The instances a member has follow the member alone. -/
theorem hasCh_congr {t : State} (h : t.member = s.member) (c : Nat) : t.hasCh c = s.hasCh c := by
  unfold State.hasCh State.nLight State.nHeavy; rw [h]

theorem hasDw_congr {t : State} (h : t.member = s.member) (n : Nat) : t.hasDw n = s.hasDw n := by
  unfold State.hasDw State.nD; rw [h]

theorem hasAx_congr {t : State} (h : t.member = s.member) (n : Nat) : t.hasAx n = s.hasAx n := by
  unfold State.hasAx State.nD State.nS; rw [h]

theorem hasHead_congr {t : State} (h : t.member = s.member) (n : Nat) : t.hasHead n = s.hasHead n := by
  unfold State.hasHead State.nH; rw [h]

@[simp] theorem hasCh_set (r : Reg) (v c : Nat) : (s.set r v).hasCh c = s.hasCh c := hasCh_congr rfl c
@[simp] theorem hasCh_setB (r : Reg) (b : Bool) (c : Nat) : (s.setB r b).hasCh c = s.hasCh c := hasCh_congr rfl c
@[simp] theorem hasDw_set (r : Reg) (v c : Nat) : (s.set r v).hasDw c = s.hasDw c := hasDw_congr rfl c
@[simp] theorem hasDw_setB (r : Reg) (b : Bool) (c : Nat) : (s.setB r b).hasDw c = s.hasDw c := hasDw_congr rfl c
@[simp] theorem hasAx_set (r : Reg) (v c : Nat) : (s.set r v).hasAx c = s.hasAx c := hasAx_congr rfl c
@[simp] theorem hasAx_setB (r : Reg) (b : Bool) (c : Nat) : (s.setB r b).hasAx c = s.hasAx c := hasAx_congr rfl c
@[simp] theorem hasHead_set (r : Reg) (v c : Nat) : (s.set r v).hasHead c = s.hasHead c := hasHead_congr rfl c
@[simp] theorem hasHead_setB (r : Reg) (b : Bool) (c : Nat) : (s.setB r b).hasHead c = s.hasHead c := hasHead_congr rfl c

/-- Counting a write changes the counter of its page only. -/
theorem get_counted {pg : Nat} {p : Wrote} {r : Reg} (h : (HDR.PG_ADJ_CNT pg).key ≠ r.key) : (counted pg p).get r = p.1.get r := by
  unfold counted
  split
  · exact get_count_other h
  · rfl

@[simp] theorem State.setB_member (r : Reg) (b : Bool) : (s.setB r b).member = s.member := rfl
@[simp] theorem State.setB_tick (r : Reg) (b : Bool) : (s.setB r b).tick = s.tick := rfl
@[simp] theorem State.setB_fixed (r : Reg) (b : Bool) : (s.setB r b).fixed = s.fixed := rfl
@[simp] theorem State.setB_stage (r : Reg) (b : Bool) : (s.setB r b).stage = s.stage := rfl
@[simp] theorem State.setB_inds (r : Reg) (b : Bool) : (s.setB r b).inds = s.inds := rfl
@[simp] theorem State.setB_deferred (r : Reg) (b : Bool) : (s.setB r b).deferred = s.deferred := rfl
@[simp] theorem State.setB_mem (r : Reg) (b : Bool) : (s.setB r b).mem = s.mem := rfl
@[simp] theorem State.setB_rdata (r : Reg) (b : Bool) : (s.setB r b).rdata = s.rdata := rfl
@[simp] theorem State.setB_scrubLog (r : Reg) (b : Bool) : (s.setB r b).scrubLog = s.scrubLog := rfl
@[simp] theorem State.setB_freeCtr (r : Reg) (b : Bool) : (s.setB r b).freeCtr = s.freeCtr := rfl
@[simp] theorem State.setB_pwr (r : Reg) (b : Bool) : (s.setB r b).pwr = s.pwr := rfl
@[simp] theorem State.setB_axes (r : Reg) (b : Bool) : (s.setB r b).axes = s.axes := rfl
@[simp] theorem State.setB_gal (r : Reg) (b : Bool) : (s.setB r b).gal = s.gal := rfl
@[simp] theorem State.setB_saf (r : Reg) (b : Bool) : (s.setB r b).saf = s.saf := rfl
@[simp] theorem State.setB_doors (r : Reg) (b : Bool) : (s.setB r b).doors = s.doors := rfl
@[simp] theorem State.setB_voteBad (r : Reg) (b : Bool) : (s.setB r b).voteBad = s.voteBad := rfl
@[simp] theorem State.setB_fq0 (r : Reg) (b : Bool) : (s.setB r b).fq0 = s.fq0 := rfl
@[simp] theorem State.setB_heads (r : Reg) (b : Bool) : (s.setB r b).heads = s.heads := rfl
@[simp] theorem State.setB_ingest (r : Reg) (b : Bool) : (s.setB r b).ingest = s.ingest := rfl
@[simp] theorem State.setB_drip (r : Reg) (b : Bool) : (s.setB r b).drip = s.drip := rfl
@[simp] theorem State.setB_flow (r : Reg) (b : Bool) : (s.setB r b).flow = s.flow := rfl
@[simp] theorem State.setB_fio (r : Reg) (b : Bool) : (s.setB r b).fio = s.fio := rfl
@[simp] theorem State.setB_cans (r : Reg) (b : Bool) : (s.setB r b).cans = s.cans := rfl
@[simp] theorem State.setB_nets (r : Reg) (b : Bool) : (s.setB r b).nets = s.nets := rfl
@[simp] theorem State.setB_echo (r : Reg) (b : Bool) : (s.setB r b).echo = s.echo := rfl
@[simp] theorem State.setB_dst (r : Reg) (b : Bool) : (s.setB r b).dst = s.dst := rfl
@[simp] theorem State.setB_svc (r : Reg) (b : Bool) : (s.setB r b).svc = s.svc := rfl
@[simp] theorem State.setB_pending (r : Reg) (b : Bool) : (s.setB r b).pending = s.pending := rfl
@[simp] theorem State.setS_member (r : Reg) (x : Int) : (s.setS r x).member = s.member := rfl
@[simp] theorem State.setS_tick (r : Reg) (x : Int) : (s.setS r x).tick = s.tick := rfl
@[simp] theorem State.setS_fixed (r : Reg) (x : Int) : (s.setS r x).fixed = s.fixed := rfl
@[simp] theorem State.setS_stage (r : Reg) (x : Int) : (s.setS r x).stage = s.stage := rfl
@[simp] theorem State.setS_inds (r : Reg) (x : Int) : (s.setS r x).inds = s.inds := rfl
@[simp] theorem State.setS_deferred (r : Reg) (x : Int) : (s.setS r x).deferred = s.deferred := rfl
@[simp] theorem State.setS_mem (r : Reg) (x : Int) : (s.setS r x).mem = s.mem := rfl
@[simp] theorem State.setS_rdata (r : Reg) (x : Int) : (s.setS r x).rdata = s.rdata := rfl
@[simp] theorem State.setS_scrubLog (r : Reg) (x : Int) : (s.setS r x).scrubLog = s.scrubLog := rfl
@[simp] theorem State.setS_freeCtr (r : Reg) (x : Int) : (s.setS r x).freeCtr = s.freeCtr := rfl
@[simp] theorem State.setS_pwr (r : Reg) (x : Int) : (s.setS r x).pwr = s.pwr := rfl
@[simp] theorem State.setS_axes (r : Reg) (x : Int) : (s.setS r x).axes = s.axes := rfl
@[simp] theorem State.setS_gal (r : Reg) (x : Int) : (s.setS r x).gal = s.gal := rfl
@[simp] theorem State.setS_saf (r : Reg) (x : Int) : (s.setS r x).saf = s.saf := rfl
@[simp] theorem State.setS_doors (r : Reg) (x : Int) : (s.setS r x).doors = s.doors := rfl
@[simp] theorem State.setS_voteBad (r : Reg) (x : Int) : (s.setS r x).voteBad = s.voteBad := rfl
@[simp] theorem State.setS_fq0 (r : Reg) (x : Int) : (s.setS r x).fq0 = s.fq0 := rfl
@[simp] theorem State.setS_heads (r : Reg) (x : Int) : (s.setS r x).heads = s.heads := rfl
@[simp] theorem State.setS_ingest (r : Reg) (x : Int) : (s.setS r x).ingest = s.ingest := rfl
@[simp] theorem State.setS_drip (r : Reg) (x : Int) : (s.setS r x).drip = s.drip := rfl
@[simp] theorem State.setS_flow (r : Reg) (x : Int) : (s.setS r x).flow = s.flow := rfl
@[simp] theorem State.setS_fio (r : Reg) (x : Int) : (s.setS r x).fio = s.fio := rfl
@[simp] theorem State.setS_cans (r : Reg) (x : Int) : (s.setS r x).cans = s.cans := rfl
@[simp] theorem State.setS_nets (r : Reg) (x : Int) : (s.setS r x).nets = s.nets := rfl
@[simp] theorem State.setS_echo (r : Reg) (x : Int) : (s.setS r x).echo = s.echo := rfl
@[simp] theorem State.setS_dst (r : Reg) (x : Int) : (s.setS r x).dst = s.dst := rfl
@[simp] theorem State.setS_svc (r : Reg) (x : Int) : (s.setS r x).svc = s.svc := rfl
@[simp] theorem State.setS_pending (r : Reg) (x : Int) : (s.setS r x).pending = s.pending := rfl
@[simp] theorem State.setSat_member (r : Reg) (v : Nat) : (s.setSat r v).member = s.member := rfl
@[simp] theorem State.setSat_tick (r : Reg) (v : Nat) : (s.setSat r v).tick = s.tick := rfl
@[simp] theorem State.setSat_fixed (r : Reg) (v : Nat) : (s.setSat r v).fixed = s.fixed := rfl
@[simp] theorem State.setSat_stage (r : Reg) (v : Nat) : (s.setSat r v).stage = s.stage := rfl
@[simp] theorem State.setSat_inds (r : Reg) (v : Nat) : (s.setSat r v).inds = s.inds := rfl
@[simp] theorem State.setSat_deferred (r : Reg) (v : Nat) : (s.setSat r v).deferred = s.deferred := rfl
@[simp] theorem State.setSat_mem (r : Reg) (v : Nat) : (s.setSat r v).mem = s.mem := rfl
@[simp] theorem State.setSat_rdata (r : Reg) (v : Nat) : (s.setSat r v).rdata = s.rdata := rfl
@[simp] theorem State.setSat_scrubLog (r : Reg) (v : Nat) : (s.setSat r v).scrubLog = s.scrubLog := rfl
@[simp] theorem State.setSat_freeCtr (r : Reg) (v : Nat) : (s.setSat r v).freeCtr = s.freeCtr := rfl
@[simp] theorem State.setSat_pwr (r : Reg) (v : Nat) : (s.setSat r v).pwr = s.pwr := rfl
@[simp] theorem State.setSat_axes (r : Reg) (v : Nat) : (s.setSat r v).axes = s.axes := rfl
@[simp] theorem State.setSat_gal (r : Reg) (v : Nat) : (s.setSat r v).gal = s.gal := rfl
@[simp] theorem State.setSat_saf (r : Reg) (v : Nat) : (s.setSat r v).saf = s.saf := rfl
@[simp] theorem State.setSat_doors (r : Reg) (v : Nat) : (s.setSat r v).doors = s.doors := rfl
@[simp] theorem State.setSat_voteBad (r : Reg) (v : Nat) : (s.setSat r v).voteBad = s.voteBad := rfl
@[simp] theorem State.setSat_fq0 (r : Reg) (v : Nat) : (s.setSat r v).fq0 = s.fq0 := rfl
@[simp] theorem State.setSat_heads (r : Reg) (v : Nat) : (s.setSat r v).heads = s.heads := rfl
@[simp] theorem State.setSat_ingest (r : Reg) (v : Nat) : (s.setSat r v).ingest = s.ingest := rfl
@[simp] theorem State.setSat_drip (r : Reg) (v : Nat) : (s.setSat r v).drip = s.drip := rfl
@[simp] theorem State.setSat_flow (r : Reg) (v : Nat) : (s.setSat r v).flow = s.flow := rfl
@[simp] theorem State.setSat_fio (r : Reg) (v : Nat) : (s.setSat r v).fio = s.fio := rfl
@[simp] theorem State.setSat_cans (r : Reg) (v : Nat) : (s.setSat r v).cans = s.cans := rfl
@[simp] theorem State.setSat_nets (r : Reg) (v : Nat) : (s.setSat r v).nets = s.nets := rfl
@[simp] theorem State.setSat_echo (r : Reg) (v : Nat) : (s.setSat r v).echo = s.echo := rfl
@[simp] theorem State.setSat_dst (r : Reg) (v : Nat) : (s.setSat r v).dst = s.dst := rfl
@[simp] theorem State.setSat_svc (r : Reg) (v : Nat) : (s.setSat r v).svc = s.svc := rfl
@[simp] theorem State.setSat_pending (r : Reg) (v : Nat) : (s.setSat r v).pending = s.pending := rfl
@[simp] theorem State.setBit_member (r : Reg) (n : Nat) (b : Bool) : (s.setBit r n b).member = s.member := rfl
@[simp] theorem State.setBit_tick (r : Reg) (n : Nat) (b : Bool) : (s.setBit r n b).tick = s.tick := rfl
@[simp] theorem State.setBit_fixed (r : Reg) (n : Nat) (b : Bool) : (s.setBit r n b).fixed = s.fixed := rfl
@[simp] theorem State.setBit_stage (r : Reg) (n : Nat) (b : Bool) : (s.setBit r n b).stage = s.stage := rfl
@[simp] theorem State.setBit_inds (r : Reg) (n : Nat) (b : Bool) : (s.setBit r n b).inds = s.inds := rfl
@[simp] theorem State.setBit_deferred (r : Reg) (n : Nat) (b : Bool) : (s.setBit r n b).deferred = s.deferred := rfl
@[simp] theorem State.setBit_mem (r : Reg) (n : Nat) (b : Bool) : (s.setBit r n b).mem = s.mem := rfl
@[simp] theorem State.setBit_rdata (r : Reg) (n : Nat) (b : Bool) : (s.setBit r n b).rdata = s.rdata := rfl
@[simp] theorem State.setBit_scrubLog (r : Reg) (n : Nat) (b : Bool) : (s.setBit r n b).scrubLog = s.scrubLog := rfl
@[simp] theorem State.setBit_freeCtr (r : Reg) (n : Nat) (b : Bool) : (s.setBit r n b).freeCtr = s.freeCtr := rfl
@[simp] theorem State.setBit_pwr (r : Reg) (n : Nat) (b : Bool) : (s.setBit r n b).pwr = s.pwr := rfl
@[simp] theorem State.setBit_axes (r : Reg) (n : Nat) (b : Bool) : (s.setBit r n b).axes = s.axes := rfl
@[simp] theorem State.setBit_gal (r : Reg) (n : Nat) (b : Bool) : (s.setBit r n b).gal = s.gal := rfl
@[simp] theorem State.setBit_saf (r : Reg) (n : Nat) (b : Bool) : (s.setBit r n b).saf = s.saf := rfl
@[simp] theorem State.setBit_doors (r : Reg) (n : Nat) (b : Bool) : (s.setBit r n b).doors = s.doors := rfl
@[simp] theorem State.setBit_voteBad (r : Reg) (n : Nat) (b : Bool) : (s.setBit r n b).voteBad = s.voteBad := rfl
@[simp] theorem State.setBit_fq0 (r : Reg) (n : Nat) (b : Bool) : (s.setBit r n b).fq0 = s.fq0 := rfl
@[simp] theorem State.setBit_heads (r : Reg) (n : Nat) (b : Bool) : (s.setBit r n b).heads = s.heads := rfl
@[simp] theorem State.setBit_ingest (r : Reg) (n : Nat) (b : Bool) : (s.setBit r n b).ingest = s.ingest := rfl
@[simp] theorem State.setBit_drip (r : Reg) (n : Nat) (b : Bool) : (s.setBit r n b).drip = s.drip := rfl
@[simp] theorem State.setBit_flow (r : Reg) (n : Nat) (b : Bool) : (s.setBit r n b).flow = s.flow := rfl
@[simp] theorem State.setBit_fio (r : Reg) (n : Nat) (b : Bool) : (s.setBit r n b).fio = s.fio := rfl
@[simp] theorem State.setBit_cans (r : Reg) (n : Nat) (b : Bool) : (s.setBit r n b).cans = s.cans := rfl
@[simp] theorem State.setBit_nets (r : Reg) (n : Nat) (b : Bool) : (s.setBit r n b).nets = s.nets := rfl
@[simp] theorem State.setBit_echo (r : Reg) (n : Nat) (b : Bool) : (s.setBit r n b).echo = s.echo := rfl
@[simp] theorem State.setBit_dst (r : Reg) (n : Nat) (b : Bool) : (s.setBit r n b).dst = s.dst := rfl
@[simp] theorem State.setBit_svc (r : Reg) (n : Nat) (b : Bool) : (s.setBit r n b).svc = s.svc := rfl
@[simp] theorem State.setBit_pending (r : Reg) (n : Nat) (b : Bool) : (s.setBit r n b).pending = s.pending := rfl
@[simp] theorem State.count_member (r : Reg)  : (s.count r ).member = s.member := rfl
@[simp] theorem State.count_tick (r : Reg)  : (s.count r ).tick = s.tick := rfl
@[simp] theorem State.count_fixed (r : Reg)  : (s.count r ).fixed = s.fixed := rfl
@[simp] theorem State.count_stage (r : Reg)  : (s.count r ).stage = s.stage := rfl
@[simp] theorem State.count_inds (r : Reg)  : (s.count r ).inds = s.inds := rfl
@[simp] theorem State.count_deferred (r : Reg)  : (s.count r ).deferred = s.deferred := rfl
@[simp] theorem State.count_mem (r : Reg)  : (s.count r ).mem = s.mem := rfl
@[simp] theorem State.count_rdata (r : Reg)  : (s.count r ).rdata = s.rdata := rfl
@[simp] theorem State.count_scrubLog (r : Reg)  : (s.count r ).scrubLog = s.scrubLog := rfl
@[simp] theorem State.count_freeCtr (r : Reg)  : (s.count r ).freeCtr = s.freeCtr := rfl
@[simp] theorem State.count_pwr (r : Reg)  : (s.count r ).pwr = s.pwr := rfl
@[simp] theorem State.count_axes (r : Reg)  : (s.count r ).axes = s.axes := rfl
@[simp] theorem State.count_gal (r : Reg)  : (s.count r ).gal = s.gal := rfl
@[simp] theorem State.count_saf (r : Reg)  : (s.count r ).saf = s.saf := rfl
@[simp] theorem State.count_doors (r : Reg)  : (s.count r ).doors = s.doors := rfl
@[simp] theorem State.count_voteBad (r : Reg)  : (s.count r ).voteBad = s.voteBad := rfl
@[simp] theorem State.count_fq0 (r : Reg)  : (s.count r ).fq0 = s.fq0 := rfl
@[simp] theorem State.count_heads (r : Reg)  : (s.count r ).heads = s.heads := rfl
@[simp] theorem State.count_ingest (r : Reg)  : (s.count r ).ingest = s.ingest := rfl
@[simp] theorem State.count_drip (r : Reg)  : (s.count r ).drip = s.drip := rfl
@[simp] theorem State.count_flow (r : Reg)  : (s.count r ).flow = s.flow := rfl
@[simp] theorem State.count_fio (r : Reg)  : (s.count r ).fio = s.fio := rfl
@[simp] theorem State.count_cans (r : Reg)  : (s.count r ).cans = s.cans := rfl
@[simp] theorem State.count_nets (r : Reg)  : (s.count r ).nets = s.nets := rfl
@[simp] theorem State.count_echo (r : Reg)  : (s.count r ).echo = s.echo := rfl
@[simp] theorem State.count_dst (r : Reg)  : (s.count r ).dst = s.dst := rfl
@[simp] theorem State.count_svc (r : Reg)  : (s.count r ).svc = s.svc := rfl
@[simp] theorem State.count_pending (r : Reg)  : (s.count r ).pending = s.pending := rfl
@[simp] theorem counted_member (pg : Nat) (p : Wrote) : (counted pg p).member = p.1.member := by unfold counted; split <;> rfl
@[simp] theorem counted_tick (pg : Nat) (p : Wrote) : (counted pg p).tick = p.1.tick := by unfold counted; split <;> rfl
@[simp] theorem counted_fixed (pg : Nat) (p : Wrote) : (counted pg p).fixed = p.1.fixed := by unfold counted; split <;> rfl
@[simp] theorem counted_stage (pg : Nat) (p : Wrote) : (counted pg p).stage = p.1.stage := by unfold counted; split <;> rfl
@[simp] theorem counted_inds (pg : Nat) (p : Wrote) : (counted pg p).inds = p.1.inds := by unfold counted; split <;> rfl
@[simp] theorem counted_deferred (pg : Nat) (p : Wrote) : (counted pg p).deferred = p.1.deferred := by unfold counted; split <;> rfl
@[simp] theorem counted_mem (pg : Nat) (p : Wrote) : (counted pg p).mem = p.1.mem := by unfold counted; split <;> rfl
@[simp] theorem counted_rdata (pg : Nat) (p : Wrote) : (counted pg p).rdata = p.1.rdata := by unfold counted; split <;> rfl
@[simp] theorem counted_scrubLog (pg : Nat) (p : Wrote) : (counted pg p).scrubLog = p.1.scrubLog := by unfold counted; split <;> rfl
@[simp] theorem counted_freeCtr (pg : Nat) (p : Wrote) : (counted pg p).freeCtr = p.1.freeCtr := by unfold counted; split <;> rfl
@[simp] theorem counted_pwr (pg : Nat) (p : Wrote) : (counted pg p).pwr = p.1.pwr := by unfold counted; split <;> rfl
@[simp] theorem counted_axes (pg : Nat) (p : Wrote) : (counted pg p).axes = p.1.axes := by unfold counted; split <;> rfl
@[simp] theorem counted_gal (pg : Nat) (p : Wrote) : (counted pg p).gal = p.1.gal := by unfold counted; split <;> rfl
@[simp] theorem counted_saf (pg : Nat) (p : Wrote) : (counted pg p).saf = p.1.saf := by unfold counted; split <;> rfl
@[simp] theorem counted_doors (pg : Nat) (p : Wrote) : (counted pg p).doors = p.1.doors := by unfold counted; split <;> rfl
@[simp] theorem counted_voteBad (pg : Nat) (p : Wrote) : (counted pg p).voteBad = p.1.voteBad := by unfold counted; split <;> rfl
@[simp] theorem counted_fq0 (pg : Nat) (p : Wrote) : (counted pg p).fq0 = p.1.fq0 := by unfold counted; split <;> rfl
@[simp] theorem counted_heads (pg : Nat) (p : Wrote) : (counted pg p).heads = p.1.heads := by unfold counted; split <;> rfl
@[simp] theorem counted_ingest (pg : Nat) (p : Wrote) : (counted pg p).ingest = p.1.ingest := by unfold counted; split <;> rfl
@[simp] theorem counted_drip (pg : Nat) (p : Wrote) : (counted pg p).drip = p.1.drip := by unfold counted; split <;> rfl
@[simp] theorem counted_flow (pg : Nat) (p : Wrote) : (counted pg p).flow = p.1.flow := by unfold counted; split <;> rfl
@[simp] theorem counted_fio (pg : Nat) (p : Wrote) : (counted pg p).fio = p.1.fio := by unfold counted; split <;> rfl
@[simp] theorem counted_cans (pg : Nat) (p : Wrote) : (counted pg p).cans = p.1.cans := by unfold counted; split <;> rfl
@[simp] theorem counted_nets (pg : Nat) (p : Wrote) : (counted pg p).nets = p.1.nets := by unfold counted; split <;> rfl
@[simp] theorem counted_echo (pg : Nat) (p : Wrote) : (counted pg p).echo = p.1.echo := by unfold counted; split <;> rfl
@[simp] theorem counted_dst (pg : Nat) (p : Wrote) : (counted pg p).dst = p.1.dst := by unfold counted; split <;> rfl
@[simp] theorem counted_svc (pg : Nat) (p : Wrote) : (counted pg p).svc = p.1.svc := by unfold counted; split <;> rfl
@[simp] theorem counted_pending (pg : Nat) (p : Wrote) : (counted pg p).pending = p.1.pending := by unfold counted; split <;> rfl

/-- What `hears` says. -/
theorem hears_iff {src : Src} {pg off : Nat} : hears s src pg off = true ↔
    busUp s = true ∧ s.hasPage pg = true ∧ s.hasInst (pg * 0x1000 + off) = true ∧ testPage s src pg = false ∧
      s.hwLock pg = false ∧ s.pageOn pg = true ∧ (src = .host && decide (pg = pgCYC) && testHolds s (cycOf off)) = false := by
  simp only [hears, Bool.and_eq_true, Bool.not_eq_true', and_assoc]

/-- A word that the block hears in a page other than GAL goes to its register. -/
theorem wordWrite_hears {src : Src} {pg off v : Nat} (h : hears s src pg off = true) (hpg : pg < 256) (hoff : off < 4096)
    (h4 : off % 4 = 0) (hg : pg ≠ pgGAL ∨ pg * 0x1000 + off ≠ GAL.GC_ON_HI.addr) :
    wordWrite s src pg off v = counted pg (regWrite s (wordWr src pg off v)) := by
  obtain ⟨h1, h2, h3, h5, h6, h7, h8⟩ := hears_iff.mp h
  rw [wordWrite_eq hpg hoff h4, if_pos h1]
  unfold pageWrite
  simp only [pgOf_word hoff, offOf_word hoff, h2, h5, Bool.not_true, Bool.false_eq_true, if_false]
  rw [if_neg]
  · rw [if_neg]
    rcases hg with hg | hg
    · simp [hg]
    · simp [hg]
  · intro hc
    simp only [Bool.and_eq_true, decide_eq_true_eq] at hc
    obtain ⟨⟨⟨⟨⟨ha, hb⟩, _⟩, _⟩, _⟩, hd⟩ := hc
    simp [ha, hb, hd] at h8

/-- A command register that the block hears. -/
theorem wordWrite_command {src : Src} {pg off v : Nat} (h : hears s src pg off = true) (hpg : pg < 256) (hoff : off < 4096)
    (h4 : off % 4 = 0) (hi : ¬ (0x030 ≤ off ∧ off < 0x03C)) (hg : pg ≠ pgGAL ∨ pg * 0x1000 + off ≠ GAL.GC_ON_HI.addr)
    (hrow : (rowsAt (pg * 0x1000 + off)).any (·.acc = .wo) = true) :
    wordWrite s src pg off v = counted pg (command s src pg off (v % 2 ^ 32)) := by
  rw [wordWrite_hears h hpg hoff h4 hg]
  obtain ⟨h1, h2, h3, h5, h6, h7, h8⟩ := hears_iff.mp h
  have hb : (decide (0x030 ≤ off) && decide (off < 0x03C)) = false := by simpa using hi
  unfold regWrite
  simp only [pgOf_word hoff, offOf_word hoff, hb, h3, h6, h7, hrow, Bool.not_true, Bool.false_eq_true, if_false, if_true]
  simp

/-- The word that a write of a whole word merges to. -/
theorem merged_whole {w : Wr} (h : w.mask = 0xFFFFFFFF) (hv : w.val < 2 ^ 32) : s.merged w = w.val := by
  unfold State.merged
  rw [h]
  show Nat.lor (Nat.land w.val 4294967295) (Nat.land (s.regVal w.addr) 0) = w.val
  have e1 : Nat.land w.val 4294967295 = w.val := by
    show w.val &&& (2 ^ 32 - 1) = w.val
    rw [Nat.and_two_pow_sub_one_eq_mod, Nat.mod_eq_of_lt hv]
  have e2 : Nat.land (s.regVal w.addr) 0 = 0 := Nat.and_zero _
  rw [e1, e2]
  exact Nat.or_zero _

theorem storeFields_other {ru : Rules} {w : Wr} {full : Nat} {s0 : State} {k : Nat} : ∀ {l : List Desc} {p : Wrote},
    (∀ d ∈ l, d.reg.key ≠ k) → ∀ x : Nat, mapFind x k (storeFields ru w full s0 l p).1.regs = mapFind x k p.1.regs
  | [], _, _, _ => rfl
  | d :: l, (s, adj), h, x => by
    have hd := h d List.mem_cons_self
    have hl : ∀ e ∈ l, e.reg.key ≠ k := fun e he => h e (List.mem_cons_of_mem _ he)
    unfold storeFields
    extract_lets -merge -useContext -underBinder v
    have h1 : ∀ q : Wrote, (if d.acc = .ro || d.acc = .wo then (s, false) else storeField ru w.src s0 d v s) = q →
        mapFind x k q.1.regs = mapFind x k s.regs := by
      rintro q rfl
      split
      · rfl
      · unfold storeField
        split
        · rfl
        · extract_lets -merge -useContext -underBinder v1
          split
          extract_lets -merge -useContext -underBinder v3 s1
          have e : mapFind x k s1.regs = mapFind x k s.regs := mapFind_put_other _ _ hd _ _
          split
          · exact e
          · exact e
    generalize (if d.acc = .ro || d.acc = .wo then (s, false) else storeField ru w.src s0 d v s) = q at h1 ⊢
    obtain ⟨s1, a1⟩ := q
    have h2 := h1 _ rfl
    exact (storeFields_other hl x).trans h2

theorem storeFields_get {ru : Rules} {w : Wr} {full : Nat} {s0 : State} {d : Desc} (ha : d.acc ≠ .ro ∧ d.acc ≠ .wo)
    (hf : s0.frozen w.src d = false) (ht : ru.1 s0 d = true) : ∀ {l : List Desc} {p : Wrote},
    l.Pairwise (fun a b => a.reg.key ≠ b.reg.key) → d ∈ l →
    (storeFields ru w full s0 l p).1.get d.reg = limited ru s0 d (bitsOf full d.reg.lo d.reg.w)
  | [], _, _, hd => by cases hd
  | e :: l, (s, adj), hp, hd => by
    rw [List.pairwise_cons] at hp
    unfold storeFields
    extract_lets -merge -useContext -underBinder v
    rcases List.mem_cons.mp hd with rfl | hd
    · have h1 : ∀ q : Wrote, (if d.acc = .ro || d.acc = .wo then (s, false) else storeField ru w.src s0 d v s) = q →
          q.1.get d.reg = limited ru s0 d v := by
        rintro q rfl
        rw [if_neg (by simp [ha.1, ha.2])]
        unfold storeField
        rw [if_neg (by simp [hf, ht])]
        extract_lets -merge -useContext -underBinder v1
        split
        rename_i v2 a2 e2
        extract_lets -merge -useContext -underBinder v3 s1
        have e : s1.get d.reg = limited ru s0 d v := by
          show (s.set d.reg v3).get d.reg = _
          rw [State.get_set_self]
          simp only [v3, limited]
          rw [show (clampMore d.reg (clampTo d.clamp d.reg.w (liveBits d.reg v))) = (v2, a2) from e2]
        split
        · exact e
        · exact e
      generalize (if d.acc = .ro || d.acc = .wo then (s, false) else storeField ru w.src s0 d v s) = q at h1 ⊢
      obtain ⟨s1, a1⟩ := q
      have h2 := h1 _ rfl
      simp only [State.get] at h2 ⊢
      rw [storeFields_other (fun e he => (hp.1 e he).symm)]
      exact h2
    · exact storeFields_get ha hf ht hp.2 hd

/-- A field of a register that a whole word is written to. -/
theorem storeWord_get {ru : Rules} {w : Wr} {d : Desc} (hm : w.mask = 0xFFFFFFFF) (hv : w.val < 2 ^ 32) (hva : w.viaAlias = false) (ho : w.odd = false)
    (hd : d ∈ rowsAt w.addr) (hb : bitsOf 0xFFFFFFFF d.reg.lo d.reg.w ≠ 0) (hp : (rowsAt w.addr).Pairwise (fun a b => a.reg.key ≠ b.reg.key))
    (ha : d.acc ≠ .ro ∧ d.acc ≠ .wo) (hf : s.frozen w.src d = false) (ht : ru.1 s d = true) :
    (storeWord ru s w).1.get d.reg = limited ru s d (bitsOf w.val d.reg.lo d.reg.w) := by
  have hmem : d ∈ (rowsAt w.addr).filter (fun d => bitsOf w.mask d.reg.lo d.reg.w != 0) := by
    rw [List.mem_filter]
    exact ⟨hd, by rw [hm]; exact bne_iff_ne.mpr hb⟩
  unfold storeWord
  extract_lets -merge -useContext -underBinder rows
  rw [if_neg, if_neg, if_neg]
  · have h := storeFields_get (ru := ru) (w := w) (full := s.merged w) (p := (s, false)) ha hf ht (hp.filter _) hmem
    rw [merged_whole hm hv] at h ⊢
    exact h
  · simp only [hva, Bool.false_eq_true, if_false, List.all_eq_true, decide_eq_true_eq]
    intro h
    exact ha.1 (h d hd)
  · simp [hm, ho]
  · intro h
    have h0 : rows = [] := List.isEmpty_iff.mp h
    have hmem : d ∈ rows := hmem
    rw [h0] at hmem
    cases hmem

/-- A word that the block hears, written to a register whose fields are stored: stored, then acted on, then counted. -/
theorem wordWrite_store {src : Src} {pg off v : Nat} (h : hears s src pg off = true) (hpg : pg < 256) (hoff : off < 4096)
    (h4 : off % 4 = 0) (hi : ¬ (0x030 ≤ off ∧ off < 0x03C)) (hg : pg ≠ pgGAL ∨ pg * 0x1000 + off ≠ GAL.GC_ON_HI.addr)
    (hrow : (rowsAt (pg * 0x1000 + off)).any (·.acc = .wo) = false) (hw1 : wideHi pg off = false) (hw2 : wideHi pg (off - 4) = false)
    (hse : settles pg off = false) (hn : pg ≠ pgTEST ∧ pg ≠ pgRES ∧ pg ≠ pgCRAWL)
    (hro : ((rowsAt (pg * 0x1000 + off)).filter (fun d => bitsOf 0xFFFFFFFF d.reg.lo d.reg.w != 0)).all (·.acc = .ro) = false) :
    ∃ b, wordWrite s src pg off v =
      counted pg ((written s ((storeWord (pageRules pg off) s (wordWr src pg off v)).1.undefer (pg * 0x1000 + off)) pg off).1, b) := by
  rw [wordWrite_hears h hpg hoff h4 hg]
  obtain ⟨h1, h2, h3, h5, h6, h7, h8⟩ := hears_iff.mp h
  have hb : (decide (0x030 ≤ off) && decide (off < 0x03C)) = false := by simpa using hi
  have n1 : decide (pg = pgTEST) = false := decide_eq_false hn.1
  have n2 : decide (pg = pgRES) = false := decide_eq_false hn.2.1
  have n3 : decide (pg = pgCRAWL) = false := decide_eq_false hn.2.2
  refine ⟨(storeWord (pageRules pg off) s (wordWr src pg off v)).2 ||
    (written s ((storeWord (pageRules pg off) s (wordWr src pg off v)).1.undefer (pg * 0x1000 + off)) pg off).2, ?_⟩
  congr 1
  unfold regWrite
  simp only [pgOf_word hoff, offOf_word hoff, hb, h3, h7, hrow, hw1, hw2, n1, n2, n3, Bool.not_true, Bool.false_eq_true, if_false,
    Bool.false_and, hro, settled_none hse]
  simp

/-- The value of a field after a word that the block hears, where acting on the write leaves the field alone. -/
theorem wordWrite_field {src : Src} {pg off v : Nat} (d : Desc) (h : hears s src pg off = true) (hpg : pg < 256) (hoff : off < 4096)
    (h4 : off % 4 = 0) (hi : ¬ (0x030 ≤ off ∧ off < 0x03C)) (hg : pg ≠ pgGAL ∨ pg * 0x1000 + off ≠ GAL.GC_ON_HI.addr)
    (hrow : (rowsAt (pg * 0x1000 + off)).any (·.acc = .wo) = false) (hw1 : wideHi pg off = false) (hw2 : wideHi pg (off - 4) = false)
    (hse : settles pg off = false) (hn : pg ≠ pgTEST ∧ pg ≠ pgRES ∧ pg ≠ pgCRAWL)
    (hro : ((rowsAt (pg * 0x1000 + off)).filter (fun d => bitsOf 0xFFFFFFFF d.reg.lo d.reg.w != 0)).all (·.acc = .ro) = false)
    (hd : d ∈ rowsAt (pg * 0x1000 + off)) (hb : bitsOf 0xFFFFFFFF d.reg.lo d.reg.w ≠ 0)
    (hp : (rowsAt (pg * 0x1000 + off)).Pairwise (fun a b => a.reg.key ≠ b.reg.key)) (ha : d.acc ≠ .ro ∧ d.acc ≠ .wo)
    (hf : s.frozen src d = false) (ht : (pageRules pg off).1 s d = true) (hk : (HDR.PG_ADJ_CNT pg).key ≠ d.reg.key)
    (hwr : ∀ u, (written s u pg off).1.get d.reg = u.get d.reg) :
    (wordWrite s src pg off v).get d.reg = limited (pageRules pg off) s d (bitsOf (v % 2 ^ 32) d.reg.lo d.reg.w) := by
  obtain ⟨b, e⟩ := wordWrite_store (v := v) h hpg hoff h4 hi hg hrow hw1 hw2 hse hn hro
  rw [e, get_counted hk]
  exact (hwr _).trans (storeWord_get (w := wordWr src pg off v) rfl (Nat.mod_lt _ (Nat.two_pow_pos 32)) rfl rfl hd hb hp ha hf ht)

theorem storeWord_other {ru : Rules} {w : Wr} {r : Reg} (h : ∀ d ∈ rowsAt w.addr, d.reg.key ≠ r.key) : (storeWord ru s w).1.get r = s.get r := by
  have hf : ∀ l : List Desc, (∀ d ∈ l, d ∈ rowsAt w.addr) → (storeFields ru w (s.merged w) s l (s, false)).1.get r = s.get r := fun l hl => by
    have := storeFields_other (ru := ru) (w := w) (full := s.merged w) (s0 := s) (l := l) (p := (s, false)) (k := r.key) (fun d hd => h d (hl d hd)) r.rst
    simp only [State.get]
    rw [this]
  have hi : ∀ {c : Prop} [Decidable c] {a b : Wrote}, a.1.get r = s.get r → b.1.get r = s.get r → (if c then a else b).1.get r = s.get r := fun h1 h2 => by
    split
    · exact h1
    · exact h2
  unfold storeWord
  extract_lets -merge -useContext -underBinder rows
  refine hi rfl (hi rfl (hi rfl ?_))
  exact hf rows fun d hd => (List.mem_filter.mp hd).1

/-- A whole word written to such an address, where the block hears it: stored, acted on, counted where it was clamped. -/
theorem write_form {src : Src} {pg off v : Nat} (h : hears s src pg off = true) (hs : storable pg off = true) :
    ∃ u b, wordWrite s src pg off v = counted pg ((written s u pg off).1, b) ∧ Within (mask_storeWord ||| mask_State_undefer) s u ∧
      (∀ r : Reg, (∀ d ∈ rowsAt (pg * 0x1000 + off), d.reg.key ≠ r.key) → u.get r = s.get r) ∧
      (∀ d ∈ rowsAt (pg * 0x1000 + off), d.acc ≠ .ro → d.acc ≠ .wo → bitsOf 0xFFFFFFFF d.reg.lo d.reg.w ≠ 0 → s.frozen src d = false →
        pageTakes s pg off d.reg = true → u.get d.reg = limited (pageRules pg off) s d (bitsOf (v % 2 ^ 32) d.reg.lo d.reg.w)) := by
  simp only [storable, Bool.and_eq_true, decide_eq_true_eq, Bool.not_eq_true', Bool.or_eq_true] at hs
  obtain ⟨⟨⟨⟨⟨⟨⟨⟨⟨⟨⟨⟨⟨hpg, hoff⟩, h4⟩, hi⟩, hg⟩, hrow⟩, hw1⟩, hw2⟩, hse⟩, n1⟩, n2⟩, n3⟩, hro⟩, hp⟩ := hs
  have hi' : ¬ (0x030 ≤ off ∧ off < 0x03C) := by simpa using hi
  obtain ⟨b, e⟩ := wordWrite_store (v := v) h hpg hoff h4 hi' hg hrow hw1 hw2 hse ⟨n1, n2, n3⟩ hro
  exact ⟨_, b, e, (within_storeWord.mono rfl).step within_State_undefer rfl, fun r hr => storeWord_other hr, fun d hd ha1 ha2 hb hf ht =>
    storeWord_get (w := wordWr src pg off v) rfl (Nat.mod_lt _ (Nat.two_pow_pos 32)) rfl rfl hd hb hp ⟨ha1, ha2⟩ hf ht⟩

/-- A command register written, where the block hears it. -/
theorem command_form {src : Src} {pg off v : Nat} (h : hears s src pg off = true) (hs : commandable pg off = true) :
    wordWrite s src pg off v = counted pg (command s src pg off (v % 2 ^ 32)) := by
  simp only [commandable, Bool.and_eq_true, decide_eq_true_eq, Bool.not_eq_true', Bool.or_eq_true] at hs
  obtain ⟨⟨⟨⟨⟨hpg, hoff⟩, h4⟩, hi⟩, hg⟩, hrow⟩ := hs
  exact wordWrite_command h hpg hoff h4 (by simpa using hi) hg hrow

end Sys2Proof.Machine
end

