-- ==== Sys2Proof/Laws/Bits.lean ====
section
/-! SUPPORT. One bit of a number and of a mask field written and read back. -/

set_option Elab.async false

namespace Sys2Proof
theorem putBit_high {v i : Nat} {b : Bool} : putBit v i b / 2 ^ (i + 1) = v / 2 ^ (i + 1) := by
  have hp := Nat.two_pow_pos i
  have e : ∀ x, x / 2 ^ (i + 1) = x / 2 ^ i / 2 := fun x => by rw [Nat.pow_succ, Nat.div_div_eq_div_mul]
  unfold putBit bitAt
  rw [e, e]
  split
  · rfl
  · rename_i h
    cases b
    · simp only [beq_eq_false_iff_ne, ne_eq, Decidable.not_not] at h
      have h2 : 2 ^ i ≤ v := by
        rcases Nat.lt_or_ge v (2 ^ i) with hlt | hge
        · rw [Nat.div_eq_of_lt hlt] at h; exact absurd h (by decide)
        · exact hge
      simp only [Bool.false_eq_true, if_false]
      rw [show v - 2 ^ i = v - 2 ^ i * 1 by rw [Nat.mul_one], Nat.sub_mul_div _ _ _]
      generalize v / 2 ^ i = q at h
      omega
    · simp only [beq_iff_eq] at h
      simp only [if_true]
      rw [Nat.add_div_right _ hp]
      omega

theorem putBit_low {v i : Nat} {b : Bool} : putBit v i b % 2 ^ i = v % 2 ^ i := by
  have hp := Nat.two_pow_pos i
  unfold putBit bitAt
  split
  · rfl
  · rename_i h
    cases b
    · simp only [beq_eq_false_iff_ne, ne_eq, Decidable.not_not] at h
      have h2 : 2 ^ i ≤ v := by
        rcases Nat.lt_or_ge v (2 ^ i) with hlt | hge
        · rw [Nat.div_eq_of_lt hlt] at h; exact absurd h (by decide)
        · exact hge
      simp only [Bool.false_eq_true, if_false]
      exact (Nat.mod_eq_sub_mod h2).symm
    · simp only [if_true]; exact Nat.add_mod_right _ _

theorem bitAt_putBit_self {v i : Nat} {b : Bool} : bitAt (putBit v i b) i = b := by
  have hp := Nat.two_pow_pos i
  unfold putBit
  split
  · assumption
  · rename_i h
    unfold bitAt at h ⊢
    cases b
    · simp only [beq_eq_false_iff_ne, ne_eq, Decidable.not_not] at h
      simp only [Bool.false_eq_true, if_false, beq_eq_false_iff_ne]
      rw [show v - 2 ^ i = v - 2 ^ i * 1 by rw [Nat.mul_one], Nat.sub_mul_div _ _ _]
      omega
    · simp only [beq_iff_eq] at h
      simp only [if_true, beq_iff_eq]
      rw [Nat.add_div_right _ hp]
      omega

theorem bitAt_putBit_other {v i j : Nat} {b : Bool} (h : i ≠ j) : bitAt (putBit v i b) j = bitAt v j := by
  rcases Nat.lt_or_gt_of_ne h with hlt | hgt
  · obtain ⟨k, rfl⟩ : ∃ k, j = i + 1 + k := ⟨j - i - 1, by omega⟩
    simp only [bitAt, Nat.pow_add 2 (i + 1) k, ← Nat.div_div_eq_div_mul, putBit_high]
  · obtain ⟨k, rfl⟩ : ∃ k, i = j + (k + 1) := ⟨i - j - 1, by omega⟩
    have e : ∀ x : Nat, x / 2 ^ j % 2 = (x % 2 ^ (j + (k + 1))) / 2 ^ j % 2 := fun x => by
      rw [Nat.pow_add, Nat.mod_mul_right_div_self, Nat.pow_succ 2 k, Nat.mod_mul_left_mod]
    simp only [bitAt]
    rw [e (putBit v _ b), e v, putBit_low]

theorem putBit_lt {v i w : Nat} {b : Bool} (hv : v < 2 ^ w) (hi : i < w) : putBit v i b < 2 ^ w := by
  obtain ⟨k, rfl⟩ : ∃ k, w = i + 1 + k := ⟨w - i - 1, by omega⟩
  have h := putBit_high (v := v) (i := i) (b := b)
  have h2 : v / 2 ^ (i + 1) < 2 ^ k := by rw [Nat.div_lt_iff_lt_mul (Nat.two_pow_pos _), ← Nat.pow_add, Nat.add_comm k]; exact hv
  rw [← h, Nat.div_lt_iff_lt_mul (Nat.two_pow_pos _), ← Nat.pow_add, Nat.add_comm k] at h2
  exact h2

namespace Machine
variable {s t : State}

/-- A state with the same register file reads the same. -/
theorem get_regs {r : Reg} (h : t.regs = s.regs) : t.get r = s.get r := by simp only [State.get, h]

/-- A state of registers alone. -/
def regsOnly (m : List (Nat × Nat)) : State := { State.reset with regs := m }

/-- A state written out reads its registers from its register file. -/
theorem State.get_mk {x0 : Member} {x1 : Nat} {x2 : List (Nat × Nat)} {x3 : List Nat} {x4 : List (Nat × Option Nat)} {x5 : List (Nat × IndPair)} {x6 : List Stored} {x7 : List Host.Cell} {x8 : Word} {x9 : List (Nat × Nat)} {x10 : Nat} {x11 : Power} {x12 : List (Nat × Axis)} {x13 : Gallery} {x14 : Safety} {x15 : List (Nat × Doorway)} {x16 : Nat} {x17 : List EventReq} {x18 : List (Nat × Head)} {x19 : List (Nat × Nat)} {x20 : Drip} {x21 : Flow} {x22 : Fio} {x23 : List (Nat × CanCtl)} {x24 : Nets} {x25 : Echo} {x26 : Telegrams} {x27 : Service} {x28 : List Instr} {r : Reg} :
    State.get ⟨x0, x1, x2, x3, x4, x5, x6, x7, x8, x9, x10, x11, x12, x13, x14, x15, x16, x17, x18, x19, x20, x21, x22, x23, x24, x25, x26, x27, x28⟩ r = (regsOnly x2).get r := rfl

theorem State.regs_get {r : Reg} : (regsOnly s.regs).get r = s.get r := rfl

/-- One bit of a mask written. -/
theorem bit_setBit_self {r : Reg} {n : Nat} (hn : n < r.w) (b : Bool) : (s.setBit r n b).bit r n = b := by
  rw [State.bit, State.setBit, State.get_set_self, Nat.mod_eq_of_lt (putBit_lt (get_lt s r) hn), bitAt_putBit_self]

theorem bit_setBit_other {r : Reg} {n k : Nat} (hn : n < r.w) (h : n ≠ k) (b : Bool) : (s.setBit r n b).bit r k = s.bit r k := by
  rw [State.bit, State.setBit, State.get_set_self, Nat.mod_eq_of_lt (putBit_lt (get_lt s r) hn), bitAt_putBit_other h, State.bit]

/-- A write of one field, as a mask. -/
theorem within_set1 {r : Reg} {v i : Nat} (hr : (famAt i).has r.key) : Within (1 <<< (32 + i)) s (s.set r v) :=
  Within.set (.refl _ s) hr (by simp [Nat.testBit_shiftLeft])

theorem within_setB1 {r : Reg} {b : Bool} {i : Nat} (hr : (famAt i).has r.key) : Within (1 <<< (32 + i)) s (s.setB r b) := within_set1 hr

theorem within_count1 {r : Reg} {i : Nat} (hr : (famAt i).has r.key) : Within (1 <<< (32 + i)) s (s.count r) := within_set1 hr
end Machine
end Sys2Proof
end

