-- ==== Sys2Proof/Laws/Gallery.lean ====
section
/-! SUPPORT. What deciding a Gallery channel again comes to: what keeps it off, what turns it on, and which registers of other channels
it leaves alone. -/

set_option Elab.async false

namespace Sys2Proof.Machine

variable {s : State}

/-- What the commands and the bank of a channel are read from. -/
theorem effCmd_congr {t : State} {c : Nat} (h1 : t.get CRAWL.CRAWL_ON = s.get CRAWL.CRAWL_ON) (h2 : ∀ k, t.get (CRAWL.CRAWL_MAP k) = s.get (CRAWL.CRAWL_MAP k))
    (h3 : t.member = s.member) (h4 : t.get SYS.LC_STATE = s.get SYS.LC_STATE) (h5 : t.get SYS.REFUGE = s.get SYS.REFUGE)
    (h6 : t.gal.direct = s.gal.direct) (h7 : t.get CRAWL.CR_WD = s.get CRAWL.CR_WD) (h8 : t.get (GALC.FOLLOW c) = s.get (GALC.FOLLOW c))
    (h9 : t.get (GALC.FOLLOW_PIN c) = s.get (GALC.FOLLOW_PIN c)) (h10 : t.get (gcReg c) = s.get (gcReg c))
    (h11 : t.get PWR.DOM_ON = s.get PWR.DOM_ON) :
    effCmd t c = effCmd s c ∧ byCrawl t c = byCrawl s c := by
  have hm : ∀ c, mapEntry t c = mapEntry s c := fun c => by simp only [mapEntry, h2]
  have hc : t.hasCh c = s.hasCh c := hasCh_congr h3 c
  have hl : t.lc = s.lc := h4
  have hb : byCrawl t c = byCrawl s c := by
    simp only [byCrawl, State.on, h1, mapped, hc, hm, State.inRefuge, h5, State.hwLock, hl]
  refine ⟨?_, hb⟩
  simp only [effCmd, hb, State.inRefuge, State.hwLock, State.on, h5, hl, h1, mapped, hc, hm, h7, h8, pinOn, h6, mapPin, h9, gcBit, State.domOn, State.bit, h10, h11]
  rfl

/-- The summary changes none of the fields of a channel but GATE_SHUT. -/
theorem galShow_on {r : Reg} {i : Nat} (hk : (famAt i).has r.key) (ha : keeps mask_galShow i = true) :
    (galShow s).on r = s.on r := within_galShow.on hk ha

theorem clampEvent_on {r : Reg} {i c : Nat} (hk : (famAt i).has r.key) (ha : keeps mask_clampEvent i = true) :
    (clampEvent s c).on r = s.on r := within_clampEvent.on hk ha

/-- The output a channel is switched to. -/
theorem chanSwitch_out {f out : Bool} {c : Nat} : (chanSwitch f out s c).on (GALC.OUT c) = out := by
  unfold chanSwitch
  split
  · rename_i h
    simp only [Bool.and_eq_true] at h
    simp only [h.1, State.on]
    rw [get_setB_other (by simp only [Reg.key]; omega), get_setB_self Nat.one_ne_zero]
    rfl
  · split
    · rename_i h
      simp only [Bool.and_eq_true, Bool.not_eq_true'] at h
      rw [clampEvent_on (key_GALC_OUT c) (by decide +kernel), h.1, State.on, get_setB_other (by simp only [Reg.key]; omega), get_setB_self Nat.one_ne_zero]
      rfl
    · rename_i h1 h2
      cases out <;> simp_all

/-- Marking a channel, in the steps of its definition: the instant kept, the two marks, the shedding ended. -/
theorem chanMark_cases {c : Nat} {P : State → Prop}
    (h : ∀ s0 : State, (∃ l : List (Nat × Nat), s0 = { s with gal := { s.gal with offAt := l } }) →
      let s1 := (s0.setB (GALC.CMD c) (effCmd s c)).setB (GALC.IN_CRAWL c) (byCrawl s0 c)
      P s1 ∧ (effCmd s c = false → ∀ g : List Nat, P { (s1.setB (GALC.SHED c) false : State) with gal := { (s1.setB (GALC.SHED c) false).gal with shedOrder := g } })) :
    P (chanMark s c) := by
  unfold chanMark
  extract_lets -merge -useContext -underBinder cmd g0 s0 s1
  have h0 : ∃ l : List (Nat × Nat), s0 = { s with gal := { s.gal with offAt := l } } := by
    simp only [s0]
    split
    · exact ⟨_, rfl⟩
    · exact ⟨s.gal.offAt, rfl⟩
  obtain ⟨h1, h2⟩ := h s0 h0
  split
  · rename_i hc
    simp only [Bool.and_eq_true, Bool.not_eq_true'] at hc
    exact h2 hc.1 _
  · exact h1

theorem chanMark_get {c : Nat} {r : Reg} (h1 : (GALC.CMD c).key ≠ r.key) (h2 : (GALC.IN_CRAWL c).key ≠ r.key)
    (h3 : (GALC.SHED c).key ≠ r.key) : (chanMark s c).get r = s.get r := by
  refine chanMark_cases (P := fun t => t.get r = s.get r) ?_
  rintro s0 ⟨l, rfl⟩
  have hs : ((State.setB { s with gal := { s.gal with offAt := l } } (GALC.CMD c) (effCmd s c)).setB (GALC.IN_CRAWL c)
      (byCrawl { s with gal := { s.gal with offAt := l } } c)).get r = s.get r := by
    rw [get_setB_other h2, get_setB_other h1]; rfl
  exact ⟨hs, fun _ _ => (get_setB_other h3 false).trans hs⟩

/-- A channel that is shed stays so while its command is on. -/
theorem chanMark_shed {c : Nat} (h : effCmd s c = true) : (chanMark s c).get (GALC.SHED c) = s.get (GALC.SHED c) := by
  refine chanMark_cases (P := fun t => t.get (GALC.SHED c) = s.get (GALC.SHED c)) ?_
  rintro s0 ⟨l, rfl⟩
  refine ⟨?_, fun h0 => absurd h (by simp [h0])⟩
  rw [get_setB_other (by simp only [Reg.key]; omega), get_setB_other (by simp only [Reg.key]; omega)]
  rfl

@[simp] theorem chanMark_member {c : Nat} : (chanMark s c).member = s.member :=
  chanMark_cases (P := fun t => t.member = s.member) (by rintro s0 ⟨l, rfl⟩; exact ⟨rfl, fun _ _ => rfl⟩)

@[simp] theorem chanMark_pwr {c : Nat} : (chanMark s c).pwr = s.pwr :=
  chanMark_cases (P := fun t => t.pwr = s.pwr) (by rintro s0 ⟨l, rfl⟩; exact ⟨rfl, fun _ _ => rfl⟩)

theorem chanMark_waiting {c : Nat} : (chanMark s c).gal.waiting = s.gal.waiting :=
  chanMark_cases (P := fun t => t.gal.waiting = s.gal.waiting) (by rintro s0 ⟨l, rfl⟩; exact ⟨rfl, fun _ _ => rfl⟩)

theorem chanMark_retry {c : Nat} : (chanMark s c).gal.retryPend = s.gal.retryPend :=
  chanMark_cases (P := fun t => t.gal.retryPend = s.gal.retryPend) (by rintro s0 ⟨l, rfl⟩; exact ⟨rfl, fun _ _ => rfl⟩)

theorem chanMark_direct {c : Nat} : (chanMark s c).gal.direct = s.gal.direct :=
  chanMark_cases (P := fun t => t.gal.direct = s.gal.direct) (by rintro s0 ⟨l, rfl⟩; exact ⟨rfl, fun _ _ => rfl⟩)

theorem chanMark_bankFor {c : Nat} : bankFor (chanMark s c) c = bankFor s c := by
  have h := (effCmd_congr (s := s) (t := chanMark s c) (c := c)
    (chanMark_get (by simp only [Reg.key]; omega) (by simp only [Reg.key]; omega) (by simp only [Reg.key]; omega))
    (fun k => chanMark_get (by simp only [Reg.key]; omega) (by simp only [Reg.key]; omega) (by simp only [Reg.key]; omega)) chanMark_member
    (chanMark_get (by simp only [Reg.key]; omega) (by simp only [Reg.key]; omega) (by simp only [Reg.key]; omega))
    (chanMark_get (by simp only [Reg.key]; omega) (by simp only [Reg.key]; omega) (by simp only [Reg.key]; omega)) chanMark_direct
    (chanMark_get (by simp only [Reg.key]; omega) (by simp only [Reg.key]; omega) (by simp only [Reg.key]; omega))
    (chanMark_get (by simp only [Reg.key]; omega) (by simp only [Reg.key]; omega) (by simp only [Reg.key]; omega))
    (chanMark_get (by simp only [Reg.key]; omega) (by simp only [Reg.key]; omega) (by simp only [Reg.key]; omega))
    (by unfold gcReg; split <;> exact chanMark_get (by simp only [Reg.key]; omega) (by simp only [Reg.key]; omega) (by simp only [Reg.key]; omega))
    (chanMark_get (by simp only [Reg.key]; omega) (by simp only [Reg.key]; omega) (by simp only [Reg.key]; omega))).2
  simp (disch := (simp only [Reg.key]; omega)) only [bankFor, bankSound, bankTested, State.on, State.domOn, State.bit, chanMark_get, h, chanMark_pwr]

/-- What keeps a channel off through its own marks (R255). -/
theorem chBlocked_mark {c : Nat} (h : effCmd s c = true) : chBlocked (chanMark s c) c = chBlocked s c := by
  simp (disch := (simp only [Reg.key]; omega)) only [chBlocked, State.on, gateOpen, State.bit, chanMark_get, chanMark_waiting, chanMark_retry, chanMark_shed h]

/-- What decides a channel's output (R255): its command, its bank and its blocks. -/
theorem chanEval_out {f : Bool} {c : Nat} (hc : s.hasCh c = true) :
    (chanEval f s c).on (GALC.OUT c) = (effCmd s c && bankFor s c && !chBlocked s c) := by
  unfold chanEval
  rw [if_neg (by simp [hc]), chanSwitch_out, chanMark_bankFor]
  cases h : effCmd s c
  · simp
  · rw [chBlocked_mark h]

/-- The same of one channel decided with the summary. -/
theorem galEval1_out {c : Nat} (hc : s.hasCh c = true) :
    (galEval1 s c).on (GALC.OUT c) = (effCmd s c && bankFor s c && !chBlocked s c) := by
  unfold galEval1
  rw [galShow_on (key_GALC_OUT c) (by decide +kernel), chanEval_out hc]

/-- A channel that does not turn off keeps the fields of its clamp. -/
theorem chanSwitch_keeps {f out : Bool} {c : Nat} {r : Reg} (h : s.on (GALC.OUT c) = false) (h1 : GAL.RETRY_CNT.key ≠ r.key)
    (h2 : (GALC.OUT c).key ≠ r.key) (h3 : (GALC.INRUSH c).key ≠ r.key) (h4 : (GALC.OC_TRIP c).key ≠ r.key) :
    (chanSwitch f out s c).get r = s.get r := by
  unfold chanSwitch
  simp only [h, Bool.not_false, Bool.and_true, Bool.and_false, Bool.false_eq_true, if_false]
  split
  · rw [get_setB_other h3, get_setB_other h2]
    split
    · exact (get_setB_other h4 false).trans (get_count_other h1)
    · rfl
  · rfl

theorem galEval1_keeps {c i : Nat} {r : Reg} (h : s.on (GALC.OUT c) = false) (h1 : GAL.RETRY_CNT.key ≠ r.key)
    (h2 : (GALC.OUT c).key ≠ r.key) (h3 : (GALC.INRUSH c).key ≠ r.key) (h4 : (GALC.CMD c).key ≠ r.key)
    (h5 : (GALC.IN_CRAWL c).key ≠ r.key) (h6 : (GALC.SHED c).key ≠ r.key) (h7 : (GALC.OC_TRIP c).key ≠ r.key) (hk : (famAt i).has r.key)
    (ha : keeps mask_galShow i = true) : (galEval1 s c).get r = s.get r := by
  unfold galEval1
  rw [within_galShow.get hk ha]
  unfold chanEval
  split
  · rfl
  · rw [chanSwitch_keeps _ h1 h2 h3 h7, chanMark_get h4 h5 h6]
    rw [State.on, chanMark_get (by simp only [Reg.key]; omega) (by simp only [Reg.key]; omega) (by simp only [Reg.key]; omega)]
    exact h

/-- Switching one channel leaves the output of another alone. -/
theorem chanSwitch_other {f out : Bool} {c k : Nat} (hc : c < 48) (hk : k < 48) (h : c ≠ k) :
    (chanSwitch f out s c).get (GALC.OUT k) = s.get (GALC.OUT k) := by
  have hne : (GALC.OUT c).key ≠ (GALC.OUT k).key := by simp only [Reg.key]; omega
  unfold chanSwitch
  split
  · rw [get_setB_other (by simp only [Reg.key]; omega), get_setB_other hne]
    split
    · exact (get_setB_other (q := GALC.OUT k) (r := GALC.OC_TRIP c) (by simp only [Reg.key]; omega) false).trans
        (get_count_other (r := GAL.RETRY_CNT) (q := GALC.OUT k) (by simp only [Reg.key]; omega))
    · rfl
  · split
    · rw [within_clampEvent.get (key_GALC_OUT k) (by decide +kernel), get_setB_other (by simp only [Reg.key]; omega), get_setB_other hne]
    · rfl

/-- Deciding one channel leaves the output of another alone. -/
theorem chanEval_other {f : Bool} {c k : Nat} (hc : c < 48) (hk : k < 48) (h : c ≠ k) :
    (chanEval f s c).get (GALC.OUT k) = s.get (GALC.OUT k) := by
  unfold chanEval
  split
  · rfl
  · rw [chanSwitch_other hc hk h]
    exact chanMark_get (by simp only [Reg.key]; omega) (by simp only [Reg.key]; omega) (by simp only [Reg.key]; omega)

/-- The fields that deciding channel `c` may write: its own, and the counters of the Gallery. -/
def chanKeys (c : Nat) : List Nat := [(GALC.CMD c).key, (GALC.IN_CRAWL c).key, (GALC.SHED c).key, (GALC.OUT c).key, (GALC.INRUSH c).key,
  (GALC.I_MA c).key, (GALC.CLAMP_LAST c).key, (GALC.CH_CLAMP_CNT c).key, (GALC.CLAMP_SUM c).key, (GALC.CLAMP_LOCK c).key,
  GAL.RETRY_CNT.key, GAL.CLAMP_LOCK_CNT.key, GAL.CLAMP_OVER_CNT.key, (HDR.PG_FAULT_CNT pgGAL).key, (GALC.OC_TRIP c).key]

theorem clampEvent_get {c : Nat} {r : Reg} (h : r.key ∉ chanKeys c) : (clampEvent s c).get r = s.get r := by
  simp only [chanKeys, List.mem_cons, not_or] at h
  obtain ⟨h1, h2, h3, h4, h5, h6, h7, h8, h9, h10, h11, h12, h13, h14, -, -⟩ := h
  unfold clampEvent
  extract_lets -merge -useContext -underBinder e s1 log src s2 s3 sum s4 spent s5 above s6
  have e4 : s4.get r = s.get r := by
    simp only [s4, s3, get_setSat_other (Ne.symm h9), get_count_other (Ne.symm h8), get_setSat_other (Ne.symm h7)]
    rfl
  have e5 : s5.get r = s.get r := by
    simp only [s5]; split
    · rw [get_count_other (Ne.symm h12), e4]
    · exact e4
  have e6 : s6.get r = s.get r := by
    simp only [s6]; split
    · rw [State.countFault, get_count_other (Ne.symm h14), get_count_other (Ne.symm h13), e5]
    · exact e5
  split
  · rw [get_setB_other (Ne.symm h10), e6]
  · exact e6

theorem chanSwitch_get {f out : Bool} {c : Nat} {r : Reg} (h : r.key ∉ chanKeys c) : (chanSwitch f out s c).get r = s.get r := by
  have h' := h
  simp only [chanKeys, List.mem_cons, not_or] at h'
  obtain ⟨h1, h2, h3, h4, h5, h6, h7, h8, h9, h10, h11, h12, h13, h14, h15, -⟩ := h'
  unfold chanSwitch
  split
  · rw [get_setB_other (Ne.symm h5), get_setB_other (Ne.symm h4)]
    split
    · exact (get_setB_other (Ne.symm h15) false).trans (get_count_other (Ne.symm h11))
    · rfl
  · split
    · rw [clampEvent_get h, get_setB_other (Ne.symm h5), get_setB_other (Ne.symm h4)]
    · rfl

theorem chanEval_get {f : Bool} {c : Nat} {r : Reg} (h : r.key ∉ chanKeys c) : (chanEval f s c).get r = s.get r := by
  have h' := h
  simp only [chanKeys, List.mem_cons, not_or] at h'
  unfold chanEval
  split
  · rfl
  · rw [chanSwitch_get h, chanMark_get (Ne.symm h'.1) (Ne.symm h'.2.1) (Ne.symm h'.2.2.1)]

theorem clampEvent_waiting {c : Nat} : (clampEvent s c).gal.waiting = s.gal.waiting ∧ (clampEvent s c).gal.direct = s.gal.direct := by
  unfold clampEvent
  extract_lets -merge -useContext -underBinder e s1 log src s2 s3 sum s4 spent s5 above s6
  have e5 : s5.gal.waiting = s.gal.waiting ∧ s5.gal.direct = s.gal.direct := by simp only [s5]; split <;> exact ⟨rfl, rfl⟩
  have e6 : s6.gal.waiting = s.gal.waiting ∧ s6.gal.direct = s.gal.direct := by simp only [s6]; split <;> exact e5
  split <;> exact e6

theorem chanSwitch_waiting {f out : Bool} {c : Nat} :
    (chanSwitch f out s c).gal.waiting = s.gal.waiting ∧ (chanSwitch f out s c).gal.direct = s.gal.direct := by
  unfold chanSwitch
  split
  · simp only; split <;> exact ⟨rfl, rfl⟩
  · split
    · exact clampEvent_waiting
    · exact ⟨rfl, rfl⟩

theorem chanEval_waiting {f : Bool} {c : Nat} : (chanEval f s c).gal.waiting = s.gal.waiting ∧ (chanEval f s c).gal.direct = s.gal.direct := by
  unfold chanEval
  split
  · exact ⟨rfl, rfl⟩
  · rw [chanSwitch_waiting.1, chanSwitch_waiting.2, chanMark_waiting, chanMark_direct]; exact ⟨rfl, rfl⟩

/-- What the output of channel `k` is decided from reads the same in `t` as in `s`. -/
structure SameChan (k : Nat) (s t : State) : Prop where
  member : t.member = s.member
  wait : t.gal.waiting = s.gal.waiting
  direct : t.gal.direct = s.gal.direct
  retry : bitAt t.gal.retryPend k = bitAt s.gal.retryPend k
  pwr : t.pwr = s.pwr
  get : ∀ r : Reg, (∀ c, c ≠ k → c < 48 → r.key ∉ chanKeys c) → (∃ i, (famAt i).has r.key ∧ keeps mask_galShow i = true) → t.get r = s.get r

theorem SameChan.out {k : Nat} (hk : k < 48) {t : State} (w : SameChan k s t) (hc : s.hasCh k = true) :
    (effCmd t k && bankFor t k && !chBlocked t k) = (effCmd s k && bankFor s k && !chBlocked s k) := by
  obtain ⟨hm, hw, hd, hr, hp, w⟩ := w
  have g : ∀ {r : Reg} {i : Nat}, (∀ c, c ≠ k → c < 48 → r.key ∉ chanKeys c) → (famAt i).has r.key → keeps mask_galShow i = true → t.get r = s.get r :=
    fun h hi ha => w _ h ⟨_, hi, ha⟩
  have e := effCmd_congr (s := s) (t := t) (c := k)
    (g (by simp [chanKeys, Reg.key]; omega) key_CRAWL_CRAWL_ON (by decide +kernel))
    (fun j => g (by simp [chanKeys, Reg.key]; omega) (key_CRAWL_CRAWL_MAP j) (by decide +kernel))
    hm (g (by simp [chanKeys, Reg.key]; omega) key_SYS_LC_STATE (by decide +kernel))
    (g (by simp [chanKeys, Reg.key]; omega) key_SYS_REFUGE (by decide +kernel)) hd
    (g (by simp [chanKeys, Reg.key]; omega) key_CRAWL_CR_WD (by decide +kernel))
    (g (by simp [chanKeys, Reg.key]; omega) (key_GALC_FOLLOW k) (by decide +kernel))
    (g (by simp [chanKeys, Reg.key]; omega) (key_GALC_FOLLOW_PIN k) (by decide +kernel))
    (by unfold gcReg; split
        · exact g (by simp [chanKeys, Reg.key]; omega) key_GAL_GC_ON_LO (by decide +kernel)
        · exact g (by simp [chanKeys, Reg.key]; omega) key_GAL_GC_ON_HI (by decide +kernel))
    (g (r := PWR.DOM_ON) (by simp [chanKeys, Reg.key]; omega) key_PWR_DOM_ON (by decide +kernel))
  have hb : bankFor t k = bankFor s k := by
    simp only [bankFor, bankSound, bankTested, State.on, State.domOn, State.bit, hp, e.2,
      g (r := PWR.DOM_ON) (by simp [chanKeys, Reg.key]; omega) key_PWR_DOM_ON (by decide +kernel),
      g (r := PWR.PF_WARN) (by simp [chanKeys, Reg.key]; omega) key_PWR_PF_WARN (by decide +kernel),
      g (r := CLK.CLK_FAIL) (by simp [chanKeys, Reg.key]; omega) key_CLK_CLK_FAIL (by decide +kernel),
      g (r := PWR.GA_OK) (by simp [chanKeys, Reg.key]; omega) key_PWR_GA_OK (by decide +kernel),
      g (r := PWR.GB_OK) (by simp [chanKeys, Reg.key]; omega) key_PWR_GB_OK (by decide +kernel),
      g (r := GAL.A_OV) (by simp [chanKeys, Reg.key]; omega) key_GAL_A_OV (by decide +kernel),
      g (r := GAL.B_OV) (by simp [chanKeys, Reg.key]; omega) key_GAL_B_OV (by decide +kernel),
      g (r := GAL.A_REV) (by simp [chanKeys, Reg.key]; omega) key_GAL_A_REV (by decide +kernel),
      g (r := GAL.B_REV) (by simp [chanKeys, Reg.key]; omega) key_GAL_B_REV (by decide +kernel),
      g (r := GAL.A_GND) (by simp [chanKeys, Reg.key]; omega) key_GAL_A_GND (by decide +kernel),
      g (r := GAL.B_GND) (by simp [chanKeys, Reg.key]; omega) key_GAL_B_GND (by decide +kernel),
      g (r := GAL.A_FAULT) (by simp [chanKeys, Reg.key]; omega) key_GAL_A_FAULT (by decide +kernel),
      g (r := GAL.B_FAULT) (by simp [chanKeys, Reg.key]; omega) key_GAL_B_FAULT (by decide +kernel)]
  have hl : chBlocked t k = chBlocked s k := by
    simp only [chBlocked, State.on, gateOpen, State.bit, hw, hr,
      g (r := GALC.OC_TRIP k) (by simp [chanKeys, Reg.key]; omega) (key_GALC_OC_TRIP k) (by decide +kernel),
      g (r := GALC.OC_LOCK k) (by simp [chanKeys, Reg.key]; omega) (key_GALC_OC_LOCK k) (by decide +kernel),
      g (r := GALC.TH_LATCH k) (by simp [chanKeys, Reg.key]; omega) (key_GALC_TH_LATCH k) (by decide +kernel),
      g (r := GALC.CLAMP_LOCK k) (by simp [chanKeys, Reg.key]; omega) (key_GALC_CLAMP_LOCK k) (by decide +kernel),
      g (r := GALC.SHED k) (by simp [chanKeys, Reg.key]; omega) (key_GALC_SHED k) (by decide +kernel),
      g (r := SAFM.LOCK_EN_SAF) (by simp [chanKeys, Reg.key]; omega) key_SAFM_LOCK_EN_SAF (by decide +kernel),
      g (r := COLM.LOCK_EN_COL) (by simp [chanKeys, Reg.key]; omega) key_COLM_LOCK_EN_COL (by decide +kernel)]
  rw [e.1, hb, hl]

theorem clampEvent_retry {c : Nat} : (clampEvent s c).gal.retryPend = s.gal.retryPend := by
  unfold clampEvent
  extract_lets -merge -useContext -underBinder e s1 log src s2 s3 sum s4 spent s5 above s6
  have e5 : s5.gal.retryPend = s.gal.retryPend := by simp only [s5]; split <;> rfl
  have e6 : s6.gal.retryPend = s.gal.retryPend := by simp only [s6]; split <;> exact e5
  split <;> exact e6

/-- Deciding one channel leaves the pending retry of another alone. -/
theorem chanEval_retry {f : Bool} {c k : Nat} (h : c ≠ k) :
    bitAt (chanEval f s c).gal.retryPend k = bitAt s.gal.retryPend k := by
  unfold chanEval
  split
  · rfl
  · rw [← chanMark_retry (s := s) (c := c)]
    unfold chanSwitch
    split
    · simp only
      split
      · exact bitAt_putBit_other h
      · rfl
    · split
      · rw [clampEvent_retry]; rfl
      · rfl

theorem SameChan.eval {f : Bool} {c k : Nat} (h : c ≠ k) (hc : c < 48) : SameChan k s (chanEval f s c) where
  member := within_chanEval.member
  wait := chanEval_waiting.1
  direct := chanEval_waiting.2
  retry := chanEval_retry h
  pwr := within_chanEval.pwr (by decide +kernel)
  get r hr _ := chanEval_get (hr c h hc)

theorem SameChan.trans {k : Nat} {t u : State} (h : SameChan k s t) (h' : SameChan k t u) : SameChan k s u where
  member := h'.member.trans h.member
  wait := h'.wait.trans h.wait
  direct := h'.direct.trans h.direct
  retry := h'.retry.trans h.retry
  pwr := h'.pwr.trans h.pwr
  get r hr hg := (h'.get r hr hg).trans (h.get r hr hg)

/-- What decides the output of every channel (R255): its command, its bank and its blocks, as they stand before. -/
theorem galEval_out {k : Nat} (hk : k < 48) (hc : s.hasCh k = true) :
    (galEval s).on (GALC.OUT k) = (effCmd s k && bankFor s k && !chBlocked s k) := by
  have loop : ∀ n, n ≤ 48 → (n ≤ k → SameChan k s (eachUpTo n (chanEval true) s)) ∧
      (k < n → (eachUpTo n (chanEval true) s).on (GALC.OUT k) = (effCmd s k && bankFor s k && !chBlocked s k)) := by
    intro n
    induction n with
    | zero => exact fun _ => ⟨fun _ => ⟨rfl, rfl, rfl, rfl, rfl, fun _ _ _ => rfl⟩, fun h => absurd h (Nat.not_lt_zero k)⟩
    | succ n ih =>
      intro hn
      obtain ⟨h1, h2⟩ := ih (by omega)
      show (n + 1 ≤ k → SameChan k s (chanEval true (eachUpTo n (chanEval true) s) n)) ∧
        (k < n + 1 → (chanEval true (eachUpTo n (chanEval true) s) n).on (GALC.OUT k) = _)
      refine ⟨fun h => (h1 (by omega)).trans (.eval (by omega) (by omega)), fun h => ?_⟩
      by_cases hkn : k = n
      · subst hkn
        have w := h1 (Nat.le_refl _)
        rw [chanEval_out (by rw [hasCh_congr w.member]; exact hc), w.out hk hc]
      · rw [State.on, chanEval_other (by omega) hk (fun e => hkn e.symm)]
        exact h2 (by omega)
  unfold galEval
  rw [galShow_on (key_GALC_OUT k) (by decide +kernel)]
  exact (loop 48 (Nat.le_refl _)).2 hk

/-- The channels of a bank whose supply side is not sound are off (R266). -/
theorem galEval_bank {b : Bool} (hb : bankSound s b = false) {k : Nat} (hk : k < 48) (hc : s.hasCh k = true) (hi : isBankB k = b) :
    (galEval s).on (GALC.OUT k) = false := by
  rw [galEval_out hk hc]; simp [bankFor, hi, hb]

end Sys2Proof.Machine
end

