-- ==== Sys2Proof/Laws/Verdicts.lean ====
section
/-! SUPPORT. What evaluating the safety function leaves: the mirrors agree with what the formulas give in the state that results. -/

set_option Elab.async false

namespace Sys2Proof.Machine

variable {s t u : State}

/-- What a mask of nothing holds. -/
theorem maskOf_zero {f : Nat → Bool} {n : Nat} (h : ∀ i < n, f i = false) : maskOf f n = 0 := by
  induction n with
  | zero => rfl
  | succ n ih => simp [maskOf, ih (fun i hi => h i (by omega)), h n (by omega)]

theorem maskOf_congr {f g : Nat → Bool} {n : Nat} (h : ∀ i < n, f i = g i) : maskOf f n = maskOf g n := by
  induction n with
  | zero => rfl
  | succ n ih => simp [maskOf, ih (fun i hi => h i (by omega)), h n (by omega)]

theorem maskOf_lt (f : Nat → Bool) (n : Nat) : maskOf f n < 2 ^ n := by
  induction n with
  | zero => exact Nat.one_pos
  | succ n ih => simp only [maskOf, Nat.pow_succ]; split <;> omega

theorem bitAt_maskOf (f : Nat → Bool) {n i : Nat} (h : i < n) : bitAt (maskOf f n) i = f i := by
  induction n with
  | zero => omega
  | succ n ih =>
    have hlt := maskOf_lt f n
    rcases Nat.lt_succ_iff_lt_or_eq.mp h with h | rfl
    · have e : (maskOf f n + 2 ^ n) / 2 ^ i % 2 = maskOf f n / 2 ^ i % 2 := by
        obtain ⟨k, rfl⟩ : ∃ k, n = i + (k + 1) := ⟨n - i - 1, by omega⟩
        rw [show 2 ^ (i + (k + 1)) = 2 ^ i * (2 * 2 ^ k) by rw [Nat.pow_add, Nat.pow_succ 2 k, Nat.mul_comm (2 ^ k) 2],
          Nat.add_mul_div_left _ _ (Nat.two_pow_pos i), Nat.add_mul_mod_self_left]
      rw [← ih h]
      simp only [maskOf, bitAt]
      split
      · rw [e]
      · rfl
    · simp only [maskOf, bitAt]
      cases hf : f i
      · simp [Nat.div_eq_of_lt hlt]
      · simp [Nat.add_div_right _ (Nat.two_pow_pos i), Nat.div_eq_of_lt hlt]

/-- A bit of a mask field is below its width. -/
theorem bit_set_maskOf {r : Reg} {f : Nat → Bool} {i : Nat} (h : i < r.w) : (s.set r (maskOf f r.w)).bit r i = f i := by
  rw [State.bit, State.get_set_self, Nat.mod_eq_of_lt (maskOf_lt f r.w), bitAt_maskOf f h]

/-- What the formulas read of a channel reads the same in `x` as in `y`. -/
structure Chan.Reads (x y : Chan) : Prop where
  lv : x.lv = y.lv
  iso : x.iso = y.iso
  egrBad : x.egrBad = y.egrBad
  report : x.report = y.report

@[refl] theorem Chan.Reads.refl (x : Chan) : Chan.Reads x x := ⟨rfl, rfl, rfl, rfl⟩

theorem Chan.Reads.trans {x y z : Chan} (a : Chan.Reads x y) (b : Chan.Reads y z) : Chan.Reads x z :=
  ⟨a.lv.trans b.lv, a.iso.trans b.iso, a.egrBad.trans b.egrBad, a.report.trans b.report⟩

/-- What the safety channels read reads the same in `t` as in `s`. -/
structure SameSaf (s t : State) : Prop where
  member : t.member = s.member
  phase : t.pwr.phase = s.pwr.phase
  saf : Chan.Reads t.saf.saf s.saf.saf
  col : Chan.Reads t.saf.col s.saf.col
  disc : t.saf.disc = s.saf.disc
  thin : t.saf.thin = s.saf.thin
  sealA : t.saf.sealA = s.saf.sealA
  colLost : t.saf.colLost = s.saf.colLost
  spLost : t.saf.spLost = s.saf.spLost
  stoTest : t.saf.stoTest = s.saf.stoTest
  votes : t.voteBad = s.voteBad
  block : ∀ a, t.rd8 pgSAFM 1 a = s.rd8 pgSAFM 1 a
  sys_refuge : t.get SYS.REFUGE = s.get SYS.REFUGE
  sys_lc_state : t.get SYS.LC_STATE = s.get SYS.LC_STATE
  sys_lc_wipe_pend : t.get SYS.LC_WIPE_PEND = s.get SYS.LC_WIPE_PEND
  safm_sp_run : t.get SAFM.SP_RUN = s.get SAFM.SP_RUN
  colm_col_ok : t.get COLM.COL_OK = s.get COLM.COL_OK
  dom : ∀ d, d ≠ 10 → t.domOn d = s.domOn d
  safm_latch_saf : t.get SAFM.LATCH_SAF = s.get SAFM.LATCH_SAF
  colm_latch_col : t.get COLM.LATCH_COL = s.get COLM.LATCH_COL
  safm_net_restr : t.get SAFM.NET_RESTR = s.get SAFM.NET_RESTR
  dst_rel_l_tg : t.get DST.REL_L_TG = s.get DST.REL_L_TG
  dst_rel_r_tg : t.get DST.REL_R_TG = s.get DST.REL_R_TG
  dst_zs_tg : t.get DST.ZS_TG = s.get DST.ZS_TG
  dst_open_en_tg : t.get DST.OPEN_EN_TG = s.get DST.OPEN_EN_TG
  dst_inhibit_tg : t.get DST.INHIBIT_TG = s.get DST.INHIBIT_TG
  dst_close_tg : t.get DST.CLOSE_TG = s.get DST.CLOSE_TG
  cycd_state : ∀ n, t.get (CYCD.STATE n) = s.get (CYCD.STATE n)
  cycd_th_close : ∀ n, t.get (CYCD.TH_CLOSE n) = s.get (CYCD.TH_CLOSE n)
  safm_host_wd : t.get SAFM.HOST_WD = s.get SAFM.HOST_WD
  colm_rw_mask : t.get COLM.RW_MASK = s.get COLM.RW_MASK
  pwr_bus_ov : t.get PWR.BUS_OV = s.get PWR.BUS_OV
  pwr_pf_warn : t.get PWR.PF_WARN = s.get PWR.PF_WARN
  sys_st_done : t.get SYS.ST_DONE = s.get SYS.ST_DONE

/-- A mask that names none of it, the domains apart. -/
def safKept10 (m : Nat) : Bool := memFree m (pgSAFM * 16 + 1) && !m.testBit 14 && [39, 34, 35, 183, 214, 194, 237, 175, 875, 876, 877, 878, 879, 880, 268, 295, 176, 215, 76, 79, 41].all (keeps m)

/-- A mask that names none of it. -/
def safKept (m : Nat) : Bool := safKept10 m && keeps m 88

/-- An operation whose mask names none of it but domains, and which leaves the parts of the safety architecture and every domain but P10
alone. -/
theorem SameSaf.of_within10 {m : Nat} (w : Within m s t) (h : safKept10 m = true) (hd : ∀ d, d ≠ 10 → t.domOn d = s.domOn d) (hp : t.pwr.phase = s.pwr.phase)
    (h1 : Chan.Reads t.saf.saf s.saf.saf) (h2 : Chan.Reads t.saf.col s.saf.col) (h3 : t.saf.disc = s.saf.disc) (h4 : t.saf.thin = s.saf.thin)
    (h5 : t.saf.sealA = s.saf.sealA) (h6 : t.saf.colLost = s.saf.colLost) (h7 : t.saf.spLost = s.saf.spLost)
    (h8 : t.saf.stoTest = s.saf.stoTest) : SameSaf s t := by
  simp only [safKept10, List.all_cons, List.all_nil, Bool.and_true, Bool.and_eq_true, Bool.not_eq_true'] at h
  obtain ⟨⟨hm, hv⟩, a0, a1, a2, a3, a4, a6, a7, a8, a9, a10, a11, a12, a13, a14, a15, a16, a17, a19, a20, a21, a22⟩ := h
  exact ⟨w.member, hp, h1, h2, h3, h4, h5, h6, h7, h8, w.voteBad hv, fun a => w.rd8 hm a, w.get key_SYS_REFUGE a0, w.get key_SYS_LC_STATE a1, w.get key_SYS_LC_WIPE_PEND a2, w.get key_SAFM_SP_RUN a3, w.get key_COLM_COL_OK a4, hd, w.get key_SAFM_LATCH_SAF a6, w.get key_COLM_LATCH_COL a7, w.get key_SAFM_NET_RESTR a8, w.get key_DST_REL_L_TG a9, w.get key_DST_REL_R_TG a10, w.get key_DST_ZS_TG a11, w.get key_DST_OPEN_EN_TG a12, w.get key_DST_INHIBIT_TG a13, w.get key_DST_CLOSE_TG a14, fun n => w.get (key_CYCD_STATE n) a15, fun n => w.get (key_CYCD_TH_CLOSE n) a16, w.get key_SAFM_HOST_WD a17, w.get key_COLM_RW_MASK a19, w.get key_PWR_BUS_OV a20, w.get key_PWR_PF_WARN a21, w.get key_SYS_ST_DONE a22⟩

/-- An operation whose mask names none of it, and which leaves the parts of the safety architecture alone. -/
theorem SameSaf.of_within {m : Nat} (w : Within m s t) (h : safKept m = true) (hp : t.pwr.phase = s.pwr.phase)
    (h1 : Chan.Reads t.saf.saf s.saf.saf) (h2 : Chan.Reads t.saf.col s.saf.col) (h3 : t.saf.disc = s.saf.disc) (h4 : t.saf.thin = s.saf.thin)
    (h5 : t.saf.sealA = s.saf.sealA) (h6 : t.saf.colLost = s.saf.colLost) (h7 : t.saf.spLost = s.saf.spLost)
    (h8 : t.saf.stoTest = s.saf.stoTest) : SameSaf s t := by
  simp only [safKept, Bool.and_eq_true] at h
  exact .of_within10 w h.1 (fun d _ => by simp only [State.domOn, State.bit, w.get key_PWR_DOM_ON h.2]) hp h1 h2 h3 h4 h5 h6 h7 h8

theorem SameSaf.of_parts {m : Nat} (w : Within m s t) (h : safKept m = true) (hp : m.testBit 9 = false) (hs : m.testBit 12 = false) :
    SameSaf s t := by
  have e := w.saf hs
  exact .of_within w h (by rw [w.pwr hp]) (by rw [e]) (by rw [e]) (by rw [e]) (by rw [e]) (by rw [e]) (by rw [e]) (by rw [e]) (by rw [e])

theorem SameSaf.refl (s : State) : SameSaf s s := .of_parts (Within.refl 0 s) (by decide +kernel) rfl rfl

theorem SameSaf.trans (a : SameSaf s t) (b : SameSaf t u) : SameSaf s u where
  member := b.member.trans a.member
  phase := b.phase.trans a.phase
  saf := b.saf.trans a.saf
  col := b.col.trans a.col
  disc := b.disc.trans a.disc
  thin := b.thin.trans a.thin
  sealA := b.sealA.trans a.sealA
  colLost := b.colLost.trans a.colLost
  spLost := b.spLost.trans a.spLost
  stoTest := b.stoTest.trans a.stoTest
  votes := b.votes.trans a.votes
  block x := (b.block x).trans (a.block x)
  sys_refuge := (b.sys_refuge).trans (a.sys_refuge)
  sys_lc_state := (b.sys_lc_state).trans (a.sys_lc_state)
  sys_lc_wipe_pend := (b.sys_lc_wipe_pend).trans (a.sys_lc_wipe_pend)
  safm_sp_run := (b.safm_sp_run).trans (a.safm_sp_run)
  colm_col_ok := (b.colm_col_ok).trans (a.colm_col_ok)
  dom d hd := (b.dom d hd).trans (a.dom d hd)
  safm_latch_saf := (b.safm_latch_saf).trans (a.safm_latch_saf)
  colm_latch_col := (b.colm_latch_col).trans (a.colm_latch_col)
  safm_net_restr := (b.safm_net_restr).trans (a.safm_net_restr)
  dst_rel_l_tg := (b.dst_rel_l_tg).trans (a.dst_rel_l_tg)
  dst_rel_r_tg := (b.dst_rel_r_tg).trans (a.dst_rel_r_tg)
  dst_zs_tg := (b.dst_zs_tg).trans (a.dst_zs_tg)
  dst_open_en_tg := (b.dst_open_en_tg).trans (a.dst_open_en_tg)
  dst_inhibit_tg := (b.dst_inhibit_tg).trans (a.dst_inhibit_tg)
  dst_close_tg := (b.dst_close_tg).trans (a.dst_close_tg)
  cycd_state n := (b.cycd_state n).trans (a.cycd_state n)
  cycd_th_close n := (b.cycd_th_close n).trans (a.cycd_th_close n)
  safm_host_wd := (b.safm_host_wd).trans (a.safm_host_wd)
  colm_rw_mask := (b.colm_rw_mask).trans (a.colm_rw_mask)
  pwr_bus_ov := (b.pwr_bus_ov).trans (a.pwr_bus_ov)
  pwr_pf_warn := (b.pwr_pf_warn).trans (a.pwr_pf_warn)
  sys_st_done := (b.sys_st_done).trans (a.sys_st_done)

/-! What follows from it. -/

theorem SameSaf.chan (w : SameSaf s t) (c : Channel) : Chan.Reads (t.chan c) (s.chan c) := by
  cases c
  · exact w.saf
  · exact w.col

theorem SameSaf.latch (w : SameSaf s t) (c : Channel) : t.get (latchReg c) = s.get (latchReg c) := by
  cases c <;> simp only [latchReg, w.safm_latch_saf, w.colm_latch_col]

theorem SameSaf.latched (w : SameSaf s t) (c : Channel) (b : Nat) : latched t c b = latched s c b := by
  simp only [Machine.latched, State.bit, w.latch]

theorem SameSaf.lvl (w : SameSaf s t) (c : Channel) (k : Nat) : lvl t c k = lvl s c k := by
  simp only [Machine.lvl, w.disc, w.latched, (w.chan c).lv]

theorem SameSaf.param (w : SameSaf s t) (a : Nat) : param t a = param s a := w.block a

theorem SameSaf.sideRight (w : SameSaf s t) (n : Nat) : sideRight t n = sideRight s n := by simp only [Machine.sideRight, w.param]

theorem SameSaf.inRefuge (w : SameSaf s t) : t.inRefuge = s.inRefuge := by simp only [State.inRefuge, State.on, w.sys_refuge]

theorem SameSaf.lc (w : SameSaf s t) : t.lc = s.lc := w.sys_lc_state

theorem SameSaf.chanUp (w : SameSaf s t) (c : Channel) : chanUp t c = chanUp s c := by
  cases c <;> simp only [Machine.chanUp, w.inRefuge, w.colLost, w.spLost, State.on, w.safm_sp_run, w.colm_col_ok, w.dom 1 (by decide), w.dom 2 (by decide)]

theorem SameSaf.estopMade (w : SameSaf s t) (c : Channel) : estopMade t c = estopMade s c := by simp only [Machine.estopMade, w.lvl]

theorem SameSaf.zeroSpeed (w : SameSaf s t) (c : Channel) : zeroSpeed t c = zeroSpeed s c := by
  cases c <;> simp only [Machine.zeroSpeed, srcOf, w.sealA, w.param, zsWire, w.lvl, State.on, w.dst_zs_tg]

theorem SameSaf.depotSub (w : SameSaf s t) (c : Channel) : depotSub t c = depotSub s c := by
  cases c <;> simp only [Machine.depotSub, w.sealA, w.lvl, w.zeroSpeed, w.lc]

theorem SameSaf.depotDoor (w : SameSaf s t) (c : Channel) (n : Nat) : depotDoor t c n = depotDoor s c n := by
  cases c <;> simp only [Machine.depotDoor, w.depotSub, w.cycd_state]

theorem SameSaf.openPermit (w : SameSaf s t) (c : Channel) (n : Nat) : openPermit t c n = openPermit s c n := by
  cases c <;> simp only [Machine.openPermit, hasDw_congr w.member, w.chanUp, w.latch, w.estopMade, State.on, w.safm_net_restr, released, srcOf,
    relWire, relTg, tgOpen, w.sealA, w.param, zsWire, w.lvl, State.bit, w.dst_zs_tg, w.dst_rel_l_tg, w.dst_rel_r_tg, w.dst_open_en_tg,
    w.dst_inhibit_tg, w.dst_close_tg, w.sideRight, w.depotDoor]

theorem SameSaf.gateOf (w : SameSaf s t) (c : Channel) (n : Nat) : gateOf t c n = gateOf s c n := by
  simp only [Machine.gateOf, egrFull, w.lvl, w.zeroSpeed, hasDw_congr w.member, w.chanUp, (w.chan c).iso, (w.chan c).egrBad, w.openPermit, w.depotDoor]

theorem SameSaf.motPermit (w : SameSaf s t) (h : t.get SAFM.ENC_HOLD = s.get SAFM.ENC_HOLD) (a : Nat) : motPermit t a = motPermit s a := by
  simp only [Machine.motPermit, motBase, hasAx_congr w.member, w.chanUp, w.sealA, w.saf.iso, w.saf.report, lcMotion, State.on, State.bit, w.sys_lc_wipe_pend, w.lc,
    w.depotSub, w.safm_host_wd, h, w.votes, thClosing, w.cycd_state, w.cycd_th_close]

theorem SameSaf.tqPermit (w : SameSaf s t) (a : Nat) : tqPermit t a = tqPermit s a := by
  simp only [Machine.tqPermit, hasAx_congr w.member, w.chanUp, w.estopMade, w.latched]

theorem SameSaf.tenBase (w : SameSaf s t) (a : Nat) : tenBase t a = tenBase s a := by
  simp only [Machine.tenBase, hasAx_congr w.member, w.chanUp, w.estopMade, w.latched, w.sealA, w.col.iso, w.stoTest, State.bit, State.on, w.colm_rw_mask,
    w.pwr_bus_ov, w.pwr_pf_warn, w.sys_lc_wipe_pend]

theorem SameSaf.allowB (w : SameSaf s t) : allowB t = allowB s := by
  simp only [Machine.allowB, w.chanUp, lcAdcl, State.on, w.sys_lc_wipe_pend, w.lc, parkedNow, w.phase]

theorem SameSaf.clOk (w : SameSaf s t) (c : Channel) (n : Nat) : clOk t c n = clOk s c n := by
  simp only [Machine.clOk, hasDw_congr w.member, w.lvl, stepFit, w.param, hasAx_congr w.member, egrOp, (w.chan c).iso, (w.chan c).egrBad]


/-! The evaluation, operation by operation. -/

theorem sameSaf_shows : SameSaf s (safetyShow s) := .of_parts within_safetyShow (by decide +kernel) rfl rfl

theorem eachUpTo_keeps {P : State → Prop} {f : State → Nat → State} (hf : ∀ s n, P s → P (f s n)) (h : P s) : ∀ n, P (eachUpTo n f s)
  | 0 => h
  | n + 1 => hf _ n (eachUpTo_keeps hf h n)

theorem eachAx_keeps {P : State → Prop} {f : State → Nat → State} (hf : ∀ s n, P s → P (f s n)) (h : P s) : P (eachAx f s) :=
  eachUpTo_keeps (fun s n hs => by split <;> first | exact hf s n hs | exact hs) h 16

theorem eachDw_keeps {P : State → Prop} {f : State → Nat → State} (hf : ∀ s n, P s → P (f s n)) (h : P s) : P (eachDw f s) :=
  eachUpTo_keeps (fun s n hs => by split <;> first | exact hf s n hs | exact hs) h 8

theorem sameSaf_doors : SameSaf s (eachDw doorShow s) :=
  eachDw_keeps (P := SameSaf s) (fun _ _ h => h.trans (.of_parts within_doorShow (by decide +kernel) rfl rfl)) (.refl s)

theorem sameSaf_sto : SameSaf s (stoSync s) := .of_parts within_stoSync (by decide +kernel) rfl rfl

theorem sameSaf_stops {b : Nat} : SameSaf s (eachAx (permitStop b) s) :=
  eachAx_keeps (P := SameSaf s) (fun _ _ h => h.trans (.of_parts within_permitStop (by decide +kernel) rfl rfl)) (.refl s)

theorem sameSaf_source {n b : Nat} : SameSaf s (s.source n b) := .of_parts within_State_source (by decide +kernel) rfl rfl

theorem sameSaf_sendReversal {n : Nat} : SameSaf s (sendReversal s n) := by
  refine .of_within within_sendReversal (by decide +kernel) ?_ ?_ ?_ ?_ ?_ ?_ ?_ ?_ ?_ <;> (unfold sendReversal; split <;> rfl)

theorem SameSaf.ite {p : Prop} [Decidable p] {u v : State} (hu : SameSaf s u) (hv : SameSaf s v) : SameSaf s (if p then u else v) := by
  split
  · exact hu
  · exact hv

theorem sameSaf_obstacles1 {n : Nat} : SameSaf s (obstacles s n) := by
  unfold obstacles
  extract_lets -merge -useContext -underBinder a edge curtain force s1 s2 s3
  refine .ite (.refl s) ?_
  have h1 : SameSaf s s1 := .ite sameSaf_source (.refl s)
  have h2 : SameSaf s s2 := .ite (h1.trans sameSaf_source) h1
  have h3 : SameSaf s s3 := .ite (h2.trans sameSaf_source) h2
  exact .ite (h3.trans sameSaf_sendReversal) h3

theorem sameSaf_watch1 {n : Nat} : SameSaf s (watchSync s n) := by
  refine .of_within within_watchSync (by decide +kernel) ?_ ?_ ?_ ?_ ?_ ?_ ?_ ?_ ?_ <;> (unfold watchSync; split <;> rfl)

theorem sameSaf_edmFollow {s0 : State} : SameSaf s (edmFollow s0 s) := by
  refine .of_within within_edmFollow (by decide +kernel) ?_ ?_ ?_ ?_ ?_ ?_ ?_ ?_ ?_ <;>
    (unfold edmFollow; simp only; split <;> split <;> first | rfl | exact ⟨rfl, rfl, rfl, rfl⟩)

/-- Driving the coils, in the steps of its definition. -/
theorem adclDrive_eq : ∃ s1 s2 : State, s1 = (s.setB CYC.ADCL_SAF (adclVerdict s .saf)).setB CYC.ADCL_COL (adclVerdict s .col) ∧
    s2 = ((((s1.setB SAFM.ADCL_A_ON (coilOf s1 .saf)).setB SAFM.ADCL_A_RB (guided s1 false (coilOf s1 .saf))).setB COLM.ADCL_B_ON
      (coilOf s1 .col)).setB COLM.ADCL_B_RB (guided ((s1.setB SAFM.ADCL_A_ON (coilOf s1 .saf)).setB SAFM.ADCL_A_RB
      (guided s1 false (coilOf s1 .saf))) true (coilOf s1 .col))).setB COLM.ADCL_ALLOW
      (allowB ((s1.setB SAFM.ADCL_A_ON (coilOf s1 .saf)).setB SAFM.ADCL_A_RB (guided s1 false (coilOf s1 .saf)))) ∧
    adclDrive s = edmFollow s1 s2 := ⟨_, _, rfl, rfl, rfl⟩

theorem sameSaf_drive : SameSaf s (adclDrive s) := by
  obtain ⟨s1, s2, rfl, rfl, e⟩ := adclDrive_eq (s := s)
  have w := within_adclDrive (s := s)
  have f := fun u v : State => sameSaf_edmFollow (s := u) (s0 := v)
  refine .of_within w (by decide +kernel) ?_ ?_ ?_ ?_ ?_ ?_ ?_ ?_ ?_ <;> rw [e]
  · exact (f _ _).phase
  · exact (f _ _).saf
  · exact (f _ _).col
  · exact (f _ _).disc
  · exact (f _ _).thin
  · exact (f _ _).sealA
  · exact (f _ _).colLost
  · exact (f _ _).spLost
  · exact (f _ _).stoTest

theorem sameSaf_gates : SameSaf s (gateSync s) := .of_parts within_gateSync (by decide +kernel) rfl rfl

theorem sameSaf_gal : SameSaf s (galEval s) := .of_parts within_galEval (by decide +kernel) rfl rfl

theorem sameSaf_crawl : SameSaf s (crawlSync s) := .of_parts within_crawlSync (by decide +kernel) rfl rfl

theorem sameSaf_vision : SameSaf s (visionEval s) := by
  have h : SameSaf s (eachDw visionEval1 s) :=
    eachDw_keeps (P := SameSaf s) (fun u n h => h.trans (by
      refine .of_within within_visionEval1 (by decide +kernel) ?_ ?_ ?_ ?_ ?_ ?_ ?_ ?_ ?_ <;>
        (unfold visionEval1; simp only; split <;> split <;> rfl))) (.refl s)
  unfold visionEval
  refine h.trans (.trans (.of_parts (Within.setB (.refl _ _) key_SYS_VISION_FULL (M := 1 <<< 69) rfl) (by decide +kernel) rfl rfl)
    (.of_parts within_visionShow (by decide +kernel) rfl rfl))

theorem sameSaf_evalRest : SameSaf s (crawlSync (visionEval s)) := sameSaf_vision.trans sameSaf_crawl


theorem doorMask_congr {f g : Nat → Bool} (h : ∀ n, f n = g n) : doorMask f = doorMask g := maskOf_congr fun n _ => h n

/-- The mirrors of the permits stay right while nothing of it changes. -/
theorem PermitsShown.same (h : PermitsShown s) (w : SameSaf s t)
    (g1 : t.get SAFM.OP_SAF_M = s.get SAFM.OP_SAF_M) (g2 : t.get COLM.OP_COL_M = s.get COLM.OP_COL_M) (g3 : t.get SAFM.LOCK_EN_SAF = s.get SAFM.LOCK_EN_SAF) (g4 : t.get COLM.LOCK_EN_COL = s.get COLM.LOCK_EN_COL) (g5 : t.get SAFM.MOT_PERMIT = s.get SAFM.MOT_PERMIT) (g6 : t.get SAFM.TQ_PERMIT = s.get SAFM.TQ_PERMIT) (g7 : t.get COLM.TEN_MASK = s.get COLM.TEN_MASK) (g8 : t.get SAFM.ENC_HOLD = s.get SAFM.ENC_HOLD) : PermitsShown t := by
  refine ⟨?_, ?_, ?_, ?_, ?_, ?_, fun a => ?_⟩
  · rw [g1, h.opSaf]; exact doorMask_congr fun n => (w.openPermit .saf n).symm
  · rw [g2, h.opCol]; exact doorMask_congr fun n => (w.openPermit .col n).symm
  · rw [g3, h.gateSaf]; exact doorMask_congr fun n => (w.gateOf .saf n).symm
  · rw [g4, h.gateCol]; exact doorMask_congr fun n => (w.gateOf .col n).symm
  · rw [g5, h.mot]; exact maskOf_congr fun n _ => (w.motPermit g8 n).symm
  · rw [g6, h.tq]; exact maskOf_congr fun n _ => (w.tqPermit n).symm
  · rw [State.bit, g7, w.tenBase]; exact h.ten a

theorem PermitsShown.within {m : Nat} (h : PermitsShown s) (w : SameSaf s t) (e : Within m s t)
    (g : [187, 220, 186, 219, 189, 188, 216, 197].all (keeps m) = true) : PermitsShown t := by
  simp only [List.all_cons, List.all_nil, Bool.and_true, Bool.and_eq_true] at g
  obtain ⟨g1, g2, g3, g4, g5, g6, g7, g8⟩ := g
  exact h.same w (e.get key_SAFM_OP_SAF_M g1) (e.get key_COLM_OP_COL_M g2) (e.get key_SAFM_LOCK_EN_SAF g3) (e.get key_COLM_LOCK_EN_COL g4) (e.get key_SAFM_MOT_PERMIT g5) (e.get key_SAFM_TQ_PERMIT g6) (e.get key_COLM_TEN_MASK g7) (e.get key_SAFM_ENC_HOLD g8)

theorem adclVerdict_congr (w : SameSaf s t) (h1 : ∀ n, t.get (AX.TORQUE n) = s.get (AX.TORQUE n)) (h2 : ∀ n, t.get (AX.HOLD n) = s.get (AX.HOLD n))
    (c : Channel) : adclVerdict t c = adclVerdict s c := by
  simp only [adclVerdict, State.inSvc, hasDw_congr w.member, w.sealA, w.clOk, State.on, h1, h2, w.thin]

/-- The mirrors of the ADCL coils stay right while nothing of it changes. -/
theorem CoilsShown.same (h : CoilsShown s) (w : SameSaf s t) (h1 : ∀ n, t.get (AX.TORQUE n) = s.get (AX.TORQUE n))
    (h2 : ∀ n, t.get (AX.HOLD n) = s.get (AX.HOLD n)) (g1 : t.get SAFM.ADCL_A_ON = s.get SAFM.ADCL_A_ON)
    (g2 : t.get COLM.ADCL_B_ON = s.get COLM.ADCL_B_ON) : CoilsShown t := by
  constructor
  · rw [State.on, g1, adclVerdict_congr w h1 h2, w.safm_latch_saf, w.allowB, w.chanUp, State.on, w.pwr_pf_warn]; exact h.coilA
  · rw [State.on, g2, adclVerdict_congr w h1 h2, w.colm_latch_col, w.allowB, w.chanUp, State.on, w.pwr_pf_warn]; exact h.coilB

theorem CoilsShown.within {m : Nat} (h : CoilsShown s) (w : SameSaf s t) (e : Within m s t)
    (g : [337, 335, 182, 213].all (keeps m) = true) : CoilsShown t := by
  simp only [List.all_cons, List.all_nil, Bool.and_true, Bool.and_eq_true] at g
  exact h.same w (fun n => e.get (key_AX_TORQUE n) g.1) (fun n => e.get (key_AX_HOLD n) g.2.1) (e.get key_SAFM_ADCL_A_ON g.2.2.1)
    (e.get key_COLM_ADCL_B_ON g.2.2.2)

/-- The permits of a state formed again. -/
theorem safetyPermits_shown : PermitsShown (safetyPermits s) := by
  unfold safetyPermits
  extract_lets -merge -useContext -underBinder c1 s1 c2 s2 s3 s4 s5 s6 s7 s8 s9 s10
  have k : ∀ {u : State} {r : Reg} {v i : Nat}, (famAt i).has r.key → safKept (1 <<< (32 + i)) = true →
      (1 <<< (32 + i)).testBit (32 + i) = true → (1 <<< (32 + i)).testBit 9 = false → (1 <<< (32 + i)).testBit 12 = false →
      SameSaf u (u.set r v) := fun hr h h5 hp hs => .of_parts (Within.set (Within.refl _ _) hr h5) h hp hs
  have w3 : SameSaf s2 s3 := k key_SAFM_OP_SAF_M (by decide +kernel) rfl rfl rfl
  have w4 : SameSaf s3 s4 := k key_COLM_OP_COL_M (by decide +kernel) rfl rfl rfl
  have w5 : SameSaf s4 s5 := (k key_CYC_OP_SAF_MASK (by decide +kernel) rfl rfl rfl).trans (k key_CYC_OP_COL_MASK (by decide +kernel) rfl rfl rfl)
  have w6 : SameSaf s5 s6 := k key_SAFM_LOCK_EN_SAF (by decide +kernel) rfl rfl rfl
  have w7 : SameSaf s6 s7 := k key_COLM_LOCK_EN_COL (by decide +kernel) rfl rfl rfl
  have w8 : SameSaf s7 s8 := by
    refine eachAx_keeps (P := SameSaf s7) (fun u n h => ?_) (.refl s7)
    split
    · exact h.trans (k key_SAFM_ENC_HOLD (by decide +kernel) rfl rfl rfl)
    · exact h
  have w9 : SameSaf s8 s9 := k key_SAFM_MOT_PERMIT (by decide +kernel) rfl rfl rfl
  have w10 : SameSaf s9 s10 := k key_SAFM_TQ_PERMIT (by decide +kernel) rfl rfl rfl
  have w11 : SameSaf s10 (s10.set COLM.TEN_MASK (maskOf (tenOf s10) 16)) := k key_COLM_TEN_MASK (by decide +kernel) rfl rfl rfl
  have g8 : ∀ {r : Reg}, r.key ≠ SAFM.ENC_HOLD.key → s8.get r = s7.get r := fun hr =>
    eachAx_keeps (P := fun u => u.get _ = s7.get _) (fun u n h => by
      split
      · rw [State.setBit, State.get_set_other _ (Ne.symm hr)]; exact h
      · exact h) rfl
  have b8 : ∀ f, maskOf f 8 % 2 ^ 8 = maskOf f 8 := fun f => Nat.mod_eq_of_lt (maskOf_lt f 8)
  have b16 : ∀ f, maskOf f 16 % 2 ^ 16 = maskOf f 16 := fun f => Nat.mod_eq_of_lt (maskOf_lt f 16)
  have o : ∀ {u : State} {r q : Reg} {v : Nat}, r.key ≠ q.key → (u.set r v).get q = u.get q := fun h => State.get_set_other _ h _
  refine ⟨?_, ?_, ?_, ?_, ?_, ?_, fun a h => ?_⟩
  · rw [o (by decide), o (by decide), o (by decide), g8 (by decide), o (by decide), o (by decide), o (by decide), o (by decide), o (by decide),
      State.get_set_self]
    exact (b8 _).trans (doorMask_congr fun n => ((w3.trans (w4.trans (w5.trans (w6.trans (w7.trans (w8.trans (w9.trans (w10.trans w11)))))))).openPermit .saf n).symm)
  · rw [o (by decide), o (by decide), o (by decide), g8 (by decide), o (by decide), o (by decide), o (by decide), o (by decide), State.get_set_self]
    exact (b8 _).trans (doorMask_congr fun n => ((w4.trans (w5.trans (w6.trans (w7.trans (w8.trans (w9.trans (w10.trans w11))))))).openPermit .col n).symm)
  · rw [o (by decide), o (by decide), o (by decide), g8 (by decide), o (by decide), State.get_set_self]
    exact (b8 _).trans (doorMask_congr fun n => ((w6.trans (w7.trans (w8.trans (w9.trans (w10.trans w11))))).gateOf .saf n).symm)
  · rw [o (by decide), o (by decide), o (by decide), g8 (by decide), State.get_set_self]
    exact (b8 _).trans (doorMask_congr fun n => ((w7.trans (w8.trans (w9.trans (w10.trans w11)))).gateOf .col n).symm)
  · rw [o (by decide), o (by decide), State.get_set_self]
    refine (b16 _).trans (maskOf_congr fun n _ => ((w9.trans (w10.trans w11)).motPermit ?_ n).symm)
    rw [o (by decide), o (by decide), o (by decide)]
  · rw [o (by decide), State.get_set_self]
    exact (b16 _).trans (maskOf_congr fun n _ => ((w10.trans w11).tqPermit n).symm)
  · rw [State.bit, State.get_set_self] at h
    rw [w11.tenBase]
    by_cases ha : a < 16
    · have e := bitAt_maskOf (tenOf s10) ha
      rw [show maskOf (tenOf s10) 16 % 2 ^ COLM.TEN_MASK.w = maskOf (tenOf s10) 16 from b16 _, e] at h
      simp only [tenOf, Bool.and_eq_true] at h
      exact h.1
    · rw [show maskOf (tenOf s10) 16 % 2 ^ COLM.TEN_MASK.w = maskOf (tenOf s10) 16 from b16 _, bitAt,
        Nat.div_eq_of_lt (Nat.lt_of_lt_of_le (maskOf_lt _ 16) (Nat.pow_le_pow_right (by decide) (by omega)))] at h
      exact absurd h (by decide)


/-- The coils driven again. -/
theorem adclDrive_shown : CoilsShown (adclDrive s) := by
  have w := sameSaf_drive (s := s)
  have e := within_adclDrive (s := s)
  have ht : ∀ n, (adclDrive s).get (AX.TORQUE n) = s.get (AX.TORQUE n) := fun n => e.get (key_AX_TORQUE n) (by decide +kernel)
  have hh : ∀ n, (adclDrive s).get (AX.HOLD n) = s.get (AX.HOLD n) := fun n => e.get (key_AX_HOLD n) (by decide +kernel)
  let u := (s.setB CYC.ADCL_SAF (adclVerdict s .saf)).setB CYC.ADCL_COL (adclVerdict s .col)
  have wu : SameSaf s u := (SameSaf.of_parts (Within.setB (Within.refl _ s) key_CYC_ADCL_SAF (M := 1 <<< (32 + 255)) rfl) (by decide +kernel) rfl rfl).trans
    (SameSaf.of_parts (Within.setB (Within.refl _ _) key_CYC_ADCL_COL (M := 1 <<< (32 + 256)) rfl) (by decide +kernel) rfl rfl)
  obtain ⟨s1, s2, e1, e2, e3⟩ := adclDrive_eq (s := s)
  have hA : (adclDrive s).on SAFM.ADCL_A_ON = coilOf u .saf := by
    rw [e3, within_edmFollow.on key_SAFM_ADCL_A_ON (by decide +kernel), e2, State.on, get_setB_other (by decide), get_setB_other (by decide),
      get_setB_other (by decide), get_setB_other (by decide), e1]
    exact on_setB_self (by decide) _
  have hB : (adclDrive s).on COLM.ADCL_B_ON = coilOf u .col := by
    rw [e3, within_edmFollow.on key_COLM_ADCL_B_ON (by decide +kernel), e2, State.on, get_setB_other (by decide), get_setB_other (by decide), e1]
    exact on_setB_self (by decide) _
  have hv : ∀ c, adclVerdict u c = adclVerdict (adclDrive s) c := fun c =>
    (adclVerdict_congr wu (fun n => by simp only [u]; rw [get_setB_other (by simp only [Reg.key]; omega), get_setB_other (by simp only [Reg.key]; omega)])
      (fun n => by simp only [u]; rw [get_setB_other (by simp only [Reg.key]; omega), get_setB_other (by simp only [Reg.key]; omega)]) c).trans
      (adclVerdict_congr w ht hh c).symm
  constructor
  · intro h
    rw [hA] at h
    simp only [coilOf, coilAsked, Bool.and_eq_true, Bool.not_eq_true', decide_eq_true_eq] at h
    replace h := h.1
    rw [← hv, w.safm_latch_saf, w.allowB, w.chanUp, State.on, w.pwr_pf_warn, ← wu.safm_latch_saf, ← wu.allowB, ← wu.chanUp, ← wu.pwr_pf_warn]
    exact ⟨h.1.1.1.1.1.2, h.1.1.1.2, h.1.1.2, h.1.2, h.2⟩
  · intro h
    rw [hB] at h
    simp only [coilOf, coilAsked, Bool.and_eq_true, Bool.not_eq_true', decide_eq_true_eq] at h
    replace h := h.1
    rw [← hv, w.colm_latch_col, w.allowB, w.chanUp, State.on, w.pwr_pf_warn, ← wu.colm_latch_col, ← wu.allowB, ← wu.chanUp, ← wu.pwr_pf_warn]
    exact ⟨h.1.1.1.1.1.2, h.1.1.1.2, h.1.1.2, h.1.2, h.2⟩


/-- What evaluating the safety function leaves. -/
theorem safetyEval_shown : PermitsShown (safetyEval s) ∧ CoilsShown (safetyEval s) := by
  unfold safetyEval
  extract_lets -merge -useContext -underBinder gates before permits s1 s2 s3 s4 s5 s6 s7 s8 s9
  have h1 : PermitsShown s1 := safetyPermits_shown
  have h2 : PermitsShown s2 := h1.within sameSaf_shows within_safetyShow (by decide +kernel)
  have h3 : PermitsShown s3 := eachDw_keeps (P := PermitsShown)
    (fun _ _ h => h.within (.of_parts within_doorShow (by decide +kernel) rfl rfl) within_doorShow (by decide +kernel)) h2
  have h4 : PermitsShown s4 := h3.within (.of_parts (Within.set (Within.refl _ _) key_SAFM_SAF_STATE (M := 1 <<< (32 + 198)) rfl) (by decide +kernel) rfl rfl)
    (Within.set (Within.refl _ _) key_SAFM_SAF_STATE (M := 1 <<< (32 + 198)) rfl) (by decide +kernel)
  have h5 : PermitsShown s5 := h4.within sameSaf_sto within_stoSync (by decide +kernel)
  have h6 : PermitsShown s6 := eachAx_keeps (P := PermitsShown)
    (fun _ _ h => h.within (.of_parts within_permitStop (by decide +kernel) rfl rfl) within_permitStop (by decide +kernel)) h5
  have h7 : PermitsShown s7 := eachAx_keeps (P := PermitsShown)
    (fun _ _ h => h.within sameSaf_obstacles1 within_obstacles (by decide +kernel)) h6
  have h8 : PermitsShown s8 := eachAx_keeps (P := PermitsShown)
    (fun _ _ h => h.within sameSaf_watch1 within_watchSync (by decide +kernel)) h7
  have h9 : PermitsShown s9 := h8.within sameSaf_drive within_adclDrive (by decide +kernel)
  have c9 : CoilsShown s9 := adclDrive_shown
  split
  · exact ⟨h9, c9⟩
  · exact ⟨h9.within sameSaf_gates within_gateSync (by decide +kernel), c9.within sameSaf_gates within_gateSync (by decide +kernel)⟩

/-- The same of deciding the Gallery, of engaging Crawl, of trust and volumes, and so of evaluating everything. -/
theorem evalAll_shown : PermitsShown (evalAll s) ∧ CoilsShown (evalAll s) := by
  have h := safetyEval_shown (s := s)
  have w := sameSaf_vision (s := safetyEval s)
  have c := sameSaf_crawl (s := visionEval (safetyEval s))
  exact ⟨(h.1.within w within_visionEval (by decide +kernel)).within c within_crawlSync (by decide +kernel),
    (h.2.within w within_visionEval (by decide +kernel)).within c within_crawlSync (by decide +kernel)⟩

/-- The Crawl path switching P10 on leaves the mirrors right. -/
theorem crawlFeed_same : SameSaf s (crawlFeed s) := by
  unfold crawlFeed
  split
  · have d : SameSaf s (domOn1 s 10) := by
      refine .of_within10 within_domOn1 (by decide +kernel) (fun d h => ?_) ?_ ?_ ?_ ?_ ?_ ?_ ?_ ?_ ?_
      · unfold domOn1
        split
        · rfl
        · exact bit_setBit_other (r := PWR.DOM_ON) (by decide) (Ne.symm h) true
      all_goals
        unfold domOn1
        split <;> rfl
    refine d.trans ?_
    unfold crawlLoad
    refine SameSaf.trans ?_ sameSaf_crawl
    exact (eachUpTo_keeps (P := SameSaf (domOn1 s 10)) (fun u n h => h.trans (.of_parts
      (Within.set (Within.refl _ u) (key_CRAWL_CRAWL_MAP n) (M := 1 <<< (32 + 668)) rfl) (by decide +kernel) rfl rfl)) (.refl _) 12).trans
      (.of_parts (Within.setB (Within.refl _ _) key_CRAWL_MAP_LOADED (M := 1 <<< (32 + 664)) rfl) (by decide +kernel) rfl rfl)
  · exact .refl s

theorem crawlFeed_shown (h : PermitsShown s ∧ CoilsShown s) : PermitsShown (crawlFeed s) ∧ CoilsShown (crawlFeed s) :=
  ⟨h.1.within crawlFeed_same within_crawlFeed (by decide +kernel), h.2.within crawlFeed_same within_crawlFeed (by decide +kernel)⟩

/-- With nothing to enable torque, no axis has it. -/
theorem PermitsShown.ten_zero (h : PermitsShown t) (hn : ∀ a, tenBase t a = false) : t.get COLM.TEN_MASK = 0 := by
  have hb : ∀ a, bitAt (t.get COLM.TEN_MASK) a = false := fun a => by
    cases e : bitAt (t.get COLM.TEN_MASK) a
    · rfl
    · exact absurd (h.ten a e) (by simp [hn a])
  refine Nat.eq_of_testBit_eq fun i => ?_
  have := hb i
  simp only [bitAt] at this
  simp only [Nat.testBit, Nat.shiftRight_eq_div_pow, Nat.zero_testBit]
  simp only [Nat.zero_div, Nat.and_zero, Nat.one_and_eq_mod_two]
  simpa using this

end Sys2Proof.Machine
end

