-- ==== Sys2Proof/Laws/Outputs.lean ====
section
/-! SUPPORT. The outputs of the Gallery after it has been decided: each agrees with its command, its bank and its blocks. -/

set_option Elab.async false
namespace Sys2Proof.Machine
variable {s t : State}

/-- Clamping only ever locks. -/
theorem clampEvent_lock {c : Nat} (h : s.on (GALC.CLAMP_LOCK c) = true) : (clampEvent s c).on (GALC.CLAMP_LOCK c) = true := by
  unfold clampEvent
  extract_lets -merge -useContext -underBinder e s1 log src s2 s3 sum s4 spent s5 above s6
  have e4 : s4.on (GALC.CLAMP_LOCK c) = true := by
    refine (on_of_get (s := s) ?_).trans h
    simp only [s4, s3, get_setSat_other (show (GALC.CLAMP_SUM c).key ≠ (GALC.CLAMP_LOCK c).key by simp only [Reg.key]; omega),
      get_count_other (show (GALC.CH_CLAMP_CNT c).key ≠ (GALC.CLAMP_LOCK c).key by simp only [Reg.key]; omega),
      get_setSat_other (show (GALC.CLAMP_LAST c).key ≠ (GALC.CLAMP_LOCK c).key by simp only [Reg.key]; omega)]
    rfl
  have e5 : s5.on (GALC.CLAMP_LOCK c) = true := by
    simp only [s5]; split
    · exact (on_of_get (get_count_other (by simp only [Reg.key]; omega))).trans e4
    · exact e4
  have e6 : s6.on (GALC.CLAMP_LOCK c) = true := by
    simp only [s6]; split
    · exact (on_of_get ((get_count_other (by simp only [Reg.key]; omega)).trans (get_count_other (by simp only [Reg.key]; omega)))).trans e5
    · exact e5
  split
  · exact on_setB_self Nat.one_ne_zero true
  · exact e6

/-- A trip whose retry is not pending: a turn-on ends it together with the retry, so it reads the same after. -/
theorem chanSwitch_trip {f out : Bool} {c : Nat} :
    ((chanSwitch f out s c).on (GALC.OC_TRIP c) && !bitAt (chanSwitch f out s c).gal.retryPend c) =
      (s.on (GALC.OC_TRIP c) && !bitAt s.gal.retryPend c) := by
  unfold chanSwitch
  split
  · extract_lets -merge -useContext -underBinder retry s1 g2 s2 g3 s3
    have h1 : ((s3.setB (GALC.OUT c) true).setB (GALC.INRUSH c) (f || retry)).get (GALC.OC_TRIP c) = s2.get (GALC.OC_TRIP c) := by
      rw [get_setB_other (by simp only [Reg.key]; omega), get_setB_other (by simp only [Reg.key]; omega)]
      rfl
    rw [on_of_get h1]
    show (s2.on (GALC.OC_TRIP c) && !bitAt s2.gal.retryPend c) = _
    simp only [s2]
    split
    · rename_i h
      have h0 : bitAt s.gal.retryPend c = true := h
      have e : s1.on (GALC.OC_TRIP c) = false := on_setB_self Nat.one_ne_zero false
      show (s1.on (GALC.OC_TRIP c) && _) = _
      rw [e, h0]; simp
    · rfl
  · split
    · have h1 : (clampEvent ((s.setB (GALC.OUT c) false).setB (GALC.INRUSH c) false) c).get (GALC.OC_TRIP c) = s.get (GALC.OC_TRIP c) := by
        rw [within_clampEvent.get (key_GALC_OC_TRIP c) (by decide +kernel), get_setB_other (by simp only [Reg.key]; omega),
          get_setB_other (by simp only [Reg.key]; omega)]
      rw [on_of_get h1, clampEvent_retry]; rfl
    · rfl

/-- What keeps a channel off keeps it off when it has been switched. -/
theorem chanSwitch_blocked {f out : Bool} {c : Nat} (h : chBlocked s c = true) : chBlocked (chanSwitch f out s c) c = true := by
  have g : ∀ {r : Reg} {i : Nat}, (famAt i).has r.key → keeps mask_chanSwitch i = true → (chanSwitch f out s c).get r = s.get r :=
    fun hk ha => within_chanSwitch.get hk ha
  have hl : s.on (GALC.CLAMP_LOCK c) = true → (chanSwitch f out s c).on (GALC.CLAMP_LOCK c) = true := fun hc => by
    unfold chanSwitch
    split
    · refine (on_of_get (s := s) ?_).trans hc
      rw [get_setB_other (by simp only [Reg.key]; omega), get_setB_other (by simp only [Reg.key]; omega)]
      split
      · exact (get_setB_other (r := GALC.OC_TRIP c) (by simp only [Reg.key]; omega) false).trans
          (get_count_other (r := GAL.RETRY_CNT) (q := GALC.CLAMP_LOCK c) (by simp only [Reg.key]; omega))
      · rfl
    · split
      · refine clampEvent_lock ((on_of_get (s := s) ?_).trans hc)
        rw [get_setB_other (by simp only [Reg.key]; omega), get_setB_other (by simp only [Reg.key]; omega)]
      · exact hc
  unfold chBlocked at h ⊢
  rw [chanSwitch_trip]
  simp only [Bool.or_eq_true] at h ⊢
  simp only [State.on, gateOpen, State.bit, chanSwitch_waiting.1, g (key_GALC_OC_LOCK c) (by decide +kernel), g (key_GALC_TH_LATCH c) (by decide +kernel),
    g (key_GALC_SHED c) (by decide +kernel), g key_SAFM_LOCK_EN_SAF (by decide +kernel), g key_COLM_LOCK_EN_COL (by decide +kernel)]
  rcases h with (((h | h) | h) | h) | h
  · exact .inl (.inl (.inl (.inl h)))
  · have := hl h
    simp only [State.on] at this
    exact .inl (.inl (.inl (.inr this)))
  · exact .inl (.inl (.inr h))
  · exact .inl (.inr h)
  · exact .inr h

/-- What the command of a channel is read from, and what its bank is. -/
def cmdKept (m : Nat) : Bool := [667, 668, 34, 39, 665, 641, 642, 617, 618, 88].all (keeps m)
def bankKept (m : Nat) : Bool := [88, 79, 113, 75, 74, 612, 611, 614, 613, 610, 609, 608, 607].all (keeps m)

theorem effCmd_within {m c : Nat} (w : Within m s t) (h : cmdKept m = true) (hd : t.gal.direct = s.gal.direct) :
    effCmd t c = effCmd s c ∧ byCrawl t c = byCrawl s c := by
  simp only [cmdKept, List.all_cons, List.all_nil, Bool.and_true, Bool.and_eq_true] at h
  obtain ⟨a0, a1, a2, a3, a4, a5, a6, a7, a8, a9⟩ := h
  exact effCmd_congr (w.get key_CRAWL_CRAWL_ON a0) (fun k => w.get (key_CRAWL_CRAWL_MAP k) a1) w.member (w.get key_SYS_LC_STATE a2)
    (w.get key_SYS_REFUGE a3) hd (w.get key_CRAWL_CR_WD a4) (w.get (key_GALC_FOLLOW c) a5) (w.get (key_GALC_FOLLOW_PIN c) a6)
    (by unfold gcReg; split
        · exact w.get key_GAL_GC_ON_LO a7
        · exact w.get key_GAL_GC_ON_HI a8)
    (w.get key_PWR_DOM_ON a9)

theorem bankFor_within {m c : Nat} (w : Within m s t) (h : cmdKept m = true) (hb : bankKept m = true) (hd : t.gal.direct = s.gal.direct)
    (hp : t.pwr.untested = s.pwr.untested) : bankFor t c = bankFor s c := by
  simp only [bankKept, List.all_cons, List.all_nil, Bool.and_true, Bool.and_eq_true] at hb
  obtain ⟨b0, b1, b2, b3, b4, b5, b6, b7, b8, b9, b10, b11, b12⟩ := hb
  simp only [bankFor, bankSound, bankTested, State.on, State.domOn, State.bit, hp, (effCmd_within (c := c) w h hd).2, w.get key_PWR_DOM_ON b0, w.get key_PWR_PF_WARN b1, w.get key_CLK_CLK_FAIL b2, w.get key_PWR_GA_OK b3, w.get key_PWR_GB_OK b4, w.get key_GAL_A_OV b5, w.get key_GAL_B_OV b6, w.get key_GAL_A_REV b7, w.get key_GAL_B_REV b8, w.get key_GAL_A_GND b9, w.get key_GAL_B_GND b10, w.get key_GAL_A_FAULT b11, w.get key_GAL_B_FAULT b12]

/-- The output of a channel as its command, its bank and its blocks have it. -/
def chanOn (s : State) (k : Nat) : Bool := effCmd s k && bankFor s k && !chBlocked s k

/-- Deciding a channel leaves what decides it as it was. -/
theorem chanEval_formula {f : Bool} {k : Nat} (hc : s.hasCh k = true) : chanOn (chanEval f s k) k = chanOn s k := by
  have w := within_chanEval (s := s) (b0 := f) (b2 := k)
  have hd := (chanEval_waiting (s := s) (f := f) (c := k)).2
  have e := effCmd_within (c := k) w (by decide +kernel) hd
  have b := bankFor_within (c := k) w (by decide +kernel) (by decide +kernel) hd (by rw [w.pwr (by decide +kernel)])
  unfold chanOn
  rw [e.1, b]
  cases he : effCmd s k
  · rfl
  cases hb : bankFor s k
  · rfl
  simp only [Bool.true_and]
  congr 1
  have hm := chBlocked_mark he
  cases hl : chBlocked s k
  · have hm' : chBlocked (chanMark s k) k = false := hm.trans hl
    unfold chanEval
    rw [if_neg (by simp [hc]), he, chanMark_bankFor, hb, hm']
    simp only [Bool.and_self, Bool.not_false]
    have g : ∀ {r : Reg} {i : Nat}, (famAt i).has r.key → keeps mask_chanSwitch i = true → (chanSwitch f true (chanMark s k) k).get r = (chanMark s k).get r :=
      fun hk ha => within_chanSwitch.get hk ha
    have hlock : (chanSwitch f true (chanMark s k) k).get (GALC.CLAMP_LOCK k) = (chanMark s k).get (GALC.CLAMP_LOCK k) := by
      unfold chanSwitch
      split
      · rw [get_setB_other (by simp only [Reg.key]; omega), get_setB_other (by simp only [Reg.key]; omega)]
        split
        · exact (get_setB_other (r := GALC.OC_TRIP k) (by simp only [Reg.key]; omega) false).trans
            (get_count_other (r := GAL.RETRY_CNT) (q := GALC.CLAMP_LOCK k) (by simp only [Reg.key]; omega))
        · rfl
      · rfl
    rw [← hm']
    unfold chBlocked
    rw [chanSwitch_trip]
    simp only [State.on, gateOpen, State.bit, chanSwitch_waiting.1, hlock, g (key_GALC_OC_LOCK k) (by decide +kernel), g (key_GALC_TH_LATCH k) (by decide +kernel),
      g (key_GALC_SHED k) (by decide +kernel), g key_SAFM_LOCK_EN_SAF (by decide +kernel), g key_COLM_LOCK_EN_COL (by decide +kernel)]
  · unfold chanEval
    rw [if_neg (by simp [hc])]
    exact chanSwitch_blocked (hm.trans hl)

theorem SameChan.formula {k : Nat} (hk : k < 48) (w : SameChan k s t) (hc : s.hasCh k = true) : chanOn t k = chanOn s k := w.out hk hc

/-- Every output agrees with what decides it in the state that results. -/
theorem galEval_shown : GalleryShown (galEval s) := by
  intro k hk hc
  have hc' : s.hasCh k = true := by rw [← hasCh_congr (within_galEval (s := s)).member]; exact hc
  have loop : ∀ n, n ≤ 48 → (eachUpTo n (chanEval true) s).member = s.member ∧ chanOn (eachUpTo n (chanEval true) s) k = chanOn s k := by
    intro n
    induction n with
    | zero => exact fun _ => ⟨rfl, rfl⟩
    | succ n ih =>
      intro hn
      obtain ⟨hm, h⟩ := ih (by omega)
      show (chanEval true (eachUpTo n (chanEval true) s) n).member = _ ∧ chanOn (chanEval true (eachUpTo n (chanEval true) s) n) k = _
      refine ⟨within_chanEval.member.trans hm, ?_⟩
      rw [← h]
      have hc2 : (eachUpTo n (chanEval true) s).hasCh k = true := by rw [hasCh_congr hm]; exact hc'
      by_cases hkn : n = k
      · subst hkn; exact chanEval_formula hc2
      · exact (SameChan.eval hkn (by omega)).formula hk hc2
  have h2 : chanOn (galEval s) k = chanOn (eachUpTo 48 (chanEval true) s) k := by
    unfold galEval
    refine SameChan.formula hk ⟨within_galShow.member, by rw [within_galShow.gal (by decide +kernel)], by rw [within_galShow.gal (by decide +kernel)],
      by rw [within_galShow.gal (by decide +kernel)],
      within_galShow.pwr (by decide +kernel), fun r _ ⟨i, hi, ha⟩ => within_galShow.get hi ha⟩ ?_
    rw [hasCh_congr (loop 48 (Nat.le_refl _)).1]; exact hc'
  rw [galEval_out hk hc']
  exact ((h2.trans (loop 48 (Nat.le_refl _)).2)).symm

/-- The same of what ends by deciding the Gallery. -/
theorem crawlSync_shown : GalleryShown (crawlSync s) := by unfold crawlSync; exact galEval_shown

/-- The Crawl path forms the Gallery again where it switches P10 on. -/
theorem crawlFeed_gallery (h : GalleryShown s) : GalleryShown (crawlFeed s) := by
  unfold crawlFeed
  split
  · unfold crawlLoad; exact crawlSync_shown
  · exact h

theorem evalAll_gallery : GalleryShown (evalAll s) := by unfold evalAll; exact crawlSync_shown

/-- It stays so where none of it changes. -/
theorem GalleryShown.within {m : Nat} (h : GalleryShown s) (w : Within m s t) (h1 : cmdKept m = true) (h2 : bankKept m = true)
    (h3 : [653, 651, 650, 649, 648, 647, 186, 219].all (keeps m) = true) (hg : t.gal = s.gal) (hp : t.pwr.untested = s.pwr.untested) : GalleryShown t := by
  intro k hk hc
  simp only [List.all_cons, List.all_nil, Bool.and_true, Bool.and_eq_true] at h3
  obtain ⟨c0, c1, c2, c3, c4, c5, c6, c7⟩ := h3
  have hc' : s.hasCh k = true := by rw [← hasCh_congr w.member]; exact hc
  have hd : t.gal.direct = s.gal.direct := by rw [hg]
  rw [w.on (key_GALC_OUT k) c0, h k hk hc', (effCmd_within w h1 hd).1, bankFor_within w h1 h2 hd hp]
  simp only [chBlocked, State.on, gateOpen, State.bit, hg, w.get (key_GALC_OC_TRIP k) c1, w.get (key_GALC_OC_LOCK k) c2, w.get (key_GALC_TH_LATCH k) c3, w.get (key_GALC_CLAMP_LOCK k) c4, w.get (key_GALC_SHED k) c5, w.get key_SAFM_LOCK_EN_SAF c6, w.get key_COLM_LOCK_EN_COL c7]

end Sys2Proof.Machine
end

