-- ==== Sys2Proof/Laws/EffectPower.lean ====
section
/-! SUPPORT. What the operations on supplies, power and modes come to. -/

set_option Elab.async false

namespace Sys2Proof.Machine

variable {s t : State}
theorem pwr_ite_queue {c : Prop} [Decidable c] {v : State} {b : Bank} : (if c then bankQueue v b else v).pwr = v.pwr := by split <;> rfl
theorem get_ite_queue {c : Prop} [Decidable c] {v : State} {b : Bank} {r : Reg} : (if c then bankQueue v b else v).get r = v.get r := by split <;> rfl

theorem feedSync_pwr : ∃ f, (feedSync s).pwr = { s.pwr with feed := f } := by
  unfold feedSync
  simp only
  split
  · exact ⟨_, rfl⟩
  · split <;> exact ⟨_, rfl⟩

theorem supplySet_other {q : Supply} {mv : Int} {u : State} (h : u = supplySet s q mv) : (∀ r : Reg, u.get r = s.get r) ∧ u.pwr.phase = s.pwr.phase ∧ supplyMv u q = mv := by
  subst h; cases q <;> exact ⟨fun _ => rfl, rfl, rfl⟩

theorem supplyShow_shown : SupplyShown s (supplyShow s) ∧ (supplyShow s).pwr = s.pwr := by
  refine ⟨?_, within_supplyShow.pwr (by decide +kernel)⟩
  have o : ∀ {u : State} {r q : Reg} {v : Nat}, r.key ≠ q.key → (u.setSat r v).get q = u.get q := fun h => get_setSat_other h _
  have ob : ∀ {u : State} {r q : Reg} {v : Bool}, r.key ≠ q.key → (u.setB r v).get q = u.get q := fun h => get_setB_other h _
  unfold supplyShow
  constructor
  · rw [State.on, o (by decide), o (by decide), o (by decide), o (by decide), ob (by decide), ob (by decide), ob (by decide), ob (by decide)]; exact on_setB_self (by decide) _
  · rw [State.on, o (by decide), o (by decide), o (by decide), o (by decide), ob (by decide), ob (by decide), ob (by decide)]; exact on_setB_self (by decide) _
  · rw [State.on, o (by decide), o (by decide), o (by decide), o (by decide), ob (by decide), ob (by decide)]
    refine (on_setB_self (by decide) _).trans ?_
    simp only [State.on, ob (show PWR.BATTL_LOW.key ≠ PWR.BATTD_OK.key by decide), ob (show PWR.BATTL_OK.key ≠ PWR.BATTD_OK.key by decide)]; rfl
  · rw [State.on, o (by decide), o (by decide), o (by decide), o (by decide), ob (by decide)]
    refine (on_setB_self (by decide) _).trans ?_
    simp only [State.on, ob (show PWR.BATTD_OK.key ≠ PWR.GA_OK.key by decide), ob (show PWR.BATTL_LOW.key ≠ PWR.GA_OK.key by decide), ob (show PWR.BATTL_OK.key ≠ PWR.GA_OK.key by decide)]; rfl
  · rw [State.on, o (by decide), o (by decide), o (by decide), o (by decide)]
    refine (on_setB_self (by decide) _).trans ?_
    simp only [State.on, ob (show PWR.GA_OK.key ≠ PWR.GB_OK.key by decide), ob (show PWR.BATTD_OK.key ≠ PWR.GB_OK.key by decide), ob (show PWR.BATTL_LOW.key ≠ PWR.GB_OK.key by decide), ob (show PWR.BATTL_OK.key ≠ PWR.GB_OK.key by decide)]; rfl


theorem SupplyShown.same {u : State} (h : SupplyShown s t) (hp : u.pwr.mvL = t.pwr.mvL ∧ u.pwr.mvD = t.pwr.mvD ∧ u.pwr.mvGA = t.pwr.mvGA ∧ u.pwr.mvGB = t.pwr.mvGB)
    (g : ∀ r ∈ [PWR.BATTL_OK, PWR.BATTL_LOW, PWR.BATTD_OK, PWR.GA_OK, PWR.GB_OK], u.on r = t.on r) : SupplyShown s u := by
  simp only [List.forall_mem_cons] at g
  obtain ⟨g1, g2, g3, g4, g5, -⟩ := g
  obtain ⟨p1, p2, p3, p4⟩ := hp
  exact ⟨by rw [g1, p1]; exact h.lOk, by rw [g2, p1]; exact h.lLow, by rw [g3, p2]; exact h.dOk, by rw [g4, p3]; exact h.gaOk, by rw [g5, p4]; exact h.gbOk⟩

theorem SupplyShown.before (h : SupplyShown s t) {s' : State} (g : ∀ r : Reg, s'.get r = s.get r) : SupplyShown s' t :=
  ⟨h.lOk, h.lLow, by simp only [State.on, g]; exact h.dOk, by simp only [State.on, g]; exact h.gaOk, by simp only [State.on, g]; exact h.gbOk⟩

/-- What follows the readings. -/
theorem supplyFollow_leaves {a b : Bool} {u : State} : (∀ r ∈ [PWR.BATTL_OK, PWR.BATTL_LOW, PWR.BATTD_OK, PWR.GA_OK, PWR.GB_OK], (supplyFollow a b u).on r = u.on r) ∧
    (supplyFollow a b u).pwr.mvL = u.pwr.mvL ∧ (supplyFollow a b u).pwr.mvD = u.pwr.mvD ∧ (supplyFollow a b u).pwr.mvGA = u.pwr.mvGA ∧
    (supplyFollow a b u).pwr.mvGB = u.pwr.mvGB ∧ (supplyFollow a b u).pwr.holdUp = (fedByL u && decide (u.pwr.mvL < 14000)) ∧
    (fedByL u = true → (supplyFollow a b u).get PWR.DOM_ON = u.get PWR.DOM_ON) ∧ GalleryShown (supplyFollow a b u) := by
  have e : ∀ v : State, (galEval v).pwr = v.pwr := fun v => within_galEval.pwr (by decide +kernel)
  refine ⟨?_, ?_⟩
  · simp only [List.forall_mem_cons]
    have w := within_supplyFollow (b0 := a) (b1 := b) (s := u)
    exact ⟨w.on key_PWR_BATTL_OK (by decide +kernel), w.on key_PWR_BATTL_LOW (by decide +kernel), w.on key_PWR_BATTD_OK (by decide +kernel),
      w.on key_PWR_GA_OK (by decide +kernel), w.on key_PWR_GB_OK (by decide +kernel), fun _ h => absurd h List.not_mem_nil⟩
  · have hp : ∃ f, (supplyFollow a b u).pwr = { u.pwr with holdUp := fedByL u && decide (u.pwr.mvL < 14000), feed := f } := by
      unfold supplyFollow
      obtain ⟨f, hf⟩ := feedSync_pwr (s := { u with pwr := { u.pwr with holdUp := fedByL u && decide (u.pwr.mvL < 14000) } })
      refine ⟨f, ?_⟩
      simp only [e, pwr_ite_queue]
      exact hf
    obtain ⟨f, hp⟩ := hp
    rw [hp]
    refine ⟨rfl, rfl, rfl, rfl, rfl, fun hl => ?_, galEval_shown⟩
    unfold supplyFollow
    rw [within_galEval.get key_PWR_DOM_ON (by decide +kernel)]
    have hd : (feedSync { u with pwr := { u.pwr with holdUp := fedByL u && decide (u.pwr.mvL < 14000) } }).get PWR.DOM_ON = u.get PWR.DOM_ON := by
      unfold feedSync
      simp only
      rw [if_pos (by simp only [fedByL, Bool.and_eq_true] at hl; exact hl.1)]
      rfl
    simp only [get_ite_queue]
    exact hd

/-- What a supply at a new level leaves. -/
theorem supplyChanged_leaves {q : Supply} {mv : Int} : SupplyShown s (supplyChanged s q mv) ∧ GalleryShown (supplyChanged s q mv) ∧ supplyMv (supplyChanged s q mv) q = mv ∧
   (supplyChanged s q mv).pwr.holdUp = (fedByL s && decide ((supplyChanged s q mv).pwr.mvL < 14000)) ∧
   (fedByL s = true → (supplyChanged s q mv).get PWR.DOM_ON = s.get PWR.DOM_ON) := by
  obtain ⟨h1, h2, h3⟩ := supplySet_other (s := s) (q := q) (mv := mv) rfl
  have w1 := supplyShow_shown (s := supplySet s q mv)
  have d1 : (supplyShow (supplySet s q mv)).get PWR.DOM_ON = s.get PWR.DOM_ON :=
    (within_supplyShow.get key_PWR_DOM_ON (by decide +kernel)).trans (h1 _)
  have hf : fedByL (supplyShow (supplySet s q mv)) = fedByL s := by simp only [fedByL, w1.2, h2]
  have h3' : supplyMv (supplyShow (supplySet s q mv)) q = mv := by
    refine Eq.trans ?_ h3
    unfold supplyMv
    rw [w1.2]
  unfold supplyChanged
  generalize supplyShow (supplySet s q mv) = u at w1 d1 hf h3'
  obtain ⟨g, p1, p2, p3, p4, p5, p6, p7⟩ := supplyFollow_leaves (a := s.on PWR.GA_OK) (b := s.on PWR.GB_OK) (u := u)
  refine ⟨(w1.1.before fun r => (h1 r).symm).same ⟨p1, p2, p3, p4⟩ g, p7, ?_, ?_, fun hl => ?_⟩
  · rw [← h3']; cases q <;> simp only [supplyMv, p1, p2, p3, p4]
  · rw [p5, hf, p1]
  · rw [p6 (hf.trans hl), d1]

/-- The domains after one goes off or on. -/
theorem domOff1_bit {d e : Nat} (hd : d < 12) : (domOff1 s d).bit PWR.DOM_ON e = (s.bit PWR.DOM_ON e && e != d) := by
  unfold domOff1
  split
  · rename_i h
    simp only [State.domOn, Bool.not_eq_true'] at h
    by_cases he : e = d
    · subst he; simp [h]
    · simp [bne_iff_ne.mpr he]
  · have hc : (clkSync (s.setBit PWR.DOM_ON d false)).get PWR.DOM_ON = (s.setBit PWR.DOM_ON d false).get PWR.DOM_ON :=
      within_clkSync.get key_PWR_DOM_ON (by decide +kernel)
    have h0 : ∀ u : State, u.get PWR.DOM_ON = (clkSync (s.setBit PWR.DOM_ON d false)).get PWR.DOM_ON →
        u.bit PWR.DOM_ON e = (s.bit PWR.DOM_ON e && e != d) := fun u hu => by
      by_cases he : e = d
      · subst he
        rw [State.bit, hu, hc, ← State.bit, bit_setBit_self hd]; simp
      · rw [State.bit, hu, hc, ← State.bit, bit_setBit_other hd (fun x => he x.symm)]; simp [bne_iff_ne.mpr he]
    apply h0
    have hb : ∀ {u v : State} {m : Nat}, Within m u v → keeps m 88 = true → v.get PWR.DOM_ON = u.get PWR.DOM_ON := fun w k => w.get key_PWR_DOM_ON k
    simp only
    split
    · exact (get_setB_other (by decide) _).trans ((get_setB_other (by decide) _).trans (get_regs rfl))
    · exact get_regs rfl
    · unfold eachHead
      refine (eachUpTo_keeps (P := fun u : State => u.get PWR.DOM_ON = (clkSync (s.setBit PWR.DOM_ON 6 false)).get PWR.DOM_ON) (fun u n hu => ?_) ?_ 16)
      · split
        · exact (hb within_portSync (by decide +kernel)).trans hu
        · exact hu
      · exact (get_setB_other (by decide) _).trans (get_regs rfl)
    · exact (hb within_barrierLoss (by decide +kernel)).trans (get_regs rfl)
    · exact get_regs rfl
    · exact (get_setB_other (by decide) _).trans (get_regs rfl)
    · exact get_regs rfl

theorem domsOff_bit {e : Nat} : ∀ {ds : List Nat}, (∀ d ∈ ds, d < 12) → (domsOff s ds).bit PWR.DOM_ON e = (s.bit PWR.DOM_ON e && !ds.contains e) := by
  have h : ∀ {ds : List Nat} {u : State}, (∀ d ∈ ds, d < 12) → (ds.foldl domOff1 u).bit PWR.DOM_ON e = (u.bit PWR.DOM_ON e && !ds.contains e) := by
    intro ds
    induction ds with
    | nil => intro u _; simp
    | cons d l ih =>
      intro u hd
      rw [List.foldl_cons, ih fun x hx => hd x (List.mem_cons_of_mem _ hx), domOff1_bit (hd d List.mem_cons_self), List.contains_cons]
      cases u.bit PWR.DOM_ON e <;> cases h1 : (e == d) <;> simp_all [bne]
  intro ds hd
  rw [domsOff, State.bit, within_evalAll.get key_PWR_DOM_ON (by decide +kernel), ← State.bit, h hd]

theorem domOn1_bit {d e : Nat} (hd : d < 12) : (domOn1 s d).bit PWR.DOM_ON e = (s.bit PWR.DOM_ON e || e == d) := by
  unfold domOn1
  split
  · rename_i h
    by_cases he : e = d
    · subst he; simp only [State.domOn] at h; simp [h]
    · simp [he]
  · have h0 : ∀ u : State, u.get PWR.DOM_ON = (s.setBit PWR.DOM_ON d true).get PWR.DOM_ON →
        u.bit PWR.DOM_ON e = (s.bit PWR.DOM_ON e || e == d) := fun u hu => by
      by_cases he : e = d
      · subst he; rw [State.bit, hu, ← State.bit, bit_setBit_self hd]; simp
      · rw [State.bit, hu, ← State.bit, bit_setBit_other hd (fun x => he x.symm)]; simp [he]
    apply h0
    have h4 : (if d = 4 then (s.setBit PWR.DOM_ON d true).setB LANT.ENG_OK false else s.setBit PWR.DOM_ON d true).get PWR.DOM_ON =
        (s.setBit PWR.DOM_ON d true).get PWR.DOM_ON := by
      split
      · exact get_setB_other (by decide) _
      · rfl
    simp only
    split
    · exact (get_regs rfl).trans h4
    · exact (get_regs rfl).trans h4

theorem domsOn_bit {e : Nat} {ds : List Nat} {u : State} (hd : ∀ d ∈ ds, d < 12) :
    (domsOn u ds).bit PWR.DOM_ON e = (u.bit PWR.DOM_ON e || ds.contains e) := by
  unfold domsOn
  induction ds generalizing u with
  | nil => simp
  | cons d l ih =>
    rw [List.foldl_cons, ih fun x hx => hd x (List.mem_cons_of_mem _ hx), domOn1_bit (hd d List.mem_cons_self), List.contains_cons, Bool.or_assoc]

/-- A sequence of domains going off leaves the evaluated mirrors. -/
theorem domsOff_shown {ds : List Nat} : Evaluated (domsOff s ds) := ⟨evalAll_shown.1, evalAll_shown.2, evalAll_gallery⟩

/-- What a channel that does not work may not enable. -/
theorem tenBase_down {a : Nat} (h : chanUp t .col = false) : tenBase t a = false := by simp [tenBase, h]

/-- In Refuge no channel works (R64). -/
theorem chanUp_refuge {c : Channel} (h : t.on SYS.REFUGE = true) : chanUp t c = false := by simp [chanUp, State.inRefuge, h]

/-- Evaluated where a channel does not work: no torque, no ADCL. -/
theorem Evaluated.down (h : Evaluated t) (hc : chanUp t .col = false) :
    t.get COLM.TEN_MASK = 0 ∧ t.on SAFM.ADCL_A_ON = false ∧ t.on COLM.ADCL_B_ON = false := by
  refine ⟨h.permits.ten_zero fun a => tenBase_down hc, ?_, ?_⟩
  · cases e : t.on SAFM.ADCL_A_ON
    · rfl
    · have := (h.coils.coilA e).2.2.2.1; rw [hc] at this; exact absurd this (by decide)
  · cases e : t.on COLM.ADCL_B_ON
    · rfl
    · have := (h.coils.coilB e).2.2.2.1; rw [hc] at this; exact absurd this (by decide)

/-- What entering Refuge leaves (R60, R64): the state and its cause, the mode, the domains, and every output safe. -/
theorem enterRefuge_leaves {step code detail : Nat} (hr : s.inRefuge = false) (hp : s.pwr.phase ≠ .off ∧ s.pwr.phase ≠ .powerDown) :
    (enterRefuge s step code detail).on SYS.REFUGE = true ∧ (enterRefuge s step code detail).get SYS.RF_STEP = step % 2 ^ SYS.RF_STEP.w ∧
    (enterRefuge s step code detail).get SYS.RF_CODE = code % 2 ^ SYS.RF_CODE.w ∧ (enterRefuge s step code detail).get SYS.RF_DETAIL = detail % 2 ^ SYS.RF_DETAIL.w ∧
    (enterRefuge s step code detail).get PWR.MODE = 4 ∧ (enterRefuge s step code detail).on SYS.OPERABLE = false ∧
    outputsSafe (enterRefuge s step code detail) ∧ Evaluated (enterRefuge s step code detail) ∧
    (enterRefuge s step code detail).domOn 4 = false ∧ (enterRefuge s step code detail).domOn 6 = false ∧
    (enterRefuge s step code detail).domOn 9 = false := by
  unfold enterRefuge
  rw [if_neg (by simp [hr, hp.1, hp.2])]
  extract_lets -merge -useContext -underBinder s1 can room s2 s3' s3 s4 s5 s6 s7 sa src s7e pwr0 s8
  have w : ∀ ds, Within (mask_domsOff ||| mask_crawlFeed) s8 (crawlFeed (domsOff s8 ds)) := fun ds =>
    ((Within.refl _ s8).step within_domsOff (by decide +kernel)).step within_crawlFeed (by decide +kernel)
  have hl : ∀ d ∈ ([4, 6, 9] ++ if step = 1 then if s8.on CRAWL.CR_PIN = true then [2] else [2, 10] else []), d < 12 := by
    split
    · split <;> decide
    · decide
  have hm : ∀ d ∈ [4, 6, 9], ([4, 6, 9] ++ if step = 1 then if s8.on CRAWL.CR_PIN = true then [2] else [2, 10] else []).contains d = true := by
    intro d hd
    rw [List.contains_iff_mem]
    exact List.mem_append_left _ hd
  have hb := fun d => domsOff_bit (s := s8) (e := d) hl
  have h8 : ∀ {r : Reg}, ECHO.CONSIST_VALID.key ≠ r.key → ECHO.OWN_CONFLICT.key ≠ r.key → s8.get r = s7.get r := fun h1 h2 =>
    (get_regs (t := s8) (s := sa) rfl).trans
      ((get_setB_other (s := s7.setB ECHO.CONSIST_VALID false) h2 false).trans (get_setB_other h1 false))
  generalize ([4, 6, 9] ++ if step = 1 then if s8.on CRAWL.CR_PIN = true then [2] else [2, 10] else []) = ds at *
  have o : ∀ {u : State} {r q : Reg} {v : Nat}, r.key ≠ q.key → (u.set r v).get q = u.get q := fun h => State.get_set_other _ h _
  have ob : ∀ {u : State} {r q : Reg} {v : Bool}, r.key ≠ q.key → (u.setB r v).get q = u.get q := fun h => get_setB_other h _
  have hR : (crawlFeed (domsOff s8 ds)).on SYS.REFUGE = true := by
    rw [State.on, (w ds).get key_SYS_REFUGE (by decide +kernel), h8 (by decide) (by decide)]
    show (State.get (State.set (State.set (State.set (State.setB (State.set (State.set (State.set (State.set (State.count (State.setB (State.set (State.setB s3 SYS.REFUGE true) SYS.REFUGE_STEP step) SYS.OPERABLE false) SYS.REFUGE_CNT) SYS.RF_STEP step) SYS.RF_CODE code) SYS.RF_DETAIL detail) PWR.MODE 4) PWR.ACT_RDY false) CLK.APP_NOW 0) FIO.FO_OUT 0) SAFM.SAF_STATE 3) SYS.REFUGE != 0) = true
    rw [o (by decide), o (by decide), o (by decide), ob (by decide), o (by decide), o (by decide), o (by decide), o (by decide),
      get_count_other (by decide), ob (by decide), o (by decide)]
    exact on_setB_self (by decide) true
  have hs := domsOff_shown (s := s8) (ds := ds)
  have hf := crawlFeed_shown ⟨hs.permits, hs.coils⟩
  have he : Evaluated (crawlFeed (domsOff s8 ds)) := ⟨hf.1, hf.2, crawlFeed_gallery hs.gallery⟩
  have hd := he.down (chanUp_refuge hR)
  refine ⟨hR, ?_, ?_, ?_, ?_, ?_, ⟨hd.1, hd.2.1, hd.2.2, ?_⟩, he, ?_⟩
  · rw [(w ds).get key_SYS_RF_STEP (by decide +kernel), h8 (by decide) (by decide)]
    show State.get (State.set (State.set (State.set (State.setB (State.set (State.set (State.set (State.set s4 SYS.RF_STEP step) SYS.RF_CODE code) SYS.RF_DETAIL detail) PWR.MODE 4) PWR.ACT_RDY false) CLK.APP_NOW 0) FIO.FO_OUT 0) SAFM.SAF_STATE 3) SYS.RF_STEP = _
    rw [o (by decide), o (by decide), o (by decide), ob (by decide), o (by decide), o (by decide), o (by decide), State.get_set_self]
  · rw [(w ds).get key_SYS_RF_CODE (by decide +kernel), h8 (by decide) (by decide)]
    show State.get (State.set (State.set (State.set (State.setB (State.set (State.set (State.set (State.set s4 SYS.RF_STEP step) SYS.RF_CODE code) SYS.RF_DETAIL detail) PWR.MODE 4) PWR.ACT_RDY false) CLK.APP_NOW 0) FIO.FO_OUT 0) SAFM.SAF_STATE 3) SYS.RF_CODE = _
    rw [o (by decide), o (by decide), o (by decide), ob (by decide), o (by decide), o (by decide), State.get_set_self]
  · rw [(w ds).get key_SYS_RF_DETAIL (by decide +kernel), h8 (by decide) (by decide)]
    show State.get (State.set (State.set (State.set (State.setB (State.set (State.set (State.set (State.set s4 SYS.RF_STEP step) SYS.RF_CODE code) SYS.RF_DETAIL detail) PWR.MODE 4) PWR.ACT_RDY false) CLK.APP_NOW 0) FIO.FO_OUT 0) SAFM.SAF_STATE 3) SYS.RF_DETAIL = _
    rw [o (by decide), o (by decide), o (by decide), ob (by decide), o (by decide), State.get_set_self]
  · rw [(w ds).get key_PWR_MODE (by decide +kernel), h8 (by decide) (by decide)]
    show State.get (State.set (State.set (State.set (State.setB (State.set s5 PWR.MODE 4) PWR.ACT_RDY false) CLK.APP_NOW 0) FIO.FO_OUT 0) SAFM.SAF_STATE 3) PWR.MODE = _
    rw [o (by decide), o (by decide), o (by decide), ob (by decide), State.get_set_self]
    rfl
  · rw [State.on, (w ds).get key_SYS_OPERABLE (by decide +kernel), h8 (by decide) (by decide)]
    show (State.get (State.set (State.set (State.set (State.setB (State.set (State.set (State.set (State.set (State.count (State.setB (State.set (State.setB s3 SYS.REFUGE true) SYS.REFUGE_STEP step) SYS.OPERABLE false) SYS.REFUGE_CNT) SYS.RF_STEP step) SYS.RF_CODE code) SYS.RF_DETAIL detail) PWR.MODE 4) PWR.ACT_RDY false) CLK.APP_NOW 0) FIO.FO_OUT 0) SAFM.SAF_STATE 3) SYS.OPERABLE != 0) = false
    rw [o (by decide), o (by decide), o (by decide), ob (by decide), o (by decide), o (by decide), o (by decide), o (by decide),
      get_count_other (by decide)]
    exact on_setB_self (by decide) false
  · rw [(w ds).get key_FIO_FO_OUT (by decide +kernel), h8 (by decide) (by decide)]
    show State.get (State.set (State.set s6 FIO.FO_OUT 0) SAFM.SAF_STATE 3) FIO.FO_OUT = 0
    rw [o (by decide), State.get_set_self]
    rfl
  · have k : ∀ d ∈ [4, 6, 9], (crawlFeed (domsOff s8 ds)).domOn d = false := fun d hd => by
      rw [crawlFeed_same.dom d (by rintro rfl; exact absurd hd (by decide)), State.domOn, hb, hm d hd, Bool.not_true, Bool.and_false]
    exact ⟨k 4 (by decide), k 6 (by decide), k 9 (by decide)⟩
theorem foldl_set_other {r : Reg} {f : Reg → Nat} : ∀ {l : List Reg} {u : State}, (∀ q ∈ l, q.key ≠ r.key) → (l.foldl (fun t q => t.set q (f q)) u).get r = u.get r
  | [], _, _ => rfl
  | q :: l, u, h => by
    rw [List.foldl_cons, foldl_set_other fun x hx => h x (List.mem_cons_of_mem _ hx), State.get_set_other _ (h q List.mem_cons_self)]

theorem foldl_set_self {r : Reg} {f : Reg → Nat} {l : List Reg} {u : State} (hp : l.Pairwise (fun a b => a.key ≠ b.key)) (h : r ∈ l) :
    (l.foldl (fun t q => t.set q (f q)) u).get r = f r % 2 ^ r.w := by
  induction l generalizing u with
  | nil => cases h
  | cons q l ih =>
    rw [List.pairwise_cons] at hp
    rw [List.foldl_cons]
    rcases List.mem_cons.mp h with e | h
    · rw [foldl_set_other fun x hx => by rw [e]; exact (hp.1 x hx).symm, e, State.get_set_self]
    · exact ih hp.2 h

theorem keptRegs_apart : keptRegs.Pairwise (fun a b => a.key ≠ b.key) := by decide +kernel

theorem keptRegs_start : ∀ r ∈ keptRegs, ∀ q ∈ startRegs, q.key ≠ r.key := by decide +kernel
theorem mapFind_filter_key {V : Type} {d : V} {k : Nat} {q : Nat → Bool} {m : List (Nat × V)} :
    mapFind d k (m.filter fun c => q c.1) = if q k then mapFind d k m else d := by
  induction m with
  | nil => simp [mapFind]
  | cons e m ih =>
    obtain ⟨j, v⟩ := e
    by_cases hj : j = k
    · subst hj
      by_cases hq : q j
      · simp [List.filter, hq, mapFind]
      · simp only [List.filter, hq]
        rw [ih]
        simp [hq]
    · by_cases hq : q j
      · simp only [List.filter, hq, mapFind, hj, if_false]
        exact ih
      · simp only [List.filter, hq]
        rw [ih]
        simp [mapFind, hj]

theorem backupLost_other {r : Reg} (h : ∀ q ∈ lossRegs, q.key ≠ r.key) : (backupLost s).get r = s.get r := by
  simp only [lossRegs, List.forall_mem_cons] at h
  unfold backupLost
  extract_lets -merge -useContext -underBinder src s1 s2
  refine Eq.trans (get_regs (s := s2) rfl) ?_
  simp only [s2]
  rw [get_count_other h.2.2.1, get_setB_other h.2.1, get_setB_other h.1]
  exact get_regs rfl

theorem setBg_other {r : Reg} {n v : Nat} (h1 : LVOL.BG_STATE.key ≠ r.key) (h2 : LVOL.BG_VALID_MASK.key ≠ r.key) : (setBg s n v).get r = s.get r := by
  unfold setBg
  extract_lets
  rw [get_setBit_other h2, State.get_set_other _ h1]

theorem bgReload_other {r : Reg} (h1 : LVOL.BG_STATE.key ≠ r.key) (h2 : LVOL.BG_VALID_MASK.key ≠ r.key) : (bgReload s).get r = s.get r := by
  unfold bgReload
  exact eachDw_keeps (P := fun u => u.get r = s.get r) (fun u n hu => (setBg_other h1 h2).trans hu) rfl

theorem lossRegs_only : ∀ q ∈ lossRegs, ∀ r ∈ keptRegs, q.key = r.key → q = r := by decide +kernel

theorem lossRegs_start : ∀ q ∈ lossRegs, ∀ c ∈ startRegs, q.key ≠ c.key := by decide +kernel

theorem startCauses_brown : ∀ c ∈ startCauses, SYS.BROWN.key ≠ c.key := by decide +kernel

theorem startCauses_uniq : ∀ c ∈ startCauses, ∀ d ∈ startCauses, c ≠ d → c.key ≠ d.key := by decide +kernel

theorem startCauses_reset : ∀ c ∈ startCauses, c ≠ SYS.PWR_ON → State.reset.get c = 0 := by decide +kernel

theorem startCauses_apart : ∀ c ∈ startCauses,
    (∀ x ∈ [PWR.CAUSE, PWR.POWER_ON, PWR.PARK_LATE, LVOL.BG_VALID_MASK, LVOL.BG_STATE], x.key ≠ c.key) ∧ c.w ≠ 0 := by decide +kernel

/-- What the loss of the backup leaves of a start. -/
def StartParts (s u t : State) : Prop :=
  (∀ r : Reg, (∀ q ∈ lossRegs, q.key ≠ r.key) → t.get r = u.get r) ∧ (s.drip.stopped = false → ∀ r, t.get r = u.get r) ∧
  t.pwr.phase = u.pwr.phase ∧ (t.pwr.mvL = u.pwr.mvL ∧ t.pwr.mvD = u.pwr.mvD ∧ t.pwr.mvGA = u.pwr.mvGA ∧ t.pwr.mvGB = u.pwr.mvGB) ∧ t.member = u.member ∧ t.pending = u.pending ∧ t.axes = u.axes ∧ t.doors = u.doors ∧ t.heads = u.heads ∧ t.fq0 = u.fq0 ∧
  t.inds = u.inds ∧ t.deferred = u.deferred ∧ t.stage = u.stage ∧ t.cans = u.cans ∧ t.ingest = u.ingest ∧ (s.drip.stopped = false → t.mem = u.mem)

theorem lost_parts {u : State} {n : Nat} (hd : s.drip.stopped = true) : StartParts s u { backupLost u with pwr := { u.pwr with startTick := n, vrefAt := n } } := by
  have w := within_backupLost (s := u)
  unfold StartParts
  rw [hd]
  have d1 := w.axes (by decide +kernel)
  have d2 := w.doors (by decide +kernel)
  have d3 := w.heads (by decide +kernel)
  have d4 := w.fq0 (by decide +kernel)
  have d5 := w.inds (by decide +kernel)
  have d6 := w.deferred (by decide +kernel)
  have d7 := w.stage (by decide +kernel)
  have d8 := w.cans (by decide +kernel)
  have d9 := w.ingest (by decide +kernel)
  have d10 := fun (r : Reg) (hr : ∀ q ∈ lossRegs, q.key ≠ r.key) => backupLost_other (s := u) hr
  have d11 := w.member
  have d12 := w.pending
  generalize backupLost u = v at *
  exact ⟨fun r hr => (get_regs (s := v) rfl).trans (d10 r hr), fun h => absurd h (by decide), rfl, ⟨rfl, rfl, rfl, rfl⟩, d11, d12, d1, d2, d3, d4, d5, d6, d7, d8, d9, fun h => absurd h (by decide)⟩

/-- What a start leaves. -/
theorem restart_leaves {cause : Option Reg} {wake : Nat} (hc : ∀ c ∈ cause, c ∈ startCauses) :
    Restarted s (restart s cause wake) ∧ (∀ c ∈ startCauses, (restart s cause wake).on c = decide (cause = some c)) := by
  have hk : ∀ {r q : Reg}, (∀ x ∈ startRegs, x.key ≠ r.key) → q ∈ startRegs → q.key ≠ r.key := fun h hq => h _ hq
  obtain ⟨t1, h1⟩ : ∃ t1, t1 = keptRegs.foldl (fun t r => t.set r (s.get r)) (startOver s) := ⟨_, rfl⟩
  obtain ⟨t2, h2⟩ : ∃ t2, t2 = (t1.setB SYS.PWR_ON false).setB SYS.BROWN s.pwr.brown := ⟨_, rfl⟩
  obtain ⟨t3, h3⟩ : ∃ t3, t3 = (match cause with | some r => t2.setB r true | none => t2) := ⟨_, rfl⟩
  obtain ⟨t4, h4⟩ : ∃ t4, t4 = ((t3.set PWR.CAUSE (wake % 256)).setB PWR.POWER_ON (bitAt wake 8)).setB PWR.PARK_LATE (bitAt wake 9) := ⟨_, rfl⟩
  obtain ⟨t5, h5⟩ : ∃ t5, t5 = bgReload t4 := ⟨_, rfl⟩
  obtain ⟨t6, h6⟩ : ∃ t6, t6 = if s.drip.stopped then
    { backupLost t5 with pwr := { t5.pwr with startTick := (backupLost t5).tick, vrefAt := (backupLost t5).tick } } else t5 := ⟨_, rfl⟩
  have e : restart s cause wake = crawlFeed t6 := by
    subst h6 h5 h4 h3 h2 h1; rfl
  have g5 : ∀ r : Reg, (∀ q ∈ startRegs, q.key ≠ r.key) → t5.get r = t1.get r := fun r hr => by
    have hr' := hr
    simp only [startRegs, startCauses, List.cons_append, List.nil_append, List.forall_mem_cons] at hr'
    obtain ⟨a1, a2, a3, a4, a5, a6, a7, a8, a9, a10, a11, a12, -⟩ := hr'
    rw [h5, bgReload_other a12 a11, h4, get_setB_other a10, get_setB_other a9, State.get_set_other _ a8, h3]
    have : (t2.get r = t1.get r) := by rw [h2, get_setB_other a7, get_setB_other a1]
    cases cause with
    | none => exact this
    | some c => exact (get_setB_other (hr c (List.mem_append_left _ (hc c rfl))) true).trans this
  have c5 : ∀ c ∈ startCauses, t5.on c = decide (cause = some c) := fun c hcm => by
    obtain ⟨ha, hw⟩ := startCauses_apart c hcm
    simp only [List.forall_mem_cons] at ha
    rw [State.on, h5, bgReload_other ha.2.2.2.2.1 ha.2.2.2.1, h4, get_setB_other ha.2.2.1, get_setB_other ha.2.1, State.get_set_other _ ha.1, h3]
    have h2' : t2.on c = false := by
      rw [h2, State.on, get_setB_other (startCauses_brown c hcm)]
      by_cases hp : c = SYS.PWR_ON
      · rw [hp]; exact on_setB_self (by decide) false
      · rw [get_setB_other (startCauses_uniq _ (by decide) c hcm (Ne.symm hp)), h1, foldl_set_other (fun q hq => (keptRegs_start q hq c (List.mem_append_left _ hcm)).symm),
          show (startOver s).get c = State.reset.get c from get_regs rfl, startCauses_reset c hcm hp]
        rfl
    cases cause with
    | none => exact h2'
    | some d =>
      by_cases hd : d = c
      · rw [hd, decide_eq_true rfl]; exact on_setB_self hw true
      · rw [decide_eq_false fun h => hd (Option.some.inj h)]
        exact (on_of_get (get_setB_other (startCauses_uniq d (hc d rfl) c hcm hd) true)).trans h2'
  have w5 : Within (2 ^ 31 ||| mask_bgReload) (startOver s) t5 := by
    have w1 : Within (2 ^ 31 ||| mask_bgReload) (startOver s) t1 := by
      rw [h1]; exact (Within.refl _ _).foldl fun _ _ ht => ht.setIn (m := 2 ^ 31) (.inl rfl) (by decide +kernel)
    have w2 : Within (2 ^ 31 ||| mask_bgReload) (startOver s) t2 := by
      rw [h2]; exact (w1.setBIn (m := 2 ^ 31) (.inl rfl) (by decide +kernel)).setBIn (m := 2 ^ 31) (.inl rfl) (by decide +kernel)
    have w3 : Within (2 ^ 31 ||| mask_bgReload) (startOver s) t3 := by
      rw [h3]; split
      · exact w2.setBIn (m := 2 ^ 31) (.inl rfl) (by decide +kernel)
      · exact w2
    have w4 : Within (2 ^ 31 ||| mask_bgReload) (startOver s) t4 := by
      rw [h4]; exact ((w3.setIn (m := 2 ^ 31) (.inl rfl) (by decide +kernel)).setBIn (m := 2 ^ 31) (.inl rfl) (by decide +kernel)).setBIn (m := 2 ^ 31) (.inl rfl) (by decide +kernel)
    rw [h5]; exact w4.step within_bgReload (by decide +kernel)
  have m5 : t5.mem = (startOver s).mem := by
    have hs : ∀ {u v : State}, (∃ r n, v = State.set u r n) → v.mem = u.mem := fun ⟨r, n, h⟩ => by rw [h]; rfl
    have e1 : t1.mem = (startOver s).mem := by
      rw [h1]
      generalize startOver s = u
      generalize keptRegs = l
      induction l generalizing u with
      | nil => rfl
      | cons q l ih => rw [List.foldl_cons, ih]; rfl
    have e2 : t2.mem = t1.mem := by rw [h2]; rfl
    have e3 : t3.mem = t2.mem := by rw [h3]; cases cause <;> rfl
    have e4 : t4.mem = t3.mem := by rw [h4]; rfl
    have e5 : t5.mem = t4.mem := by
      rw [h5]
      exact eachDw_keeps (P := fun u => u.mem = t4.mem) (fun u n hu => Eq.trans rfl hu) rfl
    rw [e5, e4, e3, e2, e1]
  have parts : StartParts s t5 t6 := by
    rw [h6]
    cases hd : s.drip.stopped
    · exact ⟨fun _ _ => rfl, fun _ _ => rfl, rfl, ⟨rfl, rfl, rfl, rfl⟩, rfl, rfl, rfl, rfl, rfl, rfl, rfl, rfl, rfl, rfl, rfl, fun _ => rfl⟩
    · exact lost_parts hd
  obtain ⟨p1, p1', p2, pl, p3, p4, p6, p7, p8, p9, p10, p11, p12, p13, p14, p15⟩ := parts
  have lossKept : ∀ q ∈ lossRegs, q ∈ keptRegs := by decide +kernel
  suffices h : StartedOver s t6 ∧ ∀ c ∈ startCauses, t6.on c = decide (cause = some c) by
    rw [e]
    refine ⟨⟨t6, h.1, rfl, fun hp => ?_⟩, fun c hcc => ?_⟩
    · have hk : t6.on CRAWL.CR_PIN = false := by
        rw [State.on, h.1.kept CRAWL.CR_PIN (by decide) (fun _ => by decide)]; exact hp
      simp [crawlFeed, hk]
    · have w := within_crawlFeed (s := t6)
      have k : ∀ c ∈ startCauses, (crawlFeed t6).get c = t6.get c := by
        simp only [startCauses, List.forall_mem_cons]
        exact ⟨w.get key_SYS_PWR_ON (by decide +kernel), w.get key_SYS_WAKE (by decide +kernel), w.get key_SYS_HOST_RST (by decide +kernel),
          w.get key_SYS_SVC_RST (by decide +kernel), w.get key_SYS_WD_EXP (by decide +kernel), w.get key_SYS_LC_CHANGE (by decide +kernel),
          fun _ h => absurd h List.not_mem_nil⟩
      rw [← h.2 c hcc, State.on, State.on, k c hcc]
  refine ⟨⟨?_, ?_, fun r hr hl => ?_, fun r hr => ?_, fun hd pg sp a hpg hsp => ?_, ⟨?_, ?_, ?_, ?_, ?_, ?_, ?_, ?_, ?_⟩, p4.trans (w5.pending.trans rfl), p3.trans (w5.member.trans rfl)⟩, fun c hcc => ?_⟩
  · rw [p2, w5.pwr (by decide +kernel)]; rfl
  · rw [pl.1, pl.2.1, pl.2.2.1, pl.2.2.2, w5.pwr (by decide +kernel)]; exact ⟨rfl, rfl, rfl, rfl⟩
  · have hg : t5.get r = s.get r := by
      rw [g5 r (keptRegs_start r hr), h1, foldl_set_self keptRegs_apart hr]
      exact Nat.mod_eq_of_lt (get_lt s r)
    rw [← hg]
    cases hd : s.drip.stopped
    · exact p1' hd r
    · refine p1 r fun q hq hk => hl hd ?_
      exact lossRegs_only q hq r hr hk ▸ hq
  · have hr2 : ∀ q ∈ startRegs, q.key ≠ r.key := fun q hq => hr q (List.mem_append_right _ hq)
    have hr1 : ∀ q ∈ keptRegs, q.key ≠ r.key := fun q hq => hr q (List.mem_append_left _ hq)
    rw [p1 r fun q hq => hr1 q (lossKept q hq), g5 r hr2, h1, foldl_set_other hr1]
    rfl
  · rw [State.rd8, p15 hd, m5]
    show (mapFind _ _ (s.mem.filter fun c => keptSpace (c.1 / 2 ^ 36) (c.1 / 2 ^ 32 % 16))).toNat = _
    rw [mapFind_filter_key (q := fun k => keptSpace (k / 2 ^ 36) (k / 2 ^ 32 % 16))]
    have e1 : memKey pg sp a / 2 ^ 36 = pg := by unfold memKey; omega
    have e2 : memKey pg sp a / 2 ^ 32 % 16 = sp := by unfold memKey; omega
    rw [e1, e2]
    split <;> rfl
  · rw [p6, w5.axes (by decide +kernel)]; rfl
  · rw [p7, w5.doors (by decide +kernel)]; rfl
  · rw [p8, w5.heads (by decide +kernel)]; rfl
  · rw [p9, w5.fq0 (by decide +kernel)]; rfl
  · rw [p10, w5.inds (by decide +kernel)]; rfl
  · rw [p11, w5.deferred (by decide +kernel)]; rfl
  · rw [p12, w5.stage (by decide +kernel)]; rfl
  · rw [p13, w5.cans (by decide +kernel)]; rfl
  · rw [p14, w5.ingest (by decide +kernel)]; rfl
  · have : t6.get c = t5.get c := p1 c fun q hq => lossRegs_start q hq c (List.mem_append_left _ hcc)
    rw [State.on, this]
    exact c5 c hcc
/-- Crawl engages and disengages as its causes say (R263, R265). -/
theorem crawlSync_on : (crawlSync s).on CRAWL.CRAWL_ON = ((s.on CRAWL.CR_PIN || s.on CRAWL.CR_WD) && s.on CRAWL.MAP_LOADED && s.domOn 10 && s.lc != lcSCRAP) := by
  unfold crawlSync
  extract_lets -merge -useContext -underBinder want s1 s2 s3 s4 s5 s6
  have g : ∀ {u v : State} {m : Nat}, Within m u v → keeps m 667 = true → v.on CRAWL.CRAWL_ON = u.on CRAWL.CRAWL_ON := fun w k => w.on key_CRAWL_CRAWL_ON k
  have e : ∀ {n : Nat} {f : State → Nat → State} {u : State} {b : Bool}, (∀ v k, v.on CRAWL.CRAWL_ON = b → (f v k).on CRAWL.CRAWL_ON = b) →
      u.on CRAWL.CRAWL_ON = b → (eachUpTo n f u).on CRAWL.CRAWL_ON = b := fun hf hu => eachUpTo_keeps (P := fun v => v.on CRAWL.CRAWL_ON = _) hf hu _
  have h1 : s1.on CRAWL.CRAWL_ON = true := (on_of_get (get_count_other (by decide))).trans (on_setB_self (by decide) true)
  have hf : ∀ {v : State} {k : Nat} {b : Bool}, v.on CRAWL.CRAWL_ON = b → (v.setB (GALC.FOLLOW k) false).on CRAWL.CRAWL_ON = b :=
    fun hv => (on_of_get (get_setB_other (by simp only [Reg.key]; omega) _)).trans hv
  have h2 : s2.on CRAWL.CRAWL_ON = false :=
    e (fun v k hv => (g within_State_release (by decide +kernel)).trans hv) (on_setB_self (by decide) false)
  have h3 : s3.on CRAWL.CRAWL_ON = false := e (fun v k hv => by split <;> first | exact hf hv | exact hv) h2
  have h4 : s4.on CRAWL.CRAWL_ON = want := by
    simp only [s4]
    cases hw : want <;> cases hc : s.on CRAWL.CRAWL_ON <;> simp only [Bool.not_true, Bool.not_false, Bool.and_self, Bool.and_true, Bool.and_false,
      Bool.false_eq_true, if_true, if_false]
    · exact hc
    · refine e (fun v k hv => ?_) h3
      split
      · exact hv
      · exact (g within_State_release (by decide +kernel)).trans hv
    · refine e (fun v k hv => ?_) h1
      split
      · exact (g within_setGcBit (by decide +kernel)).trans ((g within_crawlClaim (by decide +kernel)).trans hv)
      · exact hv
    · exact hc
  have h6 : s6.on CRAWL.CRAWL_ON = want := by
    simp only [s6]
    split
    · refine e (fun v k hv => (g within_State_release (by decide +kernel)).trans hv) (e (fun v k hv => ?_) h4)
      simp only
      split
      · exact hf hv
      · exact (g within_setGcBit (by decide +kernel)).trans (hf hv)
    · exact h4
  rw [g within_galEval (by decide +kernel), h6]
end Sys2Proof.Machine
end

