-- ==== Sys2Proof/Laws/EffectPower2.lean ====
section
/-! SUPPORT. What the power-down, the chopper and the feed of P1 come to. -/

set_option Elab.async false

namespace Sys2Proof.Machine

variable {s t : State}

theorem evaluated_evalAll : Evaluated (evalAll s) := ⟨evalAll_shown.1, evalAll_shown.2, evalAll_gallery⟩

theorem tenBase_pf {a : Nat} (h : t.on PWR.PF_WARN = true) : tenBase t a = false := by simp [tenBase, h]
theorem tenBase_ov {a : Nat} (h : t.on PWR.BUS_OV = true) : tenBase t a = false := by simp [tenBase, h]

theorem Evaluated.pf (h : Evaluated t) (hc : t.on PWR.PF_WARN = true) :
    t.get COLM.TEN_MASK = 0 ∧ t.on SAFM.ADCL_A_ON = false ∧ t.on COLM.ADCL_B_ON = false ∧ (∀ k < 48, t.hasCh k = true → t.on (GALC.OUT k) = false) := by
  refine ⟨h.permits.ten_zero fun a => tenBase_pf hc, ?_, ?_, fun k hk hh => ?_⟩
  · cases e : t.on SAFM.ADCL_A_ON
    · rfl
    · have := (h.coils.coilA e).2.2.2.2; rw [hc] at this; exact absurd this (by decide)
  · cases e : t.on COLM.ADCL_B_ON
    · rfl
    · have := (h.coils.coilB e).2.2.2.2; rw [hc] at this; exact absurd this (by decide)
  · rw [h.gallery k hk hh]; simp [bankFor, hc]

theorem feedSync_dom {d : Nat} (hd : 2 ≤ d) : (feedSync s).domOn d = s.domOn d := by
  have h1 : 1 ≠ d := by omega
  unfold feedSync State.domOn
  simp only
  split
  · simp only [State.bit, State.get_mk, State.regs_get]
  · split
    · rw [bit_setBit_other (by decide) h1]; simp only [State.bit, State.get_mk, State.regs_get]
    · have h2 : ∀ u : State, u.get PWR.DOM_ON = s.get PWR.DOM_ON →
          ((u.setBit PWR.DOM_ON 1 false).setB CRAWL.CR_PIN false).bit PWR.DOM_ON d = s.bit PWR.DOM_ON d := fun u hu => by
        rw [State.bit, get_setB_other (by decide), ← State.bit, bit_setBit_other (by decide) h1, State.bit, hu]; rfl
      rw [State.bit, within_clkSync.get key_PWR_DOM_ON (by decide +kernel)]
      exact h2 _ (get_regs rfl)

theorem chopFresh_idem (h : t.pwr.chopLog = chopFresh s) (hk : t.tick = s.tick) : chopSum t = chopSum s := by
  unfold chopSum chopFresh
  rw [h, hk]
  unfold chopFresh
  rw [List.filter_filter]
  simp only [Bool.and_self]

theorem chopShow_leaves : (chopShow s).pwr.chopLog = chopFresh s ∧ (chopShow s).tick = s.tick ∧ (chopShow s).get PWR.CHOP_E = min (chopSum s) 12000 ∧
    (chopShow s).on PWR.CHOP_SPENT = (decide (12000 ≤ chopSum s) || (s.on PWR.CHOP_SPENT && decide (11000 ≤ chopSum s))) ∧
    (chopShow s).on PWR.CHOP_ON = (s.on PWR.CHOP_ON && !(decide (12000 ≤ chopSum s) || (s.on PWR.CHOP_SPENT && decide (11000 ≤ chopSum s)))) := by
  unfold chopShow
  extract_lets -merge -useContext -underBinder src s1 sum spent s2
  have h : ∀ r, s1.get r = s.get r := fun r => get_regs rfl
  have hs : sum = chopSum s := chopFresh_idem (s := s) rfl rfl
  have h2 : ∀ r, PWR.CHOP_E.key ≠ r.key → PWR.CHOP_SPENT.key ≠ r.key → s2.get r = s.get r := fun r a b => by
    simp only [s2]; rw [get_setB_other b, State.get_set_other _ a, h]
  have he : s2.get PWR.CHOP_E = min (chopSum s) 12000 := by
    simp only [s2]; rw [get_setB_other (by decide), State.get_set_self, hs]
    exact Nat.mod_eq_of_lt (Nat.lt_of_le_of_lt (Nat.min_le_right _ _) (by decide))
  have hp : s2.on PWR.CHOP_SPENT = spent := on_setB_self (by decide) _
  have hv : spent = (decide (12000 ≤ chopSum s) || (s.on PWR.CHOP_SPENT && decide (11000 ≤ chopSum s))) := by
    simp only [spent, State.on, h, hs]
  split
  · refine ⟨rfl, rfl, ?_, ?_, ?_⟩
    · rw [get_setB_other (by decide)]; exact he
    · rw [State.on, get_setB_other (by decide), ← hv]; exact hp
    · rename_i hsp
      rw [← hv, hsp, Bool.not_true, Bool.and_false]; exact on_setB_self (by decide) false
  · rename_i hsp
    refine ⟨rfl, rfl, he, hp.trans hv, ?_⟩
    rw [State.on, h2 _ (by decide) (by decide), ← hv, Bool.eq_false_iff.mpr hsp, Bool.not_false, Bool.and_true]; rfl

end Sys2Proof.Machine
end

