-- ==== Sys2Proof/Laws/EffectPower3.lean ====
section
/-! SUPPORT. The modes, parking and waking: what entering Active leaves, what a write of MODE_REQ stores, that switching domains keeps the phase and the late wakes, what a start by a wake leaves. -/

set_option Elab.async false

namespace Sys2Proof.Machine

variable {s t : State}

theorem Evaluated.of_pwr {p : Power} (h : Evaluated s) (h1 : p.phase = s.pwr.phase) (h2 : p.untested = s.pwr.untested) : Evaluated { s with pwr := p } := by
  have w : Within (1 <<< 9) s { s with pwr := p } := (Within.refl _ s).upd_pwr rfl
  have k : SameSaf s { s with pwr := p } := .of_within w (by decide +kernel) h1 (.refl _) (.refl _) rfl rfl rfl rfl rfl rfl
  exact ⟨h.permits.within k w (by decide +kernel), h.coils.within k w (by decide +kernel),
    h.gallery.within w (by decide +kernel) (by decide +kernel) (by decide +kernel) rfl h2⟩

/-- A mask that names nothing the mirrors are formed from or shown in. -/
def shownKept (m : Nat) : Bool :=
  safKept m && cmdKept m && bankKept m && [187, 220, 186, 219, 189, 188, 216, 197, 337, 335, 182, 213, 653, 651, 650, 649, 648, 647].all (keeps m) && !m.testBit 9 && !m.testBit 11 && !m.testBit 12

theorem Evaluated.within {m : Nat} (h : Evaluated s) (w : Within m s t) (hm : shownKept m = true) : Evaluated t := by
  simp only [shownKept, Bool.and_eq_true, Bool.not_eq_true'] at hm
  obtain ⟨⟨⟨⟨⟨⟨h1, h2⟩, h3⟩, h4⟩, h5⟩, h6⟩, h7⟩ := hm
  have k : SameSaf s t := .of_parts w h1 h5 h7
  simp only [List.all_eq_true] at h4
  have sub : ∀ l : List Nat, (∀ i ∈ l, i ∈ [187, 220, 186, 219, 189, 188, 216, 197, 337, 335, 182, 213, 653, 651, 650, 649, 648, 647]) → l.all (keeps m) = true := fun l hl => List.all_eq_true.mpr fun i hi => h4 i (hl i hi)
  exact ⟨h.permits.within k w (sub _ (by decide)), h.coils.within k w (sub _ (by decide)),
    h.gallery.within w h2 h3 (sub _ (by decide)) (w.gal h6) (by rw [w.pwr h5])⟩

theorem parkSync_phase (h : (s.pwr.phase != .idle) = true) : parkSync s = { s with pwr := { s.pwr with parkTry := false } } := by
  unfold parkSync; rw [if_pos (by simp [h])]

theorem parkSync_leaves : (parkSync s).pwr.phase = s.pwr.phase ∧ (∀ r : Reg, PWR.PARK_ABORT_CNT.key ≠ r.key → (parkSync s).get r = s.get r) := by
  unfold parkSync
  split
  · exact ⟨rfl, fun r _ => get_regs rfl⟩
  · split
    · exact ⟨rfl, fun r _ => get_regs rfl⟩
    · split
      · exact ⟨rfl, fun r h => by simp only [State.get_mk, State.regs_get]; exact get_count_other h⟩
      · exact ⟨rfl, fun _ _ => rfl⟩

theorem domOn1_phase {d : Nat} : (domOn1 s d).pwr.phase = s.pwr.phase := by
  unfold domOn1
  split
  · rfl
  · simp only
    split <;> split <;> rfl

theorem enterActive_leaves (h : s.pwr.phase = .idle) : (enterActive s).pwr.phase = .active ∧ (enterActive s).get PWR.MODE = 2 ∧
    (enterActive s).domOn 4 = true ∧ (enterActive s).domOn 6 = true ∧ (enterActive s).domOn 9 = true ∧ Evaluated (enterActive s) ∧
    (enterActive s).get PWR.MODE_REQ = s.get PWR.MODE_REQ := by
  unfold enterActive
  rw [if_neg (by simp [h])]
  extract_lets -merge -useContext -underBinder src s1 s2
  have hd : ∀ e, (domsOn s2 [4, 6, 9]).bit PWR.DOM_ON e = (s2.bit PWR.DOM_ON e || [4, 6, 9].contains e) := fun e => domsOn_bit (by decide)
  have hw := within_evalAll (s := domsOn s2 [4, 6, 9])
  have he : ∀ e, (evalAll (domsOn s2 [4, 6, 9])).domOn e = (s2.bit PWR.DOM_ON e || [4, 6, 9].contains e) := fun e => by
    rw [State.domOn, State.bit, hw.get key_PWR_DOM_ON (by decide +kernel), ← State.bit, hd]
  have hv := within_domsOn (s := s2) (b1 := [4, 6, 9])
  have hp : (domsOn s2 [4, 6, 9]).pwr.phase = s2.pwr.phase := by
    simp only [domsOn, List.foldl_cons, List.foldl_nil, domOn1_phase]
  refine ⟨?_, ?_, by rw [he]; simp, by rw [he]; simp, by rw [he]; simp, ⟨evalAll_shown.1, evalAll_shown.2, evalAll_gallery⟩, ?_⟩
  · rw [hw.pwr (by decide +kernel), hp]; rfl
  · rw [hw.get key_PWR_MODE (by decide +kernel), hv.get key_PWR_MODE (by decide +kernel)]
    simp only [s2]
    rw [State.get_set_other _ (by decide), get_setB_other (by decide), State.get_set_self]
    rfl
  · rw [hw.get key_PWR_MODE_REQ (by decide +kernel), hv.get key_PWR_MODE_REQ (by decide +kernel)]
    simp only [s2]
    rw [State.get_set_other _ (by decide), get_setB_other (by decide), State.get_set_other _ (by decide)]
    exact get_regs rfl

/-- The state of a write of MODE_REQ before it is acted on. -/
def storedReq (s : State) (src : Src) (val : Word) : State := 
  (storeWord (pageRules pgPWR 0x040) s (wordWr src pgPWR 0x040 val.toNat)).1.undefer (pgPWR * 0x1000 + 0x040)

theorem mode_req {src : Src} {val : Word} (h : hears s src pgPWR 0x040 = true) :
    (storedReq s src val).get PWR.MODE_REQ = (if [0, 1, 2].contains (bitsOf val.toNat 8 4) then bitsOf val.toNat 8 4 else 1) % 16 ∧ (storedReq s src val).pwr = s.pwr ∧
    ∃ b, wordWrite s src pgPWR 0x040 val.toNat = counted pgPWR (modeReqWritten (storedReq s src val), b) := by
  obtain ⟨h1, h2, h3, h5, h6, h7, h8⟩ := hears_iff.mp h
  refine ⟨?_, (within_storeWord (s := s)).pwr (by decide +kernel), wordWrite_store h (by decide) (by decide) (by decide) (by decide) (by decide) (by decide +kernel)
    (by decide +kernel) (by decide +kernel) (by decide) (by decide) (by decide +kernel)⟩
  have hd : (⟨PWR.MODE_REQ, .rw, .enum [0, 1, 2] 1, false, false⟩ : Desc) ∈ rowsAt (pgPWR * 0x1000 + 0x040) := by decide +kernel
  have hp : (rowsAt (pgPWR * 0x1000 + 0x040)).Pairwise (fun a b => a.reg.key ≠ b.reg.key) := by decide +kernel
  have := storeWord_get (ru := pageRules pgPWR 0x040) (s := s) (w := wordWr src pgPWR 0x040 val.toNat) (d := ⟨PWR.MODE_REQ, .rw, .enum [0, 1, 2] 1, false, false⟩) rfl
    (Nat.mod_lt _ (Nat.two_pow_pos 32)) rfl rfl hd (by decide) hp (by decide) ?_ rfl
  · refine (get_regs (s := (storeWord (pageRules pgPWR 0x040) s (wordWr src pgPWR 0x040 val.toNat)).1) rfl).trans (this.trans ?_)
    have e : bitsOf (wordWr src pgPWR 0x040 val.toNat).val PWR.MODE_REQ.lo PWR.MODE_REQ.w = bitsOf val.toNat 8 4 := by
      show (val.toNat % 2 ^ 32) / 2 ^ 8 % 2 ^ 4 = val.toNat / 2 ^ 8 % 2 ^ 4
      omega
    rw [e]
    generalize bitsOf val.toNat 8 4 = v
    show pageLimit s pgPWR 0x040 PWR.MODE_REQ (clampMore PWR.MODE_REQ (clampTo (.enum [0, 1, 2] 1) 4 v)).1 % 2 ^ 4 = _
    rfl
  · simp only [State.frozen, show pgOf PWR.MODE_REQ.addr = pgPWR from by decide, h6]
    simp

theorem allBelow_of {n : Nat} {p : Nat → Bool} (h : ∀ k < n, p k = true) : allBelow n p = true := by
  induction n with
  | zero => rfl
  | succ n ih => simp [allBelow, ih fun k hk => h k (by omega), h n (by omega)]

theorem eachHead_portSync_pwr : (eachHead portSync s).pwr = s.pwr := by
  unfold eachHead
  refine eachUpTo_keeps (P := fun u : State => u.pwr = s.pwr) (fun u n hu => ?_) rfl 16
  split
  · rw [within_portSync.pwr (by decide +kernel)]; exact hu
  · exact hu

theorem domOff1_phase {d : Nat} : (domOff1 s d).pwr.phase = s.pwr.phase := by
  unfold domOff1
  split
  · rfl
  · extract_lets -merge -useContext -underBinder s1 src s2
    have hb : s2.pwr.phase = s.pwr.phase := rfl
    clear_value s2
    rw [← hb]
    split
    · rfl
    · rfl
    · rw [eachHead_portSync_pwr]; rfl
    · rw [within_barrierLoss.pwr (by decide +kernel)]
    · rfl
    · rfl
    · rfl

theorem domsOff_phase {ds : List Nat} : (domsOff s ds).pwr.phase = s.pwr.phase := by
  unfold domsOff
  rw [within_evalAll.pwr (by decide +kernel)]
  induction ds generalizing s with
  | nil => rfl
  | cons d l ih => rw [List.foldl_cons, ih, domOff1_phase]

theorem domOff1_late {d : Nat} : (domOff1 s d).pwr.lateWake = s.pwr.lateWake := by
  unfold domOff1
  split
  · rfl
  · extract_lets -merge -useContext -underBinder s1 src s2
    have hb : s2.pwr.lateWake = s.pwr.lateWake := rfl
    clear_value s2
    rw [← hb]
    split
    · rfl
    · rfl
    · rw [eachHead_portSync_pwr]; rfl
    · rw [within_barrierLoss.pwr (by decide +kernel)]
    · rfl
    · rfl
    · rfl

theorem domsOff_late {ds : List Nat} : (domsOff s ds).pwr.lateWake = s.pwr.lateWake := by
  unfold domsOff
  rw [within_evalAll.pwr (by decide +kernel)]
  induction ds generalizing s with
  | nil => rfl
  | cons d l ih => rw [List.foldl_cons, ih, domOff1_late]

theorem wakeStart_leaves {ws : List WakeSrc} {late : Bool} : (wakeStart s ws late).pwr.phase = .starting ∧ (wakeStart s ws late).on SYS.WAKE = true ∧
    (wakeStart s ws late).get PWR.WAKE_CNT = min (s.get PWR.WAKE_CNT + 1) (2 ^ PWR.WAKE_CNT.w - 1) := by
  unfold wakeStart
  extract_lets -merge -useContext -underBinder cause
  have hr := restart_leaves (s := s.count PWR.WAKE_CNT) (cause := some SYS.WAKE) (wake := cause + 512 * bit1 late) (fun c hc => by cases hc; decide)
  obtain ⟨⟨v, hv, e, -⟩, hs⟩ := hr
  have w := within_crawlFeed (s := v)
  have hc : (restart (s.count PWR.WAKE_CNT) (some SYS.WAKE) (cause + 512 * bit1 late)).get PWR.WAKE_CNT = min (s.get PWR.WAKE_CNT + 1) (2 ^ PWR.WAKE_CNT.w - 1) := by
    rw [e, w.get key_PWR_WAKE_CNT (by decide +kernel), hv.kept _ (by decide) (fun _ => by decide), get_count_self]
  have h1 : (restart (s.count PWR.WAKE_CNT) (some SYS.WAKE) (cause + 512 * bit1 late)).pwr.phase = .starting := by
    rw [e, crawlFeed_same.phase]; exact hv.phase
  have h2 := (hs SYS.WAKE (by decide)).trans (decide_eq_true rfl)
  clear e
  generalize restart (s.count PWR.WAKE_CNT) (some SYS.WAKE) (cause + 512 * bit1 late) = u at *
  have : ∀ l : List WakeSrc, ∀ v : State, v.pwr = u.pwr ∧ v.get SYS.WAKE = u.get SYS.WAKE ∧ v.get PWR.WAKE_CNT = u.get PWR.WAKE_CNT →
      (l.foldl (wakeNote s) v).pwr = u.pwr ∧ (l.foldl (wakeNote s) v).get SYS.WAKE = u.get SYS.WAKE ∧ (l.foldl (wakeNote s) v).get PWR.WAKE_CNT = u.get PWR.WAKE_CNT := by
    intro l
    induction l with
    | nil => exact fun _ h => h
    | cons x l ih =>
      intro v hv
      have w := within_wakeNote (s := v) (b2 := x) (b0 := s)
      exact ih _ ⟨(w.pwr (by decide +kernel)).trans hv.1, (w.get key_SYS_WAKE (by decide +kernel)).trans hv.2.1, (w.get key_PWR_WAKE_CNT (by decide +kernel)).trans hv.2.2⟩
  obtain ⟨b1, b2, b3⟩ := this ws u ⟨rfl, rfl, rfl⟩
  exact ⟨by rw [b1]; exact h1, by rw [State.on, b2]; exact h2, b3.trans hc⟩

end Sys2Proof.Machine
end

