-- ==== Sys2Proof/Laws/Places.lean ====
section
/-! SUPPORT. What the statements about instances and stores go by: instances that stay through one operation stay through several, and a
store leaves every byte outside its span. -/

namespace Sys2Proof.Machine

variable {s t u : State} {lo hi : Nat}

theorem sameFields.refl (s : State) (lo hi : Nat) : sameFields s s lo hi := fun _ _ _ => rfl

theorem sameFields.trans (h : sameFields s t lo hi) (h' : sameFields t u lo hi) : sameFields s u lo hi :=
  fun r h1 h2 => (h' r h1 h2).trans (h r h1 h2)

/-- A write of a field outside a group leaves the group. -/
theorem sameFields.set (h : sameFields s t lo hi) {r : Reg} (hr : r.key / 32 < lo ∨ hi ≤ r.key / 32) (v : Nat) :
    sameFields s (t.set r v) lo hi := fun q h1 h2 =>
  (State.get_set_other t (fun e => by rw [e] at hr; omega) v).trans (h q h1 h2)

theorem Kind.same_refl (s : State) (n : Nat) (k : Kind) : k.same s s n := by
  cases k <;> simp [Kind.same, sameFields]

theorem Kind.same_trans {n : Nat} {k : Kind} (h : k.same s t n) (h' : k.same t u n) : k.same s u n := by
  cases k <;> first
    | exact sameFields.trans h h'
    | exact fun hn => sameFields.trans (h hn) (h' hn)
    | exact fun hn => (h' hn).trans (h hn)
    | exact Eq.trans h' h

/-- An address lies in the span of one byte exactly where it has the key of that byte. -/
theorem span_one {p q f pg sp a : Nat} : span p q f 1 pg sp a ↔ memKey pg sp a = memKey p q f := by
  unfold span memKey; omega

/-- A wider span holds what a narrower one at its start holds. -/
theorem span.mono {p q f n m pg sp a : Nat} (h : span p q f n pg sp a) (hm : n ≤ m) : span p q f m pg sp a :=
  ⟨h.1, Nat.lt_of_lt_of_le h.2 hm⟩

/-- What lies in the span of the bytes behind the first one lies in the span of all. -/
theorem span.next {p q f n pg sp a : Nat} (h : span p q (f + 1) n pg sp a) (hn : n < 2 ^ 32) : span p q f (n + 1) pg sp a := by
  unfold span at *; omega

theorem rd8_wr8_of_not_span {p q f v pg sp a : Nat} (h : ¬ span p q f 1 pg sp a) : (s.wr8 p q f v).rd8 pg sp a = s.rd8 pg sp a :=
  State.rd8_wr8_other s v fun e => h (span_one.mpr e.symm)

theorem rd8_wrBytes_of_not_span {p q pg sp a : Nat} : ∀ {l : List Nat} {f : Nat} {s : State}, l.length < 2 ^ 32 →
    ¬ span p q f l.length pg sp a → (s.wrBytes p q f l).rd8 pg sp a = s.rd8 pg sp a
  | [], _, _, _, _ => rfl
  | _ :: l, _, _, hl, h =>
    (rd8_wrBytes_of_not_span (Nat.lt_of_succ_lt hl) fun hs => h (hs.next (Nat.lt_of_succ_lt hl))).trans
      (rd8_wr8_of_not_span fun hs => h (hs.mono (Nat.succ_le_succ (Nat.zero_le l.length))))

theorem rd8_wr16_of_not_span {p q f v pg sp a : Nat} (h : ¬ span p q f 2 pg sp a) : (s.wr16 p q f v).rd8 pg sp a = s.rd8 pg sp a :=
  (rd8_wr8_of_not_span fun hs => h (hs.next (by decide))).trans (rd8_wr8_of_not_span fun hs => h (hs.mono (by decide)))

theorem rd8_wr32_of_not_span {p q f v pg sp a : Nat} (h : ¬ span p q f 4 pg sp a) : (s.wr32 p q f v).rd8 pg sp a = s.rd8 pg sp a :=
  (rd8_wr16_of_not_span fun hs => h ((hs.next (by decide)).mono (by decide) |>.next (by decide))).trans
    (rd8_wr16_of_not_span fun hs => h (hs.mono (by decide)))

end Sys2Proof.Machine
end

