-- ==== Sys2Proof/Tests/Slice0.lean ====
section
/-! SUPPORT. Tests of single steps whose results the rules of spec/ state, ill-formed commands that WellFormed refuses, and for every clause of
every statement a state and operands that meet all its hypotheses. Each state is the reset state with a few fields written. -/

namespace Sys2Proof.Tests

open Sys2Proof Sys2Proof.Machine

set_option Elab.async false

/-- The reset state with some fields written. -/
def put (l : List (Reg × Nat)) : State := l.foldl (fun s e => s.set e.1 e.2) State.reset

/-- The reset state with every domain on, and some fields written. -/
def up (l : List (Reg × Nat)) : State := put ((PWR.DOM_ON, 0xFFF) :: l)

/-- The same in a phase of the power sequencer. -/
def inPhase (p : Phase) (l : List (Reg × Nat)) : State := { up l with pwr := { Power.init with phase := p } }

/-- The same with both safety channels at work and the start complete. -/
def live (l : List (Reg × Nat)) : State := up ((SAFM.SP_RUN, 1) :: (COLM.COL_OK, 1) :: (SYS.ST_DONE, 0x1F) :: l)

/-- A session of the service link in a role. -/
def tool (role : Nat) (l : List (Reg × Nat)) : State := up ((SVC.SESSION, 1) :: (SVC.ROLE, role) :: l)

/-- An axis, a head, a doorway and the inputs of a channel as given. -/
def axis (n : Nat) (a : Axis) (l : List (Reg × Nat)) : State := (live l).setAx n a
def head (h : Nat) (x : Head) (l : List (Reg × Nat)) : State := (live l).setHead h x
def door (n : Nat) (d : Doorway) (l : List (Reg × Nat)) : State := (live l).setDw n d
def chan (c : Channel) (x : Chan) (l : List (Reg × Nat)) : State := (live l).setChan c x

/-- Inputs that differ from those at the start of a start. -/
def flipped (k : Nat) : Chan := { Chan.init with lv := putBit Chan.init.lv k (!bitAt Chan.init.lv k) }

/-- The recorder at work, holding what is given. -/
def recorder (f : Flow) (l : List (Reg × Nat)) : State := (up ((FLOW.FLOW_RDY, 1) :: (HDR.EN pgFLOW, 1) :: l)).setFlow f

/-- What a command answers, read as `f`. -/
def after {α : Type} (c : Instr) (s : State) (f : State → α) : Option α :=
  match exec c s with
  | .next t => some (f t)
  | _ => none

/-- A valid profile 0 of axis 0: two segments, the deceleration from the second on. -/
def shaped (l : List (Reg × Nat)) : State :=
  ((((((live l).wr32 (pgAX 0) 1 0 0x102).wr32 (pgAX 0) 1 0x200 1000).wr32 (pgAX 0) 1 0x204 10).wr32 (pgAX 0) 1 0x208 65536).wr32 (pgAX 0) 1 0x210 1000).wr32
    (pgAX 0) 1 0x214 20

/-- Doorway 0 in service, no egress handle operated, with what its supervisor holds. -/
def doorway (d : Doorway) (l : List (Reg × Nat)) : State :=
  { (live ((HDR.EN pgCYC, 1) :: l)).setDw 0 d with saf := { Safety.init with
      saf := { Chan.init with lv := 2 ^ 9 + 2 ^ 11 + 0xFF * 2 ^ 56 }
      col := { Chan.init with lv := 2 ^ 9 + 2 ^ 11 + 0xFF * 2 ^ 56 }
      sealA := 1 } }

/-- The inputs with the DEPOT key made. -/
def keyed (l : List (Reg × Nat)) : State := chan .saf (flipped 13) l

/-- The three received types configured from unit 5. -/
def fed (l : List (Reg × Nat)) : State :=
  (((live ((DST.CFG_OK, 1) :: (DST.OWN_UNIT, 7) :: (DST.SEQ_WIN, 4) :: (DST.AGE_MAX_MS, 50) :: l)).wr16 pgDST 3 0x18 5).wr16 pgDST 3 0x24 5).wr16 pgDST 3 0x30 5

/-- A telegram of a type from unit 5 to all, with its CRC (R236). -/
def telegram (typ seq tick p0 : Nat) : List Nat :=
  let b := beBytes 5 2 ++ [0xFF, 0xFF, typ, 1, 0, 0] ++ beBytes seq 4 ++ beBytes tick 4 ++ [p0] ++ List.replicate 11 0
  b ++ beBytes (crc32 b) 4

/-- The safety processor answers in Refuge: a telegram configuration of unit 7 that has its CRC (R239). -/
def answering (l : List (Reg × Nat)) : State :=
  let s := (((fed ((SYS.REFUGE, 1) :: l)).wr16 pgDST 2 2 7).wr32 pgDST 2 0x3C 77).wr32 pgDST 2 0x40 0x123
  s.wr32 pgDST 2 0x7C (crc32 (s.rdBytes pgDST 2 0 0x7C))

/-- 1024 s later. -/
def late (s : State) : State := { s with tick := s.tick + 2 ^ 25 }

/-- CAN0 at work. -/
def can (l : List (Reg × Nat)) : State := up ((HDR.EN (pgCAN 0), 1) :: l)

/-- A classic data frame. -/
def frame : CanFrame := ⟨false, false, false, 0x123, false, false, false, false, 0, 0, 2, 0, [1, 2]⟩

/-- The switch at work with port A linked. -/
def ecn (l : List (Reg × Nat)) : State := up ((ECN.BYPASS, 0) :: (ECN.A_LINK, 1) :: (HDR.EN pgECN, 1) :: l)

/-- An Ethernet frame to an address. -/
def ether (fcsOk : Bool) (dest : Nat) : EcnFrame := ⟨fcsOk, beBytes dest 6 ++ List.replicate 54 0, none, 0⟩

/-- MVB at work, port 0 a sink of four bytes at address 0x100 and port 1 a source of four at 0x200. -/
def mvb (l : List (Reg × Nat)) : State :=
  ((((up ((HDR.EN pgMVB, 1) :: (MVB.MVB_ADDR, 0x12) :: l)).wr32 pgMVB 1 0 0x81000100).wr32 pgMVB 1 4 64).wr32 pgMVB 1 8 0xC2000100)

/-- The legacy link at work, waiting as given. -/
def legacy (w : Option (Nat × Bool × Nat)) (l : List (Reg × Nat)) : State :=
  { up ((HDR.EN pgLGL, 1) :: (LGL.POLL_MASK, 2) :: l) with nets := { Nets.init with lglWait := w } }

/-- Echo at work with the ECN up and some slots. -/
def echo (x : List (Nat × EchoSlot)) (l : List (Reg × Nat)) : State :=
  { ecn ((HDR.EN pgECHO, 1) :: (HDR.EN pgDVR, 1) :: l) with echo := { Echo.init with slots := x } }

/-- A Paloft unit in a slot. -/
def partner (st unit : Nat) : EchoSlot := { EchoSlot.free with
  st := st
  typ := 1
  gen := 3
  unit := unit
  serial := 1000 + unit
  carriers := 1
  mask := 8 }

/-- An announcement on ECN (R316): serial, version mask 8. -/
def announced (serial : Nat) : List Nat := beBytes serial 8 ++ [8, 1, 0, 2] ++ List.replicate 12 0

/-- An export of two chunks under way, its acknowledgement CRC as the present chunk has it. -/
def exporting (src : Src) (chunk : Nat) (l : List (Reg × Nat)) : State :=
  let s := recorder { Flow.init with exp := some ⟨src, [], [1, 2, 3], chunk, [], 0⟩ } ((FLOW.EXP_RUN, 1) :: (SVC.ROLE, 1) :: l)
  s.setFlow { s.flow with ackCrc := leNum (((chunkBytes s).drop 28).take 4) }

/-- The pair of a page standing at an address of a space. -/
def pairAt (pg sp a : Nat) (post : Option (Nat × Nat × Nat)) (f : Bool) : State := (up []).setPair pg .host ⟨a, sp, false, 5, f, post⟩

/-- The reset state with every domain on but one, which may be newly on. -/
def lacking (d : Nat) : State := put [(PWR.DOM_ON, 0xFFF - 2 ^ d)]
def fresh (d : Nat) : State := { up [] with pwr := { Power.init with fresh := 2 ^ d } }

/-! Registers. -/

theorem meets_StepKeepsInvariant : Inv (up []) ∧ ∃ t, step (up []) = .next t := ⟨⟨by decide +kernel, by decide +kernel, by decide +kernel, by decide +kernel⟩, _, rfl⟩

theorem meets_ResetHeaders : State.reset.hasPage 0 = true ∧ State.reset.hasPage 0x70 = true ∧ (0x02C : Nat) ∈ [0x014, 0x018, 0x01C, 0x020, 0x024, 0x028, 0x02C] := by
  decide +kernel

theorem power_limit_not_formed : ¬ named evalFields PWR.DRV_P_LIM := by
  rintro ⟨f, hf, n, h⟩
  have key : ∀ f ∈ evalFields, (f n).key ≠ PWR.DRV_P_LIM.key := by
    simp only [evalFields, safetyFields, galFields, axFields, visionFields, claimFields, List.cons_append, List.nil_append, List.forall_mem_cons]
    repeat' (apply And.intro)
    all_goals first | (intro _ h; exact absurd h List.not_mem_nil) | (simp only [the, Reg.key]; omega)
  exact key f hf h

theorem meets_ScrubRepairsByMajority : ∃ (x : Copies) (d : Desc) (s : State), d ∈ rowsAt x.addr ∧ (∀ e ∈ rowsAt x.addr, e.reg.lo = x.lo → e = d) ∧
    d.reg.lo = x.lo ∧ tripled d = true ∧ s.hasPage (pgOf x.addr) = true ∧ s.hasInst x.addr = true ∧ s.domOn 3 = true ∧ x.addr < 0x80000 ∧
    ¬ named evalFields d.reg ∧ x.a < 2 ^ d.reg.w ∧ x.b < 2 ^ d.reg.w ∧ x.c < 2 ^ d.reg.w ∧ ¬ (x.a = x.b ∧ x.b = x.c) :=
  ⟨⟨0x01064, 16, 100, 100, 101⟩, ⟨PWR.DRV_P_LIM, .rwv, .range 20 240, false, false⟩, up [], by decide +kernel, by decide +kernel, by decide +kernel,
    by decide +kernel, by decide +kernel, by decide +kernel, by decide +kernel, by decide +kernel, power_limit_not_formed, by decide +kernel,
    by decide +kernel, by decide +kernel, by decide +kernel⟩

theorem meets_TickOnlyCounts : State.reset.pending = [] ∧ State.reset.drip.stopped = false := ⟨rfl, rfl⟩

theorem meets_FamilyMembers : State.reset.member = .plf8816 ∧ ({ State.reset with member := .plf1000 } : State).member = .plf1000 ∧
    ({ State.reset with member := .plf2204 } : State).member = .plf2204 ∧ ({ State.reset with member := .plf4408 } : State).member = .plf4408 :=
  ⟨rfl, rfl, rfl, rfl⟩

theorem meets_FrameModule : ∃ (c : Instr) (ch : Changes) (s t : State), family c = .connectors ∧ changes c = some ch ∧ exec c s = .next t :=
  ⟨.lampTestEnd, _, up [], _, rfl, rfl, rfl⟩

theorem meets_FrameOutside : ∃ (c : Instr) (ch : Changes) (s t : State), family c = .service ∧ changes c = some ch ∧ exec c s = .next t :=
  ⟨.nonceExpiry, _, up [], _, rfl, rfl, rfl⟩

theorem meets_InstancesModule : ∃ (c : Instr) (s t : State) (e : Kind × List Nat) (n : Nat),
    family c = .traverse ∧ exec c s = .next t ∧ e ∈ only c s ∧ n ∉ e.2 ∧ t.ax 3 ≠ s.ax 3 ∧ e.1 = .axPart ∧ n = 4 :=
  ⟨.axStop .host 3, up [], _, (.axPart, [3]), 4, rfl, rfl, by decide +kernel, by decide, by decide +kernel, rfl, rfl⟩

theorem meets_InstancesOutside : ∃ (c : Instr) (s t : State) (e : Kind × List Nat) (n : Nat),
    family c = .can ∧ exec c s = .next t ∧ e ∈ only c s ∧ n ∉ e.2 ∧ e.1 = .controller ∧ n = 2 :=
  ⟨.canRecover .host 1, up [], _, (.controller, [1]), 2, rfl, rfl, by decide +kernel, by decide, rfl, rfl⟩

theorem meets_StoresStayInPlace : ∃ (c : Instr) (ch : Changes) (s t : State),
    changes c = some ch ∧ exec c s = .next t ∧ t.rd8 pgDRIP 1 0x1C ≠ s.rd8 pgDRIP 1 0x1C ∧ ¬ stored c s pgDRIP 1 0x20 :=
  ⟨.almDlySWrite 7, _, up [], _, rfl, rfl, by decide +kernel, fun h => absurd (show span pgDRIP 1 0x1C 4 pgDRIP 1 0x20 from h).2 (by decide)⟩

/-! Single steps. -/

/-- R85's example: one write to 0x4802_6180 enables AX3. -/
theorem test_alias_enables_ax3 : after (.bitAliasWrite .host 0x48026180 .w4 1) (up []) (fun t => (t.on (HDR.EN 0x13), t.on (HDR.EN 0x12))) = some (true, false) := by
  decide +kernel

/-- R86: HOST_WD_MS takes 0 to 10000. -/
theorem test_write_clamps : after (.registerWrite .host 0x40000058 .w4 20000) (up []) (fun t => (t.get SYS.HOST_WD_MS, t.get (HDR.PG_ADJ_CNT pgSYS))) =
    some (10000, 1) := by decide +kernel

/-- R83: a 64-bit bus access stages the high word and then applies the value. -/
theorem test_wide_access : after (.registerWrite .host 0x40010050 .w8 0x00000005FFFFFFFF) (up []) (fun t => (t.get (AX.MQ_TGT_HI 0), t.get (AX.MQ_TGT_LO 0))) =
    some (0xFFFFFFFF, 5) := by decide +kernel

/-- R92's example: Crawl takes DIRECT5 from Gallery following, and RES_LAST reads 0x0534_0000. -/
theorem test_claim_conflict : ((up [(RES.OWN_DIR_LO, 0x00400000)]).claim 0 5 3).1.readWord 0x70060 = 0x05340000 := by decide +kernel

/-- R4's example: PG_CAP of page SYS on a PLF-4408 and on a PLF-8816, and PG_ID of the absent page AX13. -/
theorem test_capabilities : ({ up [] with member := .plf4408 } : State).readWord 0x00008 = 0x44081830 ∧ (up []).readWord 0x00008 = 0x88103040 ∧
    ({ up [] with member := .plf4408 } : State).readWord 0x1D000 = 0 := by decide +kernel

/-- The check values of the two CRCs over the nine bytes "123456789" (R214, R236). -/
theorem test_crc_check_values : crc16 [0x31, 0x32, 0x33, 0x34, 0x35, 0x36, 0x37, 0x38, 0x39] = 0x29B1 ∧
    crc32 [0x31, 0x32, 0x33, 0x34, 0x35, 0x36, 0x37, 0x38, 0x39] = 0xE3069283 := by decide +kernel

/-- R51's example: MEAS_HZ reads 48,000,960 for Column's clock. -/
theorem test_clock_measured : after (.clockMeasureDone 48000960) (up [(CLK.MEAS_SEL, 1)]) (·.get CLK.MEAS_HZ) = some 48000960 := by decide +kernel

/-- R341's example: at 32,768 counts a second, 196,608 counts are 6 s; one count moves the tick by one. -/
theorem test_tick_counts : (match step (up []) with | .next t => some t.tick | _ => none) = some 1 := by decide +kernel

/-! Ill-formed commands. -/

theorem wf_vote_scrub : Instr.wf (.voteScrub [⟨2, 0, 0, 0, 0⟩]) = false ∧ Instr.wf (.voteScrub [⟨0, 32, 0, 0, 0⟩]) = false ∧
    Instr.wf (.voteScrub [⟨0, 0, 2 ^ 32, 0, 0⟩]) = false ∧ Instr.wf (.voteScrub [⟨0x01064, 16, 100, 100, 101⟩]) = true := by decide +kernel

theorem wf_supplies : Instr.wf (.battlInterrupt (-1)) = false ∧ Instr.wf (.battlReturn (-1)) = false ∧ Instr.wf (.powerOnStart (-1)) = false ∧
    Instr.wf (.supplyLevelChange .battL (-1)) = false ∧ Instr.wf (.battdOvOpen (-1)) = false ∧ Instr.wf (.battdOvClose (-1)) = false ∧
    Instr.wf (.battlReturn 0) = true := by decide +kernel

theorem wf_lists : Instr.wf (.traverseUpdate [] 0) = false ∧ Instr.wf (.headBudgetShed []) = false ∧ Instr.wf (.headShedRestore 0 []) = false ∧
    Instr.wf (.identDone 0 [] true) = false ∧ Instr.wf (.identDone 0 (List.replicate 256 256) true) = false ∧
    Instr.wf (.identDone 0 (List.replicate 256 255) true) = true := by decide +kernel

theorem wf_heads : Instr.wf (.frameLineRx 0 0 0 0 true [2 ^ 24]) = false ∧ Instr.wf (.calibReadDone 0 (.read [(0x400010, 0)])) = false ∧
    Instr.wf (.calibReadDone 0 (.read [(0, 2 ^ 32)])) = false := by decide +kernel

theorem wf_frames : Instr.wf (.canFrameRx 0 { frame with id := 2 ^ 29 } 0) = false ∧ Instr.wf (.canFrameRx 0 { frame with data := [256] } 0) = false ∧
    Instr.wf (.canFrameRx 0 frame 0) = true ∧ Instr.wf (.ecnFrameRx 0 ⟨true, [256], none, 0⟩ 0 false) = false ∧
    Instr.wf (.ecnFrameRx 0 ⟨true, [], some (2 ^ 32, []), 0⟩ 0 false) = false ∧ Instr.wf (.ecnFrameTx ⟨0, [256], 0⟩ false) = false ∧
    Instr.wf (.mvbSlaveFrame 0 [1] .good .good) = false ∧ Instr.wf (.mvbSlaveFrame 0 (List.replicate 34 0) .good .good) = false ∧
    Instr.wf (.dvrMessageRx (.lgl [256]) false) = false := by decide +kernel

theorem wf_bytes : Instr.wf (.safeCopyRx true [256]) = false ∧ Instr.wf (.lglReplyRx [256] true) = false ∧ Instr.wf (.lglSlaveReply [256] true) = false ∧
    Instr.wf (.announceRx 0 0 [256]) = false ∧ Instr.wf (.consistRx ⟨0, [256]⟩) = false := by decide +kernel


theorem meets_RegisterWriteStores :
    (∃ (src : Src) (pg : Nat) (off : Nat) (_ : BitVec 64) (s : State), hears s src pg off = true ∧ plainRegister pg off = true) ∧
    (∃ (src : Src) (pg : Nat) (off : Nat) (_ : BitVec 64) (s : State), hears s src pg off = true ∧ plainRegister pg off = true) ∧
    (∃ (src : Src) (pg : Nat) (off : Nat) (_ : BitVec 64) (s : State), hears s src pg off = true ∧ plainRegister pg off = true) ∧
    (∃ (src : Src) (pg : Nat) (off : Nat) (_ : BitVec 64) (s : State), hears s src pg off = true ∧ plainRegister pg off = true) :=
  ⟨⟨.host, pgSYS, 0x050, 0xFFFFFFFF, up [], by decide +kernel⟩,
   ⟨.tool, pgECHO, 0x014, 5, tool 1 [], by decide +kernel⟩,
   ⟨.host, pgPWR, 0x064, 0x12345678, up [], by decide +kernel⟩,
   ⟨.host, pgECHO, 0x048, 0xFFFFFFFF, up [], by decide +kernel⟩⟩

theorem meets_DiscardedWriteCounts :
    (∃ (_ : Src) (a : Word) (_ : Width) (_ : BitVec 64) (s : State), busUp s = true ∧ 0x40000000 ≤ a.toNat ∧ a.toNat < 0x40100000 ∧ s.hasPage ((a.toNat - 0x40000000) / 0x1000) = false) ∧
    (∃ (_ : Src) (a : Word) (_ : Width) (_ : BitVec 64) (s : State), busUp s = true ∧ 0x40000000 ≤ a.toNat ∧ a.toNat < 0x40100000 ∧ s.hasPage ((a.toNat - 0x40000000) / 0x1000) = false) ∧
    (∃ (_ : Src) (a : Word) (_ : Width) (_ : BitVec 64) (s : State), busUp s = true ∧ 0x40000000 ≤ a.toNat ∧ a.toNat < 0x40100000 ∧ s.hasPage ((a.toNat - 0x40000000) / 0x1000) = false) ∧
    (∃ (_ : Src) (a : Word) (_ : Width) (_ : BitVec 64) (s : State), busUp s = true ∧ 0x40100000 ≤ a.toNat ∧ a.toNat < 0x50000000 ∧ (¬ (0x48000000 ≤ a.toNat ∧ a.toNat < 0x48200000))) ∧
    (∃ (_ : Src) (a : Word) (_ : Width) (_ : BitVec 64) (s : State), busUp s = true ∧ 0x40100000 ≤ a.toNat ∧ a.toNat < 0x50000000 ∧ (¬ (0x48000000 ≤ a.toNat ∧ a.toNat < 0x48200000))) ∧
    (∃ (_ : Src) (a : Word) (_ : Width) (_ : BitVec 64) (s : State), busUp s = true ∧ 0x40100000 ≤ a.toNat ∧ a.toNat < 0x50000000 ∧ (¬ (0x48000000 ≤ a.toNat ∧ a.toNat < 0x48200000))) ∧
    (∃ (src : Src) (pg : Nat) (off : Nat) (_ : BitVec 64) (s : State), hears s src pg off = true ∧ pg < 256 ∧ off ∈ [0x000, 0x004, 0x010, 0x01C, 0x020, 0x024, 0x02C]) ∧
    (∃ (src : Src) (pg : Nat) (off : Nat) (_ : BitVec 64) (s : State), hears s src pg off = true ∧ pg < 256 ∧ off ∈ [0x000, 0x004, 0x010, 0x01C, 0x020, 0x024, 0x02C]) ∧
    (∃ (_ : Src) (a : Word) (_ : Width) (_ : BitVec 64) (s : State), (a.toNat < 0x40000000 ∨ 0x50000000 ≤ a.toNat ∨ busUp s = false)) ∧
    (∃ (_ : Src) (a : Word) (_ : Width) (_ : BitVec 64) (s : State), (a.toNat < 0x40000000 ∨ 0x50000000 ≤ a.toNat ∨ busUp s = false)) ∧
    (∃ (_ : Src) (pg : Nat) (off : Nat) (_ : BitVec 64) (s : State), busUp s = true ∧ pg < 256 ∧ off < 0x1000 ∧ off % 4 = 0 ∧ s.hasPage pg = true ∧ s.hasInst (pg * 0x1000 + off) = false ∧ rowsAt (pg * 0x1000 + off) ≠ [] ∧ testHolds s (cycOf off) = false) ∧
    (∃ (_ : Src) (pg : Nat) (off : Nat) (_ : BitVec 64) (s : State), busUp s = true ∧ pg < 256 ∧ off < 0x1000 ∧ off % 4 = 0 ∧ s.hasPage pg = true ∧ s.hasInst (pg * 0x1000 + off) = false ∧ rowsAt (pg * 0x1000 + off) ≠ [] ∧ testHolds s (cycOf off) = false) ∧
    (∃ (_ : Src) (pg : Nat) (off : Nat) (_ : BitVec 64) (s : State), busUp s = true ∧ pg < 256 ∧ off < 0x1000 ∧ off % 4 = 0 ∧ s.hasPage pg = true ∧ s.hasInst (pg * 0x1000 + off) = false ∧ rowsAt (pg * 0x1000 + off) ≠ [] ∧ testHolds s (cycOf off) = false) ∧
    (∃ (pg : Nat) (s : State), s.hasPage pg = false) ∧
    (∃ (addr : Nat) (s : State), s.hasInst addr = false) :=
  ⟨⟨.host, 0x400FFFFC, .w4, 7, up [], by decide +kernel⟩,
   ⟨.host, 0x40009008, .w8, 7, up [], by decide +kernel⟩,
   ⟨.tool, 0x40009001, .w1, 7, up [], by decide +kernel⟩,
   ⟨.host, 0x40100000, .w4, 1, up [], by decide +kernel⟩,
   ⟨.tool, 0x48200000, .w4, 1, up [], by decide +kernel⟩,
   ⟨.host, 0x4FFFFFFF, .w4, 1, up [], by decide +kernel⟩,
   ⟨.host, 0x70, 0, 1, up [], by decide +kernel⟩,
   ⟨.host, 0x1F, 0x02C, 1, up [], by decide +kernel⟩,
   ⟨.host, 0x3FFFFFFF, .w4, 1, up [], by decide +kernel⟩,
   ⟨.host, 0x50000000, .w4, 1, up [], by decide +kernel⟩,
   ⟨.host, pgCYC, 0x400, 1, { up [] with member := .plf4408 }, by decide +kernel⟩,
   ⟨.host, pgGAL, 0x6FC, 1, { up [] with member := .plf4408 }, by decide +kernel⟩,
   ⟨.host, pgLVOL, 0x2FC, 1, { up [] with member := .plf4408 }, by decide +kernel⟩,
   ⟨0xFF, up [], by decide +kernel⟩,
   ⟨0x08400, { up [] with member := .plf4408 }, by decide +kernel⟩⟩

theorem meets_BitAliasWriteSetsOneBit :
    (∃ (src : Src) (pg : Nat) (off : Nat) (_ : Word) (d : Desc) (s : State), hears s src pg off = true ∧ plainRegister pg off = true ∧ off < 0x100 ∧ d ∈ rowsAt (pg * 0x1000 + off) ∧ d.acc = .rw ∧ d.clamp = .any ∧ d.reg.w = 1 ∧ (rowsAt (pg * 0x1000 + off)).any (·.whole) = false ∧ s.frozen src d = false ∧ pageTakes s pg off d.reg = true ∧ off ≠ 0x014 ∧ pg ≠ pgCYC ∧ pg ≠ pgFIO) ∧
    (∃ (_ : Src) (pg : Nat) (off : Nat) (i : Nat) (_ : Word) (s : State), busUp s = true ∧ pg < 256 ∧ off < 0x100 ∧ off % 4 = 0 ∧ i < 32 ∧ s.hasPage pg = false) :=
  ⟨⟨.host, pgSYS, 0x050, 1, rwD SYS.HOST_HB, up [], by decide +kernel⟩,
   ⟨.host, 0xFF, 0xFC, 31, 1, up [], by decide +kernel⟩⟩

theorem meets_WideWriteStagesThenApplies :
    (∃ (src : Src) (pg : Nat) (off : Nat) (_ : Word) (d : Desc) (s : State), hears s src pg off = true ∧ plainWide pg off = true ∧ rowsAt (pg * 0x1000 + off) = [d] ∧ s.frozen src d = false ∧ pageTakes s pg off d.reg = true) ∧
    (∃ (src : Src) (pg : Nat) (off : Nat) (_ : Word) (hi : Desc) (lo : Desc) (s : State), hears s src pg (off + 4) = true ∧ plainWide pg off = true ∧ rowsAt (pg * 0x1000 + off) = [hi] ∧ rowsAt (pg * 0x1000 + off + 4) = [lo] ∧ s.frozen src lo = false ∧ pageTakes s pg (off + 4) lo.reg = true) :=
  ⟨⟨.host, pgFLOW, 0x070, 5, (rowsAt (pgFLOW * 0x1000 + 0x070)).headD (rwD SYS.HOST_HB), up [], by decide +kernel⟩,
   ⟨.host, 0x10, 0x050, 5, ⟨AX.MQ_TGT_HI 0, .rw, .any, false, true⟩, ⟨AX.MQ_TGT_LO 0, .rw, .any, false, true⟩, up [], by decide +kernel⟩⟩

theorem meets_IndirectPair :
    (∃ (src : Src) (pg : Fin 256) (_ : Word) (s : State), hears s src pg 0x030 = true ∧ indPage pg = true ∧ pairIdle s pg src = true) ∧
    (∃ (src : Src) (pg : Fin 256) (_ : Word) (s : State), hears s src pg 0x030 = true ∧ indPage pg = true ∧ pairIdle s pg src = true) ∧
    (∃ (src : Src) (pg : Fin 256) (_ : Word) (s : State), hears s src pg 0x038 = true ∧ indPage pg = true ∧ pairIdle s pg src = true) ∧
    (∃ (src : Src) (pg : Fin 256) (_ : Word) (s : State), hears s src pg 0x038 = true ∧ indPage pg = true ∧ pairIdle s pg src = true) ∧
    (∃ (src : Src) (pg : Fin 256) (_ : Word) (s : State), hears s src pg 0x034 = true ∧ indPage pg = true ∧ pairIdle s pg src = true ∧ indOff s pg (s.pair pg src) = false ∧ indEnd s pg (s.pair pg src) = false ∧ spaceRw pg (s.pair pg src).space = true) ∧
    (∃ (src : Src) (pg : Fin 256) (s : State), busUp s = true ∧ s.hasPage pg = true ∧ indPage pg = true ∧ pairIdle s pg src = true ∧ indOff s pg (s.pair pg src) = false ∧ indEnd s pg (s.pair pg src) = false) ∧
    (∃ (src : Src) (pg : Fin 256) (s : State), busUp s = true ∧ s.hasPage pg = true ∧ indPage pg = true ∧ pairIdle s pg src = true ∧ (indOff s pg (s.pair pg src) = true ∨ indEnd s pg (s.pair pg src) = true)) ∧
    (∃ (src : Src) (pg : Fin 256) (s : State), busUp s = true ∧ s.hasPage pg = true ∧ indPage pg = true ∧ pairIdle s pg src = true ∧ (indOff s pg (s.pair pg src) = true ∨ indEnd s pg (s.pair pg src) = true)) ∧
    (∃ (src : Src) (pg : Fin 256) (sp : Nat) (a : Nat) (v : Nat) (s : State), (s.pair pg src).post = some (sp, a, v) ∧ plainSpace pg sp = true ∧ s.domOn (spaceDom pg sp) = true ∧ v < 2 ^ 32 ∧ a + 4 ≤ 0x200) ∧
    (∃ (src : Src) (pg : Fin 256) (s : State), (s.pair pg src).fetch = true ∧ (s.pair pg src).post = none ∧ pg.val ≠ pgMVB) :=
  ⟨⟨.host, 0x58, 0x1FF, up [], by decide +kernel⟩,
   ⟨.tool, 0x60, 0x101, tool 1 [], by decide +kernel⟩,
   ⟨.host, 0x58, 0x1FF, up [], by decide +kernel⟩,
   ⟨.tool, 0x60, 0x101, tool 1 [], by decide +kernel⟩,
   ⟨.host, 0x58, 5, pairAt pgECN 1 0xFC none false, by decide +kernel⟩,
   ⟨.host, 0x58, pairAt pgECN 1 0xFC none false, by decide +kernel⟩,
   ⟨.host, 0x58, pairAt pgECN 1 0x100 none false, by decide +kernel⟩,
   ⟨.host, 0x58, State.setPair (put [(PWR.DOM_ON, 8)]) pgECN .host ⟨0, 1, false, 0, false, none⟩, by decide +kernel⟩,
   ⟨.host, 0x58, 1, 0xFC, 7, pairAt pgECN 1 0 (some (1, 0xFC, 7)) false, by decide +kernel⟩,
   ⟨.host, 0x58, pairAt pgECN 1 0 none true, by decide +kernel⟩⟩

theorem meets_DomainsSwitch :
    (∃ (src : Src) (pg : Nat) (off : Nat) (_ : BitVec 64) (s : State), waits s src pg off = true ∧ plainRegister pg off = true) ∧
    (∃ (d : Fin 12) (s : State), d.val ≠ 11 ∧ s.domOn d = true ∧ bitAt s.pwr.fresh d = true) ∧
    (∃ (d : Fin 12) (s : State), d.val ≠ 11 ∧ (s.domOn d = false ∨ bitAt s.pwr.fresh d = false)) ∧
    (∃ (d : Fin 12) (s : State), d.val ≠ 11 ∧ (s.domOn d = false ∨ bitAt s.pwr.fresh d = false)) ∧
    (∃ (s : State), s.domOn 3 = true ∧ s.domOn 11 = false) ∧
    (∃ (s : State), (s.domOn 3 = false ∨ s.domOn 11 = true)) ∧
    (∃ (s : State), (s.domOn 3 = false ∨ s.domOn 11 = true)) ∧
    (∃ (d : Fin 12) (s : State), d.val ≠ 11 ∧ unused s d = true ∧ s.domOn d = true) ∧
    (∃ (s : State), s.domOn 11 = true ∧ s.on FLOW.NAND_HOLD = false) ∧
    (∃ (d : Fin 12) (s : State), (unused s d = false ∨ s.domOn d = false)) ∧
    (∃ (d : Fin 12) (s : State), (unused s d = false ∨ s.domOn d = false)) :=
  ⟨⟨.host, pgFIO, 0x054, 3, lacking 8, by decide +kernel⟩,
   ⟨7, fresh 7, by decide +kernel⟩,
   ⟨7, up [], by decide +kernel⟩,
   ⟨7, lacking 7, by decide +kernel⟩,
   ⟨lacking 11, by decide +kernel⟩,
   ⟨up [], by decide +kernel⟩,
   ⟨put [], by decide +kernel⟩,
   ⟨9, { up [] with pwr := { Power.init with phase := .idle } }, by decide +kernel⟩,
   ⟨up [], by decide +kernel⟩,
   ⟨9, up [], by decide +kernel⟩,
   ⟨4, { lacking 4 with pwr := { Power.init with phase := .idle } }, by decide +kernel⟩⟩

theorem meets_HostClaims :
    (∃ (src : Src) (k : ResReg) (_ : Word) (s : State) (i : Nat), hears s src pgRES (resOff k) = true ∧ i < (resReg (resClass k)).w) ∧
    (∃ (src : Src) (k : ResReg) (_ : Word) (s : State) (i : Nat), hears s src pgRES (resOff k) = true ∧ i < (resReg (resClass k)).w) ∧
    (∃ (src : Src) (k : ResReg) (_ : Word) (s : State) (i : Nat), hears s src pgRES (resOff k) = true ∧ i < (resReg (resClass k)).w) :=
  ⟨⟨.host, .dir, 0x8000, up [], 15, by decide +kernel⟩,
   ⟨.host, .cstep, 0x80, up [(RES.OWN_CSTEP, 0x20000000)], 7, by decide +kernel⟩,
   ⟨.host, .mon, 0, up [(RES.OWN_MON_LO, 5), (RES.HOST_MON, 1)], 0, by decide +kernel⟩⟩

theorem meets_SuppliesFollowTheirLevels :
    (∃ (mv : Int) (_ : State), 200000 < mv) ∧
    (∃ (mv : Int) (_ : State), mv < 170000) ∧
    (∃ (mv : Int) (s : State), mv < 14000 ∧ fedByL s = true) ∧
    (∃ (mv : Int) (s : State), 14000 ≤ mv ∧ fedByL s = true) ∧
    (∃ (s : State), s.pwr.holdUp = true) ∧
    (∃ (s : State), s.pwr.phase = .powerDown) ∧
    (∃ (mv : Int) (s : State), s.pwr.phase = .off ∧ 15500 ≤ mv) :=
  ⟨⟨200001, up [], by decide +kernel⟩,
   ⟨169999, up [(PWR.BATTD_OV, 1)], by decide +kernel⟩,
   ⟨13999, up [], by decide +kernel⟩,
   ⟨14000, { up [] with pwr := { Power.init with holdUp := true } }, by decide +kernel⟩,
   ⟨{ up [(COLM.TEN_MASK, 3)] with pwr := { Power.init with holdUp := true } }, by decide +kernel⟩,
   ⟨inPhase .powerDown [(PWR.PF_WARN, 1)], by decide +kernel⟩,
   ⟨15500, inPhase .off [], by decide +kernel⟩⟩

theorem meets_ChopperAndBus :
    (∃ (_ : Nat) (s : State), s.on PWR.CHOP_ON = true) ∧
    (∃ (_ : Nat) (s : State), s.on PWR.CHOP_ON = true) ∧
    (∃ (s : State), chopSum s < 11000) ∧
    (∃ (mv : Nat) (s : State), 190000 < mv ∧ s.on PWR.BUS_OV = false) ∧
    (∃ (mv : Nat) (_ : State), mv ≤ 190000) :=
  ⟨⟨12000, up [(PWR.CHOP_ON, 1)], by decide +kernel⟩,
   ⟨11999, up [(PWR.CHOP_ON, 1), (PWR.CHOP_SPENT, 1)], by decide +kernel⟩,
   ⟨{ up [(PWR.CHOP_SPENT, 1)] with pwr := { Power.init with chopLog := [(0, 10999)] } }, by decide +kernel⟩,
   ⟨190001, live [(COLM.TEN_MASK, 1)], by decide +kernel⟩,
   ⟨190000, live [(PWR.BUS_OV, 1)], by decide +kernel⟩⟩

theorem meets_MeasurementsAndClocks :
    (∃ (d : Fin 14) (_ : Fin 65536) (s : State), bitAt (s.fieldVal CLK.CLK_ON) d = true ∧ s.bit CLK.CLK_FAIL d = false ∧ clockRefuge d = false) ∧
    (∃ (_ : Fin 65536) (s : State), bitAt (s.fieldVal CLK.CLK_ON) 1 = true ∧ s.bit CLK.CLK_FAIL 1 = false ∧ mayRefuge s = true) ∧
    (∃ (_ : Fin 65536) (s : State), bitAt (s.fieldVal CLK.CLK_ON) 2 = true ∧ s.bit CLK.CLK_FAIL 2 = false ∧ mayRefuge s = true) ∧
    (∃ (d : Fin 14) (_ : Fin 65536) (s : State), bitAt (s.fieldVal CLK.CLK_ON) d = true ∧ s.bit CLK.CLK_FAIL d = false ∧ clockRefuge d = true ∧ (s.pwr.phase = .off ∨ s.pwr.phase = .powerDown)) ∧
    (∃ (d : Fin 14) (_ : Fin 65536) (s : State), bitAt (s.fieldVal CLK.CLK_ON) d = true ∧ s.bit CLK.CLK_FAIL d = false ∧ clockRefuge d = true ∧ (s.pwr.phase = .off ∨ s.pwr.phase = .powerDown)) ∧
    (∃ (d : Fin 14) (_ : Fin 65536) (s : State), bitAt (s.fieldVal CLK.CLK_ON) d = true ∧ s.bit CLK.CLK_FAIL d = true) ∧
    (∃ (d : Fin 14) (_ : Fin 65536) (s : State), bitAt (s.fieldVal CLK.CLK_ON) d = true ∧ s.bit CLK.CLK_FAIL d = true) :=
  ⟨⟨3, 7, live [], by decide +kernel⟩,
   ⟨7, live [], by decide +kernel⟩,
   ⟨65535, live [], by decide +kernel⟩,
   ⟨1, 7, inPhase .off [(COLM.COL_OK, 1)], by decide +kernel⟩,
   ⟨2, 7, inPhase .powerDown [(SAFM.SP_RUN, 1)], by decide +kernel⟩,
   ⟨8, 0, live [(CLK.CLK_FAIL, 0x100)], by decide +kernel⟩,
   ⟨13, 0, live [(CLK.CLK_FAIL, 0x2000)], by decide +kernel⟩⟩

theorem meets_ActiveAndIdle :
    (∃ (src : Src) (_ : Word) (s : State), hears s src pgPWR 0x040 = true) ∧
    (∃ (src : Src) (_ : Word) (s : State), hears s src pgPWR 0x040 = true) ∧
    (∃ (src : Src) (_ : Word) (s : State), hears s src pgPWR 0x040 = true) ∧
    (∃ (s : State), s.pwr.phase = .active ∧ s.domOn 9 = true) ∧
    (∃ (_ : Fin 16) (s : State), s.pwr.phase = .active ∧ s.domOn 9 = true ∧ s.inRefuge = false) ∧
    (∃ (late : Bool) (s : State), s.pwr.phase = .active ∧ s.pwr.readback = true ∧ (late = true ∨ ∀ h < 16, s.hasHead h = true → s.inSvc (h / 2) = true → headDelivers s h = true)) ∧
    (∃ (late : Bool) (s : State), s.pwr.phase = .active ∧ s.pwr.readback = true ∧ (late = true ∨ ∀ h < 16, s.hasHead h = true → s.inSvc (h / 2) = true → headDelivers s h = true)) ∧
    (∃ (s : State), s.pwr.phase = .active ∧ s.get PWR.MODE_REQ ≠ 2 ∧ idleConds s = true) :=
  ⟨⟨.host, 0x200, inPhase .idle [], by decide +kernel⟩,
   ⟨.host, 0x300, inPhase .active [], by decide +kernel⟩,
   ⟨.tool, 0, inPhase .idle [], by decide +kernel⟩,
   ⟨inPhase .active [(COLM.COL_OK, 1), (COLM.TEST_DUE, 1)], by decide +kernel⟩,
   ⟨15, inPhase .active [], by decide +kernel⟩,
   ⟨true, { up [] with pwr := { Power.init with phase := .active, readback := true } }, by decide +kernel⟩,
   ⟨false, { up [] with pwr := { Power.init with phase := .active, readback := true } }, by decide +kernel⟩,
   ⟨inPhase .active [(PWR.MODE_REQ, 1), (PWR.ACT_RDY, 1)], by decide +kernel⟩⟩

theorem meets_ParkAndWake :
    (∃ (s : State), s.pwr.phase = .idle ∧ s.get PWR.MODE_REQ = 0 ∧ parkConds s = true) ∧
    (∃ (w : WakeSrc) (s : State), s.pwr.phase = .parking ∧ s.pwr.armed = true ∧ wakeArmed s w = true) ∧
    (∃ (s : State), s.pwr.phase = .parking ∧ s.pwr.lateWake = []) ∧
    (∃ (s : State), s.pwr.phase = .parking ∧ s.pwr.lateWake = []) ∧
    (∃ (s : State), s.pwr.phase = .parking ∧ s.pwr.lateWake ≠ []) ∧
    (∃ (w : WakeSrc) (s : State), s.pwr.phase = .parked ∧ s.pwr.armed = true ∧ wakeArmed s w = true) ∧
    (∃ (w : WakeSrc) (s : State), s.pwr.phase = .parked ∧ s.pwr.armed = true ∧ wakeArmed s w = true) ∧
    (∃ (s : State), crawlPath s = true ∧ s.on CRAWL.CR_PIN = false) ∧
    (∃ (_ : Bool) (s : State), s.domOn 1 = true) ∧
    (∃ (_ : Bool) (s : State), s.domOn 1 = true) :=
  ⟨⟨{ inPhase .idle [(PWR.MODE_REQ, 0)] with saf := { Safety.init with saf := { Chan.init with lv := 0xFF * 2 ^ 40 } } }, by decide +kernel⟩,
   ⟨.relL, { up [] with pwr := { Power.init with phase := .parking, armed := true } }, by decide +kernel⟩,
   ⟨inPhase .parking [], by decide +kernel⟩,
   ⟨inPhase .parking [(CRAWL.CR_PIN, 1)], by decide +kernel⟩,
   ⟨{ up [] with pwr := { Power.init with phase := .parking, lateWake := [.relR] } }, by decide +kernel⟩,
   ⟨.relR, { up [] with pwr := { Power.init with phase := .parked, armed := true } }, by decide +kernel⟩,
   ⟨.drip, { up [] with pwr := { Power.init with phase := .parked, armed := true, wakeMask := 0xFFFF } }, by decide +kernel⟩,
   ⟨inPhase .parked [], by decide +kernel⟩,
   ⟨true, up [(CRAWL.MAP_LOADED, 1)], by decide +kernel⟩,
   ⟨false, up [(CRAWL.CR_PIN, 1), (CRAWL.CRAWL_ON, 1)], by decide +kernel⟩⟩

theorem meets_StartUpStepsPass :
    (∃ (s : State), atStep s 1 = true) ∧
    (∃ (s : State), atStep s 2 = true ∧ polesError s = none ∧ sealError s = none ∧ s.lc ≠ lcUNKNOWN ∧ ((s.lc = lcSERVICE ∨ s.lc = lcDEPOT) → signature s = s.saf.sealB)) ∧
    (∃ (k : Nat) (s : State), atStep s 2 = true ∧ s.inRefuge = false ∧ s.lc ≠ lcUNKNOWN ∧ (polesError s).or (sealError s) = some k) ∧
    (∃ (k : Nat) (s : State), atStep s 2 = true ∧ s.inRefuge = false ∧ s.lc ≠ lcUNKNOWN ∧ (polesError s).or (sealError s) = some k) ∧
    (∃ (s : State), atStep s 2 = true ∧ s.inRefuge = false ∧ s.lc = lcUNKNOWN) ∧
    (∃ (s : State), atStep s 2 = true ∧ s.inRefuge = false ∧ polesError s = none ∧ sealError s = none ∧ (s.lc = lcSERVICE ∨ s.lc = lcDEPOT) ∧ signature s ≠ s.saf.sealB) ∧
    (∃ (s : State), atStep s 3 = true ∧ s.bit SYS.ST_DONE 1 = true ∧ s.domOn 9 = true) ∧
    (∃ (s : State), atStep s 4 = true ∧ s.bit SYS.ST_DONE 1 = true ∧ s.pwr.wiped = true ∧ s.pwr.hostUp = true ∧ s.on SYS.HOST_RDY = true) ∧
    (∃ (s : State), atStep s 5 = true ∧ s.get SYS.ST_DONE = 0xF) :=
  ⟨⟨up [], by decide +kernel⟩,
   ⟨up [(COLM.COL_OK, 1)], by decide +kernel⟩,
   ⟨9, { up [(COLM.COL_OK, 1)] with saf := { Safety.init with sealA := 0x300 } }, by decide +kernel⟩,
   ⟨8, { up [(COLM.COL_OK, 1)] with saf := { Safety.init with sealA := 0x80 }, member := .plf4408 }, by decide +kernel⟩,
   ⟨up [(COLM.COL_OK, 1), (SYS.ST_DONE, 1), (SYS.LC_STATE, lcUNKNOWN)], by decide +kernel⟩,
   ⟨{ up [(COLM.COL_OK, 1), (SYS.LC_STATE, 2)] with saf := { Safety.init with sealB := 0x1FFFF, spoleB := 0x1FFFF } }, by decide +kernel⟩,
   ⟨up [(COLM.COL_OK, 1), (SYS.ST_DONE, 3)], by decide +kernel⟩,
   ⟨{ up [(COLM.COL_OK, 1), (SYS.ST_DONE, 7), (SYS.HOST_RDY, 1)] with pwr := { Power.init with wiped := true, hostUp := true } }, by decide +kernel⟩,
   ⟨up [(COLM.COL_OK, 1), (SYS.ST_DONE, 0xF)], by decide +kernel⟩⟩

theorem meets_StartUpFailuresAndMemories :
    (∃ (k : Fin 5) (_ : Fin 256) (_ : Fin 65536) (s : State), atStep s (k.val + 1) = true ∧ s.inRefuge = false) ∧
    (∃ (k : Fin 5) (_ : Fin 256) (_ : Fin 65536) (s : State), atStep s (k.val + 1) = true ∧ s.inRefuge = false) ∧
    (∃ (s : State), s.pwr.phase = .refuge ∧ s.get SYS.RF_STEP = 1) ∧
    (∃ (_ : Fin 256) (s : State), s.pwr.phase = .starting ∧ s.on SYS.LC_WIPE_PEND = false ∧ s.domOn 5 = true ∧ s.pwr.wiped = false) ∧
    (∃ (_ : Fin 65536) (_ : Fin 256) (s : State), s.pwr.phase = .starting ∧ s.domOn 5 = true ∧ s.pwr.wiped = false ∧ s.inRefuge = false) ∧
    (∃ (_ : Fin 65536) (_ : Fin 256) (s : State), (s.pwr.phase = .parking ∨ s.on SYS.LC_WIPE_PEND = true) ∧ s.domOn 5 = true ∧ mayRefuge s = true) ∧
    (∃ (_ : Fin 65536) (_ : Fin 256) (s : State), (s.pwr.phase = .parking ∨ s.on SYS.LC_WIPE_PEND = true) ∧ s.domOn 5 = true ∧ mayRefuge s = true) ∧
    (∃ (s : State), s.pwr.phase = .starting ∧ s.bit SYS.ST_DONE 1 = true ∧ s.on SYS.LC_WIPE_PEND = false ∧ s.on SYS.HOST_RDY = false ∧ s.inRefuge = false) ∧
    (∃ (k : Bank) (s : State), bitAt s.pwr.untested (bit1 (k = .b)) = true ∧ s.bit SYS.ST_DONE 2 = true ∧ s.domOn 10 = true ∧ s.on (if k = .b then PWR.GB_OK else PWR.GA_OK) = true) ∧
    (∃ (k : Bank) (_ : Fin 48) (s : State), bitAt s.pwr.untested (bit1 (k = .b)) = true ∧ s.bit SYS.ST_DONE 2 = true ∧ s.domOn 10 = true ∧ s.on (if k = .b then PWR.GB_OK else PWR.GA_OK) = true ∧ s.inRefuge = false) :=
  ⟨⟨0, 0x11, 65535, up [], by decide +kernel⟩,
   ⟨4, 0x51, 0, up [(COLM.COL_OK, 1), (SYS.ST_DONE, 0xF)], by decide +kernel⟩,
   ⟨inPhase .refuge [(SYS.REFUGE, 1), (SYS.RF_STEP, 1), (PWR.DOM_ON, 3)], by decide +kernel⟩,
   ⟨255, up [], by decide +kernel⟩,
   ⟨65535, 0, up [], by decide +kernel⟩,
   ⟨65535, 0, inPhase .parking [], by decide +kernel⟩,
   ⟨0, 0, up [(SYS.LC_WIPE_PEND, 1)], by decide +kernel⟩,
   ⟨up [(SYS.ST_DONE, 7)], by decide +kernel⟩,
   ⟨.b, live [(PWR.GB_OK, 1)], by decide +kernel⟩,
   ⟨.a, 47, live [(PWR.GA_OK, 1)], by decide +kernel⟩⟩

theorem meets_BootAndHostReady :
    (∃ (_ : Image) (_ : Image) (s : State), s.pwr.phase = .starting ∧ s.domOn 3 = true ∧ s.pwr.hostUp = false ∧ s.pwr.unproved = none) ∧
    (∃ (_ : Image) (_ : Image) (s : State), s.pwr.phase = .starting ∧ s.domOn 3 = true ∧ s.pwr.hostUp = false ∧ s.pwr.unproved = none) ∧
    (∃ (_ : Image) (_ : Image) (s : State), s.pwr.phase = .starting ∧ s.domOn 3 = true ∧ s.pwr.hostUp = false ∧ s.pwr.unproved = none) ∧
    (∃ (_ : Image) (_ : Image) (u : Nat) (s : State), s.pwr.phase = .starting ∧ s.domOn 3 = true ∧ s.pwr.hostUp = false ∧ s.pwr.unproved = some u ∧ u < 2) ∧
    (∃ (_ : Image) (_ : Image) (u : Nat) (s : State), s.pwr.phase = .starting ∧ s.domOn 3 = true ∧ s.pwr.hostUp = false ∧ s.pwr.unproved = some u ∧ u < 2) ∧
    (∃ (src : Src) (val : Word) (s : State), hears s src pgBOOT 0x048 = true ∧ s.fixed.contains BOOT.BOOT_CONFIRM.key = false ∧ val.toNat % 2 = 1 ∧ s.on BOOT.TRIAL = true) ∧
    (∃ (src : Src) (_ : Word) (s : State), hears s src pgSYS 0x054 = true ∧ s.fixed.contains SYS.HOST_RDY.key = false) ∧
    (∃ (src : Src) (_ : Word) (s : State), hears s src pgSYS 0x054 = true ∧ s.fixed.contains SYS.HOST_RDY.key = false) ∧
    (∃ (src : Src) (_ : Word) (s : State), hears s src pgSYS 0x054 = true ∧ s.fixed.contains SYS.HOST_RDY.key = true) :=
  ⟨⟨⟨true, 0⟩, ⟨false, 0⟩, up [], by decide +kernel⟩,
   ⟨⟨false, 0⟩, ⟨true, 5⟩, up [(BOOT.ROLLBACK_MIN, 5)], by decide +kernel⟩,
   ⟨⟨false, 0⟩, ⟨true, 4⟩, up [(BOOT.ROLLBACK_MIN, 5)], by decide +kernel⟩,
   ⟨⟨true, 0⟩, ⟨true, 0⟩, 1, { up [] with pwr := { Power.init with unproved := some 1 } }, by decide +kernel⟩,
   ⟨⟨true, 0⟩, ⟨true, 0⟩, 0, { up [] with pwr := { Power.init with unproved := some 0 } }, by decide +kernel⟩,
   ⟨.host, 1, up [(BOOT.TRIAL, 1)], by decide +kernel⟩,
   ⟨.host, 1, up [], by decide +kernel⟩,
   ⟨.host, 0, up [], by decide +kernel⟩,
   ⟨.host, 1, { up [] with fixed := [SYS.HOST_RDY.key] }, by decide +kernel⟩⟩

theorem meets_RestartsAndWatchdog :
    (∃ (src : Src) (s : State), hears s src pgSYS 0x04C = true ∧ axesRest s = true ∧ allLocked s = true ∧ s.pwr.phase ≠ .powerDown) ∧
    (∃ (src : Src) (s : State), hears s src pgSYS 0x04C = true ∧ (axesRest s = false ∨ allLocked s = false ∨ s.pwr.phase = .powerDown)) ∧
    (∃ (src : Src) (v : Word) (s : State), hears s src pgSYS 0x04C = true ∧ v ≠ 0xA5C3) ∧
    (∃ (src : Src) (_ : Word) (s : State), hears s src pgSYS 0x05C = true) ∧
    (∃ (src : Src) (_ : Word) (s : State), hears s src pgSYS 0x05C = true) ∧
    (∃ (s : State), s.on SYS.HOST_WD_MS = true ∧ s.pwr.wdRun = true ∧ s.on SAFM.HOST_WD = false ∧ s.inRefuge = false) ∧
    (∃ (s : State), s.pwr.wdDue = true ∧ s.pwr.phase ≠ .powerDown) :=
  ⟨⟨.host, up [], by decide +kernel⟩,
   ⟨.host, axis 15 { Axis.init with vel := 1 } [], by decide +kernel⟩,
   ⟨.host, 0xA5C2, up [], by decide +kernel⟩,
   ⟨.host, 0x5A3C, up [], by decide +kernel⟩,
   ⟨.host, 1, up [], by decide +kernel⟩,
   ⟨{ live [(SYS.HOST_WD_MS, 10), (FIO.FO_OUT, 5)] with pwr := { Power.init with wdRun := true } }, by decide +kernel⟩,
   ⟨{ up [] with pwr := { Power.init with wdDue := true } }, by decide +kernel⟩⟩

theorem meets_LifeCycleAndRefuge :
    (∃ (new : Fin 6) (s : State), served s 0 = true ∧ lcRefusal (taken s) new = none) ∧
    (∃ (new : Fin 6) (c : Nat) (s : State), served s 0 = true ∧ lcRefusal (taken s) new = some c) ∧
    (∃ (new : Fin 6) (c : Nat) (s : State), served s 0 = true ∧ lcRefusal (taken s) new = some c) ∧
    (∃ (new : Fin 6) (c : Nat) (s : State), served s 0 = true ∧ lcRefusal (taken s) new = some c) ∧
    (∃ (_ : Fin 6) (s : State), slatiUp s = true ∧ s.lc = lcSCRAP) ∧
    (∃ (_ : Bool) (_ : Option (Fin 7)) (s : State), s.on SYS.LC_WIPE_PEND = true ∧ s.pwr.phase ≠ .off ∧ s.pwr.phase ≠ .powerDown ∧ ((s.pwr.phase ≠ .starting ∧ s.pwr.phase ≠ .refuge) ∨ s.domOn 3 = true)) ∧
    (∃ (_ : Bool) (_ : Option (Fin 7)) (s : State), s.on SYS.LC_WIPE_PEND = true ∧ s.pwr.phase ≠ .off ∧ s.pwr.phase ≠ .powerDown ∧ ((s.pwr.phase ≠ .starting ∧ s.pwr.phase ≠ .refuge) ∨ s.domOn 3 = true)) ∧
    (∃ (_ : Bool) (_ : Option (Fin 7)) (s : State), s.on SYS.LC_WIPE_PEND = true ∧ s.pwr.phase = .starting ∧ s.domOn 3 = false ∧ s.bit SYS.ST_DONE 1 = true) ∧
    (∃ (s : State), served s 1 = true) ∧
    (∃ (s : State), s.inRefuge = true ∧ s.domOn 3 = true ∧ s.domOn 8 = true) ∧
    (∃ (s : State), s.inRefuge = true ∧ s.domOn 3 = true ∧ s.domOn 7 = true) :=
  ⟨⟨4, tool 1 [], by decide +kernel⟩,
   ⟨5, 3, tool 1 [], by decide +kernel⟩,
   ⟨0, 4, tool 3 [], by decide +kernel⟩,
   ⟨2, 9, tool 3 [(SYS.REFUGE, 1)], by decide +kernel⟩,
   ⟨1, tool 1 [(SYS.LC_STATE, lcSCRAP)], by decide +kernel⟩,
   ⟨false, none, inPhase .idle [(SYS.LC_WIPE_PEND, 1)], by decide +kernel⟩,
   ⟨true, some 3, inPhase .starting [(SYS.LC_WIPE_PEND, 1)], by decide +kernel⟩,
   ⟨false, none, put [(SYS.LC_WIPE_PEND, 1), (SYS.ST_DONE, 3), (PWR.DOM_ON, 7)], by decide +kernel⟩,
   ⟨tool 1 [], by decide +kernel⟩,
   ⟨up [(SYS.REFUGE, 1)], by decide +kernel⟩,
   ⟨up [(SYS.REFUGE, 1)], by decide +kernel⟩⟩

theorem meets_DripKeepsTime :
    (∃ (s : State), s.tick % 2 ^ 20 = 0 ∧ s.drip.stopped = false) ∧
    (∃ (s : State), s.pwr.phase = .off ∧ s.pwr.feed = .backup ∧ s.drip.stopped = false) ∧
    (∃ (s : State), s.on PWR.PF_WARN = false ∧ s.domOn 3 = true) ∧
    (∃ (v : Word) (s : State), s.on PWR.PF_WARN = false ∧ s.domOn 3 = true ∧ v ≠ 0x5E7C0001) ∧
    (∃ (_ : Word) (s : State), (s.on PWR.PF_WARN = true ∨ s.domOn 3 = false)) ∧
    (∃ (_ : Word) (s : State), (s.on PWR.PF_WARN = true ∨ s.domOn 3 = false)) ∧
    (∃ (hi : Nat) (lo : Nat) (second : Bool) (before : List (Nat × Nat × Bool)) (rest : List (Nat × Nat × Bool)) (s : State), s.drip.sets = before ++ (hi, lo, second) :: rest ∧ (∀ q ∈ before, q.2.2 = true) ∧ s.drip.stopped = false ∧ s.tick % 32 = 0 ∧ (before ≠ [] → s.drip.cal % 1024 ≠ 0 ∧ s.drip.cal ≠ calMax) ∧ (second = true → s.drip.cal % 1024 = 0)) ∧
    (∃ (hi : Nat) (lo : Nat) (second : Bool) (before : List (Nat × Nat × Bool)) (rest : List (Nat × Nat × Bool)) (s : State), s.drip.sets = before ++ (hi, lo, second) :: rest ∧ (∀ q ∈ before, q.2.2 = true) ∧ s.drip.stopped = false ∧ s.tick % 32 = 0 ∧ (before ≠ [] → s.drip.cal % 1024 ≠ 0 ∧ s.drip.cal ≠ calMax) ∧ (second = true → s.drip.cal % 1024 = 0)) ∧
    (∃ (hi : Nat) (lo : Nat) (second : Bool) (before : List (Nat × Nat × Bool)) (rest : List (Nat × Nat × Bool)) (s : State), s.drip.sets = before ++ (hi, lo, second) :: rest ∧ (∀ q ∈ before, q.2.2 = true) ∧ s.drip.stopped = false ∧ s.tick % 32 = 0 ∧ (before ≠ [] → s.drip.cal % 1024 ≠ 0 ∧ s.drip.cal ≠ calMax) ∧ (second = true → s.drip.cal % 1024 = 0)) ∧
    (∃ (v : Nat), v < 2 ^ 32) ∧
    (∃ (v : Nat), v < 2 ^ 32) ∧
    (∃ (v : Nat), v < 2 ^ 32) ∧
    (∃ (s : State), s.drip.stopped = false ∧ (setsApplied s).drip.cal % 1024 = 0 ∧ bitAt (almEn (setsApplied s)) 0 = true ∧ almMatch (setsApplied s) = true) ∧
    (∃ (s : State), s.drip.stopped = false ∧ (setsApplied s).drip.cal % 1024 = 0 ∧ bitAt (almEn (setsApplied s)) 0 = true ∧ almMatch (setsApplied s) = true) ∧
    (∃ (s : State), ((setsApplied s).drip.cal % 1024 ≠ 0 ∨ almMatch (setsApplied s) = false)) ∧
    (∃ (s : State), ((setsApplied s).drip.cal % 1024 ≠ 0 ∨ almMatch (setsApplied s) = false)) ∧
    (∃ (s : State), s.drip.stopped = false ∧ bitAt (almEn s) 1 = true ∧ s.drip.dlyArmed = true ∧ (s.tick + 2 ^ 48 - s.drip.dlyDue) % 2 ^ 48 < 2 ^ 47) :=
  ⟨⟨{ up [] with tick := 2 ^ 20 }, by decide +kernel⟩,
   ⟨{ put [] with pwr := { Power.init with phase := .off, feed := .backup } }, by decide +kernel⟩,
   ⟨up [], by decide +kernel⟩,
   ⟨0x5E7C0000, up [], by decide +kernel⟩,
   ⟨0x5E7C0001, up [(PWR.PF_WARN, 1)], by decide +kernel⟩,
   ⟨0, lacking 3, by decide +kernel⟩,
   ⟨0x18D13000, 0, false, [], [(1, 2, false)], { up [] with drip := { Drip.init with sets := [(0x18D13000, 0, false), (1, 2, false)] } }, by decide +kernel⟩,
   ⟨0x18D13000, 0, true, [], [], { up [] with drip := { Drip.init with sets := [(0x18D13000, 0, true)] } }, by decide +kernel⟩,
   ⟨0x18D13000, 0, false, [(1, 2, true)], [], { up [] with drip := { Drip.init with sets := [(1, 2, true), (0x18D13000, 0, false)], cal := 1 } }, by decide +kernel⟩,
   ⟨0, by decide +kernel⟩,
   ⟨0xFFFFFFFF, by decide +kernel⟩,
   ⟨0x18D13000, by decide +kernel⟩,
   ⟨((up [(DRIP.CAL_VALID, 1)]).wr32 pgDRIP 1 0x18 1).wr32 pgDRIP 1 0x20 3, by decide +kernel⟩,
   ⟨{ ((up [(DRIP.CAL_VALID, 1)]).wr32 pgDRIP 1 0x18 1).wr32 pgDRIP 1 0x20 3 with pwr := { Power.init with phase := .parked, armed := true, wakeMask := 0xFFFF } }, by decide +kernel⟩,
   ⟨{ up [] with drip := { Drip.init with cal := 1 } }, by decide +kernel⟩,
   ⟨up [], by decide +kernel⟩,
   ⟨{ ((up [(DRIP.CAL_VALID, 1)]).wr32 pgDRIP 1 0x18 1).wr32 pgDRIP 1 0x20 3 with drip := { Drip.init with dlyArmed := true, dlyDue := 100 }, tick := 100 }, by decide +kernel⟩⟩

theorem meets_MotionCommands :
    (∃ (src : Src) (n : Fin 16) (s : State), hears s src (pgAX n) 0x048 = true ∧ (s.ax n).reqs = [] ∧ pushRefused s n (s.get (AX.PROFILE n)) = false ∧ (s.get (AX.BLEND n) = 2 ∨ (s.ax n).queue.length < 8)) ∧
    (∃ (src : Src) (n : Fin 16) (s : State), hears s src (pgAX n) 0x048 = true ∧ (s.ax n).reqs = [] ∧ pushRefused s n (s.get (AX.PROFILE n)) = false ∧ (s.get (AX.BLEND n) = 2 ∨ (s.ax n).queue.length < 8)) ∧
    (∃ (src : Src) (n : Fin 16) (s : State), hears s src (pgAX n) 0x048 = true ∧ (s.ax n).reqs = [] ∧ pushRefused s n (s.get (AX.PROFILE n)) = false ∧ s.get (AX.BLEND n) ≠ 2 ∧ 8 ≤ (s.ax n).queue.length) ∧
    (∃ (src : Src) (n : Fin 16) (s : State), hears s src (pgAX n) 0x048 = true ∧ (s.ax n).reqs = [] ∧ pushRefused s n (s.get (AX.PROFILE n)) = true) ∧
    (∃ (src : Src) (n : Fin 16) (s : State), hears s src (pgAX n) 0x048 = true) ∧
    (∃ (src : Src) (n : Fin 16) (s : State), hears s src (pgAX n) 0x048 = true ∧ (s.ax n).reqs = []) ∧
    (∃ (src : Src) (n : Fin 16) (s : State), hears s src (pgAX n) 0x048 = true ∧ (s.ax n).reqs ≠ []) ∧
    (∃ (src : Src) (n : Fin 16) (s : State), hears s src (pgAX n) 0x048 = true ∧ reverseRefused s n = true) ∧
    (∃ (src : Src) (n : Fin 16) (s : State), hears s src (pgAX n) 0x048 = true ∧ reverseRefused s n = false) :=
  ⟨⟨.host, 0, live [(AX.PRF_VALID 0, 1)], by decide +kernel⟩,
   ⟨.host, 15, live [(AX.PRF_VALID 15, 1), (AX.BLEND 15, 2)], by decide +kernel⟩,
   ⟨.host, 0, axis 0 { Axis.init with queue := List.replicate 8 ⟨0, 0, 0, 0, false, 0, none, 0⟩ } [(AX.PRF_VALID 0, 1)], by decide +kernel⟩,
   ⟨.host, 8, up [], by decide +kernel⟩,
   ⟨.host, 3, up [], by decide +kernel⟩,
   ⟨.host, 0, axis 0 { Axis.init with queue := List.replicate 8 ⟨0, 0, 0, 0, false, 0, none, 0⟩ } [], by decide +kernel⟩,
   ⟨.host, 7, axis 7 { Axis.init with reqs := [.squeeze] } [], by decide +kernel⟩,
   ⟨.host, 0, up [], by decide +kernel⟩,
   ⟨.host, 0, live [(AX.PRF_VALID 0, 1)], by decide +kernel⟩⟩

theorem meets_MotionControl :
    (∃ (src : Src) (n : Fin 16) (k : Nat) (v : Word) (s : State), hears s src (pgAX n) 0x0A0 = true ∧ v.toNat = 0x00C00000 + k ∧ k < 32 ∧ prfInUse s n k = false ∧ prfCheck s n k = none) ∧
    (∃ (src : Src) (n : Fin 16) (k : Nat) (reason : Nat) (seg : Nat) (v : Word) (s : State), hears s src (pgAX n) 0x0A0 = true ∧ v.toNat = 0x00C00000 + k ∧ k < 32 ∧ prfInUse s n k = false ∧ prfCheck s n k = some (reason, seg)) ∧
    (∃ (src : Src) (v : Word) (s : State), hears s src pgTRV 0x04C = true ∧ v.toNat / 0x10000 = 0x6A5C) ∧
    (∃ (src : Src) (v : Word) (s : State), hears s src pgTRV 0x04C = true ∧ v.toNat / 0x10000 = 0x6A5C) ∧
    (∃ (src : Src) (n : Fin 16) (_ : Word) (s : State), hears s src (pgAX n) 0x044 = true) ∧
    (∃ (src : Src) (n : Fin 16) (_ : Word) (s : State), hears s src (pgAX n) 0x044 = true) ∧
    (∃ (src : Src) (n : Fin 16) (_ : Word) (s : State), hears s src (pgAX n) 0x044 = true) ∧
    (∃ (src : Src) (n : Fin 16) (v : Word) (s : State), hears s src (pgAX n) 0x044 = true ∧ n.val < 8 ∧ (s.ax n).atRest = true ∧ s.on (AX.TORQUE n) = false ∧ s.get (AX.MODE n) = 0 ∧ bitsOf v.toNat 4 2 = 1 ∧ s.owner 1 n = 0) ∧
    (∃ (src : Src) (n : Fin 16) (v : Word) (s : State), hears s src (pgAX n) 0x044 = true ∧ n.val < 8 ∧ (s.ax n).atRest = true ∧ s.on (AX.TORQUE n) = false ∧ s.get (AX.MODE n) = 1 ∧ bitsOf v.toNat 4 2 = 0 ∧ s.owner 1 n = 2) ∧
    (∃ (src : Src) (n : Fin 16) (v : Word) (s : State), hears s src (pgAX n) 0x00C = true ∧ unlocked s src (pgAX n) 0x00C = true ∧ bitAt v.toNat 0 = false) ∧
    (∃ (src : Src) (v : Word) (s : State), hears s src pgTRV 0x00C = true ∧ unlocked s src pgTRV 0x00C = true ∧ bitAt v.toNat 0 = false) :=
  ⟨⟨.host, 0, 0, 0x00C00000, shaped [], by decide +kernel⟩,
   ⟨.host, 15, 31, 1, 0, 0x00C0001F, live [(AX.PRF_VALID 15, 0xFFFFFFFF)], by decide +kernel⟩,
   ⟨.host, 0x6A5CFFFF, axis 15 { Axis.init with queue := [⟨0, 0, 0, 0, true, 0, none, 0⟩] } [], by decide +kernel⟩,
   ⟨.host, 0x6A5C0001, axis 15 { Axis.init with queue := [⟨0, 0, 0, 0, true, 0, none, 0⟩] } [], by decide +kernel⟩,
   ⟨.host, 0, 1, shaped [(HDR.EN (pgAX 0), 1), (HDR.EN pgTRV, 1), (AX.PRF_VALID 0, 1)], by decide +kernel⟩,
   ⟨.host, 0, 1, up [], by decide +kernel⟩,
   ⟨.host, 0, 0, live [(AX.TORQUE_REQ 0, 1)], by decide +kernel⟩,
   ⟨.host, 7, 0x10, live [], by decide +kernel⟩,
   ⟨.host, 7, 0, live [(AX.MODE 7, 1), (RES.OWN_CSTEP, 0x20000000)], by decide +kernel⟩,
   ⟨.host, 0, 0, live [(HDR.EN (pgAX 0), 1)], by decide +kernel⟩,
   ⟨.host, 0, live [(HDR.EN pgTRV, 1)], by decide +kernel⟩⟩

theorem meets_MotionEvents :
    (∃ (_ : List AxSample) (_ : Nat) (s : State), s.domOn 3 = true ∧ s.bit CLK.CLK_FAIL 3 = false) ∧
    (∃ (_ : List AxSample) (_ : Nat) (s : State), s.domOn 3 = true ∧ s.bit CLK.CLK_FAIL 3 = false) ∧
    (∃ (n : Fin 16) (k : Nat) (s : State), (s.ax n).ramp = .up k ∧ 400 ≤ k ∧ s.on (AX.TORQUE n) = true) ∧
    (∃ (n : Fin 16) (s : State), s.on (AX.TORQUE n) = true ∧ (s.ax n).atRest = true ∧ s.on (AX.HOLD n) = false ∧ 20 * s.get (AX.AX_HOLD_DELAY n) ≤ (s.ax n).restN) ∧
    (∃ (n : Fin 16) (s : State), s.hasAx n = true) ∧
    (∃ (n : Fin 8) (_ : Bool) (_ : Nat) (s : State), s.hasAx n = true ∧ s.get (AX.MODE n) = 1) ∧
    (∃ (n : Fin 8) (_ : Bool) (_ : Nat) (s : State), s.hasAx n = true ∧ s.get (AX.MODE n) = 1) :=
  ⟨⟨List.replicate 16 AxSample.quiet, 0, live [], by decide +kernel⟩,
   ⟨List.replicate 16 AxSample.quiet, 1000000, live [], by decide +kernel⟩,
   ⟨0, 400, axis 0 { Axis.init with ramp := .up 400 } [(AX.TORQUE 0, 1)], by decide +kernel⟩,
   ⟨0, axis 0 { Axis.init with restN := 1000000 } [(AX.TORQUE 0, 1)], by decide +kernel⟩,
   ⟨15, live [(AX.TORQUE 15, 1)], by decide +kernel⟩,
   ⟨7, false, 1000, live [(AX.MODE 7, 1)], by decide +kernel⟩,
   ⟨0, true, 0, live [(AX.MODE 0, 1)], by decide +kernel⟩⟩

theorem meets_PositionSensing :
    (∃ (n : Fin 16) (s : State), s.hasAx n = true ∧ (s.ax n).encLost = false) ∧
    (∃ (n : Fin 16) (e : Int) (s : State), s.hasAx n = true ∧ s.on (AX.DEV_FAULT n) = false ∧ s.on (AX.TORQUE n) = true ∧ (s.ax n).encLost = false ∧ (s.ax n).devAt = some e) ∧
    (∃ (n : Fin 16) (e : Int) (s : State), s.hasAx n = true ∧ s.on (AX.DEV_FAULT n) = false ∧ s.on (AX.TORQUE n) = true ∧ (s.ax n).encLost = false ∧ (s.ax n).devAt = some e) ∧
    (∃ (n : Fin 16) (opened : Bool) (s : State), s.hasAx n = true ∧ 41 ≤ (swDeb (s.ax n) opened).run ∧ s.on (swReg n opened) = !(swDeb (s.ax n) opened).level) ∧
    (∃ (n : Fin 16) (opened : Bool) (s : State), s.hasAx n = true ∧ 41 ≤ (swDeb (s.ax n) opened).run ∧ s.on (swReg n opened) = !(swDeb (s.ax n) opened).level) ∧
    (∃ (n : Fin 16) (s : State), s.on (AX.HOMING n) = true ∧ s.get (AX.HOME_MODE n) = 1 ∧ (s.ax n).phase = .search ∧ 40 ≤ (s.ax n).stallN) :=
  ⟨⟨0, live [(AX.TORQUE 0, 1)], by decide +kernel⟩,
   ⟨0, 65536, axis 0 { Axis.init with devAt := some 65536 } [(AX.TORQUE 0, 1)], by decide +kernel⟩,
   ⟨0, -655360000, axis 0 { Axis.init with devAt := some (-655360000) } [(AX.TORQUE 0, 1)], by decide +kernel⟩,
   ⟨0, true, axis 0 { Axis.init with opened := ⟨true, 41, 7⟩ } [], by decide +kernel⟩,
   ⟨0, false, axis 0 { Axis.init with closed := ⟨true, 41, 7⟩ } [], by decide +kernel⟩,
   ⟨0, axis 0 { Axis.init with phase := .search, stallN := 40 } [(AX.HOMING 0, 1), (AX.HOME_MODE 0, 1)], by decide +kernel⟩⟩

theorem meets_HomingLearningStep :
    (∃ (src : Src) (n : Fin 16) (s : State), hears s src (pgAX n) 0x048 = true ∧ (s.ax n).reqs = [] ∧ busyAxis s n = false ∧ (s.ax n).after = none ∧ s.on (AX.HOMING n) = false ∧ s.bit (AX.PRF_VALID n) (s.get (AX.HOME_PRF n)) = true) ∧
    (∃ (src : Src) (n : Fin 16) (s : State), hears s src (pgAX n) 0x048 = true ∧ (s.ax n).reqs = [] ∧ (s.ax n).atRest = true ∧ s.on (AX.HOMED n) = true ∧ axFaulted s n = false) ∧
    (∃ (src : Src) (n : Fin 16) (s : State), hears s src (pgAX n) 0x048 = true ∧ (s.ax n).reqs = []) ∧
    (∃ (src : Src) (n : Fin 16) (s : State), hears s src (pgAX n) 0x048 = true ∧ (s.ax n).reqs = [] ∧ 8 ≤ n.val ∧ busyAxis s n = false ∧ s.on (AX.HOMED n) = true ∧ s.bit (AX.PRF_VALID n) (s.get (AX.PROFILE n)) = true) ∧
    (∃ (src : Src) (n : Fin 16) (s : State), hears s src (pgAX n) 0x048 = true ∧ (s.ax n).reqs = [] ∧ 8 ≤ n.val ∧ busyAxis s n = false ∧ s.on (AX.HOMED n) = true ∧ s.bit (AX.PRF_VALID n) (s.get (AX.PROFILE n)) = true) ∧
    (∃ (src : Src) (n : Fin 16) (s : State), hears s src (pgAX n) 0x048 = true ∧ (s.ax n).reqs ≠ []) ∧
    (∃ (n : Fin 8) (_ : Nat) (rcd : List Nat) (rest : List (List Nat)) (s : State), (s.head (2 * n.val + 1)).toTraverse = rcd :: rest) ∧
    (∃ (n : Fin 8) (_ : Nat) (rcd : List Nat) (rest : List (List Nat)) (s : State), (s.head (2 * n.val + 1)).toTraverse = rcd :: rest) ∧
    (∃ (n : Fin 8) (_ : Nat) (rcd : List Nat) (rest : List (List Nat)) (s : State), (s.head (2 * n.val + 1)).toTraverse = rcd :: rest) ∧
    (∃ (n : Fin 8) (s : State), (s.ax (8 + n.val)).stepOut = true ∧ (s.ax (8 + n.val)).gapSeen = true ∧ (s.ax (8 + n.val)).atRest = false ∧ (s.ax (8 + n.val)).endCause = 0) :=
  ⟨⟨.host, 0, live [(AX.TORQUE 0, 1), (AX.PRF_VALID 0, 1)], by decide +kernel⟩,
   ⟨.host, 0, live [(AX.HOMED 0, 1)], by decide +kernel⟩,
   ⟨.host, 0, live [(AX.LEARN 0, 1)], by decide +kernel⟩,
   ⟨.host, 8, live [(AX.TORQUE 8, 1), (AX.HOMED 8, 1), (AX.PRF_VALID 8, 1)], by decide +kernel⟩,
   ⟨.host, 15, live [(AX.TORQUE 15, 1), (AX.HOMED 15, 1), (AX.PRF_VALID 15, 1)], by decide +kernel⟩,
   ⟨.host, 7, axis 7 { Axis.init with reqs := [.squeeze] } [], by decide +kernel⟩,
   ⟨7, 4500, [0, 1000, 2048, 0, 5 * 65536, 0, 0, 0], [], head 15 { Head.init with toTraverse := [[0, 1000, 2048, 0, 5 * 65536, 0, 0, 0]] } [], by decide +kernel⟩,
   ⟨0, 4500, [0, 1000, 0, 0, 5, 0, 0, 0], [[]], head 1 { Head.init with toTraverse := [[0, 1000, 0, 0, 5, 0, 0, 0], []] } [], by decide +kernel⟩,
   ⟨7, 4500, [0, 1000, 2048, 0, 5 * 65536, 0, 0, 0], [], (head 15 { Head.init with toTraverse := [[0, 1000, 2048, 0, 5 * 65536, 0, 0, 0]] } []).setAx 15 { Axis.init with stepOut := true }, by decide +kernel⟩,
   ⟨0, axis 8 { Axis.init with stepOut := true, gapSeen := true, vel := 1 } [], by decide +kernel⟩⟩

theorem meets_TripsAndReversals :
    (∃ (n : Fin 16) (s : State), s.hasAx n = true ∧ 4 ≤ (s.ax n).overN ∧ s.on (AX.TORQUE n) = true ∧ (s.ax n).vel ≠ 0) ∧
    (∃ (n : Fin 16) (s : State), bitAt s.saf.revReq n = true ∧ n.val < 8 ∧ ((s.ax n).vel < 0 ∨ ((s.ax n).vel = 0 ∧ bitAt s.saf.revRest n = true)) ∧ (s.ax n).reversing = false) ∧
    (∃ (n : Fin 8) (s : State), s.hasDw n = true ∧ s.on (AX.SQZ n) = !bitAt s.saf.sqz n) :=
  ⟨⟨0, axis 0 { Axis.init with overN := 4, vel := -1 } [(AX.TORQUE 0, 1)], by decide +kernel⟩,
   ⟨7, { axis 7 { Axis.init with vel := -1 } [] with saf := { Safety.init with revReq := 0x80 } }, by decide +kernel⟩,
   ⟨7, { live [] with saf := { Safety.init with sqz := 0x80 } }, by decide +kernel⟩⟩

theorem meets_LinksComeUp :
    (∃ (h : Fin 16) (_ : Nat) (_ : Nat) (s : State), s.hasHead h = true ∧ link s h ≠ lsOFF ∧ link s h ≠ lsTRIP) ∧
    (∃ (h : Fin 16) (s : State), linksRun s = true ∧ link s h = lsPOWER ∧ s.on (LH.PRESENT h) = true) ∧
    (∃ (h : Fin 16) (s : State), link s h = lsPOWER ∧ s.on (LH.PRESENT h) = true) ∧
    (∃ (h : Fin 16) (_ : Fin 3) (s : State), linksRun s = true ∧ link s h = lsTRAIN) ∧
    (∃ (h : Fin 16) (_ : Fin 3) (s : State), linksRun s = true ∧ link s h = lsTRAIN) ∧
    (∃ (h : Fin 16) (_ : List Nat) (_ : Bool) (s : State), linksRun s = true ∧ link s h = lsIDENT) ∧
    (∃ (h : Fin 16) (_ : List Nat) (_ : Bool) (s : State), linksRun s = true ∧ link s h = lsIDENT) ∧
    (∃ (h : Fin 16) (_ : List Nat) (_ : Bool) (s : State), linksRun s = true ∧ link s h = lsIDENT) ∧
    (∃ (h : Fin 16) (s : State), linksRun s = true ∧ link s h = lsCALIB) ∧
    (∃ (h : Fin 16) (s : State), linksRun s = true ∧ link s h = lsCALIB) ∧
    (∃ (h : Fin 16) (s : State), linksRun s = true ∧ link s h = lsCALIB ∧ (s.head h).calHave = true ∧ (s.head h).calFor = calKey s h ∧ (s.head h).full = false) ∧
    (∃ (h : Fin 16) (_ : List (Nat × Nat)) (s : State), linksRun s = true ∧ link s h = lsCALIB) :=
  ⟨⟨15, 7500, 24000, live [(LH.LINK_STATE 15, lsPOWER)], by decide +kernel⟩,
   ⟨0, live [(LH.LINK_STATE 0, lsPOWER), (LH.PRESENT 0, 1)], by decide +kernel⟩,
   ⟨0, live [(LH.LINK_STATE 0, lsPOWER), (LH.PRESENT 0, 1)], by decide +kernel⟩,
   ⟨0, 0, live [(LH.LINK_STATE 0, lsTRAIN)], by decide +kernel⟩,
   ⟨0, 2, live [(LH.LINK_STATE 0, lsTRAIN)], by decide +kernel⟩,
   ⟨0, List.replicate 256 1, true, live [(LH.LINK_STATE 0, lsIDENT)], by decide +kernel⟩,
   ⟨0, [], true, live [(LH.LINK_STATE 0, lsIDENT)], by decide +kernel⟩,
   ⟨0, [0, 1, 0, 2, 0, 0, 0, 0, 0, 0, 0, 9, 0, 0, 0, 0, 1, 1, 1, 1, 0, 0, 1, 0], true, live [(LH.LINK_STATE 0, lsIDENT)], by decide +kernel⟩,
   ⟨0, head 0 { Head.init with calTries := 1 } [(LH.LINK_STATE 0, lsCALIB)], by decide +kernel⟩,
   ⟨0, head 0 { Head.init with calTries := 2 } [(LH.LINK_STATE 0, lsCALIB)], by decide +kernel⟩,
   ⟨0, head 0 { Head.init with calHave := true, calFor := (5, 0) } [(LH.LINK_STATE 0, lsCALIB), (LH.HEAD_SER_LO 0, 5)], by decide +kernel⟩,
   ⟨0, [(0, 5), (4, 7)], live [(LH.LINK_STATE 0, lsCALIB)], by decide +kernel⟩⟩

theorem meets_LinksGoDown :
    (∃ (h : Fin 16) (_ : Bool) (s : State), lsTRAIN ≤ link s h ∧ link s h ≤ lsRUN) ∧
    (∃ (h : Fin 16) (_ : Bool) (s : State), lsTRAIN ≤ link s h ∧ link s h ≤ lsRUN) ∧
    (∃ (h : Fin 16) (s : State), link s h = lsREJECT) ∧
    (∃ (h : Fin 16) (s : State), link s h = lsREJECT ∧ s.on (LH.LINK_UP h) = true) ∧
    (∃ (h : Fin 16) (s : State), link s h = lsFAULT) ∧
    (∃ (src : Src) (h : Fin 16) (s : State), hears s src (pgLH h) 0x044 = true) ∧
    (∃ (src : Src) (h : Fin 16) (s : State), hears s src (pgLH h) 0x044 = true) ∧
    (∃ (src : Src) (h : Fin 16) (s : State), hears s src (pgLH h) 0x044 = true) ∧
    (∃ (src : Src) (h : Fin 16) (s : State), hears s src (pgLH h) 0x044 = true) ∧
    (∃ (src : Src) (h : Fin 16) (s : State), hears s src (pgLH h) 0x044 = true ∧ link s h = lsRUN) ∧
    (∃ (src : Src) (h : Fin 16) (s : State), hears s src (pgLH h) 0x044 = true ∧ link s h ≠ lsRUN) ∧
    (∃ (h : Fin 16) (s : State), s.hasHead h = true ∧ link s h ≠ lsOFF ∧ link s h ≠ lsTRIP) ∧
    (∃ (h : Fin 16) (s : State), link s h = lsTRIP ∧ s.on (LH.PWR_TRIP h) = true ∧ (s.head h).dead = false) ∧
    (∃ (mw : List Nat) (h : Nat) (s : State), s.domOn 6 = true ∧ 960 < powerSum mw ∧ powerTop s mw = some h) ∧
    (∃ (h : Fin 16) (mw : List Nat) (s : State), s.on (LH.HP_SHED h) = true ∧ powerSum mw ≤ 960) :=
  ⟨⟨0, true, live [(LH.LINK_STATE 0, lsRUN)], by decide +kernel⟩,
   ⟨0, false, live [(LH.LINK_STATE 0, lsTRAIN)], by decide +kernel⟩,
   ⟨0, live [(LH.LINK_STATE 0, lsREJECT)], by decide +kernel⟩,
   ⟨0, live [(LH.LINK_STATE 0, lsREJECT), (LH.LINK_UP 0, 1)], by decide +kernel⟩,
   ⟨0, live [(LH.LINK_STATE 0, lsFAULT)], by decide +kernel⟩,
   ⟨.host, 0, live [(LH.LINK_STATE 0, lsRUN)], by decide +kernel⟩,
   ⟨.host, 0, live [(LH.LINK_STATE 0, lsFAULT)], by decide +kernel⟩,
   ⟨.host, 0, live [(LH.LINK_STATE 0, lsOFF)], by decide +kernel⟩,
   ⟨.host, 0, live [(LH.LINK_STATE 0, lsREJECT)], by decide +kernel⟩,
   ⟨.host, 0, live [(LH.LINK_STATE 0, lsRUN)], by decide +kernel⟩,
   ⟨.host, 0, live [(LH.LINK_STATE 0, lsTRAIN)], by decide +kernel⟩,
   ⟨15, live [(LH.LINK_STATE 15, lsRUN)], by decide +kernel⟩,
   ⟨0, live [(LH.LINK_STATE 0, lsTRIP), (LH.PWR_TRIP 0, 1)], by decide +kernel⟩,
   ⟨[480, 481], 1, live [(LH.LINK_STATE 0, lsRUN)], by decide +kernel⟩,
   ⟨0, [480, 480], live [(LH.LINK_STATE 0, lsTRIP), (LH.HP_SHED 0, 1)], by decide +kernel⟩⟩

theorem meets_FramesAndChecks :
    (∃ (h : Fin 16) (us : Nat) (s : State), linksRun s = true ∧ link s h = lsRUN ∧ onGrid s h us (nextBurst s h) = true ∧ ((s.head h).next = 0 ∨ (s.head h).trig + 4000 ≤ us)) ∧
    (∃ (h : Fin 16) (us : Nat) (s : State), (linksRun s = false ∨ link s h ≠ lsRUN ∨ onGrid s h us (nextBurst s h) = false ∨ ((s.head h).next ≠ 0 ∧ us < (s.head h).trig + 4000))) ∧
    (∃ (h : Fin 16) (us : Nat) (s : State), (linksRun s = false ∨ link s h ≠ lsRUN ∨ onGrid s h us (nextBurst s h) = false ∨ ((s.head h).next ≠ 0 ∧ us < (s.head h).trig + 4000))) ∧
    (∃ (h : Fin 16) (k : Nat) (num : Nat) (line : Nat) (_ : Nat) (i : Nat) (j : Nat) (_ : Bool) (_ : List Nat) (s : State), linksRun s = true ∧ link s h = lsRUN ∧ slotOf (s.head h) num = some k ∧ line < frameLines ((s.head h).slots.getD k Slot.free).burst ∧ i < frameWidth ((s.head h).slots.getD k Slot.free).burst ∧ j < 3) ∧
    (∃ (h : Fin 16) (k : Nat) (num : Nat) (line : Nat) (_ : Nat) (_ : Bool) (_ : List Nat) (s : State), linksRun s = true ∧ link s h = lsRUN ∧ slotOf (s.head h) num = some k ∧ line < frameLines ((s.head h).slots.getD k Slot.free).burst ∧ putBit ((s.head h).slots.getD k Slot.free).lines line true = 2 ^ frameLines ((s.head h).slots.getD k Slot.free).burst - 1) ∧
    (∃ (h : Fin 16) (k : Nat) (num : Nat) (line : Nat) (_ : Nat) (_ : Bool) (_ : List Nat) (s : State), linksRun s = true ∧ link s h = lsRUN ∧ slotOf (s.head h) num = some k ∧ line < frameLines ((s.head h).slots.getD k Slot.free).burst ∧ putBit ((s.head h).slots.getD k Slot.free).lines line true = 2 ^ frameLines ((s.head h).slots.getD k Slot.free).burst - 1) ∧
    (∃ (h : Fin 16) (s : State), link s h = lsRUN) ∧
    (∃ (h : Fin 16) (_ : Nat) (k : Nat) (_ : List (List Nat)) (s : State), s.works pgLANT = true ∧ (List.range 8).find? (fun k => ((s.head h).slots.getD k Slot.free).state = 3) = some k) ∧
    (∃ (h : Fin 16) (_ : Nat) (c : Nat) (s : State), (s.head h).code = some c ∧ glowDue s h = true) ∧
    (∃ (h : Fin 16) (_ : Nat) (c : Nat) (s : State), (s.head h).code = some c ∧ glowDue s h = true) ∧
    (∃ (h : Fin 16) (s : State), s.hasHead h = true ∧ s.domOn 6 = true ∧ (s.head h).silent = false) :=
  ⟨⟨0, 100000, live [(LH.LINK_STATE 0, lsRUN)], by decide +kernel⟩,
   ⟨0, 100001, live [(LH.LINK_STATE 0, lsRUN)], by decide +kernel⟩,
   ⟨0, 133334, head 0 { Head.init with next := 1, trig := 133333 } [(LH.LINK_STATE 0, lsRUN)], by decide +kernel⟩,
   ⟨0, 0, 5, 511, 9, 1023, 2, true, [1, 2, 3], head 0 { Head.init with slots := [⟨1, 5, 0, true, 0, false, 0, false⟩] } [(LH.LINK_STATE 0, lsRUN)], by decide +kernel⟩,
   ⟨0, 0, 5, 511, 9, true, [], head 0 { Head.init with slots := [⟨1, 5, 0, true, 2 ^ 511 - 1, false, 0, false⟩] } [(LH.LINK_STATE 0, lsRUN)], by decide +kernel⟩,
   ⟨0, 0, 5, 0, 9, false, [], head 0 { Head.init with slots := [⟨1, 5, 0, true, 2 ^ 512 - 2, false, 0, false⟩] } [(LH.LINK_STATE 0, lsRUN)], by decide +kernel⟩,
   ⟨0, live [(LH.LINK_STATE 0, lsRUN)], by decide +kernel⟩,
   ⟨0, 5, 0, [[]], head 0 { Head.init with slots := [⟨3, 5, 0, true, 0, false, 0, false⟩] } [(LH.LINK_STATE 0, lsRUN), (HDR.EN pgLANT, 1)], by decide +kernel⟩,
   ⟨0, 9, 0x1234, head 0 { Head.init with code := some 0x1234, stamp := some 3, next := 5 } [(LH.LINK_STATE 0, lsRUN)], by decide +kernel⟩,
   ⟨0, 9, 0x1234, head 0 { Head.init with code := some 0x1234, stamp := some 3 } [(LH.LINK_STATE 0, lsFAULT)], by decide +kernel⟩,
   ⟨0, live [(LH.LINK_STATE 0, lsRUN)], by decide +kernel⟩⟩

theorem meets_VolumesAndTrust :
    (∃ (_ : Src) (h : Fin 16) (_ : Fin 16) (_ : Word) (s : State), s.domOn 5 = true ∧ s.hwLock pgLVOL = false ∧ s.hasHead h = true ∧ lvl s .saf 13 = true ∧ s.on (AX.MOVING (h / 2)) = false) ∧
    (∃ (_ : Src) (h : Fin 16) (_ : Fin 16) (_ : Word) (s : State), s.domOn 5 = true ∧ s.hwLock pgLVOL = false ∧ s.hasHead h = true ∧ lvl s .saf 13 = true ∧ s.on (AX.MOVING (h / 2)) = false) ∧
    (∃ (src : Src) (n : Fin 8) (s : State), hears s src pgLVOL 0x04C = true ∧ bgReady s n = true) ∧
    (∃ (src : Src) (n : Fin 8) (s : State), hears s src pgLVOL 0x04C = true ∧ s.hasDw n = true ∧ bgState s n = 1) ∧
    (∃ (n : Fin 8) (s : State), bgState s n = 1 ∧ bgTaken s n = true) ∧
    (∃ (src : Src) (h : Fin 16) (s : State), hears s src pgLVOL 0x048 = true ∧ s.hasHead h = true ∧ (s.head h).lq ≠ []) ∧
    (∃ (h : Fin 16) (rcd : Record) (closed : Bool) (rest : List (Record × Bool)) (s : State), (s.head h).toSafety = (rcd, closed) :: rest) ∧
    (∃ (h : Fin 16) (rcd : Record) (closed : Bool) (rest : List (Record × Bool)) (s : State), (s.head h).toSafety = (rcd, closed) :: rest) ∧
    (∃ (h : Fin 16) (s : State), s.hasHead h = true ∧ (s.head h).stale = false) ∧
    (∃ (n : Fin 8) (s : State), burstWanted s n = false) :=
  ⟨⟨.host, 15, 15, 0x12345678, keyed [], by decide +kernel⟩,
   ⟨.host, 15, 0, 0x12345678, keyed [], by decide +kernel⟩,
   ⟨.host, 0, keyed [(SYS.LC_STATE, 3), (AX.SW_OPEN 0, 1), (LH.RUN 0, 1), (LH.RUN 1, 1), (LH.GW_GOOD 0, 1), (LH.GW_GOOD 1, 1), (HDR.EN pgLVOL, 1)], by decide +kernel⟩,
   ⟨.host, 0, live [(LVOL.BG_STATE, 1)], by decide +kernel⟩,
   ⟨0, ((live [(LVOL.BG_STATE, 1)]).setHead 0 { Head.init with learn := some (300, []) }).setHead 1 { Head.init with learn := some (300, []) }, by decide +kernel⟩,
   ⟨.host, 0, head 0 { Head.init with lq := [[1], [2]] } [], by decide +kernel⟩,
   ⟨0, [1, 2, 0, 4, 5, 6, 7, 8], false, [([9], false)], head 0 { Head.init with toSafety := [([1, 2, 0, 4, 5, 6, 7, 8], false), ([9], false)] } [], by decide +kernel⟩,
   ⟨15, [1, 2, 0xFFFF, 4, 5, 6, 7, 8], true, [], head 15 { Head.init with toSafety := [([1, 2, 0xFFFF, 4, 5, 6, 7, 8], true)] } [], by decide +kernel⟩,
   ⟨15, head 15 { Head.init with stale := false } [], by decide +kernel⟩,
   ⟨0, live [(LVOLD.BURST_REQ 0, 1)], by decide +kernel⟩⟩

theorem meets_DoorwayRequests :
    (∃ (src : Src) (n : Fin 8) (_ : Word) (s : State), hears s src pgCYC (0x204 + n.val * 0x80) = true) ∧
    (∃ (src : Src) (n : Fin 8) (_ : Word) (s : State), hears s src pgCYC (0x204 + n.val * 0x80) = true) ∧
    (∃ (src : Src) (n : Fin 8) (_ : Word) (s : State), hears s src pgCYC (0x204 + n.val * 0x80) = true) ∧
    (∃ (s : State), supervising s = true) ∧
    (∃ (n : Nat) (s : State), n < 8 ∧ s.hasDw n = true ∧ supervising s = true ∧ egrOp s .saf n = true ∧ s.get (CYCD.STATE n) ≠ stOUT ∧ s.get (CYCD.STATE n) ≠ stEMERGENCY) ∧
    (∃ (n : Nat) (s : State), n < 8 ∧ s.hasDw n = true ∧ supervising s = true ∧ egrOp s .saf n = true ∧ s.get (CYCD.STATE n) ≠ stOUT ∧ s.get (CYCD.STATE n) ≠ stEMERGENCY) ∧
    (∃ (n : Nat) (s : State), n < 8 ∧ closedWith s n (some stLOCKING) = true) ∧
    (∃ (n : Nat) (k : Nat) (s : State), n < 8 ∧ k ≠ stOPENING ∧ k ≠ stLOCKING ∧ closedWith s n (some k) = true) ∧
    (∃ (n : Nat) (s : State), n < 8 ∧ closedWith s n none = true) ∧
    (∃ (n : Nat) (k : Nat) (s : State), n < 8 ∧ supervising s = true ∧ s.inSvc n = true ∧ s.on (HDR.EN pgCYC) = true ∧ s.get (CYCD.STATE n) = stLOCKED ∧ egrOp s .saf n = false ∧ isolMade s n = false ∧ (s.dw n).req = some k ∧ (k = stSTEP_OUT ∨ k = stUNLOCKING) ∧ s.on PWR.ACT_RDY = false) ∧
    (∃ (n : Nat) (k : Nat) (s : State), n < 8 ∧ supervising s = true ∧ s.inSvc n = true ∧ s.on (HDR.EN pgCYC) = true ∧ s.get (CYCD.STATE n) = stLOCKED ∧ egrOp s .saf n = false ∧ isolMade s n = false ∧ (s.dw n).req = some k ∧ (k = stSTEP_OUT ∨ k = stUNLOCKING) ∧ s.on PWR.ACT_RDY = false) :=
  ⟨⟨.host, 7, 0x5304, live [], by decide +kernel⟩,
   ⟨.host, 0, 0x53F1, live [], by decide +kernel⟩,
   ⟨.host, 0, 0x530E, live [], by decide +kernel⟩,
   ⟨live [], by decide +kernel⟩,
   ⟨0, { live [(CYCD.STATE 0, 0)] with saf := { Safety.init with sealA := 1 } }, by decide +kernel⟩,
   ⟨7, live [(CYCD.STATE 7, 4)], by decide +kernel⟩,
   ⟨0, doorway { Doorway.init with req := some 9 } [(CYCD.STATE 0, 8)], by decide +kernel⟩,
   ⟨0, 4, doorway { Doorway.init with req := some 4 } [(CYCD.STATE 0, 8)], by decide +kernel⟩,
   ⟨0, doorway Doorway.init [(CYCD.STATE 0, 8)], by decide +kernel⟩,
   ⟨0, 1, doorway { Doorway.init with req := some 1 } [(CYCD.STATE 0, 0)], by decide +kernel⟩,
   ⟨0, 2, doorway { Doorway.init with req := some 2 } [(CYCD.STATE 0, 0)], by decide +kernel⟩⟩

theorem meets_SupervisionTimers :
    (∃ (n : Fin 8) (ms : Nat) (s : State), supervising s = true ∧ stateTimer s n = some ms ∧ (s.dw n).done = false ∧ s.on (CYCD.TMO n) = false ∧ ms ≤ s.get (CYCD.T_IN_STATE_MS n)) ∧
    (∃ (n : Fin 8) (s : State), supervising s = true ∧ s.get (CYCD.STATE n) = stOPEN ∧ s.get (CYCD.DWELL_MS n) ≤ s.get (CYCD.T_IN_STATE_MS n)) ∧
    (∃ (n : Fin 8) (s : State), supervising s = true ∧ s.get (CYCD.STATE n) = stREVERSING ∧ atRest s n = true ∧ s.get (CYCD.CYC_REPAUSE_MS n) ≤ (s.dw n).restMs) ∧
    (∃ (n : Fin 8) (s : State), supervising s = true ∧ s.get (CYCD.STATE n) = stREVERSING ∧ atRest s n = true ∧ s.get (CYCD.CYC_REPAUSE_MS n) ≤ (s.dw n).restMs) ∧
    (∃ (n : Fin 8) (s : State), supervising s = true ∧ s.get (CYCD.STATE n) = stRECOVER ∧ 100 ≤ (s.dw n).clokMs) :=
  ⟨⟨0, 5000, live [(CYCD.STATE 0, 3), (CYCD.T_OPEN_MS 0, 5000), (CYCD.T_IN_STATE_MS 0, 5000)], by decide +kernel⟩,
   ⟨0, live [(CYCD.STATE 0, 4), (CYCD.DWELL_MS 0, 5000), (CYCD.T_IN_STATE_MS 0, 5000)], by decide +kernel⟩,
   ⟨0, door 0 { Doorway.init with restMs := 500 } [(CYCD.STATE 0, 6), (CYCD.CYC_REPAUSE_MS 0, 500), (CYCD.CYC_RETRY_MAX 0, 3)], by decide +kernel⟩,
   ⟨0, door 0 { Doorway.init with restMs := 500 } [(CYCD.STATE 0, 6), (CYCD.CYC_REPAUSE_MS 0, 500), (CYCD.CYC_RETRY_MAX 0, 0)], by decide +kernel⟩,
   ⟨0, door 0 { Doorway.init with clokMs := 100 } [(CYCD.STATE 0, 0xE)], by decide +kernel⟩⟩

theorem meets_SafetyInputs :
    (∃ (c : Channel) (i : Input) (_ : Level) (s : State), chanReads s c = true ∧ s.inputHere i = true) ∧
    (∃ (c : Channel) (i : Input) (_ : Level) (s : State), chanReads s c = true ∧ s.inputHere i = true) ∧
    (∃ (c : Channel) (i : Input) (_ : Level) (s : State), (chanReads s c = false ∨ s.inputHere i = false)) ∧
    (∃ (c : Channel) (i : Input) (_ : Level) (s : State), (chanReads s c = false ∨ s.inputHere i = false)) ∧
    (∃ (c : Channel) (i : Input) (s : State), chanUp s c = true ∧ (i = .estop1 ∨ i = .estop2)) ∧
    (∃ (c : Channel) (i : Input) (s : State), chanUp s c = true ∧ (i = .estop1 ∨ i = .estop2)) ∧
    (∃ (s : State), bothRead s = true) ∧
    (∃ (i : Input) (s : State), bothRead s = true ∧ inputDiffers s i = true ∧ bitAt s.saf.disc (inputIdx i) = false) ∧
    (∃ (c : Channel) (p : Pairing) (s : State), chanUp s c = true ∧ pairBad s c p = true) ∧
    (∃ (c : Channel) (p : Pairing) (s : State), chanUp s c = true ∧ pairBad s c p = true) ∧
    (∃ (c : Channel) (k : Bool) (s : State), chanReads s c = true ∧ bitAt s.saf.sealA 10 = true ∧ thPattern s c k true = false ∧ thPattern s c k false = false ∧ bitAt (s.chan c).faulty (bit1 k) = false) ∧
    (∃ (c : Channel) (s : State), (s.chan c).first = true ∧ (s.chan c).report = false) :=
  ⟨⟨.saf, .estop1, .on, live [], by decide +kernel⟩,
   ⟨.col, .lcA 7, .fault, live [], by decide +kernel⟩,
   ⟨.saf, .estop1, .on, up [], by decide +kernel⟩,
   ⟨.col, .lcA 7, .fault, { live [] with member := .plf4408 }, by decide +kernel⟩,
   ⟨.col, .estop2, live [], by decide +kernel⟩,
   ⟨.saf, .estop1, live [], by decide +kernel⟩,
   ⟨live [], by decide +kernel⟩,
   ⟨.zsA, chan .col (flipped 2) [], by decide +kernel⟩,
   ⟨.saf, .estop, chan .saf (flipped 0) [], by decide +kernel⟩,
   ⟨.col, .egr 0, { chan .col (flipped 56) [] with saf := { (chan .col (flipped 56) []).saf with sealA := 1 } }, by decide +kernel⟩,
   ⟨.saf, true, { live [] with saf := { Safety.init with saf := { Chan.init with lv := 0 }, sealA := 0x400 } }, by decide +kernel⟩,
   ⟨.col, chan .col { Chan.init with first := true } [], by decide +kernel⟩⟩

theorem meets_MutualChecks :
    (∃ (s : State), mayRefuge s = true ∧ bothRead s = true) ∧
    (∃ (s : State), mayRefuge s = true ∧ bothRead s = true) ∧
    (∃ (n : Fin 8) (s : State), bitAt s.saf.watch n = true ∧ s.on (AX.DIR_OPEN n) = false) ∧
    (∃ (_ : Bool) (s : State), mayRefuge s = true ∧ bothRead s = true) ∧
    (∃ (c : Channel) (k : Bool) (s : State), chanUp s c = true ∧ edmWrong s c k = true) ∧
    (∃ (c : Channel) (k : Bool) (s : State), chanUp s c = true ∧ edmWrong s c k = true) ∧
    (∃ (_ : Bool) (_ : Fin 65536) (s : State), mayRefuge s = true ∧ s.on SAFM.SP_RUN = true) ∧
    (∃ (_ : Bool) (_ : Fin 65536) (s : State), mayRefuge s = true ∧ s.on SAFM.SP_RUN = true) ∧
    (∃ (_ : Bool) (_ : Fin 65536) (s : State), mayRefuge s = true ∧ s.on COLM.COL_OK = true) ∧
    (∃ (_ : Bool) (_ : Fin 65536) (s : State), mayRefuge s = true ∧ s.on COLM.COL_OK = true) ∧
    (∃ (_ : Channel) (_ : Bool) (_ : Fin 65536) (s : State), (s.pwr.phase = .off ∨ s.pwr.phase = .powerDown)) ∧
    (∃ (_ : Channel) (_ : Bool) (_ : Fin 65536) (s : State), (s.pwr.phase = .off ∨ s.pwr.phase = .powerDown)) ∧
    (∃ (s : State), s.on COLM.COL_OK = true) :=
  ⟨⟨live [], by decide +kernel⟩,
   ⟨live [], by decide +kernel⟩,
   ⟨7, { live [] with saf := { Safety.init with watch := 0x80 } }, by decide +kernel⟩,
   ⟨true, live [], by decide +kernel⟩,
   ⟨.saf, false, late { live [] with saf := { Safety.init with saf := { Chan.init with heard := 0x40 } } }, by decide +kernel⟩,
   ⟨.col, true, late { live [] with saf := { Safety.init with col := { Chan.init with heard := 0x80 } } }, by decide +kernel⟩,
   ⟨true, 9, live [], by decide +kernel⟩,
   ⟨false, 9, live [], by decide +kernel⟩,
   ⟨true, 9, live [], by decide +kernel⟩,
   ⟨false, 9, live [], by decide +kernel⟩,
   ⟨.col, true, 5, inPhase .off [], by decide +kernel⟩,
   ⟨.saf, false, 5, inPhase .powerDown [], by decide +kernel⟩,
   ⟨live [], by decide +kernel⟩⟩

theorem meets_ResetSealParameters :
    (∃ (c : Channel) (idle : Nat) (ms : Nat) (s : State), chanReads s c = true ∧ (s.chan c).pressed = true ∧ 200 ≤ idle ∧ 50 ≤ ms ∧ ms ≤ 3000) ∧
    (∃ (c : Channel) (idle : Nat) (ms : Nat) (s : State), chanReads s c = true ∧ (s.chan c).pressed = true ∧ 200 ≤ idle ∧ 50 ≤ ms ∧ ms ≤ 3000) ∧
    (∃ (c : Channel) (idle : Nat) (ms : Nat) (s : State), chanReads s c = true ∧ (s.chan c).pressed = true ∧ (idle < 200 ∨ ms < 50) ∧ ms ≤ 3000) ∧
    (∃ (c : Channel) (idle : Nat) (ms : Nat) (s : State), chanReads s c = true ∧ (s.chan c).pressed = true ∧ (idle < 200 ∨ ms < 50) ∧ ms ≤ 3000) ∧
    (∃ (c : Channel) (_ : Nat) (ms : Nat) (s : State), chanReads s c = true ∧ (s.chan c).pressed = true ∧ 3000 < ms) ∧
    (∃ (s : State), s.saf.col.pressed = true ∧ chanReads s .col = true ∧ s.on COLM.RESET_STUCK = false) ∧
    (∃ (_ : Fin 65536) (_ : Fin 65536) (_ : Fin 65536) (_ : Fin 65536) (s : State), sealCompared s = true) ∧
    (∃ (k : Fin 32) (s : State), sealCompared s = true ∧ mayRefuge s = true ∧ bitAt (polesDiffer s) k = true) ∧
    (∃ (k : Fin 32) (s : State), sealCompared s = true ∧ mayRefuge s = true ∧ bitAt (polesChanged s) k = true) ∧
    (∃ (s : State), chanUp s .saf = true) ∧
    (∃ (s : State), chanUp s .saf = true) ∧
    (∃ (off : Fin 128) (_ : Word) (size : Nat) (lo : Nat) (hi : Nat) (s : State), served s 2 = true ∧ s.lc = lcCOMMISSION ∧ paramField off = some (size, lo, hi)) ∧
    (∃ (off : Fin 128) (_ : Word) (size : Nat) (lo : Nat) (hi : Nat) (s : State), served s 2 = true ∧ s.lc = lcCOMMISSION ∧ paramField off = some (size, lo, hi)) ∧
    (∃ (off : Fin 128) (_ : Word) (size : Nat) (lo : Nat) (hi : Nat) (s : State), served s 2 = true ∧ s.lc = lcCOMMISSION ∧ paramField off = some (size, lo, hi)) :=
  ⟨⟨.saf, 200, 50, chan .saf { Chan.init with pressed := true } [(SAFM.LATCH_SAF, 0xFF), (COLM.LATCH_COL, 0xFF)], by decide +kernel⟩,
   ⟨.col, 200, 3000, chan .col { Chan.init with pressed := true } [(SAFM.LATCH_SAF, 0xFF), (COLM.LATCH_COL, 0xFF)], by decide +kernel⟩,
   ⟨.saf, 199, 3000, chan .saf { Chan.init with pressed := true } [(SAFM.LATCH_SAF, 0xFF), (COLM.LATCH_COL, 0xFF)], by decide +kernel⟩,
   ⟨.col, 200, 49, chan .col { Chan.init with pressed := true } [(SAFM.LATCH_SAF, 0xFF), (COLM.LATCH_COL, 0xFF)], by decide +kernel⟩,
   ⟨.col, 200, 3001, chan .col { Chan.init with pressed := true } [(SAFM.LATCH_SAF, 0xFF), (COLM.LATCH_COL, 0xFF)], by decide +kernel⟩,
   ⟨chan .col { Chan.init with pressed := true } [(SAFM.LATCH_SAF, 0xFF), (COLM.LATCH_COL, 0xFF)], by decide +kernel⟩,
   ⟨1, 2, 3, 65535, live [], by decide +kernel⟩,
   ⟨31, live [(SEAL.B_SAF, 0x8000)], by decide +kernel⟩,
   ⟨0, live [(SEAL.A_SAF, 1), (SEAL.A_COL, 1)], by decide +kernel⟩,
   ⟨live [], by decide +kernel⟩,
   ⟨{ live [(COLM.OP_COL_M, 0xFF)] with saf := { Safety.init with sealA := 1 } }, by decide +kernel⟩,
   ⟨7, 50, 1, 5, 50, tool 2 [(SYS.LC_STATE, 1)], by decide +kernel⟩,
   ⟨7, 51, 1, 5, 50, tool 2 [(SYS.LC_STATE, 1)], by decide +kernel⟩,
   ⟨0x10, 400, 2, 400, 3000, tool 2 [(SYS.LC_STATE, 1)], by decide +kernel⟩⟩

theorem meets_SafeCopies :
    (∃ (_ : Bool) (b : List Nat) (typ : Nat) (code : Nat) (s : State), telegramsUp s = true ∧ firstChecks s b = (typ, some code)) ∧
    (∃ (_ : Bool) (b : List Nat) (typ : Nat) (code : Nat) (s : State), telegramsUp s = true ∧ firstChecks s b = (typ, some code)) ∧
    (∃ (_ : Bool) (b : List Nat) (typ : Nat) (code : Nat) (s : State), telegramsUp s = true ∧ firstChecks s b = (typ, some code)) ∧
    (∃ (can : Bool) (b : List Nat) (typ : Nat) (code : Nat) (s : State), telegramsUp s = true ∧ firstChecks s b = (typ, none) ∧ streamChecks (judged s typ) ((judged s typ).stream (typ - 1)) can b = some code) ∧
    (∃ (can : Bool) (b : List Nat) (typ : Nat) (code : Nat) (s : State), telegramsUp s = true ∧ firstChecks s b = (typ, none) ∧ streamChecks (judged s typ) ((judged s typ).stream (typ - 1)) can b = some code) ∧
    (∃ (can : Bool) (b : List Nat) (typ : Nat) (code : Nat) (s : State), telegramsUp s = true ∧ firstChecks s b = (typ, none) ∧ streamChecks (judged s typ) ((judged s typ).stream (typ - 1)) can b = some code) ∧
    (∃ (can : Bool) (b : List Nat) (typ : Nat) (s : State), copyValid s can b typ = true) ∧
    (∃ (can : Bool) (b : List Nat) (typ : Nat) (s : State), copyValid s can b typ = true) ∧
    (∃ (can : Bool) (b : List Nat) (typ : Nat) (p : Pair) (s : State), copyValid s can b typ = true ∧ completes (judged s typ) ((judged s typ).stream (typ - 1)) can b = true ∧ ((judged s typ).stream (typ - 1)).pair = some p ∧ p.bytes.take 28 = b.take 28 ∧ s.on DST.NET_RESTR = false) ∧
    (∃ (can : Bool) (b : List Nat) (typ : Nat) (p : Pair) (s : State), copyValid s can b typ = true ∧ completes (judged s typ) ((judged s typ).stream (typ - 1)) can b = true ∧ ((judged s typ).stream (typ - 1)).pair = some p ∧ p.bytes.take 28 = b.take 28 ∧ s.on DST.NET_RESTR = false) ∧
    (∃ (can : Bool) (b : List Nat) (s : State), s.inRefuge = true ∧ isRelease b = true ∧ mayAnswer s can = true) ∧
    (∃ (can : Bool) (b : List Nat) (s : State), s.inRefuge = true ∧ isRelease b = true ∧ mayAnswer s can = true) ∧
    (∃ (can : Bool) (b : List Nat) (s : State), s.inRefuge = true ∧ (isRelease b = false ∨ mayAnswer s can = false)) ∧
    (∃ (can : Bool) (b : List Nat) (s : State), s.inRefuge = true ∧ (isRelease b = false ∨ mayAnswer s can = false)) :=
  ⟨⟨true, [], 0, 2, fed [], by decide +kernel⟩,
   ⟨false, List.replicate 32 0, 0, 1, fed [], by decide +kernel⟩,
   ⟨false, telegram 4 1 0 0, 0, 4, fed [], by decide +kernel⟩,
   ⟨true, telegram 1 5 0 3, 1, 6, (fed []).setStream 0 { Stream.init with sync := true, sHi := 0 }, by decide +kernel⟩,
   ⟨true, telegram 1 4 0 3, 1, 5, (fed []).setStream 0 { Stream.init with sync := true, sHi := 5 }, by decide +kernel⟩,
   ⟨true, telegram 1 5 0 3, 1, 7, (fed []).setStream 0 { Stream.init with sync := true, sHi := 5 }, by decide +kernel⟩,
   ⟨true, telegram 1 4 0 3, 1, (fed []).setStream 0 { Stream.init with sync := true, sHi := 0 }, by decide +kernel⟩,
   ⟨false, telegram 3 1 0 0x5A, 3, fed [(DST.OPEN_EN_TG, 0xFF)], by decide +kernel⟩,
   ⟨true, telegram 1 4 0 3, 1, ⟨telegram 1 4 0 3, false, 0, true⟩, (fed []).setStream 0 { Stream.init with sync := true, sHi := 4, pair := some ⟨telegram 1 4 0 3, false, 0, true⟩ }, by decide +kernel⟩,
   ⟨true, telegram 3 4 0 0x5A, 3, ⟨telegram 3 4 0 0x5A, false, 0, true⟩, (fed [(DST.INHIBIT_TG, 0xFF)]).setStream 2 { Stream.init with sync := true, sHi := 4, pair := some ⟨telegram 3 4 0 0x5A, false, 0, true⟩ }, by decide +kernel⟩,
   ⟨true, telegram 1 4 0 3, answering [], by decide +kernel⟩,
   ⟨false, telegram 1 4 0 3, answering [], by decide +kernel⟩,
   ⟨true, telegram 1 4 0 3, fed [(SYS.REFUGE, 1)], by decide +kernel⟩,
   ⟨false, telegram 2 4 0 0, answering [], by decide +kernel⟩⟩

theorem meets_StreamsAndNetworks :
    (∃ (k : Fin 3) (p : Pair) (s : State), telegramsUp s = true ∧ (s.stream k).pair = some p ∧ p.isOpen = true) ∧
    (∃ (k : Fin 3) (s : State), telegramsUp s = true ∧ configured s k = true ∧ inForce s k ≠ 0) ∧
    (∃ (k : Fin 3) (s : State), telegramsUp s = true ∧ configured s k = true ∧ inForce s k ≠ 0) ∧
    (∃ (_ : Fin 3) (s : State), telegramsUp s = true) ∧
    (∃ (can : Bool) (s : State), telegramsUp s = true ∧ s.on (if can then DST.CAN_LOST else DST.ECN_LOST) = false) ∧
    (∃ (can : Bool) (s : State), telegramsUp s = true ∧ s.on (if can then DST.CAN_LOST else DST.ECN_LOST) = false) ∧
    (∃ (s : State), telegramsUp s = true ∧ s.on DST.NET_RESTR = true ∧ s.on DST.ECN_LOST = false ∧ s.on DST.CAN_LOST = false ∧ (∀ k < 3, configured s k = true → bitAt s.dst.paired k = true)) ∧
    (∃ (s : State), telegramsUp s = true ∧ s.on DST.CFG_OK = true ∧ s.get DST.OWN_UNIT ≠ 0 ∧ (tcfg32 s 0x3C ≠ 0 ∨ tcfg32 s 0x40 ≠ 0)) ∧
    (∃ (s : State), telegramsUp s = true ∧ s.on DST.CFG_OK = true ∧ s.get DST.OWN_UNIT ≠ 0 ∧ (tcfg32 s 0x3C ≠ 0 ∨ tcfg32 s 0x40 ≠ 0)) ∧
    (∃ (s : State), telegramsUp s = true ∧ s.on DST.CFG_OK = true ∧ s.get DST.OWN_UNIT ≠ 0 ∧ (tcfg32 s 0x3C ≠ 0 ∨ tcfg32 s 0x40 ≠ 0)) ∧
    (∃ (s : State), telegramsUp s = true ∧ s.on DST.CFG_OK = true ∧ s.domOn 8 = true ∧ s.hasCan (s.get DST.CAN_SEL) = true ∧ s.on (CAN.SAFE_CH (s.get DST.CAN_SEL)) = false) ∧
    (∃ (off : Fin 128) (_ : Word) (size : Nat) (lo : Nat) (hi : Nat) (s : State), served s 2 = true ∧ s.lc = lcCOMMISSION ∧ tcfgField off = some (size, lo, hi)) ∧
    (∃ (off : Fin 128) (_ : Word) (size : Nat) (lo : Nat) (hi : Nat) (s : State), served s 2 = true ∧ s.lc = lcCOMMISSION ∧ tcfgField off = some (size, lo, hi)) :=
  ⟨⟨0, ⟨telegram 1 4 0 3, false, 0, true⟩, (fed []).setStream 0 { Stream.init with pair := some ⟨telegram 1 4 0 3, false, 0, true⟩ }, by decide +kernel⟩,
   ⟨0, fed [(DST.REL_L_TG, 1), (DST.REL_R_TG, 1)], by decide +kernel⟩,
   ⟨2, fed [(DST.OPEN_EN_TG, 0xFF)], by decide +kernel⟩,
   ⟨2, (fed []).setStream 0 { Stream.init with sync := true, sHi := 1 }, by decide +kernel⟩,
   ⟨true, fed [], by decide +kernel⟩,
   ⟨false, fed [(DST.CAN_LOST, 1), (DST.ZS_TG, 1), (DST.REL_L_TG, 1)], by decide +kernel⟩,
   ⟨{ fed [(DST.NET_RESTR, 1)] with dst := ⟨[], 0, 7⟩ }, by decide +kernel⟩,
   ⟨(fed [(ECN.BYPASS, 0)]).wr32 pgDST 3 0x3C 77, by decide +kernel⟩,
   ⟨(fed [(ECN.BYPASS, 1)]).wr32 pgDST 3 0x3C 77, by decide +kernel⟩,
   ⟨(fed []).wr32 pgDST 3 0x40 77, by decide +kernel⟩,
   ⟨fed [], by decide +kernel⟩,
   ⟨0x44, 16, 1, 1, 16, tool 2 [(SYS.LC_STATE, 1)], by decide +kernel⟩,
   ⟨0x44, 17, 1, 1, 16, tool 2 [(SYS.LC_STATE, 1)], by decide +kernel⟩⟩

theorem meets_GalleryCommands :
    (∃ (src : Src) (hi : Bool) (_ : Word) (s : State), hears s src pgGAL (if hi then 0x048 else 0x044) = true ∧ s.on TEST.TEST_RUN = false) ∧
    (∃ (src : Src) (hi : Bool) (_ : Word) (s : State), hears s src pgGAL (if hi then 0x048 else 0x044) = true ∧ s.on TEST.TEST_RUN = false) ∧
    (∃ (src : Src) (c : Fin 48) (v : Word) (s : State), hears s src pgGAL (0x100 + c.val * 0x20) = true ∧ bitAt v.toNat 4 = true ∧ s.on (GALC.FOLLOW c) = false ∧ s.on (HDR.EN pgGAL) = true ∧ s.on CRAWL.CR_WD = false) ∧
    (∃ (src : Src) (c : Fin 48) (v : Word) (s : State), hears s src pgGAL (0x100 + c.val * 0x20) = true ∧ bitAt v.toNat 4 = true ∧ s.on (GALC.FOLLOW c) = false ∧ s.on (HDR.EN pgGAL) = true ∧ s.on CRAWL.CR_WD = false) ∧
    (∃ (src : Src) (c : Fin 48) (v : Word) (s : State), hears s src pgGAL (0x100 + c.val * 0x20) = true ∧ bitAt v.toNat 4 = false ∧ s.on (GALC.FOLLOW c) = true ∧ s.owner 0 (s.get (GALC.FOLLOW_PIN c)) = 4 ∧ (∀ k < 48, k ≠ c.val → s.on (GALC.FOLLOW k) = true → s.get (GALC.FOLLOW_PIN k) ≠ s.get (GALC.FOLLOW_PIN c))) ∧
    (∃ (p : Fin 16) (active : Bool) (s : State), pinOn s p = !active) ∧
    (∃ (p : Fin 16) (active : Bool) (s : State), pinOn s p = !active) ∧
    (∃ (src : Src) (c : Fin 48) (v : Word) (s : State), hears s src pgGAL 0x064 = true ∧ v.toNat = 0x6C00 + c.val ∧ s.hasCh c = true ∧ s.on (GALC.TH_LATCH c) = false ∧ s.on (GALC.OUT c) = false) ∧
    (∃ (c : Fin 48) (s : State), s.on CRAWL.CRAWL_ON = true ∧ mapped s c = true ∧ clampSum s c = 0 ∧ s.on (GALC.OUT c) = false) ∧
    (∃ (src : Src) (k : Fin 12) (_ : Word) (s : State), hears s src pgCRAWL (0x044 + k.val * 4) = true ∧ s.on (HDR.HOST_LOCK pgCRAWL) = false) ∧
    (∃ (src : Src) (k : Fin 12) (_ : Word) (s : State), hears s src pgCRAWL (0x044 + k.val * 4) = true ∧ s.on (HDR.HOST_LOCK pgCRAWL) = false) :=
  ⟨⟨.host, true, 0xFFFF, live [(HDR.EN pgGAL, 1), (PWR.GB_OK, 1), (PWR.GA_OK, 1)], by decide +kernel⟩,
   ⟨.host, false, 0xFFFFFFFF, live [(HDR.EN pgGAL, 1), (PWR.GB_OK, 1), (PWR.GA_OK, 1)], by decide +kernel⟩,
   ⟨.host, 47, 0x1F, live [(HDR.EN pgGAL, 1)], by decide +kernel⟩,
   ⟨.host, 0, 0x13, live [(HDR.EN pgGAL, 1), (RES.OWN_DIR_LO, 0x5000)], by decide +kernel⟩,
   ⟨.host, 5, 0, live [(HDR.EN pgGAL, 1), (GALC.FOLLOW 5, 1), (GALC.FOLLOW_PIN 5, 15), (RES.OWN_DIR_HI, 0x40000000)], by decide +kernel⟩,
   ⟨15, true, live [], by decide +kernel⟩,
   ⟨0, false, { live [] with gal := { Gallery.init with direct := 1 } }, by decide +kernel⟩,
   ⟨.host, 47, 0x6C2F, live [(GALC.CLAMP_LOCK 47, 1)], by decide +kernel⟩,
   ⟨0, live [(CRAWL.CRAWL_ON, 1), (CRAWL.CRAWL_MAP 0, 0x80), (GALC.CLAMP_LOCK 0, 1)], by decide +kernel⟩,
   ⟨.host, 11, 0x80818283, live [], by decide +kernel⟩,
   ⟨.host, 0, 0x80818283, live [(CRAWL.CRAWL_ON, 1)], by decide +kernel⟩⟩

theorem meets_GalleryProtection :
    (∃ (c : Fin 48) (ma : Nat) (s : State), s.hasCh c = true ∧ s.on (GALC.OUT c) = true ∧ limitNow s c < ma) ∧
    (∃ (c : Fin 48) (ma : Nat) (s : State), s.hasCh c = true ∧ s.on (GALC.OUT c) = true ∧ limitNow s c < ma) ∧
    (∃ (c : Fin 48) (ma : Nat) (s : State), ma ≤ limitNow s c) ∧
    (∃ (c : Fin 48) (s : State), s.on (GALC.OC_TRIP c) = true ∧ chSince s s.gal.tripAt c (backoffMs (s.get (GALC.RETRY_N c))) = true ∧ s.hasCh c = true ∧ s.on (GALC.OUT c) = false) ∧
    (∃ (c : Fin 48) (s : State), s.on (GALC.OC_TRIP c) = true ∧ chSince s s.gal.tripAt c (backoffMs (s.get (GALC.RETRY_N c))) = true ∧ s.hasCh c = true ∧ s.on (GALC.OUT c) = false) ∧
    (∃ (c : Fin 48) (s : State), s.on (GALC.OC_TRIP c) = true ∧ chSince s s.gal.tripAt c (backoffMs (s.get (GALC.RETRY_N c))) = true ∧ s.hasCh c = true ∧ s.on (GALC.OUT c) = false) ∧
    (∃ (c : Fin 48) (s : State), s.on (GALC.OUT c) = true ∧ chSince s s.gal.onAt c 10000 = true) ∧
    (∃ (c : Fin 48) (s : State), effCmd s c = false ∧ chSince s s.gal.offAt c 10 = true) ∧
    (∃ (c : Fin 48) (dt : Int) (tj : Int) (s : State), s.hasCh c = true ∧ (500 ≤ dt ∨ 175 ≤ tj) ∧ s.on (GALC.TH_LATCH c) = false) ∧
    (∃ (c : Fin 48) (dt : Int) (tj : Int) (s : State), s.hasCh c = true ∧ (500 ≤ dt ∨ 175 ≤ tj) ∧ s.on (GALC.TH_LATCH c) = false) ∧
    (∃ (_ : Fin 48) (dt : Int) (tj : Int) (_ : State), dt ≤ 250 ∧ tj < 150) :=
  ⟨⟨47, 20000, live [(GALC.OUT 47, 1)], by decide +kernel⟩,
   ⟨0, 70000, live [(GALC.OUT 0, 1), (GALC.RETRY_MAX 0, 3)], by decide +kernel⟩,
   ⟨47, 10, live [(GALC.OUT 47, 1)], by decide +kernel⟩,
   ⟨0, late (live [(GALC.OC_TRIP 0, 1), (GAL.GC_ON_LO, 1), (PWR.GA_OK, 1), (HDR.EN pgGAL, 1)]), by decide +kernel⟩,
   ⟨47, late (live [(GALC.OC_TRIP 47, 1)]), by decide +kernel⟩,
   ⟨0, late (live [(GALC.OC_TRIP 0, 1), (GALC.TH_LATCH 0, 1), (GAL.GC_ON_LO, 1), (PWR.GA_OK, 1), (HDR.EN pgGAL, 1)]), by decide +kernel⟩,
   ⟨0, late (live [(GALC.OUT 0, 1), (GALC.RETRY_N 0, 3)]), by decide +kernel⟩,
   ⟨0, late (live [(GALC.RETRY_N 0, 3)]), by decide +kernel⟩,
   ⟨0, 500, 0, live [(GALC.OUT 0, 1)], by decide +kernel⟩,
   ⟨47, 0, 175, live [], by decide +kernel⟩,
   ⟨0, 250, 149, live [(GALC.TH_LATCH 0, 1)], by decide +kernel⟩⟩

theorem meets_GalleryBanks :
    (∃ (k : Bank) (_ : Nat) (mean : Nat) (c : Nat) (s : State), bankBudget s k < mean ∧ shedPick s k = some c) ∧
    (∃ (k : Bank) (_ : Nat) (mean : Nat) (c : Nat) (s : State), bankBudget s k < mean ∧ shedPick s k = some c) ∧
    (∃ (k : Bank) (_ : Nat) (mean : Nat) (c : Nat) (s : State), mean * 10 < bankBudget s k * 9 ∧ s.gal.shedOrder.find? (inBank k) = some c) ∧
    (∃ (n : Fin 8) (s : State), bitAt s.gal.cut n = true) ∧
    (∃ (k : Bank) (s : State), s.on (ovReg k) = false) ∧
    (∃ (k : Bank) (c : Nat) (s : State), (List.range 48).find? (fun c => bitAt s.gal.waiting c && inBank k c) = some c) ∧
    (∃ (k : Bank) (c : Fin 48) (s : State), s.hasCh c = true ∧ effCmd s c = false ∧ chSince s s.gal.offAt c 20 = true ∧ inBank k c = true ∧ s.on (fltReg k) = false) ∧
    (∃ (k : Bank) (c : Fin 48) (s : State), s.hasCh c = true ∧ effCmd s c = false ∧ chSince s s.gal.offAt c 20 = true ∧ inBank k c = true ∧ s.on (fltReg k) = false) :=
  ⟨⟨.a, 9, 2401, 31, live [(GALC.OUT 0, 1), (GALC.OUT 31, 1)], by decide +kernel⟩,
   ⟨.b, 9, 4801, 32, live [(GALC.OUT 32, 1)], by decide +kernel⟩,
   ⟨.a, 0, 2159, 3, { live [(GALC.SHED 3, 1)] with gal := { Gallery.init with shedOrder := [3] } }, by decide +kernel⟩,
   ⟨7, { live [(GAL.GC_ON_HI, 0x80)] with gal := { Gallery.init with cut := 0x80 } }, by decide +kernel⟩,
   ⟨.b, live [(GALC.OUT 40, 1)], by decide +kernel⟩,
   ⟨.a, 3, { live [] with gal := { Gallery.init with waiting := 0x18 } }, by decide +kernel⟩,
   ⟨.b, 47, late (live []), by decide +kernel⟩,
   ⟨.a, 0, late (live []), by decide +kernel⟩⟩

theorem meets_FieldInputsOutputs :
    (∃ (s : State), s.on FIO.BARRIER_OK = true ∧ fieldFed s 15000 = false) ∧
    (∃ (s : State), s.on FIO.BARRIER_OK = false ∧ fieldFed s 15500 = true) ∧
    (∃ (i : Fin 64) (_ : Int) (s : State), s.on FIO.BARRIER_OK = true ∧ s.domOn 8 = true ∧ filterRan s i = true) ∧
    (∃ (i : Fin 64) (_ : Int) (s : State), s.on FIO.BARRIER_OK = true ∧ s.domOn 8 = true ∧ filterRan s i = true) ∧
    (∃ (i : Fin 64) (_ : Int) (s : State), s.on FIO.BARRIER_OK = true ∧ s.domOn 8 = true ∧ filterRan s i = true) ∧
    (∃ (i : Fin 64) (_ : Int) (s : State), s.on FIO.BARRIER_OK = true ∧ s.domOn 8 = true ∧ filterRan s i = true) ∧
    (∃ (i : Fin 64) (_ : Int) (s : State), s.on FIO.BARRIER_OK = true ∧ s.domOn 8 = true ∧ filterRan s i = true) ∧
    (∃ (src : Src) (_ : Word) (s : State), hears s src pgFIO 0x04C = true) ∧
    (∃ (src : Src) (_ : Word) (s : State), hears s src pgFIO 0x04C = true) ∧
    (∃ (src : Src) (_ : Word) (s : State), hears s src pgFIO 0x050 = true ∧ unlocked s src pgFIO 0x050 = true) ∧
    (∃ (n : Fin 32) (s : State), foClosed s n = true) ∧
    (∃ (n : Fin 32) (s : State), foClosed s n = true) ∧
    (∃ (s : State), s.on FIO.BARRIER_OK = true ∧ (s.fio.shut = 0 ∨ s.on FIO.WD_OPEN = true)) ∧
    (∃ (s : State), s.on FIO.BARRIER_OK = true ∧ (s.fio.shut = 0 ∨ s.on FIO.WD_OPEN = true)) :=
  ⟨⟨{ live [(FIO.BARRIER_OK, 1), (FIO.FO_OUT, 7)] with pwr := { Power.init with mvL := 14999 } }, by decide +kernel⟩,
   ⟨live [], by decide +kernel⟩,
   ⟨63, 100000, late (live [(FIO.BARRIER_OK, 1), (FIO.FIO_FAULT, 1)]), by decide +kernel⟩,
   ⟨63, 0, late (live [(FIO.BARRIER_OK, 1), (FIO.FIO_FAULT, 1)]), by decide +kernel⟩,
   ⟨63, 15000, late (live [(FIO.BARRIER_OK, 1), (FIO.FIO_FAULT, 1)]), by decide +kernel⟩,
   ⟨31, -100000, late (live [(FIO.BARRIER_OK, 1), (FIO.FI_LO, 0xFFFFFFFF)]), by decide +kernel⟩,
   ⟨0, 140, late (live [(FIO.BARRIER_OK, 1), (FIO.FI_LO, 1)]), by decide +kernel⟩,
   ⟨.host, 0xFFFFFFFF, live [(HDR.EN pgFIO, 1)], by decide +kernel⟩,
   ⟨.host, 0xFFFFFFFF, live [(FIO.WD_OPEN, 1)], by decide +kernel⟩,
   ⟨.host, 0xFFFFFFFF, live [], by decide +kernel⟩,
   ⟨31, live [(FIO.BARRIER_OK, 1), (FIO.FO_OUT, 0x80000000)], by decide +kernel⟩,
   ⟨31, live [(FIO.BARRIER_OK, 1), (FIO.FO_OUT, 0x80000000)], by decide +kernel⟩,
   ⟨live [(FIO.BARRIER_OK, 1), (FIO.FIO_FAULT, 1)], by decide +kernel⟩,
   ⟨{ live [(FIO.BARRIER_OK, 1), (FIO.FIO_FAULT, 1), (FIO.WD_OPEN, 1)] with fio := ⟨1, 0, 0, 0, []⟩ }, by decide +kernel⟩⟩

theorem meets_CanQueues :
    (∃ (n : Fin 4) (f : CanFrame) (_ : Nat) (s : State), frameTaken s n f = true) ∧
    (∃ (n : Fin 4) (f : CanFrame) (_ : Nat) (s : State), frameTaken s n f = true) ∧
    (∃ (src : Src) (n : Fin 4) (_ : Fin 32) (s : State), hears s src (pgCAN n) 0x064 = true) ∧
    (∃ (src : Src) (n : Fin 4) (_ : Fin 32) (s : State), hears s src (pgCAN n) 0x064 = true) ∧
    (∃ (src : Src) (n : Fin 4) (_ : Fin 32) (s : State), hears s src (pgCAN n) 0x064 = true) ∧
    (∃ (src : Src) (n : Fin 4) (_ : Fin 32) (s : State), hears s src (pgCAN n) 0x064 = true) ∧
    (∃ (src : Src) (n : Fin 4) (_ : Fin 32) (s : State), hears s src (pgCAN n) 0x064 = true) ∧
    (∃ (src : Src) (n : Fin 4) (_ : Fin 32) (s : State), hears s src (pgCAN n) 0x064 = true) ∧
    (∃ (src : Src) (n : Fin 4) (_ : Fin 32) (s : State), hears s src (pgCAN n) 0x064 = true) ∧
    (∃ (src : Src) (n : Fin 4) (_ : Fin 256) (s : State), hears s src (pgCAN n) 0x068 = true) ∧
    (∃ (src : Src) (n : Fin 4) (_ : Fin 256) (s : State), hears s src (pgCAN n) 0x068 = true) ∧
    (∃ (src : Src) (n : Fin 4) (_ : Fin 256) (s : State), hears s src (pgCAN n) 0x068 = true) ∧
    (∃ (src : Src) (n : Fin 4) (_ : Fin 8) (s : State), hears s src (pgCAN n) 0x068 = true) ∧
    (∃ (src : Src) (n : Fin 4) (_ : Fin 8) (s : State), hears s src (pgCAN n) 0x068 = true) ∧
    (∃ (n : Fin 4) (i : Nat) (s : State), canOn s n = true ∧ s.get (CAN.ESTATE n) ≠ 2 ∧ s.get (CAN.MODE n) ≠ 1 ∧ s.on (CAN.TX_ACT_V n) = false ∧ s.on (HDR.LP_REQ (pgCAN n)) = false ∧ offered s n = some i) ∧
    (∃ (n : Fin 4) (s : State), arbitrating s n = true) ∧
    (∃ (n : Fin 4) (s : State), arbitrating s n = true) ∧
    (∃ (n : Fin 4) (_ : Nat) (_ : Nat) (s : State), canPresent s n = true ∧ (s.can n).sending = true ∧ s.get (CAN.MODE n) ≠ 2) :=
  ⟨⟨0, frame, 5, can [], by decide +kernel⟩,
   ⟨0, { frame with data := [] }, 5, can [], by decide +kernel⟩,
   ⟨.host, 0, 31, can [], by decide +kernel⟩,
   ⟨.host, 0, 0, can [(CAN.TX_PEND 0, 1)], by decide +kernel⟩,
   ⟨.host, 0, 31, can [(CAN.TX_PEND 0, 0x80000000)], by decide +kernel⟩,
   ⟨.host, 0, 3, can [(CAN.TX_PEND 0, 8), (CAN.TX_ACT_V 0, 1), (CAN.TX_ACT 0, 3)], by decide +kernel⟩,
   ⟨.host, 0, 3, can [], by decide +kernel⟩,
   ⟨.host, 0, 31, can [(CAN.TX_DONE 0, 0x80000000)], by decide +kernel⟩,
   ⟨.host, 0, 3, can [], by decide +kernel⟩,
   ⟨.host, 0, 2, { can [] with cans := [(0, { CanCtl.init with rx := [⟨0, 0, 1⟩, ⟨1, 1, 1⟩] })] }, by decide +kernel⟩,
   ⟨.host, 0, 3, { can [] with cans := [(0, { CanCtl.init with rx := [⟨0, 0, 1⟩, ⟨1, 1, 1⟩] })] }, by decide +kernel⟩,
   ⟨.host, 0, 0, { can [] with cans := [(0, { CanCtl.init with rx := [⟨0, 0, 1⟩, ⟨1, 1, 1⟩] })] }, by decide +kernel⟩,
   ⟨.host, 0, 7, can [(CAN.HPB_FULL 0, 0x80)], by decide +kernel⟩,
   ⟨.host, 0, 0, can [], by decide +kernel⟩,
   ⟨0, 31, can [(CAN.TX_PEND 0, 0x80000000)], by decide +kernel⟩,
   ⟨0, can [(CAN.TX_PEND 0, 8), (CAN.TX_ACT_V 0, 1), (CAN.TX_ACT 0, 3)], by decide +kernel⟩,
   ⟨0, can [(CAN.TX_PEND 0, 8), (CAN.TX_ACT_V 0, 1), (CAN.TX_ACT 0, 3)], by decide +kernel⟩,
   ⟨0, 9, 300, { can [(CAN.TX_PEND 0, 8), (CAN.TX_ACT_V 0, 1), (CAN.TX_ACT 0, 3)] with cans := [(0, { CanCtl.init with sending := true })] }, by decide +kernel⟩⟩

theorem meets_CanErrorsAndSleep :
    (∃ (n : Fin 4) (_ : CanError) (_ : Bool) (s : State), canOn s n = true ∧ s.get (CAN.ESTATE n) ≠ 2 ∧ s.get (CAN.TEC n) < 256) ∧
    (∃ (n : Fin 4) (_ : CanError) (_ : Bool) (s : State), canOn s n = true ∧ s.get (CAN.ESTATE n) ≠ 2 ∧ s.get (CAN.TEC n) < 256) ∧
    (∃ (n : Fin 4) (_ : CanError) (_ : Option Nat) (_ : Bool) (s : State), canOn s n = true ∧ s.get (CAN.ESTATE n) ≠ 2 ∧ s.on (CAN.TX_ACT_V n) = true) ∧
    (∃ (n : Fin 4) (_ : CanError) (_ : Option Nat) (_ : Bool) (s : State), canOn s n = true ∧ s.get (CAN.ESTATE n) ≠ 2 ∧ s.on (CAN.TX_ACT_V n) = true) ∧
    (∃ (n : Fin 4) (_ : CanError) (_ : Option Nat) (_ : Bool) (s : State), canOn s n = true ∧ s.get (CAN.ESTATE n) ≠ 2 ∧ s.on (CAN.TX_ACT_V n) = true) ∧
    (∃ (src : Src) (n : Fin 4) (s : State), hears s src (pgCAN n) 0x060 = true) ∧
    (∃ (src : Src) (n : Fin 4) (s : State), hears s src (pgCAN n) 0x060 = true) ∧
    (∃ (n : Fin 4) (s : State), canOn s n = true ∧ s.on (CAN.RECOVERING n) = true) ∧
    (∃ (src : Src) (n : Fin 4) (_ : Bool) (s : State), hears s src (pgCAN n) 0x00C = true) ∧
    (∃ (src : Src) (n : Fin 4) (_ : Bool) (s : State), hears s src (pgCAN n) 0x00C = true) ∧
    (∃ (src : Src) (n : Fin 4) (_ : Bool) (s : State), hears s src (pgCAN n) 0x00C = true) ∧
    (∃ (src : Src) (n : Fin 4) (_ : Bool) (s : State), hears s src (pgCAN n) 0x00C = true) ∧
    (∃ (src : Src) (n : Fin 4) (_ : Bool) (s : State), hears s src (pgCAN n) 0x00C = true) ∧
    (∃ (n : Fin 4) (s : State), s.hasCan n = true ∧ s.on (HDR.LP_REQ (pgCAN n)) = true ∧ s.on (CAN.SLEEP n) = false ∧ s.on (CAN.TX_ACT_V n) = false ∧ (s.get (CAN.ESTATE n) ≠ 2 ∨ s.on (CAN.AUTO_REC n) = false)) ∧
    (∃ (n : Fin 4) (_ : CanWake) (s : State), s.on (CAN.SLEEP n) = true) ∧
    (∃ (n : Fin 4) (_ : CanWake) (s : State), s.on (CAN.SLEEP n) = true) :=
  ⟨⟨0, .stuff, false, can [(CAN.REC 0, 127)], by decide +kernel⟩,
   ⟨0, .crc, true, can [], by decide +kernel⟩,
   ⟨0, .ack, none, false, can [(CAN.TX_ACT_V 0, 1)], by decide +kernel⟩,
   ⟨0, .bit1, some 3, false, can [(CAN.TX_ACT_V 0, 1), (CAN.TEC 0, 248)], by decide +kernel⟩,
   ⟨0, .stuff, none, false, can [(CAN.TX_ACT_V 0, 1), (CAN.TEC 0, 248)], by decide +kernel⟩,
   ⟨.host, 0, can [(CAN.ESTATE 0, 2)], by decide +kernel⟩,
   ⟨.host, 0, can [], by decide +kernel⟩,
   ⟨0, can [(CAN.RECOVERING 0, 1), (CAN.ESTATE 0, 2), (CAN.TEC 0, 256)], by decide +kernel⟩,
   ⟨.host, 0, true, can [], by decide +kernel⟩,
   ⟨.host, 0, false, can [(HDR.LP_REQ (pgCAN 0), 1), (CAN.SLEEP 0, 1)], by decide +kernel⟩,
   ⟨.host, 0, false, can [], by decide +kernel⟩,
   ⟨.host, 0, true, up [], by decide +kernel⟩,
   ⟨.host, 0, true, up [(CAN.ESTATE 0, 2), (CAN.AUTO_REC 0, 1)], by decide +kernel⟩,
   ⟨0, can [(HDR.LP_REQ (pgCAN 0), 1)], by decide +kernel⟩,
   ⟨0, .dominant, can [(CAN.SLEEP 0, 1), (HDR.LP_REQ (pgCAN 0), 1)], by decide +kernel⟩,
   ⟨0, .frame 1 frame, can [(CAN.SLEEP 0, 1), (CAN.WAKE_MODE 0, 1)], by decide +kernel⟩⟩

theorem meets_TrainNetworks :
    (∃ (port : Fin 2) (f : EcnFrame) (_ : Word) (_ : Bool) (s : State), ecnUp s = true ∧ s.on (linkReg port) = true ∧ f.pd = none) ∧
    (∃ (port : Fin 2) (f : EcnFrame) (_ : Word) (_ : Bool) (s : State), ecnUp s = true ∧ s.on (linkReg port) = true ∧ f.pd = none) ∧
    (∃ (port : Fin 2) (f : EcnFrame) (_ : Word) (_ : Bool) (s : State), ecnUp s = true ∧ s.on (linkReg port) = true ∧ f.pd = none) ∧
    (∃ (port : Fin 2) (f : EcnFrame) (_ : Word) (_ : Bool) (s : State), ecnUp s = true ∧ s.on (linkReg port) = true ∧ f.pd = none) ∧
    (∃ (port : Fin 2) (f : EcnFrame) (_ : Word) (_ : Bool) (s : State), ecnUp s = true ∧ s.on (linkReg port) = true ∧ f.pd = none) ∧
    (∃ (port : Fin 2) (f : EcnFrame) (_ : Word) (_ : Bool) (s : State), ecnUp s = true ∧ s.on (linkReg port) = true ∧ f.pd = none) ∧
    (∃ (port : Fin 2) (f : EcnFrame) (_ : Word) (_ : Bool) (s : State), ownFrame s port f = true ∧ s.on (HDR.EN pgECN) = true) ∧
    (∃ (port : Fin 2) (f : EcnFrame) (_ : Word) (_ : Bool) (s : State), ownFrame s port f = true ∧ s.on (HDR.EN pgECN) = true) ∧
    (∃ (src : Src) (k : Fin 4) (_ : Word) (s : State), hears s src pgECN (0x064 + k * 8) = true ∧ unlocked s src pgECN (0x064 + k * 8) = true) ∧
    (∃ (_ : HostFrame) (_ : Bool) (s : State), ecnUp s = true ∧ s.on (HDR.EN pgECN) = true ∧ (txReady s 0 = true ∨ txReady s 1 = true)) ∧
    (∃ (_ : HostFrame) (_ : Bool) (s : State), ecnUp s = true ∧ s.on (HDR.EN pgECN) = true ∧ (txReady s 0 = true ∨ txReady s 1 = true)) ∧
    (∃ (s : State), s.on ECN.BYPASS = s.domOn 7 ∧ (s.domOn 7 = true → s.nets.p7At + msTicks 20 ≤ s.tick)) ∧
    (∃ (s : State), s.on ECN.BYPASS = s.domOn 7 ∧ (s.domOn 7 = true → s.nets.p7At + msTicks 20 ≤ s.tick)) ∧
    (∃ (_ : Fin 2) (_ : Bool) (s : State), ecnUp s = true) ∧
    (∃ (port : Fin 2) (_ : Bool) (s : State), ecnUp s = true ∧ s.on (linkReg port) = true) ∧
    (∃ (p : BitVec 12) (a : MvbLine) (b : MvbLine) (k : Nat) (s : State), s.works pgMVB = true ∧ mvbGood a b = true ∧ s.get MVB.MVB_ADDR ≠ 0 ∧ (List.range 32).find? (fun j => mvbOn s j && mvbSource s j && mvbAddr s j = p.toNat) = some k) ∧
    (∃ (d : BitVec 12) (a : MvbLine) (b : MvbLine) (s : State), s.works pgMVB = true ∧ mvbGood a b = true ∧ s.get MVB.MVB_ADDR ≠ 0 ∧ s.get MVB.MVB_ADDR = d.toNat) ∧
    (∃ (_ : BitVec 12) (data : List Nat) (a : MvbLine) (b : MvbLine) (s : State), s.works pgMVB = true ∧ mvbGood a b = true ∧ (∀ x ∈ data, x < 256)) ∧
    (∃ (_ : BitVec 12) (data : List Nat) (a : MvbLine) (b : MvbLine) (s : State), s.works pgMVB = true ∧ mvbGood a b = true ∧ (∀ x ∈ data, x < 256)) ∧
    (∃ (line : Fin 2) (s : State), s.works pgMVB = true ∧ s.on (lineReg (1 - line.val)) = true ∧ mapFind 0 line.val s.nets.lineAt + msTicks 32 ≤ s.tick ∧ s.tick ≤ mapFind 0 (1 - line.val) s.nets.lineAt + msTicks 32) ∧
    (∃ (line : Fin 2) (s : State), s.works pgMVB = true ∧ s.on (lineReg (1 - line.val)) = true ∧ mapFind 0 line.val s.nets.lineAt + msTicks 32 ≤ s.tick ∧ s.tick ≤ mapFind 0 (1 - line.val) s.nets.lineAt + msTicks 32) ∧
    (∃ (k : Fin 32) (s : State), s.works pgMVB = true ∧ mvbOn s k = true ∧ mvbSource s k = false ∧ mvbFresh s k ≠ 0 ∧ s.bit MVB.STALE_MASK k = false ∧ mapFind 0 k.val s.nets.sinkAt + msTicks (mvbFresh s k) ≤ s.tick) ∧
    (∃ (k : Fin 32) (s : State), mvbOn s k = true ∧ mvbSource s k = false) ∧
    (∃ (b : Nat) (rest : List Nat) (s : State), lglMaster s = true ∧ s.nets.lglWait = none ∧ s.nets.lglFree ≤ s.tick ∧ s.nets.lglQ = b :: rest) ∧
    (∃ (a : Nat) (s : State), lglMaster s = true ∧ s.nets.lglWait = none ∧ s.nets.lglFree ≤ s.tick ∧ s.nets.lglQ = [] ∧ lglNext s = some a) ∧
    (∃ (bytes : List Nat) (a : Nat) (sent : Nat) (s : State), lglMaster s = true ∧ s.nets.lglWait = some (a, true, sent) ∧ a < 32 ∧ answersPoll bytes = true ∧ bytes.getD 0 0 = a ∧ (∀ x ∈ bytes, x < 256)) ∧
    (∃ (bytes : List Nat) (a : Nat) (sent : Nat) (s : State), lglMaster s = true ∧ s.nets.lglWait = some (a, true, sent) ∧ a < 32 ∧ answersPoll bytes = true ∧ bytes.getD 0 0 = a ∧ (∀ x ∈ bytes, x < 256)) ∧
    (∃ (bytes : List Nat) (parityOk : Bool) (s : State), lglMaster s = true ∧ lglGood bytes parityOk = false) ∧
    (∃ (bytes : List Nat) (parityOk : Bool) (s : State), lglMaster s = true ∧ lglGood bytes parityOk = false) ∧
    (∃ (a : Nat) (sent : Nat) (s : State), s.nets.lglWait = some (a, true, sent) ∧ a < 32 ∧ sent + msTicks (s.get LGL.REPLY_TMO_MS) ≤ s.tick) ∧
    (∃ (a : Nat) (sent : Nat) (s : State), s.nets.lglWait = some (a, true, sent) ∧ a < 32 ∧ sent + msTicks (s.get LGL.REPLY_TMO_MS) ≤ s.tick) ∧
    (∃ (src : Src) (_ : Word) (s : State), hears s src pgLGL 0x054 = true) ∧
    (∃ (src : Src) (_ : Word) (s : State), hears s src pgLGL 0x054 = true) ∧
    (∃ (_ : List Nat) (_ : Bool) (s : State), s.works pgLGL = true ∧ s.on LGL.ROLE = true) ∧
    (∃ (_ : List Nat) (_ : Bool) (s : State), s.works pgLGL = true ∧ s.on LGL.ROLE = true) :=
  ⟨⟨0, ether false 5, 0, true, ecn [], by decide +kernel⟩,
   ⟨0, ether true 5, 0, false, ecn [], by decide +kernel⟩,
   ⟨0, ether true 5, 0, true, ecn [], by decide +kernel⟩,
   ⟨0, ⟨true, [1, 2], none, 0⟩, 0, false, ecn [], by decide +kernel⟩,
   ⟨0, ether true 5, 0, false, ecn [(ECN.B_LINK, 1)], by decide +kernel⟩,
   ⟨0, ether true 5, 0, true, ecn [(ECN.B_LINK, 1)], by decide +kernel⟩,
   ⟨0, ether true 0, 0, true, ecn [(ECN.Q_HEAD 2, 255)], by decide +kernel⟩,
   ⟨0, ether true 0, 0, true, ecn [(ECN.Q_HEAD 2, 0)], by decide +kernel⟩,
   ⟨.host, 3, 0xFF, ecn [(ECN.Q_HEAD 3, 5)], by decide +kernel⟩,
   ⟨⟨4, [1, 2], 0x12345678⟩, false, ecn [(ECN.Q_HEAD 0, 255), (ECN.Q_TAIL 0, 254)], by decide +kernel⟩,
   ⟨⟨4, [1, 2], 0x12345678⟩, true, ecn [(ECN.Q_HEAD 1, 255), (ECN.Q_TAIL 1, 0), (ECN.Q_TAIL 0, 9)], by decide +kernel⟩,
   ⟨late (ecn [(ECN.BYPASS, 1)]), by decide +kernel⟩,
   ⟨ecn [(PWR.DOM_ON, 0xF7F)], by decide +kernel⟩,
   ⟨1, true, ecn [], by decide +kernel⟩,
   ⟨0, false, ecn [(ECN.A_1G, 1)], by decide +kernel⟩,
   ⟨0x200, .bad, .good, 1, mvb [], by decide +kernel⟩,
   ⟨0x12, .good, .none, mvb [], by decide +kernel⟩,
   ⟨0x100, [1, 2, 3, 255], .good, .good, mvb [(MVB.STALE_MASK, 3)], by decide +kernel⟩,
   ⟨0x100, [1, 2, 3], .good, .good, mvb [(MVB.STALE_MASK, 3)], by decide +kernel⟩,
   ⟨1, { late (mvb [(MVB.LINE_A_OK, 1), (MVB.LINE_B_OK, 1)]) with nets := { Nets.init with lineAt := [(0, 2 ^ 25)] } }, by decide +kernel⟩,
   ⟨0, { late (mvb [(MVB.LINE_A_OK, 1), (MVB.LINE_B_OK, 1)]) with nets := { Nets.init with lineAt := [(1, 2 ^ 25)] } }, by decide +kernel⟩,
   ⟨0, late (mvb []), by decide +kernel⟩,
   ⟨0, (mvb []).wr32 pgMVB 2 4 0x01020304, by decide +kernel⟩,
   ⟨3, [1], { legacy none [] with nets := { Nets.init with lglQ := [3, 1] } }, by decide +kernel⟩,
   ⟨1, legacy none [], by decide +kernel⟩,
   ⟨lglFrame 1 0x81 [], 1, 0, legacy (some (1, true, 0)) [], by decide +kernel⟩,
   ⟨lglFrame 31 0x81 [3, 0, 0, 1, 2], 31, 0, legacy (some (31, true, 0)) [(HDR.EN pgECHO, 1)], by decide +kernel⟩,
   ⟨[1, 2], true, legacy (some (1, true, 0)) [], by decide +kernel⟩,
   ⟨[1, 2], true, legacy none [], by decide +kernel⟩,
   ⟨31, 0, late ({ legacy none [(LGL.LGL_PRESENT, 0x80000000)] with nets := { Nets.init with lglWait := some (31, true, 0), lglMiss := [(31, 2)] } }), by decide +kernel⟩,
   ⟨1, 0, late ({ legacy none [(LGL.LGL_PRESENT, 2)] with nets := { Nets.init with lglWait := some (1, true, 0), lglMiss := [(1, 1)] } }), by decide +kernel⟩,
   ⟨.host, 0x4703, legacy none [], by decide +kernel⟩,
   ⟨.host, 0x4704, legacy none [], by decide +kernel⟩,
   ⟨lglFrame 5 1 [], true, legacy none [(LGL.ROLE, 1), (LGL.OWN_ADDR, 5)], by decide +kernel⟩,
   ⟨[], true, legacy none [(LGL.ROLE, 1), (LGL.OWN_ADDR, 5)], by decide +kernel⟩⟩

theorem meets_PartnerRegistry :
    (∃ (s : State), echoOn s = true) ∧
    (∃ (c : Fin 5) (_ : Nat) (p : List Nat) (h : Heard) (s : State), echoHears s c = true ∧ heardOf p = some h ∧ ownHeard s h = true) ∧
    (∃ (c : Fin 5) (_ : Nat) (p : List Nat) (h : Heard) (s : State), echoHears s c = true ∧ heardOf p = some h ∧ ownHeard s h = true) ∧
    (∃ (c : Fin 5) (_ : Nat) (p : List Nat) (s : State), echoHears s c = true ∧ heardOf p = none) ∧
    (∃ (c : Fin 5) (unit : Nat) (p : List Nat) (h : Heard) (k : Nat) (s : State), echoHears s c = true ∧ heardOf p = some h ∧ echoOn s = true ∧ newcomer s h unit = true ∧ roomFor s 1 = some k) ∧
    (∃ (c : Fin 5) (unit : Nat) (p : List Nat) (h : Heard) (k : Nat) (s : State), echoHears s c = true ∧ heardOf p = some h ∧ echoOn s = true ∧ newcomer s h unit = true ∧ roomFor s 1 = some k) ∧
    (∃ (c : Fin 5) (unit : Nat) (p : List Nat) (h : Heard) (k : Nat) (s : State), echoHears s c = true ∧ heardOf p = some h ∧ echoOn s = true ∧ newcomer s h unit = true ∧ roomFor s 1 = some k) ∧
    (∃ (c : Fin 5) (unit : Nat) (p : List Nat) (h : Heard) (s : State), echoHears s c = true ∧ heardOf p = some h ∧ echoOn s = true ∧ newcomer s h unit = true ∧ roomFor s 1 = none) ∧
    (∃ (c : Fin 5) (unit : Nat) (p : List Nat) (h : Heard) (k : Nat) (s : State), echoHears s c = true ∧ heardOf p = some h ∧ ownHeard s h = false ∧ echoOn s = true ∧ findUnit s h.serial h.short = some k ∧ (s.slot k).st = esPRESENT ∧ unlisted s (unit % 0x10000) = false) ∧
    (∃ (id : Nat) (_ : List Nat) (s : State), id ≠ s.get ECHO.CONSIST_COMID) ∧
    (∃ (p : List Nat) (s : State), echoHears s 0 = true ∧ (p.length ≠ 6 + 2 * p.getD 5 0 ∨ 64 < p.getD 5 0)) ∧
    (∃ (p : List Nat) (s : State), echoHears s 0 = true ∧ (p.length ≠ 6 + 2 * p.getD 5 0 ∨ 64 < p.getD 5 0)) ∧
    (∃ (p : List Nat) (s : State), echoHears s 0 = true ∧ echoOn s = true ∧ p.length = 6 + 2 * p.getD 5 0 ∧ p.getD 5 0 ≤ 64) ∧
    (∃ (p : List Nat) (s : State), echoHears s 0 = true ∧ echoOn s = true ∧ p.length = 6 + 2 * p.getD 5 0 ∧ p.getD 5 0 ≤ 64) ∧
    (∃ (k : Fin 256) (s : State), echoOn s = true ∧ k.val ≠ 0 ∧ (s.slot k).typ = 1 ∧ ((s.slot k).st = esPRESENT ∨ (s.slot k).st = esFOREIGN) ∧ (s.slot k).tick + msTicks 1600 ≤ s.tick) ∧
    (∃ (k : Fin 256) (s : State), echoOn s = true ∧ k.val ≠ 0 ∧ (s.slot k).typ = 1 ∧ ((s.slot k).st = esPRESENT ∨ (s.slot k).st = esFOREIGN) ∧ (s.slot k).tick + msTicks 1600 ≤ s.tick) ∧
    (∃ (k : Fin 256) (c : Fin 5) (s : State), echoOn s = true ∧ (s.slot k).typ = 1 ∧ bitAt (s.slot k).carriers c = true ∧ mapFind 0 c.val (s.slot k).heard + msTicks 1600 ≤ s.tick) ∧
    (∃ (s : State), echoOn s = true ∧ s.on ECHO.CONSIST_VALID = true ∧ (s.slot 0x12).tick + msTicks (3 * s.get ECHO.TCMS_PERIOD_MS + 100) ≤ s.tick) ∧
    (∃ (k : Fin 256) (s : State), echoOn s = true ∧ (s.slot k).st = esLOST ∧ (s.slot k).since + msTicks 10000 ≤ s.tick) ∧
    (∃ (k : Fin 256) (s : State), echoOn s = true ∧ (s.slot k).st = esEXPECTED ∧ (s.slot k).missed = false ∧ (s.slot k).since + msTicks 1600 ≤ s.tick) ∧
    (∃ (k : Fin 256) (s : State), s.tick < (s.slot k).tick + msTicks 1600) ∧
    (∃ (k : Fin 256) (c : Fin 5) (s : State), s.tick < mapFind 0 c.val (s.slot k).heard + msTicks 1600) ∧
    (∃ (s : State), s.tick < (s.slot 0x12).tick + msTicks (3 * s.get ECHO.TCMS_PERIOD_MS + 100)) ∧
    (∃ (k : Fin 256) (s : State), s.tick < (s.slot k).since + msTicks 10000) ∧
    (∃ (k : Fin 256) (s : State), s.tick < (s.slot k).since + msTicks 1600) ∧
    (∃ (s : State), s.works pgDVR = true ∧ s.inRefuge = false) :=
  ⟨⟨echo [] [(ECN.IP_ADDR, 5), (ECHO.ANN_CAN, 1), (HDR.EN (pgCAN 0), 1)], by decide +kernel⟩,
   ⟨0, 5, announced 0, ⟨0, false, 8, false, 0, some 0⟩, echo [] [], by decide +kernel⟩,
   ⟨0, 5, [0, 0, 0, 9, 8, 0, 0, 0], ⟨9, true, 8, false, 0, none⟩, echo [] [(SYS.SERIAL_LO, 9), (SYS.SERIAL_HI, 1)], by decide +kernel⟩,
   ⟨0, 0, [1], echo [] [], by decide +kernel⟩,
   ⟨0, 5, announced 1005, ⟨1005, false, 8, false, 0, some 0⟩, 0x13, echo [] [], by decide +kernel⟩,
   ⟨0, 5, announced 1005, ⟨1005, false, 8, false, 0, some 0⟩, 0x13, echo [] [(ECHO.CONSIST_VALID, 1)], by decide +kernel⟩,
   ⟨4, 65535, [0, 0, 3, 0xED, 8, 0, 0, 0], ⟨1005, true, 8, false, 0, none⟩, 0x14, echo [(0x13, partner 1 9)] [(HDR.EN (pgCAN 3), 1)], by decide +kernel⟩,
   ⟨0, 5, announced 1005, ⟨1005, false, 8, false, 0, some 0⟩, echo ((List.range 63).map fun i => (0x13 + i, partner 1 (100 + i))) [], by decide +kernel⟩,
   ⟨0, 5, announced 1005, ⟨1005, false, 8, false, 0, some 0⟩, 0x20, echo [(0x20, partner 1 5)] [], by decide +kernel⟩,
   ⟨12345, [], echo [] [], by decide +kernel⟩,
   ⟨[0, 0, 0, 1, 0, 2], echo [] [], by decide +kernel⟩,
   ⟨[0, 0, 0, 1, 0, 65], echo [] [], by decide +kernel⟩,
   ⟨[0, 0, 0, 1, 3, 2, 0, 7, 0, 9], echo [(0x20, partner 1 5)] [], by decide +kernel⟩,
   ⟨[0, 0, 0, 0, 3, 0], echo [(0x20, partner 1 5)] [], by decide +kernel⟩,
   ⟨255, late (echo [(255, partner 1 5)] []), by decide +kernel⟩,
   ⟨0x13, late (echo [(0x13, partner 4 5)] []), by decide +kernel⟩,
   ⟨0x13, 0, late (echo [(0x13, partner 1 5)] []), by decide +kernel⟩,
   ⟨late (echo [(0x13, partner 3 5), (0x14, partner 1 6)] [(ECHO.CONSIST_VALID, 1)]), by decide +kernel⟩,
   ⟨0x13, late (echo [(0x13, partner 2 5)] []), by decide +kernel⟩,
   ⟨0x13, late (echo [(0x13, partner 3 5)] []), by decide +kernel⟩,
   ⟨0x13, echo [(0x13, partner 1 5), (0x14, partner 2 6), (0x15, partner 3 7)] [(ECHO.CONSIST_VALID, 1)], by decide +kernel⟩,
   ⟨0x13, 0, echo [(0x13, partner 1 5), (0x14, partner 2 6), (0x15, partner 3 7)] [(ECHO.CONSIST_VALID, 1)], by decide +kernel⟩,
   ⟨echo [(0x13, partner 1 5), (0x14, partner 2 6), (0x15, partner 3 7)] [(ECHO.CONSIST_VALID, 1)], by decide +kernel⟩,
   ⟨0x14, echo [(0x13, partner 1 5), (0x14, partner 2 6), (0x15, partner 3 7)] [(ECHO.CONSIST_VALID, 1)], by decide +kernel⟩,
   ⟨0x15, echo [(0x13, partner 1 5), (0x14, partner 2 6), (0x15, partner 3 7)] [(ECHO.CONSIST_VALID, 1)], by decide +kernel⟩,
   ⟨echo [] [(ECN.IP_ADDR, 5), (DVR.INFO_EN, 3), (HDR.EN (pgCAN 0), 1)], by decide +kernel⟩⟩

theorem meets_RecordsAndMemories :
    (∃ (e : EventReq) (l : List EventReq) (s : State), s.fq0 = e :: l ∧ sealsWell s none = true) ∧
    (∃ (e : EventReq) (l : List EventReq) (s : State), s.fq0 = e :: l ∧ sealsWell s none = true) ∧
    (∃ (c : CycleEnd) (l : List CycleEnd) (s : State), s.flow.fq1 = c :: l ∧ (∀ e ∈ c :: l, e.trace = none ∧ e.lost = false) ∧ sealsWell s none = true ∧ holdStops s arCYCLE 1 = false) ∧
    (∃ (c : CycleEnd) (x : Trace) (s : State), s.flow.fq1 = [c] ∧ c.trace = some x ∧ c.lost = false ∧ sealsWell s none = true ∧ stageOpen s arTRACE = true ∧ holdStops s arCYCLE 1 = false) ∧
    (∃ (_ : Nat) (e : EventReq) (l : List EventReq) (s : State), s.fq0 = e :: l ∧ sealsWell s none = true) ∧
    (∃ (_ : Nat) (e : EventReq) (l : List EventReq) (s : State), s.fq0 = e :: l ∧ sealsWell s none = true) ∧
    (∃ (a : NandArea) (seq : Nat) (bytes : List Nat) (s : State), a ≠ .archive ∧ programs s (nandNum a) = true ∧ s.on FLOW.EVID_HOLD = false ∧ pageDue s (nandNum a) = [(seq, bytes)]) ∧
    (∃ (a : NandArea) (seq : Nat) (bytes : List Nat) (s : State), a ≠ .archive ∧ programs s (nandNum a) = true ∧ s.on FLOW.EVID_HOLD = false ∧ pageDue s (nandNum a) = [(seq, bytes)]) ∧
    (∃ (a : NandArea) (seq : Nat) (bytes : List Nat) (s : State), a ≠ .archive ∧ programs s (nandNum a) = true ∧ s.on FLOW.EVID_HOLD = false ∧ pageDue s (nandNum a) = [(seq, bytes)]) ∧
    (∃ (a : NandArea) (seq : Nat) (bytes : List Nat) (s : State), a ≠ .archive ∧ programs s (nandNum a) = true ∧ s.on FLOW.EVID_HOLD = false ∧ pageDue s (nandNum a) = [(seq, bytes)]) ∧
    (∃ (s : State), programs s arARCHIVE = true ∧ s.on FLOW.EVID_HOLD = false ∧ mramOk s = true ∧ pageDue s arARCHIVE ≠ []) ∧
    (∃ (a : NandArea) (s : State), programs s (nandNum a) = true ∧ pageDue s (nandNum a) ≠ []) ∧
    (∃ (a : NandArea) (s : State), programs s (nandNum a) = true ∧ pageDue s (nandNum a) ≠ []) ∧
    (∃ (a : NandArea) (s : State), programs s (nandNum a) = true ∧ pageDue s (nandNum a) ≠ []) ∧
    (∃ (n : Fin 8) (x : Trace) (s : State), mapFind none n.val s.flow.traces = some x ∧ s.domOn 3 = true) ∧
    (∃ (n : Fin 8) (x : Trace) (s : State), mapFind none n.val s.flow.traces = some x ∧ s.domOn 3 = true) ∧
    (∃ (n : Fin 8) (x : Trace) (s : State), mapFind none n.val s.flow.traces = some x ∧ s.domOn 3 = true) ∧
    (∃ (n : Fin 8) (x : Trace) (s : State), mapFind none n.val s.flow.traces = some x ∧ s.domOn 3 = true) ∧
    (∃ (n : Fin 8) (c : Clip) (s : State), s.flow.clips.find? (fun c => c.door = n.val) = some c ∧ flowUp s = true ∧ stageOpen s arCLIP = true) ∧
    (∃ (s : State), flowUp s = true ∧ stageOpen s arSYSTEM = true) ∧
    (∃ (s : State), flowUp s = true ∧ stageOpen s arSYSTEM = true) ∧
    (∃ (_ : Bool) (_ : List (Fin 7)) (_ : List (Nat × Nat)) (s : State), s.domOn 3 = true ∧ s.on FLOW.FLOW_RDY = false ∧ s.on PWR.PF_WARN = false) ∧
    (∃ (_ : Bool) (_ : List (Fin 7)) (_ : List (Nat × Nat)) (s : State), s.domOn 3 = true ∧ s.on FLOW.FLOW_RDY = false ∧ s.on PWR.PF_WARN = false) ∧
    (∃ (s : State), s.on FLOW.NAND_HOLD = false ∧ s.flow.need + 32768 ≤ s.tick) ∧
    (∃ (s : State), programs s arARCHIVE = true ∧ mramOk s = false ∧ s.flow.buf ≠ [] ∧ s.on FLOW.EVID_HOLD = false ∧ flushDue s = true) ∧
    (∃ (s : State), programs s arARCHIVE = true ∧ mramOk s = false ∧ s.flow.buf ≠ [] ∧ flushDue s = true) ∧
    (∃ (s : State), s.pageOn pgFLOW = true ∧ s.inRefuge = false ∧ (recorderFlags s ≠ s.flow.sent ∨ (recorderFlags s ≠ 0 ∧ s.flow.sentAt + msTicks 10000 ≤ s.tick))) :=
  ⟨⟨⟨1, 2, 3, 4, 5, 6⟩, [], { recorder { Flow.init with seq := 5, mark := 100 } [] with fq0 := [⟨1, 2, 3, 4, 5, 6⟩] }, by decide +kernel⟩,
   ⟨⟨1, 2, 3, 4, 5, 6⟩, [], { recorder { Flow.init with recs := [⟨1, 0, 0, []⟩] } [(FLOW.EVID_HOLD, 1)] with fq0 := [⟨1, 2, 3, 4, 5, 6⟩] }, by decide +kernel⟩,
   ⟨⟨0, [1, 2], none, 7, 9, false⟩, [], recorder { Flow.init with fq1 := [⟨0, [1, 2], none, 7, 9, false⟩] } [], by decide +kernel⟩,
   ⟨⟨3, [1, 2], some ⟨10, [[1]], true⟩, 0, 9, false⟩, ⟨10, [[1]], true⟩, recorder { Flow.init with fq1 := [⟨3, [1, 2], some ⟨10, [[1]], true⟩, 0, 9, false⟩] } [], by decide +kernel⟩,
   ⟨64, ⟨1, 2, 3, 4, 5, 6⟩, [], { recorder { Flow.init with badAt := [(0, 0)] } [] with fq0 := [⟨1, 2, 3, 4, 5, 6⟩] }, by decide +kernel⟩,
   ⟨64, ⟨1, 2, 3, 4, 5, 6⟩, [], { recorder { Flow.init with badAt := [(64, 0)] } [] with fq0 := [⟨1, 2, 3, 4, 5, 6⟩] }, by decide +kernel⟩,
   ⟨.trace, 6, [1, 2], recorder { Flow.init with staged := [(4, 6, [1, 2])] } [], by decide +kernel⟩,
   ⟨.clip, 6, [1, 2], recorder { Flow.init with staged := [(5, 6, [1, 2])] } [], by decide +kernel⟩,
   ⟨.system, 6, [1, 2], recorder { Flow.init with staged := [(6, 6, [1, 2])], badBlk := [(6, 0)], recs := List.replicate 4 ⟨6, 1, 64, []⟩ } [], by decide +kernel⟩,
   ⟨.clip, 6, [7], recorder { Flow.init with staged := [(5, 6, [7])], wp := [(5, 64)], badBlk := [(5, 1)] } [], by decide +kernel⟩,
   ⟨recorder { Flow.init with recs := (List.range 31).map fun i => ⟨2, i + 1, i, List.replicate 128 i⟩ } [], by decide +kernel⟩,
   ⟨.trace, recorder { Flow.init with staged := [(4, 6, [1, 2])] } [], by decide +kernel⟩,
   ⟨.clip, recorder { Flow.init with staged := [(5, 6, [1, 2]), (4, 7, [])] } [], by decide +kernel⟩,
   ⟨.archive, recorder { Flow.init with buf := List.replicate 31 (1, List.replicate 128 0) } [(FLOW.MRAM_FAIL, 1)], by decide +kernel⟩,
   ⟨0, ⟨10, List.replicate 504 [], false⟩, recorder { Flow.init with traces := [(0, some ⟨10, List.replicate 504 [], false⟩)] } [], by decide +kernel⟩,
   ⟨7, ⟨10, List.replicate 503 [], false⟩, recorder { Flow.init with traces := [(7, some ⟨10, List.replicate 503 [], false⟩)] } [], by decide +kernel⟩,
   ⟨0, ⟨10, [], false⟩, recorder { Flow.init with traces := [(0, some ⟨10, [], false⟩)] } [(HDR.EN pgFLOW, 0)], by decide +kernel⟩,
   ⟨0, ⟨10, [], false⟩, recorder { Flow.init with traces := [(0, some ⟨10, [], false⟩)] } [(CLK.CLK_FAIL, 0x400)], by decide +kernel⟩,
   ⟨7, ⟨7, 1, 100, [], []⟩, recorder { Flow.init with clips := [⟨7, 1, 100, [], []⟩] } [], by decide +kernel⟩,
   ⟨recorder Flow.init [], by decide +kernel⟩,
   ⟨recorder { Flow.init with recs := List.replicate 4 ⟨6, 1, 0, []⟩ } [], by decide +kernel⟩,
   ⟨true, [1, 5], [(3, 9), (1, 4)], (up []).setFlow { Flow.init with mark := 256, clips := [⟨0, 0, 0, [], []⟩], recs := [⟨1, 4, 0, List.replicate 64 0⟩, ⟨5, 5, 0, List.replicate 64 0⟩], traces := [(0, some ⟨10, [], false⟩)] }, by decide +kernel⟩,
   ⟨false, [], [], up [], by decide +kernel⟩,
   ⟨late (up []), by decide +kernel⟩,
   ⟨recorder { Flow.init with buf := [(5, List.replicate 64 1), (6, List.replicate 4000 1)] } [(FLOW.MRAM_FAIL, 1)], by decide +kernel⟩,
   ⟨recorder { Flow.init with buf := [(5, List.replicate 64 1)] } [(FLOW.MRAM_FAIL, 1)], by decide +kernel⟩,
   ⟨recorder Flow.init [(FLOW.NAND_FAIL, 1), (DVR.INFO_EN, 1), (ECN.BYPASS, 0), (ECN.IP_ADDR, 5)], by decide +kernel⟩⟩

theorem meets_ReadingAndExport :
    (∃ (src : Src) (s : State), hears s src pgFLOW 0x078 = true) ∧
    (∃ (src : Src) (s : State), hears s src pgFLOW 0x078 = true) ∧
    (∃ (src : Src) (s : State), hears s src pgFLOW 0x078 = true) ∧
    (∃ (src : Src) (s : State), hears s src pgFLOW 0x078 = true) ∧
    (∃ (src : Src) (s : State), hears s src pgFLOW 0x078 = true) ∧
    (∃ (src : Src) (s : State), hears s src pgFLOW 0x078 = true) ∧
    (∃ (src : Src) (s : State), hears s src pgFLOW 0x078 = true) ∧
    (∃ (s : State), s.on FLOW.FIND_BUSY = true) ∧
    (∃ (s : State), s.on FLOW.FIND_BUSY = true) ∧
    (∃ (s : State), s.on FLOW.FIND_BUSY = true) ∧
    (∃ (s : State), s.on FLOW.FIND_BUSY = true) ∧
    (∃ (s : State), s.on FLOW.FIND_BUSY = true) ∧
    (∃ (s : State), s.on FLOW.FIND_BUSY = true) ∧
    (∃ (s : State), s.on FLOW.FIND_BUSY = true) ∧
    (∃ (src : Src) (_ : Word) (s : State), hears s src pgFLOW 0x04C = true ∧ unlocked s src pgFLOW 0x04C = true) ∧
    (∃ (src : Src) (_ : Word) (s : State), hears s src pgFLOW 0x04C = true ∧ unlocked s src pgFLOW 0x04C = true) ∧
    (∃ (src : Src) (s : State), hears s src pgFLOW 0x078 = true) ∧
    (∃ (src : Src) (s : State), hears s src pgFLOW 0x078 = true) ∧
    (∃ (src : Src) (s : State), hears s src pgFLOW 0x078 = true ∧ s.on FLOW.EXP_RUN = true) ∧
    (∃ (src : Src) (_ : Word) (s : State), hears s src pgFLOW 0x098 = true) ∧
    (∃ (src : Src) (_ : Word) (s : State), hears s src pgFLOW 0x098 = true) ∧
    (∃ (src : Src) (_ : Word) (s : State), hears s src pgFLOW 0x098 = true) ∧
    (∃ (s : State), served s 1 = true) ∧
    (∃ (s : State), served s 1 = true) ∧
    (∃ (s : State), served s 1 = true) ∧
    (∃ (s : State), served s 1 = true) ∧
    (∃ (_ : Word) (_ : Word) (e : Export) (s : State), served s 1 = true ∧ s.flow.exp = some e) ∧
    (∃ (_ : Word) (_ : Word) (e : Export) (s : State), served s 1 = true ∧ s.flow.exp = some e) ∧
    (∃ (_ : Word) (_ : Word) (e : Export) (s : State), served s 1 = true ∧ s.flow.exp = some e) ∧
    (∃ (s : State), served s 1 = true) ∧
    (∃ (s : State), served s 1 = true) :=
  ⟨⟨.host, recorder Flow.init [], by decide +kernel⟩,
   ⟨.host, { recorder { Flow.init with lastSnap := some 0 } [] with tick := 60 * 32768 }, by decide +kernel⟩,
   ⟨.host, recorder { Flow.init with lastSnap := some 0 } [], by decide +kernel⟩,
   ⟨.host, recorder Flow.init [(FLOW.HEV_CODE, 0x8001)], by decide +kernel⟩,
   ⟨.host, up [], by decide +kernel⟩,
   ⟨.host, up [], by decide +kernel⟩,
   ⟨.host, up [(FLOW.FIND_BUSY, 1)], by decide +kernel⟩,
   ⟨recorder { Flow.init with recs := [⟨1, 5, 0, []⟩, ⟨1, 9, 1, []⟩], findSeq := 4 } [(FLOW.FIND_BUSY, 1), (FLOW.RD_CLASS, 1)], by decide +kernel⟩,
   ⟨recorder { Flow.init with recs := [⟨1, 5, 0, []⟩, ⟨1, 9, 1, []⟩], findSeq := 5 } [(FLOW.FIND_BUSY, 1), (FLOW.RD_CLASS, 1)], by decide +kernel⟩,
   ⟨recorder { Flow.init with recs := [⟨1, 5, 0, []⟩, ⟨1, 9, 1, []⟩], findSeq := 6 } [(FLOW.FIND_BUSY, 1), (FLOW.RD_CLASS, 1)], by decide +kernel⟩,
   ⟨recorder { Flow.init with recs := [⟨1, 5, 0, []⟩, ⟨1, 9, 1, []⟩], findSeq := 9 } [(FLOW.FIND_BUSY, 1), (FLOW.RD_CLASS, 1)], by decide +kernel⟩,
   ⟨recorder { Flow.init with recs := [⟨1, 5, 0, []⟩, ⟨1, 9, 1, []⟩], findSeq := 10 } [(FLOW.FIND_BUSY, 1), (FLOW.RD_CLASS, 1)], by decide +kernel⟩,
   ⟨recorder { Flow.init with recs := [⟨3, 5, 77, []⟩], findSeq := 5 } [(FLOW.FIND_BUSY, 1), (FLOW.RD_CLASS, 3)], by decide +kernel⟩,
   ⟨recorder Flow.init [(FLOW.FIND_BUSY, 1)], by decide +kernel⟩,
   ⟨.host, 6, recorder { Flow.init with recs := [⟨6, 5, 0, []⟩, ⟨6, 9, 1, []⟩] } [], by decide +kernel⟩,
   ⟨.host, 7, recorder { Flow.init with recs := [⟨1, 5, 0, []⟩, ⟨1, 9, 1, []⟩] } [], by decide +kernel⟩,
   ⟨.host, recorder { Flow.init with recs := [⟨1, 5, 0, []⟩, ⟨1, 9, 1, []⟩] } [], by decide +kernel⟩,
   ⟨.host, exporting .host 0 [], by decide +kernel⟩,
   ⟨.host, exporting .host 0 [], by decide +kernel⟩,
   ⟨.host, 0, exporting .host 0 [], by decide +kernel⟩,
   ⟨.host, 1, exporting .host 0 [], by decide +kernel⟩,
   ⟨.host, 0, up [], by decide +kernel⟩,
   ⟨recorder Flow.init [(SVC.ROLE, 1)], by decide +kernel⟩,
   ⟨exporting .host 0 [], by decide +kernel⟩,
   ⟨tool 1 [], by decide +kernel⟩,
   ⟨tool 1 [(TEST.TEST_RUN, 1)], by decide +kernel⟩,
   ⟨0, BitVec.ofNat 32 (exporting .tool 0 []).flow.ackCrc, ⟨.tool, [], [1, 2, 3], 0, [], 0⟩, exporting .tool 0 [], by decide +kernel⟩,
   ⟨1, 0, ⟨.tool, [], [1, 2, 3], 0, [], 0⟩, exporting .tool 0 [], by decide +kernel⟩,
   ⟨0, 0, ⟨.host, [], [1, 2, 3], 0, [], 0⟩, exporting .host 0 [], by decide +kernel⟩,
   ⟨exporting .tool 0 [], by decide +kernel⟩,
   ⟨exporting .host 0 [], by decide +kernel⟩⟩

theorem meets_ServiceSession :
    (∃ (s : State), slatiUp s = true) ∧
    (∃ (s : State), slatiUp s = true) ∧
    (∃ (s : State), slatiUp s = true) ∧
    (∃ (s : State), slatiUp s = true) ∧
    (∃ (s : State), slatiUp s = true) ∧
    (∃ (s : State), served s 0 = true) ∧
    (∃ (_ : Fin 256) (s : State), served s 0 = true) ∧
    (∃ (_ : Fin 256) (s : State), served s 0 = true) ∧
    (∃ (rate : Word) (c : Nat) (s : State), served s 0 = true ∧ c < 4 ∧ rate.toNat = 115200 * 2 ^ c) ∧
    (∃ (rate : Word) (c : Nat) (s : State), served s 0 = true ∧ c < 4 ∧ rate.toNat = 115200 * 2 ^ c) ∧
    (∃ (rate : Word) (s : State), served s 0 = true ∧ (∀ c < 4, rate.toNat ≠ 115200 * 2 ^ c)) ∧
    (∃ (s : State), slatiUp s = true ∧ s.svc.newRate = true) ∧
    (∃ (_ : Bool) (s : State), slatiUp s = true) ∧
    (∃ (_ : Bool) (s : State), slatiUp s = true) ∧
    (∃ (_ : Bool) (s : State), slatiUp s = true) ∧
    (∃ (_ : Fin 256) (s : State), served s 0 = true) ∧
    (∃ (_ : Fin 256) (s : State), served s 0 = true) ∧
    (∃ (_ : Fin 256) (s : State), served s 0 = true) ∧
    (∃ (_ : Fin 256) (s : State), served s 0 = true) ∧
    (∃ (_ : Fin 256) (s : State), served s 0 = true) ∧
    (∃ (_ : Fin 256) (s : State), served s 0 = true) ∧
    (∃ (_ : Word) (s : State), served s 0 = true ∧ s.on SVC.LOCKOUT = true) ∧
    (∃ (_ : Word) (s : State), served s 0 = true ∧ s.on SVC.LOCKOUT = false) ∧
    (∃ (_ : Word) (s : State), served s 0 = true ∧ s.on SVC.LOCKOUT = false) ∧
    (∃ (_ : Word) (s : State), served s 0 = true ∧ s.on SVC.LOCKOUT = false) ∧
    (∃ (role : Nat) (n : Nat) (at_ : Nat) (s : State), s.svc.nonce = some (role, n, at_)) ∧
    (∃ (role : Nat) (n : Nat) (at_ : Nat) (s : State), s.svc.nonce = some (role, n, at_)) ∧
    (∃ (s : State), s.svc.nonce = none) ∧
    (∃ (s : State), served s 0 = true) ∧
    (∃ (s : State), served s 0 = true) ∧
    (∃ (s : State), slatiUp s = true ∧ s.on SVC.SESSION = true) ∧
    (∃ (s : State), slatiUp s = true ∧ s.on SVC.SESSION = true) :=
  ⟨⟨up [], by decide +kernel⟩,
   ⟨up [(SYS.LC_STATE, 5)], by decide +kernel⟩,
   ⟨up [(SYS.SERIAL_LO, 9)], by decide +kernel⟩,
   ⟨up [(SYS.SERIAL_LO, 9)], by decide +kernel⟩,
   ⟨up [(SYS.REFUGE, 1), (SYS.RF_STEP, 2), (SYS.RF_CODE, 0x24), (SYS.RF_DETAIL, 9)], by decide +kernel⟩,
   ⟨up [(FLOW.CAIRN 15, 7)], by decide +kernel⟩,
   ⟨2, up [], by decide +kernel⟩,
   ⟨3, up [], by decide +kernel⟩,
   ⟨115200, 0, up [], by decide +kernel⟩,
   ⟨921600, 3, up [], by decide +kernel⟩,
   ⟨9600, up [], by decide +kernel⟩,
   ⟨{ up [(SVC.BAUD_NOW, 3)] with svc := { Service.init with newRate := true } }, by decide +kernel⟩,
   ⟨true, tool 2 [(TEST.TEST_RUN, 1), (RES.OWN_MON_HI, 0x60000006), (SVC.BAUD_NOW, 2), (SVC.PROTO, 2)], by decide +kernel⟩,
   ⟨false, tool 2 [(TEST.TEST_RUN, 1), (RES.OWN_MON_HI, 0x60000006), (SVC.BAUD_NOW, 2), (SVC.PROTO, 2)], by decide +kernel⟩,
   ⟨true, up [], by decide +kernel⟩,
   ⟨3, up [], by decide +kernel⟩,
   ⟨3, up [(SYS.LC_STATE, 0)], by decide +kernel⟩,
   ⟨0, up [], by decide +kernel⟩,
   ⟨1, up [(SVC.LOCKOUT, 1)], by decide +kernel⟩,
   ⟨4, tool 0 [], by decide +kernel⟩,
   ⟨255, tool 0 [], by decide +kernel⟩,
   ⟨0, up [(SVC.LOCKOUT, 1)], by decide +kernel⟩,
   ⟨0, up [], by decide +kernel⟩,
   ⟨0, { up [] with svc := { Service.init with nonce := some (1, 2, 0) } }, by decide +kernel⟩,
   ⟨0, late { up [] with svc := { Service.init with nonce := some (1, 2, 0) } }, by decide +kernel⟩,
   ⟨1, 2, 0, { up [] with svc := { Service.init with nonce := some (1, 2, 0) } }, by decide +kernel⟩,
   ⟨1, 2, 0, late { up [] with svc := { Service.init with nonce := some (1, 2, 0) } }, by decide +kernel⟩,
   ⟨up [], by decide +kernel⟩,
   ⟨tool 2 [(TEST.TEST_RUN, 1), (RES.OWN_MON_HI, 0x60000006), (SVC.BAUD_NOW, 2), (SVC.PROTO, 2)], by decide +kernel⟩,
   ⟨up [], by decide +kernel⟩,
   ⟨late (tool 2 [(TEST.TEST_RUN, 1), (RES.OWN_MON_HI, 0x60000006), (SVC.BAUD_NOW, 2), (SVC.PROTO, 2)]), by decide +kernel⟩,
   ⟨tool 2 [(TEST.TEST_RUN, 1), (RES.OWN_MON_HI, 0x60000006), (SVC.BAUD_NOW, 2), (SVC.PROTO, 2)], by decide +kernel⟩⟩

theorem meets_ServiceCommands :
    (∃ (_ : Fin 256) (_ : Fin 4096) (_ : Fin 1025) (s : State), served s 0 = true) ∧
    (∃ (_ : Fin 256) (_ : Fin 4096) (_ : Fin 1025) (s : State), served s 0 = true) ∧
    (∃ (_ : Fin 256) (_ : Fin 4096) (_ : Fin 1025) (s : State), served s 0 = true) ∧
    (∃ (_ : Fin 256) (_ : Fin 4096) (_ : Fin 1025) (s : State), served s 0 = true) ∧
    (∃ (_ : Fin 256) (_ : Fin 4096) (_ : Fin 1025) (s : State), served s 0 = true) ∧
    (∃ (_ : Fin 256) (_ : Fin 4096) (_ : Fin 1025) (s : State), served s 0 = true) ∧
    (∃ (_ : Fin 256) (_ : Fin 16) (_ : Word) (_ : Fin 1025) (s : State), served s 0 = true) ∧
    (∃ (_ : Fin 256) (_ : Fin 16) (_ : Word) (_ : Fin 1025) (s : State), served s 0 = true) ∧
    (∃ (_ : Fin 256) (_ : Fin 16) (_ : Word) (_ : Fin 1025) (s : State), served s 0 = true) ∧
    (∃ (_ : Fin 256) (_ : Fin 16) (_ : Word) (_ : Fin 1025) (s : State), served s 0 = true) ∧
    (∃ (_ : Fin 256) (_ : Fin 4096) (_ : Word) (s : State), served s 1 = true) ∧
    (∃ (_ : Fin 256) (_ : Fin 4096) (_ : Word) (s : State), served s 1 = true) ∧
    (∃ (_ : Fin 256) (_ : Fin 4096) (_ : Word) (s : State), served s 1 = true) ∧
    (∃ (_ : Fin 256) (_ : Fin 4096) (_ : Word) (s : State), served s 1 = true) ∧
    (∃ (_ : Fin 256) (_ : Fin 4096) (_ : Word) (s : State), served s 1 = true) ∧
    (∃ (_ : Fin 256) (_ : Fin 4096) (_ : Word) (s : State), served s 1 = true) ∧
    (∃ (_ : Fin 256) (_ : Fin 16) (_ : Word) (_ : Word) (s : State), served s 1 = true) ∧
    (∃ (_ : Fin 256) (_ : Fin 16) (_ : Word) (_ : Word) (s : State), served s 1 = true) ∧
    (∃ (_ : Fin 256) (_ : Fin 16) (_ : Word) (_ : Word) (s : State), served s 1 = true) ∧
    (∃ (_ : Fin 10000) (_ : Fin 100) (_ : Fin 100) (_ : Fin 100) (_ : Fin 100) (_ : Fin 100) (s : State), served s 1 = true) ∧
    (∃ (_ : Fin 10000) (_ : Fin 100) (_ : Fin 100) (_ : Fin 100) (_ : Fin 100) (_ : Fin 100) (s : State), served s 1 = true) ∧
    (∃ (s : State), served s 1 = true) ∧
    (∃ (s : State), served s 1 = true) ∧
    (∃ (s : State), served s 1 = true) ∧
    (∃ (_ : Fin 32) (_ : Fin 16) (_ : Fin 64) (s : State), served s 1 = true) ∧
    (∃ (_ : Fin 32) (_ : Fin 16) (_ : Fin 64) (s : State), served s 1 = true) ∧
    (∃ (_ : Fin 32) (_ : Fin 16) (_ : Fin 64) (s : State), served s 1 = true) ∧
    (∃ (_ : Fin 32) (_ : Fin 16) (_ : Fin 64) (s : State), served s 1 = true) ∧
    (∃ (_ : Fin 32) (_ : Fin 16) (_ : Fin 64) (s : State), served s 1 = true) ∧
    (∃ (_ : Fin 32) (_ : Fin 16) (_ : Fin 64) (s : State), served s 1 = true) ∧
    (∃ (_ : Fin 32) (_ : Fin 16) (_ : Fin 64) (s : State), served s 1 = true) ∧
    (∃ (_ : Fin 32) (_ : Fin 16) (_ : Fin 64) (s : State), served s 1 = true) ∧
    (∃ (_ : Fin 32) (_ : Fin 16) (_ : Fin 64) (s : State), served s 1 = true) ∧
    (∃ (_ : Fin 32) (_ : Fin 16) (_ : Fin 64) (s : State), served s 1 = true) ∧
    (∃ (_ : Fin 32) (_ : Fin 16) (_ : Fin 64) (s : State), served s 1 = true) ∧
    (∃ (x : TestName) (s : State), served s 1 = true ∧ testRefusal (taken s) x = none) ∧
    (∃ (x : TestName) (s : State), served s 1 = true ∧ testRefusal (taken s) x = none) ∧
    (∃ (x : TestName) (s : State), served s 1 = true ∧ testRefusal (taken s) x = none) ∧
    (∃ (x : TestName) (c : Nat) (s : State), served s 1 = true ∧ testRefusal (taken s) x = some c) ∧
    (∃ (x : TestName) (c : Nat) (s : State), served s 1 = true ∧ testRefusal (taken s) x = some c) ∧
    (∃ (x : TestName) (c : Nat) (s : State), served s 1 = true ∧ testRefusal (taken s) x = some c) ∧
    (∃ (_ : Bool) (_ : Int) (_ : Int) (_ : Option (Fin 4096)) (s : State), s.on TEST.TEST_RUN = true) ∧
    (∃ (_ : Bool) (_ : Int) (_ : Int) (_ : Option (Fin 4096)) (s : State), s.on TEST.TEST_RUN = true) ∧
    (∃ (_ : Bool) (_ : Int) (_ : Int) (_ : Option (Fin 4096)) (s : State), s.on TEST.TEST_RUN = true) ∧
    (∃ (s : State), served s 0 = true) ∧
    (∃ (s : State), served s 0 = true) ∧
    (∃ (s : State), commissions s = true) ∧
    (∃ (s : State), commissions s = true) ∧
    (∃ (s : State), commissions s = true) ∧
    (∃ (s : State), commissions s = true) ∧
    (∃ (_ : Src) (_ : Fin 16) (_ : Fin 65536) (s : State), busUp s = true ∧ s.hwLock pgTEST = false) ∧
    (∃ (_ : Src) (_ : Fin 16) (_ : Fin 65536) (s : State), busUp s = true ∧ s.hwLock pgTEST = false) ∧
    (∃ (_ : Src) (_ : Fin 16) (_ : Fin 65536) (s : State), busUp s = true ∧ s.hwLock pgTEST = false) :=
  ⟨⟨0x70, 0xFFC, 1, up [], by decide +kernel⟩,
   ⟨0x00, 0x044, 3, up [(SYS.RF_CODE, 9)], by decide +kernel⟩,
   ⟨0x68, 0x05C, 1, up [], by decide +kernel⟩,
   ⟨0, 2, 1, up [], by decide +kernel⟩,
   ⟨0, 0x028, 2, up [], by decide +kernel⟩,
   ⟨0, 0xFFC, 2, up [], by decide +kernel⟩,
   ⟨0x58, 1, 0xF8, 3, (up []).wr32 pgECN 1 0xF8 0x12345678, by decide +kernel⟩,
   ⟨0, 1, 0, 2, up [], by decide +kernel⟩,
   ⟨0x5A, 2, 0x1FF, 1, up [], by decide +kernel⟩,
   ⟨0, 0, 0, 0, up [], by decide +kernel⟩,
   ⟨0, 0x058, 20000, tool 1 [], by decide +kernel⟩,
   ⟨0x59, 0x044, 5, tool 1 [], by decide +kernel⟩,
   ⟨0xFF, 0, 5, tool 1 [], by decide +kernel⟩,
   ⟨0, 2, 5, tool 1 [], by decide +kernel⟩,
   ⟨0, 0x050, 5, tool 1 [], by decide +kernel⟩,
   ⟨0, 0, 5, tool 1 [(SYS.REFUGE, 1)], by decide +kernel⟩,
   ⟨0x58, 1, 0xFF, 0x12345678, tool 1 [], by decide +kernel⟩,
   ⟨0x5A, 2, 0, 0xFFFFFFFF, tool 1 [], by decide +kernel⟩,
   ⟨0x5A, 2, 0, 0, tool 1 [(SYS.REFUGE, 1)], by decide +kernel⟩,
   ⟨2024, 2, 29, 23, 59, 59, tool 1 [], by decide +kernel⟩,
   ⟨2023, 2, 29, 0, 0, 0, tool 1 [], by decide +kernel⟩,
   ⟨tool 1 [], by decide +kernel⟩,
   ⟨tool 1 [(SYS.REFUGE, 1)], by decide +kernel⟩,
   ⟨(tool 1 []).setAx 0 { Axis.init with vel := 1 }, by decide +kernel⟩,
   ⟨24, 3, 15, tool 1 [(RES.OWN_MON_HI, 0), (TEST.TP_SEL 7, 0x10020000)], by decide +kernel⟩,
   ⟨24, 3, 15, tool 1 [(RES.OWN_MON_HI, 0x10000000), (TEST.TP_SEL 7, 0x10020000)], by decide +kernel⟩,
   ⟨24, 3, 15, tool 1 [(RES.OWN_MON_HI, 0x40000000), (TEST.TP_SEL 7, 0x10020000)], by decide +kernel⟩,
   ⟨24, 3, 15, tool 1 [(RES.OWN_MON_HI, 0x50000000), (TEST.TP_SEL 7, 0x10020000)], by decide +kernel⟩,
   ⟨24, 3, 15, tool 1 [(RES.OWN_MON_HI, 0x60000000), (TEST.TP_SEL 7, 0x10020000)], by decide +kernel⟩,
   ⟨24, 3, 15, tool 1 [(RES.OWN_MON_HI, 0x70000000), (TEST.TP_SEL 7, 0x10020000)], by decide +kernel⟩,
   ⟨24, 0, 0, tool 1 [(RES.OWN_MON_HI, 0x60000000), (TEST.TP_SEL 7, 0x10020000)], by decide +kernel⟩,
   ⟨8, 1, 0, tool 1 [(RES.OWN_MON_HI, 0), (TEST.TP_SEL 7, 0x10020000)], by decide +kernel⟩,
   ⟨9, 1, 16, tool 1 [(RES.OWN_MON_HI, 0), (TEST.TP_SEL 7, 0x10020000)], by decide +kernel⟩,
   ⟨25, 1, 0, tool 1 [(RES.OWN_MON_HI, 0), (TEST.TP_SEL 7, 0x10020000)], by decide +kernel⟩,
   ⟨9, 9, 0, tool 1 [(RES.OWN_MON_HI, 0), (TEST.TP_SEL 7, 0x10020000)], by decide +kernel⟩,
   ⟨.supply, { tool 1 [] with saf := { Safety.init with saf := { Chan.init with lv := 0xC }, col := { Chan.init with lv := 0xC }, sealA := 0 } }, by decide +kernel⟩,
   ⟨.recorder, { tool 1 [] with saf := { Safety.init with saf := { Chan.init with lv := 0xC }, col := { Chan.init with lv := 0xC }, sealA := 0 } }, by decide +kernel⟩,
   ⟨.move 0, { tool 1 [(SYS.LC_STATE, lcDEPOT), (CYCD.STATE 0, stDEPOT)] with saf := { Safety.init with saf := { Chan.init with lv := 0x200C }, col := { Chan.init with lv := 0x200C }, sealA := 0x8000 } }, by decide +kernel⟩,
   ⟨.move 0, 4, tool 1 [], by decide +kernel⟩,
   ⟨.supply, 8, tool 1 [(TEST.TEST_RUN, 1)], by decide +kernel⟩,
   ⟨.gal 47, 5, tool 1 [], by decide +kernel⟩,
   ⟨true, 5, -5, some 4095, live [(TEST.TEST_RUN, 1), (TEST.TEST_CODE, 6), (TEST.TEST_ARG, 15)], by decide +kernel⟩,
   ⟨false, 2147483648, -2147483649, none, live [(TEST.TEST_RUN, 1), (TEST.TEST_CODE, 7), (TEST.TEST_OWN_DW, 1), (TEST.M_TEST, 1)], by decide +kernel⟩,
   ⟨true, 0, 0, none, live [(TEST.TEST_RUN, 1), (TEST.TEST_CODE, 5), (COLM.TEST_DUE, 1)], by decide +kernel⟩,
   ⟨tool 1 [(TEST.TEST_RUN, 1), (TEST.TEST_OWN_DW, 1)], by decide +kernel⟩,
   ⟨tool 1 [], by decide +kernel⟩,
   ⟨tool 2 [(SYS.LC_STATE, 1)], by decide +kernel⟩,
   ⟨tool 2 [(SYS.LC_STATE, 1)], by decide +kernel⟩,
   ⟨{ tool 2 [(SYS.LC_STATE, 1)] with svc := { Service.init with params := [(7, 50), (4, 1), (7, 9)] } }, by decide +kernel⟩,
   ⟨{ tool 2 [(SYS.LC_STATE, 1)] with svc := { Service.init with tcfg := [(2, 50), (0x7B, 300)] } }, by decide +kernel⟩,
   ⟨.host, 15, 0x3015, up [(RES.OWN_MON_HI, 0x50000000)], by decide +kernel⟩,
   ⟨.tool, 15, 0x300F, up [(RES.OWN_MON_HI, 0x50000000)], by decide +kernel⟩,
   ⟨.tool, 0, 0xFFFF, up [(RES.OWN_MON_LO, 6)], by decide +kernel⟩⟩

end Sys2Proof.Tests
end

section
/-! SUPPORT. The scope (R4, R6): the instances of each member, and what becomes of a write that nothing takes. A write is followed
from the bus through its page to the register, one lemma per way of being discarded. -/

namespace Sys2Proof.Machine

variable {s : State} {src : Src} {pg off : Nat}

/-! The family (R4). -/

/-- The channels present are the light ones from 0 and the heavy ones from 32. -/
theorem filter_hasCh (s : State) :
    (List.range 64).filter s.hasCh = List.range s.nLight ++ (List.range s.nHeavy).map (32 + ·) := by
  have hch : s.hasCh = fun c => c < s.nLight || (32 ≤ c && c < 32 + s.nHeavy) := rfl
  rw [hch]
  unfold State.nLight State.nHeavy
  cases s.member <;> decide

/-! The way to the bus. -/

/-- REGISTER_WRITE is the write on the bus. -/
theorem gives_registerWrite {a : Word} {wd : Width} {v : BitVec 64} {P : State → Prop} :
    Gives (.registerWrite src a wd v) s P ↔ P (busWrite s src a.toNat (widthBytes wd) v.toNat) :=
  ⟨fun ⟨_, ht, hP⟩ => by cases ht; exact hP, fun hP => ⟨_, rfl, hP⟩⟩

theorem toNat_regAddr (hpg : pg < 256) (hoff : off < 0x1000) : (regAddr pg off).toNat = 0x40000000 + pg * 0x1000 + off := by
  rw [regAddr, BitVec.toNat_ofNat]
  exact Nat.mod_eq_of_lt (by omega)

/-- REGISTER_WRITE of the whole word of a register is the write of that word. -/
theorem gives_registerWrite_word {v : BitVec 64} {P : State → Prop} (hpg : pg < 256) (hoff : off < 0x1000) :
    Gives (.registerWrite src (regAddr pg off) .w4 v) s P ↔ P (wordWrite s src pg off v.toNat) := by
  rw [gives_registerWrite, toNat_regAddr hpg hoff]
  rfl

theorem widthBytes_eq_eight {wd : Width} : widthBytes wd = 8 ↔ wd = .w8 := by
  cases wd <;> decide

/-! Addresses that no page answers (R75). -/

/-- Outside the interface, or while it is off or without its clock, a write does nothing. -/
theorem busWrite_unheard {addr n val : Nat} (h : addr < 0x40000000 ∨ 0x50000000 ≤ addr ∨ busUp s = false) :
    busWrite s src addr n val = s := by
  unfold busWrite
  rw [if_pos (by rcases h with h | h | h <;> simp [h])]

/-- Outside both windows a write counts on page SYS, a 64-bit one as its two halves (R75, R88). -/
theorem busWrite_between {addr n val : Nat} (hb : busUp s = true) (h1 : 0x40100000 ≤ addr) (h2 : addr < 0x50000000)
    (h3 : ¬ (0x48000000 ≤ addr ∧ addr < 0x48200000)) :
    busWrite s src addr n val = if n = 8 ∧ addr % 8 = 0 then (s.adj pgSYS).adj pgSYS else s.adj pgSYS := by
  have hlow : ¬ addr < 0x40000000 := by omega
  have hhigh : ¬ 0x50000000 ≤ addr := by omega
  have hpages : ¬ addr < 0x40100000 := by omega
  unfold busWrite
  simp [hb, hlow, hhigh, hpages, h3]

/-! Absent pages (R6). -/

@[simp] theorem hasPage_adj (pg q : Nat) : (s.adj q).hasPage pg = s.hasPage pg := rfl

/-- The aligned word of an access lies in the page of its address. -/
theorem pgOf_busWr (a n val : Nat) : pgOf (busWr src a n val).addr = a / 0x1000 := by
  show (a - a % 4) / 0x1000 = a / 0x1000
  omega

theorem pageWrite_absentPage {a n val : Nat} (h : s.hasPage (a / 0x1000) = false) : pageWrite s (busWr src a n val) = s.adj pgSYS := by
  simp [pageWrite, pgOf_busWr, h]

/-- A write to an absent page counts on page SYS, a 64-bit one as its two halves, which lie in one page. -/
theorem busWrite_absentPage {addr n val : Nat} (hb : busUp s = true) (h1 : 0x40000000 ≤ addr) (h2 : addr < 0x40100000)
    (hp : s.hasPage ((addr - 0x40000000) / 0x1000) = false) :
    busWrite s src addr n val = if n = 8 ∧ addr % 8 = 0 then (s.adj pgSYS).adj pgSYS else s.adj pgSYS := by
  have hlow : ¬ addr < 0x40000000 := by omega
  have hhigh : ¬ 0x50000000 ≤ addr := by omega
  have halign : (addr - 0x40000000) % 8 = addr % 8 := by omega
  have hnext : addr % 8 = 0 → (addr - 0x40000000 + 4) / 0x1000 = (addr - 0x40000000) / 0x1000 := by omega
  unfold busWrite
  simp only [hb, hlow, hhigh, h2, halign, Bool.not_true, decide_false, Bool.or_self, Bool.false_eq_true, if_false, if_true,
    Bool.and_eq_true, decide_eq_true_eq]
  split
  next hwide => rw [pageWrite_absentPage hp, pageWrite_absentPage (by rw [hasPage_adj, hnext hwide.2, hp])]
  next => exact pageWrite_absentPage hp

/-- An absent page reads as zero. -/
theorem readWord_absentPage (h : s.hasPage pg = false) (hoff : off < 0x1000) : s.readWord (pg * 0x1000 + off) = 0 := by
  simp [State.readWord, pgOf_word hoff, h]

theorem irqLine_absentPage (h : s.hasPage pg = false) : s.irqLine pg = false := by
  simp [State.irqLine, h]

/-! Absent instances in a page of several (R6). -/

/-- The fields of absent instances read as zero. -/
theorem readWord_absentInst {addr : Nat} (h : s.hasInst addr = false) : s.readWord addr = 0 := by
  simp [State.readWord, h]

/-- The offsets of a page at which its instances have their registers: doorways in CYC and LVOL, channels in GAL. -/
def instOffset (pg off : Nat) : Prop :=
  (pg = pgCYC ∧ 0x200 ≤ off ∧ off < 0x600) ∨ (pg = pgLVOL ∧ 0x100 ≤ off ∧ off < 0x300) ∨ (pg = pgGAL ∧ 0x100 ≤ off ∧ off < 0x700)

theorem instOffset_of_absent (hoff : off < 0x1000) (h : s.hasInst (pg * 0x1000 + off) = false) : instOffset pg off := by
  unfold State.hasInst at h
  simp only [pgOf_word hoff, offOf_word hoff, Bool.and_eq_true, decide_eq_true_eq] at h
  unfold instOffset
  split at h
  next hcyc => omega
  next =>
    split at h
    next hvol => omega
    next =>
      split at h
      next hgal => omega
      next => cases h

/-- A field that lies within its 32-bit register is reached by a write of the whole word. -/
theorem bitsOf_wholeWord_ne_zero {lo w : Nat} (hlo : lo < 32) (hw : 0 < w) : bitsOf 0xFFFFFFFF lo w ≠ 0 := by
  have hbit : (bitsOf (2 ^ 32 - 1) lo w).testBit 0 = true := by
    rw [bitsOf, Nat.testBit_mod_two_pow, ← Nat.shiftRight_eq_div_pow, Nat.testBit_shiftRight, Nat.testBit_two_pow_sub_one]
    simp [hlo, hw]
  intro h0
  rw [show 2 ^ 32 - 1 = 0xFFFFFFFF from rfl, h0] at hbit
  simp at hbit

/-- A field lies within its register: its lowest bit below 32, its width not 0. -/
def Desc.fits (d : Desc) : Prop := d.reg.lo < 32 ∧ 0 < d.reg.w

theorem fits_of_mem_tableCYCD (n : Nat) : ∀ d ∈ tableCYCD n, d.fits := by
  simp [tableCYCD, tableCYCD0, tableCYCD1, Desc.fits, roD, rwD]

theorem fits_of_mem_tableLVOLD (n : Nat) : ∀ d ∈ tableLVOLD n, d.fits := by
  simp [tableLVOLD, tableLVOLD0, tableLVOLD1, Desc.fits, roD]

theorem fits_of_mem_tableGALC (n : Nat) : ∀ d ∈ tableGALC n, d.fits := by
  simp [tableGALC, tableGALC0, Desc.fits, roD, rwD]

theorem tableAt_CYC (off : Nat) : tableAt pgCYC off =
    if off < 0x200 then tableCYC else if off < 0x600 then tableCYCD ((off - 0x200) / 0x80) else [] := rfl

theorem tableAt_LVOL (off : Nat) : tableAt pgLVOL off =
    if off < 0x100 then tableLVOL else if off < 0x300 then tableLVOLD ((off - 0x100) / 0x40) else [] := rfl

theorem tableAt_GAL (off : Nat) : tableAt pgGAL off =
    if off < 0x100 then tableGAL else if off < 0x700 then tableGALC ((off - 0x100) / 0x20) else [] := rfl

theorem fits_of_mem_tableAt (h : instOffset pg off) : ∀ d ∈ tableAt pg off, d.fits := by
  rcases h with ⟨rfl, h1, h2⟩ | ⟨rfl, h1, h2⟩ | ⟨rfl, h1, h2⟩
  · have ht : tableAt pgCYC off = tableCYCD ((off - 0x200) / 0x80) := by rw [tableAt_CYC, if_neg (Nat.not_lt.mpr h1), if_pos h2]
    exact ht ▸ fits_of_mem_tableCYCD _
  · have ht : tableAt pgLVOL off = tableLVOLD ((off - 0x100) / 0x40) := by rw [tableAt_LVOL, if_neg (Nat.not_lt.mpr h1), if_pos h2]
    exact ht ▸ fits_of_mem_tableLVOLD _
  · have ht : tableAt pgGAL off = tableGALC ((off - 0x100) / 0x20) := by rw [tableAt_GAL, if_neg (Nat.not_lt.mpr h1), if_pos h2]
    exact ht ▸ fits_of_mem_tableGALC _

theorem mem_rowsAt_instOffset {d : Desc} (hoff : off < 0x1000) (h : instOffset pg off) (hd : d ∈ rowsAt (pg * 0x1000 + off)) :
    d ∈ tableAt pg off := by
  have hblock : ¬ off < 0x040 := by unfold instOffset at h; omega
  rw [rowsAt, pgOf_word hoff, offOf_word hoff, if_neg hblock] at hd
  exact (List.mem_filter.mp hd).1

/-- A whole word at a register that instances have meets one of its fields. -/
theorem any_rowsAt_reached (hoff : off < 0x1000) (h : instOffset pg off) (hr : rowsAt (pg * 0x1000 + off) ≠ []) :
    (rowsAt (pg * 0x1000 + off)).any (fun d => bitsOf 0xFFFFFFFF d.reg.lo d.reg.w != 0) = true := by
  obtain ⟨d, hd⟩ := List.exists_mem_of_ne_nil _ hr
  obtain ⟨hlo, hw⟩ := fits_of_mem_tableAt h d (mem_rowsAt_instOffset hoff h hd)
  exact List.any_eq_true.mpr ⟨d, hd, bne_iff_ne.mpr (bitsOf_wholeWord_ne_zero hlo hw)⟩

/-- A whole word written to a field of absent instances is discarded. -/
theorem regWrite_absentInst {v : Nat} (hoff : off < 0x1000) (hi : s.hasInst (pg * 0x1000 + off) = false)
    (hr : rowsAt (pg * 0x1000 + off) ≠ []) : regWrite s (wordWr src pg off v) = (s, true) := by
  have hinst := instOffset_of_absent hoff hi
  have hind : ¬ (0x030 ≤ off ∧ off < 0x03C) := by unfold instOffset at hinst; omega
  have hany := any_rowsAt_reached hoff hinst hr
  unfold regWrite
  simp [offOf_word hoff, hind, hi, hany]

/-- A write to a register of instances that no test holds passes its page: no such page is an axis, none of the registers GC_ON_HI. -/
theorem pageWrite_instOffset {v : Nat} (hoff : off < 0x1000) (h : instOffset pg off) (hp : s.hasPage pg = true)
    (ht : testHolds s (cycOf off) = false) :
    pageWrite s (wordWr src pg off v) = counted pg (regWrite s (wordWr src pg off v)) := by
  have htest : testPage s src pg = false := by
    have hax : ¬ (0x10 ≤ pg ∧ pg < 0x20) := by simp only [instOffset, pgCYC, pgLVOL, pgGAL] at h; omega
    simp only [testPage, Bool.and_eq_false_iff, decide_eq_false_iff_not]
    omega
  have hgal : ¬ (pg = pgGAL ∧ pg * 0x1000 + off = GAL.GC_ON_HI.addr) := by
    simp only [instOffset, pgCYC, pgLVOL, pgGAL] at h
    simp only [pgGAL]
    omega
  unfold pageWrite
  simp only [pgOf_word hoff, offOf_word hoff, hp, htest, ht, Bool.and_false, Bool.not_true, Bool.false_eq_true, if_false]
  rw [if_neg]
  simp only [Bool.and_eq_true, decide_eq_true_eq]
  exact fun hc => hgal hc.1

/-- A whole word written to a field of absent instances counts on the page. -/
theorem wordWrite_absentInst {v : Nat} (hb : busUp s = true) (hpg : pg < 256) (hoff : off < 0x1000) (h4 : off % 4 = 0)
    (hp : s.hasPage pg = true) (hi : s.hasInst (pg * 0x1000 + off) = false) (hr : rowsAt (pg * 0x1000 + off) ≠ [])
    (ht : testHolds s (cycOf off) = false) : wordWrite s src pg off v = s.adj pg := by
  rw [wordWrite_eq hpg hoff h4, if_pos hb, pageWrite_instOffset hoff (instOffset_of_absent hoff hi) hp ht, regWrite_absentInst hoff hi hr]
  rfl

/-! Registers of the common header that no write changes (R78, R88). -/

/-- PG_ID, PG_VER, PG_STATUS and the four counters of the common header: registers without a writable field. -/
def readOnlyOffsets : List Nat := [0x000, 0x004, 0x010, 0x01C, 0x020, 0x024, 0x02C]

theorem readOnlyOffsets_spec (h : off ∈ readOnlyOffsets) :
    off < 0x030 ∧ off % 4 = 0 ∧ off ≠ 0x008 ∧ off ∉ [0x00C, 0x014, 0x028] := by
  revert off
  decide

/-- The writable fields of the common header stand in PG_CTRL, PG_IRQ_EN and PG_LOCK (R78). -/
theorem tableHDR_writable (pg : Nat) :
    ∀ d ∈ tableHDR pg, d.acc = .ro ∨ offOf d.reg.addr ∈ [0x00C, 0x014, 0x028] := by
  cases he : enWritable pg <;> simp [tableHDR, he, roD, rwD, offOf]

theorem mem_rowsAt_header {d : Desc} (hoff : off < 0x040) (h8 : off ≠ 0x008) :
    d ∈ rowsAt (pg * 0x1000 + off) ↔ d ∈ tableHDR pg ∧ d.reg.addr = pg * 0x1000 + off := by
  have hlt : off < 0x1000 := by omega
  rw [rowsAt, pgOf_word hlt, offOf_word hlt, if_pos hoff, if_neg h8, List.append_nil, List.mem_filter, beq_iff_eq]

theorem rowsAt_readOnly {d : Desc} (h : off ∈ readOnlyOffsets) (hd : d ∈ rowsAt (pg * 0x1000 + off)) : d.acc = .ro := by
  obtain ⟨hoff, -, h8, hw⟩ := readOnlyOffsets_spec h
  obtain ⟨hd, haddr⟩ := (mem_rowsAt_header (by omega) h8).mp hd
  refine (tableHDR_writable pg d hd).resolve_right ?_
  rwa [haddr, offOf_word (by omega)]

/-- Each of these registers holds a field. -/
theorem rowsAt_readOnly_ne_nil (hpg : pg < 128) (h : off ∈ readOnlyOffsets) : rowsAt (pg * 0x1000 + off) ≠ [] := by
  obtain ⟨hoff, -, h8, -⟩ := readOnlyOffsets_spec h
  have hfield : ∃ d ∈ tableHDR pg, d.reg.addr = off + pg % 128 * 0x1000 := by
    simp only [readOnlyOffsets, List.mem_cons, List.not_mem_nil, or_false] at h
    rcases h with rfl | rfl | rfl | rfl | rfl | rfl | rfl <;> simp [tableHDR, roD]
  obtain ⟨d, hd, haddr⟩ := hfield
  exact List.ne_nil_of_mem ((mem_rowsAt_header (by omega) h8).mpr ⟨hd, by omega⟩)

/-- A whole word written to a register that holds fields and no writable one is discarded. -/
theorem storeWord_readOnly {ru : Rules} {w : Wr} (hm : w.mask = 0xFFFFFFFF) (ha : w.viaAlias = false) (ho : w.odd = false)
    (hr : rowsAt w.addr ≠ []) (hro : (rowsAt w.addr).all (·.acc = .ro) = true) : storeWord ru s w = (s, true) := by
  unfold storeWord
  extract_lets rows
  split
  next => simp [ha, hr, hro]
  next => simp [hm, ha, ho, hro]

theorem wideHi_header (hoff : off < 0x050) : wideHi pg off = false := by
  unfold wideHi
  split
  next => simp only [Bool.or_eq_false_iff, decide_eq_false_iff_not]; omega
  next =>
    split
    next => simp only [Bool.and_eq_false_iff, decide_eq_false_iff_not]; omega
    next => split <;> simp only [Bool.or_eq_false_iff, Bool.and_eq_false_iff, decide_eq_false_iff_not] <;> omega

/-- A whole word written to such a register is discarded: the register is below the indirect pair, no command, no half of a 64-bit value
and none that pages TEST, RES and CRAWL treat apart, so that the word goes to `storeWord`, which takes none of it. -/
theorem regWrite_readOnly {v : Nat} (hpg : pg < 128) (h : off ∈ readOnlyOffsets) (hi : s.hasInst (pg * 0x1000 + off) = true) :
    regWrite s (wordWr src pg off v) = (s, true) := by
  obtain ⟨hoff, -⟩ := readOnlyOffsets_spec h
  have hlt : off < 0x1000 := by omega
  have hind : ¬ 0x030 ≤ off := by omega
  have htest : ¬ 0x050 ≤ off := by omega
  have hres : ¬ 0x054 ≤ off := by omega
  have hro : ∀ d ∈ rowsAt (pg * 0x1000 + off), d.acc = .ro := fun d hd => rowsAt_readOnly h hd
  have hwo : (rowsAt (pg * 0x1000 + off)).any (·.acc = .wo) = false := List.any_eq_false.mpr fun d hd => by simp [hro d hd]
  have hmap : (rowsAt (pg * 0x1000 + off)).any (fun d => d.reg.addr = pg * 0x1000 + off && d.acc = .rwv) = false :=
    List.any_eq_false.mpr fun d hd => by simp [hro d hd]
  have hall : ((rowsAt (pg * 0x1000 + off)).filter (fun d => bitsOf 0xFFFFFFFF d.reg.lo d.reg.w != 0)).all (·.acc = .ro) = true :=
    List.all_eq_true.mpr fun d hd => by simp [hro d (List.mem_filter.mp hd).1]
  have hstore : storeWord (pageRules pg off) s (wordWr src pg off v) = (s, true) :=
    storeWord_readOnly rfl rfl rfl (rowsAt_readOnly_ne_nil hpg h) (List.all_eq_true.mpr fun d hd => by simp [hro d hd])
  unfold regWrite
  simp only [pgOf_word hlt, offOf_word hlt, hi, hwo, hmap, hall, hstore, hind, htest, hres,
    wideHi_header (show off < 0x050 by omega), wideHi_header (show off - 4 < 0x050 by omega)]
  simp

/-- The pages assigned lie below 0x80 (R76). -/
theorem lt_of_hasPage (h : s.hasPage pg = true) : pg < 128 := by
  refine Nat.lt_of_not_le fun hge => ?_
  have hne : ∀ q < 128, pg ≠ q := fun q hq => by omega
  have hlt : ∀ q ≤ 128, ¬ pg < q := fun q hq => by omega
  have hle : ∀ q < 128, ¬ pg ≤ q := fun q hq => by omega
  simp [State.hasPage, hne, hlt, hle, pgTRV, pgLANT, pgLVOL, pgGAL, pgCRAWL, pgFIO, pgFLOW, pgSVC, pgTEST, pgRES] at h

/-- A whole word written to such a register counts on its page. -/
theorem wordWrite_readOnly {v : Nat} (hh : hears s src pg off = true) (h : off ∈ readOnlyOffsets) :
    wordWrite s src pg off v = s.adj pg := by
  obtain ⟨-, hp, hi, -⟩ := hears_iff.mp hh
  obtain ⟨hoff, h4, -⟩ := readOnlyOffsets_spec h
  have hpg := lt_of_hasPage hp
  have hgal : pg * 0x1000 + off ≠ GAL.GC_ON_HI.addr := by
    show pg * 0x1000 + off ≠ 0x40048
    omega
  rw [wordWrite_hears hh (by omega) (by omega) h4 (.inr hgal), regWrite_readOnly hpg h hi]
  rfl

end Sys2Proof.Machine
end

section
/-! PROOFS. The statements of the scope. -/

namespace Sys2Proof.Machine

/-- Settles O6: each number of the table is a match on the member, and the channels follow their two counts. -/
theorem familyMembers : Obligations.FamilyMembers := by
  intro s
  rw [filter_hasCh]
  unfold partNumber State.nD State.nS State.nH State.nC State.nLight State.nHeavy
  refine ⟨?_, ?_, ?_, ?_⟩ <;> intro h <;> rw [h] <;> decide

/-- Settles O8: a write is discarded by an absent page, between the windows, at a register without a writable field, outside the interface
or by absent instances, and what is absent reads as zero. -/
theorem discardedWriteCounts : Obligations.DiscardedWriteCounts := by
  refine ⟨?_, ?_, ?_, ?_, ?_, ?_, ?_⟩
  · intro src a wd v s hb h1 h2 hp
    simpa only [gives_registerWrite, widthBytes_eq_eight, State.adj] using busWrite_absentPage (n := widthBytes wd) hb h1 h2 hp
  · intro src a wd v s hb h1 h2 h3
    simpa only [gives_registerWrite, widthBytes_eq_eight, State.adj] using busWrite_between (n := widthBytes wd) hb h1 h2 h3
  · intro src pg off v s hh hpg hoff
    exact (gives_registerWrite_word hpg (by have := readOnlyOffsets_spec hoff; omega)).mpr (wordWrite_readOnly hh hoff)
  · intro src a wd v s h
    exact gives_registerWrite.mpr (busWrite_unheard h)
  · intro src pg off v s hb hpg hoff h4 hp hi hr ht
    exact (gives_registerWrite_word hpg hoff).mpr (wordWrite_absentInst hb hpg hoff h4 hp hi hr ht)
  · intro pg s hp
    exact ⟨fun off hoff => readWord_absentPage hp hoff, irqLine_absentPage hp⟩
  · intro addr s hi
    exact readWord_absentInst hi

end Sys2Proof.Machine
end

section
/-! SUPPORT. Commands of AX_CMD (R93, R103, R107, R109 to R111): what becomes of the queue of an axis, of the registers that show it and of
the counters of discarded entries. -/

namespace Sys2Proof.Machine

variable {s : State} {src : Src} {n : Nat}

/-! An axis put back and shown. -/

@[simp] theorem ax_setAx_self (s : State) (n : Nat) (a : Axis) : (s.setAx n a).ax n = a := mapFind_put_self ..

theorem ax_congr {t : State} (h : t.axes = s.axes) (n : Nat) : t.ax n = s.ax n := congrArg (mapFind Axis.init n) h

@[simp] theorem putAx_ax (s : State) (n : Nat) (a : Axis) : (putAx s n a).ax n = a :=
  (ax_congr (within_axShow.axes rfl) n).trans (ax_setAx_self s n a)

/-- Showing an axis writes the length of its queue and whether it is empty, and none of the fields it writes afterwards is one of these two. -/
theorem get_axShow_queue {r : Reg} (hr : r = AX.MQ_COUNT n ∨ r = AX.Q_EMPTY n) :
    ∃ u : State, (axShow s n).get r =
      ((u.set (AX.MQ_COUNT n) (s.ax n).queue.length).setB (AX.Q_EMPTY n) (s.ax n).queue.isEmpty).get r := by
  unfold axShow
  extract_lets a moving um kind s1 s2 s3 s4 u
  refine ⟨u, (State.get_set_other _ ?_ _).trans <| (get_setB_other ?_ _).trans <| (get_setB_other ?_ _).trans <|
    (get_setB_other ?_ _).trans <| (get_setB_other ?_ _).trans <| (get_setBit_other ?_ _ _).trans <| (get_setBit_other ?_ _ _).trans <|
    (get_setB_other ?_ _).trans <| (get_setB_other ?_ _).trans <| (State.get_set_other _ ?_ _).trans <| (State.get_set_other _ ?_ _).trans <|
    (State.get_set_other _ ?_ _).trans <| (get_setB_other ?_ _).trans (get_setB_other ?_ _)⟩
  all_goals rcases hr with rfl | rfl <;> simp only [Reg.key] <;> omega

theorem get_axShow_mqCount (s : State) (n : Nat) : (axShow s n).get (AX.MQ_COUNT n) = (s.ax n).queue.length % 16 := by
  obtain ⟨u, h⟩ := get_axShow_queue (s := s) (n := n) (.inl rfl)
  rw [h, get_setB_other (by simp only [Reg.key]; omega), State.get_set_self]
  rfl

theorem on_axShow_qEmpty (s : State) (n : Nat) : (axShow s n).on (AX.Q_EMPTY n) = (s.ax n).queue.isEmpty := by
  obtain ⟨u, h⟩ := get_axShow_queue (s := s) (n := n) (.inr rfl)
  rw [on_of_get h, on_setB_self Nat.one_ne_zero]

theorem get_putAx_mqCount (s : State) (n : Nat) (a : Axis) : (putAx s n a).get (AX.MQ_COUNT n) = a.queue.length % 16 := by
  rw [putAx, get_axShow_mqCount, ax_setAx_self]

theorem on_putAx_qEmpty (s : State) (n : Nat) (a : Axis) : (putAx s n a).on (AX.Q_EMPTY n) = a.queue.isEmpty := by
  rw [putAx, on_axShow_qEmpty, ax_setAx_self]

/-! The queue flushed (R107). -/

/-- A counter counts several events and stops at its largest value (R80). -/
theorem get_countBy_self (s : State) (r : Reg) (k : Nat) : (s.countBy r k).get r = min (s.get r + k) (2 ^ r.w - 1) := by
  rw [State.countBy, State.setSat, State.get_set_self, sat, Nat.mod_eq_of_lt (by have := Nat.two_pow_pos r.w; omega)]

theorem get_countBy_other {r q : Reg} (h : r.key ≠ q.key) (k : Nat) : (s.countBy r k).get q = s.get q := State.get_set_other s h _

@[simp] theorem axFlush_ax (s : State) (n : Nat) : (axFlush s n).ax n = { s.ax n with queue := [] } := putAx_ax ..

@[simp] theorem on_axFlush_qEmpty (s : State) (n : Nat) : (axFlush s n).on (AX.Q_EMPTY n) = true := on_putAx_qEmpty ..

/-- Each entry that FLUSH discards counts in the axis' own counter. -/
theorem get_axFlush_mqFlushCnt (s : State) (n : Nat) :
    (axFlush s n).get (AX.MQ_FLUSH_CNT n) = min (s.get (AX.MQ_FLUSH_CNT n) + (s.ax n).queue.length) (2 ^ 32 - 1) := by
  rw [axFlush, within_putAx.get (key_AX_MQ_FLUSH_CNT n) (by decide +kernel), get_countBy_other (by simp only [Reg.key]; omega),
    get_countBy_self]

/-- And in the header counter of the page. -/
theorem get_axFlush_pgDropCnt (s : State) (n : Nat) :
    (axFlush s n).get (HDR.PG_DROP_CNT (pgAX n)) =
      min (s.get (HDR.PG_DROP_CNT (pgAX n)) + (s.ax n).queue.length) (2 ^ 32 - 1) := by
  rw [axFlush, within_putAx.get (key_HDR_PG_DROP_CNT (pgAX n)) (by decide +kernel), get_countBy_self,
    get_countBy_other (by simp only [Reg.key]; omega)]

/-! The target of a push (R103, R114, R126). -/

@[simp] theorem axTarget_ax (s : State) (n m : Nat) (x : Int) : (axTarget s n x).1.ax m = s.ax m := ax_congr (within_axTarget.axes rfl) m

/-- The target of an entry depends on the virtual limits and on the limits of the axis in force, and on no counter or queue. -/
theorem axTarget_target_congr {t : State} (hlo : vlimLo t n = vlimLo s n) (hhi : vlimHi t n = vlimHi s n)
    (hl : (t.ax n).limits = (s.ax n).limits) (hl0 : (t.ax n).limitLo = (s.ax n).limitLo) (hl1 : (t.ax n).limitHi = (s.ax n).limitHi)
    (x : Int) : (axTarget t n x).2.1 = (axTarget s n x).2.1 := by
  have hcount : ∀ (c : Prop) [Decidable c] (u : State), (if c then u else u.count (AX.CLAMP_CNT n)).ax n = u.ax n := fun c _ u => by
    split <;> rfl
  simp only [axTarget, hcount, hlo, hhi, hl, hl0, hl1]

theorem vlimLo_axFlush (s : State) (n : Nat) : vlimLo (axFlush s n) n = vlimLo s n := by
  rw [vlimLo, State.getS64, State.get64, within_axFlush.get (key_AX_AX_VLIM_LO_HI n) (by decide +kernel),
    within_axFlush.get (key_AX_AX_VLIM_LO_LO n) (by decide +kernel)]
  rfl

theorem vlimHi_axFlush (s : State) (n : Nat) : vlimHi (axFlush s n) n = vlimHi s n := by
  rw [vlimHi, State.getS64, State.get64, within_axFlush.get (key_AX_AX_VLIM_HI_HI n) (by decide +kernel),
    within_axFlush.get (key_AX_AX_VLIM_HI_LO n) (by decide +kernel)]
  rfl

theorem axTarget_axFlush_target (s : State) (n : Nat) (x : Int) : (axTarget (axFlush s n) n x).2.1 = (axTarget s n x).2.1 :=
  axTarget_target_congr (vlimLo_axFlush s n) (vlimHi_axFlush s n) (by rw [axFlush_ax]) (by rw [axFlush_ax]) (by rw [axFlush_ax]) x

/-! PUSH: refused, dropped or queued (R103, R107, R110). -/

/-- The state in which a push finds the queue that its entry joins: a REPLACE entry finds it flushed (R110). -/
def pushFound (s : State) (n blend : Nat) : State := if blend = 2 then axFlush s n else s

theorem pushFound_queue (s : State) (n blend : Nat) :
    ((pushFound s n blend).ax n).queue = if blend = 2 then [] else (s.ax n).queue := by
  unfold pushFound
  split
  next => rw [axFlush_ax]
  next => rfl

theorem pushFound_target (s : State) (n blend : Nat) (x : Int) : (axTarget (pushFound s n blend) n x).2.1 = (axTarget s n x).2.1 := by
  unfold pushFound
  split
  next => exact axTarget_axFlush_target s n x
  next => rfl

theorem axPush_eq (s : State) (n : Nat) (e : Entry) : axPush s n e =
    if pushRefused s n e.prf then (s, true)
    else
      let u := pushFound s n e.blend
      let p := axTarget u n e.target
      if 8 ≤ (u.ax n).queue.length then (u.countDrop (pgAX n) (AX.MQ_DROP_CNT n), false)
      else (putAx p.1 n { p.1.ax n with queue := (p.1.ax n).queue ++ [{ e with target := p.2.1 }] }, p.2.2) := rfl

theorem axPush_refused {e : Entry} (h : pushRefused s n e.prf = true) : axPush s n e = (s, true) := by
  rw [axPush_eq, if_pos h]

theorem axPush_full {e : Entry} (h : pushRefused s n e.prf = false) (hb : e.blend ≠ 2) (hq : 8 ≤ (s.ax n).queue.length) :
    axPush s n e = (s.countDrop (pgAX n) (AX.MQ_DROP_CNT n), false) := by
  have hfound : pushFound s n e.blend = s := if_neg hb
  rw [axPush_eq, if_neg (ne_true_of_eq_false h), hfound]
  exact if_pos hq

/-- A push that finds room: the entry stands last with its target inside the limits, and MQ_COUNT shows it. -/
theorem axPush_queued {e : Entry} (h : pushRefused s n e.prf = false) (hq : e.blend = 2 ∨ (s.ax n).queue.length < 8) :
    let t := (axPush s n e).1
    let found := if e.blend = 2 then [] else (s.ax n).queue
    (t.ax n).queue = found ++ [{ e with target := (axTarget s n e.target).2.1 }] ∧ t.get (AX.MQ_COUNT n) = found.length + 1 := by
  intro t found
  have hfound : ((pushFound s n e.blend).ax n).queue = found := pushFound_queue s n e.blend
  have hroom : found.length < 8 := by
    by_cases hb : e.blend = 2
    · simp [found, hb]
    · simpa [found, hb] using hq
  have hfull : ¬ 8 ≤ ((pushFound s n e.blend).ax n).queue.length := by rw [hfound]; omega
  obtain ⟨p, a, ht, ha⟩ : ∃ p a, t = putAx p n a ∧ a.queue = found ++ [{ e with target := (axTarget s n e.target).2.1 }] := by
    simp only [t, axPush_eq, h, hfull, Bool.false_eq_true, if_false]
    exact ⟨_, _, rfl, by rw [axTarget_ax, hfound, pushFound_target]⟩
  constructor
  · rw [ht, putAx_ax, ha]
  · rw [ht, get_putAx_mqCount, ha, List.length_append, List.length_singleton]
    omega

/-! REVERSE: refused, or asked of the next update (R111). -/

theorem axReverse_refused (h : reverseRefused s n = true) : axReverse s n = (s, true) := if_pos h

@[simp] theorem axAsk_ax (s : State) (n : Nat) (r : Req) : (axAsk s n r).ax n = { s.ax n with reqs := (s.ax n).reqs ++ [r] } := ax_setAx_self ..

theorem get_axTarget_speed (s : State) (n : Nat) (x : Int) : (axTarget s n x).1.get (AX.SPEED n) = s.get (AX.SPEED n) :=
  Within.get within_axTarget (key_AX_SPEED n) (by decide +kernel)

/-- REVERSE carries the staged target, inside the limits, and the staged speed. -/
theorem axReverse_ax (h : reverseRefused s n = false) : (axReverse s n).1.ax n =
    { s.ax n with reqs := (s.ax n).reqs ++ [.reverse (stagedTarget s n) (s.get (AX.SPEED n))] } := by
  have hasked : axReverse s n = let p := axTarget s n (s.getS64 (AX.MQ_TGT_HI n) (AX.MQ_TGT_LO n))
      (axAsk p.1 n (.reverse p.2.1 (p.1.get (AX.SPEED n))), p.2.2) := if_neg (ne_true_of_eq_false h)
  rw [hasked, axAsk_ax, axTarget_ax, get_axTarget_speed]
  rfl

/-! The way of a command of AX_CMD (R93). -/

theorem commandable_axCmd (n : Fin 16) : commandable (pgAX n) 0x048 = true := by
  revert n
  decide +kernel

/-- A command that writes AX_CMD, where the axis hears it, is the command of its value, counted where it was refused or clamped. -/
theorem gives_axCmd {c : Instr} {n : Fin 16} {v : Nat} {P : State → Prop} (hc : exec c s = .next (wordWrite s src (pgAX n) 0x048 v))
    (hv : v < 2 ^ 32) (h : hears s src (pgAX n) 0x048 = true) (hP : P (counted (pgAX n) (axCommand s n v))) : Gives c s P := by
  refine ⟨_, hc, ?_⟩
  rwa [command_form h (commandable_axCmd n), Nat.mod_eq_of_lt hv, command_ax n.isLt]

theorem axCommand_now {v : Nat} (hv : v = 0xA1 ∨ v = 0xA3 ∨ (0xB0 ≤ v ∧ v ≤ 0xB3)) (h : (s.ax n).reqs = []) :
    axCommand s n v = axDo s n v (axStaged s n) := by
  rw [axCommand_do hv, h, List.isEmpty_nil, if_pos rfl]

theorem axCommand_waits {v : Nat} (hv : v = 0xA1 ∨ v = 0xA3 ∨ (0xB0 ≤ v ∧ v ≤ 0xB3)) (h : (s.ax n).reqs ≠ []) :
    axCommand s n v = (axAsk s n (.host v { axStaged s n with age := 1 }), false) := by
  rw [axCommand_do hv, if_neg (by rwa [List.isEmpty_iff])]

theorem axCommand_stop (s : State) (n : Nat) : axCommand s n 0xA2 = (axAsk s n (.stop 1), false) := rfl

@[simp] theorem counted_ax (pg : Nat) (p : Wrote) (n : Nat) : (counted pg p).ax n = p.1.ax n := ax_congr (counted_axes pg p) n

end Sys2Proof.Machine
end

section
/-! PROOFS. The statements of the motion profiles. -/

namespace Sys2Proof.Machine

/-- Settles O32: each command of AX_CMD is the operation of its value, at once where nothing waits for the update. -/
theorem motionCommands : Obligations.MotionCommands := by
  refine ⟨?_, ?_, ?_, ?_, ?_, ?_, ?_, ?_, ?_⟩
  · intro src n s hh hr hp hq
    obtain ⟨hqueue, hcount⟩ := axPush_queued (e := axStaged s n) hp hq
    refine gives_axCmd rfl (by decide) hh ?_
    rw [axCommand_now (.inl rfl) hr, counted_ax, get_counted (by simp only [Reg.key]; omega)]
    exact ⟨hqueue, hcount.trans (congrArg (· + 1) (apply_ite List.length ..))⟩
  · intro src n s hh hr hp hb hq
    refine gives_axCmd rfl (by decide) hh ?_
    have hpush : axDo s n 0xA1 (axStaged s n) = _ := axPush_full hp hb hq
    rw [axCommand_now (.inl rfl) hr, hpush]
    exact ⟨rfl, (get_count_other (by simp only [Reg.key]; omega)).trans (get_count_self s _)⟩
  · intro src n s hh hr hp
    refine gives_axCmd rfl (by decide) hh ?_
    have hpush : axDo s n 0xA1 (axStaged s n) = _ := axPush_refused hp
    rw [axCommand_now (.inl rfl) hr, hpush]
    rfl
  · intro src n s hh
    exact gives_axCmd rfl (by decide) hh (by rw [axCommand_stop]; rfl)
  · intro src n s hh hr
    refine gives_axCmd rfl (by decide) hh ?_
    rw [axCommand_now (.inr (.inl rfl)) hr]
    exact ⟨axFlush_ax s n, on_axFlush_qEmpty s n, get_axFlush_mqFlushCnt s n, get_axFlush_pgDropCnt s n⟩
  · intro n s
    exact ⟨axFlush_ax s n, get_axFlush_mqFlushCnt s n, get_axFlush_pgDropCnt s n⟩
  · intro src n s hh hr
    exact ⟨gives_axCmd rfl (by decide) hh (by rw [axCommand_waits (.inl rfl) hr]; rfl),
      gives_axCmd rfl (by decide) hh (by rw [axCommand_waits (.inr (.inl rfl)) hr]; rfl)⟩
  · intro src n s hh hr
    refine gives_axCmd rfl (by decide) hh ?_
    have hrev : axCommand s n 0xA4 = _ := axCommand_reverse.trans (axReverse_refused hr)
    rw [hrev]
    rfl
  · intro src n s hh hr
    refine gives_axCmd rfl (by decide) hh ?_
    have hrev : axCommand s n 0xA4 = _ := axCommand_reverse
    rw [hrev, counted_ax]
    exact axReverse_ax hr

end Sys2Proof.Machine
end
